-- ==== Sys2Proof/Syntax.lean ====
section
/-! DEFINITION. The commands of the block: what partners send, what happens at pins and lands, and the steps of the
block's own engines, as the rows of spec/opcode_table.json list them. Numbers of parts that are bounded by the
package (channels, lines, slots …) are `Fin`, so that a command naming a part that does not exist cannot be written. -/

namespace Sys2Proof

/-- Where a control message comes from (R304): address, UDP port, IPv6 or IPv4. -/
structure Endpoint where
  addr : Nat
  port : Nat
  ip6 : Bool
  deriving DecidableEq, Repr

/-- The SUBSCRIBE payload (R318). -/
structure Subscription where
  cls : Nat
  dport : Nat
  flush : Nat
  maxdg : Nat
  lease : Nat
  window : Nat
  filter0 : Nat
  filter1 : Nat
  deriving DecidableEq, Repr

/-- A PTP message as the host-facing port decodes it (R268), with its domain and transport coded as `TSY_CTL` codes
them: an Announce with the sender's clockIdentity, priority1 and clockClass, UTC offset and leap flags, its interval (log₂ s), and
whether the profile's best-master rules select the sender among the others; a Sync with the Follow_Up of a two-step master taken
in, received at the timestamp point (R270), times in 2⁻¹⁶ ns; and the result of a path delay exchange, 2⁻¹⁶ ns, by the
timestamps of that point. -/
inductive PtpMessage where
  | announce (gm priority1 clockClass : Nat) (utc : Int) (utcValid leap59 leap61 : Bool) (logInterval : Int) (best : Bool)
  | sync (origin received correction : Int) (logInterval : Int)
  | pathDelay (delay : Int)
  deriving DecidableEq, Repr

/-- The messages forwarded under R269: one-step Sync, two-step Sync, its Follow_Up, Delay_Req, another event message. -/
inductive PtpKind where
  | sync | syncTwoStep | followUp | delayReq | event
  deriving DecidableEq, Repr

/-- What the capability exchange brings of the peer (R283): serial number, MAC address, lane 4 trained, sleep and deep sleep
permitted, residence of its forwarding path in 2⁻¹⁶ ns. -/
structure PeerCaps where
  serial : Nat
  mac : Nat
  lane4 : Bool
  sleep : Bool
  deep : Bool
  residence : Nat
  deriving DecidableEq, Repr

/-- What the capability exchange settles (R283, R302): the peer's capabilities, the fixed residence of the unit's own forwarding
path as calibrated at `CAPS`, 2⁻¹⁶ ns, and the eye margins of the receive lanes as the training left them, 0.001 UI (R303). -/
structure CapsExchange where
  peer : PeerCaps
  residence : Nat
  margins : List Nat
  deriving DecidableEq, Repr

/-- What a port sees of its module (R278): whether the module present pin shows one, and by bit the lanes whose data path is active. -/
structure ModuleReport where
  portB : Bool
  present : Bool
  lanes : Nat
  deriving DecidableEq, Repr

/-- A datagram at a UDP port of the device (R304). -/
structure Datagram where
  port : Nat
  bytes : List Byte
  deriving DecidableEq, Repr

/-- An ACK as it arrives (R325): its source, and the datagram. -/
structure AckArrival where
  src : Endpoint
  message : Datagram
  deriving DecidableEq, Repr

/-- A stop edge on an `EMON` pin set (R147): whether it rises, and the SMP cycle of its capture. -/
structure EmonEdge where
  rising : Bool
  cycle : Nat
  deriving DecidableEq, Repr

/-- The oldest event of a group's queue reaches its engine (R190), and how many words its tiles correct on the way (R201). -/
structure GroupUpdate where
  group : Fin 16
  corrected : Nat
  deriving DecidableEq, Repr

/-- An LP-DRAM channel that fails (R334), and its uncorrectable errors since its last report (R342). -/
structure ChannelLoss where
  chan : Fin 10
  errors : Nat
  deriving DecidableEq, Repr

/-- A lock-up at instant t (R376): a core halts, or an internal bus transaction hangs. -/
structure Lockup where
  bus : Bool
  t : Nat
  deriving DecidableEq, Repr

/-- An expiry of `CPU_WDT` at instant t, and the core it is attributed to (R352). -/
structure WatchdogEnd where
  core : Fin 5
  t : Nat
  deriving DecidableEq, Repr

/-- A retry of R388 of the domains held for the clock of a monitor, and whether the fuse shadow passes its CRC at it (R386). -/
structure Retry where
  mon : Fin 9
  shadow : Bool
  deriving DecidableEq, Repr

/-- The end of a reset at instant t (R390), and whether the fuse shadow passes its CRC (R386). -/
structure ResetEnd where
  shadow : Bool
  t : Nat
  deriving DecidableEq, Repr

/-- To whom a frame is addressed (R280, R290): this unit, a broadcast or multicast address, or another unit. -/
inductive FrameDest where
  | unit | group | other
  deriving DecidableEq, Repr

/-- One modulator sample of a mount channel (R409): the voltages across its sense lands and across its excitation lands, in nV. -/
structure LandSample where
  sense : Int
  lands : Int
  deriving DecidableEq, Repr

/-- An Ethernet frame as the MAC sees it (R280): length with header and FCS, FCS good, a PAUSE or priority-flow-control
frame, an 802.1Q tag, the IPv4 address that a DHCP server grants in it, where it does (R297), its EtherType and the first byte of its
payload (R293, R433), and the FEC codewords that were corrected, or could not be, since the last frame (R303). -/
structure EthFrame where
  bytes : Nat
  fcsOk : Bool
  pause : Bool
  tagged : Bool
  dest : FrameDest
  dhcp : Option Nat
  etherType : Nat
  type : Nat
  corrected : Nat
  uncorrectable : Nat
  deriving DecidableEq, Repr

/-- An entry of a census (R293): address (0 when none), flags, MAC address, serial number. -/
structure CensusEntry where
  addr : Nat
  overflow : Bool
  conflict : Bool
  ringEnd : Bool
  mac : Nat
  serial : Nat
  deriving DecidableEq, Repr

/-- A census or census done frame (R293). -/
structure CensusFrame where
  id : Nat
  next : Nat
  overflow : Bool
  conflict : Bool
  entries : List CensusEntry
  deriving DecidableEq, Repr

/-- A part whose wear indicator has crossed its limit (R349): a tap at a place among the active taps of a line (0 to 8 interpolators,
16 + 68 g + k samplers), a sampler, an interpolator, a logical Carafe tile (the most corrected errors in it in an hour, and whether one word
was corrected twice within 24 h), an LP-DRAM channel (the fewest corrected errors in each of 10 consecutive seconds, and those of the last),
a lane of a direction (its eye margin, 0.001 UI, at most this for the given ns), a phase of a rail, a diode by trim entry. -/
inductive WornPart where
  | tap (line pos : Nat)
  | sampler (group k : Nat)
  | interpolator (n : Nat)
  | tile (engine tile hourly : Nat) (twice : Bool)
  | dram (chan least last : Nat)
  | lane (portB tx : Bool) (lane margin ns : Nat)
  | phase (rail : Nat)
  | diode (emitter : Nat)
  deriving DecidableEq, Repr

/-- How the programming of a copy's row ends (R394): it verifies, it does not, or a reset or LOSS stops it. -/
inductive FuseEnd where
  | verified | failed | stopped
  deriving DecidableEq, Repr

/-- A chain trigger frame (R433): TYPE, TIMED, ORIGIN, SEQ, TAI in ns, CORR in 1/16 ns. -/
structure ChainTrigger where
  type : Nat
  timed : Bool
  origin : Nat
  seq : Nat
  tai : Nat
  corr : Nat
  deriving DecidableEq, Repr

/-- The commands of the block: one constructor for each row of spec/opcode_table.json. An instant `t` is in ns since power-on. -/
inductive Instr where
  /-- FRAME_BOUNDARY (R88): the frame pulse falls in a state with frames. -/
  | frameBoundary (t : Nat)
  /-- FRAME_PULSE (R107): the steering engine produces a frame pulse. -/
  | framePulse (t : Nat)
  /-- BARISTA_SLOT (R92): the slot that begins at instant t. -/
  | baristaSlot (t : Nat)
  /-- P0_SLACK_EXPIRY (R93): of the ready P0 group at a position of its step. -/
  | p0SlackExpiry (pass step pos t : Nat)
  /-- POLY_ENCODER_EDGE (R102). -/
  | polyEncoderEdge (t : Nat)
  /-- INDEX_MARK (R104). -/
  | indexMark (t : Nat)
  /-- POLYGON_LOOP_SAMPLE (R109). -/
  | polygonLoopSample (t : Nat)
  /-- GALVO_LOOP_SAMPLE (R113): the raw feedback read. -/
  | galvoLoopSample (t : Nat) (raw : Int)
  /-- FSYNC_EDGE (R106). -/
  | fsyncEdge (t : Nat)
  /-- FSYNC_HOLDOVER (R106): the third expected edge in a row is missing. -/
  | fsyncHoldover (t : Nat)
  /-- INTERLOCK_TRIP (R117): by cause 1 to 5 of R116, given less 1. -/
  | interlockTrip (cause : Fin 5) (t : Nat)
  /-- GALVO_STALL_EXPIRY (R116). -/
  | galvoStallExpiry (t : Nat)
  /-- SPINUP_TIMEOUT (R118). -/
  | spinupTimeout (t : Nat)
  /-- TRANSITION_TIMEOUT (R119). -/
  | transitionTimeout (t : Nat)
  /-- STEERING_TEST_COMPLETE (R120). -/
  | steeringTestComplete (t : Nat)
  /-- STEERING_RECORD_CLOSE (R121). -/
  | steeringRecordClose (t : Nat)
  /-- CHAIN_LOAD_START (R132). -/
  | chainLoadStart (chain : Fin 4) (t : Nat)
  /-- CHAIN_OFF_TIME_EXPIRY (R135). -/
  | chainOffTimeExpiry (chain : Fin 4) (t : Nat)
  /-- CHAIN_ZERO_LOAD_LATCHED (R135). -/
  | chainZeroLoadLatched (chain : Fin 4) (t : Nat)
  /-- CHAIN_STOP_REQUEST (R135). -/
  | chainStopRequest (chain : Fin 4) (t : Nat)
  /-- DIODE_SWITCH_LATCH (R134). -/
  | diodeSwitchLatch (line : Fin 128) (t : Nat)
  /-- FIRE_PULSE (R138): pulse k of the train that runs on a line; the level of its bank's `EGATE` at the start edge (R148)
  and that edge as the start stage captures it, SMP cycle and fine code (R151). -/
  | firePulse (line : Fin 128) (k : Nat) (egate : Bool) (cycle code : Nat)
  /-- EMON_STOP (R149): a stop edge on a pin set, and its fine code. -/
  | emonStop (bank : Fin 9) (edge : EmonEdge) (code : Nat)
  /-- PULSE_SETTLE (R149): the window of the oldest start of a bank closes. -/
  | pulseSettle (bank : Fin 8) (t : Nat)
  /-- INTERPOLATOR_REFRESH_COMPLETE (R153): hits per active tap. -/
  | interpolatorRefreshComplete (etd : Fin 9) (hits : List Nat) (t : Nat)
  /-- INTERPOLATOR_FAILURE (R156): the DLL loses lock. -/
  | interpolatorFailure (etd : Fin 9) (t : Nat)
  /-- CONVERSION_TIMEOUT (R156). -/
  | conversionTimeout (etd : Fin 9) (t : Nat)
  /-- SUBSTITUTION_APPLY (R157): the change that an interpolator waits for. -/
  | substitutionApply (etd : Fin 9) (t : Nat)
  /-- DLL_LOCK (R152). -/
  | dllLock (etd : Fin 9) (t : Nat)
  /-- REFERENCE_LOOP_FIRE (R158): `EGATE[8]`, the start edge and the stop edge, if one came. -/
  | referenceLoopFire (egate : Bool) (cycle code : Nat) (stop : Option (Bool × Nat × Nat))
  /-- RETURN_PULSE (R166): leading and trailing edge as the sampler captures them, SMP cycle and fine code. -/
  | returnPulse (ch : Fin 1024) (leadCycle leadCode trailCycle trailCode : Nat)
  /-- CHANNEL_STUCK (R166). -/
  | channelStuck (ch : Fin 1024) (t : Nat)
  /-- CHANNEL_UNSTUCK (R166). -/
  | channelUnstuck (ch : Fin 1024) (t : Nat)
  /-- SAMPLER_REFRESH_COMPLETE (R169): hits per active tap. -/
  | samplerRefreshComplete (group : Fin 16) (sampler : Fin 68) (hits : List Nat) (t : Nat)
  /-- SAMPLER_TAP_MAP_APPLY (R171). -/
  | samplerTapMapApply (group : Fin 16) (sampler : Fin 68) (t : Nat)
  /-- SAMPLER_FAILURE (R172). -/
  | samplerFailure (group : Fin 16) (sampler : Fin 68) (t : Nat)
  /-- SAMPLER_SUBSTITUTION (R173): for the channel that lost its sampler. -/
  | samplerSubstitution (ch : Fin 1024) (t : Nat)
  /-- I2C_TRANSACTION_COMPLETE (R180): RESULT, bytes transferred, bytes read. -/
  | i2cTransactionComplete (bus : Fin 4) (result done : Nat) (data : List Byte) (t : Nat)
  /-- I2C_STRETCH_TIMEOUT (R180): bytes transferred so far. -/
  | i2cStretchTimeout (bus : Fin 4) (done : Nat) (t : Nat)
  /-- I2C_APPLY (R181): bit n of `acked`: bus n acknowledged. -/
  | i2cApply (acked : Nat) (t : Nat)
  /-- TRAIN_DESCRIPTOR (R189): what SHT and ETD know of a line's train reaches its engine. -/
  | trainDescriptor (frame train : Nat) (line : Fin 128)
  /-- HISTOGRAM_UPDATE (R190): the oldest event of a group's queue. -/
  | histogramUpdate (update : GroupUpdate) (t : Nat)
  /-- CANDIDATE_SEARCH (R195). -/
  | candidateSearch (slot : Fin 4096) (t : Nat)
  /-- MEASUREMENT_CLOSE (R187). -/
  | measurementClose (slot : Fin 4096) (t : Nat)
  /-- SLOT_CLEARED (R187). -/
  | slotCleared (slot : Fin 4096) (t : Nat)
  /-- TILE_REMAP (R202): of a logical tile. -/
  | tileRemap (engine : Fin 8) (tile : Fin 8) (t : Nat)
  /-- CARAFE_UNCORRECTABLE (R203): at a slot, in its tile or in its zoom share. -/
  | carafeUncorrectable (slot : Fin 4096) (zoom : Bool) (t : Nat)
  /-- EXTRACT (R207): a line's eight closed measurements. -/
  | extract (line : Fin 128) (t : Nat)
  /-- FRAME_HEADER_COMMIT (R228). -/
  | frameHeaderCommit (t : Nat)
  /-- STATS_COMMIT (R231). -/
  | statsCommit (t : Nat)
  /-- MOUNT_STALE (R220). -/
  | mountStale (t : Nat)
  /-- P0_DESCRIPTOR (R239): the oldest descriptor from Crema reaches channel A. -/
  | p0Descriptor (t : Nat)
  /-- CHANNEL_B_RAY_RESULT (R240): of a ray of a train. -/
  | channelBRayResult (frame train pass step pos : Nat) (slot off : Fin 8) (t : Nat)
  /-- EVALUATION_INSTANT (R244): of the oldest frame that has ended. -/
  | evaluationInstant (t : Nat)
  /-- DISCREPANCY_EXPIRY (R248). -/
  | discrepancyExpiry (t : Nat)
  /-- OSSD_OFF_PULSE (R246): on channel A's or B's output. -/
  | ossdOffPulse (channelB : Bool) (t : Nat)
  /-- OSSD_READBACK_FAULT (R247): with what both feedback inputs read. -/
  | ossdReadbackFault (fbA fbB : Bool) (t : Nat)
  /-- CLOCK_CROSS_CHECK (R242): deviation of SAFB from REF over the window, 0.01 %. -/
  | clockCrossCheck (dev : Int) (t : Nat)
  /-- CHANNEL_B_GAP_TEST (R242): self-test and configuration CRC. -/
  | channelBGapTest (pass crc : Bool) (t : Nat)
  /-- LOCKOUT_ENTRY (R69): cause 0x50, 0x51 or 0x52, given less 0x50. -/
  | lockoutEntry (cause : Fin 3) (t : Nat)
  /-- LOCKOUT_RECORD_WRITTEN (R69). -/
  | lockoutRecordWritten (t : Nat)
  /-- LOCKOUT_SELF_TEST (R254): each channel's self-test, B's CRC, and whether both feedback inputs have read off for 1 s. -/
  | lockoutSelfTest (passA passB crc fbOff : Bool) (t : Nat)
  /-- CLEAR_WINDOW_CLOSE (R255). -/
  | clearWindowClose (t : Nat)
  /-- RESTART_PULSE (R252): the instant it ends and its width in µs as A and B measure it. -/
  | restartPulse (t usA usB : Nat)
  /-- PTP_MESSAGE (R262): a message that arrives on a port, with its domain and transport. -/
  | ptpMessage (portB : Bool) (domain transport : Nat) (msg : PtpMessage) (t : Nat)
  /-- PTP_FORWARD (R269): sequence number, correctionField, both timestamps as the PCS takes them and upstream link delay in 2⁻¹⁶ ns,
  rate ratio as an offset in 2⁻⁴¹. -/
  | ptpForward (fromB : Bool) (kind : PtpKind) (seq : Nat) (correction ingress egress linkDelay ratio : Int) (t : Nat)
  /-- PPS_EDGE (R262). -/
  | ppsEdge (t : Nat)
  /-- TIME_SOURCE_LOST (R263): PTP, PPS or REF10M, given as SRC less 1. -/
  | timeSourceLost (src : Fin 3) (t : Nat)
  /-- AGEING_WRITE (R260). -/
  | ageingWrite (t : Nat)
  /-- TSY_FRAME_PULSE (R272). -/
  | tsyFramePulse (t : Nat)
  /-- CLOCK_MONITOR_WINDOW (R275): deviation of the count in ppm, PLL lock held throughout, an edge seen. -/
  | clockMonitorWindow (mon : Fin 9) (ppm : Int) (lock edge : Bool) (t : Nat)
  /-- REF10M_WINDOW (R262): deviation of REF from REF10M in 0.01 ppb, a cycle missing in 1 ms. -/
  | ref10mWindow (dev : Int) (missing : Bool) (t : Nat)
  /-- MODULE_READY (R278): what CMIS reports of the module of a port. -/
  | moduleReady (report : ModuleReport) (t : Nat)
  /-- LINK_STAGE_COMPLETE (R283): the stage the port is in; whether lane 4 has trained, and what the exchange at `CAPS` settles. -/
  | linkStageComplete (portB lane4 : Bool) (caps : CapsExchange) (t : Nat)
  /-- LINK_STAGE_TIMEOUT (R284). -/
  | linkStageTimeout (portB : Bool) (t : Nat)
  /-- LINK_DOWN (R284). -/
  | linkDown (portB : Bool) (t : Nat)
  /-- STANDARD_LOCK (R282): with the precoding the module asks for, by lane (R281). -/
  | standardLock (portB : Bool) (txPre rxPre : Nat) (t : Nat)
  /-- CAPABILITY_FRAME (R282): on a standard link. -/
  | capabilityFrame (portB : Bool) (t : Nat)
  /-- LANE_SWAP (R285): of a lane, in the transmit or receive direction of a port. -/
  | laneSwap (portB tx : Bool) (lane : Fin 4) (t : Nat)
  /-- LANE_FAILURE (R286). -/
  | laneFailure (portB tx : Bool) (lane : Fin 4) (t : Nat)
  /-- SLEEP (R288): of the transmit direction, or the peer's sleep block. -/
  | sleep (portB tx : Bool) (t : Nat)
  /-- WAKE (R289): of the transmit direction, or the peer's wake sequence. -/
  | wake (portB tx : Bool) (t : Nat)
  /-- FRAME_RECEIVE (R290). -/
  | frameReceive (portB : Bool) (frame : EthFrame) (t : Nat)
  /-- CENSUS (R294): with REVERSE at 0. -/
  | census (portB : Bool) (frame : CensusFrame) (t : Nat)
  /-- CENSUS_HOLD_EXPIRY (R294). -/
  | censusHoldExpiry (t : Nat)
  /-- CENSUS_DONE (R294): a census done frame passes. -/
  | censusDone (portB : Bool) (frame : CensusFrame) (t : Nat)
  /-- REVERSE_CENSUS (R298). -/
  | reverseCensus (portB : Bool) (frame : CensusFrame) (t : Nat)
  /-- LINK_NOTICE (R295): for the change of a port. -/
  | linkNotice (portB : Bool) (t : Nat)
  /-- RING_FAILOVER (R299). -/
  | ringFailover (t : Nat)
  /-- REFRESH_BURST (R288): of a port's transmit direction. -/
  | refreshBurst (portB : Bool) (t : Nat)
  /-- READ (R312): COUNT words from ADDR, on session `sess`. -/
  | read (sess addr count : Nat)
  /-- WRITE (R312): the words to write at ADDR and upwards. -/
  | write (sess addr : Nat) (words : List Word)
  /-- SUBSCRIBE (R318). -/
  | subscribe (sess : Nat) (sub : Subscription)
  /-- UNSUBSCRIBE (R312). -/
  | unsubscribe (sess queue : Nat)
  /-- QUERY (R315): the command asked for, by session, generation and sequence number. -/
  | query (sess ofSess ofGen ofSeq : Nat)
  /-- NOP (R312). -/
  | nop (sess : Nat)
  /-- CLOSE (R310). -/
  | closeSession (sess : Nat)
  /-- IMAGE_WRITE (R312): TARGET, LAST, OFFSET and the data. -/
  | imageWrite (sess target : Nat) (last : Bool) (offset : Nat) (data : List Byte)
  /-- SLOT_SELECT (R312). -/
  | slotSelect (sess slot : Nat)
  /-- FUSE_PROGRAM (R394): ROW, its 60 data bytes, and how the programming of copy A and of copy B would end. -/
  | fuseProgram (sess row : Nat) (data : List Byte) (endA endB : FuseEnd)
  /-- KEY_SLOT_WRITE (R392). -/
  | keySlotWrite (sess slot roles : Nat) (key : List Byte)
  /-- PROVISIONING_REQUEST (R391): the serial number. -/
  | provisioningRequest (sess serial : Nat)
  /-- PROVISIONING_RESET (R391): the instant. -/
  | provisioningReset (t : Nat)
  /-- OPEN (R308): source, N_P, lease in ms, key slot; N_U is the device's own. -/
  | openSession (src : Endpoint) (nonce : List Byte) (lease slot : Nat)
  /-- AUTH_CONFIRM_TIMEOUT (R309). -/
  | authConfirmTimeout (sess t : Nat)
  /-- CONTROL_MESSAGE_RECEIVE (R307): a datagram at a UDP port of the device. -/
  | controlMessageReceive (t : Nat) (src : Endpoint) (datagram : Datagram)
  /-- SESSION_LEASE_EXPIRY (R310). -/
  | sessionLeaseExpiry (sess t : Nat)
  /-- COMMIT_APPLY (R41): the armed commit applies where no frames run (R40). -/
  | commitApply (t : Nat)
  /-- SOFT_RESET_COMPLETE (R43): of a page. -/
  | softResetComplete (page : Fin 28) (t : Nat)
  /-- SAFE_ENTRY (R64): a cause of doubt of R62 is latched. -/
  | safeEntry (cause t : Nat)
  /-- DATAGRAM_SEND (R324): of a queue. -/
  | datagramSend (queue : Fin 16384) (t : Nat)
  /-- RETRANSMISSION_TIMEOUT (R328): of the oldest datagram of a queue that is due. -/
  | retransmissionTimeout (queue : Fin 16384) (t : Nat)
  /-- ACK (R326): the message as received (R325). -/
  | ack (arrival : AckArrival) (t : Nat)
  /-- QUEUE_LEASE_EXPIRY (R329). -/
  | queueLeaseExpiry (queue : Fin 16384) (t : Nat)
  /-- RETENTION_EXPIRY (R330): in the region of class `cls` + 1. -/
  | retentionExpiry (cls : Fin 8) (t : Nat)
  /-- LEDGER_NOR_COPY (R53): the oldest n uncopied entries are copied. -/
  | ledgerNorCopy (n t : Nat)
  /-- LEDGER_BANK_FAILURE (R317). -/
  | ledgerBankFailure (bankB : Bool) (t : Nat)
  /-- DRAM_CHANNEL_FAILURE (R334). -/
  | dramChannelFailure (loss : ChannelLoss) (t : Nat)
  /-- DRAM_REBUILD_COMPLETE (R334). -/
  | dramRebuildComplete (t : Nat)
  /-- RANGE_CALIBRATION_END (R346). -/
  | rangeCalibrationEnd (t : Nat)
  /-- DIODE_FAILURE (R351): of the diode in service on a line. -/
  | diodeFailure (line : Fin 128) (t : Nat)
  /-- CORE_FAILURE (R352). -/
  | coreFailure (core : Fin 5) (t : Nat)
  /-- PLANNED_SUBSTITUTION (R349). -/
  | plannedSubstitution (part : WornPart) (t : Nat)
  /-- RETIREMENT_RECORD_WRITE (R354). -/
  | retirementRecordWrite (t : Nat)
  /-- FENCE_VIOLATION (R72): a firmware write across a fence of R79, by a core, to an address. -/
  | fenceViolation (fence : Fin 7) (core : Fin 5) (addr t : Nat)
  /-- WATCHDOG_WARNING (R79). -/
  | watchdogWarning (t : Nat)
  /-- INPUT_SAMPLE (R357): input in mV, its current in 10 mA, `VHU` in mV. -/
  | inputSample (mv iin vhu t : Nat)
  /-- INPUT_START_THRESHOLD (R357). -/
  | inputStartThreshold (t : Nat)
  /-- NORMAL_DWELL_EXPIRY (R357). -/
  | normalDwellExpiry (t : Nat)
  /-- WARN_RECOVERY_EXPIRY (R357). -/
  | warnRecoveryExpiry (t : Nat)
  /-- INPUT_IN_RANGE_EXPIRY (R357). -/
  | inputInRangeExpiry (t : Nat)
  /-- LOSS_ENTRY (R362). -/
  | lossEntry (t : Nat)
  /-- LOSS_EXIT (R363). -/
  | lossExit (t : Nat)
  /-- HOLDUP_END (R362). -/
  | holdupEnd (t : Nat)
  /-- ACK_RESUME (R363). -/
  | ackResume (t : Nat)
  /-- HOLDUP_CHECK (R361): the usable energy measured, mJ. -/
  | holdupCheck (energy t : Nat)
  /-- POWER_CAP_UPDATE (R364): input power over the last 100 µs, mW. -/
  | powerCapUpdate (pin t : Nat)
  /-- DOMAIN_STARTED (R365). -/
  | domainStarted (dom : Fin 36) (t : Nat)
  /-- DOMAIN_STOPPED (R367). -/
  | domainStopped (dom : Fin 36) (t : Nat)
  /-- DOMAIN_OFF_TIME_EXPIRY (R367). -/
  | domainOffTimeExpiry (dom : Fin 36) (t : Nat)
  /-- DOMAIN_RELEASE (R388): with whether each copy of the retirement record passes its CRC (R354). -/
  | domainRelease (dom : Fin 36) (copyA copyB : Bool) (t : Nat)
  /-- RELEASE_CLOCK_TIMEOUT (R388). -/
  | releaseClockTimeout (dom : Fin 36) (t : Nat)
  /-- RELEASE_RETRY (R388). -/
  | releaseRetry (retry : Retry) (t : Nat)
  /-- PHASE_FAILURE (R369): of a rail of R368. -/
  | phaseFailure (rail : Fin 8) (t : Nat)
  /-- SPARE_PHASE_IN_SERVICE (R369). -/
  | sparePhaseInService (rail : Fin 5) (t : Nat)
  /-- THERMAL_SAMPLE (R371): T_i of the twelve sensors, 0.1 °C. -/
  | thermalSample (reads : List Int) (t : Nat)
  /-- POWER_ON (R376). -/
  | powerOn (t : Nat)
  /-- BROWN_OUT (R359). -/
  | brownOut (t : Nat)
  /-- NRST_ASSERT (R383). -/
  | nrstAssert (t : Nat)
  /-- NRST_RELEASE (R383). -/
  | nrstRelease (t : Nat)
  /-- NRST_STUCK (R383). -/
  | nrstStuck (t : Nat)
  /-- WATCHDOG_EXPIRY (R376). -/
  | watchdogExpiry (wdt : WatchdogEnd)
  /-- DEBUG_RESET (R376): and whether boundary-scan control takes effect in it (R444). -/
  | debugReset (scan : Bool) (t : Nat)
  /-- CLOCK_FAILURE_RESET (R377): a monitor meets a failure condition of R275. -/
  | clockFailureReset (mon : Fin 9) (t : Nat)
  /-- LOCKUP_RESET (R376). -/
  | lockupReset (lockup : Lockup)
  /-- RESET_ENTRY (R378). -/
  | resetEntry (t : Nat)
  /-- RESET_RELEASE (R390). -/
  | resetRelease (ending : ResetEnd)
  /-- FUSE_LOAD_COMPLETE (R385). -/
  | fuseLoadComplete (t : Nat)
  /-- SAFETY_IMAGE_REVERIFY (R379): whether each channel's retained image passes. -/
  | safetyImageReverify (passA passB : Bool) (t : Nat)
  /-- SELF_TEST_COMPLETE (R389). -/
  | selfTestComplete (pass : Bool) (t : Nat)
  /-- IMAGE_VERIFY (R75): whether the header of each slot is well formed, in a format that the spec does not give. -/
  | imageVerify (formed0 formed1 : Bool) (t : Nat)
  /-- BOOT_COMPLETE (R390). -/
  | bootComplete (t : Nat)
  /-- HKA_TRIGGER (R400): by SWTRIG as the device's own firmware sets it, or at the start of a facet transition gap. -/
  | hkaTrigger (software : Bool) (t : Nat)
  /-- HKA_TIMER_EXPIRY (R400). -/
  | hkaTimerExpiry (t : Nat)
  /-- HKA_TRG_EDGE (R400). -/
  | hkaTrgEdge (rising : Bool) (t : Nat)
  /-- HKA_CONVERSION (R404): the raw code of the next entry, or of the galvo entry of R402, and the instant its result stands. -/
  | hkaConversion (galvo : Bool) (raw t : Nat)
  /-- HKA_RECORD_CLOSE (R405). -/
  | hkaRecordClose (t : Nat)
  /-- HKA_CALIBRATION_COMPLETE (R407): OFS and GAINF for each gain as measured. -/
  | hkaCalibrationComplete (factors : List (Int × Nat)) (t : Nat)
  /-- DFL_OUTPUT_SET (R412): the modulator samples of X0 to X11 since the last set, oldest first, channels (by bit) whose comparator tripped
  in the period, and the instant of X0's computation. -/
  | dflOutputSet (raws : List (List LandSample)) (tripped t : Nat)
  /-- OVER_RANGE (R418). -/
  | overRange (ch : Fin 12) (t : Nat)
  /-- EXCITATION_OPEN (R418). -/
  | excitationOpen (ch : Fin 12) (t : Nat)
  /-- IMPEDANCE_CHECK (R417): magnitude in 0.1 Ω and phase in 0.1°. -/
  | impedanceCheck (ch : Fin 12) (mag : Nat) (phase : Int) (t : Nat)
  /-- SYSTEM_CALIBRATION_END (R422). -/
  | systemCalibrationEnd (t : Nat)
  /-- READOUT_COMPLETE (R435). -/
  | readoutComplete (t : Nat)
  /-- RECORDER_ENTRY (R427): the oldest record that waits; `excess`: it would exceed the rate of R428. -/
  | recorderEntry (excess : Bool) (t : Nat)
  /-- SEQUENCER_TRANSITION (R432): in an FAB cycle, on level inputs. -/
  | sequencerTransition (t : Nat)
  /-- SEQUENCER_TIMER_EXPIRY (R432). -/
  | sequencerTimerExpiry (timer : Fin 4) (t : Nat)
  /-- TRIG_IO_EDGE (R432). -/
  | trigIoEdge (rising : Bool) (t : Nat)
  /-- POST_COMPLETE (R429). -/
  | postComplete (t : Nat)
  /-- CHAIN_TRIGGER_ACCEPT (R434): a frame that arrives on a port, incoming link delay and own residence in 1/16 ns. -/
  | chainTriggerAccept (portB : Bool) (trigger : ChainTrigger) (linkDelay residence : Nat) (t : Nat)
  deriving DecidableEq, Repr

end Sys2Proof
end

