-- ==== Sys2Proof/Machine/Float32.lean ====
section
/-! DEFINITION. IEEE 754 binary32 as R421 uses it: values as rationals, each operation exact and then rounded to nearest, ties to
even. The sign of a zero is of no effect here and is not kept. -/

namespace Sys2Proof.Machine

/-- A binary32 value. -/
inductive Flt where
  | fin (q : Rat)
  | inf (neg : Bool)
  | nan
  deriving DecidableEq, Repr

/-- 2 to an integer power. -/
def twoTo (e : Int) : Rat := if 0 ≤ e then ((2 ^ e.toNat : Nat) : Rat) else 1 / ((2 ^ (-e).toNat : Nat) : Rat)

/-- The nearest integer, ties to even. -/
def roundEven (q : Rat) : Int :=
  let f := q.floor
  let d := q - (f : Rat)
  if d < 1 / 2 then f else if 1 / 2 < d then f + 1 else if f % 2 = 0 then f else f + 1

/-- The exponent e with 2^e ≤ q < 2^(e+1), for a positive q. -/
def expOf (q : Rat) : Int :=
  let g : Int := (Nat.log2 q.num.natAbs : Int) - (Nat.log2 q.den : Int)
  if twoTo (g + 1) ≤ q then g + 1 else if twoTo g ≤ q then g else g - 1

/-- A rational rounded to binary32. -/
def Flt.ofRat (q : Rat) : Flt :=
  if q = 0 then .fin 0
  else
    let a := if q < 0 then -q else q
    let ulp := twoTo (max (expOf a) (-126) - 23)
    let v := (roundEven (a / ulp) : Rat) * ulp
    if twoTo 128 ≤ v then .inf (q < 0) else .fin (if q < 0 then -v else v)

/-- The value a binary32 word spells. -/
def Flt.ofBits (w : Nat) : Flt :=
  let neg := w / 2 ^ 31 % 2 = 1
  let e : Nat := w / 2 ^ 23 % 256
  let f : Nat := w % 2 ^ 23
  if e = 255 then (if f = 0 then .inf neg else .nan)
  else
    let v : Rat := if e = 0 then (f : Rat) * twoTo (-149) else ((f + 2 ^ 23 : Nat) : Rat) * twoTo ((e : Int) - 150)
    .fin (if neg then -v else v)

def Flt.neg? : Flt → Option Bool
  | .fin q => if q = 0 then none else some (decide (q < 0))
  | .inf n => some n
  | .nan => none

def Flt.mul : Flt → Flt → Flt
  | .fin a, .fin b => Flt.ofRat (a * b)
  | .nan, _ => .nan
  | _, .nan => .nan
  | x, y => match x.neg?, y.neg? with
    | some m, some n => .inf (m != n)
    | _, _ => .nan

def Flt.add : Flt → Flt → Flt
  | .fin a, .fin b => Flt.ofRat (a + b)
  | .nan, _ => .nan
  | _, .nan => .nan
  | .inf m, .inf n => if m = n then .inf m else .nan
  | .inf m, _ => .inf m
  | _, .inf n => .inf n

/-- Round half to even into an int32: value and whether it saturated; none for a NaN. -/
def Flt.toInt32 : Flt → Option (Int × Bool)
  | .nan => none
  | .inf n => some (if n then -(2 ^ 31) else 2 ^ 31 - 1, true)
  | .fin q =>
    let v := roundEven q
    let c := clampInt (-(2 ^ 31)) (2 ^ 31 - 1) v
    some (c, decide (c ≠ v))

end Sys2Proof.Machine
end

