-- ==== Sys2Proof/Config.lean ====
section
/-! DEFINITION. What the spec leaves open, as constants without a body: nothing can be proved of their values.
Values the spec states for every module are not here; they stand where they are used. -/

namespace Sys2Proof.Config

/-- The n-th value the spec leaves open (log entry 7): `State.free` counts the values taken so far. -/
opaque freeValue : Nat → BitVec 64

/-- Whether an ECDSA P-256 signature (second string) over a byte string verifies under the public key with the
given SHA-256 hash (R74, R76, R234). The fuses hold hashes, not keys, so the keys are outside the spec (log entry 8). -/
opaque ecdsaVerifies : (keyHash message signature : List Byte) → Bool

/-- Error, in hundredths of a millidegree or of a millimetre, of the k-th angle or coordinate that R213 and R221 allow
within a bound (log entry 26): taken modulo the bound where it is used. -/
opaque boundedError : Nat → Int

/-- What boot ROM reads in the header of a NOR image slot (R74): version, rollback index, index of the signing key, length and SHA-256 digest of
the body, the signature; and how many bytes from the slot's first the signature covers ahead of the body, and where the body begins. -/
structure ImageHeader where
  version : Nat
  rollback : Nat
  key : Nat
  length : Nat
  digest : List Byte
  signature : List Byte
  covered : Nat
  body : Nat
  deriving DecidableEq, Repr, Inhabited

/-- The header that the bytes of a slot hold: the spec names its content and gives it no layout (log entry 15). -/
opaque imageHeader : (slot : Nat → Byte) → ImageHeader

/-- Fuse content that no row of R384 lists: factory values of registers with Reset "F" (log entry 2). -/
opaque factoryValue : (register index : Nat) → BitVec 32

/-- The hash of image public key k that Kyogivin fuses in rows 2 to 5 (R74, R384; log entry 2); all zeros for a key it leaves out. -/
opaque imageKeyHash : (k : Nat) → List Byte

/-- The byte at an address of a NOR image slot as Kyogivin delivers it (R74; log entry 2). -/
opaque factoryImage : (slot address : Nat) → Byte

/-- Where the region of a journal class (1 to 8), or the buffer of the event recorder (9), begins in the striped bytes of LP-DRAM (R333): the
spec gives no layout (log entry 14). -/
opaque stripedBase : (area : Nat) → Nat

/-- The factory width of tap `tap` of delay line `line`, in 1/256 LSB (R152; log entry 2). -/
opaque tapWidth : (line tap : Nat) → Nat

/-- The initial key Kyogivin writes to key slot 15 (R393): 32 bytes unique to the module. -/
opaque initialKey : List Byte

/-- Coefficient k of the factory set of a preset, in 2⁻³⁰ (R411; log entry 2): 384 taps. -/
opaque factoryTap : (preset k : Nat) → Int

/-- Sign of the n-th sample of the pseudo-random binary sequence of an order (R120; log entry 33): the spec names no polynomial. -/
opaque prbs : (order n : Nat) → Bool

/-- A chirp of an amplitude at a phase, in 2³² per turn (R120; log entry 33): the spec names no waveform and no rounding. -/
opaque chirpWave : (amp phase : Nat) → Int

/-- The 128-bit code key K of the unit (R141): fused, readable by no path (log entry 2). 16 bytes. -/
opaque codeKey : List Byte

end Sys2Proof.Config
end

