-- ==== Sys2Proof/Machine/Crypto.lean ====
section
/-! DEFINITION. The published functions the spec names by their standards: CRC-32 (R384), SHA-256 (R74, R313),
HMAC-SHA-256 (R77, R309) and AES-128 (R141). They are written out so that nothing about them is assumed. -/

namespace Sys2Proof.Machine

/-- `n` bits of the reflected IEEE 802.3 CRC-32 register. -/
def crcBits : Nat → BitVec 32 → BitVec 32
  | 0, c => c
  | n + 1, c => crcBits n (if c.getLsbD 0 then (c >>> 1) ^^^ 0xEDB88320#32 else c >>> 1)

/-- CRC-32 of a byte string with the IEEE 802.3 polynomial (R384). -/
def crc32 (bs : List Byte) : Nat :=
  (~~~ (bs.foldl (fun c b => crcBits 8 (c ^^^ b.setWidth 32)) 0xFFFFFFFF#32)).toNat

/-- The round constants, eight to a numeral, the first in the highest bits: the first 32 bits of the fractional parts of the cube
roots of the first 64 primes. -/
def shaTable : List Nat :=
  [0x428a2f9871374491b5c0fbcfe9b5dba53956c25b59f111f1923f82a4ab1c5ed5,
   0xd807aa9812835b01243185be550c7dc372be5d7480deb1fe9bdc06a7c19bf174,
   0xe49b69c1efbe47860fc19dc6240ca1cc2de92c6f4a7484aa5cb0a9dc76f988da,
   0x983e5152a831c66db00327c8bf597fc7c6e00bf3d5a7914706ca635114292967,
   0x27b70a852e1b21384d2c6dfc53380d13650a7354766a0abb81c2c92e92722c85,
   0xa2bfe8a1a81a664bc24b8b70c76c51a3d192e819d6990624f40e3585106aa070,
   0x19a4c1161e376c082748774c34b0bcb5391c0cb34ed8aa4a5b9cca4f682e6ff3,
   0x748f82ee78a5636f84c878148cc7020890befffaa4506cebbef9a3f7c67178f2]

/-- Eight words of a numeral. -/
def wordsOf (n : Nat) : List (BitVec 32) := (List.range 8).map (fun i => BitVec.ofNat 32 (n / 2 ^ (32 * (7 - i))))

def shaK : List (BitVec 32) := (shaTable.map wordsOf).flatten

/-- The message schedule: the last 16 words, newest first, extended `n` times; words come out oldest first. -/
def shaSchedule : Nat → List (BitVec 32) → List (BitVec 32)
  | 0, ws => ws.reverse
  | n + 1, ws =>
    let w15 := ws.getD 14 0
    let w2 := ws.getD 1 0
    let s0 := w15.rotateRight 7 ^^^ w15.rotateRight 18 ^^^ (w15 >>> 3)
    let s1 := w2.rotateRight 17 ^^^ w2.rotateRight 19 ^^^ (w2 >>> 10)
    shaSchedule n ((ws.getD 15 0 + s0 + ws.getD 6 0 + s1) :: ws)

/-- The eight working words of SHA-256. -/
structure ShaRegs where
  a : BitVec 32
  b : BitVec 32
  c : BitVec 32
  d : BitVec 32
  e : BitVec 32
  f : BitVec 32
  g : BitVec 32
  h : BitVec 32
  deriving DecidableEq, Repr

def shaRound (r : ShaRegs) (kw : BitVec 32) : ShaRegs :=
  let t1 := r.h + (r.e.rotateRight 6 ^^^ r.e.rotateRight 11 ^^^ r.e.rotateRight 25) +
    ((r.e &&& r.f) ^^^ (~~~ r.e &&& r.g)) + kw
  let t2 := (r.a.rotateRight 2 ^^^ r.a.rotateRight 13 ^^^ r.a.rotateRight 22) +
    ((r.a &&& r.b) ^^^ (r.a &&& r.c) ^^^ (r.b &&& r.c))
  ⟨t1 + t2, r.a, r.b, r.c, r.d + t1, r.e, r.f, r.g⟩

/-- Big-endian 32-bit words of a byte string (a short last word is dropped). -/
def beWords : List Byte → List (BitVec 32)
  | b0 :: b1 :: b2 :: b3 :: t => (b0 ++ b1 ++ b2 ++ b3 : BitVec 32) :: beWords t
  | _ => []

def shaBlock (r : ShaRegs) (block : List (BitVec 32)) : ShaRegs :=
  let ws := shaSchedule 48 block.reverse
  let x := (List.zipWith (· + ·) shaK ws).foldl shaRound r
  ⟨r.a + x.a, r.b + x.b, r.c + x.c, r.d + x.d, r.e + x.e, r.f + x.f, r.g + x.g, r.h + x.h⟩

/-- Blocks of 16 words, `n` of them. -/
def shaBlocks : Nat → List (BitVec 32) → ShaRegs → ShaRegs
  | 0, _, r => r
  | n + 1, ws, r => shaBlocks n (ws.drop 16) (shaBlock r (ws.take 16))

/-- SHA-256 of a byte string: 32 bytes. -/
def sha256 (m : List Byte) : List Byte :=
  let len := m.length
  let zeros := (55 + 64 - len % 64) % 64
  let padded := m ++ [0x80#8] ++ List.replicate zeros 0#8 ++ beBytes 8 (8 * len)
  let r := shaBlocks (padded.length / 64) (beWords padded)
    ⟨0x6a09e667, 0xbb67ae85, 0x3c6ef372, 0xa54ff53a, 0x510e527f, 0x9b05688c, 0x1f83d9ab, 0x5be0cd19⟩
  [r.a, r.b, r.c, r.d, r.e, r.f, r.g, r.h].flatMap (fun w => beBytes 4 w.toNat)

/-- HMAC-SHA-256 of `m` under `key` (a key above 64 bytes is hashed first): 32 bytes. -/
def hmacSha256 (key m : List Byte) : List Byte :=
  let k := padTo 64 (if 64 < key.length then sha256 key else key)
  sha256 (k.map (· ^^^ 0x5c#8) ++ sha256 (k.map (· ^^^ 0x36#8) ++ m))

/-- Multiplication by x in the AES field. -/
def aesXtime (b : Byte) : Byte := if b.getLsbD 7 then (b <<< 1) ^^^ 0x1b#8 else b <<< 1

/-- Product in the AES field, over the low `n` bits of `b`. -/
def aesMulBits : Nat → Byte → Byte → Byte
  | 0, _, _ => 0
  | n + 1, a, b => (if b.getLsbD 0 then a else 0) ^^^ aesMulBits n (aesXtime a) (b >>> 1)

def aesMul (a b : Byte) : Byte := aesMulBits 8 a b

/-- The inverse in the AES field is the 254th power; 0 maps to 0. -/
def aesInv (a : Byte) : Byte :=
  let a2 := aesMul a a
  let a3 := aesMul a2 a
  let a6 := aesMul a3 a3
  let a7 := aesMul a6 a
  let a14 := aesMul a7 a7
  let a15 := aesMul a14 a
  let a30 := aesMul a15 a15
  let a31 := aesMul a30 a
  let a62 := aesMul a31 a31
  let a63 := aesMul a62 a
  let a126 := aesMul a63 a63
  let a127 := aesMul a126 a
  aesMul a127 a127

/-- The AES S-box. -/
def aesSub (b : Byte) : Byte :=
  let i := aesInv b
  i ^^^ i.rotateLeft 1 ^^^ i.rotateLeft 2 ^^^ i.rotateLeft 3 ^^^ i.rotateLeft 4 ^^^ 0x63#8

/-- The round key that follows `k` (16 bytes) with round constant `rc`. -/
def aesNextKey (rc : Byte) (k : List Byte) : List Byte :=
  let w := fun i => (k.drop (4 * i)).take 4
  let x := fun (p q : List Byte) => List.zipWith (· ^^^ ·) p q
  let t := (w 3).rotateLeft 1 |>.map aesSub
  let n0 := x (w 0) (x t [rc, 0, 0, 0])
  let n1 := x (w 1) n0
  let n2 := x (w 2) n1
  n0 ++ n1 ++ n2 ++ x (w 3) n2

def aesShiftRows (s : List Byte) : List Byte :=
  (List.range 16).map (fun i => s.getD ((i + 4 * (i % 4)) % 16) 0)

def aesMixColumns : List Byte → List Byte
  | a :: b :: c :: d :: t =>
    (aesXtime a ^^^ aesXtime b ^^^ b ^^^ c ^^^ d) :: (a ^^^ aesXtime b ^^^ aesXtime c ^^^ c ^^^ d) ::
    (a ^^^ b ^^^ aesXtime c ^^^ aesXtime d ^^^ d) :: (aesXtime a ^^^ a ^^^ b ^^^ c ^^^ aesXtime d) ::
    aesMixColumns t
  | _ => []

/-- `n` rounds are left; the last one has no column mix. -/
def aesRounds : Nat → Byte → List Byte → List Byte → List Byte
  | 0, _, _, s => s
  | n + 1, rc, k, s =>
    let k' := aesNextKey rc k
    let s' := aesShiftRows (s.map aesSub)
    aesRounds n (aesXtime rc) k' (List.zipWith (· ^^^ ·) (if n = 0 then s' else aesMixColumns s') k')

/-- AES-128 encryption of one 16-byte block. -/
def aes128 (key block : List Byte) : List Byte :=
  aesRounds 10 1 key (List.zipWith (· ^^^ ·) block key)

end Sys2Proof.Machine
end

