-- ==== Sys2Proof/Machine/Cells.lean ====
section
/-! DEFINITION. Sparse stores as plain lists. A register store or a bank is a list of (address, value) pairs in one
canonical form: addresses strictly rising and no entry equal to what an unlisted address reads as, so that equal
stores are equal lists. Tables of sessions, queues, slots and the like are keyed lists in rising order of key. -/

namespace Sys2Proof.Machine

/-- The entry under a key. -/
def tabFind {β : Type} (k : Nat) : List (Nat × β) → Option β
  | [] => none
  | (j, v) :: t => if j = k then some v else tabFind k t

/-- Set the entry under a key, keeping the keys in rising order. -/
def tabSet {β : Type} (k : Nat) (v : β) : List (Nat × β) → List (Nat × β)
  | [] => [(k, v)]
  | (j, w) :: t => if j < k then (j, w) :: tabSet k v t else if j = k then (k, v) :: t else (k, v) :: (j, w) :: t

/-- Remove the entry under a key. -/
def tabDel {β : Type} (k : Nat) (l : List (Nat × β)) : List (Nat × β) := l.filter (fun e => e.1 ≠ k)

/-! ## Counters -/

def countAt (k : Nat) (l : List (Nat × Nat)) : Nat := (tabFind k l).getD 0
def addCount (k n : Nat) (l : List (Nat × Nat)) : List (Nat × Nat) := tabSet k (countAt k l + n) l

/-- What address `a` reads as: `d` where nothing is listed. -/
def cellGet {β : Type} (d : β) (a : Nat) (l : List (Nat × β)) : β := (tabFind a l).getD d

/-- Write `v` at `a`, where `d` is what `a` reads as when unlisted. Writing `d` removes the entry. -/
def cellPut {β : Type} [DecidableEq β] (d : β) (a : Nat) (v : β) (l : List (Nat × β)) : List (Nat × β) :=
  if v = d then tabDel a l else tabSet a v l

/-- Addresses strictly rising from `lo`, and no entry equal to what its address reads as when unlisted. -/
def cellsWf {β : Type} [DecidableEq β] (d : Nat → β) : Nat → List (Nat × β) → Bool
  | _, [] => true
  | lo, (a, v) :: t => decide (lo ≤ a) && decide (v ≠ d a) && cellsWf d (a + 1) t

/-- The lowest number below `n` that is no key of the table. -/
def tabFree {β : Type} (n : Nat) (l : List (Nat × β)) : Option Nat :=
  (List.range n).find? (fun k => (tabFind k l).isNone)

/-- Insert into a list, after the elements that come before it or stand level with it in the order `lt`. -/
def insertBy {β : Type} (lt : β → β → Bool) (x : β) : List β → List β
  | [] => [x]
  | y :: t => if lt x y then x :: y :: t else y :: insertBy lt x t

/-- A list in the order `lt`, level elements in their order. -/
def sortBy {β : Type} (lt : β → β → Bool) (l : List β) : List β := l.foldl (fun acc x => insertBy lt x acc) []

/-- Element `i` of a list, or the given value beyond its end. -/
def nth {β : Type} (d : β) (l : List β) (i : Nat) : β := l.getD i d

/-- Replace element `i` of a list. -/
def setNth {β : Type} (l : List β) (i : Nat) (v : β) : List β := l.set i v

end Sys2Proof.Machine
end

