-- ==== Sys2Proof/Machine/RegTable.lean ====
section
/-! DEFINITION. The register space (R25, R31 and the register tables of every chapter): for each 4-byte offset
of each page the fields with their place, width, access code (R7) and Reset value. Reserved bits have no entry:
they read 0 and ignore writes (R8), as does an offset without a register (R27). The tables are those of spec/,
field by field; what a field means stands with the command that uses it. -/

namespace Sys2Proof.Machine

/-- Access codes of R7. -/
inductive Access where
  | ro | rw | w1c | w1s | wo | sh | lk
  deriving DecidableEq, Repr

/-- Which resets a field survives (R452): `none`; `l0` ("since L0", kept across
L1 to L3): all but L0 and a switch-off; `fuse` (an "F" value, reloaded unchanged): all but L0; `pwr` ("since power-on", and
status of a part that the reset does not touch): all but power-on. -/
inductive Keep where
  | none | l0 | fuse | pwr
  deriving DecidableEq, Repr

/-- One field of a register table: least significant bit, width, access code, Reset value (R9: a "—" value
is 0 here, log entry 1; an "F" value is that of a fresh module, log entry 2), what keeps it (R452), and
whether it is a counter or statistic that `BLK_CTL.FREEZE` holds (R31, log entry 11). -/
structure FieldSpec where
  lsb : Nat
  width : Nat
  acc : Access
  reset : Nat
  keep : Keep
  stat : Bool
  deriving DecidableEq, Repr

/-- A register, or `count` registers of one layout at consecutive words. -/
structure RegSpec where
  off : Nat
  count : Nat
  fields : List FieldSpec
  deriving DecidableEq, Repr

/-- A place in the register space: word address, least significant bit, width. -/
structure Field where
  addr : Nat
  lsb : Nat
  width : Nat
  deriving DecidableEq, Repr

namespace RegTable

def ro (l w r : Nat) : FieldSpec := ⟨l, w, .ro, r, .none, false⟩
def rw (l w r : Nat) : FieldSpec := ⟨l, w, .rw, r, .none, false⟩
def w1c (l w r : Nat) : FieldSpec := ⟨l, w, .w1c, r, .none, false⟩
def w1s (l w r : Nat) : FieldSpec := ⟨l, w, .w1s, r, .none, false⟩
def wo (l w r : Nat) : FieldSpec := ⟨l, w, .wo, r, .none, false⟩
def sh (l w r : Nat) : FieldSpec := ⟨l, w, .sh, r, .none, false⟩
def lk (l w r : Nat) : FieldSpec := ⟨l, w, .lk, r, .none, false⟩

end RegTable

/-- The field keeps its value at L1 to L3. -/
def FieldSpec.l0 (f : FieldSpec) : FieldSpec := { f with keep := .l0 }
/-- The field is loaded from the fuse shadow at L1 to L3. -/
def FieldSpec.fuse (f : FieldSpec) : FieldSpec := { f with keep := .fuse }
/-- The field keeps its value at every reset but power-on. -/
def FieldSpec.pwr (f : FieldSpec) : FieldSpec := { f with keep := .pwr }
/-- The field is a counter or statistic. -/
def FieldSpec.cnt (f : FieldSpec) : FieldSpec := { f with stat := true }

namespace RegTable

/-- The common header of page `p` (R31). `BLK_CTL.SRST` and the capability bits are those the page's chapter gives.
`BLK_ID.MAJOR` and MINOR have Reset F and stand in no fuse row: 0 on every page (DESIGN CHOICE, log entry 2). -/
def header (p : Nat) (srst spare : Nat) (caps : Nat) : List RegSpec :=
  [⟨0x000, 1, [ro 24 8 p, ro 16 8 0 |>.fuse, ro 8 8 0 |>.fuse]⟩,
   ⟨0x004, 1, [ro 31 1 srst |>.fuse, ro 30 1 spare |>.fuse, ro 0 30 caps |>.fuse]⟩,
   ⟨0x008, 1, [rw 2 1 0, (if srst = 1 then w1s 1 1 0 else ro 1 1 0), sh 0 1 1]⟩,
   ⟨0x00C, 1, [ro 16 16 0, ro 4 1 0, ro 3 1 0, ro 2 1 0, ro 1 1 0, ro 0 1 0]⟩,
   ⟨0x010, 1, [w1c 0 32 0]⟩,
   ⟨0x014, 1, [rw 0 32 0]⟩,
   ⟨0x018, 1, [wo 0 32 0]⟩,
   ⟨0x01C, 1, [ro 31 1 0, ro 8 8 0, ro 0 8 0]⟩,
   ⟨0x020, 1, [ro 0 24 0]⟩,
   ⟨0x024, 1, [ro 16 16 0 |>.fuse, ro 8 8 (spareLeft p) |>.fuse, ro 0 8 0 |>.fuse]⟩,
   ⟨0x028, 1, [w1s 1 1 0, ro 0 1 0]⟩,
   ⟨0x02C, 1, [w1s 0 1 0]⟩]
where
  /-- Spares in the pools of a fresh module (R349, log entry 2). -/
  spareLeft : Nat → Nat
    | 12 => 1 | 13 => 64 | 14 => 8 | 18 => 2 | 19 => 2 | 22 => 2 | 2 => 5 | _ => 0

/-- The SYS page from offset 0x100 (R50). -/
def pageSYS : List RegSpec :=
  [⟨0x100, 1, [ro 16 16 0x1024, ro 8 8 2 |>.fuse, ro 0 8 0 |>.fuse]⟩,  -- SYS_PART
   ⟨0x104, 1, [ro 0 32 0 |>.fuse]⟩,  -- SYS_SERIAL_LO
   ⟨0x108, 1, [ro 0 32 0 |>.fuse]⟩,  -- SYS_SERIAL_HI
   ⟨0x10C, 1, [ro 31 1 0, ro 24 7 0, ro 16 8 0, ro 0 16 0]⟩,  -- SYS_FW
   ⟨0x110, 1, [ro 8 8 0, ro 4 4 0, ro 0 4 1]⟩,  -- SYS_STATE
   ⟨0x114, 1, [wo 0 4 0]⟩,  -- SYS_CMD
   ⟨0x118, 1, [ro 0 32 0]⟩,  -- SYS_FRAME
   ⟨0x11C, 1, [ro 0 32 0]⟩,  -- SYS_EPOCH
   ⟨0x120, 1, [w1s 9 1 0, w1s 8 1 0, rw 0 2 0]⟩,  -- SYS_COMMIT
   ⟨0x124, 1, [rw 0 32 0]⟩,  -- SYS_COMMIT_FRAME
   ⟨0x128, 1, [ro 16 12 0, ro 0 3 0]⟩,  -- SYS_COMMIT_STAT
   ⟨0x12C, 1, [ro 0 32 0]⟩,  -- SYS_COMMIT_AT
   ⟨0x130, 1, [ro 0 28 0]⟩,  -- SYS_EVT_SUM
   ⟨0x134, 1, [rw 0 28 0]⟩,  -- SYS_ALERT_MASK
   ⟨0x138, 1, [ro 1 1 0, rw 0 1 1]⟩,  -- SYS_ALERT_CTL
   ⟨0x13C, 1, [ro 0 32 0 |>.cnt]⟩,  -- SYS_UPTIME
   ⟨0x140, 1, [ro 0 6 0]⟩,  -- SYS_CHAIN
   ⟨0x144, 1, [rw 0 32 0 |>.l0]⟩]  -- SYS_SCRATCH

/-- The RST page from offset 0x100 (R395). -/
def pageRST : List RegSpec :=
  [⟨0x100, 1, [ro 16 12 0 |>.pwr, ro 12 4 0 |>.pwr, ro 8 2 0 |>.pwr, ro 0 8 0 |>.pwr]⟩,  -- RST_CAUSE
   ⟨0x104, 1, [ro 0 32 0 |>.pwr |>.cnt]⟩,  -- RST_LVL_CNT
   ⟨0x108, 1, [rw 0 3 0]⟩,  -- RST_SRC_SEL
   ⟨0x10C, 1, [ro 0 16 0 |>.pwr |>.cnt]⟩,  -- RST_SRC_CNT
   ⟨0x110, 1, [ro 2 14 0 |>.fuse]⟩,  -- RST_MAP
   ⟨0x114, 1, [wo 16 16 0, wo 0 1 0]⟩,  -- RST_SWRST
   ⟨0x118, 1, [w1c 31 1 0 |>.pwr, ro 30 1 0 |>.pwr, ro 0 16 0 |>.pwr |>.cnt]⟩,  -- RST_NRST
   ⟨0x11C, 1, [ro 24 8 0 |>.fuse, ro 16 8 0 |>.fuse, ro 8 8 0 |>.fuse, ro 0 3 1]⟩,  -- RST_FUSE
   ⟨0x120, 1, [ro 15 1 0 |>.fuse, ro 8 6 0 |>.fuse, ro 7 1 0 |>.fuse, ro 0 6 0 |>.fuse]⟩,  -- RST_FUSE_ROW
   ⟨0x124, 1, [ro 0 16 0 |>.pwr |>.cnt]⟩,  -- RST_FUSE_LOADS
   ⟨0x128, 1, [ro 31 1 0, ro 16 6 0, ro 8 2 0, ro 0 3 0]⟩,  -- RST_PROG
   ⟨0x12C, 1, [ro 0 16 0 |>.fuse]⟩,  -- RST_PINMAP
   ⟨0x130, 1, [ro 16 16 0 |>.pwr |>.cnt, ro 0 9 0]⟩,  -- RST_GATE
   ⟨0x134, 1, [ro 16 4 1 |>.pwr, ro 0 16 0 |>.cnt]⟩,  -- RST_BOOT
   ⟨0x138, 1, [ro 8 8 0, ro 1 1 0, ro 0 1 0]⟩,  -- RST_PROV
   ⟨0x13C, 1, []⟩]  -- RST_RSVD

/-- The PWM page from offset 0x100 (R374). -/
def pagePWM : List RegSpec :=
  [⟨0x100, 1, [ro 16 16 0 |>.pwr, ro 0 16 0 |>.pwr]⟩,  -- PWM_IN
   ⟨0x104, 1, [ro 7 1 0, ro 6 1 0, ro 5 1 0, ro 3 1 0, ro 0 3 1]⟩,  -- PWM_STAT
   ⟨0x108, 1, [lk 16 16 0x168, lk 0 16 0x2e4]⟩,  -- PWM_CEIL
   ⟨0x10C, 1, [ro 16 16 0, ro 0 16 0]⟩,  -- PWM_BUDGET
   ⟨0x110, 1, [ro 0 16 0]⟩,  -- PWM_POWER
   ⟨0x114, 1, [sh 0 16 0x438]⟩,  -- PWM_MODEL
   ⟨0x118, 1, [ro 16 16 0 |>.pwr, ro 0 16 0 |>.pwr]⟩,  -- PWM_HU
   ⟨0x11C, 1, [sh 6 26 0x3ffffff, ro 0 6 0x3f]⟩,  -- PWM_DOM_EN0
   ⟨0x120, 1, [sh 0 4 15]⟩,  -- PWM_DOM_EN1
   ⟨0x124, 1, [rw 0 6 0]⟩,  -- PWM_DOM_SEL
   ⟨0x128, 1, [ro 16 16 0 |>.l0 |>.cnt, ro 0 3 0 |>.pwr]⟩,  -- PWM_DOM_STAT
   ⟨0x12C, 1, [rw 0 3 0]⟩,  -- PWM_RAIL_SEL
   ⟨0x130, 1, [ro 16 16 0 |>.pwr, ro 9 1 0 |>.pwr, ro 8 1 0 |>.fuse, ro 4 4 0 |>.fuse, ro 0 4 0 |>.fuse]⟩,  -- PWM_RAIL
   ⟨0x134, 1, [ro 16 16 0 |>.cnt, ro 0 16 0]⟩,  -- PWM_LOWLOG
   ⟨0x138, 1, [ro 16 16 0 |>.l0 |>.cnt, ro 0 16 0 |>.l0 |>.cnt]⟩]  -- PWM_CNT

/-- The THM page from offset 0x100 (R375). -/
def pageTHM : List RegSpec :=
  [⟨0x100, 1, [rw 0 4 0]⟩,  -- THM_SEL
   ⟨0x104, 1, [ro 16 16 0, ro 0 16 0]⟩,  -- THM_SENS
   ⟨0x108, 1, [ro 16 16 0 |>.fuse, ro 0 16 0 |>.fuse]⟩,  -- THM_PARAM
   ⟨0x10C, 1, [ro 16 12 0, ro 0 12 0xfff]⟩,  -- THM_VALID
   ⟨0x110, 1, [ro 16 16 0, ro 0 16 0]⟩,  -- THM_TEMP
   ⟨0x114, 1, [lk 24 8 0x73, lk 16 8 0x82, lk 8 8 0x7d, lk 0 8 0x6e]⟩,  -- THM_LIMITS
   ⟨0x118, 1, [sh 0 8 0x32]⟩,  -- THM_TOL
   ⟨0x11C, 1, [ro 16 16 0 |>.l0 |>.cnt, ro 0 8 0xff]⟩]  -- THM_FT

/-- The CLK page from offset 0x100 (R276). -/
def pageCLK : List RegSpec :=
  [⟨0x100, 1, [ro 0 24 0]⟩,  -- CLK_XO
   ⟨0x104, 1, [ro 0 24 0]⟩,  -- CLK_AGE
   ⟨0x108, 1, [ro 16 16 0 |>.l0 |>.cnt, ro 0 6 0]⟩,  -- CLK_PLL
   ⟨0x10C, 1, [w1c 16 9 0, ro 0 9 0]⟩,  -- CLK_MON_STAT
   ⟨0x110, 1, [rw 0 4 0]⟩,  -- CLK_MON_SEL
   ⟨0x114, 1, [ro 16 3 0, ro 0 16 0 |>.cnt]⟩]  -- CLK_MON_DEV

/-- The TSY page from offset 0x100 (R277). -/
def pageTSY : List RegSpec :=
  [⟨0x100, 1, [sh 24 8 1, sh 20 4 1, sh 8 8 0, sh 7 1 0, sh 5 2 0, sh 3 2 0, sh 0 3 0]⟩,  -- TSY_CTL
   ⟨0x104, 1, [ro 11 1 0, ro 10 1 0, ro 9 1 0, ro 8 1 0 |>.l0, ro 4 3 4, ro 0 2 0]⟩,  -- TSY_STAT
   ⟨0x108, 1, [ro 0 32 0]⟩,  -- TSY_TAI_LO
   ⟨0x10C, 1, [ro 0 32 0]⟩,  -- TSY_TAI_HI
   ⟨0x110, 1, [rw 0 32 0]⟩,  -- TSY_SET_LO
   ⟨0x114, 1, [rw 0 32 0]⟩,  -- TSY_SET_HI
   ⟨0x118, 1, [rw 1 1 0, w1s 0 1 0]⟩,  -- TSY_SET_CTL
   ⟨0x11C, 1, [ro 0 32 0]⟩,  -- TSY_OFS
   ⟨0x120, 1, [ro 0 32 0 |>.cnt]⟩,  -- TSY_PATH
   ⟨0x124, 1, [ro 17 1 0, ro 16 1 0, ro 0 16 0]⟩,  -- TSY_UTC
   ⟨0x128, 1, [ro 0 32 0]⟩,  -- TSY_GM_LO
   ⟨0x12C, 1, [ro 0 32 0]⟩,  -- TSY_GM_HI
   ⟨0x130, 1, [ro 0 32 0]⟩,  -- TSY_PULSE
   ⟨0x134, 1, [ro 16 16 0 |>.l0 |>.cnt, ro 0 16 0 |>.l0 |>.cnt]⟩,  -- TSY_STEPS
   ⟨0x138, 1, [ro 0 32 0]⟩,  -- TSY_LAST_STEP
   ⟨0x13C, 1, [ro 0 32 0 |>.l0 |>.cnt]⟩,  -- TSY_FWD
   ⟨0x140, 1, [ro 16 16 0 |>.l0 |>.cnt, ro 0 16 0 |>.cnt]⟩,  -- TSY_PPS
   ⟨0x144, 1, [ro 0 32 0]⟩]  -- TSY_HOLD

/-- The CAL page from offset 0x100 (R356). -/
def pageCAL : List RegSpec :=
  [⟨0x100, 1, [sh 1 1 1, sh 0 1 1]⟩,  -- CAL_CTL
   ⟨0x104, 1, [sh 0 16 0x3c]⟩,  -- CAL_SCHED
   ⟨0x108, 1, [sh 16 8 2, sh 0 16 0x60]⟩,  -- CAL_WEAR_TAP
   ⟨0x10C, 1, [sh 16 16 0x3e8, sh 0 16 0x40]⟩,  -- CAL_WEAR_MEM
   ⟨0x110, 1, [sh 16 16 0x3c, sh 0 16 0x32]⟩,  -- CAL_WEAR_LANE
   ⟨0x114, 1, [sh 16 16 0x258, sh 0 16 0xc8]⟩,  -- CAL_CREEP
   ⟨0x118, 1, [ro 16 16 0 |>.l0 |>.cnt, ro 0 2 0]⟩,  -- CAL_TRACE
   ⟨0x11C, 1, [w1s 31 1 0, w1s 30 1 0, rw 16 8 0x32, rw 0 16 0x100]⟩,  -- CAL_RCAL_CTL
   ⟨0x120, 1, [rw 0 24 0]⟩,  -- CAL_RCAL_RANGE
   ⟨0x124, 1, [rw 16 10 0x3ff, rw 0 10 0]⟩,  -- CAL_RCAL_CH
   ⟨0x128, 1, [ro 16 11 0, ro 0 3 0]⟩,  -- CAL_RCAL_STAT
   ⟨0x12C, 1, [rw 0 10 0]⟩,  -- CAL_RCAL_SEL
   ⟨0x130, 1, [ro 16 16 0, ro 0 16 0]⟩,  -- CAL_RCAL_RES
   ⟨0x134, 1, [ro 16 1 0, ro 0 16 0]⟩,  -- CAL_RCAL_SPREAD
   ⟨0x138, 1, [ro 0 16 0]⟩,  -- CAL_RCAL_TEMP
   ⟨0x13C, 1, [rw 0 4 0]⟩,  -- CAL_POOL_SEL
   ⟨0x140, 1, [ro 16 16 0 |>.fuse, ro 0 16 0 |>.fuse]⟩,  -- CAL_POOL_CNT
   ⟨0x144, 1, [ro 16 16 0 |>.fuse, ro 8 8 0 |>.fuse |>.cnt, ro 1 1 0, ro 0 1 0 |>.fuse]⟩,  -- CAL_POOL_STAT
   ⟨0x148, 1, [ro 0 10 0 |>.fuse]⟩,  -- CAL_EXHAUST
   ⟨0x14C, 1, [ro 16 16 0 |>.l0 |>.cnt, ro 2 1 0 |>.fuse, ro 1 1 0 |>.fuse, ro 0 1 0 |>.fuse]⟩,  -- CAL_REC
   ⟨0x150, 1, [rw 0 8 0]⟩,  -- CAL_LINE_SEL
   ⟨0x154, 1, [ro 16 8 0x80, ro 2 1 0, ro 1 1 0 |>.fuse, ro 0 1 0 |>.fuse]⟩]  -- CAL_LINE

/-- The CPU page from offset 0x100 (R79). -/
def pageCPU : List RegSpec :=
  [⟨0x100, 1, [ro 8 5 0 |>.fuse, ro 0 5 15 |>.fuse]⟩,  -- CPU_CORES
   ⟨0x104, 1, [ro 16 8 0 |>.fuse, ro 8 1 0, ro 4 4 0, ro 0 4 0]⟩,  -- CPU_IMG
   ⟨0x108, 1, [w1c 0 7 0]⟩,  -- CPU_FENCE
   ⟨0x10C, 1, [ro 24 3 0, ro 0 24 0]⟩,  -- CPU_FENCE_ADDR
   ⟨0x110, 1, [ro 0 16 0 |>.l0 |>.cnt]⟩,  -- CPU_FENCE_CNT
   ⟨0x114, 1, [lk 0 16 0x64]⟩,  -- CPU_WDT
   ⟨0x118, 1, [ro 16 16 0x8000 |>.fuse, lk 0 1 0]⟩]  -- CPU_AUTH

/-- The SCH page from offset 0x100 (R101). -/
def pageSCH : List RegSpec :=
  [⟨0x100, 1, [sh 0 1 0]⟩,  -- SCH_BANK
   ⟨0x104, 1, [ro 4 1 0, ro 3 1 0, ro 2 1 0, ro 1 1 0, ro 0 1 0]⟩,  -- SCH_BANK_STAT
   ⟨0x108, 1, [ro 16 16 0, ro 8 8 0, ro 0 4 0]⟩,  -- SCH_PROG
   ⟨0x10C, 1, [sh 0 4 4]⟩,  -- SCH_P0_CTL
   ⟨0x110, 1, [sh 0 16 0x3e8]⟩,  -- SCH_THERM_TAU
   ⟨0x114, 1, [sh 0 16 0x12c]⟩,  -- SCH_THERM_THR
   ⟨0x118, 1, [sh 0 16 0x190]⟩,  -- SCH_THERM_LIM
   ⟨0x11C, 1, [sh 24 8 0x60, sh 16 8 0x30, sh 8 8 0x10, sh 0 8 0]⟩,  -- SCH_EGR_THR
   ⟨0x120, 1, [ro 16 16 0, ro 0 16 0]⟩,  -- SCH_PWR_CAP
   ⟨0x124, 1, [rw 0 8 0]⟩,  -- SCH_HEAT_SEL
   ⟨0x128, 1, [ro 24 8 0xff, ro 0 24 0]⟩,  -- SCH_HEAT_VAL
   ⟨0x12C, 1, [ro 4 4 0 |>.cnt, ro 1 1 0 |>.cnt, ro 0 1 0 |>.cnt]⟩,  -- SCH_FRAME_STAT
   ⟨0x130, 5, [ro 0 32 0 |>.cnt]⟩,  -- SCH_PLAN_P0
   ⟨0x144, 5, [ro 0 32 0 |>.cnt]⟩,  -- SCH_START_P0
   ⟨0x158, 4, [ro 16 16 0 |>.cnt, ro 0 16 0 |>.cnt]⟩,  -- SCH_REASON0
   ⟨0x168, 1, [ro 0 16 0 |>.cnt]⟩,  -- SCH_REASON4
   ⟨0x16C, 1, [ro 0 32 0 |>.cnt]⟩]  -- SCH_EXC_LOST

/-- The STE page from offset 0x100 (R123). -/
def pageSTE : List RegSpec :=
  [⟨0x100, 1, [ro 12 1 0 |>.fuse, sh 8 4 0, sh 6 1 0, sh 4 2 0, sh 2 2 0, sh 0 2 2]⟩,  -- STE_CTL
   ⟨0x104, 1, [sh 16 16 0x1f4, sh 0 16 0]⟩,  -- STE_RPM
   ⟨0x108, 1, [sh 24 8 0, sh 0 24 0]⟩,  -- STE_PHASE
   ⟨0x10C, 1, [sh 16 16 0x100, sh 0 16 0x3e8]⟩,  -- STE_BAND
   ⟨0x110, 1, [lk 24 8 10, lk 8 8 0x32, lk 0 8 0x32]⟩,  -- STE_ILK
   ⟨0x114, 1, [lk 16 16 0x800, lk 0 16 0x400]⟩,  -- STE_ENC
   ⟨0x118, 1, [sh 16 16 0x1000, sh 0 16 0x40]⟩,  -- STE_PG_GAIN
   ⟨0x11C, 1, [sh 16 16 0x1000, sh 0 16 0x40]⟩,  -- STE_GV_GAIN
   ⟨0x120, 1, [sh 16 16 0x64, sh 0 16 0x1000]⟩,  -- STE_LOCK
   ⟨0x124, 1, [sh 16 16 0xc000, sh 0 16 0xf000]⟩,  -- STE_PG_LIM
   ⟨0x128, 1, [sh 16 16 0xc000, sh 0 16 0xf000]⟩,  -- STE_GV_LIM
   ⟨0x12C, 1, [sh 0 16 0]⟩,  -- STE_GV_KD
   ⟨0x130, 1, [sh 0 16 0x20]⟩,  -- STE_GV_TOL
   ⟨0x134, 1, [sh 16 16 0x4000, sh 0 16 0]⟩,  -- STE_GV_CAL
   ⟨0x138, 1, [sh 16 16 0x1f4, sh 0 16 0x9c4]⟩,  -- STE_PWM
   ⟨0x13C, 1, [sh 16 16 0x3e8, sh 0 16 0xbb8]⟩,  -- STE_TMO
   ⟨0x140, 8, [sh 0 24 0]⟩,  -- STE_FACET_TRIM0
   ⟨0x160, 1, [ro 7 1 0, ro 6 1 0, ro 5 1 0, ro 4 1 0, ro 3 1 0, ro 2 1 0, ro 1 1 0, ro 0 1 0]⟩,  -- STE_STAT
   ⟨0x164, 1, [w1c 5 4 0, w1c 4 1 0, w1c 0 4 0]⟩,  -- STE_SAT
   ⟨0x168, 1, [ro 0 32 0]⟩,  -- STE_SPEED
   ⟨0x16C, 1, [ro 0 32 0]⟩,  -- STE_PHERR
   ⟨0x170, 1, [ro 16 16 0, ro 0 16 0]⟩,  -- STE_GV_POS
   ⟨0x174, 1, [ro 16 16 0 |>.l0 |>.cnt, ro 4 4 0, ro 0 4 0]⟩,  -- STE_ILK_STAT
   ⟨0x178, 1, [ro 16 16 0 |>.cnt, ro 0 16 0 |>.cnt]⟩,  -- STE_REF_STAT
   ⟨0x180, 1, [rw 16 16 0, w1s 5 1 0, rw 4 1 0, rw 3 1 0, rw 0 2 0]⟩,  -- STE_TEST
   ⟨0x184, 1, [rw 16 16 0, rw 0 16 0]⟩,  -- STE_TEST_PAR
   ⟨0x188, 1, [rw 0 32 0x1000]⟩]  -- STE_TEST_LEN

/-- The EMT page from offset 0x100 (R145). -/
def pageEMT : List RegSpec :=
  [⟨0x100, 4, [sh 28 4 0, sh 16 8 10, sh 8 8 0x27, sh 1 1 0, sh 0 1 0]⟩,  -- EMT_CHAIN_CTL0
   ⟨0x110, 4, [ro 16 16 0 |>.l0 |>.cnt, ro 3 1 0, ro 0 3 0]⟩,  -- EMT_CHAIN_STAT0
   ⟨0x120, 4, [ro 0 16 0]⟩,  -- EMT_TEMP0
   ⟨0x130, 1, [sh 0 16 0xffff]⟩,  -- EMT_WL
   ⟨0x134, 1, [rw 0 4 0]⟩,  -- EMT_ZONE_SEL
   ⟨0x138, 1, [ro 16 16 0 |>.fuse, ro 0 16 0 |>.fuse]⟩,  -- EMT_ZONE_CEIL
   ⟨0x13C, 1, [ro 16 16 0 |>.fuse, ro 0 16 0 |>.fuse]⟩,  -- EMT_ZONE_FUSED
   ⟨0x140, 1, [ro 16 16 0, ro 0 16 0]⟩,  -- EMT_ZONE_USE
   ⟨0x144, 16, [ro 0 32 0 |>.fuse]⟩,  -- EMT_ZONE_MAP0
   ⟨0x184, 1, [ro 0 32 0 |>.l0 |>.cnt]⟩,  -- EMT_GUARD
   ⟨0x188, 1, [ro 3 1 0, ro 2 1 0, ro 1 1 0, ro 0 1 0]⟩,  -- EMT_EMIT
   ⟨0x18C, 4, [ro 0 32 0]⟩,  -- EMT_RSV0
   ⟨0x19C, 1, [rw 0 7 0]⟩,  -- EMT_OUT_SEL
   ⟨0x1A0, 1, [ro 16 16 0, ro 0 12 0]⟩]  -- EMT_OUT

/-- The SHT page from offset 0x100 (R146). -/
def pageSHT : List RegSpec :=
  [⟨0x100, 1, [sh 0 1 0]⟩,  -- SHT_CODE
   ⟨0x104, 1, [sh 0 32 0]⟩,  -- SHT_SALT
   ⟨0x108, 1, [ro 0 16 0 |>.fuse]⟩,  -- SHT_KEYCHK
   ⟨0x10C, 1, [ro 16 16 0x1090, ro 0 16 0x890]⟩,  -- SHT_CELL
   ⟨0x110, 1, [rw 0 4 0]⟩,  -- SHT_BANK_SEL
   ⟨0x114, 1, [ro 16 16 0 |>.cnt, ro 0 16 0 |>.cnt]⟩,  -- SHT_BANK_STAT
   ⟨0x118, 1, [ro 0 32 0 |>.cnt]⟩,  -- SHT_TRAINS
   ⟨0x11C, 1, [ro 0 32 0 |>.cnt]⟩]  -- SHT_PULSES

/-- The ETD page from offset 0x100 (R160). -/
def pageETD : List RegSpec :=
  [⟨0x100, 1, [sh 8 8 0xff, sh 2 1 1, sh 1 1 0, sh 0 1 0]⟩,  -- ETD_CTL
   ⟨0x104, 1, [sh 16 16 0x28, sh 0 16 2]⟩,  -- ETD_WIN
   ⟨0x108, 8, [sh 0 16 0]⟩,  -- ETD_ZERO0
   ⟨0x128, 1, [ro 16 9 0, ro 4 1 0, ro 0 3 0]⟩,  -- ETD_MAP
   ⟨0x12C, 1, [rw 0 4 0]⟩,  -- ETD_TAPS_SEL
   ⟨0x130, 1, [ro 17 1 0, ro 16 1 0, ro 0 16 0 |>.l0 |>.cnt]⟩,  -- ETD_TBL
   ⟨0x134, 1, [ro 16 16 0, ro 8 8 0x20 |>.fuse, ro 0 8 0 |>.fuse]⟩,  -- ETD_TAPS
   ⟨0x138, 1, [rw 0 3 0]⟩,  -- ETD_BANK_SEL
   ⟨0x13C, 1, [ro 0 32 0 |>.cnt]⟩,  -- ETD_CNT_MEAS
   ⟨0x140, 1, [ro 16 16 0 |>.cnt, ro 0 16 0 |>.cnt]⟩,  -- ETD_CNT_A
   ⟨0x144, 1, [ro 16 16 0 |>.cnt, ro 0 16 0 |>.cnt]⟩,  -- ETD_CNT_B
   ⟨0x148, 1, [ro 16 16 0 |>.cnt, ro 0 16 0 |>.cnt]⟩,  -- ETD_CNT_C
   ⟨0x14C, 1, [rw 0 7 0]⟩,  -- ETD_LINE_SEL
   ⟨0x150, 1, [ro 16 16 0 |>.cnt, ro 0 16 0 |>.cnt]⟩,  -- ETD_LINE
   ⟨0x154, 1, [ro 16 1 0 |>.l0 |>.cnt, ro 0 16 0]⟩,  -- ETD_REF
   ⟨0x158, 1, [ro 0 9 0]⟩]  -- ETD_FAIL

/-- The RXC page from offset 0x100 (R184). -/
def pageRXC : List RegSpec :=
  [⟨0x100, 1, [sh 16 16 0x14, sh 4 1 1, sh 0 3 2]⟩,  -- RXC_CTL
   ⟨0x104, 1, [ro 0 32 0 |>.cnt]⟩,  -- RXC_DARK
   ⟨0x108, 1, [rw 0 4 0]⟩,  -- RXC_GRP_SEL
   ⟨0x10C, 1, [ro 0 32 0 |>.fuse]⟩,  -- RXC_GRP_SPARE
   ⟨0x110, 1, [ro 24 8 0 |>.fuse, ro 16 8 0, ro 0 9 0 |>.cnt]⟩,  -- RXC_GRP_STAT
   ⟨0x114, 1, [ro 0 32 0 |>.cnt]⟩,  -- RXC_GRP_FWD
   ⟨0x118, 1, [ro 0 32 0 |>.cnt]⟩,  -- RXC_GRP_OVL
   ⟨0x11C, 1, [rw 0 7 0]⟩,  -- RXC_SMP_SEL
   ⟨0x120, 1, [ro 16 16 0, ro 10 1 0, ro 9 1 0, ro 8 1 0 |>.fuse, ro 7 1 0 |>.fuse, ro 0 7 0 |>.fuse]⟩,  -- RXC_SMP_STAT
   ⟨0x124, 1, [ro 18 1 0, ro 17 1 0, ro 16 1 0, ro 0 16 0 |>.l0 |>.cnt]⟩,  -- RXC_SMP_TBL
   ⟨0x128, 1, [ro 16 16 0, ro 8 8 0x20 |>.fuse, ro 0 8 0 |>.fuse]⟩,  -- RXC_SMP_TAPS
   ⟨0x12C, 1, [sh 16 4 15, sh 8 8 0, sh 0 8 0xaa]⟩,  -- RXC_I2C_CFG
   ⟨0x130, 1, [ro 4 4 0, ro 0 4 0]⟩,  -- RXC_I2C_APPLY
   ⟨0x140, 1, [w1s 31 1 0, rw 16 8 0, rw 8 8 0, rw 0 7 0]⟩,  -- RXC_I2C0_CMD
   ⟨0x170, 1, [w1s 31 1 0, rw 16 8 0, rw 8 8 0, rw 0 7 0]⟩,  -- RXC_I2C1_CMD
   ⟨0x1A0, 1, [w1s 31 1 0, rw 16 8 0, rw 8 8 0, rw 0 7 0]⟩,  -- RXC_I2C2_CMD
   ⟨0x1D0, 1, [w1s 31 1 0, rw 16 8 0, rw 8 8 0, rw 0 7 0]⟩,  -- RXC_I2C3_CMD
   ⟨0x144, 1, [ro 8 8 0, ro 0 4 0]⟩,  -- RXC_I2C0_STAT
   ⟨0x174, 1, [ro 8 8 0, ro 0 4 0]⟩,  -- RXC_I2C1_STAT
   ⟨0x1A4, 1, [ro 8 8 0, ro 0 4 0]⟩,  -- RXC_I2C2_STAT
   ⟨0x1D4, 1, [ro 8 8 0, ro 0 4 0]⟩,  -- RXC_I2C3_STAT
   ⟨0x148, 4, [rw 0 32 0]⟩,  -- RXC_I2C0_WD
   ⟨0x158, 4, [ro 0 32 0]⟩,  -- RXC_I2C0_RD
   ⟨0x178, 4, [rw 0 32 0]⟩,  -- RXC_I2C1_WD
   ⟨0x188, 4, [ro 0 32 0]⟩,  -- RXC_I2C1_RD
   ⟨0x1A8, 4, [rw 0 32 0]⟩,  -- RXC_I2C2_WD
   ⟨0x1B8, 4, [ro 0 32 0]⟩,  -- RXC_I2C2_RD
   ⟨0x1D8, 4, [rw 0 32 0]⟩,  -- RXC_I2C3_WD
   ⟨0x1E8, 4, [ro 0 32 0]⟩]  -- RXC_I2C3_RD

/-- The GRN page from offset 0x100 (R206). -/
def pageGRN : List RegSpec :=
  [⟨0x100, 1, [sh 0 8 0]⟩,  -- GRN_START
   ⟨0x104, 1, [sh 16 16 0x40, sh 5 1 1, sh 0 5 8]⟩,  -- GRN_ZOOM
   ⟨0x108, 1, [sh 0 1 1]⟩,  -- GRN_CTL
   ⟨0x10C, 1, [sh 8 24 0x101000]⟩,  -- GRN_WEIGHT0
   ⟨0x110, 3, [sh 0 32 0x10101010]⟩,  -- GRN_WEIGHT1
   ⟨0x11C, 1, [ro 0 9 0]⟩,  -- GRN_P0_RES
   ⟨0x120, 1, [rw 0 3 0]⟩,  -- GRN_ENG_SEL
   ⟨0x124, 1, [ro 16 10 0, ro 0 10 0x200]⟩,  -- GRN_ENG_SLOTS
   ⟨0x128, 1, [ro 0 32 0x76543210]⟩,  -- GRN_ENG_TMAP
   ⟨0x12C, 1, [ro 16 9 0, ro 0 9 0 |>.fuse]⟩,  -- GRN_ENG_TSTAT
   ⟨0x130, 1, [ro 0 32 0 |>.cnt]⟩,  -- GRN_ENG_UPD
   ⟨0x134, 1, [ro 0 16 0 |>.cnt]⟩,  -- GRN_ENG_PEAK
   ⟨0x138, 1, [ro 0 32 0 |>.cnt]⟩,  -- GRN_ENG_EMPTY
   ⟨0x13C, 1, [ro 16 16 0 |>.l0 |>.cnt, ro 0 16 0 |>.cnt]⟩,  -- GRN_ENG_ERR
   ⟨0x140, 1, [ro 0 32 0 |>.cnt]⟩,  -- GRN_MEAS
   ⟨0x144, 1, [ro 0 32 0 |>.cnt]⟩,  -- GRN_FAULTED
   ⟨0x148, 1, [ro 0 32 0 |>.cnt]⟩,  -- GRN_NOCAND
   ⟨0x14C, 1, [ro 0 32 0 |>.cnt]⟩,  -- GRN_ABSENT
   ⟨0x150, 1, [ro 0 32 0 |>.cnt]⟩,  -- GRN_OUTSIDE
   ⟨0x154, 1, [ro 0 32 0 |>.cnt]⟩,  -- GRN_LOST
   ⟨0x158, 1, [ro 0 32 0 |>.cnt]⟩]  -- GRN_LATE

/-- The CRM page from offset 0x100 (R232). -/
def pageCRM : List RegSpec :=
  [⟨0x100, 1, [sh 16 16 0x40, sh 8 8 0x50, sh 0 3 4]⟩,  -- CRM_DET
   ⟨0x104, 1, [sh 16 16 0x7d0, sh 8 1 1, sh 0 4 3]⟩,  -- CRM_CENT
   ⟨0x108, 1, [sh 24 8 0x40, sh 16 8 0x32, sh 0 5 12]⟩,  -- CRM_PILE
   ⟨0x10C, 1, [sh 24 8 0x80, sh 16 8 6, sh 0 12 0x40]⟩,  -- CRM_CLASS
   ⟨0x110, 1, [sh 16 16 0x12c, sh 0 16 0x258]⟩,  -- CRM_RAIN
   ⟨0x114, 1, [sh 8 4 15, sh 0 5 15]⟩,  -- CRM_OUT
   ⟨0x118, 1, [sh 0 24 0]⟩,  -- CRM_RANGE_OFS
   ⟨0x11C, 1, [sh 0 24 0]⟩,  -- CRM_BS_ROLL
   ⟨0x120, 1, [sh 0 24 0]⟩,  -- CRM_BS_PITCH
   ⟨0x124, 1, [sh 0 24 0]⟩,  -- CRM_BS_YAW
   ⟨0x128, 1, [sh 0 32 0]⟩,  -- CRM_BS_TX
   ⟨0x12C, 1, [sh 0 32 0]⟩,  -- CRM_BS_TY
   ⟨0x130, 1, [sh 0 32 0]⟩,  -- CRM_BS_TZ
   ⟨0x134, 1, [sh 0 16 0]⟩,  -- CRM_GV_EL
   ⟨0x138, 1, [sh 8 8 0x14, ro 1 1 0, sh 0 1 0]⟩,  -- CRM_MOUNT
   ⟨0x13C, 1, [ro 0 24 0]⟩,  -- CRM_MNT_ROLL
   ⟨0x140, 1, [ro 0 24 0]⟩,  -- CRM_MNT_PITCH
   ⟨0x144, 1, [ro 0 24 0]⟩,  -- CRM_MNT_YAW
   ⟨0x148, 8, [sh 0 24 0]⟩,  -- CRM_FACET_EL0
   ⟨0x168, 8, [sh 16 16 0, sh 0 16 0]⟩,  -- CRM_SUB0
   ⟨0x200, 128, [sh 16 16 0, sh 0 16 0]⟩,  -- CRM_LINE0
   ⟨0x188, 1, [ro 0 32 0 |>.cnt]⟩,  -- CRM_RET
   ⟨0x18C, 4, [ro 0 32 0 |>.cnt]⟩,  -- CRM_CLS0
   ⟨0x19C, 1, [ro 0 32 0 |>.cnt]⟩,  -- CRM_SAT
   ⟨0x1A0, 1, [ro 16 16 0 |>.cnt, ro 0 16 0 |>.cnt]⟩,  -- CRM_DROP
   ⟨0x1A4, 1, [ro 16 13 0, ro 0 13 0 |>.cnt]⟩]  -- CRM_BACKLOG

/-- The SFA page from offset 0x100 (R258). -/
def pageSFA : List RegSpec :=
  [⟨0x100, 1, [ro 4 1 0, ro 3 1 0, ro 2 1 0, ro 1 1 0, ro 0 1 0]⟩,  -- SFA_IMG_STAT
   ⟨0x104, 1, [ro 0 32 0]⟩,  -- SFA_IMG_ACTIVE
   ⟨0x108, 1, [ro 0 32 0]⟩,  -- SFA_IMG_STAGED
   ⟨0x10C, 1, [sh 0 8 0]⟩,  -- SFA_IMG_SEQ
   ⟨0x110, 1, [ro 16 16 0, ro 11 1 0, ro 8 3 0, ro 0 3 0]⟩,  -- SFA_FSET
   ⟨0x114, 1, [wo 16 16 0, wo 0 3 0]⟩,  -- SFA_SEL
   ⟨0x118, 4, [wo 0 32 0]⟩,  -- SFA_SEL_CODE0
   ⟨0x128, 1, [wo 0 32 0]⟩,  -- SFA_CLEAR
   ⟨0x12C, 1, [ro 8 1 0, ro 7 1 0, ro 6 1 0, ro 5 1 0, ro 4 1 0, ro 3 1 0, ro 2 1 0, ro 1 1 0, ro 0 1 0]⟩,  -- SFA_OSSD
   ⟨0x130, 1, [ro 0 16 0xffff]⟩,  -- SFA_FIELD
   ⟨0x134, 1, [ro 16 16 0, ro 0 16 0]⟩,  -- SFA_DISC
   ⟨0x138, 1, [ro 24 1 0, ro 20 4 0, ro 16 3 0, ro 0 16 0]⟩,  -- SFA_CFG
   ⟨0x13C, 1, [ro 0 32 0]⟩,  -- SFA_RESP
   ⟨0x140, 1, [ro 18 1 0, ro 17 1 0 |>.fuse, ro 16 1 0 |>.fuse, ro 8 8 0 |>.fuse, ro 0 8 0]⟩,  -- SFA_LOCK
   ⟨0x144, 1, [ro 16 16 0 |>.l0 |>.cnt, ro 0 16 0 |>.l0 |>.cnt]⟩,  -- SFA_CNT
   ⟨0x148, 1, [ro 16 16 0 |>.l0 |>.cnt, ro 0 16 0]⟩]  -- SFA_RESTART

/-- The SFB page from offset 0x100 (R259). -/
def pageSFB : List RegSpec :=
  [⟨0x100, 1, [ro 4 1 0, ro 3 1 0, ro 2 1 0, ro 1 1 0, ro 0 1 0]⟩,  -- SFB_IMG_STAT
   ⟨0x104, 1, [ro 0 32 0]⟩,  -- SFB_IMG_ACTIVE
   ⟨0x108, 1, [ro 0 32 0]⟩,  -- SFB_IMG_STAGED
   ⟨0x10C, 1, [ro 0 8 0]⟩,  -- SFB_IMG_SEQ
   ⟨0x110, 1, [ro 16 16 0, ro 11 1 0, ro 8 3 0, ro 0 3 0]⟩,  -- SFB_FSET
   ⟨0x114, 1, [ro 16 16 0, ro 0 3 0]⟩,  -- SFB_SEL
   ⟨0x118, 4, [ro 0 32 0]⟩,  -- SFB_SEL_CODE0
   ⟨0x128, 1, [ro 0 32 0]⟩,  -- SFB_CLEAR
   ⟨0x12C, 1, [ro 8 1 0, ro 7 1 0, ro 6 1 0, ro 5 1 0, ro 4 1 0, ro 3 1 0, ro 2 1 0, ro 1 1 0, ro 0 1 0]⟩,  -- SFB_OSSD
   ⟨0x130, 1, [ro 0 16 0]⟩,  -- SFB_FIELD
   ⟨0x134, 1, [ro 16 16 0, ro 0 16 0]⟩,  -- SFB_DISC
   ⟨0x138, 1, [ro 24 1 0, ro 20 4 0, ro 16 3 0, ro 0 16 0]⟩,  -- SFB_CFG
   ⟨0x13C, 1, [ro 0 32 0]⟩,  -- SFB_RESP
   ⟨0x140, 1, [ro 18 1 0, ro 17 1 0 |>.fuse, ro 16 1 0 |>.fuse, ro 8 8 0 |>.fuse, ro 0 8 0]⟩,  -- SFB_LOCK
   ⟨0x144, 1, [ro 16 16 0 |>.l0, ro 0 16 0 |>.l0]⟩,  -- SFB_CNT
   ⟨0x148, 1, [ro 16 16 0 |>.l0, ro 0 16 0]⟩,  -- SFB_RESTART
   ⟨0x14C, 1, [ro 16 1 0, ro 0 16 0]⟩,  -- SFB_CLK
   ⟨0x150, 1, [ro 16 16 0 |>.cnt, ro 1 1 0, ro 0 1 0]⟩]  -- SFB_TEST

/-- The NTA page from offset 0x100 (R303). -/
def pageNTA : List RegSpec :=
  [⟨0x100, 1, [sh 8 8 10, sh 6 1 0, sh 5 1 0, sh 4 1 1, sh 2 2 0, sh 0 2 0]⟩,  -- NTA_CTL
   ⟨0x104, 1, [ro 15 1 0, ro 14 1 0, ro 13 1 0, ro 12 1 0, ro 11 1 1, ro 10 1 0, ro 9 1 0, ro 7 2 0, ro 0 3 0]⟩,  -- NTA_STAT
   ⟨0x108, 1, [ro 29 3 7, ro 24 5 0, ro 21 3 7, ro 16 5 0, ro 0 5 0]⟩,  -- NTA_LANES
   ⟨0x10C, 1, [ro 16 16 0, rw 0 3 0]⟩,  -- NTA_EYE
   ⟨0x110, 1, [lk 0 9 0x190]⟩,  -- NTA_EGR
   ⟨0x114, 1, [ro 24 8 0xff, ro 0 13 0x1000]⟩,  -- NTA_CREDIT
   ⟨0x118, 1, [ro 16 16 0 |>.cnt, ro 0 16 0 |>.cnt]⟩,  -- NTA_FEC
   ⟨0x11C, 1, [ro 16 16 0 |>.l0 |>.cnt, ro 0 16 0 |>.l0 |>.cnt]⟩,  -- NTA_DROP
   ⟨0x120, 1, [ro 16 16 0 |>.l0 |>.cnt, ro 0 16 0 |>.l0 |>.cnt]⟩,  -- NTA_LINK
   ⟨0x124, 1, [ro 16 16 0x948, ro 0 16 0x600]⟩,  -- NTA_LAT
   ⟨0x128, 1, [ro 0 32 0 |>.fuse]⟩,  -- NTA_MAC_LO
   ⟨0x12C, 1, [ro 0 32 0 |>.fuse]⟩,  -- NTA_MAC_HI
   ⟨0x130, 1, [sh 2 1 0, sh 0 2 1]⟩,  -- NTA_IP
   ⟨0x134, 1, [sh 0 32 0]⟩,  -- NTA_IPV4_BASE
   ⟨0x138, 1, [ro 0 32 0]⟩,  -- NTA_IPV4
   ⟨0x13C, 4, [sh 0 32 0]⟩,  -- NTA_IPV6_BASE0
   ⟨0x14C, 1, [ro 16 16 0, ro 9 7 0, ro 8 1 0, ro 7 1 0]⟩,  -- NTA_CENSUS
   ⟨0x150, 1, [sh 0 16 0x64]⟩]  -- NTA_CENSUS_CFG

/-- The NTB page from offset 0x100 (R303): offsets 0x130 to 0x150 exist on NTA only. -/
def pageNTB : List RegSpec :=
  [⟨0x100, 1, [sh 8 8 10, sh 6 1 0, sh 5 1 0, sh 4 1 1, sh 2 2 0, sh 0 2 0]⟩,  -- NTB_CTL
   ⟨0x104, 1, [ro 15 1 0, ro 14 1 0, ro 13 1 0, ro 12 1 0, ro 11 1 0, ro 10 1 0, ro 9 1 0, ro 7 2 0, ro 0 3 0]⟩,  -- NTB_STAT
   ⟨0x108, 1, [ro 29 3 7, ro 24 5 0, ro 21 3 7, ro 16 5 0, ro 0 5 0]⟩,  -- NTB_LANES
   ⟨0x10C, 1, [ro 16 16 0, rw 0 3 0]⟩,  -- NTB_EYE
   ⟨0x110, 1, [lk 0 9 0x190]⟩,  -- NTB_EGR
   ⟨0x114, 1, [ro 24 8 0xff, ro 0 13 0x1000]⟩,  -- NTB_CREDIT
   ⟨0x118, 1, [ro 16 16 0 |>.cnt, ro 0 16 0 |>.cnt]⟩,  -- NTB_FEC
   ⟨0x11C, 1, [ro 16 16 0 |>.l0 |>.cnt, ro 0 16 0 |>.l0 |>.cnt]⟩,  -- NTB_DROP
   ⟨0x120, 1, [ro 16 16 0 |>.l0 |>.cnt, ro 0 16 0 |>.l0 |>.cnt]⟩,  -- NTB_LINK
   ⟨0x124, 1, [ro 16 16 0x948, ro 0 16 0x600]⟩,  -- NTB_LAT
   ⟨0x128, 1, [ro 0 32 0 |>.fuse]⟩,  -- NTB_MAC_LO
   ⟨0x12C, 1, [ro 0 32 0 |>.fuse]⟩]  -- NTB_MAC_HI

/-- The QUE page from offset 0x100 (R340). -/
def pageQUE : List RegSpec :=
  [⟨0x100, 1, [lk 16 16 0xbac1, lk 0 16 0xbac0]⟩,  -- QUE_PORTS
   ⟨0x104, 1, [sh 16 16 0x7d0, sh 0 16 0x7d0]⟩,  -- QUE_LEASE
   ⟨0x108, 1, [sh 0 16 0x7d0]⟩,  -- QUE_RTO
   ⟨0x10C, 1, [ro 16 13 0 |>.l0 |>.cnt, ro 0 13 0]⟩,  -- QUE_SESS
   ⟨0x110, 1, [ro 0 15 0]⟩,  -- QUE_QUEUES
   ⟨0x114, 1, [ro 0 32 0 |>.l0 |>.cnt]⟩,  -- QUE_RETX
   ⟨0x118, 1, [ro 0 32 0 |>.l0 |>.cnt]⟩,  -- QUE_GAPS
   ⟨0x11C, 1, [ro 16 16 0 |>.l0 |>.cnt, ro 0 16 0 |>.l0 |>.cnt]⟩,  -- QUE_ACKERR
   ⟨0x120, 1, [ro 16 16 0 |>.l0 |>.cnt, ro 0 13 0]⟩,  -- QUE_RXQ
   ⟨0x124, 1, [ro 16 16 0 |>.l0 |>.cnt, ro 0 16 0 |>.l0 |>.cnt]⟩,  -- QUE_REJECT
   ⟨0x128, 1, [ro 16 16 0 |>.l0 |>.cnt, ro 0 16 0 |>.l0 |>.cnt]⟩]  -- QUE_DROP

/-- The LDG page from offset 0x100 (R341). -/
def pageLDG : List RegSpec :=
  [⟨0x100, 1, [ro 1 1 0 |>.fuse, ro 0 1 0 |>.fuse]⟩,  -- LDG_BANK
   ⟨0x104, 1, [ro 16 12 0, ro 0 15 0 |>.fuse]⟩,  -- LDG_FILL
   ⟨0x108, 1, [ro 31 1 0 |>.fuse, ro 0 19 0 |>.fuse]⟩,  -- LDG_NOR
   ⟨0x10C, 1, [ro 0 16 0 |>.fuse]⟩,  -- LDG_BOOT
   ⟨0x110, 1, [rw 0 4 1]⟩,  -- LDG_REGION_SEL
   ⟨0x114, 1, [ro 16 16 0 |>.fuse, sh 0 16 0 |>.l0]⟩,  -- LDG_REGION
   ⟨0x118, 1, [rw 0 16 0 |>.fuse]⟩,  -- LDG_REGION_REQ
   ⟨0x11C, 1, [ro 0 32 0]⟩,  -- LDG_OLDEST
   ⟨0x120, 1, [ro 0 32 0 |>.cnt]⟩]  -- LDG_RATE

/-- The MEM page from offset 0x100 (R342). -/
def pageMEM : List RegSpec :=
  [⟨0x100, 1, [ro 16 10 0 |>.fuse, ro 0 10 0xff |>.fuse]⟩,  -- MEM_CHAN
   ⟨0x104, 1, [ro 30 2 0, ro 24 4 0, ro 20 4 0, ro 0 10 0]⟩,  -- MEM_REBUILD
   ⟨0x108, 1, [rw 0 4 0]⟩,  -- MEM_ERR_SEL
   ⟨0x10C, 1, [ro 16 16 0 |>.l0 |>.cnt, ro 0 16 0 |>.cnt]⟩,  -- MEM_ERR
   ⟨0x110, 1, [ro 16 16 0 |>.cnt, ro 0 16 0 |>.cnt]⟩,  -- MEM_BW
   ⟨0x114, 1, [ro 0 16 0x3800]⟩]  -- MEM_CAP

/-- The HKA page from offset 0x100 (R408). -/
def pageHKA : List RegSpec :=
  [⟨0x100, 1, [sh 8 5 1, w1s 7 1 0, sh 5 1 0, sh 4 1 0, sh 0 3 0]⟩,  -- HKA_CTL
   ⟨0x104, 1, [sh 0 24 0x1f40]⟩,  -- HKA_TIMER
   ⟨0x108, 16, [sh 13 1 0, sh 12 1 0, sh 11 1 0, sh 8 3 3, sh 6 2 0, sh 5 1 0, sh 0 5 0]⟩,  -- HKA_ENT0
   ⟨0x148, 16, [sh 16 16 0x3fff, sh 0 16 0]⟩,  -- HKA_WIN0
   ⟨0x188, 16, [ro 31 1 0, ro 30 1 0, ro 29 1 0, ro 0 16 0]⟩,  -- HKA_RES0
   ⟨0x1C8, 1, [ro 31 1 0, ro 30 1 0, ro 16 4 0, ro 0 16 0]⟩,  -- HKA_DATA
   ⟨0x1CC, 1, [ro 16 16 0 |>.l0 |>.cnt, ro 0 16 0]⟩,  -- HKA_STAT
   ⟨0x1D0, 1, [ro 0 32 0 |>.l0 |>.cnt]⟩,  -- HKA_SEQ
   ⟨0x1D4, 1, [ro 16 16 0 |>.l0 |>.cnt, ro 0 16 0 |>.l0 |>.cnt]⟩,  -- HKA_OVR
   ⟨0x1D8, 1, [ro 2 1 0, ro 1 1 0, w1s 0 1 0]⟩,  -- HKA_CAL
   ⟨0x1DC, 4, [ro 16 16 0 |>.fuse, ro 0 16 0 |>.fuse]⟩]  -- HKA_CALF0

/-- The EXC page from offset 0x100 (R425). -/
def pageEXC : List RegSpec :=
  [⟨0x100, 12, [sh 11 1 1, sh 10 1 0, sh 8 2 1, sh 4 3 0, sh 0 1 1]⟩,  -- EXC_CH0
   ⟨0x130, 12, [ro 24 8 0, ro 1 7 0, ro 0 1 0]⟩,  -- EXC_STAT0
   ⟨0x160, 1, [rw 0 4 0]⟩,  -- EXC_IMP_SEL
   ⟨0x164, 1, [ro 16 16 0, ro 0 16 0]⟩,  -- EXC_IMP
   ⟨0x168, 1, [w1s 31 1 0, ro 24 3 0, rw 16 4 6, rw 8 1 0, rw 0 4 0]⟩,  -- EXC_SCAL
   ⟨0x16C, 1, [rw 0 32 0]⟩,  -- EXC_SCAL_TGT
   ⟨0x170, 1, [ro 0 32 0]⟩,  -- EXC_SCAL_OFS
   ⟨0x174, 1, [ro 0 32 0]⟩,  -- EXC_SCAL_GAIN
   ⟨0x178, 1, [ro 1 1 0, sh 0 1 0]⟩,  -- EXC_MNT_CTL
   ⟨0x17C, 1, [ro 16 16 0 |>.l0 |>.cnt, ro 0 16 0 |>.l0 |>.cnt]⟩,  -- EXC_MNT_CNT
   ⟨0x180, 1, [ro 16 16 0 |>.l0 |>.cnt, ro 0 16 0 |>.l0 |>.cnt]⟩,  -- EXC_CNT
   ⟨0x184, 24, [sh 0 32 0]⟩]  -- EXC_MNT_M0

/-- The DFL page from offset 0x100 (R426). -/
def pageDFL : List RegSpec :=
  [⟨0x100, 1, [sh 5 1 0, sh 4 1 0, sh 3 1 0, sh 0 2 1]⟩,  -- DFL_CTL
   ⟨0x104, 1, [ro 16 9 0x180, ro 3 1 0, ro 2 1 0, ro 1 1 0, ro 0 1 0]⟩,  -- DFL_BANK_STAT
   ⟨0x108, 1, [ro 0 32 0x5c3cfa]⟩,  -- DFL_DELAY
   ⟨0x10C, 1, [ro 0 32 0x3d09]⟩,  -- DFL_SKEW
   ⟨0x110, 1, [ro 0 8 14]⟩,  -- DFL_SETTLE
   ⟨0x114, 1, [rw 0 4 0]⟩,  -- DFL_OUT_SEL
   ⟨0x118, 1, [ro 0 32 0]⟩,  -- DFL_OUT_RAW
   ⟨0x11C, 1, [ro 0 32 0]⟩,  -- DFL_OUT_LIN
   ⟨0x120, 1, [ro 0 32 0 |>.cnt]⟩]  -- DFL_SETS

/-- The REC page from offset 0x100 (R436). -/
def pageREC : List RegSpec :=
  [⟨0x100, 1, [sh 5 1 0, sh 4 1 0, w1s 3 1 0, w1s 2 1 0, w1s 1 1 0, w1s 0 1 0]⟩,  -- REC_CTL
   ⟨0x104, 1, [ro 16 16 0 |>.cnt, ro 10 1 0, ro 9 1 0 |>.l0, ro 8 1 0 |>.l0, ro 4 3 0, ro 0 3 0 |>.l0]⟩,  -- REC_STAT
   ⟨0x108, 1, [ro 16 16 0x400 |>.l0, rw 0 16 0x400 |>.l0]⟩,  -- REC_SIZE
   ⟨0x10C, 1, [sh 0 22 0x40000]⟩,  -- REC_POST
   ⟨0x110, 1, [sh 0 6 7]⟩,  -- REC_SRC
   ⟨0x114, 1, [sh 16 10 0x3ff, sh 0 10 0]⟩,  -- REC_SPAN
   ⟨0x118, 2, [sh 16 16 0xffff, sh 8 8 0xff, sh 0 8 0xff]⟩,  -- REC_MATCH0
   ⟨0x120, 8, [sh 24 4 0, sh 21 3 0, sh 16 5 0, sh 8 4 0, sh 5 3 0, sh 0 5 0]⟩,  -- REC_ST0
   ⟨0x140, 4, [ro 16 16 0, sh 0 16 1]⟩,  -- REC_CNT0
   ⟨0x150, 4, [ro 16 16 0, sh 0 16 1]⟩,  -- REC_TMR0
   ⟨0x160, 1, [sh 16 16 0, sh 8 8 10, sh 0 1 0]⟩,  -- REC_IO
   ⟨0x164, 1, [ro 0 32 0 |>.l0]⟩,  -- REC_TRIG_LO
   ⟨0x168, 1, [ro 0 32 0 |>.l0]⟩,  -- REC_TRIG_HI
   ⟨0x16C, 1, [ro 0 32 0 |>.l0 |>.cnt]⟩,  -- REC_FILL
   ⟨0x170, 1, [ro 0 32 0 |>.l0 |>.cnt]⟩,  -- REC_DROP
   ⟨0x174, 1, [ro 0 32 0 |>.l0 |>.cnt]⟩]  -- REC_CHAIN

/-- The GIO page from offset 0x100 (R451). -/
def pageGIO : List RegSpec :=
  [⟨0x100, 1, [ro 16 1 0 |>.pwr, ro 15 1 0 |>.pwr, ro 14 1 0 |>.pwr, ro 13 1 0 |>.pwr, ro 12 1 0 |>.pwr, ro 11 1 0 |>.pwr, ro 10 1 0 |>.pwr, ro 0 9 0 |>.pwr]⟩,  -- GIO_IN
   ⟨0x104, 1, [ro 5 1 0, ro 4 1 0, ro 3 1 0, ro 2 1 0, ro 1 1 0, ro 0 1 0]⟩,  -- GIO_OUT
   ⟨0x108, 1, [lk 4 2 1, lk 2 2 1, lk 0 2 1]⟩,  -- GIO_DRV
   ⟨0x10C, 1, [sh 4 1 1, sh 3 1 1, sh 2 1 1, sh 1 1 1, sh 0 1 1]⟩,  -- GIO_PULL
   ⟨0x110, 1, [w1c 0 1 0]⟩]  -- GIO_JTAG

end RegTable

end Sys2Proof.Machine
end

