-- ==== Sys2Proof/Machine/Fields.lean ====
section
/-! DEFINITION. The manual's field names: `F.REGISTER.FIELD` is the place of that field in the register space.
For a register that stands several times (`EMT_CHAIN_STAT0` to `3`) the name without a number is the first
one, and `Field.idx` reaches the others; a port B or channel B register is reached with `Field.pageUp`. -/

namespace Sys2Proof.Machine

/-- The same field `k` words further on (registers numbered from 0). -/
def Field.idx (f : Field) (k : Nat) : Field := { f with addr := f.addr + 4 * k }
/-- The same field `k` bytes further on. -/
def Field.bytes (f : Field) (k : Nat) : Field := { f with addr := f.addr + k }
/-- The same field one page further on: NTB for NTA, SFB for SFA. -/
def Field.pageUp (f : Field) (k : Nat) : Field := { f with addr := f.addr + 0x1000 * k }
/-- Instance `i` of a register that a `_SEL` register selects (log entry 12). -/
def Field.inst (f : Field) (i : Nat) : Field := { f with addr := f.addr + (i + 1) * 0x1000000 }

/-- Fields of the common header of page `p` (R31). -/
abbrev H.MAJOR (p : Nat) : Field := ⟨p * 0x1000 + 0x000, 16, 8⟩
abbrev H.FREEZE (p : Nat) : Field := ⟨p * 0x1000 + 0x008, 2, 1⟩
abbrev H.SRST (p : Nat) : Field := ⟨p * 0x1000 + 0x008, 1, 1⟩
abbrev H.EN (p : Nat) : Field := ⟨p * 0x1000 + 0x008, 0, 1⟩
abbrev H.CAPS (p : Nat) : Field := ⟨p * 0x1000 + 0x004, 0, 30⟩
abbrev H.SRST_IMPL (p : Nat) : Field := ⟨p * 0x1000 + 0x004, 31, 1⟩
abbrev H.BSTAT (p : Nat) : Field := ⟨p * 0x1000 + 0x00C, 16, 16⟩
abbrev H.DEGRADED (p : Nat) : Field := ⟨p * 0x1000 + 0x00C, 3, 1⟩
abbrev H.BUSY (p : Nat) : Field := ⟨p * 0x1000 + 0x00C, 1, 1⟩
abbrev H.READY (p : Nat) : Field := ⟨p * 0x1000 + 0x00C, 0, 1⟩
abbrev H.ISR (p : Nat) : Field := ⟨p * 0x1000 + 0x010, 0, 32⟩
abbrev H.IER (p : Nat) : Field := ⟨p * 0x1000 + 0x014, 0, 32⟩
abbrev H.ERR_VALID (p : Nat) : Field := ⟨p * 0x1000 + 0x01C, 31, 1⟩
abbrev H.ERR_COUNT (p : Nat) : Field := ⟨p * 0x1000 + 0x01C, 8, 8⟩
abbrev H.ERR_CODE (p : Nat) : Field := ⟨p * 0x1000 + 0x01C, 0, 8⟩
abbrev H.ERRCAP (p : Nat) : Field := ⟨p * 0x1000 + 0x01C, 0, 32⟩
abbrev H.ERRADDR (p : Nat) : Field := ⟨p * 0x1000 + 0x020, 0, 24⟩
abbrev H.SPARE_MAP (p : Nat) : Field := ⟨p * 0x1000 + 0x024, 16, 16⟩
abbrev H.SPARE_LEFT (p : Nat) : Field := ⟨p * 0x1000 + 0x024, 8, 8⟩
abbrev H.SPARE_USED (p : Nat) : Field := ⟨p * 0x1000 + 0x024, 0, 8⟩
abbrev H.LOCK (p : Nat) : Field := ⟨p * 0x1000 + 0x02C, 0, 1⟩

abbrev F.SYS_PART.PART : Field := ⟨0x100, 16, 16⟩
abbrev F.SYS_PART.GRADE : Field := ⟨0x100, 8, 8⟩
abbrev F.SYS_PART.DIE_REV : Field := ⟨0x100, 0, 8⟩
abbrev F.SYS_SERIAL_LO.SERIAL : Field := ⟨0x104, 0, 32⟩
abbrev F.SYS_SERIAL_HI.SERIAL : Field := ⟨0x108, 0, 32⟩
abbrev F.SYS_FW.SLOT : Field := ⟨0x10C, 31, 1⟩
abbrev F.SYS_FW.MAJOR : Field := ⟨0x10C, 24, 7⟩
abbrev F.SYS_FW.MINOR : Field := ⟨0x10C, 16, 8⟩
abbrev F.SYS_FW.BUILD : Field := ⟨0x10C, 0, 16⟩
abbrev F.SYS_STATE.CAUSE : Field := ⟨0x110, 8, 8⟩
abbrev F.SYS_STATE.PREV : Field := ⟨0x110, 4, 4⟩
abbrev F.SYS_STATE.STATE : Field := ⟨0x110, 0, 4⟩
abbrev F.SYS_CMD.REQ : Field := ⟨0x114, 0, 4⟩
abbrev F.SYS_FRAME.VALUE : Field := ⟨0x118, 0, 32⟩
abbrev F.SYS_EPOCH.VALUE : Field := ⟨0x11C, 0, 32⟩
abbrev F.SYS_COMMIT.ABORT : Field := ⟨0x120, 9, 1⟩
abbrev F.SYS_COMMIT.GO : Field := ⟨0x120, 8, 1⟩
abbrev F.SYS_COMMIT.MODE : Field := ⟨0x120, 0, 2⟩
abbrev F.SYS_COMMIT_FRAME.TARGET : Field := ⟨0x124, 0, 32⟩
abbrev F.SYS_COMMIT_STAT.OWNER : Field := ⟨0x128, 16, 12⟩
abbrev F.SYS_COMMIT_STAT.STATUS : Field := ⟨0x128, 0, 3⟩
abbrev F.SYS_COMMIT_AT.FRAME : Field := ⟨0x12C, 0, 32⟩
abbrev F.SYS_EVT_SUM.PAGES : Field := ⟨0x130, 0, 28⟩
abbrev F.SYS_ALERT_MASK.PAGES : Field := ⟨0x134, 0, 28⟩
abbrev F.SYS_ALERT_CTL.ASSERTED : Field := ⟨0x138, 1, 1⟩
abbrev F.SYS_ALERT_CTL.STATE_EN : Field := ⟨0x138, 0, 1⟩
abbrev F.SYS_UPTIME.SECONDS : Field := ⟨0x13C, 0, 32⟩
abbrev F.SYS_CHAIN.ADDR : Field := ⟨0x140, 0, 6⟩
abbrev F.SYS_SCRATCH.DATA : Field := ⟨0x144, 0, 32⟩
abbrev F.RST_CAUSE.ORIGIN : Field := ⟨0x1100, 16, 12⟩
abbrev F.RST_CAUSE.MON : Field := ⟨0x1100, 12, 4⟩
abbrev F.RST_CAUSE.LEVEL : Field := ⟨0x1100, 8, 2⟩
abbrev F.RST_CAUSE.SOURCES : Field := ⟨0x1100, 0, 8⟩
abbrev F.RST_LVL_CNT.COUNT : Field := ⟨0x1104, 0, 32⟩
abbrev F.RST_SRC_SEL.SOURCE : Field := ⟨0x1108, 0, 3⟩
abbrev F.RST_SRC_CNT.COUNT : Field := ⟨0x110C, 0, 16⟩
abbrev F.RST_MAP.LEVELS : Field := ⟨0x1110, 2, 14⟩
abbrev F.RST_SWRST.KEY : Field := ⟨0x1114, 16, 16⟩
abbrev F.RST_SWRST.REQ : Field := ⟨0x1114, 0, 1⟩
abbrev F.RST_NRST.STUCK : Field := ⟨0x1118, 31, 1⟩
abbrev F.RST_NRST.LEVEL : Field := ⟨0x1118, 30, 1⟩
abbrev F.RST_NRST.HELD : Field := ⟨0x1118, 0, 16⟩
abbrev F.RST_FUSE.BOTHBAD : Field := ⟨0x111C, 24, 8⟩
abbrev F.RST_FUSE.ONECOPY : Field := ⟨0x111C, 16, 8⟩
abbrev F.RST_FUSE.FALLBACK : Field := ⟨0x111C, 8, 8⟩
abbrev F.RST_FUSE.STATE : Field := ⟨0x111C, 0, 3⟩
abbrev F.RST_FUSE_ROW.BAD_V : Field := ⟨0x1120, 15, 1⟩
abbrev F.RST_FUSE_ROW.BAD : Field := ⟨0x1120, 8, 6⟩
abbrev F.RST_FUSE_ROW.FB_V : Field := ⟨0x1120, 7, 1⟩
abbrev F.RST_FUSE_ROW.FB : Field := ⟨0x1120, 0, 6⟩
abbrev F.RST_FUSE_LOADS.COUNT : Field := ⟨0x1124, 0, 16⟩
abbrev F.RST_PROG.BUSY : Field := ⟨0x1128, 31, 1⟩
abbrev F.RST_PROG.ROW : Field := ⟨0x1128, 16, 6⟩
abbrev F.RST_PROG.COPIES : Field := ⟨0x1128, 8, 2⟩
abbrev F.RST_PROG.RESULT : Field := ⟨0x1128, 0, 3⟩
abbrev F.RST_PINMAP.FIELDS : Field := ⟨0x112C, 0, 16⟩
abbrev F.RST_GATE.CLKFAIL : Field := ⟨0x1130, 16, 16⟩
abbrev F.RST_GATE.WAIT : Field := ⟨0x1130, 0, 9⟩
abbrev F.RST_BOOT.STEP : Field := ⟨0x1134, 16, 4⟩
abbrev F.RST_BOOT.MS : Field := ⟨0x1134, 0, 16⟩
abbrev F.RST_PROV.CAUSE : Field := ⟨0x1138, 8, 8⟩
abbrev F.RST_PROV.ACTIVE : Field := ⟨0x1138, 1, 1⟩
abbrev F.RST_PROV.REQ : Field := ⟨0x1138, 0, 1⟩
abbrev F.PWM_IN.IIN : Field := ⟨0x2100, 16, 16⟩
abbrev F.PWM_IN.VIN : Field := ⟨0x2100, 0, 16⟩
abbrev F.PWM_STAT.ACK_HELD : Field := ⟨0x2104, 7, 1⟩
abbrev F.PWM_STAT.HU_READY : Field := ⟨0x2104, 6, 1⟩
abbrev F.PWM_STAT.HU_LOW : Field := ⟨0x2104, 5, 1⟩
abbrev F.PWM_STAT.OV : Field := ⟨0x2104, 3, 1⟩
abbrev F.PWM_STAT.MODE : Field := ⟨0x2104, 0, 3⟩
abbrev F.PWM_CEIL.LOW : Field := ⟨0x2108, 16, 16⟩
abbrev F.PWM_CEIL.NORM : Field := ⟨0x2108, 0, 16⟩
abbrev F.PWM_BUDGET.PLIM : Field := ⟨0x210C, 16, 16⟩
abbrev F.PWM_BUDGET.FIX : Field := ⟨0x210C, 0, 16⟩
abbrev F.PWM_POWER.PIN : Field := ⟨0x2110, 0, 16⟩
abbrev F.PWM_MODEL.EMEAS : Field := ⟨0x2114, 0, 16⟩
abbrev F.PWM_HU.VHU : Field := ⟨0x2118, 16, 16⟩
abbrev F.PWM_HU.ENERGY : Field := ⟨0x2118, 0, 16⟩
abbrev F.PWM_DOM_EN0.EN : Field := ⟨0x211C, 0, 32⟩
abbrev F.PWM_DOM_EN1.EN : Field := ⟨0x2120, 0, 32⟩
abbrev F.PWM_DOM_SEL.DOMAIN : Field := ⟨0x2124, 0, 6⟩
abbrev F.PWM_DOM_STAT.CYCLES : Field := ⟨0x2128, 16, 16⟩
abbrev F.PWM_DOM_STAT.STATE : Field := ⟨0x2128, 0, 3⟩
abbrev F.PWM_RAIL_SEL.RAIL : Field := ⟨0x212C, 0, 3⟩
abbrev F.PWM_RAIL.CURRENT : Field := ⟨0x2130, 16, 16⟩
abbrev F.PWM_RAIL.SHORT : Field := ⟨0x2130, 9, 1⟩
abbrev F.PWM_RAIL.SPARE_IN : Field := ⟨0x2130, 8, 1⟩
abbrev F.PWM_RAIL.FAILED : Field := ⟨0x2130, 4, 4⟩
abbrev F.PWM_RAIL.ACTIVE : Field := ⟨0x2130, 0, 4⟩
abbrev F.PWM_LOWLOG.DUR : Field := ⟨0x2134, 16, 16⟩
abbrev F.PWM_LOWLOG.VMIN : Field := ⟨0x2134, 0, 16⟩
abbrev F.PWM_CNT.LOSSES : Field := ⟨0x2138, 16, 16⟩
abbrev F.PWM_CNT.LOWS : Field := ⟨0x2138, 0, 16⟩
abbrev F.THM_SEL.SENSOR : Field := ⟨0x3100, 0, 4⟩
abbrev F.THM_SENS.PRED : Field := ⟨0x3104, 16, 16⟩
abbrev F.THM_SENS.READ : Field := ⟨0x3104, 0, 16⟩
abbrev F.THM_PARAM.TAU : Field := ⟨0x3108, 16, 16⟩
abbrev F.THM_PARAM.THETA : Field := ⟨0x3108, 0, 16⟩
abbrev F.THM_VALID.DISAGREE : Field := ⟨0x310C, 16, 12⟩
abbrev F.THM_VALID.VALID : Field := ⟨0x310C, 0, 12⟩
abbrev F.THM_TEMP.HOT : Field := ⟨0x3110, 16, 16⟩
abbrev F.THM_TEMP.CASE : Field := ⟨0x3110, 0, 16⟩
abbrev F.THM_LIMITS.RESUME : Field := ⟨0x3114, 24, 8⟩
abbrev F.THM_LIMITS.SHUT : Field := ⟨0x3114, 16, 8⟩
abbrev F.THM_LIMITS.LIM : Field := ⟨0x3114, 8, 8⟩
abbrev F.THM_LIMITS.THR : Field := ⟨0x3114, 0, 8⟩
abbrev F.THM_TOL.TOL : Field := ⟨0x3118, 0, 8⟩
abbrev F.THM_FT.EXCL : Field := ⟨0x311C, 16, 16⟩
abbrev F.THM_FT.FT : Field := ⟨0x311C, 0, 8⟩
abbrev F.CLK_XO.TRIM : Field := ⟨0x4100, 0, 24⟩
abbrev F.CLK_AGE.AGE : Field := ⟨0x4104, 0, 24⟩
abbrev F.CLK_PLL.LOSSES : Field := ⟨0x4108, 16, 16⟩
abbrev F.CLK_PLL.LOCK : Field := ⟨0x4108, 0, 6⟩
abbrev F.CLK_MON_STAT.FAULT : Field := ⟨0x410C, 16, 9⟩
abbrev F.CLK_MON_STAT.STABLE : Field := ⟨0x410C, 0, 9⟩
abbrev F.CLK_MON_SEL.MON : Field := ⟨0x4110, 0, 4⟩
abbrev F.CLK_MON_DEV.STATE : Field := ⟨0x4114, 16, 3⟩
abbrev F.CLK_MON_DEV.PPM : Field := ⟨0x4114, 0, 16⟩
abbrev F.TSY_CTL.STEP : Field := ⟨0x5100, 24, 8⟩
abbrev F.TSY_CTL.SLEW : Field := ⟨0x5100, 20, 4⟩
abbrev F.TSY_CTL.DOMAIN : Field := ⟨0x5100, 8, 8⟩
abbrev F.TSY_CTL.GM_EN : Field := ⟨0x5100, 7, 1⟩
abbrev F.TSY_CTL.TRANSPORT : Field := ⟨0x5100, 5, 2⟩
abbrev F.TSY_CTL.PROFILE : Field := ⟨0x5100, 3, 2⟩
abbrev F.TSY_CTL.SRC : Field := ⟨0x5100, 0, 3⟩
abbrev F.TSY_STAT.PORT : Field := ⟨0x5104, 11, 1⟩
abbrev F.TSY_STAT.GM : Field := ⟨0x5104, 10, 1⟩
abbrev F.TSY_STAT.UTC_VALID : Field := ⟨0x5104, 9, 1⟩
abbrev F.TSY_STAT.TIME_SET : Field := ⟨0x5104, 8, 1⟩
abbrev F.TSY_STAT.SOURCE : Field := ⟨0x5104, 4, 3⟩
abbrev F.TSY_STAT.STATE : Field := ⟨0x5104, 0, 2⟩
abbrev F.TSY_TAI_LO.NS : Field := ⟨0x5108, 0, 32⟩
abbrev F.TSY_TAI_HI.NS : Field := ⟨0x510C, 0, 32⟩
abbrev F.TSY_SET_LO.NS : Field := ⟨0x5110, 0, 32⟩
abbrev F.TSY_SET_HI.NS : Field := ⟨0x5114, 0, 32⟩
abbrev F.TSY_SET_CTL.AT_PPS : Field := ⟨0x5118, 1, 1⟩
abbrev F.TSY_SET_CTL.APPLY : Field := ⟨0x5118, 0, 1⟩
abbrev F.TSY_OFS.VALUE : Field := ⟨0x511C, 0, 32⟩
abbrev F.TSY_PATH.VALUE : Field := ⟨0x5120, 0, 32⟩
abbrev F.TSY_UTC.LEAP59 : Field := ⟨0x5124, 17, 1⟩
abbrev F.TSY_UTC.LEAP61 : Field := ⟨0x5124, 16, 1⟩
abbrev F.TSY_UTC.OFFSET : Field := ⟨0x5124, 0, 16⟩
abbrev F.TSY_GM_LO.ID : Field := ⟨0x5128, 0, 32⟩
abbrev F.TSY_GM_HI.ID : Field := ⟨0x512C, 0, 32⟩
abbrev F.TSY_PULSE.NS : Field := ⟨0x5130, 0, 32⟩
abbrev F.TSY_STEPS.HOLDS : Field := ⟨0x5134, 16, 16⟩
abbrev F.TSY_STEPS.STEPS : Field := ⟨0x5134, 0, 16⟩
abbrev F.TSY_LAST_STEP.NS : Field := ⟨0x5138, 0, 32⟩
abbrev F.TSY_FWD.COUNT : Field := ⟨0x513C, 0, 32⟩
abbrev F.TSY_PPS.REJECT : Field := ⟨0x5140, 16, 16⟩
abbrev F.TSY_PPS.ERR : Field := ⟨0x5140, 0, 16⟩
abbrev F.TSY_HOLD.S : Field := ⟨0x5144, 0, 32⟩
abbrev F.CAL_CTL.CREEP_EN : Field := ⟨0x6100, 1, 1⟩
abbrev F.CAL_CTL.WEAR_EN : Field := ⟨0x6100, 0, 1⟩
abbrev F.CAL_SCHED.ETD_INT : Field := ⟨0x6104, 0, 16⟩
abbrev F.CAL_WEAR_TAP.LOW : Field := ⟨0x6108, 16, 8⟩
abbrev F.CAL_WEAR_TAP.DRIFT : Field := ⟨0x6108, 0, 16⟩
abbrev F.CAL_WEAR_MEM.DRAM : Field := ⟨0x610C, 16, 16⟩
abbrev F.CAL_WEAR_MEM.SRAM : Field := ⟨0x610C, 0, 16⟩
abbrev F.CAL_WEAR_LANE.EYE_TIME : Field := ⟨0x6110, 16, 16⟩
abbrev F.CAL_WEAR_LANE.EYE_MIN : Field := ⟨0x6110, 0, 16⟩
abbrev F.CAL_CREEP.NEAR : Field := ⟨0x6114, 16, 16⟩
abbrev F.CAL_CREEP.LIMIT : Field := ⟨0x6114, 0, 16⟩
abbrev F.CAL_TRACE.RUNS : Field := ⟨0x6118, 16, 16⟩
abbrev F.CAL_TRACE.LEVEL : Field := ⟨0x6118, 0, 2⟩
abbrev F.CAL_RCAL_CTL.GO : Field := ⟨0x611C, 31, 1⟩
abbrev F.CAL_RCAL_CTL.ABORT : Field := ⟨0x611C, 30, 1⟩
abbrev F.CAL_RCAL_CTL.TOL : Field := ⟨0x611C, 16, 8⟩
abbrev F.CAL_RCAL_CTL.N : Field := ⟨0x611C, 0, 16⟩
abbrev F.CAL_RCAL_RANGE.TRUE : Field := ⟨0x6120, 0, 24⟩
abbrev F.CAL_RCAL_CH.LAST : Field := ⟨0x6124, 16, 10⟩
abbrev F.CAL_RCAL_CH.FIRST : Field := ⟨0x6124, 0, 10⟩
abbrev F.CAL_RCAL_STAT.VALID : Field := ⟨0x6128, 16, 11⟩
abbrev F.CAL_RCAL_STAT.STATE : Field := ⟨0x6128, 0, 3⟩
abbrev F.CAL_RCAL_SEL.CHANNEL : Field := ⟨0x612C, 0, 10⟩
abbrev F.CAL_RCAL_RES.ERR : Field := ⟨0x6130, 16, 16⟩
abbrev F.CAL_RCAL_RES.COUNT : Field := ⟨0x6130, 0, 16⟩
abbrev F.CAL_RCAL_SPREAD.VALID : Field := ⟨0x6134, 16, 1⟩
abbrev F.CAL_RCAL_SPREAD.SPREAD : Field := ⟨0x6134, 0, 16⟩
abbrev F.CAL_RCAL_TEMP.T : Field := ⟨0x6138, 0, 16⟩
abbrev F.CAL_POOL_SEL.KIND : Field := ⟨0x613C, 0, 4⟩
abbrev F.CAL_POOL_CNT.LEFT : Field := ⟨0x6140, 16, 16⟩
abbrev F.CAL_POOL_CNT.USED : Field := ⟨0x6140, 0, 16⟩
abbrev F.CAL_POOL_STAT.TOTAL : Field := ⟨0x6144, 16, 16⟩
abbrev F.CAL_POOL_STAT.FAILED : Field := ⟨0x6144, 8, 8⟩
abbrev F.CAL_POOL_STAT.WORN : Field := ⟨0x6144, 1, 1⟩
abbrev F.CAL_POOL_STAT.EXHAUSTED : Field := ⟨0x6144, 0, 1⟩
abbrev F.CAL_EXHAUST.KINDS : Field := ⟨0x6148, 0, 10⟩
abbrev F.CAL_REC.WRITES : Field := ⟨0x614C, 16, 16⟩
abbrev F.CAL_REC.LOST : Field := ⟨0x614C, 2, 1⟩
abbrev F.CAL_REC.COPY_B : Field := ⟨0x614C, 1, 1⟩
abbrev F.CAL_REC.COPY_A : Field := ⟨0x614C, 0, 1⟩
abbrev F.CAL_LINE_SEL.EMITTER : Field := ⟨0x6150, 0, 8⟩
abbrev F.CAL_LINE.RATIO : Field := ⟨0x6154, 16, 8⟩
abbrev F.CAL_LINE.NOECHO : Field := ⟨0x6154, 2, 1⟩
abbrev F.CAL_LINE.FAILED : Field := ⟨0x6154, 1, 1⟩
abbrev F.CAL_LINE.WORN : Field := ⟨0x6154, 0, 1⟩
abbrev F.CPU_CORES.FAILED : Field := ⟨0x7100, 8, 5⟩
abbrev F.CPU_CORES.ACTIVE : Field := ⟨0x7100, 0, 5⟩
abbrev F.CPU_IMG.ROLLBACK : Field := ⟨0x7104, 16, 8⟩
abbrev F.CPU_IMG.BOOTED : Field := ⟨0x7104, 8, 1⟩
abbrev F.CPU_IMG.SLOT1 : Field := ⟨0x7104, 4, 4⟩
abbrev F.CPU_IMG.SLOT0 : Field := ⟨0x7104, 0, 4⟩
abbrev F.CPU_FENCE.VIOL : Field := ⟨0x7108, 0, 7⟩
abbrev F.CPU_FENCE_ADDR.CORE : Field := ⟨0x710C, 24, 3⟩
abbrev F.CPU_FENCE_ADDR.ADDR : Field := ⟨0x710C, 0, 24⟩
abbrev F.CPU_FENCE_CNT.COUNT : Field := ⟨0x7110, 0, 16⟩
abbrev F.CPU_WDT.PERIOD : Field := ⟨0x7114, 0, 16⟩
abbrev F.CPU_AUTH.SLOTS : Field := ⟨0x7118, 16, 16⟩
abbrev F.CPU_AUTH.REQUIRE : Field := ⟨0x7118, 0, 1⟩
abbrev F.SCH_BANK.SEL : Field := ⟨0x8100, 0, 1⟩
abbrev F.SCH_BANK_STAT.HELD_B : Field := ⟨0x8104, 4, 1⟩
abbrev F.SCH_BANK_STAT.HELD_A : Field := ⟨0x8104, 3, 1⟩
abbrev F.SCH_BANK_STAT.INUSE_B : Field := ⟨0x8104, 2, 1⟩
abbrev F.SCH_BANK_STAT.INUSE_A : Field := ⟨0x8104, 1, 1⟩
abbrev F.SCH_BANK_STAT.ACTIVE : Field := ⟨0x8104, 0, 1⟩
abbrev F.SCH_PROG.RPM : Field := ⟨0x8108, 16, 16⟩
abbrev F.SCH_PROG.REVS : Field := ⟨0x8108, 8, 8⟩
abbrev F.SCH_PROG.FACETS : Field := ⟨0x8108, 0, 4⟩
abbrev F.SCH_P0_CTL.SLACK : Field := ⟨0x810C, 0, 4⟩
abbrev F.SCH_THERM_TAU.VALUE : Field := ⟨0x8110, 0, 16⟩
abbrev F.SCH_THERM_THR.VALUE : Field := ⟨0x8114, 0, 16⟩
abbrev F.SCH_THERM_LIM.VALUE : Field := ⟨0x8118, 0, 16⟩
abbrev F.SCH_EGR_THR.P4 : Field := ⟨0x811C, 24, 8⟩
abbrev F.SCH_EGR_THR.P3 : Field := ⟨0x811C, 16, 8⟩
abbrev F.SCH_EGR_THR.P2 : Field := ⟨0x811C, 8, 8⟩
abbrev F.SCH_EGR_THR.P1 : Field := ⟨0x811C, 0, 8⟩
abbrev F.SCH_PWR_CAP.USED : Field := ⟨0x8120, 16, 16⟩
abbrev F.SCH_PWR_CAP.CAP : Field := ⟨0x8120, 0, 16⟩
abbrev F.SCH_HEAT_SEL.EMITTER : Field := ⟨0x8124, 0, 8⟩
abbrev F.SCH_HEAT_VAL.F : Field := ⟨0x8128, 24, 8⟩
abbrev F.SCH_HEAT_VAL.HEAT : Field := ⟨0x8128, 0, 24⟩
abbrev F.SCH_FRAME_STAT.BUDGET_RUN : Field := ⟨0x812C, 4, 4⟩
abbrev F.SCH_FRAME_STAT.TRUNCATED : Field := ⟨0x812C, 1, 1⟩
abbrev F.SCH_FRAME_STAT.TRANSITION : Field := ⟨0x812C, 0, 1⟩
abbrev F.SCH_PLAN_P.COUNT : Field := ⟨0x8130, 0, 32⟩
abbrev F.SCH_START_P.COUNT : Field := ⟨0x8144, 0, 32⟩
abbrev F.SCH_REASON.ODD : Field := ⟨0x8158, 16, 16⟩
abbrev F.SCH_REASON.EVEN : Field := ⟨0x8158, 0, 16⟩
abbrev F.SCH_REASON4.TRUNC : Field := ⟨0x8168, 0, 16⟩
abbrev F.SCH_EXC_LOST.COUNT : Field := ⟨0x816C, 0, 32⟩
abbrev F.STE_CTL.SAFE_DRV : Field := ⟨0x9100, 12, 1⟩
abbrev F.STE_CTL.GV_HKA : Field := ⟨0x9100, 8, 4⟩
abbrev F.STE_CTL.GV_FB : Field := ⟨0x9100, 6, 1⟩
abbrev F.STE_CTL.GV_SRC : Field := ⟨0x9100, 4, 2⟩
abbrev F.STE_CTL.REFSRC : Field := ⟨0x9100, 2, 2⟩
abbrev F.STE_CTL.MODE : Field := ⟨0x9100, 0, 2⟩
abbrev F.STE_RPM.RAMP : Field := ⟨0x9104, 16, 16⟩
abbrev F.STE_RPM.TARGET : Field := ⟨0x9104, 0, 16⟩
abbrev F.STE_PHASE.STEP : Field := ⟨0x9108, 24, 8⟩
abbrev F.STE_PHASE.BASE : Field := ⟨0x9108, 0, 24⟩
abbrev F.STE_BAND.PH_TOL : Field := ⟨0x910C, 16, 16⟩
abbrev F.STE_BAND.SP_TOL : Field := ⟨0x910C, 0, 16⟩
abbrev F.STE_ILK.STALL : Field := ⟨0x9110, 24, 8⟩
abbrev F.STE_ILK.HI : Field := ⟨0x9110, 8, 8⟩
abbrev F.STE_ILK.LO : Field := ⟨0x9110, 0, 8⟩
abbrev F.STE_ENC.GV_STALL : Field := ⟨0x9114, 16, 16⟩
abbrev F.STE_ENC.CPR : Field := ⟨0x9114, 0, 16⟩
abbrev F.STE_PG_GAIN.KP : Field := ⟨0x9118, 16, 16⟩
abbrev F.STE_PG_GAIN.KI : Field := ⟨0x9118, 0, 16⟩
abbrev F.STE_GV_GAIN.KP : Field := ⟨0x911C, 16, 16⟩
abbrev F.STE_GV_GAIN.KI : Field := ⟨0x911C, 0, 16⟩
abbrev F.STE_LOCK.DWELL : Field := ⟨0x9120, 16, 16⟩
abbrev F.STE_LOCK.KPH : Field := ⟨0x9120, 0, 16⟩
abbrev F.STE_PG_LIM.ILIM : Field := ⟨0x9124, 16, 16⟩
abbrev F.STE_PG_LIM.OLIM : Field := ⟨0x9124, 0, 16⟩
abbrev F.STE_GV_LIM.ILIM : Field := ⟨0x9128, 16, 16⟩
abbrev F.STE_GV_LIM.OLIM : Field := ⟨0x9128, 0, 16⟩
abbrev F.STE_GV_KD.KD : Field := ⟨0x912C, 0, 16⟩
abbrev F.STE_GV_TOL.SETTLE : Field := ⟨0x9130, 0, 16⟩
abbrev F.STE_GV_CAL.GAIN : Field := ⟨0x9134, 16, 16⟩
abbrev F.STE_GV_CAL.OFS : Field := ⟨0x9134, 0, 16⟩
abbrev F.STE_PWM.GV_DIV : Field := ⟨0x9138, 16, 16⟩
abbrev F.STE_PWM.PG_DIV : Field := ⟨0x9138, 0, 16⟩
abbrev F.STE_TMO.TRANS : Field := ⟨0x913C, 16, 16⟩
abbrev F.STE_TMO.SPIN : Field := ⟨0x913C, 0, 16⟩
abbrev F.STE_FACET_TRIM.TRIM : Field := ⟨0x9140, 0, 24⟩
abbrev F.STE_STAT.ILK_COND : Field := ⟨0x9160, 7, 1⟩
abbrev F.STE_STAT.TEST : Field := ⟨0x9160, 6, 1⟩
abbrev F.STE_STAT.ILK : Field := ⟨0x9160, 5, 1⟩
abbrev F.STE_STAT.VALID : Field := ⟨0x9160, 4, 1⟩
abbrev F.STE_STAT.REF_OK : Field := ⟨0x9160, 3, 1⟩
abbrev F.STE_STAT.GV_SET : Field := ⟨0x9160, 2, 1⟩
abbrev F.STE_STAT.PH_IN : Field := ⟨0x9160, 1, 1⟩
abbrev F.STE_STAT.LOCK : Field := ⟨0x9160, 0, 1⟩
abbrev F.STE_SAT.GV : Field := ⟨0x9164, 5, 4⟩
abbrev F.STE_SAT.HAND : Field := ⟨0x9164, 4, 1⟩
abbrev F.STE_SAT.PG : Field := ⟨0x9164, 0, 4⟩
abbrev F.STE_SPEED.RPM : Field := ⟨0x9168, 0, 32⟩
abbrev F.STE_PHERR.CODES : Field := ⟨0x916C, 0, 32⟩
abbrev F.STE_GV_POS.ERR : Field := ⟨0x9170, 16, 16⟩
abbrev F.STE_GV_POS.POS : Field := ⟨0x9170, 0, 16⟩
abbrev F.STE_ILK_STAT.TRIPS : Field := ⟨0x9174, 16, 16⟩
abbrev F.STE_ILK_STAT.COND : Field := ⟨0x9174, 4, 4⟩
abbrev F.STE_ILK_STAT.FIRST : Field := ⟨0x9174, 0, 4⟩
abbrev F.STE_REF_STAT.REJECT : Field := ⟨0x9178, 16, 16⟩
abbrev F.STE_REF_STAT.MISSED : Field := ⟨0x9178, 0, 16⟩
abbrev F.STE_TEST.AMP : Field := ⟨0x9180, 16, 16⟩
abbrev F.STE_TEST.ARM : Field := ⟨0x9180, 5, 1⟩
abbrev F.STE_TEST.POINT : Field := ⟨0x9180, 4, 1⟩
abbrev F.STE_TEST.LOOP : Field := ⟨0x9180, 3, 1⟩
abbrev F.STE_TEST.TYPE : Field := ⟨0x9180, 0, 2⟩
abbrev F.STE_TEST_PAR.F1 : Field := ⟨0x9184, 16, 16⟩
abbrev F.STE_TEST_PAR.F0 : Field := ⟨0x9184, 0, 16⟩
abbrev F.STE_TEST_LEN.SAMPLES : Field := ⟨0x9188, 0, 32⟩
abbrev F.EMT_CHAIN_CTL.TSRC : Field := ⟨0xA100, 28, 4⟩
abbrev F.EMT_CHAIN_CTL.TOFF : Field := ⟨0xA100, 16, 8⟩
abbrev F.EMT_CHAIN_CTL.DIV : Field := ⟨0xA100, 8, 8⟩
abbrev F.EMT_CHAIN_CTL.COMPAT : Field := ⟨0xA100, 1, 1⟩
abbrev F.EMT_CHAIN_CTL.EN : Field := ⟨0xA100, 0, 1⟩
abbrev F.EMT_CHAIN_STAT.LOADS : Field := ⟨0xA110, 16, 16⟩
abbrev F.EMT_CHAIN_STAT.TSTALE : Field := ⟨0xA110, 3, 1⟩
abbrev F.EMT_CHAIN_STAT.STATE : Field := ⟨0xA110, 0, 3⟩
abbrev F.EMT_TEMP.T : Field := ⟨0xA120, 0, 16⟩
abbrev F.EMT_WL.ACCEPT : Field := ⟨0xA130, 0, 16⟩
abbrev F.EMT_ZONE_SEL.ZONE : Field := ⟨0xA134, 0, 4⟩
abbrev F.EMT_ZONE_CEIL.LONG : Field := ⟨0xA138, 16, 16⟩
abbrev F.EMT_ZONE_CEIL.SHORT : Field := ⟨0xA138, 0, 16⟩
abbrev F.EMT_ZONE_FUSED.LONG : Field := ⟨0xA13C, 16, 16⟩
abbrev F.EMT_ZONE_FUSED.SHORT : Field := ⟨0xA13C, 0, 16⟩
abbrev F.EMT_ZONE_USE.LONG : Field := ⟨0xA140, 16, 16⟩
abbrev F.EMT_ZONE_USE.SHORT : Field := ⟨0xA140, 0, 16⟩
abbrev F.EMT_ZONE_MAP.ZONES : Field := ⟨0xA144, 0, 32⟩
abbrev F.EMT_GUARD.SUPPR : Field := ⟨0xA184, 0, 32⟩
abbrev F.EMT_EMIT.LOADED : Field := ⟨0xA188, 3, 1⟩
abbrev F.EMT_EMIT.CHAINS : Field := ⟨0xA188, 2, 1⟩
abbrev F.EMT_EMIT.NOILK : Field := ⟨0xA188, 1, 1⟩
abbrev F.EMT_EMIT.LEVEL : Field := ⟨0xA188, 0, 1⟩
abbrev F.EMT_RSV.SEL : Field := ⟨0xA18C, 0, 32⟩
abbrev F.EMT_OUT_SEL.LINE : Field := ⟨0xA19C, 0, 7⟩
abbrev F.EMT_OUT.E : Field := ⟨0xA1A0, 16, 16⟩
abbrev F.EMT_OUT.DRIVE : Field := ⟨0xA1A0, 0, 12⟩
abbrev F.SHT_CODE.MODE : Field := ⟨0xB100, 0, 1⟩
abbrev F.SHT_SALT.SALT : Field := ⟨0xB104, 0, 32⟩
abbrev F.SHT_KEYCHK.CHECK : Field := ⟨0xB108, 0, 16⟩
abbrev F.SHT_CELL.TWO : Field := ⟨0xB10C, 16, 16⟩
abbrev F.SHT_CELL.ONE : Field := ⟨0xB10C, 0, 16⟩
abbrev F.SHT_BANK_SEL.BANK : Field := ⟨0xB110, 0, 4⟩
abbrev F.SHT_BANK_STAT.DELAYED : Field := ⟨0xB114, 16, 16⟩
abbrev F.SHT_BANK_STAT.SUPPR : Field := ⟨0xB114, 0, 16⟩
abbrev F.SHT_TRAINS.COUNT : Field := ⟨0xB118, 0, 32⟩
abbrev F.SHT_PULSES.COUNT : Field := ⟨0xB11C, 0, 32⟩
abbrev F.ETD_CTL.GATE : Field := ⟨0xC100, 8, 8⟩
abbrev F.ETD_CTL.GATE8 : Field := ⟨0xC100, 2, 1⟩
abbrev F.ETD_CTL.REFLOOP : Field := ⟨0xC100, 1, 1⟩
abbrev F.ETD_CTL.EMON_POL : Field := ⟨0xC100, 0, 1⟩
abbrev F.ETD_WIN.MAX : Field := ⟨0xC104, 16, 16⟩
abbrev F.ETD_WIN.MIN : Field := ⟨0xC104, 0, 16⟩
abbrev F.ETD_ZERO.ZERO : Field := ⟨0xC108, 0, 16⟩
abbrev F.ETD_MAP.LOCK : Field := ⟨0xC128, 16, 9⟩
abbrev F.ETD_MAP.SPARE_IN : Field := ⟨0xC128, 4, 1⟩
abbrev F.ETD_MAP.BANK : Field := ⟨0xC128, 0, 3⟩
abbrev F.ETD_TAPS_SEL.ETD : Field := ⟨0xC12C, 0, 4⟩
abbrev F.ETD_TBL.PROV : Field := ⟨0xC130, 17, 1⟩
abbrev F.ETD_TBL.STAGED : Field := ⟨0xC130, 16, 1⟩
abbrev F.ETD_TBL.GEN : Field := ⟨0xC130, 0, 16⟩
abbrev F.ETD_TAPS.DNL_MAX : Field := ⟨0xC134, 16, 16⟩
abbrev F.ETD_TAPS.LEFT : Field := ⟨0xC134, 8, 8⟩
abbrev F.ETD_TAPS.USED : Field := ⟨0xC134, 0, 8⟩
abbrev F.ETD_BANK_SEL.BANK : Field := ⟨0xC138, 0, 3⟩
abbrev F.ETD_CNT_MEAS.MEASURED : Field := ⟨0xC13C, 0, 32⟩
abbrev F.ETD_CNT_A.HIGH : Field := ⟨0xC140, 16, 16⟩
abbrev F.ETD_CNT_A.LOW : Field := ⟨0xC140, 0, 16⟩
abbrev F.ETD_CNT_B.HIGH : Field := ⟨0xC144, 16, 16⟩
abbrev F.ETD_CNT_B.LOW : Field := ⟨0xC144, 0, 16⟩
abbrev F.ETD_CNT_C.HIGH : Field := ⟨0xC148, 16, 16⟩
abbrev F.ETD_CNT_C.LOW : Field := ⟨0xC148, 0, 16⟩
abbrev F.ETD_LINE_SEL.LINE : Field := ⟨0xC14C, 0, 7⟩
abbrev F.ETD_LINE.SPREAD : Field := ⟨0xC150, 16, 16⟩
abbrev F.ETD_LINE.LAT : Field := ⟨0xC150, 0, 16⟩
abbrev F.ETD_REF.SEEN : Field := ⟨0xC154, 16, 1⟩
abbrev F.ETD_REF.DELTA : Field := ⟨0xC154, 0, 16⟩
abbrev F.ETD_FAIL.EST : Field := ⟨0xC158, 0, 9⟩
abbrev F.RXC_CTL.DARK_MIN : Field := ⟨0xD100, 16, 16⟩
abbrev F.RXC_CTL.CDT_SRC : Field := ⟨0xD100, 4, 1⟩
abbrev F.RXC_CTL.AVG : Field := ⟨0xD100, 0, 3⟩
abbrev F.RXC_DARK.NS : Field := ⟨0xD104, 0, 32⟩
abbrev F.RXC_GRP_SEL.GROUP : Field := ⟨0xD108, 0, 4⟩
abbrev F.RXC_GRP_SPARE.SPARES : Field := ⟨0xD10C, 0, 32⟩
abbrev F.RXC_GRP_STAT.FAILED : Field := ⟨0xD110, 24, 8⟩
abbrev F.RXC_GRP_STAT.NOSMP : Field := ⟨0xD110, 16, 8⟩
abbrev F.RXC_GRP_STAT.QHWM : Field := ⟨0xD110, 0, 9⟩
abbrev F.RXC_GRP_FWD.COUNT : Field := ⟨0xD114, 0, 32⟩
abbrev F.RXC_GRP_OVL.COUNT : Field := ⟨0xD118, 0, 32⟩
abbrev F.RXC_SMP_SEL.SAMPLER : Field := ⟨0xD11C, 0, 7⟩
abbrev F.RXC_SMP_STAT.HITS : Field := ⟨0xD120, 16, 16⟩
abbrev F.RXC_SMP_STAT.SRC : Field := ⟨0xD120, 10, 1⟩
abbrev F.RXC_SMP_STAT.LOCK : Field := ⟨0xD120, 9, 1⟩
abbrev F.RXC_SMP_STAT.FAILED : Field := ⟨0xD120, 8, 1⟩
abbrev F.RXC_SMP_STAT.IN_SERVICE : Field := ⟨0xD120, 7, 1⟩
abbrev F.RXC_SMP_STAT.CHANNEL : Field := ⟨0xD120, 0, 7⟩
abbrev F.RXC_SMP_TBL.CURRENT : Field := ⟨0xD124, 18, 1⟩
abbrev F.RXC_SMP_TBL.PROV : Field := ⟨0xD124, 17, 1⟩
abbrev F.RXC_SMP_TBL.STAGED : Field := ⟨0xD124, 16, 1⟩
abbrev F.RXC_SMP_TBL.GEN : Field := ⟨0xD124, 0, 16⟩
abbrev F.RXC_SMP_TAPS.DNL_MAX : Field := ⟨0xD128, 16, 16⟩
abbrev F.RXC_SMP_TAPS.LEFT : Field := ⟨0xD128, 8, 8⟩
abbrev F.RXC_SMP_TAPS.USED : Field := ⟨0xD128, 0, 8⟩
abbrev F.RXC_I2C_CFG.APPLY_EN : Field := ⟨0xD12C, 16, 4⟩
abbrev F.RXC_I2C_CFG.APPLY_SEQ : Field := ⟨0xD12C, 8, 8⟩
abbrev F.RXC_I2C_CFG.SPEED : Field := ⟨0xD12C, 0, 8⟩
abbrev F.RXC_I2C_APPLY.NACK : Field := ⟨0xD130, 4, 4⟩
abbrev F.RXC_I2C_APPLY.ACK : Field := ⟨0xD130, 0, 4⟩
abbrev F.RXC_I2C_CMD.GO : Field := ⟨0xD140, 31, 1⟩
abbrev F.RXC_I2C_CMD.RLEN : Field := ⟨0xD140, 16, 8⟩
abbrev F.RXC_I2C_CMD.WLEN : Field := ⟨0xD140, 8, 8⟩
abbrev F.RXC_I2C_CMD.ADDR : Field := ⟨0xD140, 0, 7⟩
abbrev F.RXC_I2C_STAT.DONE : Field := ⟨0xD144, 8, 8⟩
abbrev F.RXC_I2C_STAT.RESULT : Field := ⟨0xD144, 0, 4⟩
abbrev F.RXC_I2C_WD.DATA : Field := ⟨0xD148, 0, 32⟩
abbrev F.RXC_I2C_RD.DATA : Field := ⟨0xD158, 0, 32⟩
abbrev F.GRN_START.OFS : Field := ⟨0xE100, 0, 8⟩
abbrev F.GRN_ZOOM.THR : Field := ⟨0xE104, 16, 16⟩
abbrev F.GRN_ZOOM.EN : Field := ⟨0xE104, 5, 1⟩
abbrev F.GRN_ZOOM.PASS1 : Field := ⟨0xE104, 0, 5⟩
abbrev F.GRN_CTL.AMB_SUB : Field := ⟨0xE108, 0, 1⟩
abbrev F.GRN_WEIGHT.W : Field := ⟨0xE10C, 0, 32⟩
abbrev F.GRN_P0_RES.RES : Field := ⟨0xE11C, 0, 9⟩
abbrev F.GRN_ENG_SEL.ENGINE : Field := ⟨0xE120, 0, 3⟩
abbrev F.GRN_ENG_SLOTS.OPEN : Field := ⟨0xE124, 16, 10⟩
abbrev F.GRN_ENG_SLOTS.FREE : Field := ⟨0xE124, 0, 10⟩
abbrev F.GRN_ENG_TMAP.MAP : Field := ⟨0xE128, 0, 32⟩
abbrev F.GRN_ENG_TSTAT.DRAIN : Field := ⟨0xE12C, 16, 9⟩
abbrev F.GRN_ENG_TSTAT.FAILED : Field := ⟨0xE12C, 0, 9⟩
abbrev F.GRN_ENG_UPD.COUNT : Field := ⟨0xE130, 0, 32⟩
abbrev F.GRN_ENG_PEAK.RATE : Field := ⟨0xE134, 0, 16⟩
abbrev F.GRN_ENG_EMPTY.US : Field := ⟨0xE138, 0, 32⟩
abbrev F.GRN_ENG_ERR.UNCORR : Field := ⟨0xE13C, 16, 16⟩
abbrev F.GRN_ENG_ERR.CORR : Field := ⟨0xE13C, 0, 16⟩
abbrev F.GRN_MEAS.COUNT : Field := ⟨0xE140, 0, 32⟩
abbrev F.GRN_FAULTED.COUNT : Field := ⟨0xE144, 0, 32⟩
abbrev F.GRN_NOCAND.COUNT : Field := ⟨0xE148, 0, 32⟩
abbrev F.GRN_ABSENT.COUNT : Field := ⟨0xE14C, 0, 32⟩
abbrev F.GRN_OUTSIDE.COUNT : Field := ⟨0xE150, 0, 32⟩
abbrev F.GRN_LOST.COUNT : Field := ⟨0xE154, 0, 32⟩
abbrev F.GRN_LATE.COUNT : Field := ⟨0xE158, 0, 32⟩
abbrev F.CRM_DET.MIN : Field := ⟨0xF100, 16, 16⟩
abbrev F.CRM_DET.K : Field := ⟨0xF100, 8, 8⟩
abbrev F.CRM_DET.MAXRET : Field := ⟨0xF100, 0, 3⟩
abbrev F.CRM_CENT.PERSIST_T : Field := ⟨0xF104, 16, 16⟩
abbrev F.CRM_CENT.ZOOM : Field := ⟨0xF104, 8, 1⟩
abbrev F.CRM_CENT.HALF : Field := ⟨0xF104, 0, 4⟩
abbrev F.CRM_PILE.SATL : Field := ⟨0xF108, 24, 8⟩
abbrev F.CRM_PILE.TD : Field := ⟨0xF108, 16, 8⟩
abbrev F.CRM_PILE.BINS : Field := ⟨0xF108, 0, 5⟩
abbrev F.CRM_CLASS.XT : Field := ⟨0xF10C, 24, 8⟩
abbrev F.CRM_CLASS.RAIN_W : Field := ⟨0xF10C, 16, 8⟩
abbrev F.CRM_CLASS.RAIN_I : Field := ⟨0xF10C, 0, 12⟩
abbrev F.CRM_RAIN.RAIN_R : Field := ⟨0xF110, 16, 16⟩
abbrev F.CRM_RAIN.PERSIST_R : Field := ⟨0xF110, 0, 16⟩
abbrev F.CRM_OUT.RCLASS : Field := ⟨0xF114, 8, 4⟩
abbrev F.CRM_OUT.PCLASS : Field := ⟨0xF114, 0, 5⟩
abbrev F.CRM_RANGE_OFS.OFS : Field := ⟨0xF118, 0, 24⟩
abbrev F.CRM_BS_ROLL.ANGLE : Field := ⟨0xF11C, 0, 24⟩
abbrev F.CRM_BS_PITCH.ANGLE : Field := ⟨0xF120, 0, 24⟩
abbrev F.CRM_BS_YAW.ANGLE : Field := ⟨0xF124, 0, 24⟩
abbrev F.CRM_BS_TX.T : Field := ⟨0xF128, 0, 32⟩
abbrev F.CRM_BS_TY.T : Field := ⟨0xF12C, 0, 32⟩
abbrev F.CRM_BS_TZ.T : Field := ⟨0xF130, 0, 32⟩
abbrev F.CRM_GV_EL.GAIN : Field := ⟨0xF134, 0, 16⟩
abbrev F.CRM_MOUNT.STALE_MS : Field := ⟨0xF138, 8, 8⟩
abbrev F.CRM_MOUNT.STALE : Field := ⟨0xF138, 1, 1⟩
abbrev F.CRM_MOUNT.EN : Field := ⟨0xF138, 0, 1⟩
abbrev F.CRM_MNT_ROLL.ANGLE : Field := ⟨0xF13C, 0, 24⟩
abbrev F.CRM_MNT_PITCH.ANGLE : Field := ⟨0xF140, 0, 24⟩
abbrev F.CRM_MNT_YAW.ANGLE : Field := ⟨0xF144, 0, 24⟩
abbrev F.CRM_FACET_EL.EL : Field := ⟨0xF148, 0, 24⟩
abbrev F.CRM_SUB.EL : Field := ⟨0xF168, 16, 16⟩
abbrev F.CRM_SUB.AZ : Field := ⟨0xF168, 0, 16⟩
abbrev F.CRM_LINE.EL : Field := ⟨0xF200, 16, 16⟩
abbrev F.CRM_LINE.AZ : Field := ⟨0xF200, 0, 16⟩
abbrev F.CRM_RET.COUNT : Field := ⟨0xF188, 0, 32⟩
abbrev F.CRM_CLS.COUNT : Field := ⟨0xF18C, 0, 32⟩
abbrev F.CRM_SAT.COUNT : Field := ⟨0xF19C, 0, 32⟩
abbrev F.CRM_DROP.ELSAT : Field := ⟨0xF1A0, 16, 16⟩
abbrev F.CRM_DROP.NEG : Field := ⟨0xF1A0, 0, 16⟩
abbrev F.CRM_BACKLOG.NOW : Field := ⟨0xF1A4, 16, 13⟩
abbrev F.CRM_BACKLOG.PEAK : Field := ⟨0xF1A4, 0, 13⟩
abbrev F.SFA_IMG_STAT.B_OK : Field := ⟨0x10100, 4, 1⟩
abbrev F.SFA_IMG_STAT.A_OK : Field := ⟨0x10100, 3, 1⟩
abbrev F.SFA_IMG_STAT.STAGED : Field := ⟨0x10100, 2, 1⟩
abbrev F.SFA_IMG_STAT.B_ACTIVE : Field := ⟨0x10100, 1, 1⟩
abbrev F.SFA_IMG_STAT.ACTIVE : Field := ⟨0x10100, 0, 1⟩
abbrev F.SFA_IMG_ACTIVE.ID : Field := ⟨0x10104, 0, 32⟩
abbrev F.SFA_IMG_STAGED.ID : Field := ⟨0x10108, 0, 32⟩
abbrev F.SFA_IMG_SEQ.SEQ : Field := ⟨0x1010C, 0, 8⟩
abbrev F.SFA_FSET.SEQ : Field := ⟨0x10110, 16, 16⟩
abbrev F.SFA_FSET.PEND : Field := ⟨0x10110, 11, 1⟩
abbrev F.SFA_FSET.PENDING : Field := ⟨0x10110, 8, 3⟩
abbrev F.SFA_FSET.ACTIVE : Field := ⟨0x10110, 0, 3⟩
abbrev F.SFA_SEL.SEQ : Field := ⟨0x10114, 16, 16⟩
abbrev F.SFA_SEL.SET : Field := ⟨0x10114, 0, 3⟩
abbrev F.SFA_SEL_CODE.CODE : Field := ⟨0x10118, 0, 32⟩
abbrev F.SFA_CLEAR.KEY : Field := ⟨0x10128, 0, 32⟩
abbrev F.SFA_OSSD.IL_WAIT : Field := ⟨0x1012C, 8, 1⟩
abbrev F.SFA_OSSD.CLR_ARMED : Field := ⟨0x1012C, 7, 1⟩
abbrev F.SFA_OSSD.RESTART : Field := ⟨0x1012C, 6, 1⟩
abbrev F.SFA_OSSD.FBB : Field := ⟨0x1012C, 5, 1⟩
abbrev F.SFA_OSSD.FBA : Field := ⟨0x1012C, 4, 1⟩
abbrev F.SFA_OSSD.PERMIT_B : Field := ⟨0x1012C, 3, 1⟩
abbrev F.SFA_OSSD.PERMIT_A : Field := ⟨0x1012C, 2, 1⟩
abbrev F.SFA_OSSD.OSSDB : Field := ⟨0x1012C, 1, 1⟩
abbrev F.SFA_OSSD.OSSDA : Field := ⟨0x1012C, 0, 1⟩
abbrev F.SFA_FIELD.RESULT : Field := ⟨0x10130, 0, 16⟩
abbrev F.SFA_DISC.DISAGREE : Field := ⟨0x10134, 16, 16⟩
abbrev F.SFA_DISC.RUN_MS : Field := ⟨0x10134, 0, 16⟩
abbrev F.SFA_CFG.RESTART_IL : Field := ⟨0x10138, 24, 1⟩
abbrev F.SFA_CFG.ON_FRAMES : Field := ⟨0x10138, 20, 4⟩
abbrev F.SFA_CFG.N : Field := ⟨0x10138, 16, 3⟩
abbrev F.SFA_CFG.TD : Field := ⟨0x10138, 0, 16⟩
abbrev F.SFA_RESP.US : Field := ⟨0x1013C, 0, 32⟩
abbrev F.SFA_LOCK.GONE : Field := ⟨0x10140, 18, 1⟩
abbrev F.SFA_LOCK.RECORD : Field := ⟨0x10140, 17, 1⟩
abbrev F.SFA_LOCK.LATCHED : Field := ⟨0x10140, 16, 1⟩
abbrev F.SFA_LOCK.CAUSE : Field := ⟨0x10140, 8, 8⟩
abbrev F.SFA_LOCK.WINDOW : Field := ⟨0x10140, 0, 8⟩
abbrev F.SFA_CNT.NOTEVAL : Field := ⟨0x10144, 16, 16⟩
abbrev F.SFA_CNT.OFFS : Field := ⟨0x10144, 0, 16⟩
abbrev F.SFA_RESTART.REJECTED : Field := ⟨0x10148, 16, 16⟩
abbrev F.SFA_RESTART.LAST_MS : Field := ⟨0x10148, 0, 16⟩
abbrev F.SFB_CLK.REF_OK : Field := ⟨0x1114C, 16, 1⟩
abbrev F.SFB_CLK.DEV : Field := ⟨0x1114C, 0, 16⟩
abbrev F.SFB_TEST.RUNS : Field := ⟨0x11150, 16, 16⟩
abbrev F.SFB_TEST.CRC_OK : Field := ⟨0x11150, 1, 1⟩
abbrev F.SFB_TEST.PASS : Field := ⟨0x11150, 0, 1⟩
abbrev F.NTA_CTL.IDLE : Field := ⟨0x12100, 8, 8⟩
abbrev F.NTA_CTL.DEEP : Field := ⟨0x12100, 6, 1⟩
abbrev F.NTA_CTL.SLEEP : Field := ⟨0x12100, 5, 1⟩
abbrev F.NTA_CTL.SPARE : Field := ⟨0x12100, 4, 1⟩
abbrev F.NTA_CTL.RATE : Field := ⟨0x12100, 2, 2⟩
abbrev F.NTA_CTL.MODE : Field := ⟨0x12100, 0, 2⟩
abbrev F.NTA_STAT.TX_ASLEEP : Field := ⟨0x12104, 15, 1⟩
abbrev F.NTA_STAT.RX_ASLEEP : Field := ⟨0x12104, 14, 1⟩
abbrev F.NTA_STAT.RING : Field := ⟨0x12104, 13, 1⟩
abbrev F.NTA_STAT.END : Field := ⟨0x12104, 12, 1⟩
abbrev F.NTA_STAT.HOSTSIDE : Field := ⟨0x12104, 11, 1⟩
abbrev F.NTA_STAT.PEER : Field := ⟨0x12104, 10, 1⟩
abbrev F.NTA_STAT.CHAIN : Field := ⟨0x12104, 9, 1⟩
abbrev F.NTA_STAT.RATE : Field := ⟨0x12104, 7, 2⟩
abbrev F.NTA_STAT.STAGE : Field := ⟨0x12104, 0, 3⟩
abbrev F.NTA_LANES.SPARE_RX : Field := ⟨0x12108, 29, 3⟩
abbrev F.NTA_LANES.TX_PRE : Field := ⟨0x12108, 24, 5⟩
abbrev F.NTA_LANES.SPARE_TX : Field := ⟨0x12108, 21, 3⟩
abbrev F.NTA_LANES.RX_PRE : Field := ⟨0x12108, 16, 5⟩
abbrev F.NTA_LANES.LOCK : Field := ⟨0x12108, 0, 5⟩
abbrev F.NTA_EYE.MARGIN : Field := ⟨0x1210C, 16, 16⟩
abbrev F.NTA_EYE.LANE : Field := ⟨0x1210C, 0, 3⟩
abbrev F.NTA_EGR.CEIL : Field := ⟨0x12110, 0, 9⟩
abbrev F.NTA_CREDIT.LEVEL : Field := ⟨0x12114, 24, 8⟩
abbrev F.NTA_CREDIT.FREE : Field := ⟨0x12114, 0, 13⟩
abbrev F.NTA_FEC.UNCORR : Field := ⟨0x12118, 16, 16⟩
abbrev F.NTA_FEC.CORR : Field := ⟨0x12118, 0, 16⟩
abbrev F.NTA_DROP.FWD : Field := ⟨0x1211C, 16, 16⟩
abbrev F.NTA_DROP.RXDROP : Field := ⟨0x1211C, 0, 16⟩
abbrev F.NTA_LINK.SWAPS : Field := ⟨0x12120, 16, 16⟩
abbrev F.NTA_LINK.DOWNS : Field := ⟨0x12120, 0, 16⟩
abbrev F.NTA_LAT.RX : Field := ⟨0x12124, 16, 16⟩
abbrev F.NTA_LAT.TX : Field := ⟨0x12124, 0, 16⟩
abbrev F.NTA_MAC_LO.MAC : Field := ⟨0x12128, 0, 32⟩
abbrev F.NTA_MAC_HI.MAC : Field := ⟨0x1212C, 0, 32⟩
abbrev F.NTA_IP.V6 : Field := ⟨0x12130, 2, 1⟩
abbrev F.NTA_IP.V4 : Field := ⟨0x12130, 0, 2⟩
abbrev F.NTA_IPV4_BASE.ADDR : Field := ⟨0x12134, 0, 32⟩
abbrev F.NTA_IPV4.ADDR : Field := ⟨0x12138, 0, 32⟩
abbrev F.NTA_IPV6_BASE.ADDR : Field := ⟨0x1213C, 0, 32⟩
abbrev F.NTA_CENSUS.ID : Field := ⟨0x1214C, 16, 16⟩
abbrev F.NTA_CENSUS.COUNT : Field := ⟨0x1214C, 9, 7⟩
abbrev F.NTA_CENSUS.OVERFLOW : Field := ⟨0x1214C, 8, 1⟩
abbrev F.NTA_CENSUS.CONFLICT : Field := ⟨0x1214C, 7, 1⟩
abbrev F.NTA_CENSUS_CFG.HOLD : Field := ⟨0x12150, 0, 16⟩
abbrev F.QUE_PORTS.STREAM : Field := ⟨0x14100, 16, 16⟩
abbrev F.QUE_PORTS.CTRL : Field := ⟨0x14100, 0, 16⟩
abbrev F.QUE_LEASE.QUEUE : Field := ⟨0x14104, 16, 16⟩
abbrev F.QUE_LEASE.SESSION : Field := ⟨0x14104, 0, 16⟩
abbrev F.QUE_RTO.INIT : Field := ⟨0x14108, 0, 16⟩
abbrev F.QUE_SESS.PEAK : Field := ⟨0x1410C, 16, 13⟩
abbrev F.QUE_SESS.OPEN : Field := ⟨0x1410C, 0, 13⟩
abbrev F.QUE_QUEUES.ACTIVE : Field := ⟨0x14110, 0, 15⟩
abbrev F.QUE_RETX.COUNT : Field := ⟨0x14114, 0, 32⟩
abbrev F.QUE_GAPS.COUNT : Field := ⟨0x14118, 0, 32⟩
abbrev F.QUE_ACKERR.EXCESS : Field := ⟨0x1411C, 16, 16⟩
abbrev F.QUE_ACKERR.PREMATURE : Field := ⟨0x1411C, 0, 16⟩
abbrev F.QUE_RXQ.DROPPED : Field := ⟨0x14120, 16, 16⟩
abbrev F.QUE_RXQ.FILL : Field := ⟨0x14120, 0, 13⟩
abbrev F.QUE_REJECT.AUTH : Field := ⟨0x14124, 16, 16⟩
abbrev F.QUE_REJECT.SEQ : Field := ⟨0x14124, 0, 16⟩
abbrev F.QUE_DROP.HDR : Field := ⟨0x14128, 16, 16⟩
abbrev F.QUE_DROP.ACK : Field := ⟨0x14128, 0, 16⟩
abbrev F.LDG_BANK.B_FAIL : Field := ⟨0x15100, 1, 1⟩
abbrev F.LDG_BANK.A_FAIL : Field := ⟨0x15100, 0, 1⟩
abbrev F.LDG_FILL.UNCOPIED : Field := ⟨0x15104, 16, 12⟩
abbrev F.LDG_FILL.HELD : Field := ⟨0x15104, 0, 15⟩
abbrev F.LDG_NOR.MARKER : Field := ⟨0x15108, 31, 1⟩
abbrev F.LDG_NOR.ENTRIES : Field := ⟨0x15108, 0, 19⟩
abbrev F.LDG_BOOT.COUNT : Field := ⟨0x1510C, 0, 16⟩
abbrev F.LDG_REGION_SEL.CLASS : Field := ⟨0x15110, 0, 4⟩
abbrev F.LDG_REGION.SIZE : Field := ⟨0x15114, 16, 16⟩
abbrev F.LDG_REGION.MAXAGE : Field := ⟨0x15114, 0, 16⟩
abbrev F.LDG_REGION_REQ.SIZE : Field := ⟨0x15118, 0, 16⟩
abbrev F.LDG_OLDEST.MS : Field := ⟨0x1511C, 0, 32⟩
abbrev F.LDG_RATE.MBS : Field := ⟨0x15120, 0, 32⟩
abbrev F.MEM_CHAN.FAILED : Field := ⟨0x16100, 16, 10⟩
abbrev F.MEM_CHAN.ACTIVE : Field := ⟨0x16100, 0, 10⟩
abbrev F.MEM_REBUILD.STATE : Field := ⟨0x16104, 30, 2⟩
abbrev F.MEM_REBUILD.FROM : Field := ⟨0x16104, 24, 4⟩
abbrev F.MEM_REBUILD.INTO : Field := ⟨0x16104, 20, 4⟩
abbrev F.MEM_REBUILD.PERMIL : Field := ⟨0x16104, 0, 10⟩
abbrev F.MEM_ERR_SEL.CHAN : Field := ⟨0x16108, 0, 4⟩
abbrev F.MEM_ERR.UNCORR : Field := ⟨0x1610C, 16, 16⟩
abbrev F.MEM_ERR.CORR : Field := ⟨0x1610C, 0, 16⟩
abbrev F.MEM_BW.READ : Field := ⟨0x16110, 16, 16⟩
abbrev F.MEM_BW.WRITE : Field := ⟨0x16110, 0, 16⟩
abbrev F.MEM_CAP.USABLE : Field := ⟨0x16114, 0, 16⟩
abbrev F.HKA_CTL.LEN : Field := ⟨0x17100, 8, 5⟩
abbrev F.HKA_CTL.SWTRIG : Field := ⟨0x17100, 7, 1⟩
abbrev F.HKA_CTL.STREAM : Field := ⟨0x17100, 5, 1⟩
abbrev F.HKA_CTL.DEST : Field := ⟨0x17100, 4, 1⟩
abbrev F.HKA_CTL.TRIG : Field := ⟨0x17100, 0, 3⟩
abbrev F.HKA_TIMER.PERIOD : Field := ⟨0x17104, 0, 24⟩
abbrev F.HKA_ENT.STREAM : Field := ⟨0x17108, 13, 1⟩
abbrev F.HKA_ENT.ALIGN : Field := ⟨0x17108, 12, 1⟩
abbrev F.HKA_ENT.CLASS : Field := ⟨0x17108, 11, 1⟩
abbrev F.HKA_ENT.SMPT : Field := ⟨0x17108, 8, 3⟩
abbrev F.HKA_ENT.GAIN : Field := ⟨0x17108, 6, 2⟩
abbrev F.HKA_ENT.DIFF : Field := ⟨0x17108, 5, 1⟩
abbrev F.HKA_ENT.POS : Field := ⟨0x17108, 0, 5⟩
abbrev F.HKA_WIN.HI : Field := ⟨0x17148, 16, 16⟩
abbrev F.HKA_WIN.LO : Field := ⟨0x17148, 0, 16⟩
abbrev F.HKA_RES.VALID : Field := ⟨0x17188, 31, 1⟩
abbrev F.HKA_RES.OVR : Field := ⟨0x17188, 30, 1⟩
abbrev F.HKA_RES.OUT : Field := ⟨0x17188, 29, 1⟩
abbrev F.HKA_RES.VALUE : Field := ⟨0x17188, 0, 16⟩
abbrev F.HKA_DATA.VALID : Field := ⟨0x171C8, 31, 1⟩
abbrev F.HKA_DATA.OVR : Field := ⟨0x171C8, 30, 1⟩
abbrev F.HKA_DATA.ENTRY : Field := ⟨0x171C8, 16, 4⟩
abbrev F.HKA_DATA.VALUE : Field := ⟨0x171C8, 0, 16⟩
abbrev F.HKA_STAT.MISSED : Field := ⟨0x171CC, 16, 16⟩
abbrev F.HKA_STAT.OUTMAP : Field := ⟨0x171CC, 0, 16⟩
abbrev F.HKA_SEQ.COUNT : Field := ⟨0x171D0, 0, 32⟩
abbrev F.HKA_OVR.INSERT : Field := ⟨0x171D4, 16, 16⟩
abbrev F.HKA_OVR.COUNT : Field := ⟨0x171D4, 0, 16⟩
abbrev F.HKA_CAL.FAIL : Field := ⟨0x171D8, 2, 1⟩
abbrev F.HKA_CAL.DONE : Field := ⟨0x171D8, 1, 1⟩
abbrev F.HKA_CAL.GO : Field := ⟨0x171D8, 0, 1⟩
abbrev F.HKA_CALF.GAINF : Field := ⟨0x171DC, 16, 16⟩
abbrev F.HKA_CALF.OFS : Field := ⟨0x171DC, 0, 16⟩
abbrev F.EXC_CH.CHK : Field := ⟨0x18100, 11, 1⟩
abbrev F.EXC_CH.WIRES : Field := ⟨0x18100, 10, 1⟩
abbrev F.EXC_CH.LEVEL : Field := ⟨0x18100, 8, 2⟩
abbrev F.EXC_CH.GAIN : Field := ⟨0x18100, 4, 3⟩
abbrev F.EXC_CH.EN : Field := ⟨0x18100, 0, 1⟩
abbrev F.EXC_STAT.SETTLE : Field := ⟨0x18130, 24, 8⟩
abbrev F.EXC_STAT.FLAGS : Field := ⟨0x18130, 1, 7⟩
abbrev F.EXC_STAT.GOOD : Field := ⟨0x18130, 0, 1⟩
abbrev F.EXC_IMP_SEL.CH : Field := ⟨0x18160, 0, 4⟩
abbrev F.EXC_IMP.PHASE : Field := ⟨0x18164, 16, 16⟩
abbrev F.EXC_IMP.MAG : Field := ⟨0x18164, 0, 16⟩
abbrev F.EXC_SCAL.GO : Field := ⟨0x18168, 31, 1⟩
abbrev F.EXC_SCAL.STATE : Field := ⟨0x18168, 24, 3⟩
abbrev F.EXC_SCAL.AVG : Field := ⟨0x18168, 16, 4⟩
abbrev F.EXC_SCAL.STEP : Field := ⟨0x18168, 8, 1⟩
abbrev F.EXC_SCAL.CH : Field := ⟨0x18168, 0, 4⟩
abbrev F.EXC_SCAL_TGT.VALUE : Field := ⟨0x1816C, 0, 32⟩
abbrev F.EXC_SCAL_OFS.VALUE : Field := ⟨0x18170, 0, 32⟩
abbrev F.EXC_SCAL_GAIN.VALUE : Field := ⟨0x18174, 0, 32⟩
abbrev F.EXC_MNT_CTL.DELIVERED : Field := ⟨0x18178, 1, 1⟩
abbrev F.EXC_MNT_CTL.EN : Field := ⟨0x18178, 0, 1⟩
abbrev F.EXC_MNT_CNT.HIGH : Field := ⟨0x1817C, 16, 16⟩
abbrev F.EXC_MNT_CNT.LOW : Field := ⟨0x1817C, 0, 16⟩
abbrev F.EXC_CNT.HIGH : Field := ⟨0x18180, 16, 16⟩
abbrev F.EXC_CNT.LOW : Field := ⟨0x18180, 0, 16⟩
abbrev F.EXC_MNT_M.M : Field := ⟨0x18184, 0, 32⟩
abbrev F.DFL_CTL.STREAM : Field := ⟨0x19100, 5, 1⟩
abbrev F.DFL_CTL.SRC : Field := ⟨0x19100, 4, 1⟩
abbrev F.DFL_CTL.BANK : Field := ⟨0x19100, 3, 1⟩
abbrev F.DFL_CTL.PRESET : Field := ⟨0x19100, 0, 2⟩
abbrev F.DFL_BANK_STAT.NTAPS : Field := ⟨0x19104, 16, 9⟩
abbrev F.DFL_BANK_STAT.HELD_B : Field := ⟨0x19104, 3, 1⟩
abbrev F.DFL_BANK_STAT.HELD_A : Field := ⟨0x19104, 2, 1⟩
abbrev F.DFL_BANK_STAT.INUSE_B : Field := ⟨0x19104, 1, 1⟩
abbrev F.DFL_BANK_STAT.INUSE_A : Field := ⟨0x19104, 0, 1⟩
abbrev F.DFL_DELAY.NS : Field := ⟨0x19108, 0, 32⟩
abbrev F.DFL_SKEW.NS : Field := ⟨0x1910C, 0, 32⟩
abbrev F.DFL_SETTLE.COUNT : Field := ⟨0x19110, 0, 8⟩
abbrev F.DFL_OUT_SEL.CH : Field := ⟨0x19114, 0, 4⟩
abbrev F.DFL_OUT_RAW.VALUE : Field := ⟨0x19118, 0, 32⟩
abbrev F.DFL_OUT_LIN.VALUE : Field := ⟨0x1911C, 0, 32⟩
abbrev F.DFL_SETS.COUNT : Field := ⟨0x19120, 0, 32⟩
abbrev F.REC_CTL.RECV_EN : Field := ⟨0x1A100, 5, 1⟩
abbrev F.REC_CTL.SEND_EN : Field := ⟨0x1A100, 4, 1⟩
abbrev F.REC_CTL.READOUT : Field := ⟨0x1A100, 3, 1⟩
abbrev F.REC_CTL.SWTRIG : Field := ⟨0x1A100, 2, 1⟩
abbrev F.REC_CTL.DISARM : Field := ⟨0x1A100, 1, 1⟩
abbrev F.REC_CTL.ARM : Field := ⟨0x1A100, 0, 1⟩
abbrev F.REC_STAT.EXTRA : Field := ⟨0x1A104, 16, 16⟩
abbrev F.REC_STAT.RST : Field := ⟨0x1A104, 10, 1⟩
abbrev F.REC_STAT.LOSS : Field := ⟨0x1A104, 9, 1⟩
abbrev F.REC_STAT.EARLY : Field := ⟨0x1A104, 8, 1⟩
abbrev F.REC_STAT.SEQ : Field := ⟨0x1A104, 4, 3⟩
abbrev F.REC_STAT.STATE : Field := ⟨0x1A104, 0, 3⟩
abbrev F.REC_SIZE.SIZE : Field := ⟨0x1A108, 16, 16⟩
abbrev F.REC_SIZE.REQ : Field := ⟨0x1A108, 0, 16⟩
abbrev F.REC_POST.KIB : Field := ⟨0x1A10C, 0, 22⟩
abbrev F.REC_SRC.SRC : Field := ⟨0x1A110, 0, 32⟩
abbrev F.REC_SPAN.SPAN : Field := ⟨0x1A114, 0, 32⟩
abbrev F.REC_MATCH.CODE : Field := ⟨0x1A118, 16, 16⟩
abbrev F.REC_MATCH.PAGE : Field := ⟨0x1A118, 8, 8⟩
abbrev F.REC_MATCH.KIND : Field := ⟨0x1A118, 0, 8⟩
abbrev F.REC_ST.ACT_B : Field := ⟨0x1A120, 24, 4⟩
abbrev F.REC_ST.NEXT_B : Field := ⟨0x1A120, 21, 3⟩
abbrev F.REC_ST.IN_B : Field := ⟨0x1A120, 16, 5⟩
abbrev F.REC_ST.ACT_A : Field := ⟨0x1A120, 8, 4⟩
abbrev F.REC_ST.NEXT_A : Field := ⟨0x1A120, 5, 3⟩
abbrev F.REC_ST.IN_A : Field := ⟨0x1A120, 0, 5⟩
abbrev F.REC_CNT.VALUE : Field := ⟨0x1A140, 16, 16⟩
abbrev F.REC_CNT.LIMIT : Field := ⟨0x1A140, 0, 16⟩
abbrev F.REC_TMR.REMAIN : Field := ⟨0x1A150, 16, 16⟩
abbrev F.REC_TMR.PERIOD : Field := ⟨0x1A150, 0, 16⟩
abbrev F.REC_IO.CABLE : Field := ⟨0x1A160, 16, 16⟩
abbrev F.REC_IO.WIDTH : Field := ⟨0x1A160, 8, 8⟩
abbrev F.REC_IO.DIR : Field := ⟨0x1A160, 0, 1⟩
abbrev F.REC_TRIG_LO.NS : Field := ⟨0x1A164, 0, 32⟩
abbrev F.REC_TRIG_HI.NS : Field := ⟨0x1A168, 0, 32⟩
abbrev F.REC_FILL.COUNT : Field := ⟨0x1A16C, 0, 32⟩
abbrev F.REC_DROP.COUNT : Field := ⟨0x1A170, 0, 32⟩
abbrev F.REC_CHAIN.COUNT : Field := ⟨0x1A174, 0, 32⟩
abbrev F.GIO_IN.MPRS_B : Field := ⟨0x1B100, 16, 1⟩
abbrev F.GIO_IN.MPRS_A : Field := ⟨0x1B100, 15, 1⟩
abbrev F.GIO_IN.TRIG_IO : Field := ⟨0x1B100, 14, 1⟩
abbrev F.GIO_IN.HKA_TRG : Field := ⟨0x1B100, 13, 1⟩
abbrev F.GIO_IN.PPS_IN : Field := ⟨0x1B100, 12, 1⟩
abbrev F.GIO_IN.FSYNC : Field := ⟨0x1B100, 11, 1⟩
abbrev F.GIO_IN.NRST : Field := ⟨0x1B100, 10, 1⟩
abbrev F.GIO_IN.EGATE : Field := ⟨0x1B100, 0, 9⟩
abbrev F.GIO_OUT.POLY_BRK : Field := ⟨0x1B104, 5, 1⟩
abbrev F.GIO_OUT.TRIG_IO : Field := ⟨0x1B104, 4, 1⟩
abbrev F.GIO_OUT.ALERT_N : Field := ⟨0x1B104, 3, 1⟩
abbrev F.GIO_OUT.OSSDB : Field := ⟨0x1B104, 2, 1⟩
abbrev F.GIO_OUT.OSSDA : Field := ⟨0x1B104, 1, 1⟩
abbrev F.GIO_OUT.EMIT_EN : Field := ⟨0x1B104, 0, 1⟩
abbrev F.GIO_DRV.PWM : Field := ⟨0x1B108, 4, 2⟩
abbrev F.GIO_DRV.FSEL : Field := ⟨0x1B108, 2, 2⟩
abbrev F.GIO_DRV.EC : Field := ⟨0x1B108, 0, 2⟩
abbrev F.GIO_PULL.EGATE : Field := ⟨0x1B10C, 4, 1⟩
abbrev F.GIO_PULL.HKA_TRG : Field := ⟨0x1B10C, 3, 1⟩
abbrev F.GIO_PULL.PPS_IN : Field := ⟨0x1B10C, 2, 1⟩
abbrev F.GIO_PULL.FSYNC : Field := ⟨0x1B10C, 1, 1⟩
abbrev F.GIO_PULL.ENC : Field := ⟨0x1B10C, 0, 1⟩
abbrev F.GIO_JTAG.SEEN : Field := ⟨0x1B110, 0, 1⟩

end Sys2Proof.Machine
end

