-- ==== Sys2Proof/Machine/ResetValues.lean ====
section
/-! DEFINITION. The register space as a whole: which page owns an address (R25, R26), the power domain of each page
(R10, R20), the field layout at an address, the registers a `_SEL` register multiplies, and the value every word
holds at reset (the Reset columns; log entries 1 and 2 for "—" and "F"). -/

namespace Sys2Proof.Machine

open RegTable in
/-- The registers of page `p` (R10, R31 and the pages' own rules). -/
def pageRegs : Nat → List RegSpec
  | 0 => header 0 0 0 0 ++ pageSYS
  | 1 => header 1 0 0 0 ++ pageRST
  | 2 => header 2 0 1 0 ++ pagePWM
  | 3 => header 3 0 0 0 ++ pageTHM
  | 4 => header 4 0 0 0 ++ pageCLK
  | 5 => header 5 0 0 0 ++ pageTSY
  | 6 => header 6 0 0 0 ++ pageCAL
  | 7 => header 7 0 0 0 ++ pageCPU
  | 8 => header 8 0 0 48640 ++ pageSCH
  | 9 => header 9 1 0 0 ++ pageSTE
  | 10 => header 10 1 1 0 ++ pageEMT
  | 11 => header 11 1 0 0 ++ pageSHT
  | 12 => header 12 1 1 0 ++ pageETD
  | 13 => header 13 1 1 0 ++ pageRXC
  | 14 => header 14 1 1 0 ++ pageGRN
  | 15 => header 15 1 0 0 ++ pageCRM
  | 16 => header 16 0 0 1 ++ pageSFA
  | 17 => header 17 0 0 1 ++ pageSFB
  | 18 => header 18 0 1 0 ++ pageNTA
  | 19 => header 19 0 1 0 ++ pageNTB
  | 20 => header 20 0 0 0 ++ pageQUE
  | 21 => header 21 0 0 0 ++ pageLDG
  | 22 => header 22 0 1 0 ++ pageMEM
  | 23 => header 23 1 0 0 ++ pageHKA
  | 24 => header 24 0 0 0 ++ pageEXC
  | 25 => header 25 0 0 0 ++ pageDFL
  | 26 => header 26 0 0 0 ++ pageREC
  | 27 => header 27 0 0 0 ++ pageGIO
  | _ => []

/-- The power domain that holds a page (R10; numbered as `PWM_DOM_EN0` numbers them). -/
def domainOfPage : Nat → Nat
  | 4 => 3 | 5 => 3 | 6 => 4 | 7 => 4 | 8 => 8 | 9 => 9 | 10 => 8 | 11 => 8 | 12 => 8 | 13 => 8
  | 14 => 12 | 15 => 11 | 16 => 1 | 17 => 2 | 18 => 6 | 19 => 7 | 20 => 5 | 21 => 5 | 22 => 5
  | 23 => 10 | 24 => 10 | 25 => 10 | 26 => 5 | _ => 0

/-- The datapath domains FIR, STE, ANA, CRM, GRN0 to GRN7 and RXS0 to RXS15 (R21). -/
def datapathDomain (d : Nat) : Bool := decide (8 ≤ d ∧ d < 36)

/-- The datapath pages of R34. -/
def datapathPage (p : Nat) : Bool := decide (8 ≤ p ∧ p < 16)

/-- The windows of R25. -/
inductive Region where
  | page (p off : Nat)
  | rxc (ch off : Nat)
  | que (q off : Nat)
  | bank (b off : Nat)
  | trim (e off : Nat)
  | slot (s off : Nat)
  | coef (b off : Nat)
  | lin (x off : Nat)
  | unmapped
  deriving DecidableEq, Repr

/-- The decoding of the register space (R25): an address beyond a window's populated extent is unmapped too. -/
def regionOf (a : Nat) : Region :=
  if a < 0x1C000 then .page (a / 0x1000) (a % 0x1000)
  else if 0x100000 ≤ a ∧ a < 0x110000 then .rxc ((a - 0x100000) / 64) (a % 64)
  else if 0x200000 ≤ a ∧ a < 0x300000 then .que ((a - 0x200000) / 64) (a % 64)
  else if 0x400000 ≤ a ∧ a < 0x600000 then .bank ((a - 0x400000) / 0x100000) (a % 0x100000)
  else if 0x600000 ≤ a ∧ a < 0x604000 then .trim ((a - 0x600000) / 64) (a % 64)
  else if 0x700000 ≤ a ∧ a < 0x720000 then .slot ((a - 0x700000) / 32) (a % 32)
  else if 0x800000 ≤ a ∧ a < 0x802000 then .coef ((a - 0x800000) / 0x1000) (a % 0x1000)
  else if 0x900000 ≤ a ∧ a < 0x900C00 then .lin ((a - 0x900000) / 256) (a % 256)
  else .unmapped

/-- The page that owns an address (R26). -/
def pageOf (a : Nat) : Option Nat :=
  match regionOf a with
  | .page p _ => some p
  | .rxc _ _ => some 13
  | .que _ _ => some 20
  | .bank _ _ => some 8
  | .trim _ _ => some 10
  | .slot _ _ => some 14
  | .coef _ _ => some 25
  | .lin _ _ => some 24
  | .unmapped => none

open RegTable in
/-- An entry of the RXC per-channel window (R183). -/
def rxcFields : Nat → List FieldSpec
  | 0 => [sh 0 1 1, sh 1 1 0]
  | 4 => [sh 0 16 0]
  | 8 => [ro 0 7 0 |>.fuse, ro 16 4 0]
  | 12 => [ro 0 32 0 |>.cnt]
  | 16 => [ro 0 32 0 |>.cnt]
  | 20 => [ro 0 32 0 |>.cnt]
  | 24 => [ro 0 16 0 |>.cnt, ro 16 16 0 |>.cnt]
  | 28 => [ro 0 16 0 |>.cnt, ro 16 16 0 |>.cnt]
  | 32 => [ro 0 24 0]
  | 36 => [ro 0 24 0]
  | 40 => [ro 0 24 0]
  | 44 => [ro 0 24 0]
  | _ => []

open RegTable in
/-- A trim entry of diode `e` (R125): entries 0 to 127 always read PRESENT 1. -/
def trimFields (e : Nat) : Nat → List FieldSpec
  | 0 => [rw 0 16 0 |>.l0, rw 16 16 0 |>.l0]
  | 4 => [rw 0 16 0 |>.l0, rw 16 12 0 |>.l0]
  | 8 => [rw 0 12 0 |>.l0, rw 16 12 0 |>.l0]
  | 12 => [rw 0 12 0 |>.l0, rw 16 12 0 |>.l0]
  | 16 => [rw 0 12 0 |>.l0, rw 16 16 0 |>.l0]
  | 20 => [rw 0 4 0 |>.l0, (if e < 128 then ro 8 1 1 else rw 8 1 0 |>.l0), ro 9 1 0 |>.l0, ro 10 1 0 |>.l0, rw 16 9 0 |>.l0]
  | 24 => [ro 0 16 0 |>.l0]
  | _ => []

open RegTable in
/-- An entry of the linearisation window (R420). -/
def linFields (o : Nat) : List FieldSpec :=
  if o < 48 then [sh 0 32 0]
  else if o = 48 then [sh 0 1 0, sh 8 8 0]
  else if o = 52 then [sh 0 16 0, sh 16 16 0]
  else if o = 56 then [sh 0 32 0]
  else if o = 60 then [sh 0 32 0]
  else []

/-- The register at an offset of a page's list. -/
def findReg (o : Nat) : List RegSpec → List FieldSpec
  | [] => []
  | r :: t => if r.off ≤ o ∧ o < r.off + 4 * r.count then r.fields else findReg o t

/-- The domain whose reset takes the word at an address of the register store: that of its page, but the engine's own for the registers of
an engine (R188). -/
def domainOfAddr (a : Nat) : Option Nat :=
  let b := a % 0x1000000
  if 0xE124 ≤ b ∧ b ≤ 0xE13C ∧ a ≠ b then some (11 + a / 0x1000000) else (pageOf b).map domainOfPage

/-- The fields of the word at an address of the register store; the part of the address above bit 23 names an
instance of a selected register (`Field.inst`). No field: the word reads 0 and ignores writes (R27). -/
def fieldsAt (a : Nat) : List FieldSpec :=
  match regionOf (a % 0x1000000) with
  | .page p o => findReg o (pageRegs p)
  | .rxc _ o => rxcFields o
  | .trim e o => trimFields e o
  | .lin _ o => linFields o
  | _ => []

/-- The Reset column of a word, field by field. -/
def tableReset (fs : List FieldSpec) : Nat :=
  fs.foldl (fun acc f => acc + (f.reset % 2 ^ f.width) * 2 ^ f.lsb) 0

/-- Region sizes of R330 in MiB, for class 1 to 8. -/
def regionSizeDefault (c : Nat) : Nat := nth 0 [0, 1024, 1536, 8192, 256, 64, 32, 512, 128] c
/-- MAXAGE defaults of R330 in 10 ms units, for class 1 to 8. -/
def maxAgeDefault (c : Nat) : Nat := nth 0 [0, 500, 500, 500, 6000, 60000, 6000, 60000, 6000] c
/-- Active phases of rail `r` in a fresh module (R368). -/
def phasesDefault (r : Nat) : Nat := nth 0 [4, 6, 3, 2, 2, 1, 1, 1] r

/-- Reset values that differ from one register of a numbered or selected set to the next. -/
def resetExtra (a : Nat) : Nat :=
  let b := a % 0x1000000
  let k := a / 0x1000000 - 1
  if 0xA100 ≤ b ∧ b < 0xA110 then (8 + (b - 0xA100) / 4) * 2 ^ 28   -- EMT_CHAIN_CTLc.TSRC is 8 + c
  else if 0x18100 ≤ b ∧ b < 0x18130 then (if b < 0x18120 then 6 * 16 else 16)   -- EXC_CHx.GAIN (R425)
  else if 0x100000 ≤ b ∧ b < 0x110000 ∧ b % 64 = 8 then (b - 0x100000) / 64 % 64   -- MAP: sampler k serves channel k
  else if b = 0x15114 ∧ a ≠ b then regionSizeDefault k * 65536 + maxAgeDefault k   -- LDG_REGION of class k (R330)
  else if b = 0x15118 ∧ a ≠ b then regionSizeDefault k
  else if b = 0x2130 ∧ a ≠ b then phasesDefault k   -- PWM_RAIL.ACTIVE (R368)
  else if b = 0xD120 ∧ a ≠ b then (if k % 68 < 64 then k % 68 + 0x80 else 0)   -- RXC_SMP_STAT: sampler k serves channel k, spares idle (R168)
  else 0

/-- What a word of the register store holds at reset, and so what an unlisted word reads as. -/
def resetWord (a : Nat) : Word := BitVec.ofNat 32 (tableReset (fieldsAt a) + resetExtra a)

/-- The registers that show the instance a `_SEL` field selects, with the number of instances. -/
def selectedBy (a : Nat) : Option (Field × Nat) :=
  if a = 0x110C then some (F.RST_SRC_SEL.SOURCE, 8)
  else if a = 0x2128 then some (F.PWM_DOM_SEL.DOMAIN, 36)
  else if a = 0x2130 then some (F.PWM_RAIL_SEL.RAIL, 8)
  else if a = 0x3104 ∨ a = 0x3108 then some (F.THM_SEL.SENSOR, 12)
  else if a = 0x4114 then some (F.CLK_MON_SEL.MON, 9)
  else if a = 0x6130 ∨ a = 0x6134 then some (F.CAL_RCAL_SEL.CHANNEL, 1024)
  else if a = 0x6140 ∨ a = 0x6144 then some (F.CAL_POOL_SEL.KIND, 10)
  else if a = 0x6154 then some (F.CAL_LINE_SEL.EMITTER, 256)
  else if a = 0x8128 then some (F.SCH_HEAT_SEL.EMITTER, 256)
  else if 0xA138 ≤ a ∧ a ≤ 0xA140 then some (F.EMT_ZONE_SEL.ZONE, 16)
  else if a = 0xA1A0 then some (F.EMT_OUT_SEL.LINE, 128)
  else if a = 0xB114 then some (F.SHT_BANK_SEL.BANK, 9)
  else if a = 0xC130 ∨ a = 0xC134 then some (F.ETD_TAPS_SEL.ETD, 9)
  else if 0xC13C ≤ a ∧ a ≤ 0xC148 then some (F.ETD_BANK_SEL.BANK, 8)
  else if a = 0xC150 then some (F.ETD_LINE_SEL.LINE, 128)
  else if 0xD10C ≤ a ∧ a ≤ 0xD118 then some (F.RXC_GRP_SEL.GROUP, 16)
  else if 0xD120 ≤ a ∧ a ≤ 0xD128 then some (F.RXC_SMP_SEL.SAMPLER, 68)
  else if 0xE124 ≤ a ∧ a ≤ 0xE13C then some (F.GRN_ENG_SEL.ENGINE, 8)
  else if a = 0x15114 ∨ a = 0x15118 ∨ a = 0x1511C ∨ a = 0x15120 then some (F.LDG_REGION_SEL.CLASS, 9)
  else if a = 0x1610C then some (F.MEM_ERR_SEL.CHAN, 10)
  else if a = 0x18164 then some (F.EXC_IMP_SEL.CH, 12)
  else if a = 0x19118 ∨ a = 0x1911C then some (F.DFL_OUT_SEL.CH, 12)
  else none

end Sys2Proof.Machine
end

