-- ==== Sys2Proof/Machine/State.lean ====
section
/-! DEFINITION. The state of the block, as plain data: the register store (every register of every page and the
writable windows of R25, one home each), pending values of SH fields (R36), the banks, the blocks' own state that no
register holds, the pins, and the queue of waiting commands. -/

namespace Sys2Proof.Machine

/-- The device states of R12. -/
inductive DevState where
  | off | boot | standby | spinup | run | degraded | safe | lockout | provision
  deriving DecidableEq, Repr

/-- An armed commit (R38, R40): the frame it applies at (MODE NEXT without frames: the current one) and its epoch. -/
structure Armed where
  atFrame : Bool
  frame : Nat
  epoch : Nat
  deriving DecidableEq, Repr

/-- SYS: what the SYS page's registers do not themselves hold.
`owner`: owner session of the pending set (R37). `armed`: the armed commit (R38).
`stay`: causes of the current stay in SAFE that remain (R62, R65). `stopReq`: an accepted stop (R89).
`standing`: spare-pool triggers of R66 that stand, by page and cause (0x40, 0x41), the first that came first. `arisen`: causes of R66 that
have arisen in a REF cycle, and the number of that cycle (R15). `coalesced`: occurrences counted under R48,
by page × 32 + bit. `l0At`: instant of the last L0 release. `stateAt`: instant of the last transition, `moved`: its REF cycle (R15).
`resetting`: pages whose soft reset is in progress (R34). -/
structure SysState where
  owner : Option Nat
  armed : Option Armed
  stay : List Nat
  stopReq : Bool
  standing : List (Nat × Nat)
  arisen : Nat × List Nat
  coalesced : List (Nat × Nat)
  l0At : Nat
  stateAt : Nat
  moved : Option Nat
  resetting : List Nat
  deriving DecidableEq, Repr

def SysState.reset : SysState :=
  { owner := none, armed := none, stay := [], stopReq := false, standing := [], arisen := (0, []), coalesced := [], l0At := 0,
    stateAt := 0, moved := none, resetting := [] }


/-- A ready shot group (R92 to R96): where it stands in the program, the slot it became ready in, the reason of its last
failing check, whether it holds (or has lost) thermal admission, and whether a P0 group has been found to have reached its slack (R91). -/
structure Ready where
  pass : Nat
  step : Nat
  pos : Nat
  group : Nat
  cls : Nat
  readySlot : Nat
  fail : Option Nat
  thermal : Option Bool
  slack : Bool
  deriving DecidableEq, Repr

/-- A P0 group that its step has left before its slack ended (R93, R94): its place, the last slot of its slack, the reason of its last
failing check, and whether its frame carries `TRANSITION` (R91). -/
structure OwedP0 where
  pass : Nat
  step : Nat
  pos : Nat
  due : Nat
  fail : Option Nat
  exempt : Bool
  deriving DecidableEq, Repr

/-- A line of a train: its LINE byte, rank in its bank (R140), energy per pulse in nJ × 2¹⁶ when the train started, pulses fired or
suppressed so far, nominal time of its first pulse and end of its last cell (R139). -/
structure TrainLine where
  line : Nat
  slot : Nat
  rank : Nat
  energy : Nat
  done : Nat
  first : Nat
  endAt : Nat
  deriving DecidableEq, Repr

/-- A train that runs (R138 to R141): ordinal in its frame, cell length and pulse offsets in ns, start instant. -/
structure Train where
  ord : Nat
  frame : Nat
  epoch : Nat
  group : Nat
  pass : Nat
  step : Nat
  pos : Nat
  cls : Nat
  pulses : Nat
  cell : Nat
  start : Nat
  offs : List Nat
  lines : List TrainLine
  two : Bool
  hist : Bool
  deriving DecidableEq, Repr

/-- An exception entry (R100). -/
structure ExcEntry where
  step : Nat
  pass : Nat
  pos : Nat
  group : Nat
  why : Nat
  delay : Nat
  deriving DecidableEq, Repr

/-- What a closing header reports of the instant frames stopped (R227): TAI, the number the next frame will carry, `SYS_STATE.STATE`, and
whether `STE_STAT.REF_OK` was 0. -/
structure FrameStop where
  tai : Nat
  next : Nat
  state : Nat
  holdover : Bool
  deriving DecidableEq, Repr

/-- A frame (R99, R227, R231): its number, epoch, pulse instant (TAI), bank, counts per class and per reason, exceptions,
flags, trains started and pulses fired, pulses delayed and suppressed per bank, whether steering stayed valid
throughout, its start and dark time in ns, whether it is the first since frames resumed, whether the header that
opens it, the header that reports it and its STATS record stand committed (R228, R231), and where frames stopped with it what its
closing header reports. -/
structure FrameInfo where
  num : Nat
  epoch : Nat
  tai : Nat
  bank : Nat
  planned : List Nat
  started : List Nat
  reasons : List Nat
  excs : List ExcEntry
  excLost : Nat
  transition : Bool
  degraded : Bool
  holdover : Bool
  truncated : Bool
  state : Nat
  facets : Nat
  revs : Nat
  rpm : Nat
  trains : Nat
  pulses : Nat
  delayed : List Nat
  suppressed : List Nat
  validAll : Bool
  start : Nat
  dark : Nat
  first : Bool
  opened : Bool
  headerDone : Bool
  statsDone : Bool
  stop : Option FrameStop
  deriving DecidableEq, Repr

/-- SCH and SHT: the open frame, frames whose records are still due (oldest first), the step the azimuth estimate is in
(pass, step), ready groups, running trains, measurement starts by slot (R92 check 6), emitter heat in 1/256
pulse-equivalents and admission accumulators (R96), pulses placed by nominal instant and line (check 4), the instant of the
last rising edge of each fire bank (R138), the current slot, P0 groups that owe a start beyond their step (R93), whether some line is
throttled (R101), and the azimuth estimate and the TAI counter slot by slot, newest first, as far back as measurements need them (R219,
R222). -/
structure SchedState where
  frame : Option FrameInfo
  past : List FrameInfo
  at_ : Option (Nat × Nat)
  ready : List Ready
  trains : List Train
  starts : List (Nat × Nat)
  heat : List (Nat × Nat)
  adm : List (Nat × Rat)
  placed : List (Nat × Nat)
  lastFire : List (Nat × Nat)
  slot : Nat
  owed : List OwedP0
  hot : Bool
  track : List (Nat × (Int × Nat))
  deriving DecidableEq, Repr

def SchedState.reset : SchedState :=
  { frame := none, past := [], at_ := none, ready := [], trains := [], starts := [], heat := [], adm := [],
    placed := [], lastFire := [], slot := 0, owed := [], hot := false, track := [] }


/-- A steering entry of R121, with the TAI time, frame and epoch of its sample, which the header of a record that begins with it takes. -/
structure SteerEntry where
  tai : Nat
  frame : Nat
  epoch : Nat
  time : Nat
  set : Int
  fb : Int
  err : Int
  out : Int
  flags : Nat
  deriving DecidableEq, Repr

/-- STE: instants (SMP cycles) of the last polygon edges, newest first, and edges since the index mark (R102, R104);
revolutions completed in the frame and whether an index has been seen; the last accepted FSYNC edge, edges missed in a
row, holdover (R106); the last TSY pulse; the last frame pulse; whether its boundary is still to
come; the frame's first index mark is still to come, its pulse having fallen before it; the phase loop's lock mode, ramped reference in 1/10,000 of the loop's unit (rpm with 8 fractional bits), start of the dwell; previous output and integrator of each loop and the galvo's previous measurement; a mode or
coefficient change that the next sample of each loop takes up (R111, R114); pass tilt, consecutive settled samples;
since when steering has been valid (R118); start of the galvo stall (R116); the last index mark was a fault (R104); the galvo's last raw
feedback and since when it has been silent with the output at its limit (R116); the reference edge of the last frame pulse; causes whose condition holds; the instant of entry to
SPINUP, of the end of the ramp and whether the frame must carry TRANSITION (R119); samples of the test done and its
open record (R120, R121). -/
structure SteerState where
  edges : List Nat
  count : Nat
  indexed : Bool
  idxAt : Nat
  rev : Nat
  fsync : Option Nat
  missed : Nat
  holdover : Bool
  tsyPulse : Option Nat
  pulse : Option Nat
  pulseDue : Bool
  early : Bool
  lock : Bool
  refRpm : Int
  dwell : Option Nat
  pgPrev : Int
  pgInt : Int
  pgNew : Bool
  gvPrev : Int
  gvInt : Int
  gvMeas : Int
  gvNew : Bool
  tilt : Int
  settled : Nat
  validSince : Option Nat
  stall : Option Nat
  idxBad : Bool
  gvRaw : Int
  gvQuiet : Option Nat
  pulseEdge : Option Nat
  conds : List Nat
  spinAt : Nat
  rampedAt : Option Nat
  transition : Bool
  testDone : Option Nat
  entries : List SteerEntry
  deriving DecidableEq, Repr

def SteerState.reset : SteerState :=
  { edges := [], count := 0, indexed := false, idxAt := 0, rev := 0, fsync := none, missed := 0, holdover := false, tsyPulse := none,
    pulse := none, pulseDue := false, early := false, lock := false, refRpm := 0, dwell := none, pgPrev := 0, pgInt := 0, pgNew := false, gvPrev := 0,
    gvInt := 0, gvMeas := 0, gvNew := false, tilt := 0, settled := 0, validSince := none, stall := none, idxBad := false, gvRaw := 0, gvQuiet := none, pulseEdge := none,
    conds := [], spinAt := 0, rampedAt := none, transition := false, testDone := none, entries := [] }


/-- A load being shifted (R129, R132): its 32 words, position 0 first, whether it is a zero load (R135, R136), the start of its shift, and
whether its boundary has passed before the shift ended (R132). -/
structure ChainLoad where
  words : List Nat
  energies : List Nat
  zero : Bool
  start : Nat
  late : Bool
  deriving DecidableEq, Repr

/-- An emitter chain (R129 to R136): the instant of entry to OFF, EN cleared while trains run, the load in progress,
the words last latched and the relative energy of each position, whether a full load is due and whether the first
working load has latched, the last good temperature (none before the first, R127), whether the words latched last are frames of
compatibility mode, and whether the stop of a chain in `PENDING_ON` has finished. -/
structure Chain where
  offAt : Nat
  load : Option ChainLoad
  last : List Nat
  energies : List Nat
  fullDue : Bool
  loaded : Bool
  temp : Option Int
  yc : Bool
  stopped : Bool
  deriving DecidableEq, Repr

/-- EMT: the four chains, lines whose primary/reserve switch waits for its latch (R134), lines removed under R128, and
the energy counted per zone in 1 µs and in 1 ms buckets, keyed zone + 16 × bucket, in nJ × 2¹⁶ (R142). -/
structure EmitState where
  chains : List Chain
  switches : List Nat
  removed : List Nat
  us : List (Nat × Nat)
  ms : List (Nat × Nat)
  deriving DecidableEq, Repr

def Chain.reset : Chain :=
  { offAt := 0, load := none, last := List.replicate 32 0, energies := List.replicate 32 0, fullDue := false,
    loaded := false, temp := none, yc := false, stopped := false }

def EmitState.reset : EmitState :=
  { chains := List.replicate 4 Chain.reset, switches := [], removed := [], us := [], ms := [] }

/-- A delay line of R151: its active taps in order, the width table in use, a refreshed table that waits for a frame
boundary, taps retired, a tap substitution requested (positions among the active taps, frame of the request), and for each tap in
how many refreshes in a row its width has drifted (R349). An
interpolator or sampler without an entry has its factory line. -/
structure TapLine where
  active : List Nat
  widths : List Nat
  staged : Option (List Nat)
  retired : List Nat
  subst : Option (List Nat × Nat)
  drift : List (Nat × Nat)
  deriving DecidableEq, Repr

/-- A start that waits for its window to close (R149): times in 1/256 LSB, `issued` the `FIRE` cycle; stops in its window,
with whether each was timed (R150). -/
structure PulseStart where
  bank : Nat
  line : Nat
  frame : Nat
  epoch : Nat
  ord : Nat
  k : Nat
  energy : Nat
  issued : Nat
  time : Nat
  armed : Bool
  est : Bool
  stops : List (Nat × Bool)
  deriving DecidableEq, Repr

/-- What became of a pulse (R149, R156): 0 measured, 1 estimated, 2 absent; emission instant in LSB. -/
structure PulseResult where
  k : Nat
  status : Nat
  instant : Int
  energy : Nat
  deriving DecidableEq, Repr

/-- ETD: lines by number (0 to 8 interpolators, 16 + 68 g + k sampler k of group g), starts open, oldest first, end of the
last stop capture per bank (dead time), results waiting for their train descriptor (frame, ordinal, line), counts of the
current frame (bank × 8 + kind: 0 MEASURED, 1 MISS, 2 DEAD, 3 DOUBLE, 4 NOARM, 5 STRAY, 6 EST), the last 256 values
of δ and of E − FIRE per line (newest first), the substitution of an interpolator requested (frame of the
request), lines that a change left without lock (R157, R171; a sampler with the instant of its lock), consecutive MISS pulses per line and the
lines in such a run during which another line of the bank was measured (R351); hits of the code-density test of an interpolator so far, the
instant of its last refresh, and banks and lines that have taken a substitution, with its instant (R347, R348). -/
structure EtdState where
  lines : List (Nat × TapLine)
  starts : List PulseStart
  stopDead : List (Nat × Nat)
  results : List ((Nat × Nat × Nat) × PulseResult)
  counts : List (Nat × Nat)
  deltas : List (Nat × List (Int × Int))
  subst : List (Nat × Nat)
  relock : List (Nat × Option Nat)
  misses : List (Nat × Nat)
  alive : List Nat
  hits : List (Nat × Nat)
  refreshed : List (Nat × Nat)
  took : List (Nat × Nat)
  deriving DecidableEq, Repr

def EtdState.reset : EtdState :=
  { lines := [], starts := [], stopDead := [], results := [], counts := [], deltas := [], subst := [],
    relock := [], misses := [], alive := [], hits := [], refreshed := [], took := [] }


/-- A forwarded event (R175): channel, frame and ordinal of the train that armed it, event time in LSB after OFS, level. -/
structure Event where
  ch : Nat
  frame : Nat
  train : Nat
  time : Int
  level : Nat
  deriving DecidableEq, Repr

/-- A spare sampler, 64 + `spare`, assigned to a channel at an instant, until the crossbar switches (R173). -/
structure SpareClaim where
  ch : Nat
  spare : Nat
  at_ : Nat
  deriving DecidableEq, Repr

/-- RXC: group queues and holding stages (R176), oldest first; the channel the arbiter served last, by group; counts of the current
frame by channel × 8 + kind (0 EVENTS, 1 FWD, 2 OVL, 3 RUNT, 4 LONG, 5 VIOL, 6 OVERLONG) and by group × 4 + kind (0 FWD,
1 OVL, 2 high-water mark); the last trailing edge of each channel in LSB; dark counts n[L] and rates r[L] by channel
× 16 + L (R179); channels that have had an update; dark time of the frame so far, the instant up to which it is counted, and the
time after the last pulses that is not dark (R178); the instant at which the samplers of a group lock (R168); channels that the crossbar
has switched: the instant and the sampler before (R173); the spare samplers assigned to channels that lost theirs; an APPLY that a commit armed, or has
made due (R181), and whether it has
been sent before its boundary; the instant of each sampler's last refresh and the edges of the refresh in progress; channels
whose sampler is replaced as planned (R349). -/
structure RxState where
  queues : List (Nat × List Event)
  held : List Event
  served : List (Nat × Nat)
  counts : List (Nat × Nat)
  groups : List (Nat × Nat)
  trailing : List (Nat × Int)
  dark : List (Nat × Nat)
  rates : List (Nat × Nat)
  updated : List Nat
  darkNs : Nat
  darkFrom : Nat
  busyFrom : Nat
  busyUntil : Nat
  locks : List (Nat × Nat)
  switched : List (Nat × (Nat × Nat))
  waiting : List SpareClaim
  applyDue : Bool
  applySent : Bool
  refreshed : List (Nat × Nat)
  edges : List (Nat × Nat)
  retiring : List Nat
  deriving DecidableEq, Repr

def RxState.reset : RxState :=
  { queues := [], held := [], served := [], counts := [], groups := [], trailing := [], dark := [], rates := [],
    updated := [], darkNs := 0, darkFrom := 0, busyFrom := 0, busyUntil := 0, locks := [], switched := [], waiting := [], applyDue := false,
    applySent := false, refreshed := [], edges := [], retiring := [] }


/-- A measurement in its slot (R185 to R205). `state` as STAT codes it. `bins` and `zoom` (window × 64 + bin) list the
counters that are not 0. `cands`: coarse bins of the valid candidates. `hits`: candidate × 64 + pulse for every zoom
pulse with an event in that window. `pulseInfo`: what the train descriptor has brought (R189). `start`: S in ns.
`emitter`: the diode in service at its train's start (R350). `amb`: A of its frame, `rAll`: its AMB_L1, AMB_L2 and AMB_HI together (R214). `pass` to `lineSlot`: the occurrence (R233); `tilt`: the pass's
set-point (R219). `openedAt`, `closedAt`: instants of its allocation and of its close. `searched`: end of the candidate search. `waiting`:
accepted events that wait for the descriptor of the next pulse (R190). -/
structure Meas where
  state : Nat
  two : Bool
  hist : Bool
  est : Bool
  absent : Bool
  nocand : Bool
  late : Bool
  chFault : Bool
  tileFault : Bool
  zoomFault : Bool
  lost : Bool
  chan : Nat
  cls : Nat
  frame : Nat
  epoch : Nat
  train : Nat
  pulses : Nat
  used : Nat
  zfrom : Nat
  group : Nat
  pass : Nat
  step : Nat
  pos : Nat
  lineSlot : Nat
  emitter : Nat
  openedAt : Nat
  closedAt : Nat
  lostCnt : Nat
  base : Nat
  cands : List Nat
  hits : List Nat
  zpulses : Nat
  bins : List (Nat × Nat)
  zoom : List (Nat × Nat)
  pulseInfo : List PulseResult
  start : Nat
  amb : Nat
  rAll : Nat
  tilt : Int
  searched : Option Nat
  waiting : List Event
  deriving DecidableEq, Repr

/-- GRN: slots that are not free (the second slot of a pair is the measurement's too), active registers of earlier epochs that
open measurements still use (R44, R193), the update bucket of each engine (level, instant it was brought up to date,
R199), counts of the current frame by engine × 4 + kind (0 updates, 1 corrected, 2 ns with the bucket empty, 3 highest
10 µs rate) and update times of the last 10 µs by engine, and counts per measurement frame by frame × 8 + kind (0 MEAS, 1
FAULTED, 2 NOCAND, 3 ABSENT, 4 OUTSIDE, 5 LOST, 6 LATE). -/
structure GrindState where
  slots : List (Nat × Meas)
  eras : List (Nat × List (Nat × Word))
  bucket : List (Nat × (Nat × Nat))
  counts : List (Nat × Nat)
  recent : List (Nat × List Nat)
  perFrame : List (Nat × Nat)
  deriving DecidableEq, Repr

def GrindState.reset : GrindState :=
  { slots := [], eras := [], bucket := [], counts := [], recent := [], perFrame := [] }


/-- A record that waits for the header of its frame (R228): what a queue's filter tests (R319), and the slot of a HIST record. -/
structure HeldRec where
  frame : Nat
  cls : Nat
  kind : Nat
  bytes : List Byte
  ch : Nat
  pcls : Nat
  rcls : Nat
  slot : Option Nat
  deriving DecidableEq, Repr

/-- CRM: records held for their header, in extraction order; the last measurement of each channel (close time, ranges, R218);
counts by frame × 8 + kind (0 returns, 1 to 4 the classes, 5 saturated, 6 discarded, 7 elevation saturated); events lost by
frame × 1,024 + channel (R231); most measurements waiting as one of a frame closed, by frame; deflection triples with their times, newest first, and the arrival of the last (R220). -/
structure CremaState where
  held : List HeldRec
  last : List (Nat × (Nat × List Nat))
  counts : List (Nat × Nat)
  lost : List (Nat × Nat)
  peak : List (Nat × Nat)
  triples : List (Nat × (Int × (Int × Int)))
  arrived : Nat
  deriving DecidableEq, Repr

def CremaState.reset : CremaState := { held := [], last := [], counts := [], lost := [], peak := [], triples := [], arrived := 0 }


/-- A ray (R233): pass, step, position, line slot, channel offset. -/
structure RayKey where
  pass : Nat
  step : Nat
  pos : Nat
  slot : Nat
  off : Nat
  deriving DecidableEq, Repr

/-- A P0 descriptor on its way from Crema (R208): channel, frame, status as the HIST record has it (R229), whether it is faulted, and its
returns as range ρ in mm/2 units of R239 and class. -/
structure P0Desc where
  chan : Nat
  frame : Nat
  status : Nat
  ray : RayKey
  used : Nat
  fault : Bool
  closedAt : Nat
  returns : List (Nat × Nat)
  deriving DecidableEq, Repr

/-- A P0 pulse, with its occurrence and the end of its line's last cell, and a sampler event, as channel B taps them (R177, R240), in SMP
cycles. -/
structure DripPulse where
  frame : Nat
  train : Nat
  pass : Nat
  step : Nat
  pos : Nat
  slot : Nat
  line : Nat
  fire : Nat
  endAt : Nat
  emitted : Bool
  deriving DecidableEq, Repr

structure DripEvent where
  ch : Nat
  cycle : Nat
  level : Nat
  deriving DecidableEq, Repr

/-- A ray's result in one channel (R239, R240): evaluated, and the fields in which it is occupied. -/
structure RayResult where
  frame : Nat
  ray : RayKey
  evaluated : Bool
  occupied : List Nat
  deriving DecidableEq, Repr

/-- A frame whose evaluation instant is to come (R243): its end, epoch and field set. -/
structure FrameDue where
  frame : Nat
  epoch : Nat
  ended : Nat
  set : Nat
  deriving DecidableEq, Repr

/-- SFA and SFB: each channel's staging slot as written, the staged image it accepted and its active image (R235, R238; A's, then B's), what each channel has received and judged, counts c by sector × 4 + field with those already raised in a frame (R244),
open disagreement runs by the same key (R248), evaluation instants in a row that were clear, whether the outputs are on,
the instant they last turned on or off, the last off-pulse of each channel (R246), what the feedback inputs read where that is not what is
driven (R247), clock windows in a row beyond and within 5 %
(R242), the start of the clear window (R255), since when frames have run (the entry to `RUN`), and whether a self-test of each channel passed last (R254). -/
structure SafetyState where
  staging : List (Nat × Byte)
  stagingB : List (Nat × Byte)
  staged : Option (List Byte)
  stagedB : Option (List Byte)
  activeA : Option (List Byte)
  activeB : Option (List Byte)
  descs : List P0Desc
  pulses : List DripPulse
  events : List DripEvent
  raysA : List RayResult
  raysB : List RayResult
  counts : List (Nat × Nat)
  raised : List (Nat × Nat)
  due : List FrameDue
  runs : List (Nat × Nat)
  clearRun : Nat
  outputsOn : Bool
  turnedAt : Nat
  pulseA : Option Nat
  pulseB : Option Nat
  fb : Option (Bool × Bool)
  fbAt : Nat × Nat
  clkBad : Nat
  clkGood : Nat
  clearAt : Option Nat
  selAt : Nat
  bootCause : Nat
  deriving DecidableEq, Repr

def SafetyState.reset : SafetyState :=
  { staging := [], stagingB := [], staged := none, stagedB := none, activeA := none, activeB := none, descs := [], pulses := [], events := [], raysA := [],
    raysB := [], counts := [], raised := [], due := [], runs := [], clearRun := 0, outputsOn := false, turnedAt := 0,
    pulseA := none, pulseB := none, fb := none, fbAt := (0, 0), clkBad := 0, clkGood := 0, clearAt := none, selAt := 0, bootCause := 0 }



/-- CLK and TSY: the TAI counter in units of 2⁻¹⁶ ns, the slew still to apply in the same unit (R265), accepted sources
(bit 1 PTP, 2 PPS, 3 REF10M), whether one has been accepted since L0, whether a PTP master is selected, consecutive Syncs,
measurements within 50 ns (R264), since when REF10M has been within 1 ppb, trims since LOCKED was entered with the instant each
began (newest first), the instant of that entry and the one the next ageing value counts from (R260), the last Sync and
Announce and their intervals, the mean path delay in 2⁻¹⁶ ns, the last PPS edge and the last accepted one, the
entry to HOLDOVER and whether it came from LOCKED to PPS, the ageing value in NOR, residence times of two-step Syncs by port × 2¹⁶ + sequence number
(R269), windows in band in a row by monitor (R274), monitors that have warned in the present stay in `SAFE`, the instant
since which each monitor is stable, the multiple of P_F of the last TSY pulse (R272), and, in a reset of CLK that carries the
counter, the instant it began (R267); whether the last HOLDOVER was entered from LOCKED, or with its traceability carried on (R343). -/
structure TimeState where
  tai : Nat
  slew : Int
  accepted : Nat
  everAccepted : Bool
  master : Bool
  syncs : Nat
  good : Nat
  fine : Option Nat
  lockedAt : Option Nat
  ageFrom : Nat
  trims : List (Nat × Int)
  lastSync : Option Nat
  syncNs : Nat
  lastAnnounce : Option Nat
  announceNs : Nat
  path : Int
  lastPps : Option Nat
  goodPps : Option Nat
  holdAt : Option Nat
  fromPps : Bool
  age : Int
  residence : List (Nat × Int)
  monGood : List (Nat × Nat)
  warned : List Nat
  stableFrom : List (Nat × Nat)
  lastMultiple : Option Nat
  carried : Option Nat
  traced : Bool
  deriving DecidableEq, Repr

def TimeState.reset : TimeState :=
  { tai := 0, slew := 0, accepted := 0, everAccepted := false, master := false, syncs := 0, good := 0, fine := none,
    lockedAt := none, ageFrom := 0, trims := [], lastSync := none, syncNs := 0, lastAnnounce := none, announceNs := 0,
    path := 0, lastPps := none, goodPps := none, holdAt := none, fromPps := false, age := 0, residence := [], monGood := [],
    warned := [], stableFrom := [], lastMultiple := none, carried := none, traced := false }


/-- A port (R278 to R292): whether the module present pin last showed a module, module ready, start of the present stage (or of the wait before it), lane 4 trained, the link
retrains on two lanes (R287), the peer's capabilities and the own residence, bits that wait to be sent: PTP event messages, the unit's own
frames of class 1, forwarded frames, the control and the own-traffic buffer (R290), what the bucket of the egress ceiling holds in bits
(R291), since when its transmitter has had nothing to send, the last refresh burst, and a wake request that waits for one (R289); the
instant the port last went down (R299); the eye margins of the receive lanes, and corrected and uncorrectable codewords by TAI second, the
present one and the one before (R303). -/
structure Port where
  present : Option Bool
  ready : Bool
  stageAt : Nat
  lane4 : Bool
  twoLanes : Bool
  peer : Option PeerCaps
  residence : Nat
  linkBits : Nat
  c1Bits : Nat
  fwdBits : Nat
  ctlBits : Nat
  ownBits : Nat
  bucket : Nat
  idleFrom : Nat
  burstAt : Nat
  wakePending : Bool
  downAt : Option Nat
  margins : List Nat
  fec : List (Nat × (Nat × Nat))
  deriving DecidableEq, Repr

def Port.reset : Port :=
  { present := none, ready := false, stageAt := 0, lane4 := false, twoLanes := false, peer := none, residence := 0, linkBits := 0, c1Bits := 0,
    fwdBits := 0, ctlBits := 0, ownBits := 0, bucket := 524288, idleFrom := 0, burstAt := 0, wakePending := false, downAt := none, margins := [],
    fec := [] }

/-- NTA and NTB: the ports, whether port B is host-facing and the instant a census last said which (R294, R299), the census that gave the
address (R295), a census held for the other port with the port it came from and the end of its hold (R294), ports whose change a link notice
has still to report (R295), and the IPv4 address a DHCP server granted (R297). -/
structure NetState where
  ports : List Port
  hostB : Bool
  censusAt : Option Nat
  addrId : Nat
  held : Option (CensusFrame × Nat × Nat)
  notices : List Nat
  dhcp : Nat
  deriving DecidableEq, Repr

def NetState.reset : NetState := { ports := [Port.reset, Port.reset], hostB := false, censusAt := none, addrId := 0, held := none, notices := [], dhcp := 0 }

/-- A control session (R308 to R311, R316). Times in ns. `slot`: key slot of an authenticated session.
`confirmed`: a validly coded message has arrived (R309). -/
structure Session where
  gen : Nat
  nextSeq : Nat
  leaseMs : Nat
  leaseEnd : Nat
  slot : Option Nat
  roles : Nat
  key : List Byte
  confirmed : Bool
  confirmBy : Nat
  peer : Endpoint
  deriving DecidableEq, Repr

/-- A command accepted and waiting to be performed (R311, R314), with its payload. -/
structure Accepted where
  session : Nat
  seq : Nat
  opcode : Nat
  src : Endpoint
  payload : List Byte
  deriving DecidableEq, Repr

/-- A ledger entry (R313); `copied` is FLAGS bit 0. `digest` and `result` are 16 bytes. -/
structure LedgerEntry where
  session : Nat
  opcode : Nat
  gen : Nat
  seq : Nat
  status : Nat
  copied : Bool
  tai : Nat
  frame : Nat
  epoch : Nat
  digest : List Byte
  result : List Byte
  deriving DecidableEq, Repr

/-- A record of the journal (R57). `nums`: the number it took in each queue that selected it (R320).
`kind`: run TYPE of R323. `time`: commit instant. `place`: where its bytes begin in the region of its class. `lost`: its stripe is lost
(R335). -/
structure JRec where
  cls : Nat
  kind : Nat
  time : Nat
  place : Nat
  bytes : List Byte
  nums : List (Nat × Nat)
  lost : Bool
  deriving DecidableEq, Repr

/-- A sent and unacknowledged datagram (R328): bytes it holds in the window, numbers covered by gap records, instant of
the last send, retransmission time in µs. -/
structure Sent where
  first : Nat
  count : Nat
  bytes : Nat
  gapped : Nat
  time : Nat
  rto : Nat
  deriving DecidableEq, Repr

/-- A stream queue (R318 to R320, R324, R326, R328, R339). `unacked`: oldest first. `resent`: instants of resends. -/
structure Queue where
  session : Nat
  gen : Nat
  cls : Nat
  dport : Nat
  flush : Nat
  maxdg : Nat
  filter0 : Nat
  filter1 : Nat
  window : Nat
  leaseMs : Nat
  leaseEnd : Nat
  next : Nat
  sent : Nat
  acked : Nat
  waitHdr : Bool
  portB : Bool
  ip6 : Bool
  unacked : List Sent
  resent : List Nat
  gapped : Nat
  ackErr : Nat
  deriving DecidableEq, Repr

/-- What leaves the device, newest first: the model's own record of its outputs (log entry 13). -/
inductive Out where
  | response (dest : Endpoint) (session gen seq opcode status flags epoch : Nat) (payload code : List Byte)
  | openReply (dest : Endpoint) (session gen opcode status flags epoch : Nat) (payload code : List Byte)
  | datagram (source : Nat) (dest : Endpoint) (message : List Byte)
  | ackError (dest : Endpoint) (queue qgen reason cum sent last : Nat)
  | frame (port kind : Nat) (bytes : List Byte)
  | capability (port : Nat) (own : PeerCaps)
  | dhcp (port client : Nat)
  | ptp (port kind seq : Nat) (correction : Int)
  | announce (priority1 clockClass : Nat)
  | fire (bank line : Nat) (time : Nat)
  | reference (time : Nat)
  | chain (chain : Nat) (words : List Nat) (sel : Nat)
  | broadcast (chain drive : Nat)
  | i2c (bus : Nat) (bytes : List Byte)
  | offPulse (channel : Nat) (time : Nat)
  | trigger (time width : Nat)
  | tone (channel time : Nat)
  deriving DecidableEq, Repr

/-- The reply to an OPEN of the last second, which its repetition receives again (R308). -/
structure OpenRecord where
  src : Endpoint
  nonce : List Byte
  time : Nat
  reply : Out
  deriving DecidableEq, Repr

/-- QUE and LDG: sessions by index, the low GEN half of each index (R316), accepted commands, the command ledger
(`banks`: latest first; `nor`: copies in NOR, latest first; `marker`: completion marker of R54; `withheld`:
responses held under R53), queues by index with the generation count of each index, the journal and the outputs (latest first).
`ackHeld`: no new acknowledgement (R55, R363). `rxq`: the receive buffer of R337. `opens`: OPENs of the last second.
`bootCount`: boot count in NOR (R316). `rates`: bytes committed by class and second, second × 16 + class (R341). `moved`: bytes written to
and read from the journal, millisecond × 2, one more for those read (R342). `ends`: where the next record of a class begins in its region. -/
structure TransportState where
  sessions : List (Nat × Session)
  gens : List (Nat × Nat)
  accepted : List Accepted
  banks : List LedgerEntry
  nor : List LedgerEntry
  marker : Bool
  withheld : List (LedgerEntry × Out)
  ackHeld : Bool
  queues : List (Nat × Queue)
  qgens : List (Nat × Nat)
  journal : List JRec
  out : List Out
  rxq : List (Endpoint × List Byte)
  opens : List OpenRecord
  bootCount : Nat
  rates : List (Nat × Nat)
  moved : List (Nat × Nat)
  ends : List (Nat × Nat)
  deriving DecidableEq, Repr

/-- A rebuild or a planned copy (R334, R336): the channel replaced, the spare filled, the instant it began. -/
structure Rebuild where
  source : Nat
  into : Nat
  planned : Bool
  start : Nat
  deriving DecidableEq, Repr

/-- LP-DRAM: the rebuild or copy in progress, the second rebuild of R335, stripes without parity (R336), and the corrected errors of a
channel in a second, with that second (R342). -/
structure MemState where
  rebuild : Option Rebuild
  second : Option Rebuild
  noParity : Bool
  corr : List (Nat × (Nat × Nat))
  deriving DecidableEq, Repr

/-- Boot count, ledger and marker of a module started for the first time (log entry 9). -/
def TransportState.reset : TransportState :=
  { sessions := [], gens := [], accepted := [], banks := [], nor := [], marker := false, withheld := [],
    ackHeld := false, queues := [], qgens := [], journal := [], out := [], rxq := [], opens := [], bootCount := 1,
    rates := [], moved := [], ends := [] }

def MemState.reset : MemState := { rebuild := none, second := none, noParity := false, corr := [] }

/-- The retirement record (R354): words of the maps and statuses it holds, by address; the pool triggers that stood, by page and cause; the
tap map of each delay line that has one (active taps in order, taps retired); the reference output of each diode. -/
structure RetireRecord where
  words : List (Nat × Word)
  pools : List (Nat × Nat)
  taps : List (Nat × (List Nat × List Nat))
  refs : List (Nat × (Nat × Nat))
  deriving DecidableEq, Repr

def RetireRecord.reset : RetireRecord := { words := [], pools := [], taps := [], refs := [] }

/-- CAL: a range calibration that waits for its boundary, the instant it began, samples per channel (count, Σ, Σ² of ρ − OFS), sum
and number of chain temperatures (R345, R346); echoes per emitter since the last boundary (count, Σ intensity, Σ energy)
and reference outputs (Σ intensity, Σ energy) (R350); emitters whose trim entry was written since, a change that
the retirement record waits for, and the record as last written (R354). -/
structure CalState where
  armed : Bool
  began : Option Nat
  samples : List (Nat × (Nat × Int × Int))
  tempSum : Int
  tempN : Nat
  echo : List (Nat × (Nat × Nat × Nat))
  refs : List (Nat × (Nat × Nat))
  fresh : List Nat
  recDue : Bool
  record : RetireRecord
  deriving DecidableEq, Repr

def CalState.reset : CalState :=
  { armed := false, began := none, samples := [], tempSum := 0, tempN := 0, echo := [], refs := [], fresh := [],
    recDue := false, record := RetireRecord.reset }

/-- PWM: since when (ns) the input has been above 9.5 V, above 4.60 V, below 3.80 V, between 4.60 V and 36.0 V and above
5.0 V without a break (R357); start and lowest value of the LOW, WARN or LOSS episode (`PWM_LOWLOG`); the 100 samples
of P_in − EMEAS·r in µW behind F (R364), newest first; released domains; for each domain why its pages take reset
values at the next release (0, 1, 2: that reset level; 9: it was switched off or lost power); the instants of entry to OFF
(R367) and to ON (R388), and of the entry to `STARTING` that its turn in the table of R365 sets; domains shed by R362; rails that wait for their
spare phase, and whether as planned; the instant BOOT was entered from OFF; `VHU` reached 30.0 V within 400 ms of it, or has been reported late (R361); f_T
as a fraction (R373). -/
structure PowerState where
  above95 : Option Nat
  above46 : Option Nat
  below38 : Option Nat
  inRange : Option Nat
  above50 : Option Nat
  episode : Option (Nat × Nat)
  fixed : List Int
  released : List Nat
  why : List (Nat × Nat)
  offAt : List (Nat × Nat)
  onAt : List (Nat × Nat)
  startAt : List (Nat × Nat)
  shed : List Nat
  spareReq : List (Nat × Bool)
  bootAt : Nat
  huUp : Bool
  huLate : Bool
  ft : Rat
  deriving DecidableEq, Repr

/-- THM: filtered power of each site in W (R371), consecutive disagreements and the instant since which an excluded
sensor agrees (R372), none where it does not. -/
structure ThermalState where
  pf : List Rat
  runs : List Nat
  agreeSince : List (Option Nat)
  deriving DecidableEq, Repr

def PowerState.reset : PowerState :=
  { above95 := none, above46 := none, below38 := none, inRange := none, above50 := none, episode := none,
    fixed := [], released := [0], why := [], offAt := [], onAt := [], startAt := [], shed := [], spareReq := [],
    bootAt := 0, huUp := false, huLate := false, ft := 1 }

def ThermalState.reset : ThermalState :=
  { pf := List.replicate 12 0, runs := List.replicate 12 0, agreeSince := List.replicate 12 none }

/-- A reset raised or in progress (R376 to R383). `entered`: its level holds its domains. `pin`: NRST holds it. `awaits`: session,
generation and number of the command whose response is to be sent before it takes effect (R382). -/
structure ResetNow where
  level : Nat
  entered : Bool
  pin : Bool
  powerOn : Bool
  awaits : Option (Nat × Nat × Nat)
  deriving DecidableEq, Repr

/-- One of the 16 key slots in the reserved NOR area (R77, R392). -/
structure KeySlot where
  key : List Byte
  roles : Nat
  sealed : Bool
  deriving DecidableEq, Repr

/-- The lock-out record in NOR (R69). -/
structure LockRecord where
  cause : Nat
  tai : Nat
  deriving DecidableEq, Repr

/-- RST: the reset in progress; fuse copies A and B (row, 64 bytes; an unlisted row is unprogrammed, R384) and the
AON shadow of the rows in use (R386) and the rows loaded as 0 (R385); NRST low since; boot progress (self-test result, image slot
accepted); consecutive clock failures per monitor (R388); domains whose release is held back after three;
key slots; NOR image slots as written; the slot SLOT_SELECT named; the lock-out record and latch (R69);
the instant of a provisioning reset (R391); both channels' images wait to be verified again (R379);
whether the application image of this boot has been judged (`imageDone`); whether a fuse load has completed since power-on, so that the map
in force is a fused one (`mapped`, R381); the last watchdog expiry attributed to each core, and the instant up to which a spare core takes up
a role (R352); whether boundary-scan control took effect in the reset in progress (R444). -/
structure RstState where
  active : Option ResetNow
  fuseA : List (Nat × List Byte)
  fuseB : List (Nat × List Byte)
  rows : List (Nat × List Byte)
  loading : Bool
  badRows : List Nat
  nrstLow : Option Nat
  selfTest : Option Bool
  image : Option Nat
  imageDone : Bool
  clkFails : List (Nat × Nat)
  clkHeld : List Nat
  relAt : Nat
  keySlots : List (Nat × KeySlot)
  nor0 : List (Nat × Byte)
  nor1 : List (Nat × Byte)
  slotFirst : Option Nat
  lockRecord : Option LockRecord
  lockLatch : Bool
  lockCause : Nat
  provAt : Option Nat
  reverify : Bool
  scan : Bool
  mapped : Bool
  expiries : List (Nat × Nat)
  roleAt : Nat
  deriving DecidableEq, Repr

/-- A fuse row: 60 data bytes and their CRC-32 (R384). -/
def fuseRowOf (data : List Byte) : List Byte := padTo 60 data ++ leBytes 4 (crc32 (padTo 60 data))

/-- Row 0 of a module of grade S: layout version 1, grade 2, die revision 1, serial number 1, MAC 0 (log entry 2). -/
def freshRow0 : List Byte := fuseRowOf [1, 2, 1, 1, 0, 0, 0, 0, 0, 0, 0]

/-- A module as Kyogivin delivers it (R393), its fuse load begun (R389 step 1). -/
def RstState.reset : RstState :=
  { active := none, fuseA := [(0, freshRow0)], fuseB := [(0, freshRow0)], rows := [], loading := true,
    badRows := [], nrstLow := none, selfTest := none, image := none, imageDone := false,
    clkFails := [], clkHeld := [], relAt := 0,
    keySlots := [(15, ⟨Config.initialKey, 12, true⟩)], nor0 := [], nor1 := [], slotFirst := none,
    lockRecord := none, lockLatch := false, lockCause := 0, provAt := none, reverify := false, scan := false,
    mapped := false, expiries := [], roleAt := 0 }

/-- A sequence whose results are still to come (R397, R406): its entries and windows as they stood at the trigger, DEST and STREAM,
the entry converted next, the galvo conversions put into it (R402: the entry each comes before, and its ANA cycles of sampling), start
of sampling of entry 0 in ns and TAI. -/
structure HkaRun where
  ents : List Nat
  wins : List Nat
  dest : Bool
  stream : Bool
  next : Nat
  ins : List (Nat × Nat)
  start : Nat
  tai : Nat
  deriving DecidableEq, Repr

/-- A galvo conversion whose result is still to come (R402): its entry's index, its entry and window, DEST and STREAM as they stood, the start
of its sampling in half ns, and the start in ns and TAI of the sequence it was put into, or of itself. -/
structure HkaGalvo where
  entry : Nat
  ent : Nat
  win : Nat
  dest : Bool
  stream : Bool
  at2 : Nat
  start : Nat
  tai : Nat
  deriving DecidableEq, Repr

/-- An open kind-0x01 record (R405): instant and TAI of the start of the first result's sequence, instant of the first result, frame and
epoch, results so far, oldest first. -/
structure HkaRecord where
  start : Nat
  tai : Nat
  first : Nat
  frame : Nat
  epoch : Nat
  results : List (List Byte)
  deriving DecidableEq, Repr

/-- HKA: sequences, oldest first, galvo conversions, oldest first, the last corrected code of each entry (R398), consecutive results inside the window of entries out
of band (R403), the open record, the start of the calibration in progress (R407), and the instant the timer
counts from (R400). -/
structure HkaState where
  runs : List HkaRun
  galvo : List HkaGalvo
  codes : List (Nat × Int)
  inside : List (Nat × Nat)
  open_ : Option HkaRecord
  calFrom : Option Nat
  timerFrom : Nat
  deriving DecidableEq, Repr

def HkaState.reset : HkaState := { runs := [], galvo := [], codes := [], inside := [], open_ := none, calFrom := none, timerFrom := 0 }

/-- A calibration step that runs (R422): channel, full-scale step, results to average, target, its start, the sum and number of the raw
values so far, and whether one was not good. -/
structure ScalStep where
  ch : Nat
  full : Bool
  want : Nat
  tgt : Int
  start : Nat
  sum : Int
  n : Nat
  bad : Bool
  deriving DecidableEq, Repr

/-- The decimators of a mount channel (R411): modulator samples since the last CIC output, the four integrators, the four combs, and the FIR's
inputs, newest first, in 640⁻⁴ of a unit. -/
structure Decimator where
  phase : Nat
  ints : List Int
  combs : List Int
  fir : List Int
  deriving DecidableEq, Repr

def Decimator.reset : Decimator := { phase := 0, ints := [0, 0, 0, 0], combs := [0, 0, 0, 0], fir := [] }

/-- EXC and DFL: the release of ANA (R417), last good VALUE per channel (R421), the instant from which settling counts (R416),
consecutive checks in window, consecutive checks below IMP_LO and consecutive output periods in range (R418), channels over range in the
last period, the instant at which its comparator last tripped and that at which OVR was set, channels whose OVR waits for its next check, SRC, BANK and PRESET that the last output set
used (R415), the decimators of each channel, triples delivered in units below 256 (R425), the calibration step, and the zero offsets measured since release. -/
structure ExcState where
  relAt : Nat
  good : List (Nat × Int)
  settleFrom : List (Nat × Nat)
  okChecks : List (Nat × Nat)
  lowChecks : List (Nat × Nat)
  calm : List (Nat × Nat)
  tripped : List Nat
  tripAt : List (Nat × Nat)
  ovrAt : List (Nat × Nat)
  ovrNew : List Nat
  used : Nat × Nat × Nat
  filters : List (Nat × Decimator)
  delivered : Nat
  step : Option ScalStep
  zeros : List (Nat × Int)
  deriving DecidableEq, Repr

def ExcState.reset : ExcState :=
  { relAt := 0, good := [], settleFrom := [], okChecks := [], lowChecks := [], calm := [], tripped := [], tripAt := [], ovrAt := [], ovrNew := [],
    used := (0, 0, 1), filters := [], delivered := 0, step := none, zeros := [] }

/-- A buffer entry (R427): W in ns, source, flags, the record. -/
structure RecEntry where
  w : Nat
  src : Nat
  flags : Nat
  bytes : List Byte
  deriving DecidableEq, Repr

/-- REC: records of selected sources that wait to be written, oldest first (R427); the buffer, newest first; whether the next stored entry
sets LOSS (R428); bytes written since ARM and from the trigger point on; the trigger instant; whether the trigger point is still to
come (R430); count of ARMs since L0; part and remaining entries of a readout, oldest first (R435); sequencer inputs of kind pulse that hold in this cycle, each with
its trigger instant (R432); timers that run, with the instant at which they expire, and timers expired; chain triggers sent (SEQ, R433) and
those seen, with their instants (R434). -/
structure RecState where
  due : List RecEntry
  buffer : List RecEntry
  lossNext : Bool
  written : Nat
  post : Nat
  trig : Option Int
  pointDue : Bool
  arms : Nat
  part : Nat
  readout : List RecEntry
  pulses : List (Nat × Int)
  timers : List (Nat × Nat)
  expired : List Nat
  sent : Nat
  seen : List ((Nat × Nat) × Nat)
  deriving DecidableEq, Repr

def RecState.reset : RecState :=
  { due := [], buffer := [], lossNext := false, written := 0, post := 0, trig := none, pointDue := false, arms := 0, part := 0,
    readout := [], pulses := [], timers := [], expired := [], sent := 0, seen := [] }

/-- What drives the steering outputs: the loops, coast or brake (R117). -/
inductive SteerDrive where
  | driven | coast | brake
  deriving DecidableEq, Repr

/-- What the reset-state map gives a pin (R387): driven low or high, high impedance with a pull, released; coast or brake for the steering
outputs. -/
inductive PinState where
  | low | high | pullDown | pullUp | released | coast | brake
  deriving DecidableEq, Repr

/-- The steering outputs (R122): duties, 65,535 for 100 % of `POLY_PWM` and 32,768 for 100 % of the galvo pins, high being 100 %, and the
periods in REF cycles. -/
structure SteerPins where
  poly : Nat
  brake : Bool
  galvP : Nat
  galvN : Nat
  polyPeriod : Nat
  galvPeriod : Nat
  deriving DecidableEq, Repr

/-- What the excitation lands of a mount channel carry (R409): the common level, tenths of a volt, or µA. -/
inductive Excite where
  | common
  | volts (tenths : Nat)
  | micro (amps : Nat)
  deriving DecidableEq, Repr

/-- The output pins (R13, R47, R63, R117, R122, R137, R245). `emitEn`: `EMIT_EN` high. `fire`: a train may drive
`FIRE`. `alertLow`: `ALERT_N` driven low. `ossdA`, `ossdB`: on. `drive`: the steering outputs are driven by the
loops, coast or brake. `held`: pins that follow the reset-state map, by its field, `OSSDB` as number 8 (R381, R387). `mrstA`, `mrstB`:
the port holds its module in reset, and `mlpmA`, `mlpmB` in low-power mode (R278; log entry 66). -/
structure Pins where
  emitEn : Bool
  fire : Bool
  alertLow : Bool
  ossdA : Bool
  ossdB : Bool
  drive : SteerDrive
  steer : SteerPins
  held : List (Nat × PinState)
  mrstA : Bool
  mrstB : Bool
  mlpmA : Bool
  mlpmB : Bool
  excite : List Excite
  deriving DecidableEq, Repr

/-- Right after power-on every mapped pin takes its unprogrammed state (R381, R387): `ALERT_N` driven low, coast. -/
def Pins.reset : Pins :=
  { emitEn := false, fire := false, alertLow := true, ossdA := false, ossdB := false, drive := .coast
    steer := { poly := 0, brake := false, galvP := 0, galvN := 0, polyPeriod := 2500, galvPeriod := 500 }
    held := [(0, .low), (1, .low), (2, .low), (3, .low), (4, .low), (5, .low), (6, .pullDown), (7, .coast), (8, .low)]
    mrstA := true, mrstB := true, mlpmA := true, mlpmB := true, excite := List.replicate 12 .common }

/-- The whole state. `pending`: commands waiting, first in, first out. `now`: ns since power-on. `free`: free values taken
so far (the model's own field, log entry 7). `regs`: active values of the register store, an entry per word that
differs from its reset value (`resetWord`); addresses above 2²⁴ hold the instances of selected registers.
`shadow`: pending words of SH registers (R36). `ram`: program banks A and B and the DFL coefficient banks, by word
address, 0 where unlisted (log entry 3). `frozen`: words that `BLK_CTL.FREEZE` holds for reading (R31).
`sys`: device state, commits and causes. `tp`: sessions, ledger, queues, journal and outputs. `mem`: LP-DRAM. `rst`: resets, fuses and boot. `pwr`: input, hold-up and domains. `thm`: thermal model. `time`: TAI counter, servo and clock monitors. `sch`: scan program run and Barista. `ste`: steering loops and interlock. `emt`: emitter chains, trains and guard. `etd`: emission timing. `rxc`: return channels, samplers, tile buses. `grn`: measurement slots. `crm`: return extraction. `saf`: protective field and lock-out. `net`: ports and chain. `cal`: calibration and spares. `hka`: housekeeping converter. `exc`: mount sensing. `rcd`: event recorder. `pins`: output pins. -/
structure State where
  pending : List Instr
  now : Nat
  free : Nat
  regs : List (Nat × Word)
  shadow : List (Nat × Word)
  ram : List (Nat × Word)
  frozen : List (Nat × Word)
  sys : SysState
  tp : TransportState
  mem : MemState
  rst : RstState
  pwr : PowerState
  thm : ThermalState
  time : TimeState
  sch : SchedState
  ste : SteerState
  emt : EmitState
  etd : EtdState
  rxc : RxState
  grn : GrindState
  crm : CremaState
  saf : SafetyState
  net : NetState
  cal : CalState
  hka : HkaState
  exc : ExcState
  rcd : RecState
  pins : Pins
  deriving DecidableEq, Repr

/-- The block right after power-on: R389 step 1, the device in `BOOT`, the fuse load begun, only AON released; `RST_CAUSE`
shows the power-on source and `RST_FUSE_LOADS` the load begun (R385, R395). -/
def State.reset : State :=
  { pending := [], now := 0, free := 0, regs := [(0x1100, 1), (0x1124, 1)], shadow := [], ram := [], frozen := [],
    sys := SysState.reset,
    tp := TransportState.reset,
    mem := MemState.reset,
    rst := RstState.reset,
    pwr := PowerState.reset,
    thm := ThermalState.reset,
    time := TimeState.reset,
    sch := SchedState.reset,
    ste := SteerState.reset,
    emt := EmitState.reset,
    etd := EtdState.reset,
    rxc := RxState.reset,
    grn := GrindState.reset,
    crm := CremaState.reset,
    saf := SafetyState.reset,
    net := NetState.reset,
    cal := CalState.reset,
    hka := HkaState.reset,
    exc := ExcState.reset,
    rcd := RecState.reset,
    pins := Pins.reset }

/-- Why a step stops with a fault. No command of the spec stops the block, so there is no reason to list. -/
inductive Fault where
  deriving DecidableEq, Repr

/-- Why a step has no meaning. -/
inductive Refusal where
  /-- Raised by an arm of `exec` that has no meaning yet. Safe. -/
  | notModelled (mnemonic : String)
  deriving DecidableEq, Repr

end Sys2Proof.Machine
end

