-- ==== Sys2Proof/Machine/Ops.lean ====
section
/-! DEFINITION. The named operations over the register store and the journal that every command uses: fields, counters,
events (R47 to R49), captured errors (R32), committed records (R57, R320), the pending set and commits (R36 to R43), and
transitions of the device state (R12, R15). -/

namespace Sys2Proof.Machine

/-! ## Registers -/

/-- The active value of a word of the register store. -/
def State.peek (s : State) (a : Nat) : Word := cellGet (resetWord a) a s.regs

/-- Set the active value of a word. -/
def State.poke (s : State) (a : Nat) (w : Word) : State := { s with regs := cellPut (resetWord a) a w s.regs }

/-- The bits of a field in a word. -/
def fieldOf (lsb width w : Nat) : Nat := w / 2 ^ lsb % 2 ^ width

/-- A word with a field replaced; what exceeds the field is dropped. -/
def withField (lsb width w v : Nat) : Nat := w - fieldOf lsb width w * 2 ^ lsb + (v % 2 ^ width) * 2 ^ lsb

/-- The value of a field. -/
def State.getF (s : State) (f : Field) : Nat := fieldOf f.lsb f.width (s.peek f.addr).toNat

/-- Give a field a value. -/
def State.setF (s : State) (f : Field) (v : Nat) : State :=
  s.poke f.addr (BitVec.ofNat 32 (withField f.lsb f.width (s.peek f.addr).toNat v))

/-- The value of a field in two's complement. -/
def State.getI (s : State) (f : Field) : Int := signed f.width (s.getF f)
/-- Give a signed field a value, held at the ends of its range. -/
def State.setI (s : State) (f : Field) (v : Int) : State :=
  s.setF f (unsigned f.width (clampInt (-(2 ^ (f.width - 1) : Nat)) ((2 ^ (f.width - 1) : Nat) - 1) v))
/-- Give a field a value, saturating at its largest. -/
def State.setSat (s : State) (f : Field) (v : Nat) : State := s.setF f (min v (2 ^ f.width - 1))
/-- Count up, saturating. -/
def State.bump (s : State) (f : Field) (n : Nat) : State := s.setSat f (s.getF f + n)
/-- Whether a field is not 0. -/
def State.flag (s : State) (f : Field) : Bool := s.getF f != 0
/-- Set a one-bit field. -/
def State.setB (s : State) (f : Field) (b : Bool) : State := s.setF f (if b then 1 else 0)
/-- Bit `i` of a field. -/
def State.bitF (s : State) (f : Field) (i : Nat) : Bool := (s.getF f).testBit i
/-- Set or clear bit `i` of a field. -/
def State.setBit (s : State) (f : Field) (i : Nat) (b : Bool) : State :=
  let v := s.getF f
  s.setF f (if b then (if v.testBit i then v else v + 2 ^ i) else (if v.testBit i then v - 2 ^ i else v))
/-- The low `n` bits of a number as positions of ones, rising. -/
def onesOf (n v : Nat) : List Nat := (List.range n).filter v.testBit

/-- A word of the banks of R25 that the register store does not hold. -/
def State.ramAt (s : State) (a : Nat) : Word := cellGet 0 a s.ram
def State.ramPut (s : State) (a : Nat) (w : Word) : State := { s with ram := cellPut 0 a w s.ram }

/-! ## Time and free values -/

/-- The TAI time in ns (R258). -/
def State.taiNs (s : State) : Nat := s.time.tai / 65536

/-- The next value the spec leaves open (log entry 7). -/
def State.freeNat (s : State) : Nat := (Config.freeValue s.free).toNat
/-- One open value has been taken. -/
def State.tick (s : State) : State := { s with free := s.free + 1 }

/-! ## Domains and the device state -/

/-- A power domain is on and released. -/
def State.on (s : State) (d : Nat) : Bool := s.pwr.released.contains d
/-- A page can be reached (R11). -/
def State.pageOn (s : State) (p : Nat) : Bool := s.on (domainOfPage p)

/-- The codes of `SYS_STATE.STATE`. -/
def DevState.code : DevState → Nat
  | .off => 0 | .boot => 1 | .standby => 2 | .spinup => 3 | .run => 4 | .degraded => 5 | .safe => 6
  | .lockout => 7 | .provision => 8

def DevState.ofCode : Nat → DevState
  | 1 => .boot | 2 => .standby | 3 => .spinup | 4 => .run | 5 => .degraded | 6 => .safe | 7 => .lockout
  | 8 => .provision | _ => .off

/-- The state of the device (R12); `SYS_STATE.STATE` is its one home. -/
def State.dev (s : State) : DevState := DevState.ofCode (s.getF F.SYS_STATE.STATE)
/-- Emission is allowed by R13. -/
def State.emitting (s : State) : Bool := s.dev = .run ∨ s.dev = .degraded
/-- Frames run (R36). -/
def State.frames (s : State) : Bool := s.dev = .spinup ∨ s.dev = .run ∨ s.dev = .degraded
/-- The module is an IK-1024S. -/
def State.gradeS (s : State) : Bool := s.getF F.SYS_PART.GRADE = 2
def State.frameNo (s : State) : Nat := s.getF F.SYS_FRAME.VALUE
def State.epoch (s : State) : Nat := s.getF F.SYS_EPOCH.VALUE

/-! ## Committed records (R57, R320) -/

/-- A queue takes the next number for a record of its class that it selects. -/
def Queue.selects (q : Queue) (cls : Nat) (sel : Queue → Bool) : Bool := q.cls = cls && !q.waitHdr && sel q

/-- The recorder writes (R429). -/
def State.recArmed (s : State) : Bool := s.on 5 && (s.getF F.REC_STAT.STATE = 1 || s.getF F.REC_STAT.STATE = 2)

/-- A record of recorder source `src` waits to be written, when the source is set (R427). -/
def State.recPush (s : State) (src : Nat) (bytes : List Byte) : State :=
  if s.recArmed && s.bitF F.REC_SRC.SRC src then
    { s with rcd := { s.rcd with due := s.rcd.due ++ [{ w := s.taiNs, src := src, flags := 0, bytes := bytes }] } }
  else s

/-- The recorder source of a committed record (R427). -/
def State.recSource (s : State) (cls kind : Nat) (bytes : List Byte) : Option Nat :=
  if cls = 5 then some 0
  else if cls = 1 && kind = 1 then some 1
  else if cls = 6 then some 2
  else if cls = 8 then (if (bytes.headD 0).toNat = 3 then none else some 3)
  else if cls = 1 then
    let c := ofLe ((bytes.drop 6).take 2) % 1024
    let span := s.getF F.REC_SPAN.SPAN
    if fieldOf 0 10 span ≤ c ∧ c ≤ fieldOf 16 10 span then some 4 else none
  else none

/-- `n` bytes of a class committed in this second; the one before is kept (R341). -/
def State.noteRate (s : State) (cls n : Nat) : List (Nat × Nat) :=
  let sec := s.now / 1000000000
  let l := s.tp.rates.filter (fun e => decide (sec ≤ e.1 / 16 + 1))
  addCount (sec * 16 + cls) n l

/-- Bytes that a record takes or gives back in the journal in this millisecond; the one before is kept (R342). -/
def State.noteMoved (s : State) (dir n : Nat) : List (Nat × Nat) :=
  let ms := s.now / 1000000
  addCount (ms * 2 + dir) n (s.tp.moved.filter (fun e => decide (ms ≤ e.1 / 2 + 1)))

/-- Bytes of the region of a class (R331). -/
def State.regionBytes (s : State) (cls : Nat) : Nat := s.getF (F.LDG_REGION.SIZE.inst cls) * 1048576

/-- Where a class's next record begins in its region, which is written round (log entry 14). -/
def State.nextPlace (s : State) (cls : Nat) : Nat := countAt cls s.tp.ends

/-- Commit a record: number and journal entry in one step. A record that no queue selects stands in the journal
without a number (log entry 14). -/
def State.commitSel (s : State) (cls kind : Nat) (bytes : List Byte) (sel : Queue → Bool) : State :=
  let nums := (s.tp.queues.filter (fun e => e.2.selects cls sel)).map (fun e => (e.1, e.2.next))
  let queues := s.tp.queues.map (fun e => if e.2.selects cls sel then (e.1, { e.2 with next := e.2.next + 1 }) else e)
  let r : JRec := { cls := cls, kind := kind, time := s.now, place := s.nextPlace cls, bytes := bytes, nums := nums, lost := false }
  let s := { s with tp := { s.tp with
    queues := queues, journal := r :: s.tp.journal, rates := s.noteRate cls bytes.length, moved := s.noteMoved 0 bytes.length
    ends := tabSet cls ((s.nextPlace cls + bytes.length) % max 1 (s.regionBytes cls)) s.tp.ends } }
  match s.recSource cls kind bytes with
  | some src => s.recPush src bytes
  | none => s

/-- Commit a record that every queue of its class selects (R319). -/
def State.commitRecord (s : State) (cls kind : Nat) (bytes : List Byte) : State :=
  s.commitSel cls kind bytes (fun _ => true)

/-- Commit a frame header: every queue of POINTS, POINTS_XYZ and HIST selects it, and a new one begins with it (R320).
It stands once in the region of each of the three classes (log entry 14). -/
def State.commitHeader (s : State) (bytes : List Byte) : State :=
  let begin_ := fun (e : Nat × Queue) => (e.1, { e.2 with waitHdr := false })
  let s := { s with tp := { s.tp with queues := s.tp.queues.map begin_ } }
  ((s.commitRecord 1 1 bytes).commitRecord 2 1 bytes).commitRecord 3 1 bytes

/-- An EVENTS record (R49). -/
def eventBytes (tai frame epoch kind page code a b count : Nat) : List Byte :=
  leBytes 8 tai ++ leBytes 4 frame ++ leBytes 4 epoch ++ leBytes 1 kind ++ leBytes 1 page ++ leBytes 2 code ++
    leBytes 4 a ++ leBytes 4 b ++ leBytes 2 (min count 0xFFFF) ++ leBytes 2 0

/-- A sequencer input of kind pulse holds in this cycle (R432). -/
def State.recPulse (s : State) (input : Nat) (instant : Int) : State :=
  if s.on 5 then { s with rcd := { s.rcd with pulses := s.rcd.pulses ++ [(input, instant)] } } else s

/-- An EVENTS record matches `REC_MATCH0` or `REC_MATCH1` (inputs 6 and 7). -/
def State.recMatch (s : State) (kind page code : Nat) : State :=
  (List.range 2).foldl (fun s k =>
    let f := fun (x : Field) => s.getF (x.idx k)
    let fits := fun (any v have_ : Nat) => have_ = any || have_ = v
    if fits 0xFF kind (f F.REC_MATCH.KIND) && fits 0xFF page (f F.REC_MATCH.PAGE) && fits 0xFFFF code (f F.REC_MATCH.CODE) then
      s.recPulse (6 + k) s.taiNs
    else s) s

def State.emitEvent (s : State) (kind page code a b count : Nat) : State :=
  (s.recMatch kind page code).commitRecord 5 6 (eventBytes s.taiNs s.frameNo s.epoch kind page code a b count)

/-! ## Interrupt bits and captured errors -/

/-- Occurrences of a set bit that its next record reports (R48). -/
def State.coalesced (s : State) (p bit : Nat) : Nat := (tabFind (p * 32 + bit) s.sys.coalesced).getD 0

/-- An event of page `p` (R48): the bit becomes 1, with a record of kind 0x01 when its `BLK_IER` bit is 1; an
occurrence while it is 1 is counted. A page whose domain is off has no event. -/
def State.raiseEvt (s : State) (p bit : Nat) : State :=
  if !s.pageOn p then s
  else if s.bitF (H.ISR p) bit then
    { s with sys := { s.sys with coalesced := tabSet (p * 32 + bit) (s.coalesced p bit + 1) s.sys.coalesced } }
  else
    let t := s.setBit (H.ISR p) bit true
    if s.bitF (H.IER p) bit then
      let u := t.emitEvent 1 p bit (t.getF (H.ISR p)) (t.getF (H.ERRCAP p)) (s.coalesced p bit)
      { u with sys := { u.sys with coalesced := tabDel (p * 32 + bit) u.sys.coalesced } }
    else t

/-- An event of the safety channels, which both pages show (R258, R259). -/
def State.safetyEvt (s : State) (bit : Nat) : State := (s.raiseEvt 16 bit).raiseEvt 17 bit

/-- Record an error of a page (R32). -/
def State.recErr (s : State) (p code addr : Nat) : State :=
  if !s.pageOn p then s
  else if s.flag (H.ERR_VALID p) then (s.bump (H.ERR_COUNT p) 1).raiseEvt p 31
  else
    let t := ((s.setF (H.ERR_CODE p) code).setF (H.ERR_VALID p) 1).setF (H.ERRADDR p) addr
    t.raiseEvt p 31

/-- The capture is empty again once the host has cleared `BLK_ISR.ERR` (R32). -/
def State.clearErr (s : State) (p : Nat) : State :=
  (s.setF (H.ERRCAP p) 0).setF (H.ERRADDR p) 0

/-! ## The pending set (R36 to R42) -/

/-- The SH fields of the word at an address. -/
def shFields (a : Nat) : List FieldSpec := (fieldsAt a).filter (fun f => f.acc = .sh)

/-- A word with the given fields taken from another word. -/
def mergeFields (fs : List FieldSpec) (old new : Nat) : Nat :=
  fs.foldl (fun w f => withField f.lsb f.width w (fieldOf f.lsb f.width new)) old

/-- The pending word at an address. -/
def State.pendingAt (s : State) (a : Nat) : Option Word := tabFind a s.shadow
/-- The word whose SH fields hold the current pending values (R36). -/
def State.current (s : State) (a : Nat) : Word := (s.pendingAt a).getD (s.peek a)
/-- A field's current pending value. -/
def State.pendF (s : State) (f : Field) : Nat := fieldOf f.lsb f.width (s.current f.addr).toNat
/-- The page has a pending value. -/
def State.pagePending (s : State) (p : Nat) : Bool := s.shadow.any (fun e => pageOf (e.1 % 0x1000000) = some p)

/-- The pending set is emptied (R37). -/
def State.emptyPending (s : State) : State := { s with shadow := [], sys := { s.sys with owner := none, armed := none } }

/-- Drop the pending values of one page; a discard that leaves no page pending empties the set. Where they go with the power of their
domain (R367), that frees the owner and disarms an armed commit without a record (log entry 66). -/
def State.discardPage (s : State) (p : Nat) : State :=
  let t := { s with shadow := s.shadow.filter (fun e => pageOf (e.1 % 0x1000000) ≠ some p) }
  if t.shadow.isEmpty && s.pagePending p then t.emptyPending.setF F.SYS_COMMIT_STAT.STATUS 0 else t

/-- Cancel the pending set and any armed commit, with its record (R37, R42): code 0 reset, 2 lease expiry.
Where nothing was pending and nothing armed, nothing happens. -/
def State.cancelPending (s : State) (code : Nat) : State :=
  if s.shadow.isEmpty && s.sys.armed.isNone then s.emptyPending
  else (s.emptyPending.setF F.SYS_COMMIT_STAT.STATUS 4).emitEvent 4 0 code 0 0 0

/-- The epoch after `e` (R43). -/
def nextEpoch (e : Nat) : Nat := if e = 0xFFFFFFFF then 1 else e + 1

/-- An armed commit is due at the boundary that begins frame `f` (R40). -/
def State.commitDue (s : State) (f : Nat) : Bool :=
  match s.sys.armed with
  | some a => if a.atFrame then a.frame = f else decide ((f + 2 ^ 32 - a.frame) % 2 ^ 32 < 2 ^ 31)
  | none => false

/-- The registers of the present epoch are kept while a frame, a train or a measurement belongs to it (R44, R193). -/
def State.keepEra (s : State) : State :=
  if (s.sch.frame.isSome || !s.sch.past.isEmpty || !s.sch.trains.isEmpty || !s.grn.slots.isEmpty)
      && (tabFind s.epoch s.grn.eras).isNone then
    { s with grn := { s.grn with eras := tabSet s.epoch s.regs s.grn.eras } }
  else s

def State.advanceEpoch (s : State) : State := s.keepEra.setF F.SYS_EPOCH.VALUE (nextEpoch s.epoch)

/-- Make one pending word active. -/
def State.applyWord (s : State) (e : Nat × Word) : State :=
  s.poke e.1 (BitVec.ofNat 32 (mergeFields (shFields e.1) (s.peek e.1).toNat e.2.toNat))

/-- Pages whose active values differ from the words about to be applied. -/
def State.changedPages (s : State) : List Nat :=
  (List.range 28).filter (fun p => s.shadow.any (fun e =>
    pageOf (e.1 % 0x1000000) = some p && (s.applyWord e).peek e.1 != s.peek e.1))

/-- Apply the armed commit (R41): all pending values at one instant, then the epoch, `BLK_ISR.COMMIT` of the pages that
changed, the record of kind 0x03 and the emptied pending set. `f` is the frame number it applies at. -/
def State.applyCommit (s : State) (f : Nat) : State :=
  let owner := s.sys.owner.getD 0
  let pages := s.changedPages
  let s := s.keepEra
  let t := s.shadow.foldl State.applyWord s
  let t := t.emptyPending.advanceEpoch
  let t := (t.setF F.SYS_COMMIT_STAT.STATUS 3).setF F.SYS_COMMIT_AT.FRAME f
  let t := t.emitEvent 3 0 0 (owner % 4096) 0 0
  pages.foldl (fun u p => u.raiseEvt p 30) t

/-! ## Device states (R12, R15) -/

/-- The cause codes of R62 in ascending order, as VALUE_B numbers them. -/
def causeCodes : List Nat :=
  [0x01, 0x02, 0x03, 0x04, 0x05, 0x10, 0x11, 0x12, 0x13, 0x14, 0x15, 0x20, 0x21, 0x22, 0x23, 0x25, 0x26, 0x27, 0x28,
   0x29, 0x2A, 0x2B, 0x40, 0x41, 0x42, 0x43, 0x50, 0x51, 0x52, 0x53, 0x60, 0x61]

/-- The bit map of causes not acted on. -/
def causeMap (cs : List Nat) : Nat :=
  (List.range 32).foldl (fun acc i => if cs.contains (nth 0 causeCodes i) then acc + 2 ^ i else acc) 0

/-! Triggers that fall in one REF cycle (R15): the first makes the transition and its EVENTS record; a later one of a destination that
stands further up in the order takes its place in both, and any other is entered in VALUE_B. -/

/-- The place of a destination in the order of R15. -/
def DevState.rank : DevState → Nat
  | .off => 0 | .boot => 1 | .lockout => 2 | .safe => 3 | .degraded => 4 | _ => 5

/-- A transition has been made in the present REF cycle. -/
def State.sameCycle (s : State) : Bool := s.sys.moved = some (s.now / 20)

/-- Change the bytes of the last record of a transition. -/
def amendMove (f : List Byte → List Byte) : List JRec → List JRec
  | [] => []
  | r :: l => if r.cls = 5 && (r.bytes.getD 16 0).toNat = 2 then { r with bytes := f r.bytes } :: l else r :: amendMove f l

/-- Causes added to VALUE_B of a record. -/
def withCauses (cs : List Nat) (b : List Byte) : List Byte :=
  b.take 24 ++ leBytes 4 (ofLe ((b.drop 24).take 4) ||| causeMap cs) ++ b.drop 28

/-- Another destination and cause in a record of a transition. -/
def withDestination (d : DevState) (cause : Nat) (b : List Byte) : List Byte :=
  b.take 18 ++ leBytes 2 cause ++ leBytes 4 (ofLe ((b.drop 20).take 1) % 16 + 16 * d.code) ++ b.drop 24

/-- The record of the last transition. -/
def State.moveRecord (s : State) : Option JRec := s.tp.journal.find? (fun r => r.cls = 5 && (r.bytes.getD 16 0).toNat = 2)

/-- Change the record of the last transition: in the journal, and in the entry that the recorder has of it (R427). -/
def State.amend (s : State) (f : List Byte → List Byte) : State :=
  match s.moveRecord with
  | none => s
  | some r =>
    let copy := fun (e : RecEntry) => if e.src = 0 && e.bytes = r.bytes then { e with bytes := f r.bytes } else e
    { s with tp := { s.tp with journal := amendMove f s.tp.journal }
             rcd := { s.rcd with due := s.rcd.due.map copy, buffer := s.rcd.buffer.map copy } }

/-- Causes that the transition made in this cycle leaves unacted on. -/
def State.noteCauses (s : State) (cs : List Nat) : State :=
  if s.sameCycle && !cs.isEmpty then s.amend (withCauses cs) else s

/-- Frames have stopped: what the closing header of the last one reports (R227). -/
def State.markStop (s : State) : State :=
  match s.sch.past.getLast? with
  | some p =>
    if s.frames || p.headerDone || (p.stop.isSome && !s.sameCycle) then s
    else
      let stop := match p.stop with
        | some x => { x with state := s.dev.code }
        | none => { tai := s.taiNs, next := (s.frameNo + 1) % 2 ^ 32, state := s.dev.code, holdover := !s.flag F.STE_STAT.REF_OK }
      { s with sch := { s.sch with past := s.sch.past.dropLast ++ [{ p with stop := some stop }] } }
  | none => s

/-- No stay in `SAFE` any more: its causes, and the monitors that warned in it, are done with (R62, R65). -/
def State.endStay (s : State) : State := { s with sys := { s.sys with stay := [] }, time := { s.time with warned := [] } }

/-- Causes of R66 that have arisen in the present REF cycle. -/
def State.arisenNow (s : State) : List Nat := if s.sys.arisen.1 = s.now / 20 then s.sys.arisen.2 else []

/-- A cause of R66 arises: its transition waits for the boundary (R66), and where another transition leaves `RUN` in its REF cycle it is one
of the causes not acted on (R15). -/
def State.noteArisen (s : State) (cause : Nat) : State :=
  let s := { s with sys := { s.sys with arisen := (s.now / 20, s.arisenNow ++ [cause]) } }
  if s.getF F.SYS_STATE.PREV = DevState.run.code then s.noteCauses [cause] else s

/-- A transition of the device state: `SYS_STATE` and the EVENTS record of kind 0x02. At one boundary `RUN` may be followed by `DEGRADED`
(R15, its last sentence): that is a transition of its own. -/
def State.enterState (s : State) (d : DevState) (cause : Nat) (others : List Nat) : State :=
  let old := s.dev.code
  let s := if d = .safe then s else s.endStay
  if s.sameCycle && !(s.dev = .run && d = .degraded) && decide (d.rank < s.dev.rank) then
    (((s.recMatch 2 0 cause).setF F.SYS_STATE.STATE d.code).setF F.SYS_STATE.CAUSE cause |>.amend
      (fun b => withDestination d cause (withCauses (s.getF F.SYS_STATE.CAUSE :: others) b))).markStop
  else
    let others := if s.dev = .run && d ≠ .degraded then others ++ s.arisenNow else others
    let t := ((s.setF F.SYS_STATE.PREV old).setF F.SYS_STATE.STATE d.code).setF F.SYS_STATE.CAUSE cause
    let t := { t with sys := { t.sys with stateAt := s.now, moved := some (s.now / 20) } }
    (t.emitEvent 2 0 cause (old + 16 * d.code) (causeMap others) 0).markStop

end Sys2Proof.Machine
end

