-- ==== Sys2Proof/Machine/Base.lean ====
section
/-! DEFINITION. What every command shares: ports, the passage of time, spare pools (R355), the trigger sequencer
(R432), the output pins, and the answer of a command. -/

namespace Sys2Proof.Machine

/-- Bytes of a fuse row in use (R386). -/
def State.fuseBytes (s : State) (row off n : Nat) : List Byte := (((tabFind row s.rst.rows).getD []).drop off).take n

def State.mapRst (s : State) (f : RstState → RstState) : State := { s with rst := f s.rst }

/-- A copy's row: 0 unprogrammed, 1 valid, 2 fails its CRC. -/
def rowKind (r : List Byte) : Nat :=
  if r.all (· = 0) then 0 else if fuseRowOf (r.take 60) = padTo 64 r then 1 else 2

def fuseRow (copy : List (Nat × List Byte)) (n : Nat) : List Byte := (tabFind n copy).getD []

/-- Row `n` as loaded, with: bad, taken from copy B by fallback, programmed in one copy only (R385). -/
def loadRow (a b : List (Nat × List Byte)) (n : Nat) : List Byte × Bool × Bool × Bool :=
  let ra := fuseRow a n
  let rb := fuseRow b n
  match rowKind ra, rowKind rb with
  | 0, 1 => (rb, false, false, true)
  | 0, 0 => (ra, false, false, false)
  | 0, _ => (ra, false, false, true)
  | 1, k => (ra, false, false, decide (k = 0))
  | _, 2 => ([], true, false, false)
  | _, k => (rb, false, true, decide (k = 0))

/-- Row 1 is bad, so no key slot verifies (R392). -/
def State.sealBad (s : State) : Bool := (loadRow s.rst.fuseA s.rst.fuseB 1).2.1

/-- Put into the record of outputs. -/
def State.emit (s : State) (o : Out) : State := { s with tp := { s.tp with out := o :: s.tp.out } }

/-! ## Queues -/

/-- A value lies in a range, its ends included. -/
def between (lo hi v : Nat) : Bool := decide (lo ≤ v) && decide (v ≤ hi)

/-- A queue's filter selects a point or a HIST record (R319). -/
def Queue.filterOk (q : Queue) (ch pcls : Nat) (rcls : Option Nat) (frame : Nat) : Bool :=
  let decim := fieldOf 16 4 q.filter1
  between (fieldOf 0 10 q.filter0) (fieldOf 16 10 q.filter0) ch && q.filter1.testBit pcls
    && (match rcls with | some r => q.filter1.testBit (8 + r) | none => true) && (decim = 0 || frame % decim = 0)

/-- Some HIST queue selects the measurement of a channel at the present instant (R320, R321). -/
def State.histWanted (s : State) (ch pcls frame : Nat) : Bool :=
  s.tp.queues.any (fun e => e.2.cls = 3 && !e.2.waitHdr && e.2.filterOk ch pcls none frame)

/-! ## Ports -/

def State.port (s : State) (p : Nat) : Port := nth Port.reset s.net.ports p

/-- Port `p` is `ACTIVE`: stage 6 of `NTA_STAT.STAGE`. -/
def State.portActive (s : State) (p : Nat) : Bool := s.getF (F.NTA_STAT.STAGE.pageUp p) = 6 && s.on (6 + p)

/-- The host-facing port (R294); `NTA_STAT.HOSTSIDE` of each port shows it. -/
def State.hostPort (s : State) : Nat := if s.net.hostB then 1 else 0

def State.mapPort (s : State) (p : Nat) (f : Port → Port) : State :=
  { s with net := { s.net with ports := setNth s.net.ports p (f (s.port p)) } }

/-- Bits of an Ethernet frame with `n` bytes of payload: header, FCS, and at least 64 bytes (R279). -/
def frameBits (n : Nat) : Nat := 8 * max 64 (18 + n)

/-! ## The passage of time -/

/-- Link rate in Gbit/s, and so bits per ns. -/
def linkRate (code : Nat) : Nat := if code = 0 then 400 else if code = 1 then 200 else 100

/-- The bucket of the egress ceiling, 64 KiB, in bits (R291). -/
def bucketBits : Nat := 524288

/-- The bucket gains what the ceiling allows in `n` bit times of the link. -/
def refill (rate ceil_ n bucket : Nat) : Nat := min bucketBits (bucket + n * ceil_ / rate)

/-- Bits that wait on a port. -/
def Port.waits (x : Port) : Nat := x.linkBits + x.c1Bits + x.fwdBits + x.ctlBits + x.ownBits

/-- What waits on a port after `dt` ns, in strict priority (R290): PTP event messages, the unit's own frames of class 1, forwarded frames, the
control buffer, stream datagrams; its own frames take their bits out of the bucket of the egress ceiling (R291; log entry 48). -/
def Port.drain (x : Port) (rate ceil_ now dt : Nat) : Port :=
  let c := max 1 ceil_
  let a0 := dt * rate
  let link := min x.linkBits a0
  let a1 := a0 - link
  let b1 := refill rate c link x.bucket
  let c1 := min x.c1Bits (min a1 (b1 + a1 * c / rate))
  let fwd := min x.fwdBits (a1 - c1)
  let a2 := a1 - c1 - fwd
  let b2 := refill rate c (c1 + fwd) b1 - c1
  let own := min (x.ctlBits + x.ownBits) (min a2 (b2 + a2 * c / rate))
  let ctl := min x.ctlBits own
  let y := { x with
    linkBits := x.linkBits - link, c1Bits := x.c1Bits - c1, fwdBits := x.fwdBits - fwd, ctlBits := x.ctlBits - ctl
    ownBits := x.ownBits - (own - ctl), bucket := min bucketBits (b2 + a2 * c / rate - own) }
  if x.waits ≠ 0 && y.waits = 0 then
    let up := fun (n d : Nat) => (n + d - 1) / d
    { y with idleFrom := now + up (x.linkBits + x.c1Bits + x.fwdBits) rate + max (up own rate) (up (own - b2) c) }
  else y

/-- Time passes on a port: it sends while it is `ACTIVE` and awake, and its bucket fills while it sleeps. -/
def State.drainPort (s : State) (p dt : Nat) : State :=
  if s.portActive p then
    let rate := linkRate (s.getF (F.NTA_STAT.RATE.pageUp p))
    let ceil_ := s.getF (F.NTA_EGR.CEIL.pageUp p)
    s.mapPort p (fun x =>
      if s.flag (F.NTA_STAT.TX_ASLEEP.pageUp p) then { x with bucket := refill rate (max 1 ceil_) (dt * rate) x.bucket } else x.drain rate ceil_ s.now dt)
  else s

/-- Correction still due that `dt` ns apply: SLEW × 100 ppm (R265). -/
def State.slewIn (s : State) (dt : Nat) : Int :=
  let most : Int := ((dt * 65536 * s.getF F.TSY_CTL.SLEW / 10000 : Nat) : Int)
  clampInt (-most) most s.time.slew

/-- The TAI counter after `dt` ns (R258, R265, R267): it runs while CLK is released, or a reset carries it on the AON oscillator alone. -/
def State.runTai (s : State) (dt : Nat) : State :=
  if s.on 3 || s.time.carried.isSome then
    let d := if s.time.carried.isSome then 0 else s.slewIn dt
    { s with time := { s.time with tai := (s.time.tai + (dt * 65536 : Nat) + d).toNat, slew := s.time.slew - d } }
  else s

/-- The state at instant `t` (log entry 5): the clock, the TAI counter and the ports' buffers move on; time never runs back. -/
def State.at (s : State) (t : Nat) : State :=
  if s.now < t then
    let dt := t - s.now
    { (((s.runTai dt).drainPort 0 dt).drainPort 1 dt) with now := t }
  else s

/-! ## Spare pools (R66, R355) -/

/-- The pool kind of a page (R356). -/
def poolKind : Nat → Option Nat
  | 13 => some 1 | 12 => some 2 | 14 => some 3 | 22 => some 4 | 18 => some 5 | 19 => some 5 | 7 => some 6 | 2 => some 7
  | 10 => some 8 | 21 => some 9 | _ => none

/-- The retirement record has to be rewritten (R354). -/
def State.recordDue (s : State) : State := { s with cal := { s.cal with recDue := true } }

/-- A trigger of R66 stands, and its page says so (R67). -/
def State.stand (s : State) (page cause : Nat) : State :=
  let s := s.setF (H.DEGRADED page) 1
  if s.sys.standing.contains (page, cause) then s else { s with sys := { s.sys with standing := s.sys.standing ++ [(page, cause)] } }

/-- A trigger of R66 arises, or arises again; the retirement record keeps which pools are exhausted (R354). -/
def State.standTrigger (s : State) (page cause : Nat) : State := ((s.stand page cause).recordDue).noteArisen cause

/-- A trigger of R66 stands no longer (R68). -/
def State.unstand (s : State) (page cause : Nat) : State :=
  let s := { s with sys := { s.sys with standing := s.sys.standing.filter (fun e => e ≠ (page, cause)) } }
  if s.sys.standing.any (fun e => e.1 = page) then s else s.setF (H.DEGRADED page) 0

/-- A standing trigger of R66 (cause 0x40: a pool is exhausted; 0x41: a part has failed with its pool empty), with
`BLK_STAT.DEGRADED` of the page (R67) and what the CAL page shows of its pool (R355, R356). -/
def State.poolTrigger (s : State) (page cause : Nat) : State :=
  let s := match poolKind page with
    | some k => if cause = 0x40 then
        if s.bitF F.CAL_EXHAUST.KINDS k then s else (s.setBit F.CAL_EXHAUST.KINDS k true).raiseEvt 6 2
      else s.bump (F.CAL_POOL_STAT.FAILED.inst k) 1
    | none => s
  s.standTrigger page cause

/-- A part has been substituted: bit 0 of CAL, and the retirement record is due. -/
def State.partTaken (s : State) : State := (s.raiseEvt 6 0).recordDue

/-- A part of page `p` has been substituted, and `BLK_SPARE` of the page shows it: bit 29. -/
def State.spareTaken (s : State) (p : Nat) : State := (s.raiseEvt p 29).partTaken

/-- A field's value in the epoch of a measurement (R44): that of an earlier epoch while its registers are kept. -/
def State.getAt (s : State) (epoch : Nat) (f : Field) : Nat :=
  match tabFind epoch s.grn.eras with
  | some regs => if epoch = s.epoch then s.getF f else fieldOf f.lsb f.width (cellGet (resetWord f.addr) f.addr regs).toNat
  | none => s.getF f

/-! ## Results of other converters that steering and emission use -/

/-- The last corrected code of an HKA entry (R398). -/
def State.hkaResult (s : State) (entry : Nat) : Int := (tabFind entry s.hka.codes).getD 0

def State.mapHka (s : State) (f : HkaState → HkaState) : State := { s with hka := f s.hka }

/-- Sampling time of an entry in ANA cycles (R397). -/
def entCycles (e : Nat) : Nat := 2 ^ fieldOf 8 3 e

/-- ANA cycles from the start of a sequence to the sampling of its entry `k`: the entries before it and what was put in before it. -/
def HkaRun.before (r : HkaRun) (k : Nat) : Nat :=
  ((r.ents.take k).map entCycles).sum + ((r.ins.filter (fun e => decide (e.1 ≤ k))).map (·.2)).sum

/-- End of the sampling of entry `k`, in half ns. -/
def HkaRun.sampledAt (r : HkaRun) (k : Nat) : Nat := 2 * r.start + 25 * (r.before k + entCycles (nth 0 r.ents k))

/-- A sequence still samples. -/
def HkaRun.samples (r : HkaRun) (now : Nat) : Bool := decide (2 * now < r.sampledAt (r.ents.length - 1))

/-- The galvo entry at a loop sample (R402): it is put in after the entry that samples and delays the rest, or it samples at once. -/
def State.hkaInsert (s : State) : State :=
  if !s.on 10 || !(s.flag F.STE_CTL.GV_FB || s.getF F.STE_CTL.GV_SRC = 1) then s
  else
    let n := s.getF F.STE_CTL.GV_HKA
    let e := (s.peek (F.HKA_ENT.POS.idx n).addr).toNat
    let own : HkaGalvo := {
      entry := n, ent := e, win := (s.peek (F.HKA_WIN.LO.idx n).addr).toNat, dest := s.flag F.HKA_CTL.DEST
      stream := s.flag F.HKA_CTL.STREAM, at2 := 2 * s.now, start := s.now, tai := s.taiNs }
    match s.hka.runs.find? (fun r => decide (r.start ≤ s.now) && r.samples s.now) with
    | some r =>
      let k := ((List.range r.ents.length).find? (fun k => decide (2 * s.now < r.sampledAt k))).getD 0
      let push := fun (x : HkaRun) => if x = r then { x with ins := x.ins ++ [(k + 1, entCycles e)] } else x
      let g := { own with at2 := r.sampledAt k, start := r.start, tai := r.tai }
      (s.mapHka (fun h => { h with galvo := h.galvo ++ [g], runs := h.runs.map push })).bump F.HKA_OVR.INSERT 1
    | none => s.mapHka (fun h => { h with galvo := h.galvo ++ [own] })

/-- The temperature that excitation channel `x` gives, 0.1 °C, when its last result is good (R127): a result that is not good for another reason
than the two R127 names, or of a channel with EN 0, holds the last value too (DESIGN CHOICE, log entry 81). -/
def State.excTemp (s : State) (x : Nat) : Option Int :=
  if s.on 10 && s.flag (F.EXC_CH.EN.idx x) && s.flag (F.EXC_STAT.GOOD.idx x) then some (s.getI (F.DFL_OUT_LIN.VALUE.inst x)) else none

/-! ## The trigger sequencer (R430, R432, R433) -/

/-- Bytes an entry takes in the buffer (R427). -/
def RecEntry.size (e : RecEntry) : Nat := 16 + (e.bytes.length + 7) / 8 * 8

/-- The first entry, in write order, at or after the trigger instant, marked; `none` where none stands there. -/
def markPoint (instant : Int) : List RecEntry → Option (List RecEntry)
  | [] => none
  | e :: l => if instant ≤ e.w then some ({ e with flags := e.flags ||| 1 } :: l) else (markPoint instant l).map (e :: ·)

/-- Bytes from the trigger point on. -/
def postBytes (l : List RecEntry) : Nat := ((l.dropWhile (fun e => e.flags % 2 = 0)).map RecEntry.size).sum

/-- TRIGGER (R429, R430). -/
def State.recTrigger (s : State) (instant : Int) : State :=
  match s.getF F.REC_STAT.STATE with
  | 1 =>
    let order := s.rcd.buffer.reverse
    let early := !order.isEmpty && order.all (fun e => decide (instant < e.w))
    let marked := markPoint instant order
    let buf := (marked.getD order).reverse
    let s := { s with rcd := { s.rcd with buffer := buf, trig := some instant, pointDue := marked.isNone, post := postBytes buf.reverse } }
    let s := ((s.setF F.REC_STAT.STATE 2).setB F.REC_STAT.EARLY early).setF F.REC_TRIG_LO.NS (unsigned 32 instant)
    let s := (s.setF F.REC_TRIG_HI.NS (unsigned 32 (instant / 2 ^ 32))).raiseEvt 26 0
    if s.flag F.REC_IO.DIR then s.emit (.trigger s.now (s.getF F.REC_IO.WIDTH)) else s
  | 2 => s.bump F.REC_STAT.EXTRA 1
  | 3 => s.bump F.REC_STAT.EXTRA 1
  | _ => s

/-- The payload of a chain trigger (R433). -/
def chainTriggerBytes (timed : Bool) (origin seq : Nat) (tai : Int) (corr : Nat) : List Byte :=
  leBytes 1 1 ++ leBytes 1 (if timed then 1 else 0) ++ leBytes 6 origin ++ leBytes 2 seq ++ leBytes 2 0 ++ leBytes 8 (unsigned 64 tai) ++ leBytes 8 corr

/-- The unit's MAC address as a number, byte 0 lowest. -/
def State.unitMac (s : State) : Nat := s.getF F.NTA_MAC_HI.MAC % 65536 * 2 ^ 32 + s.getF F.NTA_MAC_LO.MAC

/-- An Ethernet frame to the broadcast address, without its FCS: kind 1 a census, 2 a census done, 3 a link notice, of EtherType 0x88B5, from
the unit (R293); 4 a chain trigger, of 0x88B6, from its ORIGIN (R433). -/
def State.etherFrame (s : State) (kind : Nat) (payload : List Byte) : List Byte :=
  List.replicate 6 0xFF ++ (if kind = 4 then (payload.drop 2).take 6 ++ [0x88, 0xB6] else leBytes 6 s.unitMac ++ [0x88, 0xB5]) ++ payload

/-- Send a frame in class 1 out of an `ACTIVE` port (R290). The record of outputs names what a port has been given to send. -/
def State.sendFrame (s : State) (p kind : Nat) (payload : List Byte) : State :=
  if s.portActive p then
    (s.mapPort p (fun x => { x with c1Bits := x.c1Bits + frameBits payload.length })).emit (.frame p kind (s.etherFrame kind payload))
  else s

/-- Send a chain trigger out of both ports, when SEND_EN is 1 (R433): CORR is the time since the trigger instant; kind 4 of the record of
outputs. -/
def State.sendChainTrigger (s : State) (instant : Int) : State :=
  if s.flag F.REC_CTL.SEND_EN then
    let body := chainTriggerBytes (s.getF F.TSY_STAT.STATE = 2) s.unitMac s.rcd.sent instant (16 * ((s.taiNs : Int) - instant)).toNat
    let f := F.REC_CHAIN.COUNT
    let hi := min 0xFFFF (fieldOf 16 16 (s.getF f) + 1)
    let s := { s with rcd := { s.rcd with sent := s.rcd.sent + 1 } }
    ((s.setF f (withField 16 16 (s.getF f) hi)).sendFrame 0 4 body).sendFrame 1 4 body
  else s

/-- Start timer `k` from the PERIOD in force (R432): it expires that much later. -/
def State.startTimer (s : State) (k : Nat) : State :=
  { s with rcd := { s.rcd with timers := tabSet k (s.now + s.getF (F.REC_TMR.PERIOD.idx k) * 100000) s.rcd.timers, expired := s.rcd.expired.filter (· ≠ k) } }

/-- An action of R432. -/
def State.seqAction (s : State) (act : Nat) (instant : Int) : State :=
  match act with
  | 1 => s.recTrigger instant
  | 2 => (s.recTrigger instant).sendChainTrigger instant
  | 3 => s.sendChainTrigger instant
  | 4 => s.bump F.REC_CNT.VALUE 1
  | 5 => s.bump (F.REC_CNT.VALUE.idx 1) 1
  | 6 => s.bump (F.REC_CNT.VALUE.idx 2) 1
  | 7 => s.bump (F.REC_CNT.VALUE.idx 3) 1
  | 8 => s.startTimer 0
  | 9 => s.startTimer 1
  | 10 => s.startTimer 2
  | 11 => s.startTimer 3
  | 12 => (List.range 4).foldl (fun s k => s.setF (F.REC_CNT.VALUE.idx k) 0) s
  | 13 => { s with rcd := { s.rcd with timers := [], expired := [] } }
  | _ => s

/-- A sequencer input holds in this cycle. -/
def State.seqHolds (s : State) (input : Nat) : Bool :=
  if input = 1 then true
  else if 12 ≤ input ∧ input < 16 then decide (s.getF (F.REC_CNT.LIMIT.idx (input - 12)) ≤ s.getF (F.REC_CNT.VALUE.idx (input - 12)))
  else if 16 ≤ input ∧ input < 20 then s.rcd.expired.contains (input - 16)
  else s.rcd.pulses.any (fun p => p.1 = input)

/-- At most one transition: condition A before B. The trigger instant is the input's, or the current cycle (R430). -/
def State.seqStep (s : State) : State :=
  let n := s.getF F.REC_STAT.SEQ
  let f := fun (x : Field) => s.getF (x.idx n)
  let instant := fun (input : Nat) => ((s.rcd.pulses.find? (fun p => p.1 = input)).map (·.2)).getD (s.taiNs : Int)
  if s.seqHolds (f F.REC_ST.IN_A) then (s.seqAction (f F.REC_ST.ACT_A) (instant (f F.REC_ST.IN_A))).setF F.REC_STAT.SEQ (f F.REC_ST.NEXT_A)
  else if s.seqHolds (f F.REC_ST.IN_B) then
    (s.seqAction (f F.REC_ST.ACT_B) (instant (f F.REC_ST.IN_B))).setF F.REC_STAT.SEQ (f F.REC_ST.NEXT_B)
  else s

/-- The pulses of a command, tested once in their cycle; those that its action raises are tested in the next. -/
def State.runPulses : Nat → State → State
  | 0, s => { s with rcd := { s.rcd with pulses := [] } }
  | fuel + 1, s =>
    if s.rcd.pulses.isEmpty then s
    else
      let n := s.rcd.pulses.length
      let t := s.seqStep
      runPulses fuel { t with rcd := { t.rcd with pulses := t.rcd.pulses.drop n } }

/-! ## Pins (R13, R47, R63, R117, R122, R135, R137, R245, R387) -/

/-- Pages with an enabled event: `SYS_EVT_SUM` (R47). -/
def State.eventSum (s : State) : Nat :=
  (List.range 28).foldl (fun a p => if s.pageOn p && (s.getF (H.ISR p) &&& s.getF (H.IER p)) != 0 then a + 2 ^ p else a) 0

/-- Every enabled chain is `ON` and has latched its working load (R137). -/
def State.chainsReady (s : State) : Bool :=
  (List.range 4).all (fun c => !s.flag (F.EMT_CHAIN_CTL.EN.idx c) ||
    (s.getF (F.EMT_CHAIN_STAT.STATE.idx c) = 2 && (nth Chain.reset s.emt.chains c).loaded))

/-- A field of the map in force (R387): unprogrammed until the first fuse load after power-on has completed (R381). -/
def State.mapCode (s : State) (i : Nat) : Nat := if s.rst.mapped then fieldOf (2 * i) 2 (s.getF F.RST_PINMAP.FIELDS) else 0

/-- `ALERT_N` is driven low (R47). A bit that `BLK_ISET` has set counts like any other: R35 speaks of pins that the event itself would change
(log entry 66). In a reset it follows the map; the fuse load that ends an L0 counts as part of it (R385; log entry 66). -/
def State.alertLow (s : State) : Bool :=
  if s.dev = .off then false
  else if !s.rst.mapped || s.rst.loading || s.rst.active.any (fun r => r.entered) then s.mapCode 5 % 2 = 0
  else (s.eventSum &&& s.getF F.SYS_ALERT_MASK.PAGES) != 0
    || (s.flag F.SYS_ALERT_CTL.STATE_EN && (s.dev = .safe || s.dev = .lockout || s.dev = .provision))

/-- Coast or brake, as field 7 of the pin map says (R122, R387). -/
def State.restDrive (s : State) : SteerDrive := if s.mapCode 7 % 2 = 1 then .brake else .coast

/-- A reset holds domain `d`: it is not released, and not because it has been switched off (R378, R381). -/
def State.resetHolds (s : State) (d : Nat) : Bool := !s.on d && tabFind d s.pwr.why ≠ some 9

/-- The steering outputs (R122): per the map in any reset and while a reset holds STE. -/
def State.steerDrive (s : State) : SteerDrive :=
  if s.dev = .off then .coast
  else if s.rst.active.isSome || s.resetHolds 9 then s.restDrive
  else if s.frames then .driven
  else if s.dev = .safe || s.dev = .lockout || s.dev = .provision then s.restDrive
  else .coast

/-- The steering outputs as the loops or the rest state drive them (R122). -/
def State.steerPins (s : State) : SteerPins :=
  let d := s.steerDrive
  let loop := d = .driven
  let brake := d = .brake
  { poly := if loop then s.ste.pgPrev.toNat else 0
    brake := brake
    galvP := if brake then 32768 else if loop then s.ste.gvPrev.toNat else 0
    galvN := if brake then 32768 else if loop then (-s.ste.gvPrev).toNat else 0
    polyPeriod := s.getF F.STE_PWM.PG_DIV
    galvPeriod := s.getF F.STE_PWM.GV_DIV }

/-- The domain that drives the pins of a field of the map (R387): field 1 by SFA, its second pin, as number 8, by SFB. -/
def mapDomain (i : Nat) : Nat := nth 0 [8, 1, 8, 8, 8, 0, 5, 9, 2] i

/-- The safe-only fields of the map (R387). -/
def safeOnly (i : Nat) : Bool := i ≤ 3 || i = 7 || i = 8

/-- The pins of a field follow the map (R381, R387): until the first fuse load after power-on has completed, and while a reset holds the
domain that drives them; `ALERT_N` while a reset holds; the safe-only pins while boundary-scan control is in force (R444). -/
def State.mapHolds (s : State) (i : Nat) : Bool :=
  !s.rst.mapped || (if i = 5 then s.rst.loading || s.rst.active.any (fun r => r.entered) else s.resetHolds (mapDomain i))
    || (s.rst.scan && s.rst.active.any (fun r => r.entered) && safeOnly i)

/-- What a field of the map gives its pins (R387); number 8 is `OSSDB`, of field 1. -/
def mapState (i code : Nat) : PinState :=
  if i = 4 then nth .low [.low, .high, .pullDown, .pullUp] code
  else if i = 5 then (if code % 2 = 1 then .released else .low)
  else if i = 6 then nth .low [.pullDown, .pullUp, .low, .high] code
  else if i = 7 then (if code % 2 = 1 then .brake else .coast)
  else (if code % 2 = 1 then .pullDown else .low)

/-- The pins that follow the map, with their states. -/
def State.heldPins (s : State) : List (Nat × PinState) :=
  if s.dev = .off then []
  else ((List.range 9).filter s.mapHolds).map (fun i => (i, mapState i (s.mapCode (if i = 8 then 1 else i))))

/-- An off-pulse that began at `start` is under way (R246): PULSE_W µs of the image. -/
def State.inPulse (s : State) (start : Option Nat) (img : Option (List Byte)) : Bool :=
  match start, img with
  | some p, some i => decide (p ≤ s.now) && decide (s.now < p + 1000 * ofLe ((i.drop 0x36).take 2))
  | _, _ => false

/-- The excitation of a mount channel (R409): a disabled channel, or one without power, is at the common level. -/
def State.exciteOf (s : State) (c : Nat) : Excite :=
  let level := s.getF (F.EXC_CH.LEVEL.idx c)
  if !s.on 10 || !s.flag (F.EXC_CH.EN.idx c) then .common
  else if c < 8 then .volts (nth 0 [10, 25, 50] level)
  else .micro (nth 0 [100, 250, 1000] level)

def State.pinsOf (s : State) : Pins :=
  let may := s.emitting && s.rst.active.isNone
  let out := may && s.gradeS && s.saf.outputsOn && !s.flag F.SFA_OSSD.IL_WAIT
  { emitEn := may && !s.flag F.STE_STAT.ILK && s.chainsReady
    fire := may
    alertLow := s.alertLow
    ossdA := out && s.saf.activeA.isSome && !s.inPulse s.saf.pulseA s.saf.activeA
    ossdB := out && s.saf.activeB.isSome && !s.inPulse s.saf.pulseB s.saf.activeB
    drive := s.steerDrive
    steer := s.steerPins
    held := s.heldPins
    mrstA := !s.on 6
    mrstB := !s.on 7
    mlpmA := !s.on 6
    mlpmB := !s.on 7
    excite := (List.range 12).map s.exciteOf }

/-- The end of a command: the sequencer tests the pulses of its cycle, and the pins follow the state. -/
def State.settle (s : State) : State :=
  let t := State.runPulses 8 s
  { t with pins := t.pinsOf }

/-- The answer of every command. -/
def answer (s : State) : Host.Outcome State Fault Refusal := .next s.settle

end Sys2Proof.Machine
end

