-- ==== Sys2Proof/Machine/Drive.lean ====
section
/-! DEFINITION. Emission chains (chapter 06): trim entries, drive codes, chain loads and lines. -/

namespace Sys2Proof.Machine

/-! ## Trim entries (R125) and drive codes (R126) -/

/-- A field of trim entry `e`. -/
def trimF (e off lsb width : Nat) : Field := ⟨0x600000 + e * 64 + off, lsb, width⟩

def State.trimTemp (s : State) (e i : Nat) : Int :=
  s.getI (nth (trimF e 0 0 16) [trimF e 0 0 16, trimF e 0 16 16, trimF e 4 0 16] i)
def State.trimRated (s : State) (e i : Nat) : Nat :=
  s.getF (nth (trimF e 4 16 12) [trimF e 4 16 12, trimF e 8 0 12, trimF e 8 16 12] i)
def State.trimThr (s : State) (e i : Nat) : Nat :=
  s.getF (nth (trimF e 12 0 12) [trimF e 12 0 12, trimF e 12 16 12, trimF e 16 0 12] i)
def State.ratedNj (s : State) (e : Nat) : Nat := s.getF (trimF e 16 16 16)
def trimPresent (e : Nat) : Field := trimF e 20 8 1
def trimRetired (e : Nat) : Field := trimF e 20 9 1
def trimLevel (e : Nat) : Field := trimF e 20 16 9
def trimCreep (e : Nat) : Field := trimF e 24 0 16

/-- The wavelength bin of a diode is not accepted (R128). `accept` is `EMT_WL.ACCEPT`. -/
def State.ineligible (s : State) (e accept : Nat) : Bool := !accept.testBit (s.getF (trimF e 20 0 4))

/-- `interp` of R126. -/
def interp (p0 p1 p2 v0 v1 v2 t : Int) : Int :=
  if t ≤ p0 then v0
  else if p2 ≤ t then v2
  else if t ≤ p1 then v0 + truncDiv ((v1 - v0) * (t - p0) + truncDiv (p1 - p0) 2) (p1 - p0)
  else v1 + truncDiv ((v2 - v1) * (t - p1) + truncDiv (p2 - p1) 2) (p2 - p1)

/-- Drive code and relative pulse energy (2⁻¹⁶) of trim entry `e` at temperature `temp` (none: TEMP1, R127).
A diode that is not driven has energy 0. -/
def State.driveOf (s : State) (e : Nat) (temp : Option Int) (accept : Nat) : Nat × Nat :=
  let t := temp.getD (s.trimTemp e 1)
  let p := s.trimTemp e
  let creep := s.getI (trimCreep e)
  let rated := clampInt 1 4095
    (interp (p 0) (p 1) (p 2) (s.trimRated e 0) (s.trimRated e 1) (s.trimRated e 2) t + creep)
  let thr := clampInt 0 (rated - 1)
    (interp (p 0) (p 1) (p 2) (s.trimThr e 0) (s.trimThr e 1) (s.trimThr e 2) t + creep)
  let level := s.getF (trimLevel e)
  if level = 0 || s.flag (trimRetired e) || s.ineligible e accept then (0, 0)
  else
    let d := (level * (rated - thr).toNat + 128) / 256
    (thr.toNat + d, d * 65536 / (rated - thr).toNat)

/-! ## Lines and chains (R124, R128) -/

def State.compat (s : State) (c : Nat) : Bool := s.flag (F.EMT_CHAIN_CTL.COMPAT.idx c)
/-- SEL of line `l`: its reserve diode is switched in. A chain in compatibility mode has none (R131). -/
def State.reserveIn (s : State) (l : Nat) : Bool := s.bitF (F.EMT_RSV.SEL.idx (l / 32)) (l % 32) && !s.compat (l / 32)
/-- The trim entry of the diode switched in for line `l`. -/
def State.emitterOf (s : State) (l : Nat) : Nat := if s.reserveIn l then 128 + l else l
/-- Line `l` has no eligible diode switched in. -/
def State.lineDead (s : State) (l : Nat) : Bool :=
  s.flag (trimRetired (s.emitterOf l)) || s.ineligible (s.emitterOf l) (s.getF F.EMT_WL.ACCEPT)

def State.chain (s : State) (c : Nat) : Chain := nth Chain.reset s.emt.chains c
def State.setChain (s : State) (c : Nat) (k : Chain) : State :=
  { s with emt := { s.emt with chains := setNth s.emt.chains c k } }
def State.chainState (s : State) (c : Nat) : Nat := s.getF (F.EMT_CHAIN_STAT.STATE.idx c)
def State.chainEn (s : State) (c : Nat) : Bool := s.flag (F.EMT_CHAIN_CTL.EN.idx c)

/-- A change of `EMT_CHAIN_STATc.STATE`, with its event. -/
def State.setChainState (s : State) (c v : Nat) : State :=
  if s.chainState c = v then s else (s.setF (F.EMT_CHAIN_STAT.STATE.idx c) v).raiseEvt 10 1

/-- Energy per pulse of line `l` at the latched drive, in nJ × 2¹⁶ (R126). -/
def State.pulseEnergy (s : State) (l : Nat) : Nat :=
  s.ratedNj (s.emitterOf l) * nth 0 (s.chain (l / 32)).energies (l % 32)

/-- The energy check 2 counts while a load is armed: the higher of old and new (R133). -/
def State.plannedEnergy (s : State) (l : Nat) : Nat :=
  match (s.chain (l / 32)).load with
  | some k => max (s.pulseEnergy l) (s.ratedNj (s.emitterOf l) * nth 0 k.energies (l % 32))
  | none => s.pulseEnergy l

/-! ## Loads (R129, R131) -/

/-- Number of ones in the low `n` bits. -/
def popCount (n v : Nat) : Nat := (onesOf n v).length

/-- A native word: even parity over SEL, POS and DRIVE. -/
def chainWord (sel : Bool) (pos drive : Nat) : Nat :=
  let w := (if sel then 2 ^ 22 else 0) + pos * 2 ^ 16 + drive % 4096
  if popCount 23 w % 2 = 1 then w + 2 ^ 23 else w

/-- One step of CRC-8 with x⁸ + x² + x + 1. -/
def crc8Bit (crc : Nat) (bit : Bool) : Nat :=
  let top := crc.testBit 7 != bit
  let c := crc * 2 % 256
  if top then c ^^^ 7 else c

/-- CRC-8 over the 24 bits [31:8] of a compatibility frame. -/
def crc8 (v : Nat) : Nat := (List.range 24).foldl (fun c i => crc8Bit c (v.testBit (23 - i))) 0

/-- A frame of compatibility mode: bits [31:8] and their CRC. -/
def compatFrame (hi : Nat) : Nat := hi * 256 + crc8 hi
/-- The write frame of a position. -/
def compatWrite (pos drive : Nat) : Nat := compatFrame (pos * 2 ^ 19 + drive / 16 % 256 * 2 ^ 11)
def compatApply : Nat := compatFrame 0xA50000
def compatZero : Nat := compatFrame 0x5A0000

/-- The wavelength class that the boundary beginning frame `f` brings. -/
def State.acceptAt (s : State) (f : Nat) : Nat := if s.commitDue f then s.pendF F.EMT_WL.ACCEPT else s.getF F.EMT_WL.ACCEPT

/-- Drive and energy of every position of chain `c` (R126), with the wavelength class given. -/
def State.chainDrives (s : State) (c accept : Nat) : List (Nat × Nat) :=
  (List.range 32).map (fun p => s.driveOf (s.emitterOf (c * 32 + p)) (s.chain c).temp accept)

/-- The words of a load, position 0 first. -/
def State.chainWords (s : State) (c : Nat) (drives : List Nat) : List Nat :=
  (List.range 32).map (fun p => if s.compat c then compatWrite p (nth 0 drives p)
    else chainWord (s.reserveIn (c * 32 + p)) p (nth 0 drives p))

def State.zeroLoadOf (s : State) (c : Nat) : ChainLoad :=
  { words := s.chainWords c (List.replicate 32 0), energies := List.replicate 32 0, zero := true, start := s.now, late := false }

/-- What leaves the pins when a load latches: native words in the order sent, or write frames and APPLY; or one ZERO frame. Pins that
boundary-scan control keeps in their map states are not clocked (R444). -/
def State.emitLoad (s : State) (c : Nat) (k : ChainLoad) : State :=
  if s.mapHolds 3 then s
  else
  let o : Out := if s.compat c then (if k.zero then .broadcast c compatZero else .chain c (k.words ++ [compatApply]) 1)
    else .chain c k.words.reverse 0
  s.emit o

/-- A load latches (R129, R132): the words stand at the positions. -/
def State.latchLoad (s : State) (c : Nat) (k : ChainLoad) : State :=
  let ch := s.chain c
  let s := s.emitLoad c k
  (s.setChain c { ch with
    load := none, last := k.words, energies := k.energies,
    loaded := !k.zero && (ch.loaded || ch.fullDue), fullDue := k.zero && ch.fullDue, yc := s.compat c }).bump (F.EMT_CHAIN_STAT.LOADS.idx c) 1

/-- The instant at which a load's shift has ended and it may latch: 768 clock periods of a native chain, 1,122 of a chain in compatibility
mode (R130, R131). -/
def State.shiftEnd (s : State) (c : Nat) (k : ChainLoad) : Nat :=
  k.start + (if s.compat c then 1122 else 768) * s.getF (F.EMT_CHAIN_CTL.DIV.idx c)

/-- A working load of chain `c` is computed, and its shift starts when a word differs from the word last latched or a full load is due
(R132). -/
def State.startLoad (s : State) (c : Nat) : State :=
  let ch := s.chain c
  let ds := s.chainDrives c (s.acceptAt ((s.frameNo + 1) % 2 ^ 32))
  let ws := s.chainWords c (ds.map (·.1))
  if ws != ch.last || ch.fullDue then
    s.setChain c { ch with load := some { words := ws, energies := ds.map (·.2), zero := false, start := s.now, late := false } }
  else s.setChain c { ch with load := none }

/-- `GO` or ABORT after the shift of the coming boundary's load began (R132): the load is computed and shifted again. `predicted`: the
predicted frame boundary. -/
def State.reloadChains (s : State) (predicted : Option Nat) : State :=
  if s.frames && s.on 8 && predicted.any (fun b => decide (s.now ≤ b) && decide (b < s.now + 200000)) then
    (List.range 4).foldl (fun s c =>
      if s.chainState c = 2 && s.chainEn c && !(s.chain c).load.any (fun k => k.zero) then s.startLoad c else s) s
  else s

/-- The zero load of R136: every chain in `STARTING`, `ON`, `STOPPING`, or `PENDING_ON` with its stop still to finish, starts it, stopping
any other load. -/
def State.zeroLoads (s : State) : State :=
  (List.range 4).foldl (fun s c =>
    if s.chainState c = 0 || (s.chain c).stopped then s else s.setChain c { s.chain c with load := some (s.zeroLoadOf c), loaded := false }) s

/-! ## Trains (R139) -/

/-- The interpolator of line `l`'s bank, or a sampler of a channel that it illuminates, relocks (R157, R171). -/
def State.relocking (s : State) (l : Nat) : Bool :=
  let etd := if s.flag F.ETD_MAP.SPARE_IN && s.getF F.ETD_MAP.BANK = l / 16 then 8 else l / 16
  let mine := fun (n : Nat) => if n < 16 then n = etd
    else ((n - 16) / 68 * 64 + s.getF (F.RXC_SMP_STAT.CHANNEL.inst (n - 16))) / 8 = l && s.flag (F.RXC_SMP_STAT.IN_SERVICE.inst (n - 16))
  s.etd.relock.any (fun x => mine x.1 && (match x.2 with | some u => decide (s.now < u) | none => true))
/-- A train runs on a line, from the nominal time of its first pulse to the end of its last cell. -/
def TrainLine.runs (x : TrainLine) (now : Nat) : Bool := decide (x.first ≤ now) && decide (now < x.endAt)

/-- Line `l` carries a train from its start on, or is held as if it did (R134, R157, R171): a line carries one train at a time. -/
def State.lineBusy (s : State) (l : Nat) : Bool :=
  s.sch.trains.any (fun tr => tr.lines.any (fun x => x.line = l && decide (s.now < x.endAt))) || s.emt.switches.contains l || s.relocking l
/-- A train runs on chain `c`. -/
def State.chainBusy (s : State) (c : Nat) : Bool :=
  s.sch.trains.any (fun tr => tr.lines.any (fun x => x.line / 32 = c && x.runs s.now))
/-- A train runs on line `l`. -/
def State.lineRuns (s : State) (l : Nat) : Bool :=
  s.sch.trains.any (fun tr => tr.lines.any (fun x => x.line = l && x.runs s.now))
/-- A train runs on bank `b` at an instant. -/
def State.bankBusyAt (s : State) (b t : Nat) : Bool :=
  s.sch.trains.any (fun tr => tr.lines.any (fun x => x.line / 16 = b && x.runs t))
/-- A train runs on bank `b`. -/
def State.bankBusy (s : State) (b : Nat) : Bool := s.bankBusyAt b s.now

end Sys2Proof.Machine
end

