-- ==== Sys2Proof/Machine/Device.lean ====
section
/-! DEFINITION. What ends a frame (R16, R89, R99), entry to `SAFE` (R62 to R65) and to `LOCKOUT` (R69), and reset sources as they
are raised (R376 to R380, R388). -/

namespace Sys2Proof.Machine

/-! ## The open frame -/

/-- Change the open frame's record. -/
def State.mapFrame (s : State) (f : FrameInfo → FrameInfo) : State :=
  { s with sch := { s.sch with frame := s.sch.frame.map f } }

def bankAdd (l : List Nat) (b : Nat) : List Nat := setNth l b (nth 0 l b + 1)

/-- One exception entry (R95, R99, R100): at most 65,536 are listed. -/
def State.except (s : State) (r : Ready) (reason delay : Nat) (skipped : Bool) : State :=
  let e : ExcEntry := { step := r.step, pass := r.pass, pos := r.pos, group := r.group,
                        why := reason + (if skipped then 16 else 0) + 32 * r.cls, delay := if skipped then 0 else min 255 delay }
  s.mapFrame (fun f =>
    let f := { f with reasons := bankAdd f.reasons reason }
    if f.excs.length < 65536 then { f with excs := f.excs ++ [e] } else { f with excLost := f.excLost + 1 })

/-- The SCH and SHT counters take the values of a frame just ended (R101, R146). -/
def State.publishPlan (s : State) (f : FrameInfo) : State :=
  let s := (List.range 5).foldl (fun s c =>
    (s.setSat (F.SCH_PLAN_P.COUNT.idx c) (nth 0 f.planned c)).setSat (F.SCH_START_P.COUNT.idx c) (nth 0 f.started c)) s
  let s := (List.range 4).foldl (fun s k =>
    (s.setSat (F.SCH_REASON.EVEN.idx k) (nth 0 f.reasons (2 * k))).setSat (F.SCH_REASON.ODD.idx k) (nth 0 f.reasons (2 * k + 1))) s
  let s := (s.setSat F.SCH_REASON4.TRUNC (nth 0 f.reasons 8)).setSat F.SCH_EXC_LOST.COUNT f.excLost
  let s := (s.setB F.SCH_FRAME_STAT.TRUNCATED f.truncated).setB F.SCH_FRAME_STAT.TRANSITION f.transition
  let s := (s.setSat F.SHT_TRAINS.COUNT f.trains).setSat F.SHT_PULSES.COUNT f.pulses
  let s := (List.range 8).foldl (fun s b =>
    (s.setSat (F.SHT_BANK_STAT.DELAYED.inst b) (nth 0 f.delayed b)).setSat (F.SHT_BANK_STAT.SUPPR.inst b) (nth 0 f.suppressed b)) s
  if f.excLost = 0 then s else s.recErr 8 0x81 0

/-! ## Dark time (R178) -/

/-- What some intervals, in the order of their starts, leave of the time from `a` to `b`. -/
def uncovered (b : Nat) : List (Nat × Nat) → Nat → Nat
  | [], a => b - a
  | x :: l, a => (min x.1 b - a) + uncovered b l (max a x.2)

/-- The intervals in which trains run on lines of the unit (R139). -/
def State.runSpans (s : State) : List (Nat × Nat) :=
  sortBy (fun (a b : Nat × Nat) => decide (a.1 < b.1)) ((s.sch.trains.map (fun tr => tr.lines.map (fun x => (x.first, x.endAt)))).flatten)

/-- Dark time of the frame up to the present. -/
def State.darkSoFar (s : State) : Nat := s.rxc.darkNs + uncovered s.now s.runSpans (max s.rxc.darkFrom s.rxc.busyUntil)

/-- Dark time is counted up to the present, before what it depends on changes. -/
def State.markDark (s : State) : State := { s with rxc := { s.rxc with darkNs := s.darkSoFar, darkFrom := s.now } }

/-- A pulse is fired: no time is dark within 4,240 ns after it. -/
def State.pulseLight (s : State) (t : Nat) : State :=
  let s := s.markDark
  { s with rxc := { s.rxc with busyFrom := if s.rxc.busyUntil < t then t else s.rxc.busyFrom, busyUntil := max s.rxc.busyUntil (t + 4240) } }

/-- Instant `ns` lies in dark time. -/
def State.isDark (s : State) (ns : Nat) : Bool :=
  (decide (ns < s.rxc.busyFrom) || decide (s.rxc.busyUntil ≤ ns))
    && !s.sch.trains.any (fun tr => tr.lines.any (fun x => decide (x.first ≤ ns) && decide (ns < x.endAt)))

/-! ## Counters of a frame that ends (R160, R183, R184) -/

/-- A field of channel `c`'s entry in the per-channel window (R183). -/
def chanF (c off lsb width : Nat) : Field := ⟨0x100000 + c * 64 + off, lsb, width⟩

/-- The counters of ETD. -/
def State.publishBank (s : State) (b : Nat) : State :=
  let c := fun (k : Nat) => countAt (b * 8 + k) s.etd.counts
  let s := (s.setSat (F.ETD_CNT_MEAS.MEASURED.inst b) (c 0)).setSat (F.ETD_CNT_A.LOW.inst b) (c 1)
  let s := (s.setSat (F.ETD_CNT_A.HIGH.inst b) (c 2)).setSat (F.ETD_CNT_B.LOW.inst b) (c 3)
  let s := (s.setSat (F.ETD_CNT_B.HIGH.inst b) (c 4)).setSat (F.ETD_CNT_C.HIGH.inst b) (c 5)
  s.setSat (F.ETD_CNT_C.LOW.inst b) (c 6)

/-- The per-channel counters. -/
def State.publishChan (s : State) (c : Nat) : State :=
  let n := fun k => countAt (c * 8 + k) s.rxc.counts
  let s := ((s.setSat (chanF c 12 0 32) (n 0)).setSat (chanF c 16 0 32) (n 1)).setSat (chanF c 20 0 32) (n 2)
  let s := (s.setSat (chanF c 24 0 16) (n 3)).setSat (chanF c 24 16 16) (n 4)
  (s.setSat (chanF c 28 0 16) (n 5)).setSat (chanF c 28 16 16) (n 6)

/-- Channels whose counters are or were not all 0. -/
def State.countedChans (s : State) : List Nat :=
  (s.rxc.counts.map (fun (e : Nat × Nat) => e.1 / 8)
    ++ s.regs.filterMap (fun (e : Nat × Word) => if 0x100000 ≤ e.1 ∧ e.1 < 0x110000 then some ((e.1 - 0x100000) / 64) else none)).dedup

/-- The counters of a group. -/
def State.publishGroup (s : State) (g : Nat) : State :=
  let n := fun k => countAt (g * 4 + k) s.rxc.groups
  ((s.setSat (F.RXC_GRP_FWD.COUNT.inst g) (n 0)).setSat (F.RXC_GRP_OVL.COUNT.inst g) (n 1)).setSat (F.RXC_GRP_STAT.QHWM.inst g) (n 2)

/-- The counters of an engine (R206). -/
def State.publishEngine (s : State) (e : Nat) : State :=
  let n := fun k => countAt (e * 4 + k) s.grn.counts
  let s := (s.setSat (F.GRN_ENG_UPD.COUNT.inst e) (n 0)).setSat (F.GRN_ENG_ERR.CORR.inst e) (n 1)
  (s.setSat (F.GRN_ENG_EMPTY.US.inst e) (n 2 / 1000)).setSat (F.GRN_ENG_PEAK.RATE.inst e) (n 3)

/-- No frame has counted anything yet. -/
def State.dropCounts (s : State) : State :=
  { s with etd := { s.etd with counts := [] }, rxc := { s.rxc with counts := [], groups := [] }, grn := { s.grn with counts := [] } }

/-- The counters of the blocks take the values of the frame that ends. -/
def State.publishCounts (s : State) : State :=
  let s := (List.range 8).foldl State.publishBank s
  let s := s.countedChans.foldl State.publishChan s
  let s := (List.range 16).foldl State.publishGroup s
  ((List.range 8).foldl State.publishEngine s).dropCounts

/-- The counters per measurement frame show frame `f` once it has ended and its last measurement has closed (R206). -/
def State.publishFrame (s : State) (f : Nat) : State :=
  if s.sch.frame.any (fun x => x.num = f) || s.grn.slots.any (fun e => e.2.frame = f && (e.2.state = 1 || e.2.state = 2)) then s
  else
    let n := fun k => countAt (f * 8 + k) s.grn.perFrame
    let s := ((s.setSat F.GRN_MEAS.COUNT (n 0)).setSat F.GRN_FAULTED.COUNT (n 1)).setSat F.GRN_NOCAND.COUNT (n 2)
    let s := ((s.setSat F.GRN_ABSENT.COUNT (n 3)).setSat F.GRN_OUTSIDE.COUNT (n 4)).setSat F.GRN_LOST.COUNT (n 5)
    s.setSat F.GRN_LATE.COUNT (n 6)

/-- R16, R188: open measurements are discarded; their slots are cleared. Those in `HELD` keep theirs. -/
def State.discardOpen (s : State) : State :=
  let drop := fun (e : Nat × Meas) => if e.2.state = 4 then e else (e.1, { e.2 with state := 5 })
  { s with grn := { s.grn with slots := s.grn.slots.map drop } }

/-- The open frame ends. `cut`: by a transition of R16, with every ready group skipped for reason 0x8 (R89) and every
open measurement discarded. -/
def State.closeFrame (s : State) (cut : Bool) : State :=
  let s := if cut then (s.sch.ready.foldl (fun s r => s.except r 8 0 true) s).discardOpen else s
  match s.sch.frame with
  | some f =>
    let f := { f with truncated := cut, dark := s.darkSoFar }
    let s := s.publishCounts.setSat F.RXC_DARK.NS f.dark
    (({ s with sch := { s.sch with frame := none, past := s.sch.past ++ [f], ready := [], at_ := none } }).publishPlan f).publishFrame f.num
  | none => s

/-! ## Emission and outputs stop -/

/-- Both outputs go off. `field`: a protective field is the reason, which sets the restart interlock (R253). -/
def State.outputsOff (s : State) (field : Bool) : State :=
  if s.saf.outputsOn then
    let s := { s with saf := { s.saf with outputsOn := false, turnedAt := s.now, pulseA := none, pulseB := none, fb := none } }
    let s := ((s.bump F.SFA_CNT.OFFS 1).safetyEvt 0).recPulse 10 s.taiNs
    if field && s.flag F.SFA_CFG.RESTART_IL then s.setF F.SFA_OSSD.IL_WAIT 1 else s
  else s

/-- The 24-byte header of a HOUSEKEEPING record (R405). -/
def hkHeader (kind count frame epoch tai : Nat) : List Byte :=
  leBytes 1 kind ++ leBytes 1 count ++ leBytes 2 0 ++ leBytes 4 frame ++ leBytes 4 epoch ++ leBytes 4 0 ++ leBytes 8 tai

/-- The 16 bytes of an entry (R121), its TOFF given. -/
def steerBytes (e : SteerEntry) (toff : Nat) : List Byte :=
  let i24 := fun v => leBytes 3 (unsigned 24 (clampInt (-(2 ^ 23)) (2 ^ 23 - 1) v))
  leBytes 4 toff ++ i24 e.set ++ i24 e.fb ++ i24 e.err ++ leBytes 2 (unsigned 16 e.out) ++ leBytes 1 e.flags

/-- Commit the open record of steering entries: at most 64 (R121). -/
def State.closeSteering (s : State) : State :=
  match s.ste.entries with
  | [] => s
  | e :: _ =>
    let now := s.ste.entries.take 64
    let s := s.commitRecord 8 9 (hkHeader 3 now.length e.frame e.epoch e.tai ++ (now.map (fun x => steerBytes x ((x.time - e.time) / 20))).flatten)
    { s with ste := { s.ste with entries := s.ste.entries.drop 64 } }

/-- The steering loops stop (R12, R117): a test ends, and what they report is that of loops at rest. `TRANSITION` is no longer due: DESIGN CHOICE
(log entry 66), R90 and R119 speak only of the frame that follows. -/
def State.stopSteering (s : State) : State :=
  let s := s.closeSteering
  let s := { s with
    etd := { s.etd with took := [] }
    ste := { s.ste with
      lock := false, dwell := none, settled := 0, validSince := none, stall := none, pulseDue := false, transition := false,
      rampedAt := none, testDone := none, idxBad := false, gvQuiet := none, conds := [] } }
  let s := (((s.setF F.STE_STAT.LOCK 0).setF F.STE_STAT.PH_IN 0).setF F.STE_STAT.GV_SET 0).setF F.STE_STAT.VALID 0
  let s := (s.setF F.STE_STAT.ILK_COND 0).setF F.STE_ILK_STAT.COND 0
  (((s.setF F.STE_STAT.ILK 0).setF F.STE_STAT.TEST 0).setF F.STE_TEST.ARM 0).setF F.STE_PHERR.CODES 0

/-- What the safety channels have of frames whose evaluation instant is still to come stands; the frame in progress has none (R243, R244). -/
def SafetyState.dueOnly (x : SafetyState) : SafetyState :=
  let due := fun (f : Nat) => x.due.any (fun d => d.frame = f)
  { x with pulses := x.pulses.filter (fun p => due p.frame), events := if x.due.isEmpty then [] else x.events,
           descs := x.descs.filter (fun d => due d.frame), raysA := x.raysA.filter (fun r => due r.frame),
           raysB := x.raysB.filter (fun r => due r.frame), raised := x.raised.filter (fun r => due r.1) }

/-- Frames end at once (R16): trains stop, open measurements and what the return path holds of them are discarded, the chains take
their zero load (R136) and the outputs go off. -/
def State.abortFrames (s : State) : State :=
  let s := (s.closeFrame true).markDark
  let s := { s with
    sch := { s.sch with trains := [], ready := [], at_ := none, owed := [] }
    rxc := { s.rxc with queues := [], held := [], served := [], applySent := false }
    etd := { s.etd with starts := [], results := [] }
    saf := s.saf.dueOnly
    sys := { s.sys with stopReq := false } }
  ((s.zeroLoads).outputsOff false).stopSteering

/-- Triggers of R66 that stand, the first that came first. -/
def State.degradedCauses (s : State) : List Nat :=
  (s.sys.standing.map (·.2)).dedup ++ (if 3 ≤ s.getF F.SCH_FRAME_STAT.BUDGET_RUN then [0x42] else [])

/-- Every trigger of R66 is absent (R68). -/
def State.allCleared (s : State) : Bool := s.sys.standing.isEmpty && s.getF F.SCH_FRAME_STAT.BUDGET_RUN = 0

/-- The cause of a stop that waits for the boundary. -/
def State.stopCause (s : State) : List Nat := if s.sys.stopReq then [0x13] else []

/-- Steering has been valid for 100 ms, and no test is armed or runs (R118, R120). -/
def State.spunUp (s : State) : Bool :=
  s.flag F.STE_STAT.VALID && !s.flag F.STE_TEST.ARM && (s.ste.validSince.any (fun v => decide (v + 100000000 ≤ s.now)))

/-- What a boundary brings, a stop apart (R66, R68, R118). -/
def State.turnCauses (s : State) : List Nat :=
  match s.dev with
  | .spinup => if s.spunUp then [0x12] else []
  | .run => s.degradedCauses
  | .degraded => if s.allCleared then [0x43] else []
  | _ => []

/-- Triggers of the boundary that is due at this instant: where another transition comes before it, they are causes not acted on (R15). -/
def State.boundaryCauses (s : State) : List Nat :=
  if s.frames && s.ste.pulseDue && s.ste.pulse = some s.now then s.turnCauses ++ s.stopCause else []

/-- The causes of R62 that lead to `SAFE`. -/
def safeCause (c : Nat) : Bool := between 0x20 0x23 c || between 0x25 0x2B c

/-- Causes that are done once `SAFE` is entered (R62). -/
def entryCause (c : Nat) : Bool := c = 0x23 || c = 0x27

/-- Causes of doubt that remain after the entry to `SAFE` (R62). -/
def stayCause (c : Nat) : Bool := safeCause c && !entryCause c

/-- A cause of doubt is latched (R14, R62 to R65): to `SAFE`, or one more cause of the present stay. `LOCKOUT` is ended by its
clearing sequence only (R70, against the row of R14 that names any state; log entry 16). -/
def State.enterSafe (s : State) (cause : Nat) (others : List Nat) : State :=
  match s.dev with
  | .off => s
  | .provision => s
  | .lockout => s.noteCauses (cause :: others)
  | .safe =>
    let new := (cause :: others).filter (fun c => stayCause c && !s.sys.stay.contains c)
    { s.noteCauses (cause :: others) with sys := { s.sys with stay := s.sys.stay ++ new } }
  | _ =>
    if s.dev = .boot && s.sameCycle then s.noteCauses (cause :: others)
    else
    let due := s.boundaryCauses
    let s := s.abortFrames
    let s := { s with sys := { s.sys with stay := (cause :: others).filter stayCause } }
    (s.enterState .safe cause (others ++ due)).recPulse 9 s.taiNs

/-- A cause of the present stay remains no longer. -/
def State.clearCause (s : State) (cause : Nat) : State :=
  { s with sys := { s.sys with stay := s.sys.stay.filter (· ≠ cause) } }

/-- R69: a safety-channel fault sets the latch in AON and takes an IK-1024S to `LOCKOUT`. -/
def State.enterLockout (s : State) (cause : Nat) : State :=
  if !s.gradeS || s.dev = .off || s.dev = .provision then s
  else if s.dev = .boot || s.dev = .lockout then s.noteCauses [cause]
  else
    let due := s.boundaryCauses
    let s := s.abortFrames
    let s := { s with rst := { s.rst with lockLatch := true, lockCause := cause, lockRecord := none } }
    let s := (((s.setF F.SFA_LOCK.LATCHED 1).setF F.SFA_LOCK.CAUSE cause).setF F.SFA_LOCK.RECORD 0).setF F.SFA_LOCK.GONE 0
    (s.enterState .lockout cause due).recPulse 9 s.taiNs

/-! ## Safety keys (R76, R384) -/

/-- The SHA-256 hash of safety image key `k`: fuse row 6 + k. -/
def State.safetyKeyHash (s : State) (k : Nat) : List Byte := s.fuseBytes (6 + k) 0 32

/-- Safety image key `k` is programmed and not revoked: rows 6 and 7, 12 and 13. -/
def State.safetyKeyGood (s : State) (k : Nat) : Bool :=
  decide (k < 2) && (s.safetyKeyHash k).any (· ≠ 0) && !((tabFind (12 + k) s.rst.rows).getD []).any (· ≠ 0)

/-! ## Reset sources -/

/-- Default and deepest and shallowest allowed level of a source (R376). -/
def sourceLevels : Nat → Nat × Nat × Nat
  | 1 => (1, 0, 1) | 2 => (1, 0, 3) | 3 => (3, 0, 3) | 4 => (1, 0, 3) | 5 => (0, 0, 3) | 6 => (1, 0, 2) | 7 => (3, 1, 3)
  | _ => (0, 0, 0)

/-- The level in force of a source: its fuse code in row 40, or the default (R376). -/
def State.sourceLevel (s : State) (src : Nat) : Nat :=
  let (d, lo, hi) := sourceLevels src
  let code := ofLe (s.fuseBytes 40 (src - 1) 1)
  if src = 0 then 0 else if 1 ≤ code ∧ code ≤ 4 ∧ lo ≤ code - 1 ∧ code - 1 ≤ hi then code - 1 else d

/-- A reset source is raised at a level (R376, R377, R380): at least L1 in `PROVISION`; L2 and L3 take L1 in `BOOT`; a deeper
level than the one in progress takes effect, another is absorbed. During a fuse load the reset that began it is still in progress
(R385, worked example of chapter 17). -/
def State.raiseReset (s : State) (src level : Nat) : State :=
  if s.dev = .off && src ≠ 0 then s
  else
    let level := if s.dev = .provision || s.dev = .boot then min 1 level else level
    let s := s.bump (F.RST_SRC_CNT.COUNT.inst src) 1
    match s.rst.active with
    | none =>
      if s.rst.loading && src ≠ 0 then
        let a : ResetNow := { level := 0, entered := true, pin := src = 2, powerOn := false, awaits := none }
        ({ s with rst := { s.rst with active := some a } }).setBit F.RST_CAUSE.SOURCES src true
      else
      let s := (s.setF F.RST_CAUSE.SOURCES (2 ^ src)).setF F.RST_CAUSE.LEVEL level
      { s with rst := { s.rst with active := some { level := level, entered := false, pin := src = 2, powerOn := src = 0, awaits := none }, relAt := s.now } }
    | some r =>
      let s := s.setBit F.RST_CAUSE.SOURCES src true
      let pin := r.pin || src = 2
      if level < r.level then
        let a : ResetNow := { level := level, entered := false, pin := pin, powerOn := r.powerOn || src = 0, awaits := none }
        ({ s with rst := { s.rst with active := some a } }).setF F.RST_CAUSE.LEVEL level
      else { s with rst := { s.rst with active := some { r with pin := pin } } }

/-- The monitor of the clock that a domain's blocks wait for (R17, R274, R388). MEM holds blocks on FAB and on MEM: it waits for MEM,
and CPU and the rest of FAB's domains for FAB (log entry 66). -/
def domainMonitor (d : Nat) : Option Nat :=
  if d = 3 ∨ d = 9 ∨ d = 1 then some 0
  else if d = 4 ∨ d = 11 ∨ (12 ≤ d ∧ d < 20) then some 2
  else if d = 5 then some 3 else if d = 6 then some 5 else if d = 7 then some 6
  else if d = 8 ∨ (20 ≤ d ∧ d < 36) then some 1
  else if d = 10 then some 4 else none

/-- A domain's turn in its row of R365 is still to come: it is `OFF` until then. -/
def State.awaitsTurn (s : State) (d : Nat) : Bool :=
  s.getF (F.PWM_DOM_STAT.STATE.inst d) = 1 && decide (s.now < (tabFind d s.pwr.startAt).getD 0)

/-- State of a domain as `PWM_DOM_STAT` codes it. -/
def State.domState (s : State) (d : Nat) : Nat := if s.awaitsTurn d then 0 else s.getF (F.PWM_DOM_STAT.STATE.inst d)

/-- A domain is `ON` and waits for its clock. -/
def State.domainWaits (s : State) (d n : Nat) : Bool := s.domState d = 2 && !s.on d && domainMonitor d = some n

/-- The least level that resets a failing clock's domain (R377). -/
def clockLevel (n : Nat) : Nat := if n = 7 ∨ n = 8 then 0 else if n = 1 ∨ n = 4 then 2 else 1

/-- A monitor fails, or is neither stable nor failed in time (R377, R388). The third failure in a row at the release of a domain
holds the domains of SMP or ANA instead of resetting; `RST_GATE.CLKFAIL` counts resets and retries (R395). -/
def State.clockFailure (s : State) (n : Nat) : State :=
  let s := s.setF F.RST_CAUSE.MON n
  let waits := (List.range 36).any (fun d => s.domainWaits d n)
  let fails := countAt n s.rst.clkFails + (if waits then 1 else 0)
  let s := { s with rst := { s.rst with clkFails := tabSet n fails s.rst.clkFails } }
  if waits && decide (3 ≤ fails) && (n = 1 || n = 4) then
    { s with rst := { s.rst with clkHeld := n :: s.rst.clkHeld.filter (· ≠ n) } }
  else (s.bump F.RST_GATE.CLKFAIL 1).raiseReset 6 (min (s.sourceLevel 6) (clockLevel n))

end Sys2Proof.Machine
end

