-- ==== Sys2Proof/Machine/Emission.lean ====
section
/-! DEFINITION. Emission and pulse coding (chapter 06): chain states, fire signalling, the energy guard and the pulse-position
code. -/

namespace Sys2Proof.Machine

/-! ## Codes (R139, R141) -/

/-- Cell base B in ns for start offset `start` ns. -/
def cellBase (start : Nat) (two : Bool) : Nat :=
  max 2144 ((start + (if two then 4096 else 2048) + 144 + 15) / 16 * 16)

/-- The pulse-code key K: fuse row 1 as loaded (R141, R384); Kyogivin programs it before delivery (log entry 2), and a bad row is loaded as 0
(R385). -/
def State.codeKey (s : State) : List Byte :=
  if s.rst.badRows.contains 1 then List.replicate 16 0
  else if (tabFind 1 s.rst.rows).isSome then padTo 16 (s.fuseBytes 1 0 16) else Config.codeKey

/-- Block j of the code of train `t` of frame `f` under a key (R141). The 128-bit integer enters AES and leaves it with its most significant byte
first, and the key's bytes stand as row 1 lists them (DESIGN CHOICE, log entry 81: R141 states no byte order). -/
def codeBlock (key : List Byte) (f salt a t j : Nat) : Nat :=
  ofBe (aes128 key (beBytes 16 (f * 2 ^ 96 + salt * 2 ^ 64 + a * 2 ^ 58 + t * 2 ^ 34 + j)))

/-- The offsets o₀ … of a train. -/
def State.codeOffsets (s : State) (f t pulses d : Nat) : List Nat :=
  if s.flag F.SHT_CODE.MODE then List.replicate pulses 0
  else
    let blk := (List.range 4).map (codeBlock s.codeKey f (s.getF F.SHT_SALT.SALT) (s.getF F.SYS_CHAIN.ADDR) t)
    (List.range pulses).map (fun k => nth 0 blk (k / 8) / 2 ^ (16 * (k % 8)) % 65536 * d / 65536)

/-! ## Energy windows (R142) -/

/-- The zone a line maps to. -/
def State.zoneOf (s : State) (l : Nat) : Nat :=
  fieldOf (4 * (l % 8)) 4 (s.getF (F.EMT_ZONE_MAP.ZONES.idx (l / 8)))

/-- Energy in the current window of a zone at instant `t`: the bucket that holds `t` and the 99 before it. -/
def windowSum (unit zone t : Nat) (buckets : List (Nat × Nat)) : Nat :=
  let b := t / unit
  (buckets.filter (fun e => e.1 % 16 = zone && decide (b ≤ e.1 / 16 + 99) && decide (e.1 / 16 ≤ b))).foldl (fun a e => a + e.2) 0

def State.shortUse (s : State) (zone t : Nat) : Nat := windowSum 1000 zone t s.emt.us
def State.longUse (s : State) (zone t : Nat) : Nat := windowSum 1000000 zone t s.emt.ms
/-- Working ceilings in nJ × 2¹⁶. -/
def State.shortCeil (s : State) (zone : Nat) : Nat := s.getF (F.EMT_ZONE_CEIL.SHORT.inst zone) * 10 * 65536
def State.longCeil (s : State) (zone : Nat) : Nat := s.getF (F.EMT_ZONE_CEIL.LONG.inst zone) * 1000 * 65536

/-- Count an emitted pulse; buckets older than the windows are dropped. -/
def State.countEnergy (s : State) (zone t e : Nat) : State :=
  let keep := fun (unit : Nat) (l : List (Nat × Nat)) => l.filter (fun x => decide (t / unit ≤ x.1 / 16 + 99))
  { s with emt := { s.emt with us := keep 1000 (addCount (zone + 16 * (t / 1000)) e s.emt.us),
                               ms := keep 1000000 (addCount (zone + 16 * (t / 1000000)) e s.emt.ms) } }

/-! ## Commands -/

/-- A chain temperature counts for the range calibration that runs (R346). -/
def State.calTemp (s : State) (v : Int) : State :=
  if s.cal.began.isSome then { s with cal := { s.cal with tempSum := s.cal.tempSum + v, tempN := s.cal.tempN + 1 } } else s

/-- R132 and R127: the temperature is sampled, and a load starts when a word differs or a full load is due. -/
def doChainLoadStart (c : Fin 4) (t : Nat) (s : State) : State :=
  let s := s.at t
  if !s.frames || !s.on 8 then s
  else
    let ch := s.chain c
    let s := match s.excTemp (s.getF (F.EMT_CHAIN_CTL.TSRC.idx c)) with
      | some v => (((s.setChain c { ch with temp := some v }).setI (F.EMT_TEMP.T.idx c) v).setF (F.EMT_CHAIN_STAT.TSTALE.idx c) 0).calTemp v
      | none => if s.flag (F.EMT_CHAIN_STAT.TSTALE.idx c) then s
          else (s.setF (F.EMT_CHAIN_STAT.TSTALE.idx c) 1).raiseEvt 10 2
    if s.chainState c = 2 && s.chainEn c then s.startLoad c else s

def execChainLoadStart (c : Fin 4) (t : Nat) (s : State) : Host.Outcome State Fault Refusal := answer (doChainLoadStart c t s)

/-- A chain is off: in `OFF`, or in `PENDING_ON` with its stop finished (R135). -/
def State.chainIdle (s : State) (c : Nat) : Bool := s.chainState c = 0 || (s.chainState c = 4 && (s.chain c).stopped)

/-- R135: to `STARTING` once t_OFF has run since entry to `OFF`. -/
def doChainOffTimeExpiry (c : Fin 4) (t : Nat) (s : State) : State :=
  let s := s.at t
  if s.on 8 && s.chainIdle c && s.chainEn c
      && decide ((s.chain c).offAt + s.getF (F.EMT_CHAIN_CTL.TOFF.idx c) * 100000 ≤ s.now) then
    (s.setChain c { s.chain c with load := some (s.zeroLoadOf c), stopped := false }).setChainState c 1
  else s

def execChainOffTimeExpiry (c : Fin 4) (t : Nat) (s : State) : Host.Outcome State Fault Refusal :=
  answer (doChainOffTimeExpiry c t s)

/-- The chains when their block is reset or loses its power: off from now on, or since their entry to `OFF`, from which t_OFF runs (R135). -/
def State.chainsOff (s : State) : List Chain :=
  (List.range 4).map (fun c => { Chain.reset with offAt := if s.chainIdle c then (s.chain c).offAt else s.now })

/-- A chain enters `ON`: every enabled chain is loaded in full at the next boundary (R132). -/
def State.chainOn (s : State) (c : Nat) : State :=
  let s := (s.setChain c { s.chain c with loaded := false }).setChainState c 2
  (List.range 4).foldl (fun s k => if s.chainEn k then s.setChain k { s.chain k with fullDue := true } else s) s

/-- R135 and R136: the zero load latches. A chain that enters `ON` has its first working load due (R132); one in `PENDING_ON` waits t_OFF
there, its stop finished. -/
def doChainZeroLoadLatched (c : Fin 4) (t : Nat) (s : State) : State :=
  let s := s.at t
  match (s.chain c).load with
  | some k =>
    if k.zero then
      let st := s.chainState c
      let s := s.latchLoad c k
      if st = 1 then s.chainOn c
      else if st = 3 then (s.setChain c { s.chain c with offAt := s.now, loaded := false }).setChainState c 0
      else if st = 4 then s.setChain c { s.chain c with offAt := s.now, loaded := false, stopped := true }
      else s
    else s
  | none => s

def execChainZeroLoadLatched (c : Fin 4) (t : Nat) (s : State) : Host.Outcome State Fault Refusal :=
  answer (doChainZeroLoadLatched c t s)

/-- R135: EN has cleared and no train runs on the chain. -/
def doChainStopRequest (c : Fin 4) (t : Nat) (s : State) : State :=
  let s := s.at t
  if s.chainState c = 2 && !s.chainEn c && !s.chainBusy c then
    (s.setChain c { s.chain c with load := some (s.zeroLoadOf c), stopped := false }).setChainState c 3
  else s

def execChainStopRequest (c : Fin 4) (t : Nat) (s : State) : Host.Outcome State Fault Refusal :=
  answer (doChainStopRequest c t s)

/-- `BLK_SPARE` of EMT (R145): reserve diodes switched in, and those present and eligible but not switched in. -/
def State.countReserves (s : State) : State :=
  let accept := s.getF F.EMT_WL.ACCEPT
  let used := ((List.range 128).filter s.reserveIn).length
  let left := ((List.range 128).filter (fun l => !s.reserveIn l && s.flag (trimPresent (128 + l)) && !s.compat (l / 32)
    && !s.flag (trimRetired (128 + l)) && !s.ineligible (128 + l) accept)).length
  (s.setF (H.SPARE_USED 10) used).setF (H.SPARE_LEFT 10) left

/-- SEL of line `l` changes, and only SEL (R134): in the word last latched too, but that of a chain that is off. -/
def State.flipSel (s : State) (l : Nat) : State :=
  let c := l / 32
  let s := s.setBit (F.EMT_RSV.SEL.idx c) (l % 32) (!s.bitF (F.EMT_RSV.SEL.idx c) (l % 32))
  let ch := s.chain c
  let w := nth 0 ch.last (l % 32)
  let w' := if s.compat c then w else chainWord (s.reserveIn l) (l % 32) (w % 4096)
  let s := if s.chainIdle c then s else s.setChain c { ch with last := setNth ch.last (l % 32) w' }
  { s with emt := { s.emt with switches := s.emt.switches.filter (· ≠ l) } }

/-- The switch of line `l` stands; a worn diode is retired at it (R351). -/
def State.switched (s : State) (l : Nat) : State :=
  let e := s.emitterOf l
  let s := if s.flag (F.CAL_LINE.WORN.inst e) then s.setF (trimRetired e) 1 else s
  let s := (((s.flipSel l).countReserves).raiseEvt 10 3).spareTaken 10
  if s.getF (H.SPARE_LEFT 10) = 0 then s.poolTrigger 10 0x40 else s

/-- A load that latches at a boundary carries the switches of its chain's lines on which no train runs: their words take the diode then
switched in (R134). `accept`: the wavelength class of the frame that the load is for. -/
def State.carrySwitches (s : State) (c accept : Nat) : State :=
  (List.range 32).foldl (fun s p =>
    let l := 32 * c + p
    match (s.chain c).load with
    | some k =>
      if s.emt.switches.contains l && !s.lineRuns l then
        let s := s.switched l
        let (d, e) := nth (0, 0) (s.chainDrives c accept) p
        s.setChain c { s.chain c with load := some { k with words := setNth k.words p (chainWord (s.reserveIn l) p d),
                                                             energies := setNth k.energies p e } }
      else s
    | none => s) s

/-- R134: the switch latches at the first instant at which no train runs on the line: the words last latched are sent with SEL of the
line changed. While a load is shifted, that load carries the switch; a chain that is off is not clocked (R135), and its next load has the new
SEL. -/
def doDiodeSwitchLatch (line : Fin 128) (t : Nat) (s : State) : State :=
  let s := s.at t
  let l := line.val
  let c := l / 32
  if s.emt.switches.contains l && !s.lineRuns l && (s.chain c).load.isNone then
    let s := s.switched l
    if s.chainIdle c || s.mapHolds 3 then s
    else (s.bump (F.EMT_CHAIN_STAT.LOADS.idx c) 1).emit (.chain c (s.chain c).last.reverse 0)
  else s

def execDiodeSwitchLatch (line : Fin 128) (t : Nat) (s : State) : Host.Outcome State Fault Refusal :=
  answer (doDiodeSwitchLatch line t s)

/-! ## Fire signalling (R138 to R144) -/

/-- The nominal time of pulse `k` on a line of rank `rank` (R140). -/
def Train.nominal (tr : Train) (rank k : Nat) : Nat := tr.start + k * tr.cell + nth 0 tr.offs k + 48 * rank

/-- The instant R138 gives a pulse: as little delay as the 48 ns spacing allows. -/
def State.fireAt (s : State) (bank nominal : Nat) : Nat :=
  match tabFind bank s.sch.lastFire with
  | some last => max nominal (last + 48)
  | none => nominal

/-- A running train's line takes its next pulse. -/
def State.pulseTaken (s : State) (ord frame line : Nat) : State :=
  let step := fun (x : TrainLine) => if x.line = line then { x with done := x.done + 1 } else x
  { s with
      sch := { s.sch with
      trains := s.sch.trains.map (fun tr =>
      if tr.ord = ord ∧ tr.frame = frame then { tr with lines := tr.lines.map step } else tr) } }

/-- What became of a pulse waits for the train descriptor (R189). -/
def State.pulseResult (s : State) (frame ord line : Nat) (r : PulseResult) : State :=
  { s with etd := { s.etd with results := s.etd.results ++ [((frame, ord, line), r)] } }

/-- The interpolator that serves a bank has failed and is not yet replaced (R156). -/
def State.bankEst (s : State) (b : Nat) : Bool :=
  if s.flag F.ETD_MAP.SPARE_IN && s.getF F.ETD_MAP.BANK = b then s.bitF F.ETD_FAIL.EST 8 else s.bitF F.ETD_FAIL.EST b

/-- Fire pulse `k` at instant `at_`: the pin, the energy counted (R142), the emitter's heat (R96), dark time (R178) and the start
the bank's interpolator captures (R147, R148). -/
def State.fireNow (s : State) (tr : Train) (line k at_ nominal : Nat) (egate : Bool) (edge : Nat) : State :=
  let b := line / 16
  let zone := s.zoneOf line
  let nj := s.pulseEnergy line
  let e := nth 0 (s.chain (line / 32)).energies (line % 32)
  let em := s.emitterOf line
  let x := tr.lines.find? (fun x => x.line = line)
  let s := (s.countEnergy zone at_ nj).pulseLight at_
  let st : PulseStart := {
    bank := b, line := line, frame := tr.frame, epoch := tr.epoch, ord := tr.ord, k := k, energy := e, issued := at_,
    time := edge, armed := egate || !s.bitF F.ETD_CTL.GATE b, est := s.bankEst b, stops := [] }
  let s := s.mapFrame (fun f => { f with
    pulses := f.pulses + 1,
    delayed := if nominal < at_ then bankAdd f.delayed b else f.delayed })
  { s with
    sch := { s.sch with heat := addCount em (e / 256) s.sch.heat, lastFire := tabSet b at_ s.sch.lastFire }
    etd := { s.etd with starts := s.etd.starts ++ [st] }
    saf := if tr.cls = 0 then { s.saf with
      pulses := s.saf.pulses ++
      [{ frame := tr.frame, train := tr.ord, pass := tr.pass, step := tr.step, pos := tr.pos, slot := (x.map TrainLine.slot).getD 0,
         line := line, fire := at_, endAt := (x.map TrainLine.endAt).getD at_, emitted := false }] } else s.saf
    tp := { s.tp with out := .fire b line at_ :: s.tp.out } }

/-- Edge time in 1/256 LSB of an edge captured in an SMP cycle with a fine code, through a width table (R151). -/
def edgeTime (widths : List Nat) (cycle code : Nat) : Nat :=
  (cycle + 1) * 32768 - ((widths.take code).sum + nth 0 widths code / 2)

/-- Weights as widths that sum to 128 × 256, each bound between two taps rounded down (log entry 27). -/
def toWidths (ns : List Nat) : List Nat :=
  let total := ns.sum
  let bound := fun (i : Nat) => (ns.take i).sum * 32768 / total
  if total = 0 then ns.map (fun _ => 256) else (List.range ns.length).map (fun i => bound (i + 1) - bound i)

/-- The factory widths of the active taps of a line (R152). -/
def factoryWidths (n : Nat) (active : List Nat) : List Nat := toWidths (active.map (Config.tapWidth n))

/-- The factory line: physical taps 0 to 127 (log entry 2). -/
def TapLine.factory (n : Nat) : TapLine :=
  { active := List.range 128, widths := factoryWidths n (List.range 128), staged := none, retired := [], subst := none,
    drift := [] }

/-- The domain that holds a delay line (R20): FIR for an interpolator, the RXS of its group for a sampler. -/
def lineDomain (n : Nat) : Nat := if n < 16 then 8 else 20 + (n - 16) / 68

/-- The delay line of interpolator `n`, or of sampler k of group g (16 + 68 g + k). -/
def State.tapLine (s : State) (n : Nat) : TapLine := (tabFind n s.etd.lines).getD (TapLine.factory n)
def State.setTapLine (s : State) (n : Nat) (l : TapLine) : State :=
  { s with etd := { s.etd with lines := tabSet n l s.etd.lines } }

/-- The interpolator that times a bank's edges. -/
def State.etdOf (s : State) (b : Nat) : Nat := if s.flag F.ETD_MAP.SPARE_IN && s.getF F.ETD_MAP.BANK = b then 8 else b

/-- The next pulse of each line of a bank that a train has still to fire: nominal time and line. -/
def State.nextPulses (s : State) (b : Nat) : List (Nat × Nat) :=
  (s.sch.trains.map (fun tr => (tr.lines.filter (fun x => x.line / 16 = b && decide (x.done < tr.pulses))).map
    (fun x => (tr.nominal x.rank x.done, x.line)))).flatten

/-- No other pulse of the bank comes before one of line `l` at nominal time `n` (R138). -/
def State.comesNext (s : State) (l n : Nat) : Bool :=
  (s.nextPulses (l / 16)).all (fun y => y.2 = l || decide (n < y.1) || (y.1 = n && decide (l < y.2)))

/-- Loads that their boundary found still shifting latch as their shift ends (R132). -/
def State.latchEnded (s : State) : State :=
  (List.range 4).foldl (fun s c => match (s.chain c).load with
    | some k => if k.late && decide (s.shiftEnd c k ≤ s.now) then
        let s := s.carrySwitches c (s.getF F.EMT_WL.ACCEPT)
        s.latchLoad c ((s.chain c).load.getD k)
      else s
    | none => s) s

/-- R138 to R144: a pulse is fired on its bank, fired late, or not fired and marked absent; a diode retired or ineligible is never fired
(R128). -/
def doFirePulse (line : Fin 128) (k : Nat) (egate : Bool) (cycle code : Nat) (s : State) : State :=
  let l := line.val
  match s.sch.trains.find? (fun tr => tr.lines.any (fun x => x.line = l && x.done = k) && decide (k < tr.pulses)) with
  | none => s
  | some tr =>
    let rank := ((tr.lines.find? (fun x => x.line = l)).map TrainLine.rank).getD 0
    let n := tr.nominal rank k
    let at_ := s.fireAt (l / 16) n
    let s := s.at (min at_ (n + 144))
    if !s.pins.fire || !s.comesNext l n then s
    else
    let s := s.latchEnded
    let e := nth 0 (s.chain (l / 32)).energies (l % 32)
    let absent : PulseResult := { k := k, status := 2, instant := (n * 128 + s.getF (F.ETD_LINE.LAT.inst l) : Nat), energy := e }
    if s.lineDead l then (s.pulseTaken tr.ord tr.frame l).pulseResult tr.frame tr.ord l absent
    else if n + 144 < at_ then
      let s := (s.pulseTaken tr.ord tr.frame l).pulseResult tr.frame tr.ord l absent
      (s.mapFrame (fun f => { f with suppressed := bankAdd f.suppressed (l / 16) })).raiseEvt 11 0
    else
      let zone := s.zoneOf l
      let nj := s.pulseEnergy l
      let s := s.pulseTaken tr.ord tr.frame l
      if s.shortCeil zone < s.shortUse zone at_ + nj || s.longCeil zone < s.longUse zone at_ + nj then
        ((s.pulseResult tr.frame tr.ord l absent).bump F.EMT_GUARD.SUPPR 1).raiseEvt 10 0
      else s.fireNow tr l k at_ n egate (edgeTime (s.tapLine (s.etdOf (l / 16))).widths cycle code)

def execFirePulse (line : Fin 128) (k : Nat) (egate : Bool) (cycle code : Nat) (s : State) :
    Host.Outcome State Fault Refusal := answer (doFirePulse line k egate cycle code s)

end Sys2Proof.Machine
end

