-- ==== Sys2Proof/Machine/Program.lean ====
section
/-! DEFINITION. Scan programs (chapter 04): the entries of a bank and their validation at `GO` (R80 to R87). -/

namespace Sys2Proof.Machine

/-! ## Entries (R81 to R84) -/

/-- `n` bytes of a program bank, little-endian. -/
def State.progLe (s : State) (bank off n : Nat) : Nat :=
  (List.range n).foldl (fun a i =>
    let b := off + i
    a + fieldOf (8 * (b % 4)) 8 (s.ramAt (0x400000 + bank * 0x100000 + b / 4 * 4)).toNat * 256 ^ i) 0

/-- `n` bytes of a bank, little-endian; bytes beyond its end read 0. -/
def State.bankLe (s : State) (b off n : Nat) : Nat := if off + n ≤ 0x100000 then s.progLe b off n else 0

def State.progFacets (s : State) (b : Nat) : Nat := s.bankLe b 0x10 1
def State.progRevs (s : State) (b : Nat) : Nat := s.bankLe b 0x11 1
def State.progGap (s : State) (b : Nat) : Nat := s.bankLe b 0x12 1
def State.progRpm (s : State) (b : Nat) : Nat := s.bankLe b 0x14 2
def State.progP0Slots (s : State) (b : Nat) : Nat := s.bankLe b 0x16 2
def State.progGroups (s : State) (b : Nat) : Nat := s.bankLe b 0x1A 2
def State.progPasses (s : State) (b : Nat) : Nat := s.progFacets b * s.progRevs b

/-- A pass entry (R82). -/
structure PassEntry where
  facet : Nat
  gap : Bool
  tilt : Int
  step0 : Nat
  nstep : Nat
  deriving DecidableEq, Repr

def State.passEntry (s : State) (b p : Nat) : PassEntry :=
  let o := 0x100 + 16 * p
  { facet := s.bankLe b o 1 % 8, gap := (s.bankLe b o 1).testBit 7, tilt := signed 16 (s.bankLe b (o + 2) 2),
    step0 := s.bankLe b (o + 4) 2, nstep := s.bankLe b (o + 6) 2 }

/-- Steps of a pass: none in a gap pass. -/
def PassEntry.steps (e : PassEntry) : Nat := if e.gap then 0 else e.nstep

/-- A step entry (R83): start and width in azimuth codes. -/
structure StepEntry where
  start : Nat
  count : Nat
  first : Nat
  width : Nat
  deriving DecidableEq, Repr

def State.stepEntry (s : State) (b i : Nat) : StepEntry :=
  let o := 0x1100 + 8 * i
  { start := s.bankLe b o 3, count := s.bankLe b (o + 3) 1, first := s.bankLe b (o + 4) 2, width := 256 * s.bankLe b (o + 6) 2 }

/-- A shot group entry (R84): its valid lines by LINE byte. -/
structure GroupEntry where
  lines : List (Nat × Nat)
  pulses : Nat
  cls : Nat
  two : Bool
  hist : Bool
  zone : Nat
  window : Nat
  offset : Nat
  deriving DecidableEq, Repr

def State.groupEntry (s : State) (b g : Nat) : GroupEntry :=
  let o := 0x42000 + 16 * g
  let line := fun (i : Nat) => let v := s.bankLe b (o + i) 1; if v.testBit 7 then some (i, v % 128) else none
  let ctl := s.bankLe b (o + 9) 1
  { lines := (List.range 8).filterMap line, pulses := s.bankLe b (o + 8) 1, cls := ctl % 8, two := ctl.testBit 3, hist := ctl.testBit 4,
    zone := s.bankLe b (o + 10) 1, window := s.bankLe b (o + 11) 1, offset := s.bankLe b (o + 12) 2 }

/-- Code window D and cell length C = B + D of a group for a start offset (R139). -/
def GroupEntry.codeWindow (g : GroupEntry) : Nat := 32 * (g.window % 32)
def GroupEntry.cell (g : GroupEntry) (start : Nat) : Nat := cellBase start g.two + g.codeWindow
/-- Rank of a line among the members that share its bank (R140). -/
def rankOf (lines : List (Nat × Nat)) (l : Nat) : Nat := (lines.filter (fun x => x.2 / 16 = l / 16 && decide (x.2 < l))).length
/-- Slots that the measurements of some lines take (R84). -/
def slotsOf (two : Bool) (lines : Nat) : Nat := lines * (if two then 16 else 8)

/-! ## Where a step lies -/

/-- The steps of a program in order: pass, step index. -/
def State.progSteps (s : State) (b : Nat) : List (Nat × Nat) :=
  ((List.range (s.progPasses b)).map (fun p =>
    let e := s.passEntry b p
    (List.range e.steps).map (fun k => (p, e.step0 + k)))).flatten

/-- The groups of a step by position: position, group index. -/
def StepEntry.groups (e : StepEntry) : List (Nat × Nat) := (List.range e.count).map (fun j => (j, e.first + j))

/-- The steps that some pass names, a gap pass too: pass, step index. -/
def State.progEntries (s : State) (b : Nat) : List (Nat × Nat) :=
  ((List.range (s.progPasses b)).map (fun p =>
    let e := s.passEntry b p
    (List.range e.nstep).map (fun k => (p, e.step0 + k)))).flatten

/-- Every group that some step names, in order. -/
def State.progNamed (s : State) (b : Nat) : List (Nat × Nat) :=
  ((s.progEntries b).map (fun x => ((s.stepEntry b x.2).groups).map (fun g => (x.2, g.2)))).flatten

/-- The start of a facet in the frame, in codes from the index mark at the frame pulse (R83, R103), by the trims given. -/
def facetStart (facets p : Nat) (trim : Nat → Int) : Int :=
  ((p / facets * 2 ^ 24 + p % facets * 2 ^ 24 / facets : Nat) : Int) + trim (p % facets)

/-! ## Validation (R87) -/

/-- The first byte that is not 0 in a range of a bank. -/
def State.bankNz (s : State) (b lo n : Nat) : Option Nat := (List.range n).findSome? (fun i =>
  if s.bankLe b (lo + i) 1 = 0 then none else some (lo + i))

/-- The first failing offset of a list of checks. -/
def firstBad (l : List (Nat × Bool)) : Option Nat := (l.find? (fun x => !x.2)).map (·.1)

/-- Item 1: MAGIC, VERSION, LENGTH, CRC and the reserved fields, those of the pass entries in use and of the groups below GROUPS among
them. Of several reserved words that are not 0 the one at the lowest address fails first (DESIGN CHOICE, log entry 81). -/
def State.progItem1 (s : State) (b : Nat) : Option Nat :=
  let len := s.bankLe b 8 4
  let head := firstBad [(0, s.bankLe b 0 4 = 0x47504353), (4, s.bankLe b 4 4 = 1), (8, between 16 0xFFFF0 len),
    (0xC, decide (len ≤ 0xFFFF0) && (s.bankLe b 0xC 4 = crc32 ((List.range len).map (fun i => BitVec.ofNat 8 (s.bankLe b (0x10 + i) 1)))))]
  let zero := fun (_ : Unit) => (s.bankNz b 0x13 1).orElse (fun _ => s.bankNz b 0x24 0xDC)
  let pass := fun (_ : Unit) => (List.range (min 256 (s.progPasses b))).findSome? (fun p =>
    let o := 0x100 + 16 * p
    (firstBad [(o, s.bankLe b o 1 / 8 % 16 = 0 && s.bankLe b (o + 1) 1 = 0)]).orElse (fun _ => s.bankNz b (o + 8) 8))
  let group := fun (_ : Unit) => (List.range (s.progGroups b)).findSome? (fun x =>
    let o := 0x42000 + 16 * x
    firstBad [(o + 8, decide (s.bankLe b (o + 9) 1 < 32) && decide (s.bankLe b (o + 10) 1 < 16)), (o + 12, s.bankLe b (o + 14) 2 = 0)])
  head.orElse (fun _ => (zero ()).orElse (fun _ => (pass ()).orElse (fun _ => (s.bankNz b 0x41100 0xF00).orElse group)))

/-- Items 2 to 4: FACETS, REVS, the frame rate, and the speed against the set-point `target`. -/
def State.progItem2 (s : State) (b target : Nat) : Option Nat :=
  let rpm := s.progRpm b
  firstBad [(0x10, between 4 8 (s.progFacets b) && between 1 20 (s.progRevs b)),
    (0x14, decide (300 * s.progRevs b ≤ rpm) && decide (rpm ≤ 1800 * s.progRevs b)), (0x14, rpm = target)]

/-- Item 5: facets and gap passes in order. -/
def State.progItem5 (s : State) (b : Nat) : Option Nat :=
  let n := s.progPasses b
  (List.range n).findSome? (fun p =>
    let e := s.passEntry b p
    firstBad [(0x100 + 16 * p, e.facet = p % s.progFacets b && (e.gap = decide (n ≤ p + s.progGap b)))])

/-- Item 6: steps ascend, do not overlap, and end within the facet, in a gap pass as in any. -/
def State.progItem6 (s : State) (b : Nat) : Option Nat :=
  (List.range (s.progPasses b)).findSome? (fun p =>
    let e := s.passEntry b p
    (List.range e.nstep).findSome? (fun k =>
      let i := e.step0 + k
      let x := s.stepEntry b i
      let prev := s.stepEntry b (i - 1)
      firstBad [(0x1100 + 8 * i, k = 0 || (decide (prev.start < x.start) && decide (prev.start + prev.width ≤ x.start))),
        (0x1104 + 8 * i, decide ((x.start + x.width) * s.progFacets b ≤ 2 ^ 24))]))

/-- Item 7: the groups that steps name lie below GROUPS and are legal; ZONE as the active zone map has it (R142). -/
def State.progItem7 (s : State) (b : Nat) : Option Nat :=
  (s.progNamed b).findSome? (fun x =>
    let g := s.groupEntry b x.2
    let ls := g.lines.map (·.2)
    let o := 0x42000 + 16 * x.2
    firstBad [(0x1104 + 8 * x.1, decide (x.2 < s.progGroups b)), (o, !ls.isEmpty && ls.Nodup),
      (o + 8, between 8 32 g.pulses && decide (g.cls ≤ 4) && between 1 31 g.window && ls.all (fun l => s.zoneOf l = g.zone))])

/-- Item 8: the slots that the P0 groups of a step need. -/
def State.progItem8 (s : State) (b : Nat) : Option Nat :=
  (s.progEntries b).findSome? (fun x =>
    let gs := ((s.stepEntry b x.2).groups.map (fun g => s.groupEntry b g.2)).filter (fun g => g.cls = 0)
    firstBad [(0x1100 + 8 * x.2, decide ((gs.map (fun g => slotsOf g.two g.lines.length)).sum ≤ s.progP0Slots b))])

/-- Nominal pulses of the P0 groups of a frame (item 9): instant in ns after the frame pulse, line, group, at the cell starts. -/
def State.progP0Pulses (s : State) (b start : Nat) (trim : Nat → Int) : List (Int × Nat × Nat) :=
  ((s.progSteps b).map (fun x =>
    let e := s.stepEntry b x.2
    let ready := (facetStart (s.progFacets b) x.1 trim + e.start) * 60000000000 / ((2 ^ 24 * s.progRpm b : Nat) : Int)
    (e.groups.map (fun y =>
      let g := s.groupEntry b y.2
      if g.cls = 0 then
        (g.lines.map (fun l => (List.range g.pulses).map (fun k =>
          (ready + ((1000 * g.offset + k * g.cell start + 48 * rankOf g.lines l.2 : Nat) : Int), l.2, y.2)))).flatten
      else [])).flatten)).flatten

/-- Item 9: no more than 50 P0 pulses on a line and 6,400 in all within any 100 µs of the frame, which repeats: a pulse lies in
the window that begins with another when it follows it by less than 100 µs, counted modulo the frame. -/
def State.progItem9 (s : State) (b start : Nat) (trim : Nat → Int) : Option Nat :=
  let period : Int := ((s.progRevs b * 60000000000 / max 1 (s.progRpm b) : Nat) : Int)
  let once := s.progP0Pulses b start trim
  (once.find? (fun x =>
    let near := once.filter (fun y => decide ((y.1 - x.1) % period < 100000))
    decide (6400 < near.length) || decide (50 < (near.filter (fun y => y.2.1 = x.2.1)).length))).map (fun x => 0x42000 + 16 * x.2.2)

/-- R87: the offset of the first failing word of a bank, for the speed set-point, start offset and trims that will be active. -/
def State.progBad (s : State) (b target start : Nat) (trim : Nat → Int) : Option Nat :=
  (s.progItem1 b).orElse (fun _ => (s.progItem2 b target).orElse (fun _ => (s.progItem5 b).orElse (fun _ => (s.progItem6 b).orElse (fun _ =>
    (s.progItem7 b).orElse (fun _ => (s.progItem8 b).orElse (fun _ => s.progItem9 b start trim))))))

/-- Some group that a step names takes two slots (R189). -/
def State.progTwoSlot (s : State) (b : Nat) : Bool := (s.progNamed b).any (fun x => (s.groupEntry b x.2).two)

end Sys2Proof.Machine
end

