-- ==== Sys2Proof/Machine/Place.lean ====
section
/-! DEFINITION. Where the mirror stands in the frame (R80, R83, R102): the azimuth estimate, the places of passes and steps, and the gaps
between them. -/

namespace Sys2Proof.Machine

/-! ## Speed and azimuth (R102) -/

/-- Time of the last four edge intervals, in ns. -/
def State.edgeSpan (s : State) : Option Nat :=
  match s.ste.edges with
  | [a, _, _, _, e] => if e < a then some (a - e) else none
  | _ => none

def State.cpr (s : State) : Nat := s.getF F.STE_ENC.CPR

/-- Measured speed, rpm with 8 fractional bits: 4 edges of 4 × CPR per revolution. -/
def State.measRpm (s : State) : Nat :=
  match s.edgeSpan with
  | some d => if s.cpr = 0 then 0 else 256 * 60000000000 / (s.cpr * d)
  | none => 0

/-- Codes turned since the last index mark at SMP cycle `t`, rounded down; none before an index and five edges. -/
def State.turned (s : State) (t : Nat) : Option Nat :=
  match s.edgeSpan with
  | some d =>
    if !s.ste.indexed || s.cpr = 0 then none
    else
      let from_ := if s.ste.count = 0 then s.ste.idxAt else s.ste.edges.headD 0
      some (2 ^ 24 * (s.ste.count * d + 4 * (t - from_)) / (4 * s.cpr * d))
  | none => none

/-- The azimuth estimate at SMP cycle `t`, in codes from the index mark. -/
def State.azimuth (s : State) (t : Nat) : Option Nat := (s.turned t).map (· % 2 ^ 24)

/-- The estimate as a place in the frame, in codes from the index mark at the frame pulse: whole revolutions counted (log entry 62). -/
def State.framePos (s : State) (t : Nat) : Option Int :=
  (s.turned t).map (fun a => ((s.ste.rev * 2 ^ 24 + a : Nat) : Int) - (if s.ste.early then 2 ^ 24 else 0))

/-! ## Places in the frame (R83, R103) -/

/-- The bank that governs the open frame. -/
def State.frameBank (s : State) : Nat := (s.sch.frame.map FrameInfo.bank).getD 0
/-- Trim of a facet in force. -/
def State.facetTrim (s : State) (k : Nat) : Int := signed 24 (s.getF (F.STE_FACET_TRIM.TRIM.idx k))
/-- The start of a pass and of a step of the open frame, as places in the frame. -/
def State.passStart (s : State) (f : FrameInfo) (p : Nat) : Int := facetStart (max 1 f.facets) p s.facetTrim
def State.stepStart (s : State) (f : FrameInfo) (p i : Nat) : Int := s.passStart f p + ((s.stepEntry f.bank i).start : Nat)
def State.stepEnd (s : State) (f : FrameInfo) (p i : Nat) : Int := s.stepStart f p i + ((s.stepEntry f.bank i).width : Nat)

/-! ## Gaps (R80 to R83, R347) -/

/-- Where each step of a frame begins and ends. -/
def State.stepSpans (s : State) (f : FrameInfo) : List (Int × Int) :=
  (s.progSteps f.bank).map (fun x => (s.stepStart f x.1 x.2, s.stepEnd f x.1 x.2))

/-- The gap of a frame that holds a place: where it begins and ends; none where a step lies there. A gap of a frame begins no earlier than
the frame and ends with it (log entry 27); the facet transition gap before the gap passes ends where the frame gap begins. -/
def State.gapAround (s : State) (f : FrameInfo) (pos : Int) : Option (Int × Int) :=
  let spans := s.stepSpans f
  let ends := ((f.revs * 2 ^ 24 : Nat) : Int)
  let gap := if s.progGap f.bank = 0 then ends else s.passStart f (f.facets * f.revs - s.progGap f.bank)
  if spans.any (fun x => decide (x.1 ≤ pos) && decide (pos < x.2)) then none
  else some ((spans.filter (fun x => decide (x.2 ≤ pos))).foldl (fun m x => max m x.2) (if gap ≤ pos then gap else min 0 pos),
    (spans.filter (fun x => decide (pos < x.1))).foldl (fun m x => min m x.1) (if gap ≤ pos then ends else gap))

/-- The gap that runs now in the open frame, with the present place. -/
def State.openGap (s : State) : Option (Int × (Int × Int)) :=
  match s.sch.frame, s.framePos s.now with
  | some f, some pos => (s.gapAround f pos).map (fun g => (pos, g))
  | _, _ => none

/-- The time that an arc takes at the measured speed. -/
def State.codesNs (s : State) (codes : Int) : Nat := codes.toNat * 60000000000 * 256 / (2 ^ 24 * s.measRpm)

/-- The instant at which the present gap began; the whole time without a frame is one gap (R347). -/
def State.gapStart (s : State) : Nat :=
  match s.openGap with
  | some (pos, from_, _) => s.now - s.codesNs (pos - from_)
  | none => 0

/-- A bank or a line has taken a substitution in the present gap (R348). -/
def State.tookInGap (s : State) (key : Nat) : Bool := (tabFind key s.etd.took).any (fun t => decide (s.gapStart ≤ t))

/-- A gap runs; the whole time without a frame is one (R347). -/
def State.inGap (s : State) : Bool := s.sch.frame.isNone || s.openGap.isSome

/-- A gap of at least 4 µs runs. -/
def State.longGap (s : State) : Bool := s.sch.frame.isNone || s.openGap.any (fun g => decide (4000 ≤ s.codesNs (g.2.2 - g.2.1)))

/-- A frame gap runs: the place lies in a gap pass, or there is no frame. -/
def State.frameGap (s : State) : Bool :=
  match s.sch.frame, s.framePos s.now with
  | some f, some pos => decide (s.passStart f (f.facets * f.revs - s.progGap f.bank) ≤ pos)
  | some _, none => false
  | none, _ => true

/-- A change of bank `b`'s line falls due in this gap (R157): it lasts at least 4 µs, no train of the bank ran when it began, and it has
begun in the present slot (log entry 27); without a frame it falls due at once. -/
def State.substGap (s : State) (b : Nat) : Bool :=
  match s.sch.frame, s.openGap with
  | none, _ => !s.bankBusy b
  | some _, some (pos, from_, _) =>
    let ago := s.codesNs (pos - from_)
    s.longGap && decide (ago < 1000) && !s.bankBusyAt b (s.now - ago)
  | some _, none => false

end Sys2Proof.Machine
end

