-- ==== Sys2Proof/Machine/Timing.lean ====
section
/-! DEFINITION. Emission timing interpolators (chapter 07): stops and settling, width tables, tap and interpolator substitution,
the reference loop. Times of edges are in 1/256 LSB, 32,768 to the SMP cycle. -/

namespace Sys2Proof.Machine

/-- 1/256 LSB in `ns` nanoseconds. -/
def fineNs (ns : Nat) : Nat := ns * 32768

/-- Channel B's own receiver on `EMON[b]` (R240): the latest P0 pulse of the bank within 200 ns before the edge is emitted. -/
def State.dripEmon (s : State) (b cycle : Nat) : State :=
  let fits := fun (p : DripPulse) => p.line / 16 = b && decide (p.fire ≤ cycle) && decide (cycle ≤ p.fire + 200)
  { s with saf := { s.saf with pulses := s.saf.pulses.map (fun p => if fits p then { p with emitted := true } else p) } }

/-- The active edge of `EMON` (R147): the rising one unless EMON_POL selects the falling one. -/
def State.activeEdge (s : State) (rising : Bool) : Bool := rising != s.flag F.ETD_CTL.EMON_POL

/-- R147, R149, R150: a stop is paired with the start whose window contains it, or counted STRAY; the other edge is none. -/
def doEmonStop (bank : Fin 9) (rising : Bool) (cycle code : Nat) (s : State) : State :=
  let b := bank.val
  let time := edgeTime (s.tapLine (s.etdOf b)).widths cycle code
  let s := s.at cycle
  if !s.activeEdge rising then s
  else
  let s := s.dripEmon b cycle
  if b = 8 || !s.on 8 || s.bankEst b then s
  else
    let lo := fineNs (s.getF F.ETD_WIN.MIN)
    let hi := fineNs (s.getF F.ETD_WIN.MAX)
    let mine := fun (p : PulseStart) => p.bank = b && decide (p.time + lo ≤ time) && decide (time ≤ p.time + hi)
    let timed := match tabFind b s.etd.stopDead with
      | some last => decide (last + fineNs 40 ≤ time)
      | none => true
    match s.etd.starts.find? mine with
    | none =>
      let s := { s with etd := { s.etd with counts := addCount (b * 8 + 5) 1 s.etd.counts } }
      if timed then { s with etd := { s.etd with stopDead := tabSet b time s.etd.stopDead } } else s
    | some p =>
      let add := fun (q : PulseStart) => if mine q then { q with stops := q.stops ++ [(time, timed && p.armed)] } else q
      let s := { s with etd := { s.etd with starts := s.etd.starts.map add } }
      if timed && p.armed then { s with etd := { s.etd with stopDead := tabSet b time s.etd.stopDead } } else s

def execEmonStop (bank : Fin 9) (edge : EmonEdge) (code : Nat) (s : State) : Host.Outcome State Fault Refusal :=
  answer (doEmonStop bank edge.rising edge.cycle code s)

/-- The reason counted for a start whose window closes (R149): 0 MEASURED, 1 MISS, 2 DEAD, 3 DOUBLE, 4 NOARM, 6 EST. -/
def PulseStart.outcome (p : PulseStart) : Nat :=
  if p.est then 6
  else if !p.armed then 4
  else match p.stops with
    | [] => 1
    | [(_, true)] => 0
    | [(_, false)] => 2
    | _ => 3

/-- Nearest whole LSB. -/
def toLsb (fine : Nat) : Nat := (fine + 128) / 256

/-- `ETD_LINE` of a line after a measured pulse (R160): mean of E − FIRE, and the deviation of δ about its mean. -/
def State.lineStats (s : State) (line : Nat) (delta lat : Int) : State :=
  let l := ((delta, lat) :: (tabFind line s.etd.deltas).getD []).take 256
  let n := l.length
  let sum := (l.map (·.1)).sum
  let sq := (l.map (fun x => x.1 * x.1)).sum
  let mean := roundDiv ((l.map (·.2)).sum) n
  let spread := Nat.sqrt (256 * (n * sq - sum * sum).toNat) / n
  let s := { s with etd := { s.etd with deltas := tabSet line l s.etd.deltas } }
  (s.setF (F.ETD_LINE.LAT.inst line) (unsigned 16 mean)).setSat (F.ETD_LINE.SPREAD.inst line) spread

/-- A pulse of `line` has settled as MISS, or not: runs of MISS go on or end, and a measured pulse counts for those of the bank's other
lines (R351). -/
def State.noteMiss (s : State) (line : Nat) (miss measured : Bool) : State :=
  let mates := if measured then (s.etd.misses.map (·.1)).filter (fun m => m / 16 = line / 16 && m ≠ line && !s.etd.alive.contains m) else []
  { s with etd := { s.etd with
      misses := if miss then addCount line 1 s.etd.misses else tabDel line s.etd.misses
      alive := (if miss then s.etd.alive else s.etd.alive.filter (· ≠ line)) ++ mates } }

/-- R149, R156, R159: the pulse settles and its emission instant is ready for the engine, with the ZERO of its frame's epoch (R44). The window of an absent pulse
stands where an estimated one would (log entry 28). -/
def State.settlePulse (s : State) (p : PulseStart) : State :=
  let o := p.outcome
  let s := { s with etd := { s.etd with counts := addCount (p.bank * 8 + o) 1 s.etd.counts } }
  let s := s.noteMiss p.line (o = 1) (o = 0)
  let zero := signed 16 (s.getAt p.epoch (F.ETD_ZERO.ZERO.idx p.bank))
  let guess : Int := (p.issued * 128 + s.getF (F.ETD_LINE.LAT.inst p.line) : Nat)
  if o = 6 then s.pulseResult p.frame p.ord p.line { k := p.k, status := 1, energy := p.energy, instant := guess }
  else match o, p.stops with
    | 0, (stop, _) :: _ =>
      let e : Int := (toLsb stop : Int) - zero
      let s := s.lineStats p.line (toLsb (stop - p.time) : Nat) (e - (p.issued * 128 : Nat))
      s.pulseResult p.frame p.ord p.line { k := p.k, status := 0, energy := p.energy, instant := e }
    | _, _ => s.pulseResult p.frame p.ord p.line { k := p.k, status := 2, energy := p.energy, instant := guess }

/-- The window of the oldest start of a bank closes. -/
def doPulseSettle (bank : Fin 8) (t : Nat) (s : State) : State :=
  let s := s.at t
  match s.etd.starts.find? (fun p => p.bank = bank.val) with
  | some p =>
    if p.time + fineNs (s.getF F.ETD_WIN.MAX) ≤ fineNs s.now then
      let s := { s with etd := { s.etd with starts := s.etd.starts.erase p } }
      s.settlePulse p
    else s
  | none => s

def execPulseSettle (bank : Fin 8) (t : Nat) (s : State) : Host.Outcome State Fault Refusal := answer (doPulseSettle bank t s)

/-! ## Width tables and taps (R153 to R155) -/

/-- Hits of a code-density test (R153). -/
def testHits : Nat := 524288

/-- Largest deviation of a width from 256. -/
def dnlMax (ws : List Nat) : Nat := ws.foldl (fun m w => max m (max (w - 256) (256 - w))) 0

/-- The active taps whose width, n × 256 × 128 ÷ 524,288 for n hits, lies outside 64 to 512. -/
def wornTaps (hits : List Nat) : List Nat :=
  (List.range hits.length).filter (fun i => decide (nth 0 hits i < 1024) || decide (8192 < nth 0 hits i))

/-- The spare taps not in use, lowest-numbered first. -/
def TapLine.freeTaps (l : TapLine) : List Nat := (List.range 160).filter (fun p => !l.active.contains p && !l.retired.contains p)

/-- Tap `old` gives way to the lowest-numbered spare, which stands at its place along the line with its factory width in line `n`. -/
def TapLine.replaceTap (n : Nat) (l : TapLine) (old : Nat) : TapLine :=
  match l.freeTaps with
  | [] => l
  | tap :: _ =>
    let keep := (l.active.zip l.widths).filter (fun x => x.1 ≠ old)
    let all := keep.filter (fun x => x.1 < tap) ++ [(tap, Config.tapWidth n tap)] ++ keep.filter (fun x => tap < x.1)
    { l with active := all.map (·.1), widths := all.map (·.2), retired := old :: l.retired }

/-- The map and table of line `n` after a tap substitution (R155), scaled to their sum. -/
def TapLine.substituted (n : Nat) (l : TapLine) (places : List Nat) : TapLine :=
  let m := (places.map (nth 0 l.active)).foldl (TapLine.replaceTap n) l
  { m with widths := toWidths m.widths, staged := none, subst := none }

/-- The drift counts after a refresh with table `ws`: a tap whose width differs from its factory width by more than `limit` (R349). -/
def TapLine.drifted (l : TapLine) (n limit : Nat) (ws : List Nat) : List (Nat × Nat) :=
  let fs := factoryWidths n l.active
  (List.range 128).filterMap (fun i =>
    let tap := nth 0 l.active i
    let off := ((nth 0 ws i : Nat) : Int) - ((nth 0 fs i : Nat) : Int)
    if limit < off.natAbs then some (tap, countAt tap l.drift + 1) else none)

/-- The tap pool of a line is used up: the CAL page shows it; it is no cause of `DEGRADED` (R355). -/
def State.noteTapPool (s : State) (n : Nat) : State :=
  if (s.tapLine n).freeTaps.isEmpty && !s.bitF F.CAL_EXHAUST.KINDS 0 then (s.setBit F.CAL_EXHAUST.KINDS 0 true).raiseEvt 6 2 else s

/-- A planned substitution finds no spare: the worn part stays in service (R353). -/
def State.staysWorn (s : State) (kind : Nat) : State := s.setF (F.CAL_POOL_STAT.WORN.inst kind) 1

/-- Interpolator `n` times the edges of a bank. -/
def State.serves (s : State) (n : Nat) : Bool :=
  if n = 8 then s.flag F.ETD_MAP.SPARE_IN else !(s.flag F.ETD_MAP.SPARE_IN && s.getF F.ETD_MAP.BANK = n)

/-- A bank stays estimated, with no spare left for it (R156). -/
def State.noInterpolator (s : State) : State := (s.raiseEvt 12 4).poolTrigger 12 0x41

/-- A failed interpolator asks for ETD8 (R156, R157): a planned substitution gives way to it, one for another failure does not. -/
def State.wantSpare (s : State) (n : Nat) : State :=
  if s.flag F.ETD_MAP.SPARE_IN || s.bitF F.ETD_FAIL.EST 8 then s.noInterpolator
  else if (tabFind n s.etd.subst).isSome then s
  else if s.etd.subst.any (fun e => s.bitF F.ETD_FAIL.EST e.1) then s.noInterpolator
  else
    let s := if s.etd.subst.isEmpty then s else s.staysWorn 2
    { s with etd := { s.etd with subst := [(n, s.frameNo)] } }

/-- The idle spare is lost: it is retired, and those that wait for it stay as they are. -/
def State.loseSpare (s : State) : State :=
  let waiting := s.etd.subst
  let s := { s with etd := { s.etd with subst := [] } }
  let s := waiting.foldl (fun s e => if s.bitF F.ETD_FAIL.EST e.1 then s.noInterpolator else s.staysWorn 2) s
  (((s.setF (H.SPARE_LEFT 12) 0).setBit (H.SPARE_MAP 12) 8 true).raiseEvt 12 29).recordDue.poolTrigger 12 0x40

/-- An interpolator fails (R156): the pulses of its bank become estimated. -/
def State.failInterpolator (s : State) (n : Nat) : State :=
  if s.bitF F.ETD_FAIL.EST n then s
  else
    let s := (s.setBit F.ETD_FAIL.EST n true).recordDue
    let bank := if n = 8 then s.getF F.ETD_MAP.BANK else n
    let est := fun (p : PulseStart) => if s.serves n && p.bank = bank then { p with est := true } else p
    let s := { s with etd := { s.etd with starts := s.etd.starts.map est } }
    if s.serves n then (if n = 8 then s.noInterpolator else s.wantSpare n)
    else if n = 8 then s.loseSpare else s

/-- The bank that interpolator `n` serves is idle in a gap, as a code-density test needs (R153); an idle spare serves none. -/
def State.testGap (s : State) (n : Nat) : Bool :=
  s.inGap && (!s.serves n || !s.bankBusy (if n = 8 then s.getF F.ETD_MAP.BANK else n))

/-- The bank that interpolator `n` serves, or the number by which one that serves none is known in `EtdState.took`. -/
def State.bankKey (s : State) (n : Nat) : Nat := if !s.serves n then 2000 + n else if n = 8 then s.getF F.ETD_MAP.BANK else n

/-- A substitution that interpolator `n`, or a bank through it, waits for (R347). -/
def State.etdPending (s : State) (n : Nat) : Bool := (tabFind n s.etd.subst).isSome || (s.tapLine n).subst.isSome

/-- The interpolator with the oldest table that has not failed, once the table is older than ETD_INT (R347); one never refreshed in service is
the oldest. -/
def State.oldestTable (s : State) : Option Nat :=
  let good := (List.range 9).filter (fun n => !s.bitF F.ETD_FAIL.EST n)
  let oldest := good.foldl (fun (b : Option Nat) n => match b with
    | some k => if countAt n s.etd.refreshed < countAt k s.etd.refreshed then some n else b
    | none => some n) none
  oldest.filter (fun n => (tabFind n s.etd.refreshed).all (fun t => decide (t + s.getF F.CAL_SCHED.ETD_INT * 60000000000 < s.now)))

/-- The interpolator that the test source drives now (R347, R348): in a gap, its bank idle, with no substitution to come first and none taken
in the gap. -/
def State.etdTested (s : State) : Option Nat :=
  s.oldestTable.filter (fun n => s.on 8 && s.testGap n && !(s.longGap && s.etdPending n) && !s.tookInGap (s.bankKey n))

/-- The hits that the test source adds in `slots` slots up to slot `slot`: 12.5 in each (R153); those of earlier gaps stand (R348). -/
def State.injectHits (s : State) (slot slots : Nat) : State :=
  match s.etdTested with
  | some n => { s with etd := { s.etd with hits := addCount n (25 * slot / 2 - 25 * (slot - slots) / 2) s.etd.hits } }
  | none => s

/-- R153 to R155: the test of the interpolator has its hits: the refreshed table is staged, or worn taps are retired and their substitution
requested. -/
def doInterpolatorRefreshComplete (etd : Fin 9) (hits : List Nat) (t : Nat) (s : State) : State :=
  let s := s.at t
  let n := etd.val
  let l := s.tapLine n
  if !s.on 8 || hits.length ≠ 128 || hits.sum ≠ testHits || !s.testGap n || countAt n s.etd.hits < testHits then s
  else
    let ws := toWidths hits
    let s := { s with etd := { s.etd with hits := tabDel n s.etd.hits } }
    let s := s.setSat (F.ETD_TAPS.DNL_MAX.inst n) (dnlMax ws)
    match wornTaps hits with
    | [] =>
      let s := { s with etd := { s.etd with refreshed := tabSet n s.now s.etd.refreshed } }
      ((s.setTapLine n { l with staged := some ws, drift := l.drifted n (s.getF F.CAL_WEAR_TAP.DRIFT) ws }).setF (F.ETD_TBL.STAGED.inst n) 1).setF (F.ETD_TBL.PROV.inst n) 0
    | worn =>
      if l.freeTaps.length < worn.length then s.failInterpolator n
      else s.setTapLine n { l with subst := some (worn, s.frameNo) }

def execInterpolatorRefreshComplete (etd : Fin 9) (hits : List Nat) (t : Nat) (s : State) : Host.Outcome State Fault Refusal :=
  answer (doInterpolatorRefreshComplete etd hits t s)

/-- R156: a DLL loses lock. -/
def doInterpolatorFailure (etd : Fin 9) (t : Nat) (s : State) : State :=
  let s := s.at t
  if !s.on 8 then s
  else ((s.setBit F.ETD_MAP.LOCK etd.val false).raiseEvt 12 0).failInterpolator etd.val

def execInterpolatorFailure (etd : Fin 9) (t : Nat) (s : State) : Host.Outcome State Fault Refusal :=
  answer (doInterpolatorFailure etd t s)

/-- R156: no conversion within 200 ns of a timed start. -/
def doConversionTimeout (etd : Fin 9) (t : Nat) (s : State) : State :=
  let s := s.at t
  if !s.on 8 then s else s.failInterpolator etd.val

def execConversionTimeout (etd : Fin 9) (t : Nat) (s : State) : Host.Outcome State Fault Refusal :=
  answer (doConversionTimeout etd t s)

/-- A tap substitution takes effect (R155, R157); hits collected on the old map are discarded (R348). -/
def State.applyTap (s : State) (n : Nat) (places : List Nat) : State :=
  let s := s.setTapLine n ((s.tapLine n).substituted n places)
  let s := { s with etd := { s.etd with relock := (n, none) :: s.etd.relock, hits := tabDel n s.etd.hits, refreshed := tabDel n s.etd.refreshed,
                                        took := tabSet (s.bankKey n) s.now s.etd.took } }
  let s := (s.setBit F.ETD_MAP.LOCK n false).setF (F.ETD_TBL.PROV.inst n) 1
  let s := (s.setF (F.ETD_TBL.STAGED.inst n) 0).bump (F.ETD_TAPS.USED.inst n) places.length
  ((s.setF (F.ETD_TAPS.LEFT.inst n) (s.getF (F.ETD_TAPS.LEFT.inst n) - places.length)).raiseEvt 12 2).partTaken.noteTapPool n

/-- ETD8 takes over a bank (R156, R157), unless it has failed since. -/
def State.applySpare (s : State) (n : Nat) : State :=
  if s.flag F.ETD_MAP.SPARE_IN || s.bitF F.ETD_FAIL.EST 8 then s
  else
    let s := { s with etd := { s.etd with subst := tabDel n s.etd.subst, relock := (8, none) :: s.etd.relock,
                                          took := tabSet n s.now s.etd.took } }
    let s := (s.setF F.ETD_MAP.SPARE_IN 1).setF F.ETD_MAP.BANK n
    let s := (s.setBit F.ETD_MAP.LOCK 8 false).setF (H.SPARE_LEFT 12) 0
    let s := (s.bump (H.SPARE_USED 12) 1).setBit (H.SPARE_MAP 12) n true
    ((s.raiseEvt 12 1).spareTaken 12).poolTrigger 12 0x40

/-- The change that interpolator `n` waits for, applied when `due` holds for the bank and the frame of the request; the tap map of an idle
spare holds up no bank. -/
def State.applyDue (s : State) (due : Nat → Nat → Bool) (n : Nat) : State :=
  match tabFind n s.etd.subst, (s.tapLine n).subst with
  | some req, _ => if due n req then s.applySpare n else s
  | none, some (places, req) =>
    if !s.serves n || due (if n = 8 then s.getF F.ETD_MAP.BANK else n) req then s.applyTap n places else s
  | none, none => s

/-- R157: the change that interpolator `n` waits for is applied in a suitable gap, and its DLL relocks. -/
def doSubstitutionApply (etd : Fin 9) (t : Nat) (s : State) : State :=
  let s := s.at t
  s.applyDue (fun b _ => s.substGap b) etd.val

def execSubstitutionApply (etd : Fin 9) (t : Nat) (s : State) : Host.Outcome State Fault Refusal :=
  answer (doSubstitutionApply etd t s)

/-- At the boundary that begins the present frame, a change requested before the last two frames began is applied (R157); frame
numbers wrap (R43). -/
def State.overdueChange (s : State) (req : Nat) : Bool := decide (3 ≤ (s.frameNo + 2 ^ 32 - req) % 2 ^ 32)

/-- R152: the DLL of an interpolator is locked. -/
def doDllLock (etd : Fin 9) (t : Nat) (s : State) : State :=
  let s := s.at t
  if !s.on 8 then s
  else
    let s := { s with etd := { s.etd with relock := s.etd.relock.filter (fun x => x.1 ≠ etd.val) } }
    s.setBit F.ETD_MAP.LOCK etd.val true

def execDllLock (etd : Fin 9) (t : Nat) (s : State) : Host.Outcome State Fault Refusal := answer (doDllLock etd t s)

/-- R158: the idle spare times its own loop, in gaps. -/
def doReferenceLoopFire (egate : Bool) (cycle code : Nat) (stop : Option (Bool × Nat × Nat)) (s : State) : State :=
  let s := s.at cycle
  if s.on 8 && !s.flag F.ETD_MAP.SPARE_IN && s.flag F.ETD_CTL.REFLOOP && (s.frames || s.dev = .standby) && s.inGap then
    let ws := (s.tapLine 8).widths
    let start := edgeTime ws cycle code
    let s := { s with tp := { s.tp with out := .reference cycle :: s.tp.out } }
    match stop with
    | some (rising, c, f) =>
      let time := edgeTime ws c f
      if s.activeEdge rising && (egate || !s.flag F.ETD_CTL.GATE8) && decide (start + fineNs (s.getF F.ETD_WIN.MIN) ≤ time)
          && decide (time ≤ start + fineNs (s.getF F.ETD_WIN.MAX)) then
        (s.setF F.ETD_REF.DELTA (toLsb (time - start))).setF F.ETD_REF.SEEN 1
      else s
    | none => s
  else s

def execReferenceLoopFire (egate : Bool) (cycle code : Nat) (stop : Option (Bool × Nat × Nat)) (s : State) :
    Host.Outcome State Fault Refusal := answer (doReferenceLoopFire egate cycle code stop s)

/-! ## At a frame boundary -/

/-- A staged table becomes active (R154). -/
def State.activateTable (s : State) (n : Nat) : State :=
  let l := s.tapLine n
  match l.staged with
  | some ws =>
    let s := s.setTapLine n { l with widths := ws, staged := none }
    let g := F.ETD_TBL.GEN.inst n
    let s := s.setF (F.ETD_TBL.STAGED.inst n) 0
    (s.setF g (s.getF g + 1)).raiseEvt 12 3
  | none => s

/-- ETD at a frame boundary: changes that found no gap in two frames (R157), then staged tables (R154). -/
def State.etdBoundary (s : State) : State :=
  (List.range 9).foldl State.activateTable ((List.range 9).foldl (fun s n => s.applyDue (fun _ req => s.overdueChange req) n) s)

end Sys2Proof.Machine
end

