-- ==== Sys2Proof/Machine/Returns.lean ====
section
/-! DEFINITION. Return channels (chapter 08): decoding of return pulses, forwarding and overload, samplers and their spares, the
ambient estimate, and tile control over I²C. -/

namespace Sys2Proof.Machine

def chanEn (c : Nat) : Field := chanF c 0 0 1
def chanOfs (c : Nat) : Field := chanF c 4 0 16
def chanMap (c : Nat) : Field := chanF c 8 0 7
/-- FLAGS: 0 STUCK, 2 AMB_HELD; NOSMP (1) follows MAP. -/
def chanFlag (c i : Nat) : Field := chanF c 8 (16 + i) 1

/-- Number of the delay line of sampler k of group g. -/
def samplerLine (g k : Nat) : Nat := 16 + 68 * g + k
/-- Instance of the sampler registers. -/
def samplerInst (g k : Nat) : Nat := 68 * g + k

/-- The sampler that serves a channel (R168): none with NOSMP. -/
def State.samplerOf (s : State) (c : Nat) : Option Nat :=
  let m := s.getF (chanMap c)
  if m < 68 then some m else none

def State.samplerFailed (s : State) (g k : Nat) : Bool := s.flag (F.RXC_SMP_STAT.FAILED.inst (samplerInst g k))

/-- Channels of a group without a sampler (R174). -/
def State.samplerless (s : State) (g : Nat) : Nat := ((List.range 64).filter (fun k => (s.samplerOf (64 * g + k)).isNone)).length

/-- The sampler that timed an edge of a channel at SMP cycle `t`: before the crossbar switched, the one then in service (R173). -/
def State.samplerAt (s : State) (c t : Nat) : Option Nat :=
  match tabFind c s.rxc.switched with
  | some (at_, old) => if t < at_ then some old else s.samplerOf c
  | none => s.samplerOf c

def State.inService (s : State) (g k : Nat) : Bool := s.flag (F.RXC_SMP_STAT.IN_SERVICE.inst (samplerInst g k))

/-- The channel index of its group that a sampler serves, or that the crossbar names for an idle spare (R169; log entry 2). -/
def State.samplerChannel (s : State) (g k : Nat) : Nat :=
  if s.inService g k || s.samplerFailed g k then s.getF (F.RXC_SMP_STAT.CHANNEL.inst (samplerInst g k))
  else (Config.factoryValue 0xD120 (samplerInst g k)).toNat % 64

/-- The DLL of a sampler is locked (R168, R171): not before the lock that follows a release or a change of its tap map. -/
def State.samplerLocked (s : State) (g k : Nat) : Bool :=
  s.on (20 + g) && !s.samplerFailed g k && (tabFind g s.rxc.locks).any (fun t => decide (t ≤ s.now))
    && !s.etd.relock.any (fun x => x.1 = samplerLine g k && x.2.any (fun t => decide (s.now < t)))

/-- Outcome of decoding a width in LSB (R166): level and the counter to count, 3 RUNT, 4 LONG, 6 OVERLONG. -/
def decodeWidth (w : Nat) : Option Nat × Option Nat :=
  if w < 80 then (none, some 3)
  else if w < 560 then (some ((w - 48) / 32), none)
  else if w < 1024 then (some 15, some 4)
  else (none, some 6)

def State.chanCount (s : State) (c kind : Nat) : State :=
  { s with rxc := { s.rxc with counts := addCount (c * 8 + kind) 1 s.rxc.counts } }

/-- Event time `t` (LSB) lies in the armed interval of a train on the channel's line (R175). -/
def Train.arms (tr : Train) (c : Nat) (t : Int) : Bool :=
  tr.lines.any (fun x =>
    x.line = c / 8 && decide (((tr.nominal x.rank 0 * 128 : Nat) : Int) ≤ t) && decide (t < ((x.endAt * 128 : Nat) : Int)))

/-- A channel is armed at the present instant. -/
def State.armedNow (s : State) (c : Nat) : Bool :=
  s.sch.trains.any (fun tr => tr.lines.any (fun x =>
    x.line = c / 8 && decide (tr.nominal x.rank 0 ≤ s.now) && decide (s.now < x.endAt)))

/-- W16[L] of an epoch (R190): entry 0 is 0. -/
def State.weight (s : State) (epoch level : Nat) : Nat :=
  if level = 0 then 0 else fieldOf (8 * (level % 4)) 8 (s.getAt epoch (F.GRN_WEIGHT.W.idx (level / 4)))

/-- The measurement accumulates. -/
def Meas.open_ (m : Meas) : Bool := m.state = 1 || m.state = 2

/-- The open measurement of an event's train on its channel, with its slot. -/
def State.measOf (s : State) (e : Event) : Option (Nat × Meas) :=
  s.grn.slots.find? (fun x => x.2.chan = e.ch && x.2.frame = e.frame && x.2.train = e.train && x.2.open_)

def State.setMeas (s : State) (slot : Nat) (m : Meas) : State :=
  { s with grn := { s.grn with slots := tabSet slot m s.grn.slots } }

/-- A measurement-frame counter of the GRN page (R206): 0 MEAS … 6 LATE. -/
def State.frameCount (s : State) (frame kind n : Nat) : State :=
  { s with grn := { s.grn with perFrame := addCount (frame * 8 + kind) n s.grn.perFrame } }

/-- An event of an armed channel is lost (R200). -/
def State.loseEvent (s : State) (e : Event) : State :=
  let s := s.chanCount e.ch 2
  let s := { s with rxc := { s.rxc with groups := addCount (e.ch / 64 * 4 + 1) 1 s.rxc.groups }
                    crm := { s.crm with lost := addCount (e.frame * 1024 + e.ch) 1 s.crm.lost } }
  let s := s.frameCount e.frame 5 1
  match s.measOf e with
  | some (slot, m) => s.setMeas slot { m with lost := true, lostCnt := min 0xFFFF (m.lostCnt + 1) }
  | none => s

def State.queueOf (s : State) (g : Nat) : List Event := (tabFind g s.rxc.queues).getD []

/-- A forwarded event enters the group queue, or waits in the holding stage, or is lost (R176). -/
def State.forward (s : State) (e : Event) : State :=
  let g := e.ch / 64
  let q := s.queueOf g
  let fwd := fun (s : State) =>
    let s := s.chanCount e.ch 1
    let hw := max (countAt (g * 4 + 2) s.rxc.groups) (s.queueOf g).length
    { s with rxc := { s.rxc with groups := tabSet (g * 4 + 2) hw (addCount (g * 4) 1 s.rxc.groups) } }
  if q.length < 256 then fwd { s with rxc := { s.rxc with queues := tabSet g (q ++ [e]) s.rxc.queues } }
  else if (s.rxc.held.filter (fun h => h.ch = e.ch)).length < 2 then
    fwd { s with rxc := { s.rxc with held := s.rxc.held ++ [e] } }
  else s.loseEvent e

/-- R177: a decoded event of a channel armed for a P0 measurement is copied to the Drip path. -/
def State.drip (s : State) (c cycle level : Nat) (tr : Train) : State :=
  if s.gradeS && tr.cls = 0 && s.on 2 then
    { s with saf := { s.saf with events := s.saf.events ++ [{ ch := c, cycle := cycle, level := level }] } }
  else s

/-- An edge in dark time is collected by a sampler, and by the idle spares that listen to the channel (R169). -/
def State.collect (s : State) (c k : Nat) : State :=
  let g := c / 64
  let takes := fun (q : Nat) => !s.samplerFailed g q
    && (q = k || (decide (64 ≤ q) && !s.inService g q && s.samplerChannel g q = c % 64))
  { s with rxc := { s.rxc with edges := ((List.range 68).filter takes).foldl (fun e q => addCount (samplerLine g q) 1 e) s.rxc.edges } }

/-- The test source supplements the ambient edges of a sampler: in a frame gap, while its channel is not armed and its last refresh lies an
hour back (R170); a new map comes first, and a sampler that took one in this gap takes no source (R347, R348). -/
def State.testSource (s : State) (g k : Nat) : Bool :=
  s.flag F.RXC_CTL.CDT_SRC && s.on (20 + g) && !s.samplerFailed g k
    && decide ((tabFind (samplerLine g k) s.rxc.refreshed).getD 0 + 3600000000000 ≤ s.now) && s.frameGap
    && !s.armedNow (g * 64 + s.samplerChannel g k)
    && !(s.longGap && (s.tapLine (samplerLine g k)).subst.isSome) && !s.tookInGap (samplerLine g k)

/-- The edges that the test source adds in `slots` slots up to slot `slot`: 12.5 in each (R153, R170). -/
def State.injectEdges (s : State) (slot slots : Nat) : State :=
  if s.now < 3600000000000 then s
  else
    let n := 25 * slot / 2 - 25 * (slot - slots) / 2
    (List.range 1088).foldl (fun s i => if s.testSource (i / 68) (i % 68) then
      { s with rxc := { s.rxc with edges := addCount (i + 16) n s.rxc.edges } } else s) s

/-- A decoded event of level `level` (R175, R178): counted, counted as dark, and forwarded when armed and weighted, but not from a failed
sampler (R172). A train's events take the OFS and weights of its epoch (R44). -/
def State.decoded (s : State) (c k cycle : Nat) (lead : Int) (level : Nat) : State :=
  let s := s.chanCount c 0
  let s := if s.isDark (lead / 128).toNat then
      ({ s with rxc := { s.rxc with dark := addCount (c * 16 + level) 1 s.rxc.dark } }).collect c k
    else s
  let place := fun (epoch : Nat) => lead - signed 16 (s.getAt epoch (chanOfs c))
  match s.sch.trains.find? (fun tr => tr.arms c (place tr.epoch)) with
  | some tr =>
    let t := place tr.epoch
    let s := s.drip c cycle level tr
    if s.weight tr.epoch level = 0 || s.samplerFailed (c / 64) k then s else s.forward { ch := c, frame := tr.frame, train := tr.ord, time := t, level := level }
  | none => s

/-- R165 to R167, R175, R176: a return pulse on a channel. -/
def doReturnPulse (ch : Fin 1024) (leadCycle leadCode trailCycle trailCode : Nat) (s : State) : State :=
  let c := ch.val
  let g := c / 64
  let s := s.at trailCycle
  match s.samplerAt c leadCycle with
  | none => s
  | some k =>
    if !s.on 8 || !s.on (20 + g) || !s.flag (chanEn c) || s.flag (chanFlag c 0) then s
    else
      let ws := (s.tapLine (samplerLine g k)).widths
      let lead := edgeTime ws leadCycle leadCode
      let trail := edgeTime ws trailCycle trailCode
      let early := match tabFind c s.rxc.trailing with
        | some last => decide ((toLsb lead : Int) < last + 512)
        | none => false
      if early then s.chanCount c 5
      else
        let s := { s with rxc := { s.rxc with trailing := tabSet c (toLsb trail : Int) s.rxc.trailing } }
        let (level, kind) := decodeWidth (toLsb (trail - lead))
        let s := match kind with
          | some k => s.chanCount c k
          | none => s
        match level with
        | some l => s.decoded c k leadCycle (toLsb lead : Nat) l
        | none => s

def execReturnPulse (ch : Fin 1024) (leadCycle leadCode trailCycle trailCode : Nat) (s : State) : Host.Outcome State Fault Refusal :=
  answer (doReturnPulse ch leadCycle leadCode trailCycle trailCode s)

/-- R166: the pair has been in the pulse state for more than 1 µs. -/
def doChannelStuck (ch : Fin 1024) (t : Nat) (s : State) : State :=
  let s := s.at t
  if s.on 8 && !s.flag (chanFlag ch 0) then (s.setF (chanFlag ch 0) 1).raiseEvt 13 4 else s

def execChannelStuck (ch : Fin 1024) (t : Nat) (s : State) : Host.Outcome State Fault Refusal := answer (doChannelStuck ch t s)

/-- R166: the pair has been out of the pulse state for 1 µs. -/
def doChannelUnstuck (ch : Fin 1024) (t : Nat) (s : State) : State :=
  let s := s.at t
  if s.on 8 then s.setF (chanFlag ch 0) 0 else s

def execChannelUnstuck (ch : Fin 1024) (t : Nat) (s : State) : Host.Outcome State Fault Refusal :=
  answer (doChannelUnstuck ch t s)

/-! ## Samplers and spares (R169 to R174) -/

/-- Byte of spare sampler 64 + i in `RXC_GRP_SPARE`. -/
def State.spareByte (s : State) (g i : Nat) : Nat := fieldOf (8 * i) 8 (s.getF (F.RXC_GRP_SPARE.SPARES.inst g))
def State.setSpareByte (s : State) (g i v : Nat) : State :=
  let f := F.RXC_GRP_SPARE.SPARES.inst g
  s.setF f (withField (8 * i) 8 (s.getF f) v)
/-- A spare sampler of a group neither serves nor has failed. -/
def State.spareRests (s : State) (g i : Nat) : Bool := !(s.spareByte g i).testBit 7 && !(s.spareByte g i).testBit 6

/-- The lowest-numbered idle spare of a group that no failure has been assigned (R173). -/
def State.idleSpare (s : State) (g : Nat) : Option Nat :=
  (List.range 4).find? (fun i => s.spareRests g i && !s.rxc.waiting.any (fun w => w.ch / 64 = g && w.spare = i))

/-- A sampler serves its channel no more (R173); where it is a spare, `BLK_SPARE` changes. -/
def State.releaseSampler (s : State) (g k : Nat) : State :=
  let s := s.setF (F.RXC_SMP_STAT.IN_SERVICE.inst (samplerInst g k)) 0
  if k < 64 then s else ((s.setSpareByte g (k - 64) (s.spareByte g (k - 64) % 128)).setF (H.SPARE_USED 13) (s.getF (H.SPARE_USED 13) - 1)).raiseEvt 13 29

/-- The crossbar takes a channel from its sampler; `dest`: the sampler that times its edges from now on, 0x7F for none. -/
def State.switchChannel (s : State) (c dest : Nat) : State :=
  let s := match s.samplerOf c with
    | some k => ({ s with rxc := { s.rxc with switched := tabSet c (s.now, k) s.rxc.switched } }).releaseSampler (c / 64) k
    | none => s
  s.setF (chanMap c) dest

/-- The open measurements of a channel become channel-faulted (R172, R191). -/
def State.faultChannel (s : State) (c : Nat) : State :=
  (s.grn.slots.filter (fun x => x.2.chan = c && x.2.open_ && !x.2.chFault)).foldl (fun s x =>
    ((s.setMeas x.1 { x.2 with chFault := true }).frameCount x.2.frame 1 (if x.2.tileFault then 0 else 1)).raiseEvt 14 6) s

/-- A channel has no sampler (R174): its open measurement is channel-faulted. -/
def State.noSampler (s : State) (c : Nat) : State := ((s.faultChannel c).switchChannel c 0x7F).poolTrigger 13 0x41

/-- The group's pool is exhausted when no idle spare is left (R174). -/
def State.checkPool (s : State) (g : Nat) : State :=
  if !(List.range 4).any (s.spareRests g) && !s.bitF (H.SPARE_MAP 13) g then
    ((s.setBit (H.SPARE_MAP 13) g true).raiseEvt 13 5).poolTrigger 13 0x40
  else s

/-- Channel `c` takes the lowest-numbered idle spare of its group, or stays without a sampler (R173, R174). -/
def State.assignSpare (s : State) (c : Nat) : State :=
  match s.idleSpare (c / 64) with
  | some i => { s with rxc := { s.rxc with waiting := s.rxc.waiting ++ [{ ch := c, spare := i, at_ := s.now }] } }
  | none => s.noSampler c

/-- A spare is assigned at the failure; of channels of a group that lose their samplers in one cycle the lower number comes first (R353). -/
def State.claimSpare (s : State) (c : Nat) : State :=
  let same := s.rxc.waiting.filter (fun w => w.ch / 64 = c / 64 && w.at_ = s.now)
  let s := { s with rxc := { s.rxc with waiting := s.rxc.waiting.filter (fun w => !same.contains w) } }
  (insertBy (fun a b => decide (a < b)) c (same.map SpareClaim.ch)).foldl State.assignSpare s

/-- The idle spare 64 + `i` is lost: a channel it was assigned to asks again. -/
def State.dropClaim (s : State) (g i : Nat) : State :=
  let mine := s.rxc.waiting.filter (fun w => w.ch / 64 = g && w.spare = i)
  let s := { s with rxc := { s.rxc with waiting := s.rxc.waiting.filter (fun w => !mine.contains w) } }
  (mine.map SpareClaim.ch).foldl State.assignSpare s

/-- A sampler fails (R172 to R174). -/
def State.failSampler (s : State) (g k : Nat) : State :=
  let i := samplerInst g k
  if s.samplerFailed g k then s
  else
    let serving := s.flag (F.RXC_SMP_STAT.IN_SERVICE.inst i)
    let c := g * 64 + s.getF (F.RXC_SMP_STAT.CHANNEL.inst i)
    let s := (s.setF (F.RXC_SMP_STAT.FAILED.inst i) 1).recordDue
    let s := (s.bump (F.RXC_GRP_STAT.FAILED.inst g) 1).raiseEvt 13 0
    let s := if 64 ≤ k then s.setSpareByte g (k - 64) (s.spareByte g (k - 64) ||| 0x40) else s
    if serving then (s.faultChannel c).claimSpare c
    else
      let s := s.setF (H.SPARE_LEFT 13) (s.getF (H.SPARE_LEFT 13) - 1)
      (((s.raiseEvt 13 29).recordDue).checkPool g).dropClaim g (k - 64)

/-- R169, R171, R172: the refreshed table is staged, a worn tap is retired, or the sampler fails. -/
def doSamplerRefreshComplete (group : Fin 16) (sampler : Fin 68) (hits : List Nat) (t : Nat) (s : State) : State :=
  let s := s.at t
  let n := samplerLine group sampler
  let i := samplerInst group sampler
  let l := s.tapLine n
  if !s.on 8 || !s.on (20 + group) || hits.length ≠ 128 || hits.sum ≠ testHits || countAt n s.rxc.edges < testHits then s
  else
    let ws := toWidths hits
    let s := s.setSat (F.RXC_SMP_TAPS.DNL_MAX.inst i) (dnlMax ws)
    let s := { s with rxc := { s.rxc with edges := tabDel n s.rxc.edges } }
    if hits.contains 0 then s.failSampler group sampler
    else match wornTaps hits with
      | [] =>
        let s := { s with rxc := { s.rxc with refreshed := tabSet n s.now s.rxc.refreshed } }
        let drift := l.drifted n (s.getF F.CAL_WEAR_TAP.DRIFT) ws
        ((s.setTapLine n { l with staged := some ws, drift := drift }).setF (F.RXC_SMP_TBL.STAGED.inst i) 1).setF (F.RXC_SMP_TBL.PROV.inst i) 0
      | worn =>
        if l.freeTaps.length < worn.length then s.failSampler group sampler
        else s.setTapLine n { l with subst := some (worn, s.frameNo) }

def execSamplerRefreshComplete (group : Fin 16) (sampler : Fin 68) (hits : List Nat) (t : Nat) (s : State) :
    Host.Outcome State Fault Refusal := answer (doSamplerRefreshComplete group sampler hits t s)

/-- The new tap map of a sampler is applied: what its refresh has collected is discarded (R348), and it relocks, within 3 µs (R171; log
entry 7). -/
def State.applySamplerMap (s : State) (g k : Nat) (places : List Nat) : State :=
  let n := samplerLine g k
  let i := samplerInst g k
  let s := s.setTapLine n ((s.tapLine n).substituted n places)
  let lock := s.now + s.freeNat % 3001
  let s := ({ s with etd := { s.etd with took := tabSet n s.now s.etd.took, relock := (n, some lock) :: s.etd.relock.filter (fun x => x.1 ≠ n) }
                     rxc := { s.rxc with edges := tabDel n s.rxc.edges } }).tick
  let s := (s.setF (F.RXC_SMP_TBL.PROV.inst i) 1).setF (F.RXC_SMP_TBL.STAGED.inst i) 0
  let s := s.setF (F.RXC_SMP_TAPS.LEFT.inst i) (s.getF (F.RXC_SMP_TAPS.LEFT.inst i) - places.length)
  ((s.bump (F.RXC_SMP_TAPS.USED.inst i) places.length).raiseEvt 13 2).partTaken.noteTapPool n

/-- The map that line `n` of a sampler waits for, when `due` holds for the channel and the frame of the request; an idle spare holds up no
channel. -/
def State.applyMapDue (s : State) (due : Nat → Nat → Bool) (n : Nat) : State :=
  let g := (n - 16) / 68
  let k := (n - 16) % 68
  match (s.tapLine n).subst with
  | some (places, req) => if !s.inService g k || due (g * 64 + s.samplerChannel g k) req then s.applySamplerMap g k places else s
  | none => s

/-- R171: the new tap map is applied in a gap of at least 4 µs in which the channel is not armed. -/
def doSamplerTapMapApply (group : Fin 16) (sampler : Fin 68) (t : Nat) (s : State) : State :=
  let s := s.at t
  s.applyMapDue (fun c _ => s.longGap && !s.armedNow c) (samplerLine group sampler)

def execSamplerTapMapApply (group : Fin 16) (sampler : Fin 68) (t : Nat) (s : State) : Host.Outcome State Fault Refusal :=
  answer (doSamplerTapMapApply group sampler t s)

/-- R172: a sampler fails. -/
def doSamplerFailure (group : Fin 16) (sampler : Fin 68) (t : Nat) (s : State) : State :=
  let s := s.at t
  if s.on 8 && s.on (20 + group) then s.failSampler group sampler else s

def execSamplerFailure (group : Fin 16) (sampler : Fin 68) (t : Nat) (s : State) : Host.Outcome State Fault Refusal :=
  answer (doSamplerFailure group sampler t s)

/-- The crossbar switches channel `c` to spare `i` of its group (R173). -/
def State.useSpare (s : State) (c i : Nat) : State :=
  let g := c / 64
  let new := samplerInst g (64 + i)
  let s := s.switchChannel c (64 + i)
  let s := (s.setF (F.RXC_SMP_STAT.IN_SERVICE.inst new) 1).setF (F.RXC_SMP_STAT.CHANNEL.inst new) (c % 64)
  let s := s.setSpareByte g i (0x80 + c % 64)
  let s := (s.bump (H.SPARE_USED 13) 1).setF (H.SPARE_LEFT 13) (s.getF (H.SPARE_LEFT 13) - 1)
  ((s.raiseEvt 13 1).spareTaken 13).checkPool g

/-- A sampler replaced as planned is retired with the failed ones (R349). -/
def State.retireSampler (s : State) (g k : Nat) : State :=
  let s := (s.setF (F.RXC_SMP_STAT.FAILED.inst (samplerInst g k)) 1).bump (F.RXC_GRP_STAT.FAILED.inst g) 1
  if 64 ≤ k then s.setSpareByte g (k - 64) (s.spareByte g (k - 64) % 128 ||| 0x40) else s

/-- R173, R174, R349: the channel that lost its sampler, or whose sampler is worn, is switched while it is not armed, after a failure to the
spare then assigned. A planned substitution that finds no spare is dropped (R353). -/
def doSamplerSubstitution (ch : Fin 1024) (t : Nat) (s : State) : State :=
  let s := s.at t
  let c := ch.val
  let claim := s.rxc.waiting.find? (fun w => w.ch = c)
  let failed := claim.isSome || (s.samplerOf c).any (s.samplerFailed (c / 64))
  if (failed || s.rxc.retiring.contains c) && !s.armedNow c then
    let s := { s with rxc := { s.rxc with waiting := s.rxc.waiting.filter (fun w => w.ch ≠ c), retiring := s.rxc.retiring.filter (· ≠ c) } }
    match (claim.map SpareClaim.spare).orElse (fun _ => s.idleSpare (c / 64)) with
    | some i =>
      let old := s.getF (chanMap c)
      let s := s.useSpare c i
      if failed then s else s.retireSampler (c / 64) old
    | none => if failed then s.noSampler c else s.setF (F.CAL_POOL_STAT.WORN.inst 1) 1
  else s

def execSamplerSubstitution (ch : Fin 1024) (t : Nat) (s : State) : Host.Outcome State Fault Refusal :=
  answer (doSamplerSubstitution ch t s)

/-! ## I²C (R180, R181) -/

/-- The same field of bus `n`'s registers. -/
def Field.bus (f : Field) (n : Nat) : Field := f.bytes (0x30 * n)

/-- The bytes read, four to a register, byte 4j lowest. -/
def State.putRead (s : State) (bus : Nat) (data : List Byte) : State :=
  (List.range 4).foldl (fun s j => if 4 * j < data.length then
    s.setF ((F.RXC_I2C_RD.DATA.bus bus).idx j) (ofLe ((data.drop (4 * j)).take 4)) else s) s

/-- A transaction ends: 2 complete; 3, 4, 5 and 7 are errors. -/
def State.endI2c (s : State) (bus result done : Nat) (data : List Byte) : State :=
  let s := (s.setF (F.RXC_I2C_CMD.GO.bus bus) 0).setF (F.RXC_I2C_STAT.RESULT.bus bus) result
  let s := (s.setSat (F.RXC_I2C_STAT.DONE.bus bus) done).putRead bus data
  s.raiseEvt 13 (if result = 2 then 6 else 7)

/-- R180: a running transaction ends with a result of the register's code. -/
def doI2cTransactionComplete (bus : Fin 4) (result done : Nat) (data : List Byte) (t : Nat) (s : State) : State :=
  let s := s.at t
  if s.on 8 && s.flag (F.RXC_I2C_CMD.GO.bus bus) && (result = 2 || result = 3 || result = 4 || result = 7) then
    s.endI2c bus result done (data.take (s.getF (F.RXC_I2C_CMD.RLEN.bus bus)))
  else s

def execI2cTransactionComplete (bus : Fin 4) (result done : Nat) (data : List Byte) (t : Nat) (s : State) :
    Host.Outcome State Fault Refusal := answer (doI2cTransactionComplete bus result done data t s)

/-- R180: the target has stretched the clock for more than 1 ms. -/
def doI2cStretchTimeout (bus : Fin 4) (done t : Nat) (s : State) : State :=
  let s := s.at t
  if s.on 8 && s.flag (F.RXC_I2C_CMD.GO.bus bus) then s.endI2c bus 5 done [] else s

def execI2cStretchTimeout (bus : Fin 4) (done t : Nat) (s : State) : Host.Outcome State Fault Refusal :=
  answer (doI2cStretchTimeout bus done t s)

/-- R181: an APPLY is due, from a commit that applied or for the coming boundary, at which the armed one applies. -/
def State.applyPending (s : State) : Bool :=
  s.rxc.applyDue || (s.frames && s.commitDue ((s.frameNo + 1) % 2 ^ 32) && !s.rxc.applySent
    && s.pendF F.RXC_I2C_CFG.APPLY_SEQ != s.getF F.RXC_I2C_CFG.APPLY_SEQ)

/-- R181: APPLY goes out on every bus that takes part. -/
def doI2cApply (ack t : Nat) (s : State) : State :=
  let s := s.at t
  if s.on 8 && s.applyPending then
    let en := if s.rxc.applyDue then s.getF F.RXC_I2C_CFG.APPLY_EN else s.pendF F.RXC_I2C_CFG.APPLY_EN
    let good := en &&& ack
    let bad := en - good
    let s := { s with rxc := { s.rxc with applySent := !s.rxc.applyDue, applyDue := false },
                      tp := { s.tp with out := (onesOf 4 en).map (fun b => Out.i2c b [0x0F, 0xA7]) ++ s.tp.out } }
    let s := (s.setF F.RXC_I2C_APPLY.ACK good).setF F.RXC_I2C_APPLY.NACK bad
    if bad = 0 then s else (s.raiseEvt 13 8).recErr 13 0x81 0
  else s

def execI2cApply (ack t : Nat) (s : State) : Host.Outcome State Fault Refusal := answer (doI2cApply ack t s)

/-! ## At a frame boundary -/

/-- Rate r[L] after a frame with dark time `d` ns (R179). A zero D with DARK_MIN 0 gives the open value `open_`. -/
def nextRate (first : Bool) (n d avg r open_ : Nat) : Nat :=
  let m := if d = 0 then open_ % 2 ^ 24 else n * 256 * 1000 / d
  if first then m else (((r : Int) + ((m : Int) - r) / ((2 ^ avg : Nat) : Int))).toNat

/-- The estimate A of a channel from its rates and the weights in force (R179, R193). -/
def State.ambientOf (s : State) (c : Nat) (rates : List (Nat × Nat)) : Nat :=
  ((List.range 16).foldl (fun a l => a + s.weight s.epoch l * countAt (c * 16 + l) rates) 0) / 16

/-- The rates of a channel from its counts in the dark time `d` of a frame (R179). -/
def State.rateUpdate (s : State) (d c : Nat) : State :=
  if s.getF F.RXC_CTL.DARK_MIN * 1000 ≤ d then
    let first := !s.rxc.updated.contains c
    let rates := (List.range 15).foldl (fun r i =>
      let l := i + 1
      tabSet (c * 16 + l) (nextRate first (countAt (c * 16 + l) s.rxc.dark) d (s.getF F.RXC_CTL.AVG)
        (countAt (c * 16 + l) r) s.freeNat) r) s.rxc.rates
    { s with rxc := { s.rxc with rates := rates, updated := if first then c :: s.rxc.updated else s.rxc.updated } }.setF
      (chanFlag c 2) 0
  else s.setF (chanFlag c 2) 1

/-- What the entry of a channel shows of its rates, and A with the weights in force. -/
def State.showAmbient (s : State) (c : Nat) : State :=
  let hi := ((List.range 13).map (fun i => countAt (c * 16 + 3 + i) s.rxc.rates)).sum
  let s := (s.setSat (chanF c 32 0 24) (s.ambientOf c s.rxc.rates)).setSat (chanF c 36 0 24) (countAt (c * 16 + 1) s.rxc.rates)
  (s.setSat (chanF c 40 0 24) (countAt (c * 16 + 2) s.rxc.rates)).setSat (chanF c 44 0 24) hi

/-- R179 for one channel; without a frame that ended its rates stay. -/
def State.ambientUpdate (s : State) (ended : Bool) (d c : Nat) : State :=
  if !s.flag (chanEn c) then s else (if ended then s.rateUpdate d c else s).showAmbient c

/-- A sampler's staged table becomes active (R169). -/
def State.activateSampler (s : State) (n : Nat) : State :=
  let l := s.tapLine n
  match l.staged with
  | some ws =>
    let i := n - 16
    let s := s.setTapLine n { l with widths := ws, staged := none }
    let g := F.RXC_SMP_TBL.GEN.inst i
    let s := s.setF (F.RXC_SMP_TBL.STAGED.inst i) 0
    (s.setF g (s.getF g + 1)).raiseEvt 13 3
  | none => s

/-- RXC at a frame boundary, after any commit: maps that found no gap in two frames (R171), staged tables (R169), and the ambient
estimates (R179). -/
def State.rxcBoundary (s : State) (ended : Bool) : State :=
  let lines := (s.etd.lines.map (·.1)).filter (fun n => decide (16 ≤ n))
  let s := lines.foldl (fun s n => s.applyMapDue (fun _ req => s.overdueChange req) n) s
  let s := lines.foldl State.activateSampler s
  let d := s.getF F.RXC_DARK.NS
  let s := (List.range 1024).foldl (fun s c => s.ambientUpdate ended d c) s
  let held := (List.range 1024).any (fun c => s.flag (chanEn c) && s.flag (chanFlag c 2))
  let s := if ended && held then s.raiseEvt 13 9 else s
  { s with free := s.free + 1, rxc := { s.rxc with dark := [], darkNs := 0, darkFrom := s.now, applySent := false } }

end Sys2Proof.Machine
end

