-- ==== Sys2Proof/Machine/Grinder.lean ====
section
/-! DEFINITION. Histogram engines and Carafe (chapter 09): slots, the arithmetic from event to bin, the baseline, the candidate
search, closing, tiles and their spares. Times of events are in LSB, 128 to the ns. -/

namespace Sys2Proof.Machine

/-! ## Slots and tiles (R185 to R188, R202) -/

/-- The physical tile behind logical tile `i` of engine `e`; 15 when unmapped. -/
def State.tileOf (s : State) (e i : Nat) : Nat := fieldOf (4 * i) 4 (s.getF (F.GRN_ENG_TMAP.MAP.inst e))

/-- No slot of the logical tile may be allocated: draining, failed or unmapped. -/
def State.tileOut (s : State) (e i : Nat) : Bool :=
  let p := s.tileOf e i
  p = 15 || s.bitF (F.GRN_ENG_TSTAT.DRAIN.inst e) p || s.bitF (F.GRN_ENG_TSTAT.FAILED.inst e) p

/-- The state of a slot as the slot table shows it (R187, R205). -/
def State.slotState (s : State) (n : Nat) : Nat :=
  match tabFind n s.grn.slots with
  | some m => m.state
  | none =>
    let owner := if n % 2 = 1 then (tabFind (n - 1) s.grn.slots).filter (·.two) else none
    match owner with
    | some m => m.state
    | none => if s.tileOut (n / 512) (n % 512 / 64) then 6 else 0

/-- Slots of an engine in `FREE`. -/
def State.freeSlots (s : State) (e : Nat) : List Nat :=
  ((List.range 512).map (fun i => e * 512 + i)).filter (fun n => s.slotState n = 0)

/-- The lowest-numbered free slot of an engine, or even pair of one tile (R186). -/
def State.findSlot (s : State) (e : Nat) (two : Bool) : Option Nat :=
  let free := s.freeSlots e
  if two then free.find? (fun n => n % 2 = 0 && free.contains (n + 1)) else free.head?

/-- The instant from which measurements that are still to be extracted need what was known at their pulses. -/
def State.oldestMeas (s : State) : Nat := ((s.grn.slots.filter (fun e => decide (e.2.state ≤ 3))).map (·.2.openedAt)).foldl min s.now

/-- Slots in `FREE` over the whole unit. -/
def State.freeTotal (s : State) : Nat := ((List.range 8).map (fun e => (s.freeSlots e).length)).sum

/-- Open the measurements of one line of a train: its eight channels in ascending order (R186). -/
def State.openLine (s : State) (tr : Train) (x : TrainLine) : State :=
  (List.range 8).foldl (fun s i =>
    let c := 8 * x.line + i
    match s.findSlot (c / 128) tr.two with
    | none => s
    | some n =>
      let noSmp := (s.samplerOf c).isNone
      let m : Meas := {
        state := 1, two := tr.two, hist := tr.hist && s.histWanted c tr.cls tr.frame, est := false, absent := false, nocand := false, late := false,
        chFault := noSmp, tileFault := false, zoomFault := false, lost := false, chan := c, cls := tr.cls, frame := tr.frame,
        epoch := tr.epoch, train := tr.ord, pulses := tr.pulses, used := 0, zfrom := 0x3F, group := tr.group, pass := tr.pass,
        step := tr.step, pos := tr.pos, lineSlot := x.slot, emitter := s.emitterOf x.line, openedAt := s.now, closedAt := 0, lostCnt := 0,
        base := 0, cands := [], hits := [], zpulses := 0, bins := [], zoom := [], pulseInfo := [],
        start := s.getF F.GRN_START.OFS * 16, amb := s.getF (chanF c 32 0 24),
        rAll := s.getF (chanF c 36 0 24) + s.getF (chanF c 40 0 24) + s.getF (chanF c 44 0 24),
        tilt := signed 16 (s.progLe (s.getF F.SCH_BANK.SEL) (0x100 + 16 * tr.pass + 2) 2), searched := none, waiting := [] }
      let s := ((s.setMeas n m).frameCount tr.frame 0 1).frameCount tr.frame 1 (if noSmp then 1 else 0)
      if noSmp then s.raiseEvt 14 6 else s) s

/-! ## The train descriptor (R189, R191) -/

/-- The window length in ns. -/
def Meas.win (m : Meas) : Nat := if m.two then 4096 else 2048
/-- Window of a pulse in LSB: from E + S, for WIN. -/
def Meas.opens (m : Meas) (r : PulseResult) : Int := r.instant + (m.start * 128 : Nat)

/-- Contributing pulses among the first `n` (R191, R195). -/
def Meas.contributing (m : Meas) (n : Nat) : Nat := (m.pulseInfo.filter (fun r => r.status ≠ 2 && decide (r.k < n))).length

/-- Pulses of pass one (R195). -/
def State.passOne (s : State) (m : Meas) : Nat := min (s.getAt m.epoch F.GRN_ZOOM.PASS1) (m.pulses - 4)

/-- The descriptors of the first `n` pulses have arrived. -/
def Meas.knows (m : Meas) (n : Nat) : Bool := (List.range n).all (fun k => m.pulseInfo.any (fun r => r.k = k))

/-- The first zoom pulse known so far (R196): the first pulse k ≥ P whose window opens at or after the end of the search. -/
def State.zoomFrom (s : State) (m : Meas) : Meas :=
  match m.searched with
  | some t =>
    if m.state = 2 && m.zfrom = 0x3F then
      match m.pulseInfo.find? (fun r => m.knows r.k && decide (s.passOne m ≤ r.k) && decide (((t * 128 : Nat) : Int) ≤ m.opens r)) with
      | some r => { m with zfrom := r.k, late := r.k ≠ s.passOne m }
      | none => m
    else m
  | none => m

/-- USED and ZPULSES of the pulses known so far (R191, R197). -/
def Meas.counted (m : Meas) : Meas :=
  { m with used := m.contributing m.pulses,
           zpulses := (m.pulseInfo.filter (fun r => r.status ≠ 2 && decide (m.zfrom ≤ r.k))).length }

/-- What the descriptors of some pulses change in a measurement. -/
def State.describe (s : State) (m : Meas) (rs : List PulseResult) : Meas :=
  (s.zoomFrom { m with pulseInfo := sortBy (fun (a b : PulseResult) => decide (a.k < b.k)) (m.pulseInfo ++ rs),
                       est := m.est || rs.any (·.status = 1), absent := m.absent || rs.any (·.status = 2) }).counted

/-! ## From event to bin (R190 to R192) -/

def sat16 (v : Nat) : Nat := min v 0xFFFF

/-- Add to a counter of a sparse table. -/
def addBin (k w : Nat) (l : List (Nat × Nat)) : List (Nat × Nat) := tabSet k (sat16 (countAt k l + w)) l

/-- The pulse whose window holds event time `t`: the highest index wins an overlap. -/
def Meas.pulseAt (m : Meas) (t : Int) : Option PulseResult :=
  (m.pulseInfo.filter (fun r => decide (m.opens r ≤ t) && decide (t < m.opens r + (m.win * 128 : Nat)))).foldl
    (fun best r => match best with
      | some b => if b.k < r.k then some r else best
      | none => some r) none

/-- Zoom additions of an event at `tau` LSB of pulse `k`. -/
def Meas.zoomAdd (m : Meas) (k : Nat) (tau : Int) (w : Nat) : Meas :=
  if m.zfrom = 0x3F || k < m.zfrom then m
  else (List.range m.cands.length).foldl (fun m i =>
    let z := tau - ((nth 0 m.cands i * 64 : Nat) : Int) + 224
    if 0 ≤ z ∧ z < 512 then
      { m with zoom := addBin (i * 64 + z.toNat / 8) w m.zoom,
               hits := if m.hits.contains (i * 64 + k) then m.hits else m.hits ++ [i * 64 + k] }
    else m) m

/-- The descriptors that decide where an event belongs have arrived (R190): those up to a pulse whose window opens after it, or all. -/
def Meas.decided (m : Meas) (t : Int) : Bool :=
  m.knows m.pulses || m.pulseInfo.any (fun r => decide (t < m.opens r) && m.knows r.k)

/-- An event is placed in its measurement, once decided. -/
def State.placeEvent (s : State) (slot : Nat) (m : Meas) (e : Event) : State :=
  match m.pulseAt e.time with
  | none => s.frameCount m.frame 4 1
  | some r =>
    if r.status = 2 then s.frameCount m.frame 3 1
    else
      let tau := e.time - m.opens r
      let w := s.weight m.epoch e.level
      let m := { m with bins := addBin (tau.toNat / 64) w m.bins }
      s.setMeas slot (m.zoomAdd r.k tau w)

/-- An accepted event meets its measurement; where that has closed, the event has come too late for any window. -/
def State.binEvent (s : State) (e : Event) : State :=
  match s.measOf e with
  | none => s.frameCount e.frame 4 (if s.grn.perFrame.any (fun x => x.1 / 8 = e.frame) then 1 else 0)
  | some (slot, m) =>
    if m.chFault || m.tileFault then s
    else if m.decided e.time then s.placeEvent slot m e
    else s.setMeas slot { m with waiting := m.waiting ++ [e] }

/-- The events that a measurement holds are tried again. -/
def State.binWaiting (s : State) (slot : Nat) : State :=
  match tabFind slot s.grn.slots with
  | some m => m.waiting.foldl State.binEvent (s.setMeas slot { m with waiting := [] })
  | none => s

/-- R189, R190: the results of a line's pulses reach its eight measurements, and the events that waited for them. -/
def doTrainDescriptor (frame train : Nat) (line : Fin 128) (s : State) : State :=
  let mine := (s.etd.results.filter (fun r => r.1 = (frame, train, line.val))).map (·.2)
  if mine.isEmpty then s
  else
    let s := { s with etd := { s.etd with results := s.etd.results.filter (fun r => r.1 ≠ (frame, train, line.val)) } }
    (s.grn.slots.filter (fun e => e.2.chan / 8 = line.val && e.2.frame = frame && e.2.train = train && e.2.open_)).foldl
      (fun s e => (s.setMeas e.1 (s.describe e.2 mine)).binWaiting e.1) s

def execTrainDescriptor (frame train : Nat) (line : Fin 128) (s : State) : Host.Outcome State Fault Refusal :=
  answer (doTrainDescriptor frame train line s)

/-- The update bucket of an engine at instant `t`: 163,840 deep, 8 updates a ns (R199). -/
def State.bucketAt (s : State) (e t : Nat) : Nat :=
  match tabFind e s.grn.bucket with
  | some (level, at_) => min 163840 (level + 8 * (t - at_))
  | none => 163840

/-- Count an accepted update; a bucket that it empties raises its event and counts a ns empty (log entry 29). -/
def State.takeUpdate (s : State) (e : Nat) : State :=
  let left := s.bucketAt e s.now - 1
  let times := s.now :: ((tabFind e s.grn.recent).getD []).filter (fun x => decide (s.now < x + 10000))
  let counts := addCount (e * 4) 1 s.grn.counts
  let counts := tabSet (e * 4 + 3) (max (countAt (e * 4 + 3) counts) (times.length / 10)) counts
  let counts := if left = 0 then addCount (e * 4 + 2) 1 counts else counts
  let s := { s with grn := { s.grn with bucket := tabSet e (left, s.now) s.grn.bucket, counts := counts,
                                        recent := tabSet e times s.grn.recent } }
  if left = 0 then s.raiseEvt 14 4 else s

/-- The next event that the arbiter takes from a group's holding stages: round-robin from the channel after the last (R176). -/
def State.arbiterPick (s : State) (g : Nat) : Option Event :=
  let mine := s.rxc.held.filter (fun h => h.ch / 64 = g)
  let last := countAt g s.rxc.served
  match mine.filter (fun h => decide (last < h.ch)) with
  | [] => mine.foldl (fun b h => match b with | some x => if h.ch < x.ch then some h else b | none => some h) none
  | l => l.foldl (fun b h => match b with | some x => if h.ch < x.ch then some h else b | none => some h) none

/-- A place in a group queue is filled from the holding stages. -/
def State.refillQueue (s : State) (g : Nat) : State :=
  match s.arbiterPick g with
  | some h => { s with rxc := { s.rxc with held := s.rxc.held.erase h, served := tabSet g h.ch s.rxc.served,
                                           queues := tabSet g (s.queueOf g ++ [h]) s.rxc.queues } }
  | none => s

/-- Updates that an engine has accepted in the present ns: 16 are the most (R199). -/
def State.updatesNow (s : State) (e : Nat) : Nat := (((tabFind e s.grn.recent).getD []).filter (· = s.now)).length

/-- Single-bit errors that an update has corrected (R33, R201). -/
def State.countCorrected (s : State) (e n : Nat) : State :=
  if n = 0 then s
  else State.recErr { s with grn := { s.grn with counts := addCount (e * 4 + 1) n s.grn.counts } } 14 0x02 0

/-- R190, R199: the oldest event of a group's queue is accepted while the bucket holds updates. -/
def doHistogramUpdate (group : Fin 16) (corrected t : Nat) (s : State) : State :=
  let s := s.at t
  let g := group.val
  let e := g / 2
  match s.queueOf g with
  | [] => s
  | ev :: rest =>
    if s.bucketAt e s.now = 0 || 16 ≤ s.updatesNow e || !s.on (12 + e) then s
    else
      let s := { s with rxc := { s.rxc with queues := tabSet g rest s.rxc.queues } }
      (((s.refillQueue g).takeUpdate e).countCorrected e corrected).binEvent ev

def execHistogramUpdate (update : GroupUpdate) (t : Nat) (s : State) : Host.Outcome State Fault Refusal :=
  answer (doHistogramUpdate update.group update.corrected t s)

/-! ## Baseline and candidates (R194 to R196) -/

/-- BASE for `n` contributing pulses, in 1/256 weight. -/
def State.baseline (s : State) (m : Meas) (n : Nat) : Nat :=
  if s.getAt m.epoch F.GRN_CTL.AMB_SUB = 0 then 0 else sat16 ((m.amb * n + 1000) / 2000)

/-- Coarse bins of a measurement. -/
def Meas.nbins (m : Meas) : Nat := if m.two then 8192 else 4096
def Meas.bin (m : Meas) (i : Nat) : Nat := countAt i m.bins
/-- The three-bin sum around bin `i`; a bin outside the histogram counts 0 (log entry 30). -/
def Meas.sum3 (m : Meas) (i : Nat) : Nat := (if i = 0 then 0 else m.bin (i - 1)) + m.bin i + (if i + 1 < m.nbins then m.bin (i + 1) else 0)

/-- Insert into a list in falling order of score, equal scores keeping the earlier first. -/
def insertScore (x : Int × Nat) : List (Int × Nat) → List (Int × Nat)
  | [] => [x]
  | y :: t => if y.1 < x.1 then x :: y :: t else y :: insertScore x t

/-- The candidate search on the bins accumulated so far: at most four, highest score first. -/
def Meas.search (m : Meas) (b1 thr : Nat) : List Nat :=
  let score := fun i => ((16 * m.sum3 i : Nat) : Int) - (3 * b1 : Nat)
  let found := (List.range (m.nbins - 2)).filterMap (fun j =>
    let i := j + 1
    if m.sum3 (i - 1) < m.sum3 i && decide (m.sum3 (i + 1) ≤ m.sum3 i) && decide (((16 * thr : Nat) : Int) ≤ score i) then
      some (score i, i)
    else none)
  ((found.foldl (fun l x => insertScore x l) []).take 4).map (·.2)

/-- The windows of the first `n` pulses have passed at instant `t`. -/
def Meas.passed (m : Meas) (n t : Nat) : Bool :=
  (List.range n).all (fun k => m.pulseInfo.any (fun r => r.k = k
    && decide (m.opens r + ((m.win * 128 : Nat) : Int) ≤ ((t * 128 : Nat) : Int))))

/-- The events that wait for a descriptor count in the search: those of the first `p` pulses by the windows known (R190, R195). -/
def State.withWaiting (s : State) (m : Meas) (p : Nat) : Meas :=
  m.waiting.foldl (fun m e => match m.pulseAt e.time with
    | some r => if r.status ≠ 2 && decide (r.k < p) then
        { m with bins := addBin ((e.time - m.opens r).toNat / 64) (s.weight m.epoch e.level) m.bins } else m
    | none => m) m

/-- R195, R196: the search ends at `t`. -/
def doCandidateSearch (slot : Fin 4096) (t : Nat) (s : State) : State :=
  let s := s.at t
  match tabFind slot.val s.grn.slots with
  | some m =>
    let p := s.passOne m
    if m.state = 1 && m.searched.isNone && m.passed p s.now then
      let cands := (s.withWaiting m p).search (s.baseline m (m.contributing p)) (s.getAt m.epoch F.GRN_ZOOM.THR)
      let zoom := !cands.isEmpty && s.getAt m.epoch F.GRN_ZOOM.EN != 0
      let m := { m with cands := cands, nocand := cands.isEmpty, searched := some s.now, state := if zoom then 2 else 1 }
      let m := (s.zoomFrom m).counted
      let s := s.setMeas slot m
      if m.nocand then s.frameCount m.frame 2 1 else s
    else s
  | none => s

def execCandidateSearch (slot : Fin 4096) (t : Nat) (s : State) : Host.Outcome State Fault Refusal :=
  answer (doCandidateSearch slot t s)

/-- Measurements waiting in `CLOSED`. -/
def State.backlog (s : State) : Nat := (s.grn.slots.filter (fun e => e.2.state = 3)).length

/-- The measurements that wait as one of frame `f` closes (R232). -/
def State.noteBacklog (s : State) (f : Nat) : State :=
  let n := s.backlog
  let s := { s with crm := { s.crm with peak := tabSet f (max n (countAt f s.crm.peak)) s.crm.peak } }
  if 2048 < n then s.raiseEvt 15 0 else s

/-- R187, R194, R197: the window of the last pulse has passed: the measurement is `CLOSED`, its baseline attached. -/
def doMeasurementClose (slot : Fin 4096) (t : Nat) (s : State) : State :=
  let s := s.at t
  match tabFind slot.val s.grn.slots with
  | some m =>
    if m.open_ && m.passed m.pulses s.now then
      let s := s.setMeas slot { m with state := 3, closedAt := s.now, base := s.baseline m m.used }
      let s := s.frameCount m.frame 6 (if m.late then 1 else 0)
      (s.publishFrame m.frame).noteBacklog m.frame
    else s
  | none => s

def execMeasurementClose (slot : Fin 4096) (t : Nat) (s : State) : Host.Outcome State Fault Refusal :=
  answer (doMeasurementClose slot t s)

/-- R187: a clearing slot is zeroed: `FREE`, or `UNAVAIL` in a draining or failed tile. -/
def doSlotCleared (slot : Fin 4096) (t : Nat) (s : State) : State :=
  let s := s.at t
  match tabFind slot.val s.grn.slots with
  | some m => if m.state = 5 then { s with grn := { s.grn with slots := tabDel slot.val s.grn.slots } } else s
  | none => s

def execSlotCleared (slot : Fin 4096) (t : Nat) (s : State) : Host.Outcome State Fault Refusal := answer (doSlotCleared slot t s)

/-! ## Tiles (R201 to R204) -/

/-- Engine `e` has its spare tile to give. -/
def State.spareTile (s : State) (e : Nat) : Bool :=
  !(List.range 8).any (fun i => s.tileOf e i = 8) && !s.bitF (F.GRN_ENG_TSTAT.FAILED.inst e) 8

/-- A drain begins (R202). -/
def State.beginDrain (s : State) (e p : Nat) : State := (s.setBit (F.GRN_ENG_TSTAT.DRAIN.inst e) p true).raiseEvt 14 0

/-- The logical tile has no slot in use. -/
def State.tileEmpty (s : State) (e i : Nat) : Bool :=
  (List.range 64).all (fun k => s.slotState (e * 512 + i * 64 + k) = 6)

/-- Logical tile `i` of an engine gets the spare in place of its physical tile, or stays unmapped (R202, R204); a worn tile that finds no spare
stays in service (R353). -/
def State.remapTile (s : State) (e i : Nat) : State :=
  let p := s.tileOf e i
  let map := F.GRN_ENG_TMAP.MAP.inst e
  let spare := s.spareTile e
  let failed := s.bitF (F.GRN_ENG_TSTAT.FAILED.inst e) p
  let s := s.setBit (F.GRN_ENG_TSTAT.DRAIN.inst e) p false
  if !spare && !failed then s.staysWorn 3
  else
  let s := s.setBit (F.GRN_ENG_TSTAT.FAILED.inst e) p true
  if spare then
    let s := s.setF map (withField (4 * i) 4 (s.getF map) 8)
    let first := !s.bitF (H.SPARE_MAP 14) e
    let s := (s.setBit (H.SPARE_MAP 14) e true).bump (H.SPARE_USED 14) (if first then 1 else 0)
    let s := s.setF (H.SPARE_LEFT 14) (s.getF (H.SPARE_LEFT 14) - (if first then 1 else 0))
    (((s.raiseEvt 14 1).spareTaken 14).raiseEvt 14 5).poolTrigger 14 0x40
  else
    let s := s.setF map (withField (4 * i) 4 (s.getF map) 15)
    (((s.setBit (H.SPARE_MAP 14) (8 + e) true).raiseEvt 14 29).recordDue).poolTrigger 14 0x41

/-- R202: the tile has drained. -/
def doTileRemap (engine : Fin 8) (tile : Fin 8) (t : Nat) (s : State) : State :=
  let s := s.at t
  let e := engine.val
  let p := s.tileOf e tile
  if s.on (12 + e) && p ≠ 15 && s.bitF (F.GRN_ENG_TSTAT.DRAIN.inst e) p && s.tileEmpty e tile then s.remapTile e tile else s

/-- An engine comes out of a reset (R188): the reset has emptied its tiles, so one that had failed before it could be remapped is
remapped now. -/
def State.releaseEngine (s : State) (e : Nat) : State :=
  let s := s.setF (F.GRN_ENG_TSTAT.DRAIN.inst e) 0
  (List.range 8).foldl (fun s i =>
    let p := s.tileOf e i
    if p ≠ 15 && s.bitF (F.GRN_ENG_TSTAT.FAILED.inst e) p then
      if s.tileEmpty e i then s.remapTile e i else s.setBit (F.GRN_ENG_TSTAT.DRAIN.inst e) p true
    else s) s

def execTileRemap (engine : Fin 8) (tile : Fin 8) (t : Nat) (s : State) : Host.Outcome State Fault Refusal :=
  answer (doTileRemap engine tile t s)

/-- A slot of logical tile `i` of an engine that holds a measurement. -/
def inTile (e i : Nat) (x : Nat × Meas) : Bool := x.1 / 512 = e && x.1 % 512 / 64 = i && x.2.state ≠ 5

/-- The measurements of a logical tile that the tile's failure takes (R203). -/
def State.faultTile (s : State) (e i : Nat) : State :=
  let hit := fun (x : Nat × Meas) => inTile e i x && !x.2.tileFault
  let bad := s.grn.slots.filter hit
  let s := { s with grn := { s.grn with slots := s.grn.slots.map (fun x => if hit x then (x.1, { x.2 with tileFault := true }) else x) } }
  let s := bad.foldl (fun s x => s.frameCount x.2.frame 1 (if x.2.chFault then 0 else 1)) s
  if bad.isEmpty then s else s.raiseEvt 14 6

/-- R203: an uncorrectable error in a Carafe tile, or in the zoom share of a slot. -/
def doCarafeUncorrectable (slot : Fin 4096) (zoom : Bool) (t : Nat) (s : State) : State :=
  let s := s.at t
  let e := slot.val / 512
  let i := slot.val % 512 / 64
  let p := s.tileOf e i
  if !s.on (12 + e) || !s.on 12 then s
  else
    let s := s.bump (F.GRN_ENG_ERR.UNCORR.inst e) 1
    if zoom then
      let s := match tabFind slot.val s.grn.slots with
        | some m => if m.state = 5 then s else s.setMeas slot { m with zoomFault := true, zoom := [] }
        | none => s
      (s.raiseEvt 14 3).recErr 14 0x01 (0x700000 + slot.val * 32)
    else if p = 15 then s.raiseEvt 14 2
    else
      let first := ((s.grn.slots.filter (inTile e i)).map (·.1)).head?
      let s := (s.setBit (F.GRN_ENG_TSTAT.FAILED.inst e) p true).raiseEvt 14 2
      let s := (s.faultTile e i).recErr 14 0x81 (0x700000 + (first.getD slot.val) * 32)
      let s := s.beginDrain e p
      if s.spareTile e then s else s.poolTrigger 14 0x41

def execCarafeUncorrectable (slot : Fin 4096) (zoom : Bool) (t : Nat) (s : State) : Host.Outcome State Fault Refusal :=
  answer (doCarafeUncorrectable slot zoom t s)

/-! ## At a frame boundary -/

/-- GRN at a frame boundary: the P0 reserve in force, and the epochs that open measurements still need. -/
def State.grnBoundary (s : State) (p0Slots : Nat) : State :=
  let s := s.setF F.GRN_P0_RES.RES (min p0Slots 256)
  let used := fun (e : Nat × List (Nat × Word)) =>
    s.grn.slots.any (fun x => x.2.epoch = e.1) || s.sch.past.any (fun f => f.epoch = e.1) || s.sch.trains.any (fun tr => tr.epoch = e.1)
      || s.etd.starts.any (fun p => p.epoch = e.1)
  { s with grn := { s.grn with eras := s.grn.eras.filter used } }

end Sys2Proof.Machine
end

