-- ==== Sys2Proof/Machine/Protective.lean ====
section
/-! DEFINITION. Protective field and safety outputs (chapter 11): the safety image, both channels' judgement of rays, evaluation
instants, the outputs, lock-out and its clearing. -/

namespace Sys2Proof.Machine

/-! ## The safety image (R234) -/

/-- `n` bytes of an image at an offset, little-endian. -/
def imgLe (img : List Byte) (off n : Nat) : Nat := ofLe ((img.drop off).take n)

def imgTd (i : List Byte) : Nat := imgLe i 0x30 2
def imgN (i : List Byte) : Nat := imgLe i 0x32 1
def imgOnFrames (i : List Byte) : Nat := imgLe i 0x33 1
def imgRestartIl (i : List Byte) : Bool := (imgLe i 0x34 1).testBit 0
def imgZoneMap (i : List Byte) : Bool := (imgLe i 0x34 1).testBit 1
def imgInitSet (i : List Byte) : Nat := imgLe i 0x35 1 % 8
def imgNsect (i : List Byte) : Nat := imgLe i 0x100 2
def imgNray (i : List Byte) : Nat := imgLe i 0x104 4
/-- Field `f` of set `set` is protective. -/
def imgProtective (i : List Byte) (set f : Nat) : Bool := (imgLe i 0x40 4).testBit (4 * set + f)
/-- The gate interval of a sector in a field. -/
def imgField (i : List Byte) (set f k : Nat) : Nat × Nat :=
  let off := 0x200 + 8 * imgNray i + 4 * ((set * 4 + f) * imgNsect i + k)
  (imgLe i off 2, imgLe i (off + 2) 2)
/-- Ray entry `n`: its key and sector. -/
def imgRay (i : List Byte) (n : Nat) : RayKey × Nat :=
  let o := 0x200 + 8 * n
  let b := imgLe i (o + 4) 1
  ({ pass := imgLe i o 1, step := imgLe i (o + 1) 2, pos := imgLe i (o + 3) 1, slot := b % 8, off := b / 8 % 8 }, imgLe i (o + 6) 2)
/-- The sector of a ray. -/
def imgSector (i : List Byte) (r : RayKey) : Option Nat :=
  ((List.range (imgNray i)).find? (fun n => (imgRay i n).1 = r)).map (fun n => (imgRay i n).2)

def RayKey.order (r : RayKey) : Nat := (((r.pass * 65536 + r.step) * 256 + r.pos) * 8 + r.slot) * 8 + r.off

/-- Every byte of a range is 0. -/
def zeroBytes (i : List Byte) (off n : Nat) : Bool := ((i.drop off).take n).all (· = 0)

/-- Checks of R235 but for the signature. -/
def imageFormed (i : List Byte) : Bool :=
  let ns := imgNsect i
  let nr := imgNray i
  imgLe i 0 4 = 0x46534B49 && imgLe i 4 2 = 1 && decide (imgLe i 6 1 ≤ 1) && zeroBytes i 7 1 && imgLe i 8 4 = i.length
    && decide (i.length ≤ 2 ^ 20) && imgLe i 0xC 4 != 0 && between 10 1000 (imgTd i) && between 1 4 (imgN i)
    && between 1 15 (imgOnFrames i) && decide (imgLe i 0x34 1 < 4) && decide (imgLe i 0x35 1 < 8)
    && between 100 400 (imgLe i 0x36 2) && between 10 50 (imgLe i 0x38 1) && between 1 32 (imgLe i 0x39 1)
    && between 1 15 (imgLe i 0x3A 1) && between 4 32 (imgLe i 0x3B 1) && between 1 32 (imgLe i 0x3C 1) && zeroBytes i 0x3E 2
    && (List.range 8).all (fun s => imgProtective i s 0) && between 1 1024 ns && zeroBytes i 0x102 2 && between 1 65536 nr
    && zeroBytes i 0x108 0xF8 && i.length = 0x200 + 8 * nr + 128 * ns + 64
    && (List.range nr).all (fun n => decide (imgLe i (0x200 + 8 * n + 4) 1 < 64) && zeroBytes i (0x200 + 8 * n + 5) 1
        && decide ((imgRay i n).2 < ns) && (n = 0 || decide ((imgRay i (n - 1)).1.order < (imgRay i n).1.order)))
    && (List.range (32 * ns)).all (fun n =>
        let o := 0x200 + 8 * nr + 4 * n
        imgLe i (o + 2) 2 = 0 || (decide (imgLe i o 2 < imgLe i (o + 2) 2) && decide (imgLe i (o + 2) 2 ≤ 2048)))

/-- A channel accepts its copy (R235): form, and the signature under the unrevoked key that KEY names (R76, R384). -/
def State.imageAccepted (s : State) (i : List Byte) : Bool :=
  imageFormed i && s.safetyKeyGood (imgLe i 6 1) && Config.ecdsaVerifies (s.safetyKeyHash (imgLe i 6 1)) (i.take (i.length - 64)) (i.drop (i.length - 64))

/-! ## Outputs (R244, R245) -/

/-- Drop both permits: each channel turns off its own output and, by the cross-off path, the other (R244). -/
def State.dropPermits (s : State) : State :=
  ((s.setF F.SFA_OSSD.PERMIT_A 0).setF F.SFA_OSSD.PERMIT_B 0).outputsOff true

/-- The conditions of R245 other than the interlock, no permit having been dropped since (R244; log entry 67). -/
def State.outputsReady (s : State) : Bool :=
  match s.saf.activeA, s.saf.activeB with
  | some i, some _ => s.emitting && s.gradeS && decide (imgOnFrames i ≤ s.saf.clearRun) && s.flag F.SFA_OSSD.PERMIT_A && s.flag F.SFA_OSSD.PERMIT_B
  | _, _ => false

/-- The outputs turn on together when the conditions are complete. -/
def State.outputsOnIf (s : State) : State :=
  if s.outputsReady && !s.flag F.SFA_OSSD.IL_WAIT && !s.saf.outputsOn then
    ({ s with saf := { s.saf with outputsOn := true, turnedAt := s.now, pulseA := none, pulseB := none, fb := none } }).safetyEvt 1
  else s

/-- Entry to `RUN` sets the restart interlock, under which the outputs stay off (R253). -/
def State.armRestart (s : State) : State :=
  if s.flag F.SFA_CFG.RESTART_IL then (s.outputsOff false).setF F.SFA_OSSD.IL_WAIT 1 else s

/-! ## Ray results (R239 to R244) -/

/-- The active image of channel A while both channels hold one. -/
def State.image (s : State) : Option (List Byte) := if s.saf.activeB.isSome then s.saf.activeA else none
/-- Channel B's own copy (R241), while both hold one. -/
def State.imageB (s : State) : Option (List Byte) := if s.saf.activeA.isSome then s.saf.activeB else none

/-- The field set of a frame. -/
def State.setOf (s : State) (frame : Nat) : Nat :=
  ((s.saf.due.find? (fun d => d.frame = frame)).map FrameDue.set).getD (s.getF F.SFA_FSET.ACTIVE)

/-- A ray occupied in a protective field raises its count, once in a frame; at N the permits drop (R244). -/
def State.raiseCounts (s : State) (i : List Byte) (r : RayResult) : State :=
  match imgSector i r.ray with
  | none => s
  | some k => r.occupied.foldl (fun s f =>
      let key := k * 4 + f
      if imgProtective i (s.setOf r.frame) f && !s.saf.raised.contains (r.frame, key) then
        let c := min 4 (countAt key s.saf.counts + 1)
        let s := { s with saf := { s.saf with counts := tabSet key c s.saf.counts, raised := s.saf.raised ++ [(r.frame, key)] } }
        if imgN i ≤ c then s.dropPermits else s
      else s) s

/-- Fields 0 to 3 of set `set` whose interval for sector `k` holds one of the gates. -/
def fieldsHit (i : List Byte) (set k : Nat) (hit : Nat × Nat → Bool) : List Nat :=
  (List.range 4).filter (fun f => let (n, g) := imgField i set f k; g != 0 && hit (n, g))

/-- R239: channel A judges the ray of the oldest descriptor. Class 2 is crosstalk (R219). -/
def doP0Descriptor (t : Nat) (s : State) : State :=
  let s := s.at t
  match s.saf.descs with
  | [] => s
  | d :: rest =>
    let s := { s with saf := { s.saf with descs := rest } }
    match s.image with
    | none => s
    | some i =>
      let gate := fun (rho : Nat) => rho * 1000000 / 299792458
      let ev := decide (s.now ≤ d.closedAt + 5000000) && !d.fault && decide (imgLe i 0x3B 1 ≤ d.used)
        && d.returns.any (fun r => decide (gate r.1 < imgLe i 0x3C 1))
      let occ := match imgSector i d.ray with
        | some k => if ev then fieldsHit i (s.setOf d.frame) k (fun (n, g) =>
            d.returns.any (fun r => r.2 ≠ 2 && decide (n ≤ gate r.1) && decide (gate r.1 < g))) else []
        | none => []
      let r : RayResult := { frame := d.frame, ray := d.ray, evaluated := ev, occupied := occ }
      ({ s with saf := { s.saf with raysA := s.saf.raysA ++ [r] } }).raiseCounts i r

def execP0Descriptor (t : Nat) (s : State) : Host.Outcome State Fault Refusal := answer (doP0Descriptor t s)

/-- Channel B's view of one pulse: the gates and levels of the events it assigns to it (R240). -/
def State.pulseEvents (s : State) (ch : Nat) (ps : List DripPulse) (p : DripPulse) (zero : Int) : List (Int × Nat) :=
  (s.saf.events.filter (fun e => e.ch = ch && decide (p.fire < e.cycle)
    && !ps.any (fun q => decide (p.fire < q.fire) && decide (q.fire < e.cycle)))).map
    (fun e => ((e.cycle : Int) - p.fire - zero, e.level))

/-- A pulse of a train's line as channel B has tapped it. -/
def DripPulse.isOf (p : DripPulse) (frame train : Nat) (r : RayKey) : Bool :=
  p.frame = frame && p.train = train && p.pass = r.pass && p.step = r.step && p.pos = r.pos && p.slot = r.slot

/-- R240: channel B's result of a ray is final once its train has run; it is judged from what channel B has tapped and its own copy of the
image. -/
def doChannelBRayResult (frame train pass step pos : Nat) (slot off : Fin 8) (t : Nat) (s : State) : State :=
  let s := s.at t
  let ray : RayKey := { pass := pass, step := step, pos := pos, slot := slot, off := off }
  match s.imageB with
  | none => s
  | some i =>
    match s.saf.pulses.find? (fun p => p.isOf frame train ray) with
    | none => s
    | some x =>
      if !s.on 2 || s.now < x.endAt || s.saf.raysB.any (fun r => r.frame = frame && r.ray = ray) then s
      else
        let all := s.saf.pulses.filter (fun p => p.line = x.line)
        let ps := all.filter (fun p => p.isOf frame train ray && p.emitted)
        let zero := signed 8 (imgLe i 0x3D 1)
        let evs := fun (p : DripPulse) => s.pulseEvents (8 * x.line + off.val) all p zero
        let emit := ps.length
        let live := (ps.filter (fun p => (evs p).any (fun e => decide (e.1 < imgLe i 0x3C 1)))).length
        let need := imgLe i 0x39 1
        let ev := decide (imgLe i 0x3B 1 ≤ emit) && decide (need ≤ live)
        let hits := fun (x : Nat × Nat) => (ps.filter (fun p => (evs p).any (fun e =>
          decide (imgLe i 0x3A 1 ≤ e.2) && decide ((x.1 : Int) ≤ e.1) && decide (e.1 < (x.2 : Int))))).length
        let occ := match imgSector i ray with
          | some k => if ev then fieldsHit i (s.setOf frame) k (fun x => decide (need ≤ hits x)) else []
          | none => []
        let r : RayResult := { frame := frame, ray := ray, evaluated := ev, occupied := occ }
        ({ s with saf := { s.saf with raysB := s.saf.raysB ++ [r] } }).raiseCounts i r

def execChannelBRayResult (frame train pass step pos : Nat) (slot off : Fin 8) (t : Nat) (s : State) :
    Host.Outcome State Fault Refusal := answer (doChannelBRayResult frame train pass step pos slot off t s)

/-! ## Evaluation (R243 to R248, R257) -/

/-- Result of a sector in a field (R243): 0 CLEAR, 1 OCCUPIED, 2 NOT_EVALUATED, 3 field empty there (R257). -/
def sectorResult (i : List Byte) (set f k : Nat) (rays : List RayResult) : Nat :=
  if (imgField i set f k).2 = 0 then 3
  else
    let mine := ((List.range (imgNray i)).map (imgRay i)).filter (fun r => r.2 = k)
    let got := fun (r : RayKey) => rays.find? (fun x => x.ray = r)
    if mine.any (fun r => ((got r.1).map (fun x => x.occupied.contains f)).getD false) then 1
    else if mine.all (fun r => ((got r.1).map RayResult.evaluated).getD false) then 0
    else 2

/-- The worst of a field's sector results: NOT_EVALUATED, then OCCUPIED, then CLEAR; 3 where no sector is in the field. -/
def worstResult (rs : List Nat) : Nat := if rs.contains 2 then 2 else if rs.contains 1 then 1 else if rs.contains 0 then 0 else 3

/-- A comparison of R248: CLEAR against the rest. -/
def disagrees (a b : Nat) : Bool := (a = 0) != (b = 0) && a != 3 && b != 3

/-- The longest open run in ms. -/
def State.longestRun (s : State) : Nat := (s.saf.runs.foldl (fun m r => max m (s.now - r.2)) 0) / 1000000

/-- What the feedback inputs read: what is driven, unless a reading to the contrary has come (R247; log entry 68). -/
def State.feedback (s : State) : Bool × Bool :=
  match s.saf.fb with
  | some x => x
  | none => let p := s.pinsOf; (p.ossdA, p.ossdB)

/-- The SAFETY_STATUS record (R257). -/
def State.safetyStatus (s : State) (d : FrameDue) (image field disagree noteval : Nat) : List Byte :=
  let fset := s.getF F.SFA_FSET.ACTIVE + 16 * s.getF F.SFA_FSET.PENDING + 128 * s.getF F.SFA_FSET.PEND
  let bit := fun (b : Bool) (n : Nat) => if b then 2 ^ n else 0
  let out := bit s.pinsOf.ossdA 0 + bit s.pinsOf.ossdB 1 + bit s.feedback.1 2 + bit s.feedback.2 3 + 16 * s.getF F.SFA_OSSD.IL_WAIT
    + bit (s.dev = .lockout) 5
  let cause := if s.dev = .lockout then s.getF F.SFA_LOCK.CAUSE else 0
  leBytes 8 s.taiNs ++ leBytes 4 d.frame ++ leBytes 4 d.epoch ++ leBytes 4 image ++ leBytes 1 fset ++ leBytes 1 out
    ++ leBytes 2 field ++ leBytes 2 disagree ++ leBytes 2 (min 0xFFFF s.longestRun) ++ leBytes 2 noteval ++ leBytes 1 cause ++ leBytes 1 0

/-- Runs of disagreement that have reached TD, in units of `ms` ns, lock the device out, once each (R248). -/
def State.runsEnd (s : State) (ms : Nat) : State :=
  let expired := fun (r : Nat × Nat) => decide (r.2 + s.getF F.SFA_CFG.TD * ms ≤ s.now)
  if s.saf.runs.any expired then
    State.enterLockout { s with saf := { s.saf with runs := s.saf.runs.filter (fun r => !expired r) } } 0x50
  else s

/-- A run of disagreement has reached TD (R248): it stands, whatever the comparison of the same cycle says. -/
def State.expireRuns (s : State) : State :=
  s.runsEnd 1000000

/-- The judgement of a frame at its evaluation instant, by the images `i` and `j` of channels A and B. A count that CLEAR sets to 0 is raised
again for each later frame a ray of which has raised it already (R244; log entry 67). -/
def State.evaluate (s : State) (i j : List Byte) (d : FrameDue) : State :=
  let s := s.expireRuns
  let ra := s.saf.raysA.filter (fun r => r.frame = d.frame)
  let rb := s.saf.raysB.filter (fun r => r.frame = d.frame)
  let pairs := (List.range (imgNsect i)).flatMap (fun k => (List.range 4).map (fun f => (k, f)))
  let res := pairs.map (fun (k, f) => (k * 4 + f, f, sectorResult i d.set f k ra, sectorResult j d.set f k rb))
  let differ := res.filter (fun x => disagrees x.2.2.1 x.2.2.2)
  let runs := differ.map (fun x => (x.1, (tabFind x.1 s.saf.runs).getD s.now))
  let newRun := differ.any (fun x => (tabFind x.1 s.saf.runs).isNone)
  let prot := res.filter (fun x => imgProtective i d.set x.2.1 && x.2.2.1 ≠ 3)
  let clear := fun (x : Nat × Nat × Nat × Nat) => x.2.2.1 = 0 && x.2.2.2 = 0
  let notev := prot.filter (fun x => x.2.2.1 = 2 || x.2.2.2 = 2)
  let ahead := fun (key : Nat) => (s.saf.raised.filter (fun r => r.1 ≠ d.frame && r.2 = key)).length
  let counts := prot.foldl (fun c x => if clear x then (if ahead x.1 = 0 then tabDel x.1 c else tabSet x.1 (min 4 (ahead x.1)) c)
    else if s.saf.raised.contains (d.frame, x.1) then c else tabSet x.1 (min 4 (countAt x.1 c + 1)) c) s.saf.counts
  let allClear := prot.all clear
  let field := (List.range 4).foldl (fun a f =>
    let rs := res.filter (fun x => x.2.1 = f)
    a + (worstResult (rs.map (·.2.2.1)) + 4 * worstResult (rs.map (·.2.2.2))) * 16 ^ f) 0
  let s := { s with saf := { s.saf with runs := runs, counts := counts, clearRun := if allClear then s.saf.clearRun + 1 else 0 } }
  let s := if newRun then s.safetyEvt 2 else s
  let held := prot.any (fun x => decide (0 < ahead x.1) && decide (imgN i ≤ countAt x.1 counts))
  let s := if allClear && !held then (s.setF F.SFA_OSSD.PERMIT_A 1).setF F.SFA_OSSD.PERMIT_B 1 else s
  let s := if notev.isEmpty then s else (s.bump F.SFA_CNT.NOTEVAL 1).dropPermits
  let s := s.outputsOnIf
  let s := ((s.setF F.SFA_FIELD.RESULT field).setSat F.SFA_DISC.DISAGREE differ.length).setSat F.SFA_DISC.RUN_MS s.longestRun
  s.commitRecord 6 7 (s.safetyStatus d (imgLe i 0xC 4) field differ.length notev.length)

/-- R244: 5 ms after the end of the oldest frame. Without an image nothing is evaluated and the record says so. -/
def doEvaluationInstant (t : Nat) (s : State) : State :=
  let s := s.at t
  match s.saf.due with
  | [] => s
  | d :: rest =>
    if s.now < d.ended + 5000000 then s
    else
      let s := match s.image, s.imageB with
        | some i, some j => s.evaluate i j d
        | _, _ => s.commitRecord 6 7 (s.safetyStatus d 0 0xFFFF 0 0)
      { s with saf := { s.saf with due := rest, raysA := s.saf.raysA.filter (fun r => r.frame ≠ d.frame),
                                   raysB := s.saf.raysB.filter (fun r => r.frame ≠ d.frame),
                                   raised := s.saf.raised.filter (fun r => r.1 ≠ d.frame),
                                   pulses := s.saf.pulses.filter (fun p => p.frame ≠ d.frame), events := s.saf.events.filter (fun e => decide (d.ended ≤ e.cycle)) } }

def execEvaluationInstant (t : Nat) (s : State) : Host.Outcome State Fault Refusal := answer (doEvaluationInstant t s)

/-- R248: a run of disagreement reaches TD on one of the channels' clocks, no earlier than 0.98 × TD. -/
def doDiscrepancyExpiry (t : Nat) (s : State) : State :=
  let s := s.at t
  if s.saf.activeA.isSome then s.runsEnd 980000 else s

def execDiscrepancyExpiry (t : Nat) (s : State) : Host.Outcome State Fault Refusal := answer (doDiscrepancyExpiry t s)

/-- The instant at which an output's next off-pulse begins (R246): of `OSSDA` PULSE_P after its last one, or after the outputs turned on (log
entry 68); of `OSSDB` PULSE_P / 2 after that of `OSSDA`, once for each. -/
def State.pulseDue (s : State) (channelB : Bool) : Option Nat :=
  if channelB then
    match s.saf.pulseA, s.imageB with
    | some a, some j => if s.saf.pulseB.any (fun b => decide (a ≤ b)) then none else some (a + imgLe j 0x38 1 * 500000)
    | _, _ => none
  else s.image.map (fun i => s.saf.pulseA.getD s.saf.turnedAt + imgLe i 0x38 1 * 1000000)

/-- R246: an off-pulse of one channel's output, every PULSE_P ms while the outputs are on. -/
def doOssdOffPulse (channelB : Bool) (t : Nat) (s : State) : State :=
  let s := s.at t
  match s.pulseDue channelB with
  | none => s
  | some p =>
    if s.saf.outputsOn && decide (p ≤ s.now) then
      { s with
        saf := if channelB then { s.saf with pulseB := some p } else { s.saf with pulseA := some p }
        tp := { s.tp with out := .offPulse (if channelB then 1 else 0) p :: s.tp.out } }
    else s

def execOssdOffPulse (channelB : Bool) (t : Nat) (s : State) : Host.Outcome State Fault Refusal :=
  answer (doOssdOffPulse channelB t s)

/-- The last change of an output: a switch on or off, or the start or the end of an off-pulse. -/
def State.lastChange (s : State) (start : Option Nat) (img : Option (List Byte)) : Nat :=
  match start, img with
  | some p, some i =>
    let end_ := p + 1000 * imgLe i 0x36 2
    if end_ ≤ s.now then end_ else max p s.saf.turnedAt
  | _, _ => s.saf.turnedAt

/-- The instants since which the feedback inputs have read what they read now: a new reading begins now. -/
def State.readSince (s : State) (fbA fbB : Bool) : Nat × Nat :=
  let old := s.feedback
  (if s.saf.fb.isSome && old.1 = fbA then s.saf.fbAt.1 else s.now, if s.saf.fb.isSome && old.2 = fbB then s.saf.fbAt.2 else s.now)

/-- A reading that differs from its output since `since` is a fault (R247): 50 µs have passed since the output's last change at `change`, which
the input has not followed within them, or the input has differed for more than 50 µs. -/
def State.readLate (s : State) (change since : Nat) : Bool :=
  decide (change + 50000 ≤ s.now) && (decide (since ≤ change + 50000) || decide (since + 50000 < s.now))

/-- A reading of both feedback inputs shows a fault (R247): one differs from its output too long, or leaves the on state during the other's
off-pulse. -/
def State.readbackBad (s : State) (fbA fbB : Bool) : Bool :=
  let p := s.pinsOf
  let at_ := s.readSince fbA fbB
  (fbA ≠ p.ossdA && s.readLate (s.lastChange s.saf.pulseA s.saf.activeA) at_.1)
    || (fbB ≠ p.ossdB && s.readLate (s.lastChange s.saf.pulseB s.saf.activeB) at_.2)
    || (s.inPulse s.saf.pulseA s.saf.activeA && p.ossdB && !fbB) || (s.inPulse s.saf.pulseB s.saf.activeB && p.ossdA && !fbA)

/-- R247: what both feedback inputs have come to read. -/
def doOssdReadbackFault (fbA fbB : Bool) (t : Nat) (s : State) : State :=
  let s := s.at t
  if !s.gradeS then s
  else
    let t := if s.readbackBad fbA fbB then s.enterLockout 0x51 else s
    { t with saf := { t.saf with fb := some (fbA, fbB), fbAt := s.readSince fbA fbB } }

def execOssdReadbackFault (fbA fbB : Bool) (t : Nat) (s : State) : Host.Outcome State Fault Refusal :=
  answer (doOssdReadbackFault fbA fbB t s)

/-- R242: a 10 ms window of the clock check; the third in a row beyond 5 % locks out. -/
def doClockCrossCheck (dev : Int) (t : Nat) (s : State) : State :=
  let s := s.at t
  if !s.gradeS || !s.on 2 then s
  else
    let ok := decide (dev.natAbs ≤ 500)
    let s := (s.setI F.SFB_CLK.DEV dev).setB F.SFB_CLK.REF_OK ok
    let s := { s with saf := { s.saf with clkBad := if ok then 0 else s.saf.clkBad + 1, clkGood := if ok then s.saf.clkGood + 1 else 0 } }
    if 3 ≤ s.saf.clkBad then s.enterLockout 0x52 else s

def execClockCrossCheck (dev : Int) (t : Nat) (s : State) : Host.Outcome State Fault Refusal := answer (doClockCrossCheck dev t s)

/-- R242: channel B's checks in a frame gap. -/
def doChannelBGapTest (pass crc : Bool) (t : Nat) (s : State) : State :=
  let s := s.at t
  if !s.gradeS || !s.on 2 then s
  else
    let s := ((s.bump F.SFB_TEST.RUNS 1).setB F.SFB_TEST.PASS pass).setB F.SFB_TEST.CRC_OK crc
    if pass && crc then s else s.enterLockout 0x52

def execChannelBGapTest (pass crc : Bool) (t : Nat) (s : State) : Host.Outcome State Fault Refusal :=
  answer (doChannelBGapTest pass crc t s)

/-! ## Lock-out (R69, R252 to R255) -/

/-- R69: a safety-channel fault. -/
def doLockoutEntry (cause : Fin 3) (t : Nat) (s : State) : State := (s.at t).enterLockout (0x50 + cause.val)

def execLockoutEntry (cause : Fin 3) (t : Nat) (s : State) : Host.Outcome State Fault Refusal := answer (doLockoutEntry cause t s)

/-- R69: the record of the lock-out stands in NOR. -/
def doLockoutRecordWritten (t : Nat) (s : State) : State :=
  let s := s.at t
  if s.rst.lockLatch && s.rst.lockRecord.isNone then
    ({ s with rst := { s.rst with lockRecord := some { cause := s.rst.lockCause, tai := s.taiNs } } }).setF F.SFA_LOCK.RECORD 1
  else s

def execLockoutRecordWritten (t : Nat) (s : State) : Host.Outcome State Fault Refusal := answer (doLockoutRecordWritten t s)

/-- The fault of a lock-out cause is gone (R254). Cause 0x53 is judged by the recorded cause. -/
def State.faultGone (s : State) (passA passB crc fbOff : Bool) : Bool :=
  let cause := s.getF F.SFA_LOCK.CAUSE
  let c := if cause = 0x53 then (s.rst.lockRecord.map LockRecord.cause).getD 0x50 else cause
  if c = 0x51 then fbOff && passA && passB else if c = 0x52 then passB && crc && decide (3 ≤ s.saf.clkGood) else passA && passB

/-- R254: the self-tests of `LOCKOUT`. -/
def doLockoutSelfTest (passA passB crc fbOff : Bool) (t : Nat) (s : State) : State :=
  let s := s.at t
  if s.dev ≠ .lockout then s
  else
    let s := ((s.bump F.SFB_TEST.RUNS 1).setB F.SFB_TEST.PASS passB).setB F.SFB_TEST.CRC_OK crc
    let s := if fbOff then { s with saf := { s.saf with fb := none } } else s
    s.setB F.SFA_LOCK.GONE (s.faultGone passA passB crc fbOff)

def execLockoutSelfTest (passA passB crc fbOff : Bool) (t : Nat) (s : State) : Host.Outcome State Fault Refusal :=
  answer (doLockoutSelfTest passA passB crc fbOff t s)

/-- The clear is disarmed. -/
def State.disarmClear (s : State) : State :=
  ({ s with saf := { s.saf with clearAt := none } }).setF F.SFA_OSSD.CLR_ARMED 0

/-- R255: the 10 s window closes. -/
def doClearWindowClose (t : Nat) (s : State) : State :=
  let s := s.at t
  match s.saf.clearAt with
  | some a => if a + 10000000000 ≤ s.now then s.disarmClear else s
  | none => s

def execClearWindowClose (t : Nat) (s : State) : Host.Outcome State Fault Refusal := answer (doClearWindowClose t s)

/-- R255: lock-out is cleared; its record and latch are erased. -/
def State.clearLockout (s : State) : State :=
  let s := { s with rst := { s.rst with lockRecord := none, lockLatch := false, lockCause := 0 } }
  let s := (((s.setF F.SFA_LOCK.RECORD 0).setF F.SFA_LOCK.LATCHED 0).setF F.SFA_LOCK.CAUSE 0).setF F.SFA_LOCK.GONE 0
  s.disarmClear.enterState .standby 0x15 []

/-- R252, R253, R255: a `RESTART` pulse ends. -/
def doRestartPulse (t usA usB : Nat) (s : State) : State :=
  let s := s.at t
  if usA < 5000 || !s.gradeS then s
  else
    let valid := between 150000 2000000 usA && between 150000 2000000 usB
    let s := (s.setSat F.SFA_RESTART.LAST_MS (usA / 1000)).setSat (F.SFA_RESTART.LAST_MS.pageUp 1) (usB / 1000)
    let inWindow := match s.saf.clearAt with
      | some a => decide (a + usA * 1000 ≤ t) && decide (t ≤ a + 10000000000)
      | none => false
    if valid && s.dev = .lockout && inWindow then s.clearLockout
    else if valid && s.flag F.SFA_OSSD.IL_WAIT && s.outputsReady then (s.setF F.SFA_OSSD.IL_WAIT 0).outputsOnIf
    else (s.bump F.SFA_RESTART.REJECTED 1).safetyEvt 7

def execRestartPulse (t usA usB : Nat) (s : State) : Host.Outcome State Fault Refusal := answer (doRestartPulse t usA usB s)

/-! ## Activation and frame boundaries (R236, R238, R251) -/

/-- A channel's active image as its page shows it; `p`: 0 SFA, 1 SFB. -/
def State.showConfig (s : State) (p : Nat) (i : List Byte) : State :=
  let s := s.setF (F.SFA_IMG_ACTIVE.ID.pageUp p) (imgLe i 0xC 4)
  let s := ((s.setF (F.SFA_CFG.TD.pageUp p) (imgTd i)).setF (F.SFA_CFG.N.pageUp p) (imgN i)).setF (F.SFA_CFG.ON_FRAMES.pageUp p) (imgOnFrames i)
  s.setB (F.SFA_CFG.RESTART_IL.pageUp p) (imgRestartIl i)

/-- The pages without an image. -/
def State.showNoImage (s : State) : State :=
  let s := (s.setF F.SFA_IMG_STAT.ACTIVE 0).setF F.SFA_IMG_STAT.B_ACTIVE 0
  [0, 1].foldl (fun s p => (((((s.setF (F.SFA_IMG_ACTIVE.ID.pageUp p) 0).setF (F.SFA_CFG.TD.pageUp p) 0).setF (F.SFA_CFG.N.pageUp p) 0).setF
    (F.SFA_CFG.ON_FRAMES.pageUp p) 0).setF (F.SFA_CFG.RESTART_IL.pageUp p) 0)) s

/-- What the pages show of a staged image. -/
def State.showStaged (s : State) : State :=
  let id := fun (i : Option (List Byte)) => (i.map (fun i => imgLe i 0xC 4)).getD 0
  let s := ((s.setB F.SFA_IMG_STAT.STAGED (s.saf.staged.isSome || s.saf.stagedB.isSome)).setB F.SFA_IMG_STAT.A_OK s.saf.staged.isSome).setB
    F.SFA_IMG_STAT.B_OK s.saf.stagedB.isSome
  (s.setF F.SFA_IMG_STAGED.ID (id s.saf.staged)).setF (F.SFA_IMG_STAGED.ID.pageUp 1) (id s.saf.stagedB)

/-- The fused zone map (R384): lines 0 to 63 in row 32, 64 to 127 in row 33. -/
def State.fusedZones (s : State) (n : Nat) : Nat := ofLe (s.fuseBytes (32 + n / 8) (n % 8 * 4) 4)

/-- Working ceilings and zone map (R142): the lower of fused and image ceilings; the image's zone map where ZONEMAP is 1. -/
def State.setCeilings (s : State) (img : Option (List Byte)) : State :=
  let s := (List.range 16).foldl (fun s z =>
    let fs := s.getF (F.EMT_ZONE_FUSED.SHORT.inst z)
    let fl := s.getF (F.EMT_ZONE_FUSED.LONG.inst z)
    let (cs, cl) := match img with
      | some i => (imgLe i (0x80 + 4 * z) 2, imgLe i (0x82 + 4 * z) 2)
      | none => (fs, fl)
    (s.setF (F.EMT_ZONE_CEIL.SHORT.inst z) (min fs cs)).setF (F.EMT_ZONE_CEIL.LONG.inst z) (min fl cl)) s
  (List.range 16).foldl (fun (s : State) n =>
    s.setF (F.EMT_ZONE_MAP.ZONES.idx n) (match img with
      | some i => if imgZoneMap i then imgLe i (0xC0 + 4 * n) 4 else s.fusedZones n
      | none => s.fusedZones n)) s

/-- A change of them, with its event. -/
def State.workingCeilings (s : State) (img : Option (List Byte)) : State :=
  let t := s.setCeilings img
  if t.regs = s.regs then t else t.raiseEvt 10 5

/-- An image is newly active, copy `i` in channel A and `j` in channel B (R238): outputs off, permits and counts cleared, its initial field
set. -/
def State.newlyActive (s : State) (i j : List Byte) : State :=
  let s := s.outputsOff false
  let s := { s with saf := { s.saf with activeA := some i, activeB := some j, counts := [], raised := [], clearRun := 0 } }
  let s := ((s.setF F.SFA_IMG_STAT.ACTIVE 1).setF F.SFA_IMG_STAT.B_ACTIVE 1)
  let s := (s.showConfig 0 i).showConfig 1 j
  let s := (((s.setF F.SFA_FSET.ACTIVE (imgInitSet i)).setF F.SFA_FSET.PEND 0).setF F.SFA_FSET.PENDING 0).setF F.SFA_FSET.SEQ 0
  let s := (s.setF F.SFA_OSSD.PERMIT_A 0).setF F.SFA_OSSD.PERMIT_B 0
  (s.workingCeilings (some i)).safetyEvt 4

/-- The staged image becomes active in both channels (R236, R238). -/
def State.activateImage (s : State) : State :=
  let s := s.setF (F.SFA_IMG_SEQ.SEQ.pageUp 1) (s.getF F.SFA_IMG_SEQ.SEQ)
  match s.saf.staged, s.saf.stagedB with
  | some i, some j =>
    let s := { s with saf := { s.saf with staged := none, stagedB := none, staging := [], stagingB := [] } }
    s.showStaged.newlyActive i j
  | _, _ => s

/-- A pending field set applies (R251): at a boundary 20 µs or more after its acceptance. -/
def State.applyFieldSet (s : State) : State :=
  if s.flag F.SFA_FSET.PEND && decide (s.saf.selAt + 20000 ≤ s.now) then
    let s := s.setF F.SFA_FSET.ACTIVE (s.getF F.SFA_FSET.PENDING)
    ((s.setF F.SFA_FSET.PEND 0).setF F.SFA_FSET.PENDING 0).safetyEvt 5
  else s

end Sys2Proof.Machine
end

