-- ==== Sys2Proof/Machine/Steering.lean ====
section
/-! DEFINITION. Beam steering (chapter 05): encoders and the azimuth estimate, references and the frame pulse, both loops,
validity, the interlock, tests and steering records. -/

namespace Sys2Proof.Machine

/-! ## Azimuth of a past instant (R102, R103) -/

/-- The azimuth at an instant that may lie before the last edge, at the measured speed, rounded down. -/
def State.azimuthAt (s : State) (t : Int) : Int :=
  match s.edgeSpan with
  | some d =>
    let from_ : Nat := if s.ste.count = 0 then s.ste.idxAt else s.ste.edges.headD 0
    (2 ^ 24 * ((s.ste.count * d : Nat) + 4 * (t - from_)) / ((4 * s.cpr * d : Nat) : Int)) % 2 ^ 24
  | none => 0

/-- Facet k's mark in the settings of an epoch (R103): k × 2²⁴ ÷ FACETS + trim. -/
def State.facetMark (s : State) (epoch k : Nat) : Int :=
  ((k * 2 ^ 24 / s.getAt epoch F.SCH_PROG.FACETS : Nat) : Int) + signed 24 (s.getAt epoch (F.STE_FACET_TRIM.TRIM.idx k))

/-- The loop's reference, rpm with 8 fractional bits. -/
def State.refRpm (s : State) : Int := s.ste.refRpm / 10000

/-! ## Interlock causes (R116) -/

/-- Set or clear the condition of a cause; one that starts while the interlock is not armed raises bit 5. -/
def State.setCond (s : State) (cause : Nat) (holds : Bool) : State :=
  let had := s.ste.conds.contains cause
  let conds := if holds then (if had then s.ste.conds else insertBy (fun a b => decide (a < b)) cause s.ste.conds) else s.ste.conds.filter (· ≠ cause)
  let s := { s with ste := { s.ste with conds := conds } }
  let s := (s.setB F.STE_STAT.ILK_COND (!conds.isEmpty)).setF F.STE_ILK_STAT.COND (conds.foldl (fun m c => if m = 0 || c < m then c else m) 0)
  if holds && !had && !s.emitting then s.raiseEvt 9 5 else s

/-- Causes 1 and 2: the mean of the last 4 intervals against that of ref_rpm. -/
def State.speedConds (s : State) : State :=
  match s.edgeSpan with
  | some d =>
    let r := s.refRpm.toNat
    let x := d * s.cpr * r
    let full := 60000000000 * 256 * 1000
    let low := decide (0 < r) && decide (full < x * (1000 - s.getF F.STE_ILK.LO))
    let high := decide (0 < r) && decide (x * (1000 + s.getF F.STE_ILK.HI) < full)
    (s.setCond 1 low).setCond 2 high
  | none => s

/-- No polygon edge within 4 expected intervals at ref_rpm (cause 3): counted from the last edge, before the first from entry to `SPINUP`. -/
def State.edgeOverdue (s : State) : Bool :=
  decide (4 * (60000000000 * 256) < (s.now - s.ste.edges.headD s.ste.spinAt) * (4 * s.cpr * s.refRpm.toNat))

/-- The galvo error has been above its limit for STALL ms without a break (cause 4). -/
def State.stalled (s : State) : Bool := s.ste.stall.any (fun since => decide (since + s.getF F.STE_ILK.STALL * 1000000 ≤ s.now))

/-- The galvo encoder has been silent for 1 ms with the output at its limit, or the sensor entry is out of its band (cause 5, R403). -/
def State.feedbackLost (s : State) : Bool :=
  if s.flag F.STE_CTL.GV_FB then s.flag (F.HKA_RES.OUT.idx (s.getF F.STE_CTL.GV_HKA))
  else s.ste.gvQuiet.any (fun since => decide (since + 1000000 ≤ s.now))

/-- The armed interlock trips on a cause: the device enters `SAFE` (R116, R117). -/
def State.tripIlk (s : State) (cause : Nat) : State :=
  let s := ((s.setF F.STE_STAT.ILK 1).setF F.STE_ILK_STAT.FIRST cause).bump F.STE_ILK_STAT.TRIPS 1
  (s.raiseEvt 9 0).enterSafe 0x27 []

/-- In `RUN` and `DEGRADED` any cause whose condition holds trips the interlock. -/
def State.armIlk (s : State) : State :=
  match s.ste.conds with
  | c :: _ => if s.emitting then s.tripIlk c else s
  | [] => s

/-- Every cause is judged (R116). -/
def State.judgeIlk (s : State) : State :=
  ((((s.speedConds).setCond 3 (s.ste.idxBad || s.edgeOverdue)).setCond 4 s.stalled).setCond 5 s.feedbackLost).armIlk

/-! ## Validity (R115) -/

def State.speedIn (s : State) : Bool :=
  let target := s.getF F.STE_RPM.TARGET * 256
  decide ((s.getF F.STE_SPEED.RPM : Int) - target ≤ ((target * s.getF F.STE_BAND.SP_TOL / 1000000 : Nat) : Int))
    && decide ((target : Int) - s.getF F.STE_SPEED.RPM ≤ ((target * s.getF F.STE_BAND.SP_TOL / 1000000 : Nat) : Int))
    && target != 0

def State.steeringValid (s : State) : Bool :=
  s.frames && s.on 9 && s.speedIn
    && (s.getF F.STE_CTL.REFSRC = 0 || (s.flag F.STE_STAT.LOCK && s.flag F.STE_STAT.PH_IN))
    && s.flag F.STE_STAT.GV_SET && s.getF F.STE_CTL.GV_SRC = 0 && !s.flag F.STE_STAT.ILK

/-- The phase lies within PH_TOL, and the galvo is settled, by the set-points and tolerances in force. -/
def State.updateBands (s : State) : State :=
  let s := s.setB F.STE_STAT.PH_IN (s.ste.lock && decide ((s.getI F.STE_PHERR.CODES).natAbs ≤ 16 * s.getF F.STE_BAND.PH_TOL))
  s.setB F.STE_STAT.GV_SET (decide (20 ≤ s.ste.settled) && s.getF F.STE_CTL.GV_SRC = 0)

/-- `STE_STAT.VALID` follows its conditions; a lapse marks the open frame. -/
def State.updateValid (s : State) : State :=
  let s := s.updateBands
  let v := s.steeringValid
  let s := s.setB F.STE_STAT.VALID v
  let s := { s with ste := { s.ste with validSince := if v then some (s.ste.validSince.getD s.now) else none } }
  if v then s else { s with sch := { s.sch with frame := s.sch.frame.map (fun f => { f with validAll := false }) } }

/-- The galvo takes another set-point: it is settled there only where its last error lies within SETTLE (R112, R115). -/
def State.setTilt (s : State) (tilt : Int) : State :=
  let far := decide (s.getF F.STE_GV_TOL.SETTLE < (tilt - s.ste.gvMeas).natAbs)
  State.updateValid { s with ste := { s.ste with tilt := tilt, settled := if far then 0 else s.ste.settled } }

/-! ## Encoder commands -/

/-- R102: an encoder edge. -/
def doPolyEncoderEdge (t : Nat) (s : State) : State :=
  let s := s.at t
  if !s.on 9 then s
  else
    let s := { s with ste := { s.ste with edges := (t :: s.ste.edges).take 5, count := s.ste.count + 1 } }
    let s := s.setSat F.STE_SPEED.RPM s.measRpm
    if s.frames then s.judgeIlk.updateValid else s

def execPolyEncoderEdge (t : Nat) (s : State) : Host.Outcome State Fault Refusal := answer (doPolyEncoderEdge t s)

/-- Signed remainder of `x` modulo `m`, nearest to 0. -/
def nearRem (x : Int) (m : Nat) : Int :=
  let r := x % (m : Int)
  if (m : Int) < 2 * r then r - m else r

/-- Phase error in codes: how late the index mark at `t` is against the nearest reference instant (R105, log entry 32). -/
def State.phaseErr (s : State) (t : Nat) : Int :=
  match s.ste.pulse with
  | some p =>
    let target := s.getF F.STE_RPM.TARGET
    truncDiv (nearRem (((t : Int) - p) * target) 60000000000 * 2 ^ 24) 60000000000
  | none => 0

/-- R104, R105: an index mark restarts the count and is checked against 4 × CPR edges; a fault is cause 3 of the interlock. -/
def doIndexMark (t : Nat) (s : State) : State :=
  let s := s.at t
  if !s.on 9 then s
  else
    let off := s.ste.indexed && (decide (4 * s.cpr + 4 < s.ste.count) || decide (s.ste.count + 4 < 4 * s.cpr))
    let s := { s with ste := { s.ste with count := 0, indexed := true, idxAt := t, early := false, idxBad := off,
                                          rev := if s.ste.early then s.ste.rev else s.ste.rev + 1 } }
    let err := if s.ste.lock then s.phaseErr t else 0
    let s := s.setI F.STE_PHERR.CODES err
    if s.frames then s.judgeIlk.updateValid else s.updateBands

def execIndexMark (t : Nat) (s : State) : Host.Outcome State Fault Refusal := answer (doIndexMark t s)

/-! ## References and frame pulses (R105 to R107) -/

/-- The frame period as a fraction of ns: (REVS × 60 × 10⁹, RPM) of the active program. -/
def State.framePeriod (s : State) : Nat × Nat := (s.getF F.SCH_PROG.REVS * 60000000000, s.getF F.SCH_PROG.RPM)

/-- The unit's offset time in ns, rounded down (R105). -/
def State.offsetTime (s : State) : Nat :=
  let phi := (s.getF F.STE_PHASE.BASE + s.getF F.SYS_CHAIN.ADDR * s.getF F.STE_PHASE.STEP * 65536) % 2 ^ 24
  phi * 60000000000 / (2 ^ 24 * s.getF F.STE_RPM.TARGET)

/-- R106: an edge on `FSYNC` is accepted, or ignored and counted. Expected edges missed are extrapolated (log entry 31). -/
def doFsyncEdge (t : Nat) (s : State) : State :=
  let s := s.at t
  if !s.on 9 || s.getF F.STE_CTL.REFSRC ≠ 1 then s
  else
    let accept := fun (s : State) (missed : Nat) =>
      let s := { s with ste := { s.ste with fsync := some t, missed := 0, holdover := false } }
      ((s.setF F.STE_STAT.REF_OK 1).bump F.STE_REF_STAT.MISSED missed).updateValid
    match s.ste.fsync with
    | none => accept s 0
    | some e =>
      let (num, den) := s.framePeriod
      let d := (t - e) * den
      let n := max 1 ((2 * d + num) / (2 * num))
      if num ≠ 0 && den ≠ 0 && decide (d * 100 ≤ n * num * 100 + num) && decide (n * num * 100 ≤ d * 100 + num) then
        accept s (n - 1 - s.ste.missed)
      else s.bump F.STE_REF_STAT.REJECT 1

def execFsyncEdge (t : Nat) (s : State) : Host.Outcome State Fault Refusal := answer (doFsyncEdge t s)

/-- `n` expected edges in a row are missing: they count, and the third begins holdover (R106). -/
def State.missEdges (s : State) (n : Nat) : State :=
  let s := (s.bump F.STE_REF_STAT.MISSED (n - s.ste.missed))
  let s := { s with ste := { s.ste with missed := n } }
  if 3 ≤ n && !s.ste.holdover then
    ({ s with ste := { s.ste with holdover := true } }.setF F.STE_STAT.REF_OK 0).raiseEvt 9 2
  else s

/-- Expected edges whose 1 % has passed without one. -/
def State.overdueEdges (s : State) : Nat :=
  match s.ste.fsync with
  | some e =>
    let (num, den) := s.framePeriod
    if num = 0 then 0 else (100 * ((s.now - e) * den) - num - 1) / (100 * num)
  | none => 0

/-- R106: the third expected edge in a row is missing; before that nothing is extrapolated. -/
def doFsyncHoldover (t : Nat) (s : State) : State :=
  let s := s.at t
  if s.on 9 && s.getF F.STE_CTL.REFSRC = 1 && !s.ste.holdover && decide (3 ≤ s.overdueEdges) then s.missEdges s.overdueEdges else s

def execFsyncHoldover (t : Nat) (s : State) : Host.Outcome State Fault Refusal := answer (doFsyncHoldover t s)

/-- The reference edge, or TSY pulse, whose frame pulse falls at `t`: an accepted edge, in holdover an extrapolated one. -/
def State.edgeOf (s : State) (t : Nat) : Option Nat :=
  match s.getF F.STE_CTL.REFSRC with
  | 1 => match s.ste.fsync with
    | some e =>
      let (num, den) := s.framePeriod
      let first := e + s.offsetTime
      if t = first then some e
      else if s.ste.holdover && num ≠ 0 && den ≠ 0 && decide (first ≤ t) then
        let n := ((t - first) * den + den) / num
        if t = first + n * num / den then some (e + n * num / den) else none
      else none
    | none => none
  | 2 => s.ste.tsyPulse.filter (fun p => t = p + s.offsetTime)
  | _ => none

/-- A frame pulse may fall at `t` (the reference table, R106, R107); a reference edge gives one. -/
def State.pulseFits (s : State) (t : Nat) : Bool :=
  if s.getF F.STE_CTL.REFSRC = 0 then s.ste.indexed && s.ste.idxAt = t && (s.sch.frame.isNone || decide (s.getF F.SCH_PROG.REVS ≤ s.ste.rev))
  else (s.edgeOf t).any (fun e => s.ste.pulseEdge.all (fun q => decide (q < e)))

/-- The frame period changes at a boundary in holdover: the next edge lies one new period after the edge extrapolated last (R107).
`old`: the state before the change. -/
def State.rebaseEdges (s old : State) : State :=
  if s.framePeriod = old.framePeriod then s
  else match s.ste.fsync with
    | some e =>
      let (num, den) := old.framePeriod
      if num = 0 || den = 0 || !s.ste.holdover then s
      else
        let last := e + ((s.now - (e + old.offsetTime)) * den + den) / num * num / den
        { s with ste := { s.ste with fsync := some last, missed := 0 } }
    | none => s

/-- R107: the steering engine produces a frame pulse; the frame boundary falls with it (R88). -/
def doFramePulse (t : Nat) (s : State) : State :=
  let s := s.at t
  if s.frames && s.on 9 && s.pulseFits t then
    { s with ste := { s.ste with pulse := some t, pulseDue := true, rev := 0, pulseEdge := s.edgeOf t,
                                 early := ((s.azimuth t).map (fun a => decide (2 ^ 23 ≤ a))).getD false } }
  else s

def execFramePulse (t : Nat) (s : State) : Host.Outcome State Fault Refusal := answer (doFramePulse t s)

/-- The instant of the next TSY pulse (R272): the counter's next multiple of P_F, as it slews at present (R265). -/
def State.nextTsyPulse (s : State) : Option Nat :=
  let p := s.getF F.TSY_PULSE.NS
  if p = 0 then none
  else
    let d : Int := ((s.taiNs / p + 1) * p * 65536 : Nat) - (s.time.tai : Int)
    let k : Int := s.getF F.TSY_CTL.SLEW
    let straight := (d - s.time.slew) / 65536
    let dt := if s.time.slew = 0 || (s.slewIn straight.toNat = s.time.slew) then straight
      else d * 10000 / (65536 * (if 0 < s.time.slew then 10000 + k else 10000 - k))
    some (s.now + dt.toNat)

/-- The predicted frame boundary (R453): before the first frame the next index mark, which begins it (R107); under FSYNC the rule's sum,
also while the pulse of the last accepted edge is still ahead. -/
def State.predicted (s : State) : Option Nat :=
  match s.getF F.STE_CTL.REFSRC with
  | 0 => match s.azimuth s.now, s.measRpm with
    | some az, rpm =>
      let codes := (if s.sch.frame.isNone then 1 else s.getF F.SCH_PROG.REVS - s.ste.rev) * 2 ^ 24 - az
      if rpm = 0 then none else some (s.now + codes * 60000000000 * 256 / (2 ^ 24 * rpm))
    | none, _ => none
  | 1 => match s.ste.fsync with
    | some e =>
      let (num, den) := s.framePeriod
      if num = 0 || den = 0 then none
      else
        let n := if s.ste.holdover then (s.now - e) * den / num else 0
        some (e + (n + 1) * num / den + s.offsetTime)
    | none => none
  | 2 => match s.ste.tsyPulse with
    | some p => if s.now < p + s.offsetTime then some (p + s.offsetTime) else s.nextTsyPulse.map (· + s.offsetTime)
    | none => s.nextTsyPulse.map (· + s.offsetTime)
  | _ => none

/-! ## Loop arithmetic (R109 to R114) -/

/-- Saturate to signed 32 bits, and whether it acted. -/
def sat32 (v : Int) : Int × Bool := (clampInt (-(2 ^ 31)) (2 ^ 31 - 1) v, decide (v < -(2 ^ 31)) || decide (2 ^ 31 - 1 < v))

/-- What one loop sample yields: output, integrator, error, and the flags ERR, PROP, INT, OUT and HAND. -/
structure LoopOut where
  u : Int
  int : Int
  err : Int
  ferr : Bool
  fprop : Bool
  fint : Bool
  fout : Bool
  fhand : Bool
  deriving DecidableEq, Repr

/-- One sample of a loop with error `e` (already saturated): limits `lo` to `hi` of the output and `ilo` to `ihi` of the
integrator, extra term `d` (the derivative), value `add` that a test adds to the output. `fresh`: the integrator is recomputed first
(R111, R114). -/
def loopSample (kp ki : Nat) (e d add uPrev iPrev lo hi ilo ihi : Int) (ferr fresh : Bool) : LoopOut :=
  let (p, fp) := sat32 ((kp * e) / 4096)
  let back := uPrev - p - d
  let i0 := clampInt ilo ihi back
  let hold := (decide (hi ≤ uPrev) && decide (0 < e)) || (decide (uPrev ≤ lo) && decide (e < 0))
  let step := (sat32 (iPrev + (ki * e) / 4096)).1
  let i := if fresh then i0 else if hold then clampInt ilo ihi iPrev else clampInt ilo ihi step
  let acted := hold || (if fresh then decide (i0 ≠ back) else decide (clampInt ilo ihi step ≠ step))
  let sum := p + i + d
  let v := clampInt lo hi sum + add
  let u := clampInt lo hi v
  { u := u, int := i, err := e, ferr := ferr, fprop := fp, fint := acted, fout := decide (clampInt lo hi sum ≠ sum) || decide (u ≠ v), fhand := fresh && decide (i0 ≠ back) }

/-- Set sticky flags (R110): `shift` places them in `STE_SAT`; a new one raises bit 3. -/
def State.stickySat (s : State) (f : Field) (v : Nat) : State :=
  let new := s.getF f ||| v
  if new = s.getF f then s else (s.setF f new).raiseEvt 9 3

def LoopOut.flags (o : LoopOut) : Nat :=
  (if o.ferr then 1 else 0) + (if o.fprop then 2 else 0) + (if o.fint then 4 else 0) + (if o.fout then 8 else 0)

/-! ## Tests (R120) -/

/-- The phase of a linear chirp from F0 to F1 Hz over `len` samples in sample `n`, in 2³² per turn: `rate` samples are a second. -/
def chirpPhase (f0 f1 len rate n : Nat) : Nat :=
  ((2 ^ 32 * (2 * len * f0 * n + ((f1 : Int) - f0) * n * n) / ((2 * len * rate : Nat) : Int)) % 2 ^ 32).toNat

/-- The value a test adds in sample `n` of a loop (R120): a step after F0 samples; a chirp within the amplitude, whose waveform is open; a
PRBS of the order given, plus or minus the amplitude, whose sequence is open (log entry 33). -/
def State.testValue (s : State) (loop n : Nat) : Int :=
  let amp := s.getF F.STE_TEST.AMP
  let f0 := s.getF F.STE_TEST_PAR.F0
  let f1 := s.getF F.STE_TEST_PAR.F1
  match s.getF F.STE_TEST.TYPE with
  | 0 => if f0 ≤ n then (amp : Int) else 0
  | 1 => clampInt (-(amp : Int)) amp (Config.chirpWave amp
      (chirpPhase f0 f1 (max 1 (s.getF F.STE_TEST_LEN.SAMPLES)) (if loop = 0 then 10000 else 50000) n))
  | _ => if Config.prbs f1 (n % (2 ^ f1 - 1)) then amp else -(amp : Int)

/-- The test runs on this loop in this sample. -/
def State.testSample (s : State) (loop : Nat) : Option Nat :=
  if s.flag F.STE_TEST.ARM && s.getF F.STE_TEST.LOOP = loop then
    (match s.ste.testDone with
     | some n => if n < s.getF F.STE_TEST_LEN.SAMPLES then some n else none
     | none => some 0)
  else none

/-- Capture an entry of R121. FLAGS bit 1, injection active, stands in every sample of the test, those of a step's delay F0 among them
(DESIGN CHOICE, log entry 81). -/
def State.capture (s : State) (n loop : Nat) (set fb err out : Int) (sat : Bool) : State :=
  let e : SteerEntry := {
    tai := s.taiNs, frame := s.frameNo, epoch := s.epoch, time := s.now, set := set, fb := fb, err := err, out := out,
    flags := loop + 2 + (if sat then 4 else 0) + (if n = 0 then 8 else 0) }
  { s with ste := { s.ste with entries := s.ste.entries ++ [e], testDone := some (n + 1) } }

/-- A loop sample ends: the test it belongs to captures it, and recorder source 5 takes the same entry (R121, R427). Outside a test
no record stands whose TAI its TOFF could count from (log entry 7). -/
def State.loopEntry (s : State) (test : Option Nat) (loop : Nat) (set fb err out : Int) (sat : Bool) : State :=
  match test with
  | some n =>
    let s := s.capture n loop set fb err out sat
    let first := ((s.ste.entries.head?).map SteerEntry.time).getD s.now
    match s.ste.entries.getLast? with
    | some e => s.recPush 5 (steerBytes e ((e.time - first) / 20))
    | none => s
  | none =>
    let e : SteerEntry := { tai := s.taiNs, frame := s.frameNo, epoch := s.epoch, time := s.now, set := set, fb := fb, err := err, out := out, flags := loop + (if sat then 4 else 0) }
    (s.recPush 5 (steerBytes e (s.freeNat % 2 ^ 32))).tick

/-- 8 fractional bits to 4, rounded. -/
def to4 (v : Int) : Int := (v + 8) / 16

/-! ## Loop commands -/

/-- The next ramped reference (R118): RAMP rpm per second towards TARGET. -/
def State.ramped (s : State) : Int :=
  let target : Int := s.getF F.STE_RPM.TARGET * 256 * 10000
  let step : Int := s.getF F.STE_RPM.RAMP * 256
  if s.ste.refRpm < target then min target (s.ste.refRpm + step) else max target (s.ste.refRpm - step)

/-- The mode of R108 for the next sample, with the start of the dwell. -/
def State.loopMode (s : State) : Bool × Option Nat :=
  match s.getF F.STE_CTL.MODE with
  | 1 => (s.getF F.STE_CTL.REFSRC ≠ 0, none)
  | 2 =>
    if s.getF F.STE_CTL.REFSRC = 0 then (false, none)
    else
      let target := s.getF F.STE_RPM.TARGET * 256
      let diff := ((s.getF F.STE_SPEED.RPM : Int) - target).natAbs
      if s.ste.lock then (decide (diff * 1000000 ≤ 4 * s.getF F.STE_BAND.SP_TOL * target), none)
      else if s.speedIn then
        let since := s.ste.dwell.getD s.now
        (s.flag F.STE_STAT.REF_OK && decide (since + s.getF F.STE_LOCK.DWELL * 1000000 ≤ s.now), some since)
      else (false, none)
  | _ => (false, none)

/-- R106, R108 to R111: a sample of the polygon loop. -/
def doPolygonLoopSample (t : Nat) (s : State) : State :=
  let s := s.at t
  if !s.frames || !s.on 9 then s
  else
    let s := if s.getF F.STE_CTL.REFSRC = 1 && decide (s.ste.missed < s.overdueEdges) then s.missEdges s.overdueEdges else s
    let ref := s.ramped
    let there := decide (ref = ((s.getF F.STE_RPM.TARGET * 256 * 10000 : Nat) : Int))
    let (lock, dwell) := s.loopMode
    let changed := lock != s.ste.lock
    let s := { s with ste := { s.ste with refRpm := ref, lock := lock, dwell := dwell,
                                          rampedAt := if there then some (s.ste.rampedAt.getD s.now) else none } }
    let s := s.setB F.STE_STAT.LOCK lock
    let s := if changed then s.raiseEvt 9 1 else s
    let s := if !lock then s.setF F.STE_PHERR.CODES 0 else if changed && s.ste.indexed then s.setI F.STE_PHERR.CODES (s.phaseErr s.ste.idxAt) else s
    let test := s.testSample 0
    let add := match test with | some n => s.testValue 0 n | none => 0
    let atSet := s.getF F.STE_TEST.POINT = 0
    let set := s.refRpm + (if atSet then add * 256 else 0)
    let (e1, f1) := sat32 (set - s.getF F.STE_SPEED.RPM)
    let (e, f2) := if lock then sat32 (e1 + (s.getF F.STE_LOCK.KPH * s.getI F.STE_PHERR.CODES) / 65536) else (e1, false)
    let olim : Int := s.getF F.STE_PG_LIM.OLIM
    let o := loopSample (s.getF F.STE_PG_GAIN.KP) (s.getF F.STE_PG_GAIN.KI) e 0 (if atSet then 0 else add) s.ste.pgPrev s.ste.pgInt 0 olim 0
      (s.getF F.STE_PG_LIM.ILIM) (f1 || f2) (changed || s.ste.pgNew)
    let s := { s with ste := { s.ste with pgPrev := o.u, pgInt := o.int, pgNew := false } }
    let s := s.stickySat F.STE_SAT.PG o.flags
    let s := if o.fhand then s.stickySat F.STE_SAT.HAND 1 else s
    let s := s.loopEntry test 0 (to4 set) (to4 (s.getF F.STE_SPEED.RPM)) (to4 o.err) o.u (o.flags != 0)
    s.judgeIlk.updateValid

def execPolygonLoopSample (t : Nat) (s : State) : Host.Outcome State Fault Refusal := answer (doPolygonLoopSample t s)

/-- Feedback in tilt units (R113's table): (raw × GAIN) >> 14 + OFS. -/
def State.tiltUnits (s : State) (raw : Int) : Int :=
  clampInt (-32768) 32767 ((raw * s.getF F.STE_GV_CAL.GAIN) / 16384 + s.getI F.STE_GV_CAL.OFS)

/-- R112, R113: a sample of the galvo loop: `raw` is the encoder's count, which GV_FB may give up for the sensor's entry, which HKA converts
at every sample (R402). DESIGN CHOICE (log entry 81): the derivative on measurement is KD × (position − previous position) ÷ 4096, rounded
down and then taken off p + I, and taken off in the recomputation of the integrator too. -/
def doGalvoLoopSample (t : Nat) (raw : Int) (s : State) : State :=
  let s := s.at t
  if !s.frames || !s.on 9 then s
  else
    let pos := s.tiltUnits (if s.flag F.STE_CTL.GV_FB then s.hkaResult (s.getF F.STE_CTL.GV_HKA) else raw)
    let test := s.testSample 1
    let add := match test with | some n => s.testValue 1 n | none => 0
    let atSet := s.getF F.STE_TEST.POINT = 0
    let sp := if s.getF F.STE_CTL.GV_SRC = 1 then s.tiltUnits (s.hkaResult (s.getF F.STE_CTL.GV_HKA)) else s.ste.tilt
    let set := sp + (if atSet then add else 0)
    let (e, fe) := sat32 (set - pos)
    let olim : Int := min 32767 (s.getF F.STE_GV_LIM.OLIM)
    let ilim : Int := s.getF F.STE_GV_LIM.ILIM
    let d := -((s.getF F.STE_GV_KD.KD * (pos - s.ste.gvMeas)) / 4096)
    let o := loopSample (s.getF F.STE_GV_GAIN.KP) (s.getF F.STE_GV_GAIN.KI) e d (if atSet then 0 else add) s.ste.gvPrev s.ste.gvInt (-olim) olim (-ilim) ilim
      fe s.ste.gvNew
    let quiet := raw = s.ste.gvRaw && decide (olim ≤ (o.u.natAbs : Int))
    let settled := if e.natAbs ≤ s.getF F.STE_GV_TOL.SETTLE then min 20 (s.ste.settled + 1) else 0
    let far := decide (s.getF F.STE_ENC.GV_STALL < e.natAbs)
    let s := { s with ste := { s.ste with gvPrev := o.u, gvInt := o.int, gvNew := false, gvMeas := pos, settled := settled,
                                          gvRaw := raw, gvQuiet := if quiet then some (s.ste.gvQuiet.getD s.now) else none,
                                          stall := if far then some (s.ste.stall.getD s.now) else none } }
    let s := (s.setI F.STE_GV_POS.POS pos).setI F.STE_GV_POS.ERR e
    let s := s.stickySat F.STE_SAT.GV o.flags
    let s := if o.fhand then s.stickySat F.STE_SAT.HAND 1 else s
    let s := s.loopEntry test 1 set pos o.err o.u (o.flags != 0)
    s.hkaInsert.judgeIlk.updateValid

def execGalvoLoopSample (t : Nat) (raw : Int) (s : State) : Host.Outcome State Fault Refusal := answer (doGalvoLoopSample t raw s)

/-! ## Interlock and timeouts -/

/-- The condition of a cause holds: it trips the armed interlock; unarmed it is reported only (R116, R117). -/
def State.interlockCause (s : State) (cause : Nat) : State :=
  let s := s.setCond cause true
  if s.emitting then s.tripIlk cause else s.updateValid

/-- R117: one of the five causes trips the interlock. -/
def doInterlockTrip (cause : Fin 5) (t : Nat) (s : State) : State :=
  let s := s.at t
  if !s.frames || !s.on 9 then s else s.interlockCause (cause.val + 1)

def execInterlockTrip (cause : Fin 5) (t : Nat) (s : State) : Host.Outcome State Fault Refusal := answer (doInterlockTrip cause t s)

/-- R116 cause 4: the error has been above the limit for STALL ms; the interlock trips when it is armed (R117). -/
def doGalvoStallExpiry (t : Nat) (s : State) : State :=
  let s := s.at t
  match s.ste.stall with
  | some since =>
    if s.frames && s.on 9 && decide (since + s.getF F.STE_ILK.STALL * 1000000 ≤ s.now) then s.interlockCause 4 else s
  | none => s

def execGalvoStallExpiry (t : Nat) (s : State) : Host.Outcome State Fault Refusal := answer (doGalvoStallExpiry t s)

/-- R118: `RUN` has not been reached in time. -/
def doSpinupTimeout (t : Nat) (s : State) : State :=
  let s := s.at t
  if s.dev = .spinup && decide (s.ste.spinAt + s.getF F.STE_TMO.SPIN * 10000000 ≤ s.now) then s.enterSafe 0x27 [] else s

def execSpinupTimeout (t : Nat) (s : State) : Host.Outcome State Fault Refusal := answer (doSpinupTimeout t s)

/-- R119: `TRANSITION` is still set TRANS × 10 ms after ref_rpm reached TARGET. -/
def doTransitionTimeout (t : Nat) (s : State) : State :=
  let s := s.at t
  match s.ste.rampedAt with
  | some r =>
    if s.emitting && s.ste.transition && decide (r + s.getF F.STE_TMO.TRANS * 10000000 ≤ s.now) then s.enterSafe 0x27 [] else s
  | none => s

def execTransitionTimeout (t : Nat) (s : State) : Host.Outcome State Fault Refusal := answer (doTransitionTimeout t s)

/-! ## Steering records (R121) -/

/-- R121: a record closes at 64 entries or 10 ms after its first. -/
def doSteeringRecordClose (t : Nat) (s : State) : State :=
  let s := s.at t
  match s.ste.entries with
  | [] => s
  | e :: _ => if 64 ≤ s.ste.entries.length || decide (e.time + 10000000 ≤ s.now) then s.closeSteering else s

def execSteeringRecordClose (t : Nat) (s : State) : Host.Outcome State Fault Refusal := answer (doSteeringRecordClose t s)

/-- R120: the test has run its length. -/
def doSteeringTestComplete (t : Nat) (s : State) : State :=
  let s := s.at t
  match s.ste.testDone with
  | some n =>
    if s.flag F.STE_TEST.ARM && decide (s.getF F.STE_TEST_LEN.SAMPLES ≤ n) then
      let s := s.closeSteering
      let s := { s with ste := { s.ste with testDone := none } }
      ((s.setF F.STE_TEST.ARM 0).setF F.STE_STAT.TEST 0).raiseEvt 9 4
    else s
  | none => s

def execSteeringTestComplete (t : Nat) (s : State) : Host.Outcome State Fault Refusal := answer (doSteeringTestComplete t s)

end Sys2Proof.Machine
end

