-- ==== Sys2Proof/Machine/Trig.lean ====
section
/-! DEFINITION. The angle functions of R221 in fixed point with 48 fractional bits, on angles in azimuth codes (2²⁴ per
turn). Their own error is far below the 2 codes that R221 allows the device. -/

namespace Sys2Proof.Machine

def one48 : Int := 2 ^ 48
/-- π with 48 fractional bits. -/
def pi48 : Int := 884279719003555

/-- Product of two fixed-point numbers. -/
def mul48 (a b : Int) : Int := a * b / one48

/-- The sum term − term·x²/(n(n+1)) + … of a Taylor series, `fuel` terms. -/
def taylor (x2 : Int) : Nat → Int → Nat → Int
  | 0, _, _ => 0
  | fuel + 1, term, n => term + taylor x2 fuel (-(mul48 term x2) / ((n * (n + 1) : Nat) : Int)) (n + 2)

/-- Sine and cosine of an angle from 0 to a quarter turn, in radians. -/
def sinQ (x : Int) : Int := taylor (mul48 x x) 16 x 2
def cosQ (x : Int) : Int := taylor (mul48 x x) 16 one48 1

/-- Sine and cosine of an angle in codes. -/
def sinCos (a : Int) : Int × Int :=
  let u := (a % 2 ^ 24).toNat
  let x : Int := (u % 2 ^ 22 : Nat) * pi48 / 2 ^ 23
  match u / 2 ^ 22 with
  | 0 => (sinQ x, cosQ x)
  | 1 => (cosQ x, -(sinQ x))
  | 2 => (-(sinQ x), -(cosQ x))
  | _ => (-(cosQ x), sinQ x)

/-- The series x − x³/3 + x⁵/5 − …, `fuel` terms. -/
def atanSeries (x2 : Int) : Nat → Int → Nat → Int
  | 0, _, _ => 0
  | fuel + 1, p, n => p / (n : Int) + atanSeries x2 fuel (-(mul48 p x2)) (n + 2)

/-- Arc tangent of 0 ≤ x ≤ 1. -/
def atan48 (x : Int) : Int :=
  if x < 116590752822204 then atanSeries (mul48 x x) 24 x 1
  else
    let y := (one48 - x) * one48 / (one48 + x)
    pi48 / 4 - atanSeries (mul48 y y) 24 y 1

/-- The angle of (x, y) in radians, from −π to π. -/
def atan2r (y x : Int) : Int :=
  let ax : Int := x.natAbs
  let ay : Int := y.natAbs
  let base := if ax = 0 && ay = 0 then 0
    else if ay ≤ ax then atan48 (ay * one48 / ax) else pi48 / 2 - atan48 (ax * one48 / ay)
  let half := if x < 0 then pi48 - base else base
  if y < 0 then -half else half

/-- Radians to the nearest code. -/
def toCodes (r : Int) : Int := (r * 2 ^ 24 + pi48) / (2 * pi48)

def atan2Codes (y x : Int) : Int := toCodes (atan2r y x)
/-- Arc sine of z in codes. -/
def asinCodes (z : Int) : Int := toCodes (atan2r z (Nat.sqrt (one48 * one48 - z * z).toNat))

/-- R221: Rz(ψ) Ry(β) Rx(α) of the unit vector with azimuth φ and elevation θ. -/
def directionOf (phi theta alpha beta psi : Int) : Int × Int × Int :=
  let (sp, cp) := sinCos phi
  let (st, ct) := sinCos theta
  let (sa, ca) := sinCos alpha
  let (sb, cb) := sinCos beta
  let (sy, cy) := sinCos psi
  let x := mul48 ct cp
  let y := mul48 ct sp
  let z := st
  let y1 := mul48 ca y - mul48 sa z
  let z1 := mul48 sa y + mul48 ca z
  let x2 := mul48 cb x + mul48 sb z1
  let z2 := mul48 cb z1 - mul48 sb x
  (mul48 cy x2 - mul48 sy y1, mul48 sy x2 + mul48 cy y1, z2)

end Sys2Proof.Machine
end

