-- ==== Sys2Proof/Machine/Crema.lean ====
section
/-! DEFINITION. Return extraction and point output (chapter 10): peaks, ranges, intensities, classes, directions, and the records
and frame headers that carry them. -/

namespace Sys2Proof.Machine

/-! ## Peaks (R209) -/

/-- The CRM settings a measurement is extracted with (R207): those of its own frame's epoch. -/
structure CremaCfg where
  min : Nat
  k : Nat
  maxRet : Nat
  persistT : Nat
  zoom : Bool
  half : Nat
  satl : Nat
  td : Nat
  bins : Nat
  xt : Nat
  rainW : Nat
  rainI : Nat
  rainR : Nat
  persistR : Nat
  deriving DecidableEq, Repr

def State.cremaCfg (s : State) (e : Nat) : CremaCfg :=
  { min := s.getAt e F.CRM_DET.MIN, k := s.getAt e F.CRM_DET.K, maxRet := s.getAt e F.CRM_DET.MAXRET,
    persistT := s.getAt e F.CRM_CENT.PERSIST_T, zoom := s.getAt e F.CRM_CENT.ZOOM = 1, half := s.getAt e F.CRM_CENT.HALF,
    satl := s.getAt e F.CRM_PILE.SATL, td := s.getAt e F.CRM_PILE.TD, bins := s.getAt e F.CRM_PILE.BINS,
    xt := s.getAt e F.CRM_CLASS.XT, rainW := s.getAt e F.CRM_CLASS.RAIN_W, rainI := s.getAt e F.CRM_CLASS.RAIN_I,
    rainR := s.getAt e F.CRM_RAIN.RAIN_R, persistR := s.getAt e F.CRM_RAIN.PERSIST_R }

/-- K × isqrt(3 × BASE), the noise term of the threshold. -/
def noiseTerm (c : CremaCfg) (m : Meas) : Nat := c.k * Nat.sqrt (3 * m.base)
/-- The detection threshold T. -/
def threshold (c : CremaCfg) (m : Meas) : Nat := 16 * c.min + noiseTerm c m
/-- The net three-bin sum s[i] in 1/256 weight; a bin outside the histogram counts 0 (log entry 30). -/
def Meas.net (m : Meas) (i : Nat) : Int := ((16 * m.sum3 i : Nat) : Int) - ((3 * m.base : Nat) : Int)

/-- The kept peaks, largest s first, the lower bin first where equal. -/
def Meas.peaks (m : Meas) (c : CremaCfg) : List Nat :=
  let found := (List.range (m.nbins - 2)).filterMap (fun j =>
    let i := j + 1
    if m.net (i - 1) < m.net i && decide (m.net (i + 1) ≤ m.net i) && decide (((threshold c m : Nat) : Int) ≤ m.net i) then
      some (m.net i, i) else none)
  ((found.foldl (fun l x => insertScore x l) []).take c.maxRet).map (·.2)

/-! ## Range (R211 to R213) -/

/-- The candidate whose window a peak uses: peaks come largest s first, so an earlier peak has the better claim. -/
def Meas.matchOf (m : Meas) (c : CremaCfg) (taken : List Nat) (b : Nat) : Option Nat :=
  if m.zfrom = 0x3F || m.zoomFault || !c.zoom then none
  else (List.range m.cands.length).find? (fun i =>
    !taken.contains i && decide (nth 0 m.cands i ≤ b + 1) && decide (b ≤ nth 0 m.cands i + 1))

/-- Net value of a zoom bin, 1/2048 weight, and of a coarse bin. -/
def Meas.zoomNet (m : Meas) (i j : Nat) : Int := ((128 * countAt (i * 64 + j) m.zoom : Nat) : Int) - m.base
def Meas.coarseNet (m : Meas) (j : Nat) : Int := ((16 * m.bin j : Nat) : Int) - m.base

/-- The lowest zoom bin with the largest net value. -/
def Meas.zoomPeak (m : Meas) (i : Nat) : Nat :=
  (List.range 64).foldl (fun b j => if m.zoomNet i b < m.zoomNet i j then j else b) 0

/-- Σ n and Σ n·(2j + 1) over the positive values of a list of bins. -/
def centroid (js : List Nat) (n : Nat → Int) : Int × Int :=
  js.foldl (fun (a : Int × Int) j => if 0 < n j then (a.1 + n j, a.2 + n j * (2 * j + 1 : Nat)) else a) (0, 0)

/-- The bins of the centroid span around `js`. -/
def spanOf (half js : Nat) : List Nat := (List.range 64).filter (fun j => decide (js ≤ j + half) && decide (j ≤ js + half))

/-- tau_q8 of a peak and whether it is zoomed. A division by a zero sum has no stated result: an open value (log entry 7). -/
def Meas.tau (m : Meas) (c : CremaCfg) (cand : Option Nat) (b open_ : Nat) : Int × Bool :=
  let free : Int := ((open_ % (m.nbins * 16384) : Nat) : Int)
  let coarse :=
    let (n, mm) := centroid [b - 1, b, b + 1] m.coarseNet
    if n = 0 then free else truncDiv (8192 * mm) n
  match cand with
  | some i =>
    let js := m.zoomPeak i
    if js = 0 || js = 63 then (coarse, false)
    else
      let (n, mm) := centroid (spanOf c.half js) (m.zoomNet i)
      if n = 0 then (free, true) else ((((nth 0 m.cands i * 64 : Nat) : Int) - 224) * 256 + truncDiv (1024 * mm) n, true)
  | none => (coarse, false)

/-- ρ in 0.5 mm, with an error of up to 0.05 units before rounding (log entry 26), before the offset. -/
def rangeUnits (tau : Int) (sLsb : Nat) (err : Int) : Int :=
  let num := (tau + (sLsb * 256 : Nat)) * 299792458 * 78125
  let den : Int := 256 * 10000000000000
  (200 * num + 2 * (err % 11 - 5) * den + 100 * den) / (200 * den)

/-! ## Returns (R214 to R217) -/

/-- A return of a measurement. `cls`: 0 solid, 1 rain or dust, 2 crosstalk, 3 sun-limited. -/
structure Return where
  bin : Nat
  cand : Option Nat
  zoomed : Bool
  tau : Int
  rho : Int
  sum : Int
  intensity : Nat
  saturated : Bool
  cls : Nat
  deriving DecidableEq, Repr

/-- Contributing pulses of a measurement. -/
def Meas.good (m : Meas) : List PulseResult := m.pulseInfo.filter (fun r => r.status ≠ 2)
/-- Mean relative energy of the contributing pulses, truncated. -/
def Meas.meanEnergy (m : Meas) : Nat := (m.good.map PulseResult.energy).sum / m.good.length
/-- Mean emission instant of the contributing pulses, LSB, rounded down. -/
def Meas.meanInstant (m : Meas) : Int := (m.good.map PulseResult.instant).sum / (m.good.length : Int)

/-- Live fraction before the clamp. -/
def liveFraction (c : CremaCfg) (m : Meas) (rAll b : Nat) : Int :=
  let lam : Int := ((65536 * 2560000 / (2560000 + rAll * c.td) : Nat) : Int)
  let bins := (List.range (c.bins - 1)).filterMap (fun j => if c.bins ≤ b + j then some (b + j - c.bins) else none)
  let d : Int := ((bins.map (fun j => 16 * m.bin j)).sum : Nat) - (((c.bins - 1) * m.base : Nat) : Int)
  if 0 < d then lam - truncDiv (d * 256) m.used else lam

/-- I of R214; without energy there is no stated result, and the value is open (log entry 7). -/
def intensityOf (m : Meas) (sum lam : Int) (open_ : Nat) : Nat :=
  let den := (m.used : Int) * clampInt 4096 65536 lam * m.meanEnergy
  if den = 0 then open_ % 4096 else min 4095 (truncDiv (sum * 2 ^ 32) den).toNat

/-- The returns of one measurement, unclassified, by ascending range (R210). -/
def State.rawReturns (s : State) (m : Meas) : List Return :=
  if m.chFault || m.tileFault then []
  else
    let c := s.cremaCfg m.epoch
    let sLsb := s.getAt m.epoch F.GRN_START.OFS * 2048
    let ofs := signed 24 (s.getAt m.epoch F.CRM_RANGE_OFS.OFS)
    let step := fun (a : List Return × List Nat) (b : Nat) =>
      let cand := m.matchOf c a.2 b
      let (tau, zoomed) := m.tau c cand b s.freeNat
      let lam := liveFraction c m m.rAll b
      let sum := m.net b
      let r : Return := {
        bin := b, cand := cand, zoomed := zoomed, tau := tau,
        rho := rangeUnits tau sLsb (Config.boundedError (s.free + b)) + ofs, sum := sum, intensity := intensityOf m sum lam s.freeNat,
        saturated := decide (lam < ((c.satl * 256 : Nat) : Int)) || decide (((15 * m.used * s.weight m.epoch 15 : Nat) : Int) ≤ sum), cls := 0 }
      (a.1 ++ [r], match cand with | some i => a.2 ++ [i] | none => a.2)
    let rs := ((m.peaks c).foldl step ([], [])).1
    rs.foldl (fun l r => (l.takeWhile (fun x => decide (x.tau ≤ r.tau))) ++ [r] ++ (l.dropWhile (fun x => decide (x.tau ≤ r.tau)))) []

/-- SUPPORT of a candidate (R197). -/
def Meas.support (m : Meas) (i : Nat) : Nat := (m.hits.filter (fun h => h / 64 = i)).length

def isCrosstalk (c : CremaCfg) (m : Meas) (r : Return) : Bool :=
  match r.cand with
  | some i => r.zoomed && decide (4 ≤ m.zpulses) && decide (m.support i * 256 < m.zpulses * c.xt)
  | none => false

def isSpread (c : CremaCfg) (m : Meas) (r : Return) : Bool :=
  match r.zoomed, r.cand with
  | true, some i =>
    let js := m.zoomPeak i
    decide (c.rainW < ((spanOf c.half js).filter (fun j => decide (m.zoomNet i js ≤ 2 * m.zoomNet i j))).length)
  | _, _ =>
    let n := fun j => max 0 (m.coarseNet j)
    decide (2 * n r.bin < n (r.bin - 1) + n (r.bin + 1))

/-- One of `others` lies within PERSIST_R of ρ. -/
def isNear (c : CremaCfg) (rho : Int) (others : List Nat) : Bool :=
  others.any (fun o => decide ((rho - o).natAbs ≤ c.persistR))

/-- The class of a return (R217). `others`: ranges that count for persistence. -/
def classOf (c : CremaCfg) (m : Meas) (all : List Return) (others : List Nat) (r : Return) : Nat :=
  let early := decide (r.rho < ((c.rainR * 200 : Nat) : Int)) || all.any (fun x => decide (r.rho < x.rho) && decide (r.intensity < x.intensity))
  if isCrosstalk c m r then 2
  else if decide (r.intensity < c.rainI) && (isSpread c m r || early) && !isNear c r.rho others then 1
  else if decide (16 * c.min < noiseTerm c m) && decide (r.sum < ((2 * threshold c m : Nat) : Int)) then 3
  else 0

/-- Ranges of the returns that are not discarded. -/
def keptRanges (rs : List Return) : List Nat := (rs.filter (fun r => decide (0 ≤ r.rho))).map (fun r => r.rho.toNat)

/-! ## Direction (R219 to R222) -/

/-- The bank that governed an epoch. -/
def State.bankOf (s : State) (epoch : Nat) : Nat := s.getAt epoch F.SCH_BANK.SEL

/-- The deflection in use for an instant (R220), and zero where stale or not enabled. -/
def State.deflection (s : State) (epoch : Nat) (ns : Int) : Int × Int × Int :=
  if s.getAt epoch F.CRM_MOUNT.EN = 0 || s.flag F.CRM_MOUNT.STALE then (0, 0, 0)
  else ((s.crm.triples.find? (fun t => decide ((t.1 : Int) < ns))).map (·.2)).getD (0, 0, 0)

/-- The last slot at or before an instant and the one after it, with the azimuth estimate and the TAI counter of each. -/
def bracket (ns : Nat) : List (Nat × (Int × Nat)) → Option ((Nat × (Int × Nat)) × (Nat × (Int × Nat)))
  | b :: a :: l => if a.1 ≤ ns then (if ns < b.1 then some (a, b) else none) else bracket ns (a :: l)
  | _ => none

/-- The azimuth estimate at an instant in LSB, interpolated between slots (R219). -/
def State.azimuthOf (s : State) (lsb : Int) : Int :=
  match bracket (lsb / 128).toNat s.sch.track with
  | some (a, b) =>
    let turn := (b.2.1 - a.2.1) % 2 ^ 24
    a.2.1 + turn * (lsb - (a.1 * 128 : Nat)) / ((b.1 - a.1) * 128 : Nat)
  | none => s.azimuthAt (lsb / 128)

/-- Time from the TAI start of a frame to an instant in LSB, in 2⁻¹⁶ ns (R222). -/
def State.sinceFrame (s : State) (f : FrameInfo) (lsb : Int) : Int :=
  match bracket (lsb / 128).toNat s.sch.track with
  | some (a, b) =>
    (a.2.2 : Int) + ((b.2.2 : Int) - a.2.2) * (lsb - (a.1 * 128 : Nat)) / ((b.1 - a.1) * 128 : Nat) - (f.tai * 65536 : Nat)
  | none => (lsb - (f.start * 128 : Nat)) * 512

/-- Beam azimuth and elevation of a measurement (R219). -/
def State.beam (s : State) (m : Meas) : Int × Int :=
  let e := m.epoch
  let facets := s.getAt e F.SCH_PROG.FACETS
  let f := m.pass % facets
  let line := m.chan / 8
  let i16 := fun fl => signed 16 (s.getAt e fl)
  let a := s.azimuthOf m.meanInstant
  let az := 2 * (a - s.facetMark e f - ((2 ^ 23 / facets : Nat) : Int)) + 16 * (i16 (F.CRM_LINE.AZ.idx line) + i16 (F.CRM_SUB.AZ.idx (m.chan % 8)))
  let el := 16 * (i16 (F.CRM_LINE.EL.idx line) + i16 (F.CRM_SUB.EL.idx (m.chan % 8))) + signed 24 (s.getAt e (F.CRM_FACET_EL.EL.idx f))
    + (i16 F.CRM_GV_EL.GAIN * m.tilt) / 256
  (az, el)

/-- The rotated unit vector of a measurement (R221). -/
def State.direction (s : State) (m : Meas) : Int × Int × Int :=
  let (phi, theta) := s.beam m
  let (r, p, y) := s.deflection m.epoch (m.meanInstant / 128)
  let ang := fun fl => signed 24 (s.getAt m.epoch fl)
  directionOf phi theta (ang F.CRM_BS_ROLL.ANGLE + r) (ang F.CRM_BS_PITCH.ANGLE + p) (ang F.CRM_BS_YAW.ANGLE + y)

/-! ## Records (R224 to R226, R229, R230) -/

/-- The frame a number names, open or past. -/
def State.frameInfo (s : State) (f : Nat) : Option FrameInfo := (s.sch.past ++ s.sch.frame.toList).find? (fun x => x.num = f)

/-- Bytes 6 to 15 of the POINTS layout: CHANNEL through FACET. -/
def pointTail (m : Meas) (r : Return) (idx toff facet : Nat) (elev : Int) : List Byte :=
  let flags := 2 ^ r.cls + (if r.saturated then 16 else 0) + (if m.cls = 0 then 32 else 0) + (if r.zoomed then 64 else 0) + (if m.est then 128 else 0)
  leBytes 3 (m.chan + idx * 2 ^ 10 + r.intensity * 2 ^ 12) ++ leBytes 1 flags ++ leBytes 3 toff ++ leBytes 2 (unsigned 16 elev) ++ leBytes 1 facet

/-- Elevation fine offset in 16 codes, and whether it saturated (R221). -/
def elevOf (codes lineEl : Int) : Int × Bool :=
  let v := (codes + 8) / 16 - lineEl
  (clampInt (-32767) 32767 v, decide (v < -32767) || decide (32767 < v))

/-- The point records of a return: POINTS, POINTS_XYZ, and whether the elevation saturated. -/
def State.pointBytes (s : State) (m : Meas) (r : Return) (idx : Nat) : List Byte × List Byte × Bool :=
  let (x, y, z) := s.direction m
  let err := fun k => Config.boundedError (s.free + 8 * r.bin + k)
  let az := atan2Codes y x + (err 1 % 5 - 2)
  let (elev, sat) := elevOf (asinCodes z + (err 2 % 5 - 2)) (signed 16 (s.getAt m.epoch (F.CRM_LINE.EL.idx (m.chan / 8))))
  let toff := match s.frameInfo m.frame with
    | some f => (s.sinceFrame f m.meanInstant / (16 * 65536)).toNat
    | none => 0
  let tail := pointTail m r idx toff (m.pass % s.getAt m.epoch F.SCH_PROG.FACETS) elev
  let pos := fun (u : Int) (fl : Field) (k : Nat) =>
    leBytes 4 (unsigned 32 ((r.rho * u + one48 / 2) / one48 + signed 32 (s.getAt m.epoch fl) + (err k % 3 - 1)))
  (leBytes 3 r.rho.toNat ++ leBytes 3 (unsigned 24 az) ++ tail,
   pos x F.CRM_BS_TX.T 3 ++ pos y F.CRM_BS_TY.T 4 ++ pos z F.CRM_BS_TZ.T 5 ++ tail ++ leBytes 2 0, sat)

/-- One token of R230, or a run of zero deltas. -/
def deltaTokens : Nat → List Nat → List Byte
  | run, [] => if run = 0 then [] else [BitVec.ofNat 8 (128 + run - 1)]
  | run, z :: t =>
    if z = 0 then (if run = 63 then BitVec.ofNat 8 (128 + 63) :: deltaTokens 0 t else deltaTokens (run + 1) t)
    else
      let before := if run = 0 then [] else [BitVec.ofNat 8 (128 + run - 1)]
      let tok := if z < 128 then [BitVec.ofNat 8 z] else [BitVec.ofNat 8 (192 + z / 256), BitVec.ofNat 8 z]
      before ++ tok ++ deltaTokens 0 t

/-- Zigzag deltas of a run of bins, the previous bin 0 at its start. -/
def zigzags : Nat → List Nat → List Nat
  | _, [] => []
  | prev, b :: t => (if b < prev then 2 * (prev - b) - 1 else 2 * (b - prev)) :: zigzags b t

def encodeBins (bins : List Nat) : List Byte := deltaTokens 0 (zigzags 0 bins)

/-- The zoom section of part 0. -/
def Meas.zoomSection (m : Meas) : List Byte :=
  let one := fun i => leBytes 2 (nth 0 m.cands i) ++ leBytes 1 (m.support i) ++ leBytes 1 0 ++
    encodeBins ((List.range 64).map (fun j => countAt (i * 64 + j) m.zoom))
  let n := if m.zfrom = 0x3F || m.zoomFault then 0 else m.cands.length
  leBytes 1 (if m.zfrom = 0x3F then 0 else m.zpulses) ++ leBytes 1 0 ++ ((List.range n).map one).flatten

/-- The status of a measurement as a HIST record and a P0 descriptor carry it. -/
def Meas.status (m : Meas) : Nat :=
  let bit := fun (b : Bool) (n : Nat) => if b then 2 ^ n else 0
  bit m.est 0 + bit m.absent 1 + bit m.nocand 2 + bit m.late 3 + bit m.chFault 4 + bit m.tileFault 5 + bit m.zoomFault 6 + bit m.lost 7

/-- A HIST part (R229). -/
def State.histPart (s : State) (m : Meas) (part : Nat) : List Byte :=
  let coarse := encodeBins ((List.range 4096).map (fun i => m.bin (part * 4096 + i)))
  let zoom := if part = 0 then m.zoomSection else []
  let bit := fun (b : Bool) (n : Nat) => if b then 2 ^ n else 0
  let nz := if part = 0 && m.zfrom ≠ 0x3F && !m.zoomFault then m.cands.length else 0
  leBytes 4 m.frame ++ leBytes 4 m.epoch ++ leBytes 2 (m.chan + m.cls * 1024 + part * 8192 + bit m.two 14) ++ leBytes 3 m.train
    ++ leBytes 1 m.pulses ++ leBytes 1 m.used ++ leBytes 1 m.zfrom ++ leBytes 2 m.status ++ leBytes 2 m.base ++ leBytes 2 m.lostCnt
    ++ leBytes 2 m.group ++ leBytes 1 (s.getAt m.epoch F.GRN_START.OFS) ++ leBytes 1 (2 ^ nz - 1) ++ leBytes 2 coarse.length
    ++ leBytes 2 zoom.length ++ leBytes 2 0 ++ coarse ++ zoom

/-- Commit a record of a measurement; a slot in `HELD` is cleared when its last HIST part is committed (R187). -/
def State.commitHeld (s : State) (h : HeldRec) : State :=
  let rc := if h.cls = 3 then none else some h.rcls
  let s := s.commitSel h.cls h.kind h.bytes (fun q => q.filterOk h.ch h.pcls rc h.frame)
  match h.slot with
  | some n => match tabFind n s.grn.slots with
    | some m => if m.state = 4 then s.setMeas n { m with state := 5 } else s
    | none => s
  | none => s

/-- The header that opens a frame has been committed (R228). -/
def State.headerOut (s : State) (frame : Nat) : Bool := ((s.frameInfo frame).map FrameInfo.opened).getD true

/-- A record of a measurement: committed after its frame's header, held before. -/
def State.putRecord (s : State) (h : HeldRec) : State :=
  if s.headerOut h.frame then s.commitHeld h else { s with crm := { s.crm with held := s.crm.held ++ [h] } }

/-! ## Extraction (R207, R208) -/

def State.cremaCount (s : State) (frame kind n : Nat) : State :=
  { s with crm := { s.crm with counts := addCount (frame * 8 + kind) n s.crm.counts } }

/-- The point records of one classified return. -/
def State.putReturn (s : State) (m : Meas) (r : Return) (idx : Nat) : State :=
  let s := ((s.cremaCount m.frame 0 1).cremaCount m.frame (1 + r.cls) 1).cremaCount m.frame 5 (if r.saturated then 1 else 0)
  if r.rho < 0 then (s.cremaCount m.frame 6 1).raiseEvt 15 3
  else
    let (pt, xyz, sat) := s.pointBytes m r idx
    let s := if sat then (s.cremaCount m.frame 7 1).raiseEvt 15 2 else s
    if (s.getAt m.epoch F.CRM_OUT.PCLASS).testBit m.cls && (s.getAt m.epoch F.CRM_OUT.RCLASS).testBit r.cls then
      let h : HeldRec := { frame := m.frame, cls := 1, kind := 2, bytes := pt, ch := m.chan, pcls := m.cls, rcls := r.cls, slot := none }
      (s.putRecord h).putRecord { h with cls := 2, kind := 3, bytes := xyz }
    else s

/-- The P0 descriptor for channel A (R208). -/
def State.putDescriptor (s : State) (m : Meas) (rs : List Return) : State :=
  if m.cls = 0 && s.gradeS && s.on 1 then
    let d : P0Desc := {
      chan := m.chan, frame := m.frame, status := m.status, ray := { pass := m.pass, step := m.step, pos := m.pos, slot := m.lineSlot, off := m.chan % 8 },
      used := m.used, fault := m.chFault || m.tileFault, closedAt := m.closedAt,
      returns := (rs.filter (fun r => decide (0 ≤ r.rho))).map (fun r => (r.rho.toNat, r.cls)) }
    { s with saf := { s.saf with descs := s.saf.descs ++ [d] } }
  else s

/-- The HIST record of a measurement, its slot kept until it is committed (R187). -/
def State.putHist (s : State) (slot : Nat) (m : Meas) : State :=
  if m.hist then
    let s := s.setMeas slot { m with state := 4 }
    let h : HeldRec := { frame := m.frame, cls := 3, kind := 4, bytes := s.histPart m 0, ch := m.chan, pcls := m.cls, rcls := 0,
                         slot := if m.two then none else some slot }
    let s := s.putRecord h
    if m.two then s.putRecord { h with bytes := s.histPart m 1, slot := some slot } else s
  else s.setMeas slot { m with state := 5 }

/-- Ranges that count for the persistence of a measurement (R216, R218). -/
def State.persistRanges (s : State) (c : CremaCfg) (m : Meas) (all : List (Nat × Meas × List Return)) : List Nat :=
  let prev := match tabFind m.chan s.crm.last with
    | some (t, rs) => if m.closedAt ≤ t + c.persistT * 1000 then rs else []
    | none => []
  let near := (all.filter (fun x => x.2.1.chan + 1 = m.chan || x.2.1.chan = m.chan + 1)).map (fun x => keptRanges x.2.2)
  prev ++ near.flatten

/-! ## What calibration takes from measurements (R346, R350) -/

/-- R346: at most one sample of a measurement in the span of the range calibration that runs, the return nearest to TRUE. -/
def State.calSample (s : State) (m : Meas) (rs : List Return) : State :=
  match s.cal.began with
  | none => s
  | some from_ =>
    let (n, sum, sq) := (tabFind m.chan s.cal.samples).getD (0, 0, 0)
    let want : Int := s.getF F.CAL_RCAL_RANGE.TRUE
    let ofs := signed 24 (s.getAt m.epoch F.CRM_RANGE_OFS.OFS)
    let off := fun (r : Return) => (r.rho - ofs - want).natAbs
    let ok := rs.filter (fun r => r.cls = 0 && r.zoomed && !r.saturated && !m.est && decide (off r ≤ s.getF F.CAL_RCAL_CTL.TOL * 20))
    let best := ok.foldl (fun (b : Option Return) r => match b with
      | some x => if off r < off x then some r else some x
      | none => some r) none
    match best with
    | some r =>
      if s.getF F.CAL_RCAL_CH.FIRST ≤ m.chan && m.chan ≤ s.getF F.CAL_RCAL_CH.LAST && n < s.getF F.CAL_RCAL_CTL.N && from_ ≤ m.openedAt then
        let x := r.rho - ofs
        { s with cal := { s.cal with samples := tabSet m.chan (n + 1, sum + x, sq + x * x) s.cal.samples } }
      else s
    | none => s

/-- R350: the window echo of the diode that fired is the strongest return nearer than NEAR. -/
def State.noteEcho (s : State) (m : Meas) (rs : List Return) : State :=
  let near := rs.filter (fun r => decide (r.rho < ((s.getF F.CAL_CREEP.NEAR : Nat) : Int)))
  if near.isEmpty || !s.flag F.CAL_CTL.CREEP_EN then s
  else
    let best := near.foldl (fun b r => max b r.intensity) 0
    let e := m.emitter
    let (n, i, en) := (tabFind e s.cal.echo).getD (0, 0, 0)
    { s with cal := { s.cal with echo := tabSet e (n + 1, i + best, en + m.meanEnergy) s.cal.echo } }

/-- One measurement of the line is extracted. -/
def State.extractOne (s : State) (all : List (Nat × Meas × List Return)) (x : Nat × Meas × List Return) : State :=
  let (slot, m, raw) := x
  let c := s.cremaCfg m.epoch
  let others := s.persistRanges c m all
  let rs := raw.map (fun r => { r with cls := classOf c m raw others r })
  let s := (rs.zipIdx).foldl (fun s r => s.putReturn m r.1 r.2) s
  let s := (((s.putDescriptor m rs).calSample m rs).noteEcho m rs).putHist slot m
  { s with crm := { s.crm with last := tabSet m.chan (m.closedAt, keptRanges rs) s.crm.last } }

/-- The closed measurements of the line and train of a measurement, in ascending channel order. -/
def State.closedGroup (s : State) (m : Meas) : List (Nat × Meas) :=
  (List.range 8).filterMap (fun i =>
    s.grn.slots.find? (fun e => e.2.state = 3 && e.2.chan = m.chan / 8 * 8 + i && e.2.frame = m.frame && e.2.train = m.train))

/-- The instant at which the last of some measurements closed. -/
def lastClose (l : List (Nat × Meas)) : Nat := (l.map (·.2.closedAt)).foldl max 0

/-- The trains of lines whose eight measurements have all closed, with the instant at which the last did. -/
def State.closedTrains (s : State) : List (Nat × List (Nat × Meas)) :=
  ((s.grn.slots.filter (fun e => e.2.state = 3 && e.2.chan % 8 = 0)).map (fun e => s.closedGroup e.2)).filterMap (fun g =>
    if g.length = 8 then some (lastClose g, g) else none)

/-- R207: the train that has waited longest of those whose eight measurements have all closed, where it is one of the line's: its
measurements are extracted in ascending channel order. -/
def doExtract (line : Fin 128) (t : Nat) (s : State) : State :=
  let s := s.at t
  let waiting := s.closedTrains
  let mine := waiting.find? (fun g => g.2.any (fun e => e.2.chan / 8 = line.val) && waiting.all (fun h => decide (g.1 ≤ h.1)))
  match mine with
  | some (_, group) =>
    if s.on 11 then
      let all := group.map (fun e => (e.1, e.2, s.rawReturns e.2))
      let s := all.foldl (fun s x => s.extractOne all x) s
      { s with free := s.free + 65536 }
    else s
  | none => s

def execExtract (line : Fin 128) (t : Nat) (s : State) : Host.Outcome State Fault Refusal := answer (doExtract line t s)

/-! ## Frame headers and STATS (R227, R228, R231) -/

/-- Every measurement of a frame has been extracted and its records committed. -/
def State.frameDone (s : State) (f : Nat) : Bool :=
  !s.grn.slots.any (fun e => e.2.frame = f && (e.2.state = 1 || e.2.state = 2 || e.2.state = 3 || e.2.state = 4))
    && !s.crm.held.any (fun h => h.frame = f)

def sat24 (v : Nat) : Nat := min v 0xFFFFFF

/-- Channels with events lost to a frame's measurements, with their counts. -/
def State.lostOf (s : State) (f : Nat) : List (Nat × Nat) :=
  (s.crm.lost.filter (fun e => e.1 / 1024 = f)).map (fun e => (e.1 % 1024, e.2))

/-- The frame header that opens frame `x` after `prev` (R227); `x` none: a closing header, which gives the program and the code mode of the
frame that stopped (log entry 20). -/
def State.headerBytes (s : State) (x prev : Option FrameInfo) : List Byte :=
  let bit := fun (b : Bool) (n : Nat) => if b then 2 ^ n else 0
  let p := prev.getD {
    num := 0, epoch := 0, tai := 0, bank := 0, planned := [], started := [], reasons := [], excs := [], excLost := 0,
    transition := false, degraded := false, holdover := false, truncated := false, state := 0, facets := 0, revs := 0, rpm := 0, trains := 0,
    pulses := 0, delayed := [], suppressed := [], validAll := false, start := 0, dark := 0, first := false, opened := false,
    headerDone := false, statsDone := false, stop := none }
  let lost := s.lostOf p.num
  let n := fun k => countAt (p.num * 8 + k) s.grn.perFrame
  let tail := ((List.range 5).map (fun c => leBytes 3 (sat24 (nth 0 p.planned c)) ++ leBytes 3 (sat24 (nth 0 p.started c)))).flatten
    ++ leBytes 2 (min 0xFFFF (n 1)) ++ leBytes 4 ((lost.map (·.2)).sum) ++ leBytes 2 lost.length
    ++ leBytes 2 (min 0xFFFF (p.excs.length + p.excLost))
  match x with
  | some f =>
    let flags := bit f.transition 0 + bit (prev.any FrameInfo.truncated) 2 + bit prev.isNone 3 + bit f.holdover 4
      + bit (s.getAt f.epoch F.SHT_CODE.MODE = 1) 5 + bit (f.bank = 1) 6 + bit f.degraded 7
    leBytes 8 f.tai ++ leBytes 4 f.num ++ leBytes 4 f.epoch ++ leBytes 2 flags ++ leBytes 1 (s.getF F.SYS_CHAIN.ADDR) ++ leBytes 1 f.facets
      ++ leBytes 2 f.rpm ++ leBytes 1 f.revs ++ leBytes 1 f.state ++ tail
  | none =>
    let e := p.stop.getD { tai := s.taiNs, next := (s.frameNo + 1) % 2 ^ 32, state := s.dev.code, holdover := !s.flag F.STE_STAT.REF_OK }
    let flags := 2 + bit p.truncated 2 + bit e.holdover 4 + bit (s.getAt p.epoch F.SHT_CODE.MODE = 1) 5 + bit (p.bank = 1) 6
    leBytes 8 e.tai ++ leBytes 4 e.next ++ leBytes 4 s.epoch ++ leBytes 2 flags ++ leBytes 1 (s.getF F.SYS_CHAIN.ADDR)
      ++ leBytes 1 p.facets ++ leBytes 2 p.rpm ++ leBytes 1 p.revs ++ leBytes 1 e.state ++ tail

/-- Change the record of a frame, open or past. -/
def State.updFrame (s : State) (num : Nat) (f : FrameInfo → FrameInfo) : State :=
  let g := fun (x : FrameInfo) => if x.num = num then f x else x
  { s with sch := { s.sch with frame := s.sch.frame.map g, past := s.sch.past.map g } }

/-- A past frame with nothing left to report is forgotten, with its counts. -/
def State.forgetFrames (s : State) : State :=
  let done := fun (x : FrameInfo) => x.opened && x.headerDone && x.statsDone
  let gone := (s.sch.past.filter done).map FrameInfo.num
  { s with sch := { s.sch with past := s.sch.past.filter (fun x => !done x) }
           crm := { s.crm with lost := s.crm.lost.filter (fun e => !gone.contains (e.1 / 1024)),
                               counts := s.crm.counts.filter (fun e => !gone.contains (e.1 / 8))
                               peak := s.crm.peak.filter (fun e => !gone.contains e.1) }
           grn := { s.grn with perFrame := s.grn.perFrame.filter (fun e => !gone.contains (e.1 / 8)) } }

/-- The CRM counters show a frame whose measurements have all been extracted. -/
def State.publishCrema (s : State) (f : Nat) : State :=
  let n := fun k => countAt (f * 8 + k) s.crm.counts
  let s := (s.setSat F.CRM_RET.COUNT (n 0)).setSat F.CRM_SAT.COUNT (n 5)
  let s := (List.range 4).foldl (fun s c => s.setSat (F.CRM_CLS.COUNT.idx c) (n (1 + c))) s
  let s := (s.setSat F.CRM_DROP.NEG (n 6)).setSat F.CRM_DROP.ELSAT (n 7)
  s.setSat F.CRM_BACKLOG.PEAK (countAt f s.crm.peak)

/-- Commit the records held for a frame, in extraction order. -/
def State.flushHeld (s : State) (f : Nat) : State :=
  let mine := s.crm.held.filter (fun h => h.frame = f)
  let s := { s with crm := { s.crm with held := s.crm.held.filter (fun h => h.frame ≠ f) } }
  mine.foldl State.commitHeld s

/-- R228: the next header that is due, in the order of the frames: the one that opens a frame, or the closing header of the frame with which
frames stopped. -/
def doFrameHeaderCommit (t : Nat) (s : State) : State :=
  let s := s.at t
  let all := s.sch.past ++ s.sch.frame.toList
  let settled := fun (f : FrameInfo) => f.opened && (f.stop.isNone || f.headerDone)
  let before := (all.takeWhile settled).getLast?
  match all.find? (fun f => !settled f) with
  | none => s
  | some f =>
    if f.opened then
      if s.frameDone f.num then
        let s := (s.commitHeader (s.headerBytes none (some f))).publishCrema f.num
        (s.updFrame f.num (fun x => { x with headerDone := true })).forgetFrames
      else s
    else
    let prev := if f.first then none else before
    if prev.all (fun p => s.frameDone p.num) then
      let s := s.commitHeader (s.headerBytes (some f) prev)
      let s := s.updFrame f.num (fun x => { x with opened := true })
      let s := match prev with
        | some p => (s.publishCrema p.num).updFrame p.num (fun x => { x with headerDone := true })
        | none => s
      (s.flushHeld f.num).forgetFrames
    else s

def execFrameHeaderCommit (t : Nat) (s : State) : Host.Outcome State Fault Refusal := answer (doFrameHeaderCommit t s)

def ExcEntry.bytes (e : ExcEntry) : List Byte :=
  leBytes 2 e.step ++ leBytes 1 e.pass ++ leBytes 1 e.pos ++ leBytes 2 e.group ++ leBytes 1 e.why ++ leBytes 1 e.delay

/-- The parts of a frame's STATS record. -/
def State.statsParts (s : State) (f : FrameInfo) : List (List Byte) :=
  let lost := (s.lostOf f.num).map (fun e => leBytes 2 e.1 ++ leBytes 2 0 ++ leBytes 4 e.2)
  let entries := f.excs.map ExcEntry.bytes ++ lost
  let nexc := f.excs.length
  let parts := max 1 ((entries.length + 1023) / 1024)
  let n := fun k => countAt (f.num * 8 + k) s.grn.perFrame
  let total := f.excs.length + f.excLost
  (List.range parts).map (fun p =>
    let mine := (entries.drop (1024 * p)).take 1024
    let ne := min mine.length (nexc - 1024 * p)
    leBytes 4 f.num ++ leBytes 4 f.epoch ++ leBytes 1 p ++ leBytes 1 parts ++ leBytes 2 ne ++ leBytes 2 (mine.length - ne) ++ leBytes 2 0
      ++ leBytes 4 total ++ leBytes 4 f.excLost ++ ((List.range 9).map (fun r => leBytes 2 (min 0xFFFF (nth 0 f.reasons r)))).flatten
      ++ leBytes 2 0 ++ leBytes 4 (n 0) ++ leBytes 4 (countAt (f.num * 8) s.crm.counts) ++ leBytes 4 (n 1)
      ++ leBytes 4 ((s.lostOf f.num).map (·.2)).sum ++ leBytes 4 (f.dark / 1000) ++ mine.flatten)

/-- R231: the STATS record of the oldest past frame whose measurements have closed and been extracted (log entry 42). -/
def doStatsCommit (t : Nat) (s : State) : State :=
  let s := s.at t
  match s.sch.past.find? (fun f => !f.statsDone) with
  | some f =>
    if s.grn.slots.any (fun e => e.2.frame = f.num && (e.2.state = 1 || e.2.state = 2 || e.2.state = 3)) then s
    else
      let s := (s.statsParts f).foldl (fun s b => s.commitRecord 4 5 b) s
      (s.updFrame f.num (fun x => { x with statsDone := true })).forgetFrames
  | none => s

def execStatsCommit (t : Nat) (s : State) : Host.Outcome State Fault Refusal := answer (doStatsCommit t s)

/-- The deflection in use after a commit that changed EN (R220): none, or that of the latest triple unless it is stale. -/
def State.showDeflection (s : State) : State :=
  let fresh := decide (s.now < s.crm.arrived + s.getF F.CRM_MOUNT.STALE_MS * 1000000)
  let a := match s.crm.triples with
    | x :: _ => if s.flag F.CRM_MOUNT.EN && fresh then x.2 else (0, 0, 0)
    | [] => (0, 0, 0)
  (((s.setI F.CRM_MNT_ROLL.ANGLE a.1).setI F.CRM_MNT_PITCH.ANGLE a.2.1).setI F.CRM_MNT_YAW.ANGLE a.2.2).setF F.CRM_MOUNT.STALE 0

/-- R220: no good deflection triple for STALE ms. -/
def doMountStale (t : Nat) (s : State) : State :=
  let s := s.at t
  let last := s.crm.arrived
  if s.on 11 && s.flag F.CRM_MOUNT.EN && !s.flag F.CRM_MOUNT.STALE && decide (last + s.getF F.CRM_MOUNT.STALE_MS * 1000000 ≤ s.now) then
    let s := ((s.setF F.CRM_MNT_ROLL.ANGLE 0).setF F.CRM_MNT_PITCH.ANGLE 0).setF F.CRM_MNT_YAW.ANGLE 0
    (s.setF F.CRM_MOUNT.STALE 1).raiseEvt 15 1
  else s

def execMountStale (t : Nat) (s : State) : Host.Outcome State Fault Refusal := answer (doMountStale t s)

end Sys2Proof.Machine
end

