-- ==== Sys2Proof/Machine/Time.lean ====
section
/-! DEFINITION. Time base and synchronisation (chapter 12): sources, servo, setting, slewing and stepping of the TAI counter,
PTP forwarding, TSY frame pulses and clock monitors. Phase errors and delays are in 2⁻¹⁶ ns. -/

namespace Sys2Proof.Machine

/-- Apply a function to the time state. -/
def State.mapTime (s : State) (f : TimeState → TimeState) : State := { s with time := f s.time }

/-- The source in use, coded as SRC (R277). -/
def State.timeSource (s : State) : Nat := s.getF F.TSY_STAT.SOURCE
def State.servo (s : State) : Nat := s.getF F.TSY_STAT.STATE
def State.acceptedSrc (s : State) (k : Nat) : Bool := s.time.accepted.testBit k

/-- The source SRC calls for among those accepted (R262, R263). -/
def State.wantedSource (s : State) : Option Nat :=
  match s.getF F.TSY_CTL.SRC with
  | 0 => [1, 2, 3].find? s.acceptedSrc
  | 4 => none
  | k => if s.acceptedSrc k then some k else none

/-! ## Trim (R260, R264) -/

/-- Set the working trim, clamped to ±40 ppm. -/
def State.setTrim (s : State) (v : Int) : State :=
  let v := clampInt (-4000000) 4000000 v
  (s.setI F.CLK_XO.TRIM v).mapTime (fun x => { x with trims := (s.now, v) :: x.trims })

/-- The servo pulls the frequency; the spec gives its gain no value (log entry 7). -/
def State.pullTrim (s : State) : State := s.tick.setTrim (signed 24 s.freeNat)

/-- Sum of trim × ns from `from_` to `to_` over (begin, trim) entries, newest first. -/
def trimArea (from_ : Nat) : Nat → List (Nat × Int) → Int
  | _, [] => 0
  | to_, (b, v) :: l => v * ((to_ - max b from_ : Nat) : Int) + trimArea from_ (min to_ b) l

/-- Mean trim from `from_` to now, truncated. -/
def State.meanTrim (s : State) (from_ : Nat) : Int :=
  if s.now ≤ from_ then s.getI F.CLK_XO.TRIM else truncDiv (trimArea from_ s.now s.time.trims) (s.now - from_ : Nat)

/-! ## Servo states (R264) -/

/-- clockClass announced under R271. -/
def State.clockClass (s : State) : Nat :=
  if s.servo = 2 && s.timeSource = 2 && s.flag F.TSY_STAT.TIME_SET then 6
  else if s.servo = 3 && s.time.fromPps then 7 else 248

/-- An Announce out of the host-facing port: one of the unit's own frames, through the control buffer (R290). Its length counts 64 bytes of PTP
over UDP and IPv4 (log entry 48). -/
def State.sendAnnounce (s : State) : State :=
  (s.mapPort s.hostPort (fun x => { x with ctlBits := x.ctlBits + frameBits 92 })).emit (.announce 250 s.clockClass)

/-- The unit acts as grandmaster when GM_EN is 1 and the best-master rules select no other (R271); it then announces. -/
def State.gmUpdate (s : State) : State :=
  let g := s.flag F.TSY_CTL.GM_EN && !s.time.master
  let s := s.setB F.TSY_STAT.GM g
  if g then s.sendAnnounce else s

/-- Under PTP, `STE_STAT.REF_OK` is 1 only in LOCKED (R272). -/
def State.refOkFromTime (s : State) : State :=
  if s.on 9 && s.getF F.STE_CTL.REFSRC = 2 then (s.setB F.STE_STAT.REF_OK (s.servo = 2)).updateValid else s

/-- `CAL_TRACE.LEVEL` of a servo state (R343): HOLDOVER holds the traceability it was entered with, over a reset too (log entry 66). -/
def State.traceLevel (s : State) : Nat :=
  match s.servo with
  | 2 => if s.timeSource = 3 then 1 else 2
  | 3 => if s.time.traced then 3 else 0
  | _ => 0

/-- The level follows the servo; a change is bit 5 of CAL. -/
def State.traceUpdate (s : State) : State :=
  let v := s.traceLevel
  if v = s.getF F.CAL_TRACE.LEVEL then s else (s.setF F.CAL_TRACE.LEVEL v).raiseEvt 6 5

def State.setServo (s : State) (st : Nat) : State :=
  if s.servo = st then s else ((((s.setF F.TSY_STAT.STATE st).raiseEvt 5 0).refOkFromTime).gmUpdate).traceUpdate

def State.setSource (s : State) (k : Nat) : State :=
  if s.timeSource = k then s else (s.setF F.TSY_STAT.SOURCE k).raiseEvt 5 2

/-- Seconds of the HOLDOVER that ends or runs. -/
def State.holdSeconds (s : State) : Nat :=
  match s.time.holdAt with
  | some h => (s.now - h) / 1000000000
  | none => s.getF F.TSY_HOLD.S

def State.enterHoldover (s : State) : State :=
  let from_ := max (s.now - 100000000000) (s.time.lockedAt.getD s.now)
  let pps := s.timeSource = 2 && s.flag F.TSY_STAT.TIME_SET
  let s := s.setTrim (s.meanTrim from_)
  let s := s.mapTime (fun x =>
    { x with holdAt := some s.now, traced := s.servo = 2, fromPps := pps, lockedAt := none, good := 0, fine := none, trims := [], slew := 0 })
  ((s.bump F.TSY_STEPS.HOLDS 1).setF F.TSY_HOLD.S 0).setServo 3

/-- What the servo followed is forgotten, and a HOLDOVER that ran ends. -/
def State.leaveServo (s : State) : State :=
  let s := if s.time.holdAt.isSome then s.setSat F.TSY_HOLD.S s.holdSeconds else s
  s.mapTime (fun x => { x with holdAt := none, lockedAt := none, good := 0, fine := none, trims := [] })

def State.enterFree (s : State) : State := (s.leaveServo.mapTime (fun x => { x with slew := 0 })).setServo 0

def State.enterAcquire (s : State) : State := s.leaveServo.setServo 1

def State.enterLocked (s : State) : State :=
  let s := s.mapTime (fun x => { x with lockedAt := some s.now, ageFrom := s.now, trims := [(s.now, s.getI F.CLK_XO.TRIM)] })
  s.setServo 2

/-- A source is accepted. -/
def State.acceptSource (s : State) (k : Nat) : State :=
  s.mapTime (fun x => { x with accepted := if x.accepted.testBit k then x.accepted else x.accepted + 2 ^ k, everAccepted := true })

/-- The source in use is gone and no other is accepted (R263, R264). -/
def State.dropSource (s : State) : State :=
  let s := if s.servo = 2 then s.enterHoldover else if s.servo = 1 then s.enterFree else s
  s.setSource 4

/-- A source is lost. Where another is accepted, the servo waits for the first event that one delivers (R263); it is dropped when
that one is lost too before it has delivered any. -/
def State.loseSource (s : State) (k : Nat) : State :=
  let s := s.mapTime (fun x => { x with accepted := if x.accepted.testBit k then x.accepted - 2 ^ k else x.accepted,
                                        syncs := if k = 1 then 0 else x.syncs })
  if s.timeSource ≠ 4 && s.wantedSource.isNone then s.dropSource else s

/-- An event of source `k`: the servo takes it up when SRC calls for it, and whether it is now the source in use. -/
def State.takeSource (s : State) (k : Nat) : State × Bool :=
  if s.wantedSource = some k then
    (if s.timeSource = k && s.servo ≠ 0 && s.servo ≠ 3 then s else (s.setSource k).enterAcquire, true)
  else (s, false)

/-! ## Setting, slewing and stepping (R265, R266) -/

/-- Step the counter by `d`: the record carries the time before the step. -/
def State.stepCounter (s : State) (d : Int) : State :=
  let s := (s.bump F.TSY_STEPS.STEPS 1).setI F.TSY_LAST_STEP.NS (truncDiv d 65536)
  let s := s.raiseEvt 5 1
  s.mapTime (fun x =>
    let v := (x.tai + d).toNat
    { x with tai := v, slew := 0, lastMultiple := x.lastMultiple.filter (fun q => decide (q * 65536 < v)) })

/-- R265: a measured phase error, positive when the counter is ahead. -/
def State.correctPhase (s : State) (e : Int) : State :=
  if !s.frames && decide ((s.getF F.TSY_CTL.STEP * 65536000 : Nat) < e.natAbs) then s.stepCounter (-e)
  else s.mapTime (fun x => { x with slew := -e })

/-- REF10M supplies the frequency under PPS while it is accepted (R262). -/
def State.freqByRef (s : State) : Bool := s.timeSource = 2 && s.acceptedSrc 3

/-- A phase measurement of the source in use: the servo pulls, and LOCKED follows 16 within 50 ns in a row (R264). -/
def State.measurePhase (s : State) (e : Int) : State :=
  let s := s.setI F.TSY_OFS.VALUE (truncDiv e 4096)
  let n := if e.natAbs ≤ 50 * 65536 then s.time.good + 1 else 0
  let s := s.mapTime (fun x => { x with good := n })
  let s := (if s.freqByRef then s else s.pullTrim).correctPhase e
  if s.servo = 1 && decide (16 ≤ n) then s.enterLocked else s

/-- Load `TSY_SET_HI` and `TSY_SET_LO` (R266); it counts as a step. -/
def State.loadTime (s : State) : State :=
  let v : Nat := (s.getF F.TSY_SET_HI.NS * 2 ^ 32 + s.getF F.TSY_SET_LO.NS) * 65536
  let s := s.stepCounter ((v : Int) - s.time.tai)
  ((s.setF F.TSY_SET_CTL.APPLY 0).setF F.TSY_STAT.TIME_SET 1).gmUpdate

/-- After a commit that may have changed `TSY_CTL`: SRC FREE, or a source in use that SRC no longer calls for. -/
def State.timeCommit (s : State) : State :=
  let s := if s.getF F.TSY_CTL.SRC = 4 then ((s.enterFree.setSource 4).setTrim (s.getI F.CLK_AGE.AGE))
    else if s.timeSource ≠ 4 && s.wantedSource.isNone then s.dropSource else s
  (s.refOkFromTime).gmUpdate

/-! ## Commands -/

/-- 2^k seconds in ns. -/
def logNs (k : Int) : Nat := if 0 ≤ k then 1000000000 * 2 ^ k.toNat else 1000000000 / 2 ^ k.natAbs

/-- With GM_EN the unit stands in the best-master rules with priority1 250 and its own class (R271). -/
def State.outranks (s : State) (priority1 clockClass : Nat) : Bool :=
  s.flag F.TSY_CTL.GM_EN && decide (250 < priority1 ∨ (priority1 = 250 ∧ s.clockClass < clockClass))

/-- No master is selected any more. -/
def State.loseMaster (s : State) : State :=
  ((s.mapTime (fun x => { x with master := false, lastAnnounce := none, lastSync := none })).loseSource 1).gmUpdate

/-- The clockIdentity of the master last selected. -/
def State.masterId (s : State) : Nat := s.getF F.TSY_GM_HI.ID * 2 ^ 32 + s.getF F.TSY_GM_LO.ID

/-- An Announce (R262, R268, R271). -/
def State.takeAnnounce (s : State) (gm priority1 clockClass : Nat) (utc : Int) (utcValid leap59 leap61 : Bool) (logInterval : Int)
    (best : Bool) : State :=
  if !best || s.outranks priority1 clockClass then
    (if s.time.master && s.masterId = gm then s.loseMaster else s.gmUpdate)
  else
    let old := s.masterId
    let new := !s.time.master || old != gm
    let s := s.mapTime (fun x => { x with master := true, lastAnnounce := some s.now, announceNs := logNs logInterval,
                                          syncs := if new then 0 else x.syncs })
    let s := (s.setF F.TSY_GM_LO.ID gm).setF F.TSY_GM_HI.ID (gm / 2 ^ 32)
    let s := ((s.setI F.TSY_UTC.OFFSET utc).setB F.TSY_UTC.LEAP59 leap59).setB F.TSY_UTC.LEAP61 leap61
    let s := s.setB F.TSY_STAT.UTC_VALID utcValid
    (if new then s.raiseEvt 5 3 else s).gmUpdate

/-- R270: a timestamp of the PCS brought to the land of port `p`, by the constants of its rate, in 2⁻¹⁶ ns: what arrives stood there
earlier, what leaves stands there later. -/
def State.landRx (s : State) (p : Nat) (x : Int) : Int := x - (s.getF (F.NTA_LAT.RX.pageUp p) * 4096 : Nat)
def State.landTx (s : State) (p : Nat) (x : Int) : Int := x + (s.getF (F.NTA_LAT.TX.pageUp p) * 4096 : Nat)

/-- The mean path delay of the exchange brought to the lands: each way carries one latency of the unit. -/
def State.landPath (s : State) (p : Nat) (d : Int) : Int :=
  d - ((s.getF (F.NTA_LAT.RX.pageUp p) + s.getF (F.NTA_LAT.TX.pageUp p)) * 2048 : Nat)

/-- A Sync (R262): the third in a row accepts PTP; the offset is received − origin − correction − path. -/
def State.takeSync (s : State) (origin received correction : Int) (logInterval : Int) : State :=
  if !s.time.master || !(decide (-7 ≤ logInterval) && decide (logInterval ≤ 0)) then s
  else
    let s := s.mapTime (fun x => { x with syncs := x.syncs + 1, lastSync := some s.now, syncNs := logNs logInterval })
    let s := if 3 ≤ s.time.syncs then s.acceptSource 1 else s
    let (s, mine) := s.takeSource 1
    if mine then (s.measurePhase (received - origin - correction - s.time.path)).setF F.TSY_STAT.TIME_SET 1 else s

/-- R262, R268, R269: a message on the host-facing port; messages of other domains and transports are not used. -/
def doPtpMessage (portB : Bool) (domain transport : Nat) (msg : PtpMessage) (t : Nat) (s : State) : State :=
  let s := s.at t
  if !s.on 3 || portB != s.flag F.TSY_STAT.PORT || domain ≠ s.getF F.TSY_CTL.DOMAIN || transport ≠ s.getF F.TSY_CTL.TRANSPORT then s
  else
    match msg with
    | .announce gm p1 cc utc v l59 l61 li best => s.takeAnnounce gm p1 cc utc v l59 l61 li best
    | .sync o r c li => s.takeSync o (s.landRx s.hostPort r) c li
    | .pathDelay raw =>
      let d := s.landPath s.hostPort raw
      (s.mapTime (fun x => { x with path := d })).setI F.TSY_PATH.VALUE (truncDiv d 4096)

def execPtpMessage (portB : Bool) (domain transport : Nat) (msg : PtpMessage) (t : Nat) (s : State) :
    Host.Outcome State Fault Refusal := answer (doPtpMessage portB domain transport msg t s)

/-- Residence calibrated at `CAPS` that the unit subtracts in chain mode: that of the path out of port `out` while its link is a chain
link (R302, log entry 45). -/
def State.calibrated (s : State) (out : Nat) : Nat :=
  if s.flag (F.NTA_STAT.CHAIN.pageUp out) then (s.port out).residence else 0

/-- The residence time of a message forwarded out of port `out`, land to land (R270), less the calibrated one (R302), with the upstream
link delay in the peer-to-peer profile and 802.1AS, and the rate ratio in 802.1AS (R269, log entry 45). -/
def State.residenceOf (s : State) (out : Nat) (ingress egress linkDelay ratio : Int) : Int :=
  let d := s.landTx out egress - s.landRx (1 - out) ingress - s.calibrated out
  match s.getF F.TSY_CTL.PROFILE with
  | 0 => d
  | 1 => d + linkDelay
  | _ => (d + linkDelay) + truncDiv ((d + linkDelay) * ratio) (2 ^ 41)

/-- The number a forwarded message carries in the record of outputs. -/
def ptpKindCode : PtpKind → Nat
  | .sync => 0 | .syncTwoStep => 1 | .followUp => 2 | .delayReq => 3 | .event => 4

/-- R269: forwarded out of the other port, its correctionField raised; for a two-step Sync, that of its Follow_Up. -/
def doPtpForward (fromB : Bool) (kind : PtpKind) (seq : Nat) (correction ingress egress linkDelay ratio : Int) (t : Nat) (s : State) : State :=
  let s := s.at t
  let out := if fromB then 0 else 1
  if !s.on 3 || !s.portActive (1 - out) || !s.portActive out then s
  else
    let r := s.residenceOf out ingress egress linkDelay ratio
    let key := out * 65536 + seq % 65536
    let send := fun (s : State) (c : Int) =>
      (s.mapPort out (fun x => { x with linkBits := x.linkBits + frameBits 44 })).emit (.ptp out (ptpKindCode kind) seq c)
    match kind with
    | .syncTwoStep =>
      (send (s.mapTime (fun x => { x with residence := tabSet key r x.residence })) correction).bump F.TSY_FWD.COUNT 1
    | .followUp =>
      let c := correction + (tabFind key s.time.residence).getD 0
      send (s.mapTime (fun x => { x with residence := tabDel key x.residence })) c
    | _ => (send s (correction + r)).bump F.TSY_FWD.COUNT 1

def execPtpForward (fromB : Bool) (kind : PtpKind) (seq : Nat) (correction ingress egress linkDelay ratio : Int) (t : Nat) (s : State) :
    Host.Outcome State Fault Refusal := answer (doPtpForward fromB kind seq correction ingress egress linkDelay ratio t s)

/-- Phase error of a PPS edge: the counter against the nearest whole second. -/
def State.ppsError (s : State) : Int := nearRem s.time.tai (1000000000 * 65536)

/-- R262 to R266: an edge on `PPS_IN`. Edges are compared 1 s apart; in LOCKED, with the expected instant (log entry 46). -/
def doPpsEdge (t : Nat) (s : State) : State :=
  let s := s.at t
  if !s.on 3 then s
  else
    let e := s.ppsError
    let last := s.time.lastPps
    let locked := s.servo = 2 && s.timeSource = 2
    let apart := match last with
      | some p => decide (1000000000 ≤ s.now - p + 10000) && decide (s.now - p ≤ 1000000000 + 10000)
      | none => false
    let ok := if locked then decide (e.natAbs ≤ 1000 * 65536) else apart
    let s := s.mapTime (fun x => { x with lastPps := some s.now, goodPps := if ok then some s.now else x.goodPps })
    if !ok then (if last.isNone then s else (s.bump F.TSY_PPS.REJECT 1).raiseEvt 5 4)
    else
      let s := (s.acceptSource 2).setI F.TSY_PPS.ERR (truncDiv e 65536)
      let (s, mine) := s.takeSource 2
      if s.flag F.TSY_SET_CTL.APPLY && s.flag F.TSY_SET_CTL.AT_PPS && !s.frames then s.loadTime
      else if mine then s.measurePhase e else s

def execPpsEdge (t : Nat) (s : State) : Host.Outcome State Fault Refusal := answer (doPpsEdge t s)

/-- Three announce intervals have passed without an Announce of the master. -/
def State.announceSilent (s : State) : Bool :=
  match s.time.lastAnnounce with
  | some p => decide (p + 3 * s.time.announceNs ≤ s.now)
  | none => false

/-- The condition of R262 on which a source is lost. REF10M is lost by leaving its band. -/
def State.sourceGone (s : State) (k : Nat) : Bool :=
  let past := fun (from_ : Option Nat) (ns : Nat) => match from_ with
    | some p => decide (p + ns ≤ s.now)
    | none => false
  match k with
  | 1 => past s.time.lastSync (3 * s.time.syncNs) || s.announceSilent
  | 2 => past s.time.goodPps 3000010000
  | _ => true

/-- R262, R263: a source is lost. An announce timeout leaves no master selected. -/
def doTimeSourceLost (src : Fin 3) (t : Nat) (s : State) : State :=
  let s := s.at t
  let k := src.val + 1
  if !s.on 3 || !s.sourceGone k then s
  else if k = 1 && s.announceSilent then s.loseMaster
  else
    let s := s.mapTime (fun x => { x with lastSync := if k = 1 then none else x.lastSync, goodPps := if k = 2 then none else x.goodPps })
    s.loseSource k

def execTimeSourceLost (src : Fin 3) (t : Nat) (s : State) : Host.Outcome State Fault Refusal := answer (doTimeSourceLost src t s)

/-- R262 to R264: a window of REF10M ends. Under PPS it supplies the frequency alone. -/
def doRef10mWindow (dev : Int) (missing : Bool) (t : Nat) (s : State) : State :=
  let s := s.at t
  if !s.on 3 then s
  else if missing || decide (5000000 < dev.natAbs) then s.loseSource 3
  else
    let (s, mine) := (s.acceptSource 3).takeSource 3
    if !mine then (if s.freqByRef then s.pullTrim else s)
    else
      let s := s.pullTrim
      let s := s.mapTime (fun x => { x with fine := if dev.natAbs ≤ 100 then some (x.fine.getD s.now) else none })
      match s.time.fine with
      | some f => if s.servo = 1 && decide (f + 10000000000 ≤ s.now) then s.enterLocked else s
      | none => s

def execRef10mWindow (dev : Int) (missing : Bool) (t : Nat) (s : State) : Host.Outcome State Fault Refusal :=
  answer (doRef10mWindow dev missing t s)

/-- R260: 24 h in LOCKED: the mean trim goes to NOR and `CLK_AGE`. -/
def doAgeingWrite (t : Nat) (s : State) : State :=
  let s := s.at t
  if s.on 3 && s.servo = 2 && decide (s.time.ageFrom + 86400000000000 ≤ s.now) then
    let mean := s.meanTrim s.time.ageFrom
    let s := s.mapTime (fun x => { x with ageFrom := s.now, age := clampInt (-(2 ^ 23)) (2 ^ 23 - 1) mean })
    (s.setI F.CLK_AGE.AGE mean).raiseEvt 4 3
  else s

def execAgeingWrite (t : Nat) (s : State) : Host.Outcome State Fault Refusal := answer (doAgeingWrite t s)

/-- R272: the counter reaches a multiple of P_F. It advances in steps of 20 ns. -/
def doTsyFramePulse (t : Nat) (s : State) : State :=
  let s := s.at t
  let p := s.getF F.TSY_PULSE.NS
  let n := s.taiNs / p
  if s.on 3 && s.getF F.STE_CTL.REFSRC = 2 && decide (0 < p) && s.time.lastMultiple.all (fun q => decide (q < n * p)) && decide (s.taiNs % p < 20) then
    let s := s.mapTime (fun x => { x with lastMultiple := some (n * p) })
    { s with ste := { s.ste with tsyPulse := some s.now } }
  else s

def execTsyFramePulse (t : Nat) (s : State) : Host.Outcome State Fault Refusal := answer (doTsyFramePulse t s)

/-! ## Clock monitors (R274, R275) -/

/-- Warning band and failure limit of a monitor in ppm. -/
def monitorBand : Nat → Nat × Nat
  | 0 => (5000, 50000) | 7 => (5000, 50000) | 8 => (20000, 1000000000) | _ => (100, 10000)

/-- What monitor `n` watches is powered: CLK feeds REF, SMP, FAB and MEM, ANA its own clock, the ports theirs; AON is always. -/
def State.monitored (s : State) (n : Nat) : Bool :=
  match n with
  | 4 => s.domState 10 = 2 | 5 => s.domState 6 = 2 | 6 => s.domState 7 = 2 | 7 => s.dev ≠ .off | 8 => s.dev ≠ .off
  | _ => s.domState 3 = 2

/-- Whether a window fails: no edge, a count beyond the limit, or a lock lost (R274); a PLL that has not locked yet has lost none. -/
def monitorFails (n : Nat) (ppm : Int) (lost edge : Bool) : Bool := !edge || decide ((monitorBand n).2 < ppm.natAbs) || lost

def State.setStable (s : State) (n : Nat) (b : Bool) : State := s.setBit F.CLK_MON_STAT.STABLE n b

/-- A window in band: the fourth in a row makes the monitor stable (R274). -/
def State.monitorGood (s : State) (n : Nat) : State :=
  let g := min 4 ((tabFind n s.time.monGood).getD 0 + 1)
  let s := s.mapTime (fun x => { x with monGood := tabSet n g x.monGood })
  if g < 4 then s.setF (F.CLK_MON_DEV.STATE.inst n) 2
  else
    let s := (s.setF (F.CLK_MON_DEV.STATE.inst n) 1).setStable n true
    if (tabFind n s.time.stableFrom).isSome then s else s.mapTime (fun x => { x with stableFrom := tabSet n s.now x.stableFrom })

/-- A monitor has reported stable for 1 s. -/
def State.stableLong (s : State) (n : Nat) : Bool :=
  match tabFind n s.time.stableFrom with
  | some f => decide (f + 1000000000 ≤ s.now)
  | none => false

/-- A monitor that is not in band. -/
def State.monitorOut (s : State) (n st : Nat) : State :=
  let s := s.mapTime (fun x => { x with monGood := tabSet n 0 x.monGood, stableFrom := tabDel n x.stableFrom })
  (s.setF (F.CLK_MON_DEV.STATE.inst n) st).setStable n false

/-- R275: the clock monitor `n` watches is powered off: it reads STATE 0, is not stable and its PLL not locked. -/
def State.monitorOff (s : State) (n : Nat) : State :=
  let s := s.monitorOut n 0
  if 1 ≤ n ∧ n ≤ 6 then s.setBit F.CLK_PLL.LOCK (n - 1) false else s

/-- The monitors of the clocks a domain feeds. -/
def monitorsOf : Nat → List Nat
  | 3 => [0, 1, 2, 3] | 6 => [5] | 7 => [6] | 10 => [4] | _ => []

/-- A monitor meets a failure condition: the clock-failure source is raised (R275, R377). -/
def State.monitorFailed (s : State) (n : Nat) : State :=
  (((s.monitorOut n 4).setBit F.CLK_MON_STAT.FAULT n true).raiseEvt 4 1).clockFailure n

/-- R274, R275: a monitor's window ends. -/
def doClockMonitorWindow (mon : Fin 9) (ppm : Int) (lock edge : Bool) (t : Nat) (s : State) : State :=
  let s := s.at t
  let n := mon.val
  if !s.monitored n then s
  else
    let was := (tabFind n s.time.monGood).getD 0
    let s := s.setI (F.CLK_MON_DEV.PPM.inst n) ppm
    let pll := decide (1 ≤ n ∧ n ≤ 6)
    let had := pll && s.bitF F.CLK_PLL.LOCK (n - 1)
    let s := if pll then s.setBit F.CLK_PLL.LOCK (n - 1) lock else s
    let s := if had && !lock then (s.bump F.CLK_PLL.LOSSES 1).raiseEvt 4 2 else s
    if monitorFails n ppm (had && !lock) edge then s.monitorFailed n
    else if pll && !lock then s.monitorOut n 2
    else if (monitorBand n).1 < ppm.natAbs then
      if was = 0 then s.monitorOut n 3
      else
        let s := ((s.monitorOut n 3).setBit F.CLK_MON_STAT.FAULT n true).raiseEvt 4 0
        (s.mapTime (fun x => { x with warned := n :: x.warned.filter (· ≠ n) })).enterSafe 0x22 []
    else s.monitorGood n

def execClockMonitorWindow (mon : Fin 9) (ppm : Int) (lock edge : Bool) (t : Nat) (s : State) :
    Host.Outcome State Fault Refusal := answer (doClockMonitorWindow mon ppm lock edge t s)

/-- R377: a failure condition of R275 that shows between windows. -/
def doClockFailureReset (mon : Fin 9) (t : Nat) (s : State) : State :=
  let s := s.at t
  if s.monitored mon.val then s.monitorFailed mon.val else s

def execClockFailureReset (mon : Fin 9) (t : Nat) (s : State) : Host.Outcome State Fault Refusal := answer (doClockFailureReset mon t s)

/-! ## Release of the CLK domain (R260, R267) -/

/-- At release of CLK: the stored ageing value becomes the trim; after a reset that carried the counter it may be in error by
0.1 % of the time in reset (log entry 7), and the servo is in HOLDOVER until a source is accepted. -/
def State.timeRelease (s : State) : State :=
  let s := (s.setI F.CLK_AGE.AGE s.time.age).setTrim s.time.age
  let s := s.mapTime (fun x => { x with accepted := 0, master := false, syncs := 0, good := 0, fine := none, lockedAt := none, slew := 0,
                                        trims := [], lastSync := none, lastAnnounce := none, lastPps := none, goodPps := none,
                                        residence := [] })
  match s.time.carried with
  | some from_ =>
    let bound := (s.now - from_) * 65536 / 1000
    let err : Int := ((s.freeNat % (2 * bound + 1) : Nat) : Int) - bound
    let s := s.tick.mapTime (fun x => { x with tai := (x.tai + err).toNat, carried := none })
    if s.getF F.TSY_CTL.SRC ≠ 4 && s.time.everAccepted then
      let s := s.mapTime (fun x => { x with holdAt := some s.now, fromPps := false })
      (s.bump F.TSY_STEPS.HOLDS 1).setServo 3
    else s
  | none => s.mapTime (fun x => { x with everAccepted := false, holdAt := none })

end Sys2Proof.Machine
end

