-- ==== Sys2Proof/Machine/Net.lean ====
section
/-! DEFINITION. Ethernet ports and the unit chain (chapter 13): chain training, spare lane, sleep, forwarding, census, rings. -/

namespace Sys2Proof.Machine

def portNo (b : Bool) : Nat := if b then 1 else 0

/-- A field of port `p`'s page, given as port A names it. -/
def nt (p : Nat) (f : Field) : Field := f.pageUp p

def State.stage (s : State) (p : Nat) : Nat := s.getF (nt p F.NTA_STAT.STAGE)
def State.chainMode (s : State) (p : Nat) : Bool := s.flag (nt p F.NTA_STAT.CHAIN)
def State.portOn (s : State) (p : Nat) : Bool := s.on (6 + p)
/-- The page of a port. -/
def portPage (p : Nat) : Nat := 18 + p

/-! ## Frames the unit originates (R293) -/

def entryBytes (e : CensusEntry) (link : Nat) : List Byte :=
  leBytes 1 e.addr ++ leBytes 1 ((if e.overflow then 1 else 0) + (if e.conflict then 2 else 0) + (if e.ringEnd then 4 else 0) + link * 8) ++
    leBytes 6 e.mac ++ leBytes 8 e.serial

def censusBytes (f : CensusFrame) (kind : Nat) (reverse : Bool) : List Byte :=
  leBytes 1 kind ++ leBytes 1 ((if reverse then 1 else 0) + (if f.overflow then 2 else 0) + (if f.conflict then 4 else 0)) ++
    leBytes 2 f.id ++ leBytes 1 f.next ++ [0] ++ leBytes 2 f.entries.length ++ (f.entries.map (fun e => entryBytes e 0)).flatten

def State.serialNo (s : State) : Nat := s.getF F.SYS_SERIAL_HI.SERIAL * 2 ^ 32 + s.getF F.SYS_SERIAL_LO.SERIAL

/-- The unit's census entry. -/
def State.ownEntry (s : State) : CensusEntry :=
  { addr := s.getF F.SYS_CHAIN.ADDR, overflow := false, conflict := false, ringEnd := false, mac := s.unitMac, serial := s.serialNo }

/-- The link notice for the link of port `p` (R293). -/
def State.noticeBytes (s : State) (p : Nat) : List Byte :=
  leBytes 1 3 ++ leBytes 1 0 ++ leBytes 2 0 ++ leBytes 1 0 ++ [0] ++ leBytes 2 1 ++ entryBytes s.ownEntry (if p = 0 then 1 else 2)

/-! ## Addresses (R294 to R297) -/

/-- `NTA_IPV4`: the base plus the chain address, or what a DHCP server granted. -/
def State.updateIp (s : State) : State :=
  let a := s.getF F.SYS_CHAIN.ADDR
  s.setF F.NTA_IPV4.ADDR (match s.getF F.NTA_IP.V4 with
    | 1 => s.net.dhcp
    | 2 => if a = 0 then 0 else s.getF F.NTA_IPV4_BASE.ADDR + a
    | _ => 0)

/-- The unit's IPv6 address as its 16 bytes in network order, where V6 is 1: the base with ADDR added to its last 16 bits (R297). -/
def State.ipv6 (s : State) : Option (List Nat) :=
  if !s.flag F.NTA_IP.V6 then none
  else
    let base := (List.range 16).map (fun i =>
      s.getF { F.NTA_IPV6_BASE.ADDR with addr := F.NTA_IPV6_BASE.ADDR.addr + i / 4 * 4 } / 2 ^ (i % 4 * 8) % 256)
    let low := (base.getD 14 0 * 256 + base.getD 15 0 + s.getF F.SYS_CHAIN.ADDR) % 65536
    some (base.take 14 ++ [low / 256, low % 256])

/-- `NTA_STAT.HOSTSIDE` of both ports and `TSY_STAT.PORT` show the host-facing port. -/
def State.showHostSide (s : State) : State :=
  ((s.setB (nt 0 F.NTA_STAT.HOSTSIDE) (!s.net.hostB)).setB (nt 1 F.NTA_STAT.HOSTSIDE) s.net.hostB).setF F.TSY_STAT.PORT s.hostPort

/-- Port `p` becomes host-facing, and every queue moves to it without change to its numbers (R299, R329). -/
def State.setHostSide (s : State) (p : Nat) : State :=
  let b := decide (p = 1)
  let s := if s.hostPort = p then s else s.raiseEvt (portPage p) 6
  let queues := s.tp.queues.map (fun e => (e.1, { e.2 with portB := b }))
  State.showHostSide { s with net := { s.net with hostB := b }, tp := { s.tp with queues := queues } }

/-- The servo keeps its trim and reacquires phase when PTP comes by another port (R269). -/
def State.reacquire (s : State) : State :=
  let s := s.mapTime (fun x => { x with syncs := 0 })
  if s.timeSource = 1 && (s.servo = 1 || s.servo = 2) then s.enterAcquire else s

def State.notice (s : State) (p : Nat) : State := { s with net := { s.net with notices := s.net.notices.filter (· ≠ p) ++ [p] } }

/-! ## Census (R294) -/

/-- Copy a census done frame into `NTA_CENSUS`. -/
def State.copyDone (s : State) (f : CensusFrame) : State :=
  let s := (s.setF F.NTA_CENSUS.ID f.id).setF F.NTA_CENSUS.COUNT f.entries.length
  (s.setB F.NTA_CENSUS.OVERFLOW f.overflow).setB F.NTA_CENSUS.CONFLICT f.conflict

/-- The unit is the chain end: the whole list goes back with ring end set in its entry. -/
def State.chainEnd (s : State) (f : CensusFrame) : State :=
  let last := f.entries.length - 1
  let f := { f with entries := f.entries.mapIdx (fun i e => if i = last then { e with ringEnd := true } else e) }
  let s := (s.setF (nt 0 F.NTA_STAT.END) 1).setF (nt 1 F.NTA_STAT.END) 1
  (s.copyDone f).sendFrame s.hostPort 2 (censusBytes f 2 false)

/-- Forward a census out of port `out`, end the chain, or hold it. -/
def State.passCensus (s : State) (f : CensusFrame) (out : Nat) : State :=
  let clear := fun (s : State) =>
    { (s.setF (nt 0 F.NTA_STAT.END) 0).setF (nt 1 F.NTA_STAT.END) 0 with net := { s.net with held := none } }
  if s.portActive out then
    (if s.chainMode out then (clear s).sendFrame out 1 (censusBytes f 1 false) else s.chainEnd f)
  else { clear s with net := { s.net with held := some (f, out, s.now + s.getF F.NTA_CENSUS_CFG.HOLD * 1000000) } }

/-- A port has become `ACTIVE`: a census held for it goes on. -/
def State.releaseCensus (s : State) (p : Nat) : State :=
  match s.net.held with
  | some (f, out, _) =>
    if out = p then ({ s with net := { s.net with held := none } }).passCensus f p else s
  | none => s

/-- What a census does to the unit's address, and the entry and flags it adds (R294 step 2, R295). -/
def State.takeAddress (s : State) (f : CensusFrame) : State × CensusFrame :=
  let held := s.getF F.SYS_CHAIN.ADDR
  let add := fun (s : State) (ov cf : Bool) =>
    ({ f with next := f.next + 1, overflow := f.overflow || ov, conflict := f.conflict || cf,
              entries := f.entries ++ [{ s.ownEntry with overflow := ov, conflict := cf }] } : CensusFrame)
  if held ≠ 0 && s.net.addrId = f.id then (s, add s false false)
  else if 63 < f.next then (s, add s true false)
  else if s.frames && f.next ≠ held then
    let s := s.raiseEvt (portPage s.hostPort) 5
    (s, add s false true)
  else
    let s := ({ s with net := { s.net with addrId := f.id } }.setF F.SYS_CHAIN.ADDR f.next).updateIp
    (s, add s false false)

/-- Two instants lie in the same cycle of REF. -/
def sameTick (a b : Nat) : Bool := a / 20 = b / 20

/-- A port has gone down in the present cycle (R299). -/
def State.downNow (s : State) (p : Nat) : Bool := s.portOn p && (s.port p).downAt.any (sameTick s.now)

/-- R294: a census. One that arrives in the cycle in which its port is lost still decides the host-facing port (R299). -/
def doCensus (portB : Bool) (frame : CensusFrame) (t : Nat) (s : State) : State :=
  let s := s.at t
  let p := portNo portB
  if !s.portOn p || !(s.portActive p || s.downNow p) then s
  else
    let moved := s.hostPort ≠ p
    let s := s.setHostSide p
    let s := { s with net := { s.net with censusAt := some s.now } }
    let s := if moved then s.reacquire else s
    let (s, f) := (s.raiseEvt (portPage p) 4).takeAddress frame
    s.passCensus f (1 - p)

def execCensus (portB : Bool) (frame : CensusFrame) (t : Nat) (s : State) : Host.Outcome State Fault Refusal :=
  answer (doCensus portB frame t s)

/-- R294 step 5: the other port is still not `ACTIVE` after HOLD. -/
def doCensusHoldExpiry (t : Nat) (s : State) : State :=
  let s := s.at t
  match s.net.held with
  | some (f, _, due) => if due ≤ s.now then ({ s with net := { s.net with held := none } }).chainEnd f else s
  | none => s

def execCensusHoldExpiry (t : Nat) (s : State) : Host.Outcome State Fault Refusal := answer (doCensusHoldExpiry t s)

/-- R294: a census done frame on its way to the host. -/
def doCensusDone (portB : Bool) (frame : CensusFrame) (t : Nat) (s : State) : State :=
  let s := s.at t
  let p := portNo portB
  if !s.portOn p || !s.portActive p then s
  else
    let s := s.copyDone frame
    let out := 1 - p
    if s.portActive out then s.sendFrame out 2 (censusBytes frame 2 false) else s

def execCensusDone (portB : Bool) (frame : CensusFrame) (t : Nat) (s : State) : Host.Outcome State Fault Refusal :=
  answer (doCensusDone portB frame t s)

/-- R298: a reverse census sets RING on the port it arrives on and goes on to the far end, which discards it; it is a census received
(`BLK_ISR.EVT` bit 4, R303). -/
def doReverseCensus (portB : Bool) (frame : CensusFrame) (t : Nat) (s : State) : State :=
  let s := s.at t
  let p := portNo portB
  if !s.portOn p || !s.portActive p then s
  else
    let s := (s.raiseEvt (portPage p) 4).setF (nt p F.NTA_STAT.RING) 1
    let out := 1 - p
    if s.portActive out && s.chainMode out then s.sendFrame out 1 (censusBytes frame 1 true) else s

def execReverseCensus (portB : Bool) (frame : CensusFrame) (t : Nat) (s : State) : Host.Outcome State Fault Refusal :=
  answer (doReverseCensus portB frame t s)

/-- R295: a port that became `ACTIVE` or went down is reported out of the host-facing port. -/
def doLinkNotice (portB : Bool) (t : Nat) (s : State) : State :=
  let s := s.at t
  let p := portNo portB
  if s.net.notices.contains p && s.portActive s.hostPort then
    let s := { s with net := { s.net with notices := s.net.notices.filter (· ≠ p) } }
    s.sendFrame s.hostPort 3 (s.noticeBytes p)
  else s

def execLinkNotice (portB : Bool) (t : Nat) (s : State) : Host.Outcome State Fault Refusal := answer (doLinkNotice portB t s)

/-- R299: a unit of a ring that has lost its host-facing port turns to the other, but for a port that a census chose in the cycle of its
loss. -/
def doRingFailover (t : Nat) (s : State) : State :=
  let s := s.at t
  let lost := s.hostPort
  let chosen := s.net.censusAt.any (fun c => (s.port lost).downAt.any (sameTick c))
  if (s.flag (nt 0 F.NTA_STAT.RING) || s.flag (nt 1 F.NTA_STAT.RING)) && !s.portActive lost && !chosen then
    let p := 1 - lost
    let s := (s.setHostSide p).reacquire
    if s.portActive p then s.sendFrame p 3 (s.noticeBytes lost) else s.notice lost
  else s

def execRingFailover (t : Nat) (s : State) : Host.Outcome State Fault Refusal := answer (doRingFailover t s)

/-! ## Links (R282 to R287) -/

/-- Port latencies by rate, 1/16 ns (R303). -/
def State.setLatency (s : State) (p rate : Nat) : State :=
  let l := match rate with
    | 0 => (1536, 2376) | 1 => (2912, 4648) | _ => (5696, 9136)
  (s.setF (nt p F.NTA_LAT.TX) l.1).setF (nt p F.NTA_LAT.RX) l.2

/-- The lanes of a chain link that are marker-locked (R303): all, lane 4 where it trained, but for the lane that lane 4 has replaced. -/
def State.chainLanes (s : State) (p : Nat) (four : Bool) : Nat :=
  let r := s.getF (nt p F.NTA_LANES.SPARE_RX)
  (if four then 31 else 15) - (if four && r < 4 then 2 ^ r else 0)

/-- The DHCPv4 client asks out of the host-facing port for an address, the MAC address its client identifier (R297); what else its messages
hold is DHCP's. Its frame counts 328 bytes of IP packet (log entry 48). -/
def State.askDhcp (s : State) : State :=
  if s.getF F.NTA_IP.V4 = 1 && s.portActive s.hostPort then
    (s.mapPort s.hostPort (fun x => { x with ctlBits := x.ctlBits + frameBits 328 })).emit (.dhcp s.hostPort s.unitMac)
  else s

/-! ### Lane symbols (R281) -/

/-- The PAM4 symbol of a pair of bits, first bit first, and the level of a symbol: Gray mapping. -/
def pam4Symbol (a b : Bool) : Nat := if a then (if b then 2 else 3) else (if b then 1 else 0)
def pam4Level (x : Nat) : Int := 2 * (x : Int) - 3

/-- The transmit precoder from its last output `y`: y_n = (x_n − y_{n−1}) mod 4. -/
def precode : Nat → List Nat → List Nat
  | _, [] => []
  | y, x :: l => let z := (x + 4 - y) % 4; z :: precode z l

/-- The receive decoder from the last symbol received: x_n = (y_n + y_{n−1}) mod 4. -/
def decodeSymbols : Nat → List Nat → List Nat
  | _, [] => []
  | y, z :: l => (z + y) % 4 :: decodeSymbols z l

/-- What a transmit lane sends of a row of symbols, and what the receiver takes from a lane, as `NTA_LANES` sets the lane. -/
def State.laneSends (s : State) (p lane y : Nat) (l : List Nat) : List Nat := if s.bitF (nt p F.NTA_LANES.TX_PRE) lane then precode y l else l
def State.laneTakes (s : State) (p lane y : Nat) (l : List Nat) : List Nat := if s.bitF (nt p F.NTA_LANES.RX_PRE) lane then decodeSymbols y l else l

/-- A link comes up: its rate, whether in chain mode, and its lanes. -/
def State.linkUp (s : State) (p rate : Nat) (chain : Bool) (lanes txPre rxPre : Nat) : State :=
  let s := ((s.setF (nt p F.NTA_STAT.STAGE) 6).setB (nt p F.NTA_STAT.CHAIN) chain).setB (nt p F.NTA_STAT.PEER) chain
  let s := ((s.setF (nt p F.NTA_STAT.RATE) rate).setLatency p rate).setF (nt p F.NTA_LANES.LOCK) lanes
  let s := (s.setF (nt p F.NTA_LANES.TX_PRE) txPre).setF (nt p F.NTA_LANES.RX_PRE) rxPre
  let s := s.mapPort p (fun x => { x with idleFrom := s.now, wakePending := false, bucket := bucketBits })
  let s := (s.raiseEvt (portPage p) 0).notice p
  let s := (if chain then s.raiseEvt (portPage p) 3 else s).releaseCensus p
  if s.hostPort = p then s.askDhcp else s

/-- A link goes down or a training attempt fails: back to `DETECT`, or down in STANDARD, from instant `from_`. -/
def State.linkLost (s : State) (p from_ : Nat) : State :=
  let stage := if s.getF (nt p F.NTA_CTL.MODE) = 1 || !(s.port p).ready then 0 else 1
  let s := ((s.setF (nt p F.NTA_STAT.STAGE) stage).setF (nt p F.NTA_STAT.CHAIN) 0).setF (nt p F.NTA_STAT.PEER) 0
  let s := ((s.setF (nt p F.NTA_STAT.TX_ASLEEP) 0).setF (nt p F.NTA_STAT.RX_ASLEEP) 0).setF (nt p F.NTA_LANES.LOCK) 0
  let s := s.mapPort p (fun x => { x with stageAt := from_, peer := none, wakePending := false })
  s.bump (nt p F.NTA_LINK.DOWNS) 1

/-- An `ACTIVE` link is lost. -/
def State.linkBroken (s : State) (p : Nat) : State :=
  (((s.linkLost p s.now).mapPort p (fun x => { x with downAt := some s.now })).raiseEvt (portPage p) 1).notice p

/-- A commit has changed `NTA_IP` to DHCP: the client asks (R297). -/
def State.ipCommit (s old : State) : State :=
  if s.getF F.NTA_IP.V4 = 1 && old.getF F.NTA_IP.V4 ≠ 1 then s.askDhcp else s

/-- A commit has changed MODE or RATE (R282): a link that the new setting does not run is dropped, and a port without a link begins in its
mode (log entry 47). -/
def State.portCommit (s old : State) (p : Nat) : State :=
  let mode := s.getF (nt p F.NTA_CTL.MODE)
  let rate := s.getF (nt p F.NTA_CTL.RATE)
  if mode = old.getF (nt p F.NTA_CTL.MODE) && rate = old.getF (nt p F.NTA_CTL.RATE) then s
  else if s.portActive p then
    let runs := if s.chainMode p then mode ≠ 1 else mode ≠ 2 && rate = s.getF (nt p F.NTA_STAT.RATE)
    if runs then s else s.linkBroken p
  else if mode = 1 then s.setF (nt p F.NTA_STAT.STAGE) 0
  else if (s.port p).ready && s.stage p = 0 then
    (s.setF (nt p F.NTA_STAT.STAGE) 1).mapPort p (fun x => { x with stageAt := s.now })
  else s

/-- The lanes that a port's mode uses: those of its rate in STANDARD, else lanes 0 to 3; without lane 4 a chain link has no spare
(R279, R282, R287). -/
def State.modeLanes (s : State) (p : Nat) : Nat :=
  if s.getF (nt p F.NTA_CTL.MODE) = 1 then nth 1 [15, 3, 1] (s.getF (nt p F.NTA_CTL.RATE)) else 15

/-- R278, R282: the module present pin and CMIS report on the module. One whose data path is active on every lane of the mode is ready, and the port begins; one that no
longer is leaves a port without a link down. -/
def doModuleReady (report : ModuleReport) (t : Nat) (s : State) : State :=
  let s := s.at t
  let p := portNo report.portB
  let ready := report.present && decide (report.lanes &&& s.modeLanes p = s.modeLanes p)
  let was := (s.port p).ready
  let s := s.mapPort p (fun x => { x with present := some report.present })
  if !s.portOn p then s
  else
    let s := s.mapPort p (fun x => { x with ready := ready, stageAt := if ready && !was then s.now else x.stageAt })
    if ready && !was then (if s.getF (nt p F.NTA_CTL.MODE) = 1 then s else s.setF (nt p F.NTA_STAT.STAGE) 1)
    else if !ready && !s.portActive p then s.setF (nt p F.NTA_STAT.STAGE) 0
    else s

def execModuleReady (report : ModuleReport) (t : Nat) (s : State) : Host.Outcome State Fault Refusal := answer (doModuleReady report t s)

/-- Least duration of a stage in ns, where R283 gives one. -/
def stageMin : Nat → Nat
  | 2 => 15000000 | 4 => 420000 | _ => 0

/-- Largest duration of a stage; `DETECT` has none of its own, because its reference needs both ends (R282 step 4). -/
def stageMax : Nat → Option Nat
  | 2 => some 45000000 | 3 => some 2000000 | 4 => some 1500000 | 5 => some 3000000 | _ => none

/-- The spare lanes of port `p` when a link trains: with lane 4, those not in service are left, and a lane that has been replaced stays so
(R349); without it there is none. A change of `BLK_SPARE` is bit 29 (R31). -/
def State.trainLanes (s : State) (p : Nat) (four : Bool) : State :=
  let pg := portPage p
  let used := if four then s.getF (H.SPARE_USED pg) else 0
  let left := if four then 2 - used else 0
  let moved := s.getF (H.SPARE_LEFT pg) ≠ left || s.getF (H.SPARE_USED pg) ≠ used
  let s := (s.setF (H.SPARE_LEFT pg) left).setF (H.SPARE_USED pg) used
  let s := if four then s
    else ((s.setF (H.SPARE_MAP pg) 0).setF (nt p F.NTA_LANES.SPARE_TX) 7).setF (nt p F.NTA_LANES.SPARE_RX) 7
  if moved then s.raiseEvt pg 29 else s

/-- R287: the link is to retrain at 200 Gbit/s on two lanes, without a spare. -/
def State.fallBack (s : State) (p : Nat) : State :=
  ((s.mapPort p (fun x => { x with twoLanes := true, lane4 := false })).trainLanes p false).poolTrigger (portPage p) 0x41

/-- The unit's own capabilities, as its capability frame gives them (R283). -/
def State.ownCaps (s : State) (p residence : Nat) : PeerCaps :=
  { serial := s.serialNo, mac := s.unitMac, lane4 := (s.port p).lane4, sleep := s.flag (nt p F.NTA_CTL.SLEEP), deep := s.flag (nt p F.NTA_CTL.DEEP)
    residence := residence }

/-- R283, R287: the link advances; at `CAPS` each end sends its capabilities, and the link then is `ACTIVE`, with what is left of the spares
where lane 4 trained. Where it was to train and did not, the link retrains on two lanes. -/
def doLinkStageComplete (portB lane4 : Bool) (caps : CapsExchange) (t : Nat) (s : State) : State :=
  let s := s.at t
  let p := portNo portB
  let st := s.stage p
  if !s.portOn p || st = 0 || 6 ≤ st || decide (s.now < (s.port p).stageAt + stageMin st) then s
  else if st = 5 then
    let two := (s.port p).twoLanes
    let four := (s.port p).lane4 && caps.peer.lane4 && !two
    let s := s.emit (.capability p (s.ownCaps p caps.residence))
    if !four && !two && s.flag (nt p F.NTA_CTL.SPARE) then (s.linkLost p s.now).fallBack p
    else
      let s := s.mapPort p (fun x => { x with peer := some caps.peer, lane4 := four, residence := caps.residence, margins := caps.margins })
      let s := s.trainLanes p four
      s.linkUp p (if two then 1 else 0) true (if two then 3 else s.chainLanes p four) 31 31
  else
    let s := if st = 2 then s.mapPort p (fun x => { x with lane4 := lane4 && s.flag (nt p F.NTA_CTL.SPARE) }) else s
    (s.setF (nt p F.NTA_STAT.STAGE) (st + 1)).mapPort p (fun x => { x with stageAt := s.now })

def execLinkStageComplete (portB lane4 : Bool) (caps : CapsExchange) (t : Nat) (s : State) : Host.Outcome State Fault Refusal :=
  answer (doLinkStageComplete portB lane4 caps t s)

/-- R284: a stage has exceeded its maximum; after 10 ms of silence the port detects again. -/
def doLinkStageTimeout (portB : Bool) (t : Nat) (s : State) : State :=
  let s := s.at t
  let p := portNo portB
  match stageMax (s.stage p) with
  | some d => if s.portOn p && decide ((s.port p).stageAt + d ≤ s.now) then s.linkLost p (s.now + 10000000) else s
  | none => s

def execLinkStageTimeout (portB : Bool) (t : Nat) (s : State) : Host.Outcome State Fault Refusal := answer (doLinkStageTimeout portB t s)

/-- R284: an `ACTIVE` link drops. -/
def doLinkDown (portB : Bool) (t : Nat) (s : State) : State :=
  let s := s.at t
  let p := portNo portB
  if s.portOn p && s.portActive p then s.linkBroken p else s

def execLinkDown (portB : Bool) (t : Nat) (s : State) : Host.Outcome State Fault Refusal := answer (doLinkDown portB t s)

/-- R282: the receiver locks to a standard stream at the set rate. -/
def doStandardLock (portB : Bool) (txPre rxPre : Nat) (t : Nat) (s : State) : State :=
  let s := s.at t
  let p := portNo portB
  let mode := s.getF (nt p F.NTA_CTL.MODE)
  if s.portOn p && (s.port p).ready && (mode = 1 || (mode = 0 && s.stage p = 1)) && !s.portActive p
      && decide ((s.port p).stageAt ≤ s.now) then
    let rate := s.getF (nt p F.NTA_CTL.RATE)
    s.linkUp p rate false (match rate with | 0 => 15 | 1 => 3 | _ => 1) (txPre % 32) (rxPre % 32)
  else s

def execStandardLock (portB : Bool) (txPre rxPre : Nat) (t : Nat) (s : State) : Host.Outcome State Fault Refusal :=
  answer (doStandardLock portB txPre rxPre t s)

/-- R282 step 5: a port in AUTO on a standard link drops it and retrains in chain mode. -/
def doCapabilityFrame (portB : Bool) (t : Nat) (s : State) : State :=
  let s := s.at t
  let p := portNo portB
  if s.portOn p && s.portActive p && !s.chainMode p && s.getF (nt p F.NTA_CTL.MODE) = 0 then s.linkBroken p else s

def execCapabilityFrame (portB : Bool) (t : Nat) (s : State) : Host.Outcome State Fault Refusal := answer (doCapabilityFrame portB t s)

/-- The spare lane of a direction takes over lane `lane`; the direction's pool is exhausted (R287). The lane replaced is no longer
marker-locked. -/
def State.takeLane (s : State) (p : Nat) (tx : Bool) (lane : Nat) : State :=
  let pg := portPage p
  let s := s.setF (nt p (if tx then F.NTA_LANES.SPARE_TX else F.NTA_LANES.SPARE_RX)) lane
  let s := (s.bump (nt p F.NTA_LINK.SWAPS) 1).bump (H.SPARE_USED pg) 1
  let s := (s.setF (H.SPARE_LEFT pg) (s.getF (H.SPARE_LEFT pg) - 1)).setBit (H.SPARE_MAP pg) (if tx then 0 else 1) true
  let s := if tx then s else s.setBit (nt p F.NTA_LANES.LOCK) lane false
  ((s.raiseEvt pg 2).spareTaken pg).poolTrigger pg 0x40

/-- The direction's spare is free. -/
def State.laneSpareFree (s : State) (p : Nat) (tx : Bool) : Bool :=
  (s.port p).lane4 && s.getF (nt p (if tx then F.NTA_LANES.SPARE_TX else F.NTA_LANES.SPARE_RX)) = 7

/-- A sleeping direction wakes (R285, R289). -/
def State.wakeDir (s : State) (p : Nat) (tx : Bool) : State :=
  let s := s.setF (nt p (if tx then F.NTA_STAT.TX_ASLEEP else F.NTA_STAT.RX_ASLEEP)) 0
  if tx then s.mapPort p (fun x => { x with wakePending := false, idleFrom := s.now }) else s

/-- R285: a planned replacement. -/
def doLaneSwap (portB tx : Bool) (lane : Fin 4) (t : Nat) (s : State) : State :=
  let s := s.at t
  let p := portNo portB
  if s.portOn p && s.portActive p && s.chainMode p && s.laneSpareFree p tx then (s.wakeDir p tx).takeLane p tx lane.val else s

def execLaneSwap (portB tx : Bool) (lane : Fin 4) (t : Nat) (s : State) : Host.Outcome State Fault Refusal :=
  answer (doLaneSwap portB tx lane t s)

/-- R286, R287: a lane of a chain link is lost: the spare takes over, or the link retrains at 200 Gbit/s. -/
def doLaneFailure (portB tx : Bool) (lane : Fin 4) (t : Nat) (s : State) : State :=
  let s := s.at t
  let p := portNo portB
  if !s.portOn p || !s.portActive p || !s.chainMode p then s
  else if s.laneSpareFree p tx then (s.wakeDir p tx).takeLane p tx lane.val
  else (s.linkBroken p).fallBack p

def execLaneFailure (portB tx : Bool) (lane : Fin 4) (t : Nat) (s : State) : Host.Outcome State Fault Refusal :=
  answer (doLaneFailure portB tx lane t s)

/-! ## Sleep and wake (R288, R289) -/

/-- Both ends permit sleep (or deep sleep). -/
def State.bothSleep (s : State) (p : Nat) (deep : Bool) : Bool :=
  match (s.port p).peer with
  | some c => if deep then s.flag (nt p F.NTA_CTL.DEEP) && c.deep else s.flag (nt p F.NTA_CTL.SLEEP) && c.sleep
  | none => false

/-- The transmitter has nothing to send. -/
def State.txEmpty (s : State) (p : Nat) : Bool := (s.port p).waits = 0

/-- R288: a direction sleeps. -/
def doSleep (portB tx : Bool) (t : Nat) (s : State) : State :=
  let s := s.at t
  let p := portNo portB
  if !s.portOn p || !s.portActive p || !s.chainMode p || !s.bothSleep p false then s
  else if !tx then s.setF (nt p F.NTA_STAT.RX_ASLEEP) 1
  else if s.txEmpty p && decide ((s.port p).idleFrom + s.getF (nt p F.NTA_CTL.IDLE) * 10000 ≤ s.now) then
    (s.setF (nt p F.NTA_STAT.TX_ASLEEP) 1).mapPort p (fun x => { x with burstAt := s.now, wakePending := false })
  else s

def execSleep (portB tx : Bool) (t : Nat) (s : State) : Host.Outcome State Fault Refusal := answer (doSleep portB tx t s)

/-- R289: a frame to send on a sleeping direction wakes it, under deep sleep of both directions in the next refresh burst. -/
def doWake (portB tx : Bool) (t : Nat) (s : State) : State :=
  let s := s.at t
  let p := portNo portB
  if !s.portOn p || !s.portActive p then s
  else if !tx then s.wakeDir p false
  else if !s.flag (nt p F.NTA_STAT.TX_ASLEEP) || s.txEmpty p then s
  else if s.flag (nt p F.NTA_STAT.RX_ASLEEP) && s.bothSleep p true then s.mapPort p (fun x => { x with wakePending := true })
  else s.wakeDir p true

def execWake (portB tx : Bool) (t : Nat) (s : State) : Host.Outcome State Fault Refusal := answer (doWake portB tx t s)

/-- R288, R289: a refresh burst, 1 ms after the last, which carries a wake request that waits. -/
def doRefreshBurst (portB : Bool) (t : Nat) (s : State) : State :=
  let s := s.at t
  let p := portNo portB
  if s.portOn p && s.flag (nt p F.NTA_STAT.TX_ASLEEP) && decide ((s.port p).burstAt + 1000000 ≤ s.now) then
    let s := s.mapPort p (fun x => { x with burstAt := s.now })
    if (s.port p).wakePending then s.wakeDir p true else s
  else s

def execRefreshBurst (portB : Bool) (t : Nat) (s : State) : Host.Outcome State Fault Refusal := answer (doRefreshBurst portB t s)

/-! ## Forwarding (R279, R280, R290) -/

/-- Forward a frame out of port `out`, unless its forwarding buffer of 1 MiB is full. -/
def State.forwardFrame (s : State) (out bytes : Nat) : State :=
  if !s.portActive out then s
  else if 1048576 * 8 < (s.port out).fwdBits + bytes * 8 then
    ((s.bump (nt out F.NTA_DROP.FWD) 1).recErr (portPage out) 0x06 0).raiseEvt (portPage out) 7
  else s.mapPort out (fun x => { x with fwdBits := x.fwdBits + bytes * 8 })

/-- A frame of EtherType 0x88B5 or 0x88B6 whose TYPE is reserved is dropped (R293, R433). -/
def frameReserved (f : EthFrame) : Bool := (f.etherType = 0x88B5 && !between 1 3 f.type) || (f.etherType = 0x88B6 && f.type ≠ 1)

/-- A census, a census done or a chain trigger: its own command acts on it and forwards it. -/
def frameHasCommand (f : EthFrame) : Bool := (f.etherType = 0x88B5 && (f.type = 1 || f.type = 2)) || (f.etherType = 0x88B6 && f.type = 1)

/-- Codewords that the receiver corrected, or could not, count in the TAI second (R303). -/
def State.noteFec (s : State) (p corrected uncorrectable : Nat) : State :=
  let sec := s.taiNs / 1000000000
  s.mapPort p (fun x =>
    let old := (tabFind sec x.fec).getD (0, 0)
    { x with fec := tabSet sec (old.1 + corrected, old.2 + uncorrectable) (x.fec.filter (fun e => decide (sec ≤ e.1 + 1))) })

/-- R279, R280, R290: a frame is discarded and counted, dropped, delivered, forwarded, or both. -/
def doFrameReceive (portB : Bool) (frame : EthFrame) (t : Nat) (s : State) : State :=
  let s := s.at t
  let p := portNo portB
  if !s.portOn p || !s.portActive p then s
  else
  let s := s.noteFec p frame.corrected frame.uncorrectable
  if !frame.fcsOk || decide (9216 < frame.bytes) || frame.pause || (frame.tagged && frame.dest = .unit) then
    s.bump (nt p F.NTA_DROP.RXDROP) 1
  else if frameReserved frame || frameHasCommand frame then s
  else
    let s := if frame.dest = .unit then s else s.forwardFrame (1 - p) frame.bytes
    match frame.dhcp with
    | some a => if frame.dest = .other || frame.tagged then s else ({ s with net := { s.net with dhcp := a % 2 ^ 32 } }).updateIp
    | none => s

def execFrameReceive (portB : Bool) (frame : EthFrame) (t : Nat) (s : State) : Host.Outcome State Fault Refusal :=
  answer (doFrameReceive portB frame t s)

end Sys2Proof.Machine
end

