-- ==== Sys2Proof/Machine/Streams.lean ====
section
/-! DEFINITION. Stream datagrams, acknowledgement, retransmission, retention, the ledger's background copy, and LP-DRAM
(chapter 14 from R322). -/

namespace Sys2Proof.Machine

/-- Apply a function to the transport state. -/
def State.mapTp (s : State) (f : TransportState → TransportState) : State := { s with tp := f s.tp }

def State.queue (s : State) (q : Nat) : Option Queue := tabFind q s.tp.queues
def State.setQueue (s : State) (q : Nat) (x : Queue) : State := s.mapTp (fun t => { t with queues := tabSet q x t.queues })
/-- Change a queue, as it stands, if it is open. -/
def State.mapQueue (s : State) (q : Nat) (f : Queue → Queue) : State :=
  match s.queue q with
  | some x => s.setQueue q (f x)
  | none => s

/-- Bytes of a control response, OPEN_REPLY or ACK_ERROR (R305, R327); 0 for what does not pass the control buffer. -/
def Out.controlBytes : Out → Nat
  | .response _ _ _ _ _ _ _ _ payload code => 24 + payload.length + code.length
  | .openReply _ _ _ _ _ _ _ payload code => 24 + payload.length + code.length
  | .ackError _ _ _ _ _ _ _ => 40
  | _ => 0

/-- Send a control message through the control buffer of the host-facing port (R290). -/
def State.sendControl (s : State) (o : Out) : State :=
  (s.mapPort s.hostPort (fun x => { x with ctlBits := x.ctlBits + o.controlBytes * 8 })).emit o

/-- The control buffer of 256 KiB is not full (R290). -/
def State.ctlRoom (s : State) : Bool := decide ((s.port s.hostPort).ctlBits < 262144 * 8)

/-! ## Datagrams (R322, R323, R332) -/

/-- What a datagram carries: a retained record with its number, or a gap. -/
inductive Item where
  | record (num kind : Nat) (bytes : List Byte)
  | gap (first last : Nat)
  deriving DecidableEq, Repr

/-- Retained records of queue `q` numbered from `first` to `last`, in order. -/
def State.retained (s : State) (q first last : Nat) : List (Nat × JRec) :=
  (s.tp.journal.filterMap (fun r =>
    match tabFind q r.nums with
    | some n => if first ≤ n && n ≤ last && !r.lost then some (n, r) else none
    | none => none)).reverse

/-- The items of the numbers `cur` to `last`: records, with a gap wherever numbers are missing. -/
def itemsFrom (last : Nat) : Nat → List (Nat × JRec) → List Item
  | cur, [] => if cur ≤ last then [.gap cur last] else []
  | cur, (n, r) :: l => (if cur < n then [.gap cur (n - 1)] else []) ++ .record n r.kind r.bytes :: itemsFrom last (n + 1) l

def State.items (s : State) (q first last : Nat) : List Item := itemsFrom last first (s.retained q first last)

/-- A record type of fixed size may stand up to 255 times in a run. -/
def fixedType (k : Nat) : Bool := k = 1 || k = 2 || k = 3 || k = 6 || k = 7

def itemKind : Item → Nat
  | .record _ k _ => k
  | .gap _ _ => 0xFF
def itemBody : Item → List Byte
  | .record _ _ b => b
  | .gap f l => leBytes 8 f ++ leBytes 8 l
def itemLast : Item → Nat
  | .record n _ _ => n
  | .gap _ l => l
/-- Numbers an item covers by a gap record. -/
def itemGapped : Item → Nat
  | .record _ _ _ => 0
  | .gap f l => l + 1 - f

/-- A run under way: its type and its records. -/
abbrev Run := Nat × List (List Byte)

/-- Add an item to the runs, latest first. -/
def addItem (runs : List Run) (i : Item) : List Run :=
  match runs with
  | (k, l) :: rest => if k = (itemKind i) && fixedType k && decide (l.length < 255) then (k, l ++ [(itemBody i)]) :: rest else ((itemKind i), [(itemBody i)]) :: runs
  | [] => [((itemKind i), [(itemBody i)])]

def runBytes (r : Run) : List Byte :=
  leBytes 1 r.1 ++ leBytes 1 r.2.length ++ leBytes 2 r.2.flatten.length ++ r.2.flatten

def runsBytes (runs : List Run) : List Byte := (runs.reverse.map runBytes).flatten

/-- The items that fit into `room` bytes, and whether the next one would overflow. -/
def packItems (room : Nat) : List Run → List Item → List Item → List Item × Bool
  | _, acc, [] => (acc.reverse, false)
  | runs, acc, i :: l =>
    let next := addItem runs i
    if (runsBytes next).length ≤ room then packItems room next (i :: acc) l else (acc.reverse, true)

/-- Bytes that items hold in the window: those of records and gap records. -/
def windowBytes (l : List Item) : Nat := l.foldl (fun n i => n + (itemBody i).length) 0

/-- The bytes of the runs of a list of items. -/
def itemsBytes (l : List Item) : List Byte := runsBytes (l.foldl addItem [])

/-- A port takes a datagram of `n` bytes: it is `ACTIVE` and its own-traffic buffer of 4 MiB has room (R290, R292). -/
def State.portTakes (s : State) (p n : Nat) : Bool :=
  s.portActive p && decide ((s.port p).ownBits + n * 8 ≤ 4194304 * 8)

/-- COUNT of a datagram: 16 bits; where a gap covers more numbers the spec gives no value (log entry 7). -/
def State.countField (s : State) (n : Nat) : Nat := if n < 65536 then n else s.freeNat % 65536

/-- Count gap records sent. -/
def State.countGaps (s : State) (l : List Item) : State :=
  let n := (l.filter (fun i => (itemKind i) = 0xFF)).length
  if n = 0 then s else (s.bump F.QUE_GAPS.COUNT n).raiseEvt 20 4

/-- The 32-byte header of a stream datagram, its length with the runs that follow (R322). -/
def datagramHeader (queue len qgen first count cls flags : Nat) : List Byte :=
  leBytes 2 0x4B49 ++ leBytes 1 1 ++ leBytes 1 0x20 ++ leBytes 2 queue ++ leBytes 2 len ++ leBytes 4 qgen ++ leBytes 4 0 ++ leBytes 8 first
    ++ leBytes 2 count ++ leBytes 1 cls ++ leBytes 1 flags ++ leBytes 4 0

def queuePort (x : Queue) : Nat := if x.portB then 1 else 0

/-- Where the datagrams of a queue go (R318): the source address of its session, at DPORT. -/
def State.queueDest (s : State) (x : Queue) : Endpoint :=
  { ((tabFind x.session s.tp.sessions).map (·.peer)).getD ⟨0, 0, x.ip6⟩ with port := x.dport }

/-- Put a datagram into the own-traffic buffer of the queue's port, sent from `QUE_PORTS.STREAM` (R304). -/
def State.putDatagram (s : State) (q : Nat) (x : Queue) (first flags : Nat) (l : List Item) : State :=
  let last := l.foldl (fun m i => max m (itemLast i)) first
  let body := itemsBytes l
  let n := 32 + body.length
  let head := datagramHeader q n x.gen first (s.countField (last + 1 - first)) x.cls flags
  let s := s.mapPort (queuePort x) (fun p => { p with ownBits := p.ownBits + n * 8 })
  let s := (s.mapTp (fun t => { t with moved := s.noteMoved 1 body.length })).emit (.datagram (s.getF F.QUE_PORTS.STREAM) (s.queueDest x) (head ++ body))
  s.tick.countGaps l

def unackedBytes (x : Queue) : Nat := x.unacked.foldl (fun n d => n + d.bytes) 0

/-- The first items that `room` bytes of the window hold. -/
def windowPrefix : Nat → List Item → List Item
  | _, [] => []
  | room, i :: l => if (itemBody i).length ≤ room then i :: windowPrefix (room - (itemBody i).length) l else []

/-- A datagram of the queue whose retransmission time has run. -/
def State.resendDue (s : State) (x : Queue) : Option Sent := x.unacked.find? (fun d => decide (d.time + d.rto * 1000 ≤ s.now))

/-- R324: a queue sends when the next record would overflow MAXDG or its oldest unsent record has reached its flush age, as far as the
window allows, and after what it has to send again (R328). -/
def doDatagramSend (queue : Fin 16384) (t : Nat) (s : State) : State :=
  let s := s.at t
  let q := queue.val
  match s.queue q with
  | none => s
  | some x =>
    if !s.on 5 || (s.resendDue x).isSome then s
    else
      let (packed, more) := packItems (x.maxdg - 32) [] [] (s.items q (x.sent + 1) (x.next - 1))
      let l := windowPrefix (x.window * 1024 - unackedBytes x) packed
      let full := more && l.length = packed.length
      let oldest := ((s.retained q (x.sent + 1) (x.next - 1)).map (fun e => e.2.time)).headD 0
      let due := full || decide (oldest + x.flush * 1000 ≤ s.now)
      let bytes := windowBytes l
      if l.isEmpty || !due || !s.portTakes (queuePort x) (32 + (itemsBytes l).length) then s
      else
        let first := x.sent + 1
        let last := l.foldl (fun m i => max m (itemLast i)) x.sent
        let g := l.foldl (fun n i => n + (itemGapped i)) 0
        let d : Sent := { first := first, count := last + 1 - first, bytes := bytes, gapped := g, time := s.now, rto := s.getF F.QUE_RTO.INIT }
        (s.putDatagram q x first 0 l).mapQueue q (fun x => { x with sent := last, unacked := x.unacked ++ [d], gapped := x.gapped + g })

def execDatagramSend (queue : Fin 16384) (t : Nat) (s : State) : Host.Outcome State Fault Refusal := answer (doDatagramSend queue t s)

/-- Send a datagram of a queue again, with RETX set; records that have left retention are gaps now (R328). -/
def State.resend (s : State) (q : Nat) (d : Sent) : State :=
  match s.queue q with
  | none => s
  | some x =>
    let l := s.items q d.first (d.first + d.count - 1)
    if !s.portTakes (queuePort x) (32 + (itemsBytes l).length) then s
    else
      let g := l.foldl (fun n i => n + (itemGapped i)) 0
      let e : Sent := { d with bytes := windowBytes l, gapped := g, time := s.now, rto := min 256000 (2 * d.rto) }
      let again := fun (x : Queue) =>
        { x with unacked := x.unacked.map (fun y => if y = d then e else y), gapped := x.gapped + (g - d.gapped),
                 resent := s.now :: x.resent.filter (fun r => decide (s.now < r + 2000000000)) }
      ((s.putDatagram q x d.first 1 l).mapQueue q again).bump F.QUE_RETX.COUNT 1

/-- R328: the retransmission time of a datagram has run. -/
def doRetransmissionTimeout (queue : Fin 16384) (t : Nat) (s : State) : State :=
  let s := s.at t
  match s.queue queue.val with
  | none => s
  | some x =>
    match s.resendDue x with
    | some d => if s.on 5 then s.resend queue.val d else s
    | none => s

def execRetransmissionTimeout (queue : Fin 16384) (t : Nat) (s : State) : Host.Outcome State Fault Refusal :=
  answer (doRetransmissionTimeout queue t s)

/-! ## Acknowledgement (R325 to R327) -/

/-- The message authentication code under a session key (R309). -/
def sessionCode (key m : List Byte) : List Byte := (hmacSha256 key m).take 16

/-- An ACK is well formed (R325, R326). -/
def ackFormed (m : List Byte) : Bool :=
  let auth := (ofLe ((m.drop 14).take 1)).testBit 0
  decide (m.length = if auth then 48 else 32) && ofLe (m.take 2) = 0x4B49 && ofLe ((m.drop 2).take 1) = 1
    && ofLe ((m.drop 6).take 2) = m.length && decide (ofLe ((m.drop 4).take 2) < 16384) && decide (ofLe ((m.drop 12).take 2) < 4096)
    && decide (ofLe ((m.drop 14).take 1) < 4) && ofLe ((m.drop 15).take 1) = 0 && ofLe ((m.drop 24).take 8) = 0

/-- R327: answer a bad ACK, to where it came from (R304). What is not current for the session is sent as 0. -/
def State.ackError (s : State) (dest : Endpoint) (q qgen reason cum : Nat) (x : Option Queue) : State :=
  let (sent, last) := match x with
    | some x => (x.sent, x.next - 1)
    | none => (0, 0)
  let s := s.sendControl (.ackError dest q qgen reason cum sent last)
  let s := match x with
    | some x => s.setQueue q { x with ackErr := x.ackErr + 1 }
    | none => s
  let s := if reason = 1 then s.bump F.QUE_ACKERR.PREMATURE 1 else if reason = 2 then s.bump F.QUE_ACKERR.EXCESS 1 else s
  s.raiseEvt 20 3

/-- Release numbers up to `cum`: whole datagrams, and the first part of one. -/
def State.releaseTo (s : State) (q cum : Nat) (x : Queue) : Queue :=
  let cut := fun (d : Sent) =>
    if d.first + d.count ≤ cum + 1 then none
    else if cum < d.first then some { d with rto := s.getF F.QUE_RTO.INIT }
    else
      let l := s.items q (cum + 1) (d.first + d.count - 1)
      some { d with first := cum + 1, count := d.first + d.count - (cum + 1), bytes := windowBytes l,
                    gapped := l.foldl (fun n i => n + (itemGapped i)) 0, rto := s.getF F.QUE_RTO.INIT }
  { x with acked := cum, unacked := x.unacked.filterMap cut }

/-- A message with a valid code makes an authenticated session usable (R309). -/
def State.confirmSession (s : State) (i : Nat) : State :=
  match tabFind i s.tp.sessions with
  | some x => s.mapTp (fun t => { t with sessions := tabSet i { x with confirmed := true } t.sessions })
  | none => s

/-- Renew the lease of a session. -/
def State.renewSession (s : State) (i : Nat) : State :=
  match tabFind i s.tp.sessions with
  | some x => s.mapTp (fun t => { t with sessions := tabSet i { x with leaseEnd := s.now + x.leaseMs * 1000000 } t.sessions })
  | none => s

/-- Renew the lease of a queue and of its session (R326). -/
def State.renewQueue (s : State) (q : Nat) : State :=
  match s.queue q with
  | some x => (s.setQueue q { x with leaseEnd := s.now + x.leaseMs * 1000000 }).renewSession x.session
  | none => s

/-- The largest UDP payload that a frame of 9,216 bytes holds (R304). -/
def maxUdp (ip6 : Bool) : Nat := if ip6 then 9150 else 9170

/-- A datagram reaches the control port, in a frame that the MAC takes (R279, R304). -/
def State.atControlPort (s : State) (src : Endpoint) (d : Datagram) : Bool :=
  s.on 5 && d.port = s.getF F.QUE_PORTS.CTRL && decide (d.bytes.length ≤ maxUdp src.ip6)

/-- R326: an ACK. -/
def doAck (arrival : AckArrival) (t : Nat) (s : State) : State :=
  let s := s.at t
  let src := arrival.src
  let datagram := arrival.message.bytes
  if !s.atControlPort src arrival.message then s
  else if !ackFormed datagram then s.bump F.QUE_DROP.ACK 1
  else
    let fl := ofLe ((datagram.drop 14).take 1)
    let q := ofLe ((datagram.drop 4).take 2)
    let qgen := ofLe ((datagram.drop 8).take 4)
    let sess := ofLe ((datagram.drop 12).take 2)
    let cum := ofLe ((datagram.drop 16).take 8)
    let current := match s.queue q with
      | some x => if x.session = sess && x.gen = qgen then some x else none
      | none => none
    match tabFind sess s.tp.sessions with
    | none => s.ackError src q qgen 3 cum none
    | some ss =>
      let good := match ss.slot with
        | some _ => fl.testBit 0 && sessionCode ss.key (datagram.take 32) == datagram.drop 32
        | none => !fl.testBit 0
      if !good then s.ackError src q qgen 4 cum current
      else
        let s := s.confirmSession sess
        match current with
        | none => s.ackError src q qgen 3 cum none
        | some x =>
          if x.next ≤ cum then s.ackError src q qgen 2 cum current
          else if x.sent < cum then s.ackError src q qgen 1 cum current
          else
            let s := if cum ≤ x.acked then s else s.setQueue q (s.releaseTo q cum x)
            let s := s.renewQueue q
            if fl.testBit 1 then
              (match s.queue q with
               | some y => (y.unacked.filter (fun d => decide (cum < d.first + d.count))).foldl (fun s d => s.resend q d) s
               | none => s)
            else s

def execAck (arrival : AckArrival) (t : Nat) (s : State) : Host.Outcome State Fault Refusal := answer (doAck arrival t s)

/-! ## Queue leases and retention -/

/-- Release a queue. -/
def State.dropQueue (s : State) (q : Nat) : State := s.mapTp (fun t => { t with queues := tabDel q t.queues })

/-- R329: a queue's lease runs out. -/
def doQueueLeaseExpiry (queue : Fin 16384) (t : Nat) (s : State) : State :=
  let s := s.at t
  match s.queue queue.val with
  | some x => if s.on 5 && decide (x.leaseEnd ≤ s.now) then (s.dropQueue queue.val).raiseEvt 20 2 else s
  | none => s

def execQueueLeaseExpiry (queue : Fin 16384) (t : Nat) (s : State) : Host.Outcome State Fault Refusal :=
  answer (doQueueLeaseExpiry queue t s)

/-- Keep the records of a class that its region has room for and that are not older than MAXAGE; latest first. -/
def keepRecords (cls size oldest : Nat) : Nat → List JRec → List JRec
  | _, [] => []
  | used, r :: l =>
    if r.cls ≠ cls then r :: keepRecords cls size oldest used l
    else if size < used + r.bytes.length || r.time < oldest then keepRecords cls size oldest (used + r.bytes.length) l
    else r :: keepRecords cls size oldest (used + r.bytes.length) l

/-- R330: records leave the retention window of a class. -/
def doRetentionExpiry (cls : Fin 8) (t : Nat) (s : State) : State :=
  let s := s.at t
  let c := cls.val + 1
  if !s.on 5 then s
  else
    let age := s.getF (F.LDG_REGION.MAXAGE.inst c) * 10000000
    let size := s.getF (F.LDG_REGION.SIZE.inst c) * 1048576
    s.mapTp (fun x => { x with journal := keepRecords c size (s.now - age) 0 x.journal })

def execRetentionExpiry (cls : Fin 8) (t : Nat) (s : State) : Host.Outcome State Fault Refusal := answer (doRetentionExpiry cls t s)

/-! ## The command ledger (R53, R54, R315, R317) -/

/-- Entries not yet copied to NOR. -/
def State.uncopied (s : State) : Nat := (s.tp.banks.filter (fun e => !e.copied)).length

/-- Record an entry in both banks (R51): the completion marker no longer holds (R56). -/
def State.recordEntry (s : State) (e : LedgerEntry) : State :=
  s.mapTp (fun t => { t with banks := e :: t.banks, marker := false })

/-- Drop copied entries beyond the latest 16,384 (R315). -/
def trimBanks (l : List LedgerEntry) : List LedgerEntry :=
  l.take 16384 ++ (l.drop 16384).filter (fun e => !e.copied)

/-- Mark the oldest `n` uncopied entries of a list (oldest first) as copied. -/
def markCopied : Nat → List LedgerEntry → List LedgerEntry
  | 0, l => l
  | _, [] => []
  | n + 1, e :: l => if e.copied then e :: markCopied (n + 1) l else { e with copied := true } :: markCopied n l

/-- Copy the oldest `n` uncopied entries to NOR, which holds the latest 262,144. -/
def State.copyToNor (s : State) (n : Nat) : State :=
  let olds := (s.tp.banks.reverse.filter (fun e => !e.copied)).take n
  let copied := olds.map (fun e => { e with copied := true })
  s.mapTp (fun t => { t with banks := trimBanks (markCopied n t.banks.reverse).reverse,
                             nor := (copied.reverse ++ t.nor).take 262144 })

/-- Both command-ledger banks have failed: no response to any command (R61). -/
def State.banksLost (s : State) : Bool := s.flag F.LDG_BANK.A_FAIL && s.flag F.LDG_BANK.B_FAIL

/-- A session ends (R310): its queues are released, its waiting commands go, and R37 applies to a pending set it owns. -/
def State.endSession (s : State) (i : Nat) : State :=
  let s := s.mapTp (fun t => { t with
    sessions := tabDel i t.sessions
    accepted := t.accepted.filter (fun a => a.session ≠ i)
    queues := t.queues.filter (fun e => e.2.session ≠ i) })
  if s.sys.owner = some i then s.cancelPending 2 else s

/-- The response of a CLOSE has been sent: its session ends (R310). -/
def State.afterAnswer (s : State) (e : LedgerEntry) : State :=
  if e.opcode = 0x22 && (tabFind e.session s.tp.sessions).any (fun x => x.gen = e.gen) then s.endSession e.session else s

/-- Send withheld responses while fewer than 2,048 entries are uncopied and a bank is left, oldest first; an entry names the time its
response was sent (R313). -/
def State.releaseWithheld : Nat → State → State
  | 0, s => s
  | n + 1, s =>
    match s.tp.withheld with
    | [] => s
    | (e, o) :: l =>
      if s.uncopied < 2048 && !s.tp.ackHeld && !s.banksLost then
        State.releaseWithheld n
          ((((s.mapTp (fun t => { t with withheld := l })).recordEntry { e with tai := s.taiNs }).sendControl o).afterAnswer e)
      else s

/-- R53, R54: the background copy; with everything copied before an L0 reset or within hold-up, the completion marker is written, with a
lock-out record that is still to be written (R69). -/
def doLedgerNorCopy (n t : Nat) (s : State) : State :=
  let s := (s.at t).copyToNor n
  let l0 := match s.rst.active with
    | some r => r.level = 0 && !r.entered
    | none => false
  let done := (s.tp.ackHeld || l0) && s.uncopied = 0
  let s := if done then s.mapTp (fun x => { x with marker := true }) else s
  let s := if done && s.rst.lockLatch && s.rst.lockRecord.isNone then
      ({ s with rst := { s.rst with lockRecord := some { cause := s.rst.lockCause, tai := s.taiNs } } }).setF F.SFA_LOCK.RECORD 1
    else s
  State.releaseWithheld s.tp.withheld.length s

def execLedgerNorCopy (n t : Nat) (s : State) : Host.Outcome State Fault Refusal := answer (doLedgerNorCopy n t s)

/-- R317, R61: a bank is taken out of use: the other, its only spare, serves alone, which exhausts the pool (R355); the loss of both is a
cause of doubt. -/
def doLedgerBankFailure (bankB : Bool) (t : Nat) (s : State) : State :=
  let s := s.at t
  let f := if bankB then F.LDG_BANK.B_FAIL else F.LDG_BANK.A_FAIL
  if s.flag f then s
  else
    let s := (s.setF f 1).raiseEvt 21 0
    if s.flag F.LDG_BANK.A_FAIL && s.flag F.LDG_BANK.B_FAIL then (s.poolTrigger 21 0x41).enterSafe 0x2B [] else s.poolTrigger 21 0x40

def execLedgerBankFailure (bankB : Bool) (t : Nat) (s : State) : Host.Outcome State Fault Refusal := answer (doLedgerBankFailure bankB t s)

/-! ## LP-DRAM (R333 to R336) -/

/-- A stripe: seven data units of 256 bytes and one parity unit, 8,388,608 stripes in channels of 2 GiB. -/
def unitBytes : Nat := 256
def stripeBytes : Nat := 7 * unitBytes
def stripeCount : Nat := 2 ^ 31 / unitBytes

/-- Usable capacity, the area for saved state, and what is left for the regions and the recorder's buffer, in MiB (R331, R333). -/
def usableMiB : Nat := stripeCount * stripeBytes / 1048576
def savedMiB : Nat := 512
def regionsMiB : Nat := usableMiB - savedMiB

/-- The active channels that hold the data units of stripe `n`, in order, and the one that holds its parity: its place among the active
channels rotates from stripe to stripe (which it is in stripe 0 is the model's choice: log entry 14). -/
def State.stripeChannels (s : State) (n : Nat) : List Nat × Nat :=
  let l := onesOf 10 (s.getF F.MEM_CHAN.ACTIVE)
  let k := n % 8
  (l.eraseIdx k, nth 0 l k)

/-- The channel of a byte of LP-DRAM as striped. -/
def State.channelOf (s : State) (byte : Nat) : Nat :=
  nth 0 (s.stripeChannels (byte / stripeBytes)).1 (byte % stripeBytes / unitBytes)

/-- The last stripe that `n` bytes hold which begin at `place` of an area of `size` bytes, written round. -/
def lastStripe (area place n size : Nat) : Nat := (Config.stripedBase area + min (place + n) size - 1) / stripeBytes

/-- Rebuilds and copies in progress, in the order they began. -/
def State.rebuilds (s : State) : List Rebuild := s.mem.rebuild.toList ++ s.mem.second.toList

/-- The lowest spare channel that is idle and sound; one that a planned copy fills is neither active nor idle. -/
def State.idleChannel (s : State) : Option Nat :=
  let filling := fun (n : Nat) => s.rebuilds.any (fun r => r.planned && r.into = n)
  (List.range 10).find? (fun n => !s.bitF F.MEM_CHAN.ACTIVE n && !s.bitF F.MEM_CHAN.FAILED n && !filling n)

def State.setRebuild (s : State) (a b : Option Rebuild) : State := { s with mem := { s.mem with rebuild := a, second := b } }

/-- At most two rebuilds or copies are in progress. -/
def State.setRebuilds (s : State) (l : List Rebuild) : State := s.setRebuild l[0]? l[1]?

/-- The rebuild or copy that `MEM_REBUILD` shows: a copy until it is complete, and a second rebuild ahead of the one it has overtaken. -/
def State.shownRebuild (s : State) : Option Rebuild :=
  match s.mem.rebuild, s.mem.second with
  | some r, some q => if r.planned then some r else some q
  | r, _ => r

/-- `MEM_REBUILD` shows the rebuild or copy in progress; the progress is formed when it is read. -/
def State.showRebuild (s : State) : State :=
  match s.shownRebuild with
  | some r => ((s.setF F.MEM_REBUILD.STATE (if r.planned then 2 else if s.mem.second.isSome then 3 else 1)).setF F.MEM_REBUILD.FROM r.source).setF
      F.MEM_REBUILD.INTO r.into
  | none => s.setF F.MEM_REBUILD.STATE 0

/-- The last rebuild in progress whose stripes are not all in place: a copy leaves their parity, and what an earlier one had not reached is
lost already (R335). -/
def State.rebuilding (s : State) : Option Rebuild := s.rebuilds.reverse.find? (fun r => !r.planned)

/-- Stripes that a rebuild has reached, in ascending order at 8 GB/s of its channel (R334). -/
def Rebuild.reached (r : Rebuild) (now : Nat) : Nat := min stripeCount (8 * (now - r.start) / unitBytes)

/-- Take a spare channel, at once or by a planned copy of a channel that is retired (R349), and begin to fill it. The pool is exhausted with the second (R336). -/
def State.takeSpareChannel (s : State) (source into : Nat) (planned : Bool) : State :=
  let s := (if planned then s else s.setBit F.MEM_CHAN.ACTIVE into true).bump (H.SPARE_USED 22) 1
  let s := (s.setF (H.SPARE_LEFT 22) (s.getF (H.SPARE_LEFT 22) - 1)).setBit (H.SPARE_MAP 22) source true
  let s := ((s.setBit F.MEM_CHAN.FAILED source true).spareTaken 22).raiseEvt 22 1
  let r : Rebuild := { source := source, into := into, planned := planned, start := s.now }
  let s := (s.setRebuilds (s.rebuilds ++ [r])).showRebuild
  if s.getF (H.SPARE_LEFT 22) = 0 then s.poolTrigger 22 0x40 else s

/-- One idle spare less, where any is left. -/
def State.dropIdleChannel (s : State) : State :=
  let s := s.setF (H.SPARE_LEFT 22) (s.getF (H.SPARE_LEFT 22) - 1)
  if s.getF (H.SPARE_LEFT 22) = 0 then s.poolTrigger 22 0x40 else s

/-- What was written before instant `start` in stripes from `n` on is lost (R335): records are treated as beyond retention, and entries of the
recorder's buffer are gone. -/
def State.loseStripes (s : State) (start n : Nat) : State :=
  let gone := fun (j : JRec) => decide (j.time < start) && decide (n ≤ lastStripe j.cls j.place j.bytes.length (s.regionBytes j.cls))
  let s := s.mapTp (fun t => { t with journal := t.journal.map (fun j => if gone j then { j with lost := true } else j) })
  let size := s.getF F.REC_SIZE.SIZE * 1048576
  let starts := (List.scanl (fun (a x : Nat) => a - x) s.rcd.written (s.rcd.buffer.map RecEntry.size)).drop 1
  let old := fun (e : RecEntry) => decide (e.w + s.now < start + s.taiNs)
  let keep := (s.rcd.buffer.zip starts).filter (fun e => !(old e.1 && decide (n ≤ lastStripe 9 (e.2 % max 1 size) e.1.size size)))
  State.raiseEvt { s with rcd := { s.rcd with buffer := keep.map (·.1) } } 22 3

/-- A spare channel fails that carries no stripes. One that a planned copy fills gives way to the next idle one; with none left, the source
stays in service, worn (R353). -/
def State.spareChannelFails (s : State) (c : Nat) : State :=
  let s := s.raiseEvt 22 29
  match s.rebuilds.find? (fun r => r.planned && r.into = c) with
  | some r =>
    let s := (s.setF (H.SPARE_USED 22) (s.getF (H.SPARE_USED 22) - 1)).setRebuilds (s.rebuilds.filter (· ≠ r))
    let s := ((s.setBit (H.SPARE_MAP 22) r.source false).setBit F.MEM_CHAN.FAILED r.source false).showRebuild
    match s.idleChannel with
    | some sp => s.takeSpareChannel r.source sp true
    | none => s.setF (F.CAL_POOL_STAT.WORN.inst 4) 1
  | none => s.dropIdleChannel

/-- R334 to R336: a channel fails; before the rebuild of another completes, that is cause 0x41 (R61). -/
def doDramChannelFailure (chan : Fin 10) (errors : Nat) (t : Nat) (s : State) : State :=
  let s := s.at t
  let c := chan.val
  let s := if s.on 5 then s.bump (F.MEM_ERR.UNCORR.inst c) errors else s
  let was := s.bitF F.MEM_CHAN.ACTIVE c
  if !s.on 5 || (s.bitF F.MEM_CHAN.FAILED c && !was) then s
  else
    let s := ((s.setBit F.MEM_CHAN.FAILED c true).setBit F.MEM_CHAN.ACTIVE c false).raiseEvt 22 0
    let s := s.setBit (H.SPARE_MAP 22) c true
    if !was then s.spareChannelFails c
    else
      let copy := s.rebuilds.find? (fun r => r.planned && r.source = c)
      let copied := (copy.map (fun r => r.reached s.now)).getD 0
      let lose := if s.mem.noParity then (s.mapTp (fun x => { x with journal := [] })).raiseEvt 22 3
        else match s.rebuilding with
          | some r => (s.loseStripes r.start (max copied (r.reached s.now))).standTrigger 22 0x41
          | none => s
      match copy with
      | some r =>
        let l := lose.rebuilds.map (fun x => if x = r then { x with planned := false } else x)
        ((lose.setBit F.MEM_CHAN.ACTIVE r.into true).setRebuilds l).showRebuild
      | none =>
        match lose.idleChannel with
        | none => (({ lose with mem := { lose.mem with noParity := true } }).raiseEvt 22 29).poolTrigger 22 0x41
        | some sp => lose.takeSpareChannel c sp false

def execDramChannelFailure (loss : ChannelLoss) (t : Nat) (s : State) : Host.Outcome State Fault Refusal :=
  answer (doDramChannelFailure loss.chan loss.errors t s)

/-- R334 to R336: the rebuild or copy in progress completes; a channel copied from carries stripes no more. A rebuild overtaken by a second failure has
nothing left to do: its other stripes are lost. -/
def doDramRebuildComplete (t : Nat) (s : State) : State :=
  let s := s.at t
  match s.mem.rebuild with
  | none => s
  | some r =>
    if !s.on 5 then s
    else
      let s := if r.planned then
          ((s.setBit F.MEM_CHAN.ACTIVE r.into true).setBit F.MEM_CHAN.ACTIVE r.source false).recordDue
        else s
      ((s.setRebuild (if r.planned then s.mem.second else none) none).showRebuild).raiseEvt 22 2

def execDramRebuildComplete (t : Nat) (s : State) : Host.Outcome State Fault Refusal := answer (doDramRebuildComplete t s)

end Sys2Proof.Machine
end

