-- ==== Sys2Proof/Machine/Messages.lean ====
section
/-! DEFINITION. Control messages (R304 to R316): the header and its answers, sessions, the ledger as a retransmission sees it, and the
receive buffer of R337. -/

namespace Sys2Proof.Machine

/-! ## Answers (R305, R309) -/

/-- A field of a message. -/
def msgLe (m : List Byte) (off n : Nat) : Nat := ofLe ((m.drop off).take n)

/-- The 24-byte header of a message of the device. -/
def headerBytes (type sess len gen seq op status flags epoch : Nat) : List Byte :=
  leBytes 2 0x4B49 ++ leBytes 1 1 ++ leBytes 1 type ++ leBytes 2 sess ++ leBytes 2 len ++ leBytes 4 gen ++ leBytes 4 seq ++ leBytes 2 op
    ++ leBytes 1 status ++ leBytes 1 flags ++ leBytes 4 epoch

/-- The code of a message under a session key, over everything before it; none without a key. -/
def codeFor (key : Option (List Byte)) (type sess gen seq op status flags epoch : Nat) (payload : List Byte) : List Byte :=
  match key with
  | some k => sessionCode k (headerBytes type sess (40 + payload.length) gen seq op status flags epoch ++ payload)
  | none => []

/-- The key of an authenticated session. -/
def Session.codeKey (x : Session) : Option (List Byte) := x.slot.map (fun _ => x.key)

/-- A response of a session. -/
def Session.answer (x : Session) (dest : Endpoint) (i seq op status flags epoch : Nat) (payload : List Byte) : Out :=
  let fl := flags + (if x.slot.isSome then 1 else 0)
  .response dest i x.gen seq op status fl epoch payload (codeFor x.codeKey 0x13 i x.gen seq op status fl epoch payload)

def State.session (s : State) (i : Nat) : Option Session := tabFind i s.tp.sessions

def State.mapSession (s : State) (i : Nat) (f : Session → Session) : State :=
  match s.session i with
  | some x => s.mapTp (fun t => { t with sessions := tabSet i (f x) t.sessions })
  | none => s

/-- No command is acknowledged (R55, R61). -/
def State.noAcks (s : State) : Bool := s.tp.ackHeld || s.banksLost

/-- A rejection (R307): NOT_ACK is set, nothing is recorded. None is sent where R55 or R61 lets no command be answered. -/
def State.reject (s : State) (dest : Endpoint) (i gen seq op status : Nat) (x : Option Session) : State :=
  if s.noAcks then s
  else match x with
    | some x => s.sendControl (x.answer dest i seq op status 2 s.epoch [])
    | none => s.sendControl (.response dest i gen seq op status 2 s.epoch [] [])

/-! ## The shape of a command (R307, R312, R318, R391, R392) -/

/-- The payload fits its opcode: length, count fields, reserved bits. -/
def payloadGood (op : Nat) (p : List Byte) : Bool :=
  let n := p.length
  let z := fun (off k : Nat) => msgLe p off k = 0
  match op with
  | 0x01 => n = 8 && z 3 1 && between 1 1024 (msgLe p 4 2) && z 6 2
  | 0x02 => decide (8 ≤ n) && z 3 1 && between 1 1024 (msgLe p 4 2) && z 6 2 && n = 8 + 4 * msgLe p 4 2
  | 0x10 => n = 24 && z 1 1 && msgLe p 16 4 &&& 0xFC00FC00 = 0 && msgLe p 20 4 &&& 0xFFF0F0E0 = 0
  | 0x11 => n = 4 && z 2 2
  | 0x20 => n = 10
  | 0x21 => n = 0
  | 0x22 => n = 0
  | 0x30 => between 12 8200 n && decide (msgLe p 1 1 < 2) && z 2 2
  | 0x31 => n = 4 && z 1 3
  | 0x40 => n = 64 && z 1 3
  | 0x41 => n = 36 && decide (msgLe p 1 1 < 16) && z 2 2
  | 0x42 => n = 8
  | _ => false

/-! ## The ledger as it is asked (R313 to R315) -/

/-- The entry of a command, in the banks or in NOR. -/
def State.ledgerEntry (s : State) (sess gen seq : Nat) : Option LedgerEntry :=
  let fits := fun (e : LedgerEntry) => e.session = sess && e.gen = gen && e.seq = seq
  match s.tp.banks.find? fits with
  | some e => some e
  | none => s.tp.nor.find? fits

/-- An entry's 64 bytes (R313). -/
def entryBytes64 (e : LedgerEntry) : List Byte :=
  leBytes 2 e.session ++ leBytes 2 e.opcode ++ leBytes 4 e.gen ++ leBytes 4 e.seq ++ leBytes 1 e.status ++ leBytes 1 (if e.copied then 1 else 0)
    ++ leBytes 2 0 ++ leBytes 8 e.tai ++ leBytes 4 e.frame ++ leBytes 4 e.epoch ++ padTo 16 e.digest ++ padTo 16 e.result

/-- What a replay carries of a recorded RESULT (R314): as much as the response carried; nothing for a READ, FRAME and EPOCH for a
WRITE whose `GO` was accepted. -/
def replayPayload (e : LedgerEntry) : List Byte :=
  if e.status ≠ 0 then []
  else match e.opcode with
    | 0x02 => if ofLe ((e.result.drop 8).take 4) = 0 then [] else (e.result.drop 4).take 8
    | 0x10 => e.result.take 14
    | 0x20 => e.result.take 16
    | 0x40 => e.result.take 4
    | _ => []

def digestOf (payload : List Byte) : List Byte := (sha256 payload).take 16

/-- A retransmission (R314, R315): dropped while the original waits, otherwise answered from the ledger. -/
def State.replay (s : State) (src : Endpoint) (x : Session) (i seq op : Nat) (payload : List Byte) : State :=
  let waits := s.tp.accepted.any (fun a => a.session = i && a.seq = seq)
    || s.tp.withheld.any (fun w => w.1.session = i && w.1.gen = x.gen && w.1.seq = seq)
  if waits || s.banksLost then s
  else match s.ledgerEntry i x.gen seq with
    | some e => s.sendControl (x.answer src i seq op e.status (4 + if digestOf payload = e.digest then 0 else 8) e.epoch (replayPayload e))
    | none => if s.noAcks then s else s.sendControl (x.answer src i seq op 0x0D 4 s.epoch [])

/-! ## Sessions (R308 to R310) -/

/-- No image was accepted: boot ROM's recovery service runs (R75). -/
def State.recovery (s : State) : Bool := s.rst.imageDone && s.rst.image.isNone

/-- The recovery service is that of port A: nothing is served while port B is host-facing. -/
def State.unserved (s : State) : Bool := s.recovery && s.hostPort = 1

/-- Roles of a session (R78): an unauthenticated one holds CONFIG unless `CPU_AUTH.REQUIRE` is 1. -/
def State.rolesOf (s : State) (x : Session) : Nat :=
  if x.slot.isSome then x.roles else if s.flag F.CPU_AUTH.REQUIRE then 0 else 1

/-- A generation (R316): the low half of the boot count, then the count of the index. -/
def State.genOf (s : State) (n : Nat) : Nat := s.tp.bootCount % 65536 * 65536 + n % 65536

/-- A key slot that verifies (R392). -/
def State.keySlot (s : State) (slot : Nat) : Option KeySlot :=
  if s.sealBad then none else (tabFind slot s.rst.keySlots).filter (fun k => k.sealed)

/-- Why an OPEN is refused (R308). -/
def State.openRefused (s : State) (lease slot : Nat) : Option Nat :=
  if 4096 ≤ s.tp.sessions.length then some 0x0C
  else if !between 100 60000 lease || (decide (15 < slot) && slot ≠ 0xFF) then some 6
  else if slot ≠ 0xFF && (s.keySlot slot).isNone then some 7
  else none

/-- Answer an OPEN and remember the answer for a second. -/
def State.openAnswer (s : State) (src : Endpoint) (nonce : List Byte) (reply : Out) : State :=
  let r : OpenRecord := { src := src, nonce := nonce, time := s.now, reply := reply }
  (s.mapTp (fun t => { t with opens := r :: t.opens.filter (fun o => decide (s.now < o.time + 1000000000)) })).sendControl reply

/-- Open a session under index `i`. -/
def State.openAs (s : State) (src : Endpoint) (nonce : List Byte) (lease slot op i : Nat) : State :=
  let k := if slot = 0xFF then none else s.keySlot slot
  let own := (leBytes 8 s.freeNat) ++ leBytes 8 s.tick.freeNat
  let s := s.tick.tick
  let n := countAt i s.tp.gens
  let gen := s.genOf n
  let key := match k with
    | some k => hmacSha256 k.key ("IK1024-SESSION".toList.map (fun c => BitVec.ofNat 8 c.toNat) ++ nonce ++ own ++ leBytes 2 i ++ leBytes 4 gen)
    | none => []
  let x : Session := {
    gen := gen, nextSeq := 1, leaseMs := lease, leaseEnd := s.now + lease * 1000000, slot := k.map (fun _ => slot)
    roles := (k.map (fun k => k.roles)).getD 0, key := key, confirmed := k.isNone, confirmBy := s.now + 1000000000, peer := src }
  let payload := own ++ leBytes 4 lease ++ leBytes 1 (s.rolesOf x) ++ leBytes 3 0
  let fl := if k.isSome then 1 else 0
  let s := s.mapTp (fun t => { t with sessions := tabSet i x t.sessions, gens := tabSet i (n + 1) t.gens })
  let s := (s.setF F.QUE_SESS.PEAK (max (s.getF F.QUE_SESS.PEAK) s.tp.sessions.length)).raiseEvt 20 0
  s.openAnswer src nonce (.openReply src i gen op 0 fl s.epoch payload (codeFor x.codeKey 0x11 i gen 0 op 0 fl s.epoch payload))

/-- R308: an OPEN. -/
def State.openFrom (s : State) (src : Endpoint) (nonce : List Byte) (lease slot op : Nat) : State :=
  match s.tp.opens.find? (fun o => o.src = src && o.nonce = nonce && decide (s.now < o.time + 1000000000)) with
  | some o => s.sendControl o.reply
  | none =>
    let lease := if lease = 0 then s.getF F.QUE_LEASE.SESSION else lease
    match s.openRefused lease slot with
    | some status =>
      let s := if status = 0x0C then s.raiseEvt 20 6 else s
      s.openAnswer src nonce (.openReply src 0 0 op status 2 s.epoch [] [])
    | none =>
      match tabFree 4096 s.tp.sessions with
      | some i => s.openAs src nonce lease slot op i
      | none => s

/-! ## What arrives (R307, R309, R311) -/

/-- A datagram that is dropped without an answer. -/
def headerBad (m : List Byte) : Bool :=
  let type := msgLe m 3 1
  decide (m.length < 24) || msgLe m 0 2 != 0x4B49 || msgLe m 2 1 != 1 || !(type = 0x10 || type = 0x12 || type = 0x21)

/-- The payload of a message: between the header and the code. -/
def payloadOf (m : List Byte) : List Byte :=
  (m.drop 24).take (m.length - 24 - (if (msgLe m 19 1).testBit 0 then 16 else 0))

/-- The header of a message is malformed. -/
def headerMalformed (m : List Byte) : Bool :=
  let fl := msgLe m 19 1
  msgLe m 6 2 != m.length || decide (4096 ≤ msgLe m 4 2) || msgLe m 18 1 != 0 || decide (16 ≤ fl) || msgLe m 20 4 != 0
    || (fl.testBit 0 && decide (m.length < 40))

/-- An OPEN arrives. -/
def State.receiveOpen (s : State) (src : Endpoint) (m : List Byte) : State :=
  let p := payloadOf m
  if headerMalformed m || p.length != 24 || msgLe m 4 2 != 0 || msgLe m 8 8 != 0 || msgLe p 21 3 != 0 then s.sendControl (.openReply src 0 0 (msgLe m 16 2) 0x0B 2 s.epoch [] [])
  else s.openFrom src (p.take 16) (msgLe p 16 4) (msgLe p 20 1) (msgLe m 16 2)

/-- The code of a message is as its session calls for. -/
def codeGood (x : Session) (m : List Byte) : Bool :=
  let auth := (msgLe m 19 1).testBit 0
  match x.codeKey with
  | some k => auth && sessionCode k (m.take (m.length - 16)) == m.drop (m.length - 16)
  | none => !auth

/-- Accept a command: it waits to be performed. -/
def State.acceptCommand (s : State) (src : Endpoint) (i seq op : Nat) (payload : List Byte) : State :=
  s.mapTp (fun t => { t with accepted := t.accepted ++ [{ session := i, seq := seq, opcode := op, src := src, payload := payload }] })

/-- A command arrives. A valid code makes its session usable, whatever becomes of the command (R309). -/
def State.receiveCommand (s : State) (src : Endpoint) (m : List Byte) : State :=
  let i := msgLe m 4 2
  let gen := msgLe m 8 4
  let seq := msgLe m 12 4
  let op := msgLe m 16 2
  let known := (s.session (i % 4096)).filter (fun x => x.gen = gen)
  let s := if known.any (codeGood · m) then s.confirmSession (i % 4096) else s
  if headerMalformed m || !payloadGood op (payloadOf m) then s.reject src (i % 4096) gen seq op 0x0B known
  else match known with
    | none => s.reject src i gen seq op 9 none
    | some x =>
      if !codeGood x m then (s.reject src i gen seq op 7 (some x)).bump F.QUE_REJECT.AUTH 1
      else if x.nextSeq < seq then (s.reject src i gen seq op 0x0A (some x)).bump F.QUE_REJECT.SEQ 1
      else
        let s := s.renewSession i
        if seq < x.nextSeq then s.replay src x i seq op (payloadOf m)
        else if s.noAcks then s
        else (s.acceptCommand src i seq op (payloadOf m)).mapSession i (fun x => { x with nextSeq := x.nextSeq + 1 })

/-- A control message is handled. -/
def State.receive (s : State) (src : Endpoint) (m : List Byte) : State :=
  if msgLe m 3 1 = 0x10 then s.receiveOpen src m else s.receiveCommand src m

/-- The application cores are in reset (R337, R378), or the spare core takes up the role of one (R352). -/
def State.coresHeld (s : State) : Bool := s.rst.active.any (fun r => r.level ≠ 2) || decide (s.now < s.rst.roleAt)

/-- Bytes waiting in the receive buffer. -/
def rxBytes (l : List (Endpoint × List Byte)) : Nat := (l.map (fun e => e.2.length)).sum

/-- R290, R337: a message waits while the cores are in reset or the control buffer is full; one that finds the receive buffer full is
dropped. -/
def State.bufferMessage (s : State) (src : Endpoint) (m : List Byte) : State :=
  if 4194304 < rxBytes s.tp.rxq + m.length then ((s.bump F.QUE_RXQ.DROPPED 1).recErr 20 0x06 0).raiseEvt 20 5
  else s.mapTp (fun t => { t with rxq := t.rxq ++ [(src, m)] })

/-- Handle a message, or let it wait behind those that wait already. -/
def State.takeMessage (s : State) (src : Endpoint) (m : List Byte) : State :=
  if s.coresHeld || !s.ctlRoom || !s.tp.rxq.isEmpty then s.bufferMessage src m else s.receive src m

/-- The messages that waited are handled in order, while the control buffer has room (R290, R337). -/
def State.drainMessages (s : State) : State :=
  if s.coresHeld then s
  else s.tp.rxq.foldl (fun s e => s.takeMessage e.1 e.2) (s.mapTp (fun t => { t with rxq := [] }))

/-- What the block does by itself when no command waits: it takes up messages that wait, once there is room and the cores run (R290, R337,
R352; log entries 4 and 48). -/
def State.idle (s : State) : State := if s.tp.rxq.isEmpty then s else s.drainMessages.settle

/-! ## Commands that are lost -/

/-- Accepted commands that will not be performed: their partners send them again with the same numbers (R51, R55). -/
def State.unaccept (s : State) (lost : Accepted → Bool) : State :=
  let least := fun (i n : Nat) => (s.tp.accepted.filter (fun a => a.session = i && lost a)).foldl (fun n a => min n a.seq) n
  s.mapTp (fun t => { t with
    accepted := t.accepted.filter (fun a => !lost a)
    sessions := t.sessions.map (fun e => (e.1, { e.2 with nextSeq := least e.1 e.2.nextSeq })) })

end Sys2Proof.Machine
end

