-- ==== Sys2Proof/Machine/Calib.lean ====
section
/-! DEFINITION. Calibration and spare capacity (chapter 15): range calibration, creep tracking, planned and failure substitutions,
the retirement record; and the fences of chapter 03 (R71, R72, R79). -/

namespace Sys2Proof.Machine

def State.mapCal (s : State) (f : CalState → CalState) : State := { s with cal := f s.cal }

/-! ## System range calibration (R345, R346) -/

/-- ERR and SPREAD of `n` samples with their sum and sum of squares; without a sample there is no stated result (log entry 7). -/
def calResult (want : Int) (n : Nat) (sum sq : Int) (open_ : Nat) : Int × Nat :=
  if n = 0 then (signed 16 open_, open_ / 65536 % 65536)
  else (roundDiv (16 * (sum - want * n) * 1000000000) (n * 2342128578),
    min 0xFFFF ((Nat.sqrt (4 * (n * sq - sum * sum).toNat) + n) / (2 * n)))

/-- The results of a channel of the span. -/
def State.calChannel (s : State) (c : Nat) : State :=
  let (n, sum, sq) := (tabFind c s.cal.samples).getD (0, 0, 0)
  let r := calResult (s.getF F.CAL_RCAL_RANGE.TRUE) n sum sq s.freeNat
  let full := n = s.getF F.CAL_RCAL_CTL.N
  let s := (s.setI (F.CAL_RCAL_RES.ERR.inst c) r.1).setF (F.CAL_RCAL_RES.COUNT.inst c) n
  let s := (s.setB (F.CAL_RCAL_SPREAD.VALID.inst c) full).setF (F.CAL_RCAL_SPREAD.SPREAD.inst c) r.2
  s.tick

/-- The channels of the span. -/
def State.calSpan (s : State) : List Nat :=
  (List.range 1024).filter (fun c => s.getF F.CAL_RCAL_CH.FIRST ≤ c && c ≤ s.getF F.CAL_RCAL_CH.LAST)

/-- `CAL_RCAL_STAT.VALID` counts the channels with VALID set, in the span or not (R356). -/
def State.countValid (s : State) : State :=
  s.setF F.CAL_RCAL_STAT.VALID ((List.range 1024).filter (fun c => s.flag (F.CAL_RCAL_SPREAD.VALID.inst c))).length

/-- The run is over. -/
def State.calStop (s : State) (st : Nat) : State :=
  let s := s.mapCal (fun x => { x with armed := false, began := none, samples := [], tempSum := 0, tempN := 0 })
  ((s.setF F.CAL_RCAL_CTL.GO 0).setF F.CAL_RCAL_STAT.STATE st).raiseEvt 6 3

/-- The run ends DONE: its results stand; a run without a temperature sample has no mean (log entry 7). -/
def State.calDone (s : State) : State :=
  let s := (s.calSpan.foldl State.calChannel s).countValid
  let mean := if s.cal.tempN = 0 then signed 16 s.freeNat else roundDiv s.cal.tempSum s.cal.tempN
  let s := (s.setI F.CAL_RCAL_TEMP.T mean).tick
  (s.calStop 2).bump F.CAL_TRACE.RUNS 1

/-- The run ends ABORTED and keeps no result (R345). -/
def State.calAbort (s : State) : State :=
  let s := s.calSpan.foldl (fun s c =>
    ((((s.setF (F.CAL_RCAL_RES.ERR.inst c) 0).setF (F.CAL_RCAL_RES.COUNT.inst c) 0).setF (F.CAL_RCAL_SPREAD.VALID.inst c) 0).setF
      (F.CAL_RCAL_SPREAD.SPREAD.inst c) 0)) s
  s.countValid.calStop 3

/-- Every channel of the span has its samples. -/
def State.calFull (s : State) : Bool :=
  s.calSpan.all (fun c => decide (s.getF F.CAL_RCAL_CTL.N ≤ ((tabFind c s.cal.samples).getD (0, 0, 0)).1))

/-- R345, R346: every channel has its samples, or 60 s have passed. -/
def doRangeCalibrationEnd (t : Nat) (s : State) : State :=
  let s := s.at t
  match s.cal.began with
  | some from_ => if s.on 4 && (s.calFull || decide (from_ + 60000000000 ≤ s.now)) then s.calDone else s
  | none => s

def execRangeCalibrationEnd (t : Nat) (s : State) : Host.Outcome State Fault Refusal := answer (doRangeCalibrationEnd t s)

/-- At a frame boundary: a commit that applies ends a run, and a GO that waits begins one. `changed`: a commit applied. -/
def State.calBoundary (s : State) (changed : Bool) : State :=
  let s := if changed && s.cal.began.isSome then s.calAbort else s
  if s.cal.armed && s.cal.began.isNone then
    s.mapCal (fun x => { x with armed := false, began := some s.now, samples := [], tempSum := 0, tempN := 0 })
  else s

/-! ## Diodes (R128, R350, R351) -/

/-- The reserve of line `l` can be switched in. -/
def State.reserveUsable (s : State) (l : Nat) : Bool :=
  s.flag (trimPresent (128 + l)) && !s.flag (trimRetired (128 + l)) && !s.ineligible (128 + l) (s.getF F.EMT_WL.ACCEPT)
    && !s.compat (l / 32)

/-- The primary in service gives way to its reserve, where there is one (R351). -/
def State.switchDiode (s : State) (l : Nat) : State :=
  if !s.reserveIn l && s.reserveUsable l && !s.emt.switches.contains l then
    { s with emt := { s.emt with switches := l :: s.emt.switches } }
  else s

/-- Lines left without an eligible diode are removed at a boundary, each a failed part for R66 (R128); one that has a diode again
returns, and the trigger is absent once none is left (R68). -/
def State.updateLines (s : State) : State :=
  let s := (List.range 128).foldl (fun s l =>
    if !s.reserveIn l && s.ineligible l (s.getF F.EMT_WL.ACCEPT) then s.switchDiode l else s) s
  let gone := (List.range 128).filter (fun l => s.lineDead l && !s.emt.switches.contains l)
  let new := gone.filter (fun l => !s.emt.removed.contains l)
  let s := { s with emt := { s.emt with removed := gone } }
  let s := new.foldl (fun s _ => (s.raiseEvt 10 4).poolTrigger 10 0x41) s
  let s := s.setSat (F.CAL_POOL_STAT.FAILED.inst 8) gone.length
  if gone.isEmpty then s.unstand 10 0x41 else s

/-- R351 step 1, at the release of FIR: the primary where it can serve, and otherwise the reserve. -/
def State.chooseDiode (s : State) (l : Nat) : State :=
  let primary := !s.flag (trimRetired l) && !s.ineligible l (s.getF F.EMT_WL.ACCEPT)
  s.setBit (F.EMT_RSV.SEL.idx (l / 32)) (l % 32) (!primary && s.reserveUsable l)

/-- R350 for the diode in service on line `l`, at a frame boundary. The CREEP of a worn diode is held (R351). -/
def State.trackCreep (s : State) (l : Nat) : State :=
  let e := s.emitterOf l
  let (n, i, en) := (tabFind e s.cal.echo).getD (0, 0, 0)
  if n = 0 || en = 0 then s.setF (F.CAL_LINE.NOECHO.inst e) 1
  else
    let s := s.setF (F.CAL_LINE.NOECHO.inst e) 0
    if s.cal.fresh.contains e then
      let s := s.mapCal (fun x => { x with refs := tabSet e (i, en) x.refs, fresh := x.fresh.filter (· ≠ e) })
      (s.setF (F.CAL_LINE.RATIO.inst e) 128).recordDue
    else match tabFind e s.cal.refs with
      | none => s
      | some (ri, re) =>
        let s := if ri = 0 then s else s.setSat (F.CAL_LINE.RATIO.inst e) (128 * i * re / (ri * en))
        let creep := s.getI (trimCreep e)
        let limit : Int := s.getF F.CAL_CREEP.LIMIT
        if 100 * i * re < 98 * ri * en then
          if limit < creep || s.flag (F.CAL_LINE.WORN.inst e) then s else s.setI (trimCreep e) (creep + 1)
        else if 102 * ri * en < 100 * i * re && !s.flag (F.CAL_LINE.WORN.inst e) then s.setI (trimCreep e) (creep - 1)
        else s

/-- A diode is worn when its CREEP exceeds LIMIT, by a step or by a new LIMIT (R350). -/
def State.noteWorn (s : State) (e : Nat) : State :=
  if decide (((s.getF F.CAL_CREEP.LIMIT : Nat) : Int) < s.getI (trimCreep e)) && !s.flag (F.CAL_LINE.WORN.inst e) then
    ((s.setF (F.CAL_LINE.WORN.inst e) 1).raiseEvt 6 1).recordDue
  else s

/-- R350 at a frame boundary. -/
def State.creepBoundary (s : State) : State :=
  let s := if s.flag F.CAL_CTL.CREEP_EN && s.on 4 then (List.range 128).foldl (fun s l => (s.trackCreep l).noteWorn (s.emitterOf l)) s else s
  s.mapCal (fun x => { x with echo := [] })

/-- R351: 64 pulses in a row of the line have settled as MISS, and another line of its bank was measured in the same time. -/
def doDiodeFailure (line : Fin 128) (t : Nat) (s : State) : State :=
  let s := s.at t
  let l := line.val
  let e := s.emitterOf l
  if s.on 8 && decide (64 ≤ countAt l s.etd.misses) && !s.bankEst (l / 16) && s.etd.alive.contains l && !s.flag (F.CAL_LINE.FAILED.inst e) then
    let s := ((s.setF (F.CAL_LINE.FAILED.inst e) 1).setF (trimRetired e) 1).recordDue
    let s := { s with etd := { s.etd with misses := tabDel l s.etd.misses, alive := s.etd.alive.filter (· ≠ l) } }
    (s.switchDiode l).countReserves
  else s

def execDiodeFailure (line : Fin 128) (t : Nat) (s : State) : Host.Outcome State Fault Refusal := answer (doDiodeFailure line t s)

/-! ## Cores (R352) -/

/-- A core is halted; the spare core takes up its role without a reset within 50 ms, at an instant the spec leaves open. -/
def State.failCore (s : State) (c : Nat) : State :=
  if !s.on 4 || s.bitF F.CPU_CORES.FAILED c then s
  else
    let was := s.bitF F.CPU_CORES.ACTIVE c
    let s := (s.setBit F.CPU_CORES.FAILED c true).setBit F.CPU_CORES.ACTIVE c false
    let spare := (List.range 5).find? (fun n => !s.bitF F.CPU_CORES.ACTIVE n && !s.bitF F.CPU_CORES.FAILED n)
    match was, spare with
    | true, some n =>
      let s := { s.tick with rst := { s.rst with roleAt := s.now + s.freeNat % 50000001 } }
      (((s.setBit F.CPU_CORES.ACTIVE n true).raiseEvt 7 1).spareTaken 7).poolTrigger 7 0x40
    | true, none => s.recordDue.poolTrigger 7 0x41
    | false, _ => s.recordDue.poolTrigger 7 0x40

/-- R352. -/
def doCoreFailure (core : Fin 5) (t : Nat) (s : State) : State := (s.at t).failCore core.val

def execCoreFailure (core : Fin 5) (t : Nat) (s : State) : Host.Outcome State Fault Refusal := answer (doCoreFailure core t s)

/-! ## Planned substitutions (R349, R353) -/

/-- A worn tap of a delay line: the next free spare tap is to take its place (R155, R157, R171). -/
def State.planTap (s : State) (n pos : Nat) : State :=
  let l := s.tapLine n
  if 128 ≤ pos || l.subst.isSome then s
  else if l.freeTaps.isEmpty then s.staysWorn 0
  else s.setTapLine n { l with subst := some ([pos], s.frameNo) }

/-- A worn sampler: its channel is to be switched to an idle spare (R173); a worn spare that is idle leaves the pool. -/
def State.planSampler (s : State) (g k : Nat) : State :=
  let i := samplerInst g k
  let c := g * 64 + s.getF (F.RXC_SMP_STAT.CHANNEL.inst i)
  if s.samplerFailed g k || s.rxc.retiring.contains c || s.rxc.waiting.any (fun w => w.ch = c) then s
  else if !s.flag (F.RXC_SMP_STAT.IN_SERVICE.inst i) then s.failSampler g k
  else if (s.idleSpare g).isNone then s.staysWorn 1
  else { s with rxc := { s.rxc with retiring := s.rxc.retiring ++ [c] } }

/-- A worn interpolator: ETD8 is to take over its bank (R156, R157). -/
def State.planInterpolator (s : State) (n : Nat) : State :=
  if s.bitF F.ETD_FAIL.EST n || (tabFind n s.etd.subst).isSome || !s.serves n && n ≠ 8 then s
  else if n = 8 then (if s.flag F.ETD_MAP.SPARE_IN then s.staysWorn 2 else s.failInterpolator 8)
  else if s.flag F.ETD_MAP.SPARE_IN || s.bitF F.ETD_FAIL.EST 8 || !s.etd.subst.isEmpty then s.staysWorn 2
  else { s with etd := { s.etd with subst := tabSet n s.frameNo s.etd.subst } }

/-- A worn tile is drained (R202). -/
def State.planTile (s : State) (e i : Nat) : State :=
  let p := s.tileOf e i
  if p = 15 || s.bitF (F.GRN_ENG_TSTAT.DRAIN.inst e) p then s
  else if !s.spareTile e then s.staysWorn 3
  else s.beginDrain e p

/-- A worn LP-DRAM channel is copied to a spare (R334). -/
def State.planDram (s : State) (c : Nat) : State :=
  if !s.bitF F.MEM_CHAN.ACTIVE c || s.bitF F.MEM_CHAN.FAILED c || s.mem.second.isSome then s
  else match s.idleChannel with
    | some sp => s.takeSpareChannel c sp true
    | none => s.staysWorn 4

/-- A worn phase: the spare phase of its rail is to be brought in (R369). -/
def State.planPhase (s : State) (r : Nat) : State :=
  if 5 ≤ r || s.pwr.spareReq.any (fun x => x.1 = r) then s
  else if s.flag (F.PWM_RAIL.SPARE_IN.inst r) then s.staysWorn 7
  else { s with pwr := { s.pwr with spareReq := s.pwr.spareReq ++ [(r, true)] } }

/-- A worn diode: the primary gives way to its reserve, and is retired at the switch; otherwise it stays in service (R351). -/
def State.planDiode (s : State) (e : Nat) : State :=
  let s := s.noteWorn e
  if e < 128 && !s.reserveIn e && s.reserveUsable e then s.switchDiode e else s.staysWorn 8

/-- The domain of a part is on, and its wear indicator has crossed its limit where state shows it: drift in three refreshes, spare taps
left, corrected errors, eye margin, CREEP; a phase of a rail that has a spare (R349, R350, R369). -/
def State.wornNow (s : State) : WornPart → Bool
  | .tap n pos => decide (3 ≤ countAt (nth 0 (s.tapLine n).active pos) (s.tapLine n).drift) && s.on 8 && (n < 9 || (16 ≤ n && n < 16 + 1088 && s.on (20 + (n - 16) / 68)))
  | .sampler g k => s.on 8 && g < 16 && k < 68 && s.on (20 + g)
      && decide (s.getF (F.RXC_SMP_TAPS.LEFT.inst (samplerInst g k)) ≤ s.getF F.CAL_WEAR_TAP.LOW)
  | .interpolator n => s.on 8 && n < 9 && decide (s.getF (F.ETD_TAPS.LEFT.inst n) ≤ s.getF F.CAL_WEAR_TAP.LOW)
  | .tile e i hourly twice => e < 8 && i < 8 && s.on (12 + e) && s.on 12 && (twice || decide (s.getF F.CAL_WEAR_MEM.SRAM < hourly))
  | .dram c least _ => c < 10 && s.on 5 && decide (s.getF F.CAL_WEAR_MEM.DRAM < least)
  | .lane p _ l margin ns => l < 4 && s.on (if p then 7 else 6) && decide (margin < s.getF F.CAL_WEAR_LANE.EYE_MIN)
      && decide (s.getF F.CAL_WEAR_LANE.EYE_TIME * 1000000000 ≤ ns)
  | .phase r => r < 5
  | .diode e => e < 256 && s.on 8 && decide (((s.getF F.CAL_CREEP.LIMIT : Nat) : Int) < s.getI (trimCreep e))

/-- What an indicator measures shows on its page: corrected errors of a channel in a second, the eye margin of a receive lane (R303, R342). -/
def State.noteWear (s : State) : WornPart → State
  | .dram c _ last => { s with mem := { s.mem with corr := tabSet c (s.now / 1000000000, last) s.mem.corr } }
  | .lane p false l margin _ =>
    s.mapPort (portNo p) (fun x => { x with margins := setNth (x.margins ++ List.replicate (5 - x.margins.length) 0) l margin })
  | _ => s

/-- R349: a part's wear indicator has crossed its limit. -/
def doPlannedSubstitution (part : WornPart) (t : Nat) (s : State) : State :=
  let s := (s.at t).noteWear part
  if !s.on 4 || !s.flag F.CAL_CTL.WEAR_EN || !s.wornNow part then s
  else
    let s := s.raiseEvt 6 1
    match part with
    | .tap n pos => s.planTap n pos
    | .sampler g k => s.planSampler g k
    | .interpolator n => s.planInterpolator n
    | .tile e i _ _ => s.planTile e i
    | .dram c _ _ => s.planDram c
    | .lane p tx l _ _ =>
      let q := portNo p
      if s.portActive q && s.chainMode q && s.laneSpareFree q tx then (s.wakeDir q tx).takeLane q tx l else s.staysWorn 5
    | .phase r => s.planPhase r
    | .diode e => s.planDiode e

def execPlannedSubstitution (part : WornPart) (t : Nat) (s : State) : Host.Outcome State Fault Refusal :=
  answer (doPlannedSubstitution part t s)

/-! ## The retirement record (R354) -/

/-- The fields of a word that the record holds. -/
def recordFields (a : Nat) : List FieldSpec :=
  let b := a % 0x1000000
  let fs := fieldsAt a
  let kept := fs.filter (fun f => f.keep = .fuse)
  if b = 0xC128 ∨ b = 0xE12C then fs.filter (fun f => decide (f.lsb < 16))
  else if b = 0x2130 then fs.filter (fun f => f.lsb ≠ 16)
  else if b = 0x12108 ∨ b = 0x13108 then fs.filter (fun f => f.lsb = 21 || f.lsb = 29)
  else if b = 0xE128 ∨ b = 0xC158 ∨ b = 0x16100 ∨ b = 0x7100 then fs
  else if 0x600000 ≤ b ∧ b < 0x604000 then (if b % 64 = 20 then fs.filter (fun f => f.lsb = 9) else [])
  else if 0x100000 ≤ b ∧ b < 0x110000 then (if b % 64 = 8 then fs.filter (fun f => f.lsb = 0) else [])
  else if b = 0xD10C ∨ b = 0xD110 ∨ b = 0xD120 ∨ b = 0xD128 ∨ b = 0xC134 ∨ b = 0x6144 ∨ b = 0x6148 ∨ b = 0x6154 ∨ b = 0x15100 then kept
  else if b < 0x1C000 ∧ b % 0x1000 = 0x24 then kept
  else []

/-- What the record would hold now: the maps and statuses that differ from those of a fresh module; of a domain that is not released, what
it held before. -/
def State.recordNow (s : State) : RetireRecord :=
  let here := fun (a : Nat) => (domainOfAddr a).any s.on
  let was := s.cal.record
  { words := s.regs.filter (fun e => !(recordFields e.1).isEmpty && here e.1)
      ++ was.words.filter (fun e => !here e.1)
    pools := s.sys.standing.filter (fun e => s.pageOn e.1) ++ was.pools.filter (fun e => !s.pageOn e.1)
    taps := (s.etd.lines.filter (fun e => s.on (lineDomain e.1))).map (fun e => (e.1, (e.2.active, e.2.retired)))
      ++ was.taps.filter (fun e => !s.on (lineDomain e.1))
    refs := s.cal.refs }

/-- R354: both copies are rewritten. -/
def doRetirementRecordWrite (t : Nat) (s : State) : State :=
  let s := s.at t
  if s.on 4 && s.cal.recDue then
    let s := s.mapCal (fun x => { x with record := s.recordNow, recDue := false })
    ((s.bump F.CAL_REC.WRITES 1).setF F.CAL_REC.COPY_A 1).setF F.CAL_REC.COPY_B 1
  else s

def execRetirementRecordWrite (t : Nat) (s : State) : Host.Outcome State Fault Refusal := answer (doRetirementRecordWrite t s)

/-- The maps of a domain as fused (R354, R452). -/
def State.fusedMaps (s : State) (owned : Nat → Bool) : State :=
  s.regs.foldl (fun s e =>
    if owned e.1 && !(recordFields e.1).isEmpty then
      s.poke e.1 (BitVec.ofNat 32 (mergeFields (recordFields e.1) (s.peek e.1).toNat (resetWord e.1).toNat))
    else s) s

/-- The tap maps of a domain's delay lines as the record has them, with factory widths (R152, R354). -/
def State.restoreTaps (s : State) (d : Nat) : State :=
  let rest := s.etd.lines.filter (fun e => lineDomain e.1 ≠ d)
  let mine := s.cal.record.taps.filter (fun e => lineDomain e.1 = d)
  let line := fun (n : Nat) (m : List Nat × List Nat) =>
    ({ active := m.1, widths := factoryWidths n m.1, staged := none, retired := m.2, subst := none, drift := [] } : TapLine)
  { s with etd := { s.etd with lines := mine.foldl (fun l e => tabSet e.1 (line e.1 e.2) l) rest } }

/-- The triggers that the record keeps for a domain's pages stand, and the pages say so (R67, R68). `lost`: there is no record. -/
def State.restorePools (s : State) (d : Nat) (lost : Bool) : State :=
  let mine := fun (e : Nat × Nat) => decide (domainOfPage e.1 = d)
  let s := if lost then { s with sys := { s.sys with standing := s.sys.standing.filter (fun e => !mine e) } } else s
  ((s.sys.standing ++ s.cal.record.pools).filter mine).foldl (fun s e => s.stand e.1 e.2) s

/-- The record is applied over the fused maps of a domain (R354). -/
def State.applyRecord (s : State) (d : Nat) (copyA copyB : Bool) : State :=
  let owned := fun (a : Nat) => decide (domainOfAddr a = some d)
  let s := s.fusedMaps owned
  let put := fun (s : State) (e : Nat × Word) =>
    if owned e.1 then s.poke e.1 (BitVec.ofNat 32 (mergeFields (recordFields e.1) (s.peek e.1).toNat e.2.toNat)) else s
  let lost := !copyA && !copyB
  let s := if lost then s.mapCal (fun x => { x with record := RetireRecord.reset }) else s
  let s := ((s.cal.record.words.foldl put s).restoreTaps d).restorePools d lost
  if d ≠ 4 then s
  else
    let s := s.mapCal (fun x => { x with refs := x.record.refs })
    let s := ((s.setB F.CAL_REC.COPY_A copyA).setB F.CAL_REC.COPY_B copyB).setB F.CAL_REC.LOST (!copyA && !copyB)
    if !copyA && !copyB then s.raiseEvt 6 4 else if copyA && copyB then s else s.recordDue

/-! ## Fences (R71, R72, R79) and the watchdog's warning -/

/-- R72: a firmware write across a fence is blocked and counted, and the device enters `SAFE`. -/
def doFenceViolation (fence : Fin 7) (core : Fin 5) (addr t : Nat) (s : State) : State :=
  let s := s.at t
  if !s.on 4 then s
  else
    let first := s.getF F.CPU_FENCE.VIOL = 0
    let s := if first then (s.setF F.CPU_FENCE_ADDR.ADDR addr).setF F.CPU_FENCE_ADDR.CORE core else s
    let s := (s.setBit F.CPU_FENCE.VIOL fence true).bump F.CPU_FENCE_CNT.COUNT 1
    ((s.recErr 7 0x80 addr).raiseEvt 7 0).enterSafe 0x29 []

def execFenceViolation (fence : Fin 7) (core : Fin 5) (addr t : Nat) (s : State) : Host.Outcome State Fault Refusal :=
  answer (doFenceViolation fence core addr t s)

/-- R79: half of the watchdog's period has run. -/
def doWatchdogWarning (t : Nat) (s : State) : State :=
  let s := s.at t
  if s.on 4 then s.raiseEvt 7 2 else s

def execWatchdogWarning (t : Nat) (s : State) : Host.Outcome State Fault Refusal := answer (doWatchdogWarning t s)

end Sys2Proof.Machine
end

