-- ==== Sys2Proof/Machine/Power.lean ====
section
/-! DEFINITION. Power and thermal management (chapter 16): input modes, hold-up, Barista's cap, power domains, phases, and the
thermal model. -/

namespace Sys2Proof.Machine

def State.mapPwr (s : State) (f : PowerState → PowerState) : State := { s with pwr := f s.pwr }
def State.inputMode (s : State) : Nat := s.getF F.PWM_STAT.MODE

/-! ## Domains (R365 to R367) -/

/-- The pages of a domain. -/
def domainPages (d : Nat) : List Nat := (List.range 28).filter (fun p => domainOfPage p = d)

/-- Row of R365 in which a domain starts. -/
def startRow (d : Nat) : Nat :=
  if d = 3 then 1 else if d = 4 then 2 else if d = 5 ∨ d = 1 ∨ d = 2 then 3 else if d = 6 ∨ d = 7 then 4
  else if d = 8 ∨ d = 9 ∨ d = 10 then 5 else if d = 11 then 6 else if d < 20 then 7 else 8

/-- Minimum off time in ns. -/
def offTime (d : Nat) : Nat := if d = 5 ∨ d = 6 ∨ d = 7 then 5000000 else 1000000

/-- The enable bit of a domain. -/
def State.domEn (s : State) (d : Nat) : Bool :=
  if d < 32 then s.bitF F.PWM_DOM_EN0.EN d else s.bitF F.PWM_DOM_EN1.EN (d - 32)

/-- The rails whose failure takes their domains with them (R369) have lost the one that feeds domain `d`. -/
def State.railDead (s : State) (d : Nat) : Bool :=
  let dead := fun (r : Nat) => s.getF (F.PWM_RAIL.ACTIVE.inst r) = 0
  if d = 3 ∨ d = 10 then dead 5 else if d = 2 then dead 7 else false

/-- A domain is to be on: enabled, present on this grade, not shed, its rail not failed. -/
def State.wanted (s : State) (d : Nat) : Bool :=
  decide (1 ≤ d) && s.domEn d && (d ≠ 2 || s.gradeS) && !s.pwr.shed.contains d && !s.railDead d && s.dev ≠ .off

def State.setDom (s : State) (d st : Nat) : State := s.setF (F.PWM_DOM_STAT.STATE.inst d) st

/-- t_OFF has run since the domain's entry to `OFF`; at the first start there is none. -/
def State.offLongEnough (s : State) (d : Nat) : Bool :=
  match tabFind d s.pwr.offAt with
  | some t => decide (t + offTime d ≤ s.now)
  | none => true

/-- At boot, a domain starts once every domain of an earlier row that is to be on is `ON` (R365). -/
def State.turnOf (s : State) (d : Nat) : Bool :=
  s.dev ≠ .boot || (List.range 36).all (fun e => decide (startRow d ≤ startRow e) || e = 0 || !s.wanted e || s.domState e = 2)

/-- Between the starts of two domains of a row at boot: GRN0 to GRN7 every 50 µs, RXS0 to RXS15 every 25 µs (R365). -/
def startStep (d : Nat) : Nat := if 12 ≤ d ∧ d < 20 then 50000 else if 20 ≤ d then 25000 else 0

/-- The instant at which a domain enters `STARTING`: at once, or at boot after the one of its row that starts before it. -/
def State.turnAt (s : State) (d : Nat) : Nat :=
  if s.dev ≠ .boot then s.now
  else ((s.pwr.startAt.filter (fun e => startRow e.1 = startRow d)).map (fun e => e.2 + startStep d)).foldl max s.now

/-- A domain enters `STARTING`, at its turn. -/
def State.startDomain (s : State) (d : Nat) : State :=
  ((s.mapPwr (fun x => { x with startAt := tabSet d (s.turnAt d) x.startAt })).setDom d 1).bump (F.PWM_DOM_STAT.CYCLES.inst d) 1

/-- A domain that is `OFF` and whose turn has not been set. -/
def State.atRest (s : State) (d : Nat) : Bool := s.domState d = 0 && !s.awaitsTurn d

/-- Every domain that is `OFF` and may start enters `STARTING` (R365). -/
def State.sequence (s : State) : State :=
  if s.rst.loading then s
  else (List.range 36).foldl (fun s d =>
    if s.wanted d && s.atRest d && s.offLongEnough d && s.turnOf d then s.startDomain d else s) s

/-- What the blocks of a domain hold besides registers (a port that was `ACTIVE` has gone down, R295) goes with a reset (0, 1, 2: its level) or
with their power (9). Program banks whose domain loses its power read 0 afterwards (DESIGN CHOICE, log entry 3; R86 calls them undefined). The
tap maps of delay lines come back from the retirement record at release (R354). -/
def State.resetEngine (s : State) (d why : Nat) : State :=
  let bankAddr := fun (a : Nat) => decide (0x400000 ≤ a) && decide (a < 0x600000)
  let coefAddr := fun (a : Nat) => decide (0x800000 ≤ a) && decide (a < 0x802000)
  if d = 1 then { s with saf := { s.saf with
      staging := [], staged := none, descs := [], raysA := [], counts := [], raised := [], due := [], runs := [], clearRun := 0,
      outputsOn := false, pulseA := none, fb := none, clearAt := none, activeA := if why = 1 then s.saf.activeA else none,
      activeB := if why = 1 then s.saf.activeB else none } }
  else if d = 2 then { s with saf := { s.saf with
      stagingB := [], stagedB := none, pulses := [], events := [], raysB := [], outputsOn := false, pulseB := none, fb := none, clkBad := 0,
      clkGood := 0, activeA := if why = 1 then s.saf.activeA else none, activeB := if why = 1 then s.saf.activeB else none } }
  else if d = 3 then s.mapTime (fun x =>
    if why = 1 then { x with carried := if x.carried.isSome then x.carried else some s.now, slew := 0, traced := s.servo = 2 || (s.servo = 3 && x.traced) }
    else { TimeState.reset with age := x.age, monGood := x.monGood, stableFrom := x.stableFrom, warned := x.warned })
  else if d = 4 then s.mapCal (fun x => { CalState.reset with fresh := x.fresh, record := x.record, recDue := x.recDue })
  else if d = 5 then
    if why = 1 then s else { s with mem := MemState.reset, rcd := RecState.reset, tp := { s.tp with journal := [], queues := [], qgens := [] } }
  else if d = 6 ∨ d = 7 then
    let p := d - 6
    let was := s.getF (F.NTA_STAT.STAGE.pageUp p) = 6
    let s := (s.setF (F.NTA_STAT.STAGE.pageUp p) 0).mapPort p (fun x => { Port.reset with present := x.present, downAt := if was then some s.now else none })
    if why = 9 then (if was then s.notice p else s) else { s with net := { s.net with hostB := false, censusAt := none, held := none, notices := [] } }
  else if d = 8 then
    let lines := s.etd.lines.filter (fun e => 16 ≤ e.1)
    let chains := s.chainsOff
    { (List.range 4).foldl (fun s c => s.setChainState c 0) s with
      sch := { SchedState.reset with past := if why = 0 then [] else s.sch.past, slot := s.sch.slot },
      emt := { EmitState.reset with chains := chains },
      etd := { EtdState.reset with lines := lines }, rxc := { RxState.reset with locks := s.rxc.locks },
      ram := if why = 1 || why = 2 then s.ram else s.ram.filter (fun e => !bankAddr e.1) }
  else if d = 9 then { s with ste := SteerState.reset }
  else if d = 10 then
    { s with hka := HkaState.reset, exc := { ExcState.reset with delivered := if why = 1 || why = 2 then s.exc.delivered else 0 }, ram := if why = 1 || why = 2 then s.ram else s.ram.filter (fun e => !coefAddr e.1) }
  else if d = 11 then { s with crm := { CremaState.reset with counts := s.crm.counts, lost := s.crm.lost } }
  else if d = 0 then s
  else if d < 20 then
    let e := d - 12
    { s with grn := { s.grn with slots := s.grn.slots.filter (fun x => x.1 / 512 ≠ e), bucket := tabDel e s.grn.bucket,
                                 counts := s.grn.counts.filter (fun x => x.1 / 4 ≠ e), recent := tabDel e s.grn.recent } }
  else
    { s with rxc := { s.rxc with queues := tabDel (d - 20) s.rxc.queues, held := s.rxc.held.filter (fun x => x.ch / 64 ≠ d - 20) }
             etd := { s.etd with lines := s.etd.lines.filter (fun e => lineDomain e.1 ≠ d) } }

/-- The domain is reached no more: its pages drop their pending values (R367). -/
def State.dropDomain (s : State) (d why : Nat) : State :=
  let s := s.mapPwr (fun x => { x with released := x.released.filter (· ≠ d), why := tabSet d why x.why })
  let s := s.resetEngine d why
  let s := if why = 9 then (monitorsOf d).foldl State.monitorOff s else s
  let s := if d = 1 || d = 2 then s.showStaged else s
  let s := if (d = 1 || d = 2) && why ≠ 1 then s.showNoImage else s
  let s := if (d = 1 || d = 2) && why ≠ 1 && s.on 8 then s.workingCeilings none else s
  (domainPages d).foldl State.discardPage s

/-- A domain is switched off or shed (R362, R367); one whose turn to start has not come stays `OFF` and has not started. -/
def State.stopDomain (s : State) (d : Nat) : State :=
  if s.awaitsTurn d then
    (((s.dropDomain d 9).setDom d 0).setF (F.PWM_DOM_STAT.CYCLES.inst d) (s.getF (F.PWM_DOM_STAT.CYCLES.inst d) - 1)).mapPwr
      (fun x => { x with startAt := tabDel d x.startAt })
  else
  match s.domState d with
  | 1 => ((s.dropDomain d 9).setDom d 3).mapPwr (fun x => { x with startAt := tabDel d x.startAt })
  | 2 => (s.dropDomain d 9).setDom d 3
  | 4 => s.setDom d 3
  | _ => s

/-- A domain loses its power at once. -/
def State.losePower (s : State) (d : Nat) : State :=
  ((s.dropDomain d 9).setDom d 0).mapPwr (fun x => { x with offAt := tabSet d s.now x.offAt, onAt := tabDel d x.onAt, startAt := tabDel d x.startAt })

/-- A domain that is to be on again: in `STOPPING` the request is recorded (R367). -/
def State.wantDomain (s : State) (d : Nat) : State :=
  if s.wanted d && s.domState d = 3 then (s.setDom d 4).raiseEvt 2 8 else s

/-- After a change of what is wanted (a commit, shedding, leaving LOSS, a reset release). -/
def State.updateDomains (s : State) : State :=
  let s := (List.range 36).foldl (fun s d => if d = 0 then s else if s.wanted d then s.wantDomain d else s.stopDomain d) s
  s.sequence

/-- R365: a domain is `ON`. -/
def doDomainStarted (dom : Fin 36) (t : Nat) (s : State) : State :=
  let s := s.at t
  let d := dom.val
  if s.domState d = 1 then
    ((s.setDom d 2).mapPwr (fun x => { x with onAt := tabSet d s.now x.onAt, startAt := tabDel d x.startAt })).sequence
  else s

def execDomainStarted (dom : Fin 36) (t : Nat) (s : State) : Host.Outcome State Fault Refusal := answer (doDomainStarted dom t s)

/-- R367: a stop completes; a request recorded meanwhile waits for t_OFF in `OFF`. -/
def doDomainStopped (dom : Fin 36) (t : Nat) (s : State) : State :=
  let s := s.at t
  let d := dom.val
  if s.domState d = 3 || s.domState d = 4 then
    (s.setDom d 0).mapPwr (fun x => { x with offAt := tabSet d s.now x.offAt, onAt := tabDel d x.onAt })
  else s

def execDomainStopped (dom : Fin 36) (t : Nat) (s : State) : Host.Outcome State Fault Refusal := answer (doDomainStopped dom t s)

/-- R367: t_OFF has run for a domain that is to be on. -/
def doDomainOffTimeExpiry (dom : Fin 36) (t : Nat) (s : State) : State :=
  let s := s.at t
  let d := dom.val
  if !s.rst.loading && s.atRest d && s.wanted d && (tabFind d s.pwr.offAt).isSome && s.offLongEnough d && s.turnOf d then
    s.startDomain d
  else s

def execDomainOffTimeExpiry (dom : Fin 36) (t : Nat) (s : State) : Host.Outcome State Fault Refusal :=
  answer (doDomainOffTimeExpiry dom t s)

/-! ## Input modes (R357 to R363) -/

/-- The instant a condition began to hold without a break. -/
def since (c : Bool) (old : Option Nat) (now : Nat) : Option Nat := if c then some (old.getD now) else none

/-- A condition has held for `ns`. -/
def State.heldFor (s : State) (from_ : Option Nat) (ns : Nat) : Bool :=
  match from_ with
  | some f => decide (f + ns ≤ s.now)
  | none => false

/-- A change of mode, with the events of leaving and entering LOW (R374). -/
def State.setMode (s : State) (m : Nat) : State :=
  let s := if s.inputMode = 1 then s.raiseEvt 2 1 else s
  let s := s.setF F.PWM_STAT.MODE m
  if m = 1 then (s.bump F.PWM_CNT.LOWS 1).raiseEvt 2 0 else s

/-- A LOW, WARN or LOSS episode begins, or goes on. -/
def State.beginEpisode (s : State) : State :=
  s.mapPwr (fun x => { x with episode := some (x.episode.getD (s.now, s.getF F.PWM_IN.VIN)) })

/-- R357, R358, R361: a measurement of the input and of `VHU`. -/
def doInputSample (mv iin vhu t : Nat) (s : State) : State :=
  let s := s.at t
  let s := (s.setSat F.PWM_IN.VIN mv).setSat F.PWM_IN.IIN iin
  let s := (s.setSat F.PWM_HU.VHU (vhu / 100)).setB F.PWM_STAT.HU_READY (decide (30000 ≤ vhu))
  let s := s.mapPwr (fun x => { x with
    above95 := since (decide (9500 < mv)) x.above95 s.now, above46 := since (decide (4600 < mv)) x.above46 s.now,
    below38 := since (decide (mv < 3800)) x.below38 s.now,
    inRange := since (decide (4600 ≤ mv) && decide (mv ≤ 36000)) x.inRange s.now,
    above50 := since (decide (5000 < mv)) x.above50 s.now,
    huUp := x.huUp || (decide (30000 ≤ vhu) && decide (s.now ≤ x.bootAt + 400000000)),
    episode := x.episode.map (fun e => (e.1, min e.2 mv)) })
  if s.dev = .off then s
  else if s.inputMode ≤ 1 && decide (mv < 4400) then ((s.setMode 2).beginEpisode.raiseEvt 2 2).enterSafe 0x28 []
  else if s.inputMode = 0 && decide (mv < 9000) then (s.setMode 1).beginEpisode
  else s

def execInputSample (mv iin vhu t : Nat) (s : State) : Host.Outcome State Fault Refusal := answer (doInputSample mv iin vhu t s)

/-- R357: above 9.5 V for 100 ms; the episode just ended is logged. -/
def doNormalDwellExpiry (t : Nat) (s : State) : State :=
  let s := s.at t
  if s.dev ≠ .off && s.inputMode = 1 && s.heldFor s.pwr.above95 100000000 then
    let s := match s.pwr.episode with
      | some (from_, low) => (s.setSat F.PWM_LOWLOG.DUR ((s.now - from_) / 1000000)).setSat F.PWM_LOWLOG.VMIN low
      | none => s
    (s.setMode 0).mapPwr (fun x => { x with episode := none })
  else s

def execNormalDwellExpiry (t : Nat) (s : State) : Host.Outcome State Fault Refusal := answer (doNormalDwellExpiry t s)

/-- R357: above 4.60 V for 100 ms leaves WARN. -/
def doWarnRecoveryExpiry (t : Nat) (s : State) : State :=
  let s := s.at t
  if s.dev ≠ .off && s.inputMode = 2 && s.heldFor s.pwr.above46 100000000 then s.setMode 1 else s

def execWarnRecoveryExpiry (t : Nat) (s : State) : Host.Outcome State Fault Refusal := answer (doWarnRecoveryExpiry t s)

/-- R357: 4.60 V to 36.0 V for 100 ms clears cause 0x28. -/
def doInputInRangeExpiry (t : Nat) (s : State) : State :=
  let s := s.at t
  if s.heldFor s.pwr.inRange 100000000 then s.clearCause 0x28 else s

def execInputInRangeExpiry (t : Nat) (s : State) : Host.Outcome State Fault Refusal := answer (doInputInRangeExpiry t s)

/-- The domains that a loss sheds (R362). -/
def shedDomains : List Nat := [8, 9, 11, 12, 13, 14, 15, 16, 17, 18, 19] ++ (List.range 16).map (· + 20)

/-- R357, R360, R362, R55: input loss or overvoltage; an overvoltage while the input is lost already shows in OV. -/
def doLossEntry (t : Nat) (s : State) : State :=
  let s := s.at t
  let high := decide (37000 < s.getF F.PWM_IN.VIN)
  if s.dev ≠ .off && s.inputMode = 3 && high then s.setF F.PWM_STAT.OV 1
  else if s.dev ≠ .off && s.inputMode ≠ 3 && (high || s.heldFor s.pwr.below38 20000) then
    let s := ((s.setMode 3).setB F.PWM_STAT.OV high).beginEpisode
    let s := (s.bump F.PWM_CNT.LOSSES 1).raiseEvt 2 3
    let s := (s.setF F.PWM_STAT.ACK_HELD 1).mapTp (fun x => { x with ackHeld := true })
    let s := s.unaccept (fun _ => true)
    let s := s.enterSafe 0x28 []
    let s := s.mapPwr (fun x => { x with shed := shedDomains })
    shedDomains.foldl State.stopDomain s
  else s

def execLossEntry (t : Nat) (s : State) : Host.Outcome State Fault Refusal := answer (doLossEntry t s)

/-- R357, R363: the input is back before hold-up has ended; the shed domains start again. -/
def doLossExit (t : Nat) (s : State) : State :=
  let s := s.at t
  if s.dev ≠ .off && s.inputMode = 3 && s.heldFor s.pwr.inRange 1000000 then
    let s := ((s.setMode 1).setF F.PWM_STAT.OV 0).raiseEvt 2 4
    (s.mapPwr (fun x => { x with shed := [] })).updateDomains
  else s

def execLossExit (t : Nat) (s : State) : Host.Outcome State Fault Refusal := answer (doLossExit t s)

/-- Everything loses power: the device is `OFF`. -/
def State.unpowered (s : State) : State :=
  let s := (List.range 36).foldl State.losePower s
  let s := s.mapPwr (fun x => { x with released := [] })
  { s.emptyPending with rst := { s.rst with active := none, scan := false }, sys := { s.emptyPending.sys with stay := [] } }

/-- R362 step 5, R42: `VHU` falls below 12.0 V while the input is lost; what is pending is cancelled. -/
def doHoldupEnd (t : Nat) (s : State) : State :=
  let s := s.at t
  if s.dev ≠ .off && s.inputMode = 3 && decide (s.getF F.PWM_HU.VHU < 120) then
    ((s.cancelPending 0).abortFrames.enterState .off 0x05 s.boundaryCauses).unpowered
  else s

def execHoldupEnd (t : Nat) (s : State) : Host.Outcome State Fault Refusal := answer (doHoldupEnd t s)

/-- R363: `VHU` is back at 30.0 V and acknowledgements resume. -/
def doAckResume (t : Nat) (s : State) : State :=
  let s := s.at t
  if s.tp.ackHeld && s.inputMode ≠ 3 && s.flag F.PWM_STAT.HU_READY then
    let s := (s.setF F.PWM_STAT.ACK_HELD 0).mapTp (fun x => { x with ackHeld := false })
    State.releaseWithheld s.tp.withheld.length s
  else s

def execAckResume (t : Nat) (s : State) : Host.Outcome State Fault Refusal := answer (doAckResume t s)

/-- R361: the usable energy is measured; low energy is reported with each measurement, and once that `VHU` has not reached 30.0 V in
400 ms of `BOOT`. -/
def doHoldupCheck (energy t : Nat) (s : State) : State :=
  let s := (s.at t).setSat F.PWM_HU.ENERGY energy
  let late := !s.pwr.huUp && !s.pwr.huLate && decide (s.pwr.bootAt + 400000000 ≤ s.now)
  if s.dev ≠ .off && (decide (energy < 500) || late) then
    ((s.setF F.PWM_STAT.HU_LOW 1).raiseEvt 2 5).mapPwr (fun x => { x with huLate := x.huLate || late })
  else s

def execHoldupCheck (energy t : Nat) (s : State) : Host.Outcome State Fault Refusal := answer (doHoldupCheck energy t s)

/-! ## Barista's cap (R364) -/

/-- Rating of a phase of a rail in W (R368). -/
def phaseRating (r : Nat) : Nat := nth 0 [20, 8, 4, 4, 8] r

/-- Measurement starts of the slots of the last 100 µs; a slot is 1 µs. -/
def State.startsLately (s : State) : Nat :=
  ((s.sch.starts.filter (fun e => decide (s.now / 1000 < e.1 + 100))).map (·.2)).sum

/-- Failed phases of a rail that no spare stands in for: their rating is deducted (R369). A phase replaced as worn was never missing. -/
def State.phasesOut (s : State) (r : Nat) : Nat :=
  s.getF (F.PWM_RAIL.FAILED.inst r) - s.getF (F.PWM_RAIL.SPARE_IN.inst r)

/-- P_ceil in µW. -/
def State.powerCeil (s : State) : Int :=
  let c := if s.inputMode = 0 then s.getF F.PWM_CEIL.NORM else s.getF F.PWM_CEIL.LOW
  (c * 100000 : Nat) - (((List.range 5).map (fun r => phaseRating r * s.phasesOut r)).sum * 1000000 : Nat)

/-- F in µW: the mean of the samples of the last 10 ms. -/
def meanFixed (l : List Int) : Rat := if l.isEmpty then 0 else (l.sum : Rat) / (l.length : Rat)

/-- R364: the cap from the input power of the last 100 µs. Tenths of a watt are truncated in the registers. -/
def doPowerCapUpdate (pin t : Nat) (s : State) : State :=
  let s := s.at t
  if s.dev = .off then s
  else
    let em := s.getF F.PWM_MODEL.EMEAS
    let sample : Int := (pin * 1000 : Nat) - (em * s.startsLately * 10 : Nat)
    let s := s.mapPwr (fun x => { x with fixed := (sample :: x.fixed).take 100 })
    let f := meanFixed s.pwr.fixed
    let room := max 0 (s.pwr.ft * ((s.powerCeil : Rat) - f))
    let cap := if em = 0 then s.freeNat % 3201 else (clampInt 0 3200 (room / (10 * em : Nat)).floor).toNat
    let tenths := fun (x : Rat) => (x / 100000).floor.toNat
    let s := (((if em = 0 then s.tick else s).setSat F.PWM_POWER.PIN (pin / 100)).setSat F.PWM_BUDGET.PLIM (tenths (f + room))).setSat
      F.PWM_BUDGET.FIX (tenths f)
    if s.on 8 then s.setF F.SCH_PWR_CAP.CAP cap else s

def execPowerCapUpdate (pin t : Nat) (s : State) : Host.Outcome State Fault Refusal := answer (doPowerCapUpdate pin t s)

/-! ## Phases (R368, R369) -/

/-- R369: a phase of a rail fails; rails 5 to 7 take their domains with them. Without VAON the device is `OFF` at once, under the one cause of
R62 that leads there (log entry 66). -/
def doPhaseFailure (rail : Fin 8) (t : Nat) (s : State) : State :=
  let s := s.at t
  let r := rail.val
  let active := F.PWM_RAIL.ACTIVE.inst r
  if s.dev = .off || s.getF active = 0 then s
  else
    let s := (s.setF active (s.getF active - 1)).bump (F.PWM_RAIL.FAILED.inst r) 1 |>.recordDue
    if r = 5 then (s.losePower 3).losePower 10
    else if r = 6 then ((s.abortFrames).enterState .off 0x05 s.boundaryCauses).unpowered
    else if r = 7 then s.losePower 2
    else
      let waits := s.pwr.spareReq.find? (fun x => x.1 = r)
      if !s.flag (F.PWM_RAIL.SPARE_IN.inst r) && waits ≠ some (r, false) then
        s.mapPwr (fun x => { x with spareReq := x.spareReq.filter (fun y => y.1 ≠ r) ++ [(r, false)] })
      else ((s.setF (F.PWM_RAIL.SHORT.inst r) 1).raiseEvt 2 7).poolTrigger 2 0x41

def execPhaseFailure (rail : Fin 8) (t : Nat) (s : State) : Host.Outcome State Fault Refusal := answer (doPhaseFailure rail t s)

/-- R369: the spare phase of a rail carries load; a worn phase is then removed, a failed one is deducted no more. -/
def doSparePhaseInService (rail : Fin 5) (t : Nat) (s : State) : State :=
  let s := s.at t
  let r := rail.val
  match s.pwr.spareReq.find? (fun x => x.1 = r) with
  | some (_, planned) =>
    let s := s.mapPwr (fun x => { x with spareReq := x.spareReq.filter (fun y => y.1 ≠ r) })
    let s := if planned then s.bump (F.PWM_RAIL.FAILED.inst r) 1 else s.bump (F.PWM_RAIL.ACTIVE.inst r) 1
    let s := ((s.setF (F.PWM_RAIL.SPARE_IN.inst r) 1).setBit (H.SPARE_MAP 2) r true).bump (H.SPARE_USED 2) 1
    let s := s.setF (H.SPARE_LEFT 2) (s.getF (H.SPARE_LEFT 2) - 1)
    ((s.spareTaken 2).raiseEvt 2 6).poolTrigger 2 0x40
  | none => s

def execSparePhaseInService (rail : Fin 5) (t : Nat) (s : State) : Host.Outcome State Fault Refusal :=
  answer (doSparePhaseInService rail t s)

/-! ## Thermal model (R370 to R373) -/

/-- Listed neighbours in the grid of three rows of four. -/
def neighbours (i : Nat) : List Nat :=
  (if i < 4 then [] else [i - 4]) ++ (if i % 4 = 0 then [] else [i - 1]) ++ (if i % 4 = 3 then [] else [i + 1]) ++ (if 8 ≤ i then [] else [i + 4])

/-- θ_i in 0.001 °C/W and τ_i in ms: factory values (log entry 2). -/
def thmTheta (i : Nat) : Nat := fieldOf 0 16 (Config.factoryValue 0x3108 i).toNat
def thmTau (i : Nat) : Nat := fieldOf 16 16 (Config.factoryValue 0x3108 i).toNat

/-- Insert into a rising list. -/
def insertRat (x : Rat) : List Rat → List Rat
  | [] => [x]
  | y :: t => if y < x then y :: insertRat x t else x :: y :: t

/-- The median; of an even number, the mean of the middle two (log entry 60). -/
def median (l : List Rat) : Rat :=
  let m := l.foldl (fun a x => insertRat x a) []
  let n := m.length
  if n = 0 then 0 else if n % 2 = 1 then nth 0 m (n / 2) else (nth 0 m (n / 2 - 1) + nth 0 m (n / 2)) / 2

def clampRat (x : Rat) : Rat := if x < 0 then 0 else if 1 < x then 1 else x

/-- R372 for one sensor: who agrees in this sample, and who was valid before it. -/
def State.judgeSensor (s : State) (bad : Nat → Bool) (valid : Nat → Bool) (i : Nat) : State :=
  let near := neighbours i
  let good := (near.filter (fun j => valid j && !bad j)).length
  let run := if bad i && decide (near.length < 2 * good) then nth 0 s.thm.runs i + 1 else 0
  let agree := if valid i || bad i then none else some ((nth none s.thm.agreeSince i).getD s.now)
  let s := { s with thm := { s.thm with runs := setNth s.thm.runs i run, agreeSince := setNth s.thm.agreeSince i agree } }
  let s := s.setBit F.THM_VALID.DISAGREE i (bad i)
  if valid i && decide (3 ≤ run) then
    ((s.setBit F.THM_VALID.VALID i false).bump F.THM_FT.EXCL 1).raiseEvt 3 0
  else if s.heldFor agree 10000000000 then
    let s := { s with thm := { s.thm with agreeSince := setNth s.thm.agreeSince i none } }
    (s.setBit F.THM_VALID.VALID i true).raiseEvt 3 1
  else s

/-- R373: the hot spot sets f_T, the shutdown and its end. -/
def State.heat (s : State) (hot : Rat) (few : Bool) : State :=
  let lim := fun (f : Field) => ((s.getF f * 10 : Nat) : Rat)
  let span := lim F.THM_LIMITS.LIM - lim F.THM_LIMITS.THR
  let f := if span = 0 then (if lim F.THM_LIMITS.LIM ≤ hot then 0 else 1) else clampRat ((lim F.THM_LIMITS.LIM - hot) / span)
  let f := if few && decide ((1 : Rat) / 2 < f) then (1 : Rat) / 2 else f
  let s := if f < 1 && s.pwr.ft = 1 then s.raiseEvt 3 2 else s
  let was := ((s.getI F.THM_TEMP.HOT : Int) : Rat)
  let s := (s.mapPwr (fun x => { x with ft := f })).setSat F.THM_FT.FT (f * 255).floor.toNat
  let s := s.setI F.THM_TEMP.HOT hot.floor
  let s := if lim F.THM_LIMITS.SHUT ≤ hot then
      (if was < lim F.THM_LIMITS.SHUT then s.raiseEvt 3 3 else s).enterSafe 0x2A []
    else s
  if hot < lim F.THM_LIMITS.RESUME then s.clearCause 0x2A else s

/-- R371 to R373: a sample of the twelve sensors. -/
def doThermalSample (reads : List Int) (t : Nat) (s : State) : State :=
  let s := s.at t
  if s.dev = .off || reads.length ≠ 12 then s
  else
    let pin : Rat := (s.getF F.PWM_POWER.PIN : Rat) / 10
    let pf := (List.range 12).map (fun i => let p := nth 0 s.thm.pf i; p + (pin - p) / (thmTau i : Rat))
    let rise := fun (i : Nat) => (thmTheta i : Rat) * nth 0 pf i / 100
    let valid := fun (i : Nat) => s.bitF F.THM_VALID.VALID i
    let read := fun (i : Nat) => ((nth 0 reads i : Int) : Rat)
    let case_ := median (((List.range 12).filter valid).map (fun i => read i - rise i))
    let pred := fun (i : Nat) => case_ + rise i
    let tol : Rat := (s.getF F.THM_TOL.TOL : Rat)
    let bad := fun (i : Nat) => decide (tol < read i - pred i) || decide (tol < pred i - read i)
    let s := { s with thm := { s.thm with pf := pf } }
    let s := (List.range 12).foldl (fun s i =>
      (s.setI (F.THM_SENS.READ.inst i) (nth 0 reads i)).setI (F.THM_SENS.PRED.inst i) (pred i).floor) s
    let s := (List.range 12).foldl (State.judgeSensor · bad valid ·) s
    let s := s.setI F.THM_TEMP.CASE case_.floor
    let few := decide ((onesOf 12 (s.getF F.THM_VALID.VALID)).length < 6)
    let s := if few && !s.flag (H.DEGRADED 3) then s.raiseEvt 3 4 else s
    let s := s.setB (H.DEGRADED 3) few
    let temp := fun (i : Nat) => if s.bitF F.THM_VALID.VALID i then read i else pred i
    s.heat ((List.range 12).foldl (fun m i => if m < temp i then temp i else m) (temp 0)) few

def execThermalSample (reads : List Int) (t : Nat) (s : State) : Host.Outcome State Fault Refusal := answer (doThermalSample reads t s)

end Sys2Proof.Machine
end

