-- ==== Sys2Proof/Machine/Resets.lean ====
section
/-! DEFINITION. Resets, fuses and start-up (chapter 17): reset sources and levels, the fuse load, release of domains on their clocks,
and the boot to its destination. -/

namespace Sys2Proof.Machine

/-! ## Values at release (R452) -/

/-- A field keeps its value at the release from a reset of level `why`; 9: its domain had been switched off. -/
def survives (keep : Keep) (why : Nat) : Bool :=
  match keep with
  | .pwr => true
  | .fuse => decide (why ≠ 0)
  | .l0 => decide (why ≠ 0) && decide (why ≠ 9)
  | .none => false

/-- A word at its reset value but for what is kept. -/
def resetTo (why a : Nat) (w : Word) : Word :=
  BitVec.ofNat 32 (mergeFields ((fieldsAt a).filter (fun f => survives f.keep why)) (resetWord a).toNat w.toNat)

/-- Reset the listed words among those picked. -/
def resetCells (pick : Nat → Bool) (why : Nat) (l : List (Nat × Word)) : List (Nat × Word) :=
  l.filterMap (fun e =>
    if pick e.1 then (if resetTo why e.1 e.2 = resetWord e.1 then none else some (e.1, resetTo why e.1 e.2)) else some e)

/-- A word that a reset of domain `d` takes. -/
def ownedBy (d a : Nat) : Bool := domainOfAddr a = some d

/-- The pages of a domain take their reset values. -/
def State.resetPages (s : State) (d why : Nat) : State :=
  { s with
    regs := resetCells (ownedBy d) why s.regs
    frozen := s.frozen.filter (fun e => !ownedBy d e.1)
    sys := { s.sys with
      coalesced := s.sys.coalesced.filter (fun e => domainOfPage (e.1 / 32) ≠ d)
      resetting := s.sys.resetting.filter (fun p => domainOfPage p ≠ d) } }

/-! ## Fuses (R384 to R387) -/

/-- A revocation row revokes when either copy holds any bit set (R384). -/
def shadowRow (a b : List (Nat × List Byte)) (n : Nat) : List Byte :=
  if 8 ≤ n ∧ n ≤ 13 then (if (fuseRow a n).any (· ≠ 0) then fuseRow a n else fuseRow b n) else (loadRow a b n).1

/-- Rows with a property. -/
def rowsWith (p : Nat → Bool) : List Nat := (List.range 64).filter p

/-- The rollback counter (R384). -/
def State.rollback (s : State) : Nat := (List.range 16).foldl (fun m k => max m (ofLe (s.fuseBytes (14 + k) 0 1))) 0

/-- A ceiling of a zone (0 SHORT, 1 LONG) in a row of a pair. -/
def State.rowCeil (s : State) (row z half : Nat) : Nat := ofLe (s.fuseBytes row (z % 8 * 4 + 2 * half) 2)

/-- The fused ceiling of a zone (R384): the least of Kyogivin's and of every programmed integrator row that covers it; 0 where none
does. Kyogivin programs rows 30 and 31 before delivery (log entry 2); a bad row is loaded as 0 (R385). -/
def State.fusedCeil (s : State) (z half : Nat) : Nat :=
  let rows := [34, 36, 38].map (· + z / 8)
  let set := rows.filter (fun r => (tabFind r s.rst.rows).isSome)
  let factory := if (tabFind (30 + z / 8) s.rst.rows).isSome || s.rst.badRows.contains (30 + z / 8) then s.rowCeil (30 + z / 8) z half
    else fieldOf (16 * half) 16 (Config.factoryValue 30 z).toNat
  if set.isEmpty then 0 else set.foldl (fun m r => min m (s.rowCeil r z half)) factory

/-- Key slots that verify (R392). -/
def State.slotsGood (s : State) : Nat :=
  if s.sealBad then 0 else s.rst.keySlots.foldl (fun m e => if e.2.sealed then m + 2 ^ e.1 else m) 0

/-- The fused values of a domain's registers, as its release distributes them (R386). -/
def State.applyFuses (s : State) (d : Nat) : State :=
  if d = 0 then
    let s := (s.setF F.SYS_PART.GRADE (ofLe (s.fuseBytes 0 1 1))).setF F.SYS_PART.DIE_REV (ofLe (s.fuseBytes 0 2 1))
    let s := (s.setF F.SYS_SERIAL_LO.SERIAL (ofLe (s.fuseBytes 0 3 4))).setF F.SYS_SERIAL_HI.SERIAL (ofLe (s.fuseBytes 0 7 4))
    let levels := (List.range 7).foldl (fun m i => m + s.sourceLevel (i + 1) * 4 ^ i) 0
    (s.setF F.RST_MAP.LEVELS levels).setF F.RST_PINMAP.FIELDS (ofLe (s.fuseBytes 41 0 2))
  else if d = 4 then (s.setF F.CPU_IMG.ROLLBACK s.rollback).setF F.CPU_AUTH.SLOTS s.slotsGood
  else if d = 6 ∨ d = 7 then
    (s.setF (F.NTA_MAC_LO.MAC.pageUp (d - 6)) (ofLe (s.fuseBytes 0 11 4))).setF (F.NTA_MAC_HI.MAC.pageUp (d - 6)) (ofLe (s.fuseBytes 0 15 2))
  else if d = 8 then
    let s := (List.range 16).foldl (fun s z =>
      (s.setF (F.EMT_ZONE_FUSED.SHORT.inst z) (s.fusedCeil z 0)).setF (F.EMT_ZONE_FUSED.LONG.inst z) (s.fusedCeil z 1)) s
    s.setCeilings s.image
  else if d = 9 then s.setF F.STE_CTL.SAFE_DRV (fieldOf 14 1 (s.getF F.RST_PINMAP.FIELDS))
  else s

/-- The load begins, or begins again (R385). -/
def State.beginLoad (s : State) : State :=
  let s := if s.rst.loading then s
    else { s with tp := { s.tp with bootCount := s.tp.bootCount + 1 }, sys := { s.sys with l0At := s.now } }
  let s := (s.bump F.RST_FUSE_LOADS.COUNT 1).setF F.RST_FUSE.STATE 1
  let s := (s.setF F.RST_BOOT.STEP 1).mapPwr (fun x => { x with released := [0] })
  s.mapRst (fun x => { x with loading := true, rows := [], badRows := [], relAt := s.now })

/-- R385: the load is complete; step 2 of R389. -/
def doFuseLoadComplete (t : Nat) (s : State) : State :=
  let s := s.at t
  if !s.rst.loading || s.rst.active.isSome then s
  else
    let a := s.rst.fuseA
    let b := s.rst.fuseB
    let bad := rowsWith (fun n => (loadRow a b n).2.1)
    let fb := rowsWith (fun n => (loadRow a b n).2.2.1)
    let one := rowsWith (fun n => (loadRow a b n).2.2.2)
    let rows := ((List.range 64).map (fun n => (n, shadowRow a b n))).filter (fun e => e.2.any (· ≠ 0))
    let s := s.mapRst (fun x => { x with loading := false, mapped := true, rows := rows, badRows := bad })
    let s := ((s.setF F.RST_FUSE.BOTHBAD bad.length).setF F.RST_FUSE.ONECOPY one.length).setF F.RST_FUSE.FALLBACK fb.length
    let s := s.setF F.RST_FUSE.STATE (if !bad.isEmpty then 4 else if !fb.isEmpty then 3 else 2)
    let s := (s.setB F.RST_FUSE_ROW.BAD_V (!bad.isEmpty)).setF F.RST_FUSE_ROW.BAD (bad.headD 0)
    let s := (s.setB F.RST_FUSE_ROW.FB_V (!fb.isEmpty)).setF F.RST_FUSE_ROW.FB (fb.headD 0)
    let s := fb.foldl (fun s _ => s.raiseEvt 1 0) s
    ((s.applyFuses 0).setF F.RST_BOOT.STEP 2).updateDomains

def execFuseLoadComplete (t : Nat) (s : State) : Host.Outcome State Fault Refusal := answer (doFuseLoadComplete t s)

/-! ## Taking a reset (R376 to R381) -/

/-- What an L0 leaves: NOR and fuse contents, what the partners hold, and what R452 keeps; a power-on keeps less. The pin map in force
stays until the next fuse load has completed (R381), and a hold-up capacitor that is charged stays ready (R361). -/
def State.wipe (s : State) (power : Bool) : State :=
  let r := State.reset
  { r with
    pending := s.pending, now := s.now, free := s.free
    regs := if power then []
      else
        let l := cellPut (resetWord F.RST_PINMAP.FIELDS.addr) F.RST_PINMAP.FIELDS.addr (s.peek F.RST_PINMAP.FIELDS.addr) (resetCells (fun _ => true) 0 s.regs)
        let f := F.PWM_STAT.HU_READY
        cellPut (resetWord f.addr) f.addr (BitVec.ofNat 32 (withField f.lsb f.width (cellGet (resetWord f.addr) f.addr l).toNat (s.getF f))) l
    sys := { r.sys with stateAt := s.sys.stateAt, l0At := s.now }
    tp := { r.tp with nor := s.tp.nor, marker := s.tp.marker, out := s.tp.out, bootCount := s.tp.bootCount }
    cal := { r.cal with record := s.cal.record }
    emt := { r.emt with chains := s.chainsOff }
    time := { r.time with age := s.time.age, monGood := if power then [] else s.time.monGood,
                          stableFrom := if power then [] else s.time.stableFrom }
    pwr := { r.pwr with
      above95 := s.pwr.above95, above46 := s.pwr.above46, below38 := s.pwr.below38, inRange := s.pwr.inRange, above50 := s.pwr.above50,
      offAt := s.pwr.offAt, onAt := if power then [] else s.pwr.onAt, bootAt := if power then s.now else s.pwr.bootAt,
      huUp := !power && s.pwr.huUp, huLate := !power && s.pwr.huLate }
    rst := { r.rst with
      active := s.rst.active, fuseA := s.rst.fuseA, fuseB := s.rst.fuseB, loading := false, nrstLow := s.rst.nrstLow,
      clkFails := if power then [] else s.rst.clkFails, relAt := s.rst.relAt, keySlots := s.rst.keySlots, nor0 := s.rst.nor0, nor1 := s.rst.nor1,
      slotFirst := s.rst.slotFirst, lockRecord := s.rst.lockRecord, scan := !power && s.rst.scan, mapped := !power && s.rst.mapped,
      expiries := if power then [] else s.rst.expiries } }

/-- To `BOOT`; a device already there makes no transition (R380). -/
def State.enterBoot (s : State) (cause : Nat) (others : List Nat) : State :=
  if s.dev = .boot then s else s.enterState .boot cause others

/-- Everything that R389 step 1 starts from, with `SYS_STATE` as it was for the transition to `BOOT`. -/
def State.wipeToBoot (s : State) (power : Bool) (cause : Nat) (others : List Nat) : State :=
  ((s.wipe power).poke 0x110 (s.peek 0x110)).enterBoot cause others

/-- Cause of a start from `OFF` (R56, R62). -/
def State.startCause (s : State) : Nat := if s.tp.marker then 0x01 else 0x02

/-- A domain is held in reset; one that had been switched off stays so (R378, R452). -/
def State.holdDomain (s : State) (level d : Nat) : State :=
  s.dropDomain d (if tabFind d s.pwr.why = some 9 then 9 else level)

/-- The domains that a level resets, AON apart (R378). -/
def levelDomains (level : Nat) : List Nat :=
  if level ≤ 1 then (List.range 35).map (· + 1) else if level = 2 then (List.range 28).map (· + 8) else []

/-- One more reset at a level: byte n of `RST_LVL_CNT`, saturating. -/
def State.countLevel (s : State) (level : Nat) : State :=
  let f : Field := ⟨F.RST_LVL_CNT.COUNT.addr, 8 * level, 8⟩
  s.bump f 1

/-- A reset takes effect at its level. After an L0 that has cancelled something, `SYS_COMMIT_STAT` and the record of it say so (R42). -/
def State.takeReset (s : State) (level : Nat) : State :=
  let had := !s.shadow.isEmpty || s.sys.armed.isSome
  let due := s.boundaryCauses
  let s := (s.countLevel level).cancelPending 0
  let s := if s.frames then s.abortFrames else s
  match level with
  | 0 =>
    let t := s.wipeToBoot false 0x03 due
    if had then (t.setF F.SYS_COMMIT_STAT.STATUS 4).emitEvent 4 0 0 0 0 0 else t
  | 1 =>
    let s := ((s.enterBoot 0x04 due).setF F.RST_PROV.ACTIVE 0).unaccept (fun _ => true)
    let s := s.mapTp (fun x => { x with rxq := [] })
    let s := (levelDomains 1).foldl (fun s d => s.holdDomain 1 d) s
    s.mapRst (fun x => { x with selfTest := none, image := none, imageDone := false })
  | 2 => (levelDomains 2).foldl (fun s d => s.holdDomain 2 d) (s.enterSafe 0x25 due)
  | _ => s.enterSafe 0x26 due

/-- The response that a software reset waits for is still withheld (R53, R382). -/
def State.awaitsResponse (s : State) (r : ResetNow) : Bool :=
  r.awaits.any (fun k => s.tp.withheld.any (fun w => w.1.session = k.1 && w.1.gen = k.2.1 && w.1.seq = k.2.2))

/-- R378, R54, R382: the reset in progress takes effect; an L0 other than power-on waits for the ledger copy and its marker, a software
reset for its response to be sent. A lock-out latched before an L0 takes effect, its record not yet written, is dropped with the rest: the
spec gives no order of the two (log entry 66). -/
def doResetEntry (t : Nat) (s : State) : State :=
  let s := s.at t
  match s.rst.active with
  | none => s
  | some r =>
    if r.entered then s
    else if r.powerOn then
      let s := s.mapRst (fun x => { x with active := some { r with entered := true } })
      if s.dev = .off then s
      else ((s.wipeToBoot true s.startCause []).setF F.RST_CAUSE.SOURCES 1).setF F.RST_CAUSE.LEVEL 0
    else if r.level = 0 && !(decide (s.uncopied = 0) && s.tp.marker) then s
    else if s.awaitsResponse r then s
    else (s.mapRst (fun x => { x with active := some { r with entered := true } })).takeReset r.level

def execResetEntry (t : Nat) (s : State) : Host.Outcome State Fault Refusal := answer (doResetEntry t s)

/-- A third failure in a row of a clock other than SMP and ANA keeps the device in reset (R388). -/
def State.clockKeeps (s : State) : Bool := s.rst.clkFails.any (fun e => decide (3 ≤ e.2) && e.1 ≠ 1 && e.1 ≠ 4)

/-- Every lease restarts at full length (R338). -/
def State.restartLeases (s : State) : State :=
  s.mapTp (fun x => { x with
    sessions := x.sessions.map (fun e => (e.1, { e.2 with leaseEnd := s.now + e.2.leaseMs * 1000000 }))
    queues := x.queues.map (fun e => (e.1, { e.2 with leaseEnd := s.now + e.2.leaseMs * 1000000 })) })

/-- R383: the EVENTS record of kind 0x01 that reports STUCK at release, whatever `BLK_IER` holds. -/
def State.reportStuck (s : State) : State :=
  let s := s.setBit (H.ISR 1) 1 true
  s.emitEvent 1 1 1 (s.getF (H.ISR 1)) (s.getF (H.ERRCAP 1)) 0

/-- Release from the reset in progress (R43, R62, R379, R383, R390). -/
def State.releaseReset (s : State) (r : ResetNow) : State :=
  let stuck := s.flag F.RST_NRST.STUCK && s.bitF F.RST_CAUSE.SOURCES 2
  let scan := s.rst.scan
  let s := s.mapRst (fun x => { x with active := none, relAt := s.now, scan := false })
  let s := if stuck then s.reportStuck else s
  let s := if scan then (s.setF F.GIO_JTAG.SEEN 1).raiseEvt 27 0 else s
  match r.level with
  | 0 => s.beginLoad
  | 1 =>
    let s := (s.applyFuses 0).setF F.RST_BOOT.STEP 2
    let s := s.restartLeases.mapRst (fun x => { x with reverify := s.saf.activeA.isSome || s.saf.activeB.isSome })
    s.advanceEpoch.updateDomains
  | 2 => (((s.clearCause 0x25).clearCause 0x26).clearCause 0x29).advanceEpoch.updateDomains
  | _ => ((s.clearCause 0x26).clearCause 0x29).drainMessages

/-- R386: the fuse shadow fails its CRC, and the reset becomes one at L0. -/
def State.escalate (s : State) (r : ResetNow) : State :=
  (s.mapRst (fun x => { x with active := some { r with level := 0, entered := false } })).setF F.RST_CAUSE.LEVEL 0

/-- R378, R383, R386, R390: release, once `NRST` is high. -/
def doResetRelease (shadow : Bool) (t : Nat) (s : State) : State :=
  let s := s.at t
  match s.rst.active with
  | none => s
  | some r =>
    if !r.entered || (r.pin && s.rst.nrstLow.isSome) || s.clockKeeps || s.dev = .off then s
    else if r.level ≠ 0 && !shadow then s.escalate r
    else s.releaseReset r

def execResetRelease (ending : ResetEnd) (s : State) : Host.Outcome State Fault Refusal :=
  answer (doResetRelease ending.shadow ending.t s)

/-! ## Sources -/

/-- R376: the AON supply rises through its power-on threshold. -/
def doPowerOn (t : Nat) (s : State) : State := (s.at t).raiseReset 0 0

def execPowerOn (t : Nat) (s : State) : Host.Outcome State Fault Refusal := answer (doPowerOn t s)

/-- R359: an internal rail stays below its undervoltage limit. -/
def doBrownOut (t : Nat) (s : State) : State := let s := s.at t; s.raiseReset 1 (s.sourceLevel 1)

def execBrownOut (t : Nat) (s : State) : Host.Outcome State Fault Refusal := answer (doBrownOut t s)

/-- R383: `NRST` is accepted low. -/
def doNrstAssert (t : Nat) (s : State) : State :=
  let s := s.at t
  if s.rst.nrstLow.isSome then s
  else
    (s.mapRst (fun x => { x with nrstLow := some s.now })).raiseReset 2 (s.sourceLevel 2)

def execNrstAssert (t : Nat) (s : State) : Host.Outcome State Fault Refusal := answer (doNrstAssert t s)

/-- `RST_NRST.HELD` shows the longest hold in whole seconds. -/
def State.showHeld (s : State) : State :=
  match s.rst.nrstLow with
  | some from_ => s.setSat F.RST_NRST.HELD (max (s.getF F.RST_NRST.HELD) ((s.now - from_) / 1000000000))
  | none => s

/-- R383: the rising edge of `NRST`. -/
def doNrstRelease (t : Nat) (s : State) : State :=
  let s := s.at t
  if s.rst.nrstLow.isNone then s
  else s.showHeld.mapRst (fun x => { x with nrstLow := none })

def execNrstRelease (t : Nat) (s : State) : Host.Outcome State Fault Refusal := answer (doNrstRelease t s)

/-- R383: `NRST` has been low for 10 s. At L0 and L1 the event waits for the release. -/
def doNrstStuck (t : Nat) (s : State) : State :=
  let s := s.at t
  if s.heldFor s.rst.nrstLow 10000000000 && s.dev ≠ .off then
    let s := s.showHeld.setF F.RST_NRST.STUCK 1
    match s.rst.active with
    | some r => if 2 ≤ r.level then s.raiseEvt 1 1 else s
    | none => s
  else s

def execNrstStuck (t : Nat) (s : State) : Host.Outcome State Fault Refusal := answer (doNrstStuck t s)

/-- R376, R352: the period of `CPU_WDT` expires; the second expiry attributed to one core within 1 h is a failure of that core. -/
def doWatchdogExpiry (wdt : WatchdogEnd) (s : State) : State :=
  let s := s.at wdt.t
  let c := wdt.core.val
  if !s.on 4 then s
  else
    let again := (tabFind c s.rst.expiries).any (fun x => decide (s.now ≤ x + 3600000000000))
    let s := s.mapRst (fun x => { x with expiries := tabSet c s.now x.expiries })
    (if again then s.failCore c else s).raiseReset 3 (s.sourceLevel 3)

def execWatchdogExpiry (wdt : WatchdogEnd) (s : State) : Host.Outcome State Fault Refusal := answer (doWatchdogExpiry wdt s)

/-- R376, R444: the debug port requests a reset. -/
def doDebugReset (scan : Bool) (t : Nat) (s : State) : State :=
  let s := s.at t
  if s.dev = .off then s else (s.mapRst (fun x => { x with scan := x.scan || scan })).raiseReset 5 (s.sourceLevel 5)

def execDebugReset (scan : Bool) (t : Nat) (s : State) : Host.Outcome State Fault Refusal := answer (doDebugReset scan t s)

/-- R376: a core halts on a fault, or a bus transaction hangs, which CPU records (R33). -/
def doLockupReset (bus : Bool) (t : Nat) (s : State) : State :=
  let s := s.at t
  if s.on 4 then (if bus then s.recErr 7 0x05 0 else s).raiseReset 7 (s.sourceLevel 7) else s

def execLockupReset (lockup : Lockup) (s : State) : Host.Outcome State Fault Refusal :=
  answer (doLockupReset lockup.bus lockup.t s)

/-- R391: 10 ms after the request was accepted, an L1 reset that no source of R376 raises. -/
def doProvisioningReset (t : Nat) (s : State) : State :=
  let s := s.at t
  match s.rst.provAt with
  | some from_ =>
    if from_ + 10000000 ≤ s.now && s.rst.active.isNone && s.dev ≠ .off then
      let s := (s.setF F.RST_CAUSE.SOURCES 0).setF F.RST_CAUSE.LEVEL 1
      s.mapRst (fun x => { x with provAt := none, relAt := s.now, active := some { level := 1, entered := false, pin := false, powerOn := false, awaits := none } })
    else s
  | none => s

def execProvisioningReset (t : Nat) (s : State) : Host.Outcome State Fault Refusal := answer (doProvisioningReset t s)

/-- R357, R389 step 1: the input has stayed above 5.0 V for 10 ms: `OFF` to `BOOT`. `NRST` held low then holds the reset. -/
def doInputStartThreshold (t : Nat) (s : State) : State :=
  let s := s.at t
  if s.dev = .off && s.heldFor s.pwr.above50 10000000 then
    let s := (s.wipeToBoot true s.startCause []).mapRst (fun x => { x with active := none })
    let s := ((s.setF F.RST_CAUSE.SOURCES 1).setF F.RST_CAUSE.LEVEL 0).beginLoad
    if s.rst.nrstLow.isSome then s.raiseReset 2 (s.sourceLevel 2) else s
  else s

def execInputStartThreshold (t : Nat) (s : State) : Host.Outcome State Fault Refusal := answer (doInputStartThreshold t s)

/-! ## Release of domains (R388, R389) -/

/-- A monitor reports stable. -/
def State.monStable (s : State) (n : Nat) : Bool := (tabFind n s.time.stableFrom).isSome

/-- The order of R389: CLK, CPU, then MEM and the safety channels, the rest once an image has been judged. -/
def State.bootTurn (s : State) (d : Nat) : Bool :=
  if d = 3 then true else if d = 4 then s.on 3 else if d = 5 ∨ d = 1 ∨ d = 2 then s.on 4 else s.rst.imageDone

/-- The three conditions of R388, in no reset; the 64 cycles have passed when the command comes. -/
def State.mayRelease (s : State) (d : Nat) : Bool :=
  decide (1 ≤ d) && s.domState d = 2 && !s.on d && s.rst.active.isNone && !s.rst.loading && s.dev ≠ .off && s.bootTurn d
    && (match domainMonitor d with
      | some n => s.monStable n && !s.rst.clkHeld.contains n
      | none => true)

/-- Every wanted domain of a list is released. -/
def State.allOn (s : State) (l : List Nat) : Bool := l.all (fun d => !s.wanted d || s.on d)

def datapathList : List Nat := (List.range 28).map (· + 8)

/-- The step of R389 reached (`RST_BOOT.STEP`), in `BOOT`. -/
def State.bootStep (s : State) : State :=
  if s.dev ≠ .boot then s
  else
    let n := if s.rst.imageDone && s.allOn [6, 7] then (if s.allOn datapathList then 9 else 8)
      else if s.rst.imageDone then 7 else if s.rst.selfTest.isSome then 6 else if s.on 4 && s.allOn [1, 2, 5] then 5
      else if s.on 4 then 4 else if s.on 3 then 3 else 2
    s.setF F.RST_BOOT.STEP (max n (s.getF F.RST_BOOT.STEP))

/-- The clock monitors as CLK shows them at its release. -/
def State.showMonitors (s : State) : State :=
  (List.range 9).foldl (fun s n =>
    if s.monStable n then
      let s := (s.setStable n true).setF (F.CLK_MON_DEV.STATE.inst n) 1
      if 1 ≤ n ∧ n ≤ 6 then s.setBit F.CLK_PLL.LOCK (n - 1) true else s
    else s) s

/-- The region sizes asked for take effect, under the limit of R331, with that of the recorder buffer (R429); one outside the range of its
field (R341, R436) is refused like a sum that is too large (log entry 66). -/
def State.takeSizes (s : State) : State :=
  let req := fun (c : Nat) => s.getF (F.LDG_REGION_REQ.SIZE.inst c)
  let total := ((List.range 8).map (fun c => req (c + 1))).sum + s.getF F.REC_SIZE.REQ
  let fits := (List.range 8).all (fun c => between 16 13824 (req (c + 1))) && between 256 2048 (s.getF F.REC_SIZE.REQ)
  if !fits || regionsMiB < total then (s.recErr 21 0x80 F.LDG_REGION_REQ.SIZE.addr).raiseEvt 21 2
  else
    ((List.range 8).foldl (fun s c => s.setF (F.LDG_REGION.SIZE.inst (c + 1)) (req (c + 1))) s).setF F.REC_SIZE.SIZE (s.getF F.REC_SIZE.REQ)

/-- R56 at a start and at the release of every other L0: the ledger is restored when the marker is there. -/
def State.restoreLedger (s : State) : State :=
  let s := if s.tp.marker then s.mapTp (fun x => { x with banks := x.nor.take 16384 })
    else s.mapTp (fun x => { x with nor := [], banks := [] })
  (s.setB F.LDG_NOR.MARKER s.tp.marker).setF F.LDG_BOOT.COUNT (s.tp.bootCount % 65536)

/-- R431: an L1 ends a capture; the sequencer and its timers start afresh. -/
def State.releaseRecorder (s : State) : State :=
  let st := s.getF F.REC_STAT.STATE
  let s := { s with rcd := { s.rcd with timers := [], expired := [], pulses := [], due := [], readout := [] } }
  if st = 0 then s else (s.setF F.REC_STAT.STATE 3).setB F.REC_STAT.RST (st = 1 || st = 2)

/-- The lock-out as the SFA page shows it. -/
def State.showLockout (s : State) : State :=
  ((s.setB F.SFA_LOCK.LATCHED s.rst.lockLatch).setF F.SFA_LOCK.CAUSE (if s.rst.lockLatch then s.rst.lockCause else 0)).setB
    F.SFA_LOCK.RECORD s.rst.lockRecord.isSome

/-- What the blocks of a domain do at its release. -/
def State.startBlocks (s : State) (d : Nat) (cold : Bool) : State :=
  match d with
  | 1 => s.showLockout
  | 3 => s.timeRelease.showMonitors
  | 4 => s.setF F.CAL_TRACE.LEVEL s.traceLevel
  | 5 => (if cold then s.restoreLedger else s.releaseRecorder).takeSizes
  | 6 => (s.mapPort 0 (fun x => { x with stageAt := s.now })).showHostSide
  | 7 => (s.mapPort 1 (fun x => { x with stageAt := s.now })).showHostSide
  | 8 => ((List.range 128).foldl State.chooseDiode s).countReserves
  | 9 => s.refOkFromTime
  | 10 =>
    let s := (List.range 4).foldl (fun (s : State) g => s.poke (F.HKA_CALF.OFS.idx g).addr (Config.factoryValue 0x171DC g)) s
    let s := (List.range 12).foldl (fun (s : State) c =>
      if s.flag (F.EXC_CH.EN.idx c) then
        (s.setF (F.EXC_STAT.SETTLE.idx c) (s.getF F.DFL_SETTLE.COUNT)).setBit (F.EXC_STAT.FLAGS.idx c) 0 true
      else s) s
    let s := s.setF F.HKA_CAL.GO 1
    { s with
      hka := { s.hka with calFrom := some s.now, timerFrom := s.now }
      exc := { s.exc with relAt := s.now, settleFrom := (List.range 12).map (fun c => (c, s.now)) } }
  | _ =>
    if d < 12 then s
    else if d < 20 then s.releaseEngine (d - 12)
    else { s with free := s.free + 1, rxc := { s.rxc with locks := tabSet (d - 20) (s.now + s.freeNat % 3001) s.rxc.locks } }

/-- Pages of a domain whose active SH values differ from those of an earlier state (R31, R43). -/
def State.pagesMoved (s old : State) (d : Nat) : List Nat :=
  (domainPages d).filter (fun p => old.regs.any (fun e =>
    pageOf (e.1 % 0x1000000) = some p
      && (shFields e.1).any (fun f => fieldOf f.lsb f.width (s.peek e.1).toNat != fieldOf f.lsb f.width e.2.toNat)))

/-- A domain is released: reset values, fused values, the retirement record, and its blocks start (R354, R386, R388, R452). -/
def State.releaseDomain (s : State) (d : Nat) (copyA copyB : Bool) : State :=
  let old := s
  let why := tabFind d s.pwr.why
  let cold := why = none ∨ why = some 0
  let s := match why with
    | some w => s.resetPages d w
    | none => s
  let s := s.mapPwr (fun x => { x with released := x.released ++ [d], why := tabDel d x.why })
  let s := match domainMonitor d with
    | some n => (s.mapRst (fun x => { x with clkFails := tabDel n x.clkFails })).setBit F.RST_GATE.WAIT n false
    | none => s
  let s := (s.applyFuses d).applyRecord d copyA copyB
  let s := if d = 4 && decide cold then s.applyRecord 0 copyA copyB else s
  let s := s.startBlocks d (decide cold)
  let s := (s.pagesMoved old d).foldl (fun s p => s.raiseEvt p 30) s
  (if why = some 9 then s.advanceEpoch else s).bootStep

/-- R388: a domain is `ON`, its clock stable, and 64 of its cycles have passed. -/
def doDomainRelease (dom : Fin 36) (copyA copyB : Bool) (t : Nat) (s : State) : State :=
  let s := s.at t
  if s.mayRelease dom.val then s.releaseDomain dom.val copyA copyB else s

def execDomainRelease (dom : Fin 36) (copyA copyB : Bool) (t : Nat) (s : State) : Host.Outcome State Fault Refusal :=
  answer (doDomainRelease dom copyA copyB t s)

/-- R388: a monitor is neither stable nor failed 20 ms after the domain became `ON`, or after the release from a reset. -/
def doReleaseClockTimeout (dom : Fin 36) (t : Nat) (s : State) : State :=
  let s := s.at t
  let d := dom.val
  let from_ := max s.rst.relAt ((tabFind d s.pwr.onAt).getD 0)
  match domainMonitor d with
  | some n =>
    if s.domainWaits d n && s.rst.active.isNone && !s.rst.loading && s.dev ≠ .off && !s.monStable n && !s.rst.clkHeld.contains n
        && decide (from_ + 20000000 ≤ s.now) then
      ((s.setBit F.RST_GATE.WAIT n true).raiseEvt 1 3).monitorFailed n
    else s
  | none => s

def execReleaseClockTimeout (dom : Fin 36) (t : Nat) (s : State) : Host.Outcome State Fault Refusal :=
  answer (doReleaseClockTimeout dom t s)

/-- R388: domains held on SMP or ANA are tried again when the monitor has been stable for 1 s; any other clock, every 1 s, with the check of
the fuse shadow that each release has (R386). -/
def doReleaseRetry (retry : Retry) (t : Nat) (s : State) : State :=
  let s := s.at t
  let n := retry.mon.val
  if s.rst.clkHeld.contains n then
    if s.stableLong n then
      (s.mapRst (fun x => { x with clkHeld := x.clkHeld.filter (· ≠ n), clkFails := tabDel n x.clkFails })).bump F.RST_GATE.CLKFAIL 1
    else s
  else
    match s.rst.active with
    | some r =>
      if r.entered && s.dev ≠ .off && decide (3 ≤ countAt n s.rst.clkFails) && decide (s.rst.relAt + 1000000000 ≤ s.now)
          && !(r.pin && s.rst.nrstLow.isSome) then
        let s := s.bump F.RST_GATE.CLKFAIL 1
        if r.level ≠ 0 && !retry.shadow then s.escalate r else s.releaseReset r
      else s
    | none => s

def execReleaseRetry (retry : Retry) (t : Nat) (s : State) : Host.Outcome State Fault Refusal := answer (doReleaseRetry retry t s)

/-! ## Boot (R75, R379, R389, R390) -/

/-- In `BOOT`, past the fuse load, in no reset. -/
def State.booting (s : State) : Bool := s.dev = .boot && s.rst.active.isNone && !s.rst.loading

/-- R379: both channels pass, and the image stays active as newly activated; or neither holds one. -/
def doSafetyImageReverify (passA passB : Bool) (t : Nat) (s : State) : State :=
  let s := s.at t
  if !s.rst.reverify || !s.on 1 || !s.on 2 then s
  else
    let s := s.mapRst (fun x => { x with reverify := false })
    match passA && passB, s.saf.activeA, s.saf.activeB with
    | true, some i, some j => s.newlyActive i j
    | _, _, _ =>
      let s := State.showNoImage { s with saf := { s.saf with activeA := none, activeB := none } }
      if s.on 8 then s.workingCeilings none else s

def execSafetyImageReverify (passA passB : Bool) (t : Nat) (s : State) : Host.Outcome State Fault Refusal :=
  answer (doSafetyImageReverify passA passB t s)

/-- R389 step 6: the self-test has ended. -/
def doSelfTestComplete (pass : Bool) (t : Nat) (s : State) : State :=
  let s := s.at t
  if s.booting && s.rst.selfTest.isNone && s.on 4 && s.allOn [1, 2, 5] then (s.mapRst (fun x => { x with selfTest := some pass })).bootStep
  else s

def execSelfTestComplete (pass : Bool) (t : Nat) (s : State) : Host.Outcome State Fault Refusal := answer (doSelfTestComplete pass t s)

/-- The fused hash of image key `k` (R384); Kyogivin programs it before delivery (log entry 2). -/
def State.imageKey (s : State) (k : Nat) : List Byte :=
  if (tabFind (2 + k) s.rst.rows).isSome || s.rst.badRows.contains (2 + k) then s.fuseBytes (2 + k) 0 32 else Config.imageKeyHash k

/-- A byte of a NOR image slot: as IMAGE_WRITE wrote it, else as delivered. -/
def State.norByte (s : State) (slot addr : Nat) : Byte :=
  (tabFind addr (if slot = 0 then s.rst.nor0 else s.rst.nor1)).getD (Config.factoryImage slot addr)

def State.norBytes (s : State) (slot off n : Nat) : List Byte := (List.range n).map (fun k => s.norByte slot (off + k))

/-- The header of a slot's image (R74). -/
def State.imageHead (s : State) (slot : Nat) : Config.ImageHeader := Config.imageHeader (s.norByte slot)

/-- The key of a header is programmed and not revoked (R384). -/
def State.imageKeyGood (s : State) (k : Nat) : Bool := decide (k < 4) && (s.imageKey k).any (· ≠ 0) && (tabFind (8 + k) s.rst.rows).isNone

/-- The signature over SHA-256 of header and body verifies (R74). -/
def State.imageSigned (s : State) (slot : Nat) (h : Config.ImageHeader) : Bool :=
  Config.ecdsaVerifies (s.imageKey h.key) (s.norBytes slot 0 h.covered ++ s.norBytes slot h.body h.length) h.signature

/-- The first check of R75 that fails, as `CPU_IMG` codes it; 1 when none does. -/
def State.judgeImage (s : State) (slot : Nat) (formed : Bool) : Nat :=
  let h := s.imageHead slot
  if !formed then 6 else if !s.imageKeyGood h.key then 3 else if !s.imageSigned slot h then 2 else if h.rollback < s.rollback then 4
  else if sha256 (s.norBytes slot h.body h.length) ≠ h.digest then 5 else 1

/-- The slot that boot ROM tries first (R75, R312). -/
def State.bootSlot (s : State) : Nat := s.rst.slotFirst.getD (if (s.imageHead 0).version < (s.imageHead 1).version then 1 else 0)

/-- R75, R74: the slots are tried, SLOT_SELECT's or the higher version first, slot 0 where the versions are equal (log entry 66); the first
accepted is booted. -/
def doImageVerify (formed0 formed1 : Bool) (t : Nat) (s : State) : State :=
  let s := s.at t
  if !s.booting || s.rst.selfTest.isNone || s.rst.imageDone then s
  else
    let judge := fun (k : Nat) => s.judgeImage k (if k = 0 then formed0 else formed1)
    let tried := if judge s.bootSlot = 1 then [s.bootSlot] else [s.bootSlot, 1 - s.bootSlot]
    let found := tried.find? (fun k => judge k = 1)
    let s := tried.foldl (fun s k => s.setF (if k = 0 then F.CPU_IMG.SLOT0 else F.CPU_IMG.SLOT1) (judge k)) s
    let s := s.mapRst (fun x => { x with imageDone := true, image := found, slotFirst := none })
    let s := match found with
      | some k => (s.setF F.CPU_IMG.BOOTED k).poke 0x10C (BitVec.ofNat 32 (k * 2 ^ 31 + (s.imageHead k).version % 2 ^ 31))
      | none => s
    s.bootStep

def execImageVerify (formed0 formed1 : Bool) (t : Nat) (s : State) : Host.Outcome State Fault Refusal :=
  answer (doImageVerify formed0 formed1 t s)

/-- `PROVISION` with its cause. -/
def State.enterProvision (s : State) (cause : Nat) (others : List Nat) : State :=
  (((s.setF F.RST_PROV.REQ 0).setF F.RST_PROV.ACTIVE 1).setF F.RST_PROV.CAUSE cause).enterState .provision cause others

/-- The lock-out of an earlier boot (R69). -/
def State.lockoutAtBoot (s : State) (others : List Nat) : State :=
  (((s.mapRst (fun x => { x with lockLatch := true, lockCause := 0x53 })).showLockout).enterState .lockout 0x53 others).recPulse 9 s.taiNs

/-- Causes that stand at the end of boot, in the order of R390: the first decides, the others are not acted on (R62). -/
def State.bootCauses (s : State) : List Nat :=
  (if s.rst.badRows.isEmpty then [] else [0x60]) ++ (if s.flag F.RST_PROV.REQ then [0x61] else [])
    ++ (if s.rst.selfTest = some true then [] else [0x20]) ++ (if s.rst.image.isSome then [] else [0x21])
    ++ (if s.gradeS && (s.rst.lockRecord.isSome || s.rst.lockLatch) then [0x53] else []) ++ (if s.rst.clkHeld.isEmpty then [] else [0x22])

/-- The destination of R390; a clock that holds its domains gives `SAFE` in place of `STANDBY` (R388). -/
def State.leaveBoot (s : State) : State :=
  match s.bootCauses with
  | [] => s.enterState .standby 0x10 []
  | c :: l => if c = 0x60 || c = 0x61 then s.enterProvision c l else if c = 0x53 then s.lockoutAtBoot l else s.enterSafe c l

/-- R389 step 10: every domain that is to be on is released, but for those held for their clock, and HKA is calibrated. -/
def doBootComplete (t : Nat) (s : State) : State :=
  let s := s.at t
  let heldBack := fun (d : Nat) => match domainMonitor d with
    | some n => s.rst.clkHeld.contains n
    | none => false
  let ready := (List.range 36).all (fun d => !s.wanted d || s.on d || heldBack d)
  if s.booting && s.rst.imageDone && ready && s.hka.calFrom.isNone then
    ((s.setF F.RST_BOOT.STEP 10).setSat F.RST_BOOT.MS ((s.now - s.rst.relAt) / 1000000)).leaveBoot
  else s

def execBootComplete (t : Nat) (s : State) : Host.Outcome State Fault Refusal := answer (doBootComplete t s)

end Sys2Proof.Machine
end

