-- ==== Sys2Proof/Machine/Hka.lean ====
section
/-! DEFINITION. The housekeeping converter (chapter 18): triggers, conversions, windows, results, its stream and its calibration.
An ANA cycle is 12.5 ns. -/

namespace Sys2Proof.Machine

/-- Fields of an entry (R408). -/
def entPos (e : Nat) : Nat := fieldOf 0 5 e
def entDiff (e : Nat) : Bool := e.testBit 5
def entGain (e : Nat) : Nat := fieldOf 6 2 e
def entMonitor (e : Nat) : Bool := e.testBit 11
def entAlign (e : Nat) : Bool := e.testBit 12
def entStream (e : Nat) : Bool := e.testBit 13

/-! ## Triggers (R400, R401) -/

/-- A sequence begins `delay` ns from now; one that runs, or a calibration, makes the trigger a missed one (R401). -/
def State.hkaStart (s : State) (delay : Nat) : State :=
  if !s.on 10 then s
  else if s.hka.runs.any (fun r => r.samples s.now) || s.hka.calFrom.isSome then (s.bump F.HKA_STAT.MISSED 1).raiseEvt 23 3
  else
    let n := s.getF F.HKA_CTL.LEN
    let r : HkaRun := {
      ents := (List.range n).map (fun k => (s.peek (F.HKA_ENT.POS.idx k).addr).toNat)
      wins := (List.range n).map (fun k => (s.peek (F.HKA_WIN.LO.idx k).addr).toNat)
      dest := s.flag F.HKA_CTL.DEST, stream := s.flag F.HKA_CTL.STREAM, next := 0, ins := [], start := s.now + delay, tai := s.taiNs + delay }
    s.mapHka (fun h => { h with runs := h.runs ++ [r] })

/-- Begin within `lo` to `hi` ns of the event; where in it is open (log entry 7). -/
def State.hkaStartIn (s : State) (lo hi : Nat) : State := s.tick.hkaStart (lo + s.freeNat % (hi - lo + 1))

/-- R400: SWTRIG as the device's firmware sets it, or the start of a facet transition gap. -/
def doHkaTrigger (software : Bool) (t : Nat) (s : State) : State :=
  let s := s.at t
  if software then s.hkaStart 0
  else if s.getF F.HKA_CTL.TRIG = 6 && s.frames then s.hkaStartIn 0 37 else s

def execHkaTrigger (software : Bool) (t : Nat) (s : State) : Host.Outcome State Fault Refusal := answer (doHkaTrigger software t s)

/-- A frame boundary triggers under TRIG 0b100. -/
def State.hkaBoundary (s : State) : State := if s.on 10 && s.getF F.HKA_CTL.TRIG = 4 then s.hkaStartIn 0 37 else s

/-- R400: PERIOD ANA cycles have passed. -/
def doHkaTimerExpiry (t : Nat) (s : State) : State :=
  let s := s.at t
  if s.on 10 && s.getF F.HKA_CTL.TRIG = 5 && decide (2 * s.hka.timerFrom + 25 * s.getF F.HKA_TIMER.PERIOD ≤ 2 * s.now + 1) then
    (s.mapHka (fun h => { h with timerFrom := s.now })).hkaStart 0
  else s

def execHkaTimerExpiry (t : Nat) (s : State) : Host.Outcome State Fault Refusal := answer (doHkaTimerExpiry t s)

/-- R400: an edge of `HKA_TRG`; sampling begins 25 ns to 37.5 ns after it. -/
def doHkaTrgEdge (rising : Bool) (t : Nat) (s : State) : State :=
  let s := s.at t
  let k := s.getF F.HKA_CTL.TRIG
  let s := s.setB F.GIO_IN.HKA_TRG rising
  if s.on 10 && (k = 3 || (k = 1 && rising) || (k = 2 && !rising)) then s.hkaStartIn 25 37 else s

def execHkaTrgEdge (rising : Bool) (t : Nat) (s : State) : Host.Outcome State Fault Refusal := answer (doHkaTrgEdge rising t s)

/-! ## Results (R398, R399, R403, R404) -/

/-- The corrected code. -/
def State.hkaCode (s : State) (e raw : Nat) : Int :=
  let ofs := s.getI (F.HKA_CALF.OFS.idx (entGain e))
  let g : Int := s.getF (F.HKA_CALF.GAINF.idx (entGain e))
  if entDiff e then clampInt (-8192) 8191 ((((raw : Int) - 8192 - ofs) * g + 8192) / 16384)
  else clampInt 0 16383 ((((raw : Int) - ofs) * g + 8192) / 16384)

/-- VALUE in its form. -/
def hkaValue (e : Nat) (code : Int) : Nat := unsigned 16 (if entAlign e && !entMonitor e then code * 4 else code)

/-- The code lies in the window. -/
def inWindow (e w : Nat) (code : Int) : Bool :=
  let lo : Int := if entDiff e then signed 16 (fieldOf 0 16 w) else (fieldOf 0 16 w : Nat)
  let hi : Int := if entDiff e then signed 16 (fieldOf 16 16 w) else (fieldOf 16 16 w : Nat)
  decide (lo ≤ code) && decide (code ≤ hi)

/-- R403 for a monitor result of entry `n`; input 11 of the sequencer is an entry that leaves its band (R432). -/
def State.judgeWindow (s : State) (n e w : Nat) (code : Int) : State :=
  let out := F.HKA_RES.OUT.idx n
  if inWindow e w code then
    if !s.flag out then s
    else
      let k := countAt n s.hka.inside + 1
      if k < 4 then s.mapHka (fun h => { h with inside := tabSet n k h.inside })
      else ((s.mapHka (fun h => { h with inside := tabDel n h.inside })).setF out 0).setBit F.HKA_STAT.OUTMAP n false
  else
    let s := s.mapHka (fun h => { h with inside := tabDel n h.inside })
    if s.flag out then s
    else (((s.setF out 1).setBit F.HKA_STAT.OUTMAP n true).raiseEvt 23 0).recPulse 11 s.taiNs

/-- A result goes to a register with VALID and OVR (R404). -/
def State.putResult (s : State) (valid ovr value : Field) (v : Nat) : State :=
  let had := s.flag valid
  let s := ((s.setF value v).setF valid 1).setB ovr (had || s.flag ovr)
  if had then (s.bump F.HKA_OVR.COUNT 1).raiseEvt 23 2 else s

/-- To the entry's register, or for a data result under DEST to `HKA_DATA` with its index. -/
def State.deliver (s : State) (n e : Nat) (dest : Bool) (v : Nat) : State :=
  if dest && !entMonitor e then (s.putResult F.HKA_DATA.VALID F.HKA_DATA.OVR F.HKA_DATA.VALUE v).setF F.HKA_DATA.ENTRY n
  else s.putResult (F.HKA_RES.VALID.idx n) (F.HKA_RES.OVR.idx n) (F.HKA_RES.VALUE.idx n) v

/-! ## The stream (R405) -/

/-- The open record is committed. -/
def State.hkaClose (s : State) : State :=
  match s.hka.open_ with
  | none => s
  | some r =>
    let s := s.mapHka (fun h => { h with open_ := none })
    s.commitRecord 8 9 (hkHeader 1 r.results.length r.frame r.epoch r.tai ++ r.results.flatten)

/-- A result joins the record, which closes with the 64th. `at2` and `seq2`: starts of this result's sampling and of its sequence's,
in half ns; `tai`: the latter's TAI. -/
def State.hkaRecord (s : State) (n v flags : Nat) (at2 : Int) (seqStart tai : Nat) : State :=
  let r := s.hka.open_.getD { start := seqStart, tai := tai, first := s.now, frame := s.frameNo, epoch := s.epoch, results := [] }
  let toff := (at2 - 2 * (r.start : Int)) / 25
  let b := leBytes 2 v ++ leBytes 1 (n + flags) ++ [0] ++ leBytes 4 (unsigned 32 toff)
  let s := s.mapHka (fun h => { h with open_ := some { r with results := r.results ++ [b] } })
  if 64 ≤ r.results.length + 1 then s.hkaClose else s

/-- A conversion of entry `n` has its result. -/
def State.hkaFinish (s : State) (n e w raw : Nat) (dest stream galvo first : Bool) (at2 : Int) (seqStart tai : Nat) : State :=
  let code := s.hkaCode e raw
  let s := s.mapHka (fun h => { h with codes := tabSet n code h.codes })
  let s := if entMonitor e then s.judgeWindow n e w code else s
  let v := hkaValue e code
  let s := s.deliver n e dest v
  let flags := (if galvo then 16 else 0) + (if s.flag (F.HKA_RES.OUT.idx n) && entMonitor e then 32 else 0) + (if first then 64 else 0)
  if stream && (!entMonitor e || entStream e) then s.hkaRecord n v flags at2 seqStart tai else s

/-- The next entry of the oldest sequence. -/
def State.hkaNext (s : State) (raw : Nat) : State :=
  match s.hka.runs with
  | [] => s
  | r :: l =>
    let e := nth 0 r.ents r.next
    if 2 * s.now + 1 < r.sampledAt r.next + 275 then s
    else
      let last := decide (r.ents.length ≤ r.next + 1)
      let r' := { r with next := r.next + 1 }
      let s := s.mapHka (fun h => { h with runs := if last then l else r' :: l })
      let s := s.hkaFinish r.next e (nth 0 r.wins r.next) raw r.dest r.stream false (r.next = 0) (2 * r.start + 25 * r.before r.next : Nat) r.start r.tai
      if last then (s.bump F.HKA_SEQ.COUNT 1).raiseEvt 23 1 else s

/-- The oldest galvo conversion has its result (R402). -/
def State.hkaGalvo (s : State) (raw : Nat) : State :=
  match s.hka.galvo with
  | [] => s
  | g :: l =>
    if 2 * s.now + 1 < g.at2 + 25 * (entCycles g.ent + 11) then s
    else
      let s := s.mapHka (fun h => { h with galvo := l })
      (s.hkaFinish g.entry g.ent g.win raw g.dest g.stream true false g.at2 g.start g.tai).judgeIlk

/-- R397 to R405: a result stands. -/
def doHkaConversion (galvo : Bool) (raw t : Nat) (s : State) : State :=
  let s := s.at t
  if !s.on 10 || 16383 < raw then s
  else if galvo then s.hkaGalvo raw
  else s.hkaNext raw

def execHkaConversion (galvo : Bool) (raw t : Nat) (s : State) : Host.Outcome State Fault Refusal := answer (doHkaConversion galvo raw t s)

/-- R405: 100 µs have passed since the record's first result. -/
def doHkaRecordClose (t : Nat) (s : State) : State :=
  let s := s.at t
  match s.hka.open_ with
  | some r => if r.first + 100000 ≤ s.now then s.hkaClose else s
  | none => s

def execHkaRecordClose (t : Nat) (s : State) : Host.Outcome State Fault Refusal := answer (doHkaRecordClose t s)

/-! ## Calibration (R407) -/

/-- Every OFS and GAINF within its limits. -/
def calGood (l : List (Int × Nat)) : Bool :=
  l.all (fun e => decide (e.1.natAbs ≤ 256) && decide (14746 ≤ e.2) && decide (e.2 ≤ 18022))

/-- R407: 1.2 ms have passed; good factors replace the previous ones. -/
def doHkaCalibrationComplete (factors : List (Int × Nat)) (t : Nat) (s : State) : State :=
  let s := s.at t
  match s.hka.calFrom with
  | some from_ =>
    if !s.on 10 || decide (s.now < from_ + 1200000) || factors.length ≠ 4 then s
    else
      let s := (s.mapHka (fun h => { h with calFrom := none })).setF F.HKA_CAL.GO 0
      if calGood factors then
        let s := (List.range 4).foldl (fun (s : State) g =>
          let e := nth (0, 0) factors g
          (s.setI (F.HKA_CALF.OFS.idx g) e.1).setF (F.HKA_CALF.GAINF.idx g) e.2) s
        ((s.setF F.HKA_CAL.DONE 1).setF F.HKA_CAL.FAIL 0).raiseEvt 23 4
      else ((s.setF F.HKA_CAL.FAIL 1).raiseEvt 23 5).recErr 23 0x81 0
  | none => s

def execHkaCalibrationComplete (factors : List (Int × Nat)) (t : Nat) (s : State) : Host.Outcome State Fault Refusal :=
  answer (doHkaCalibrationComplete factors t s)

end Sys2Proof.Machine
end

