-- ==== Sys2Proof/Machine/Mount.lean ====
section
/-! DEFINITION. Mount sensing (chapter 19): output sets of the digital filter, settling, faults of the excitation channels,
linearisation, calibration steps and deflection triples. -/

namespace Sys2Proof.Machine

def State.mapExc (s : State) (f : ExcState → ExcState) : State := { s with exc := f s.exc }

/-! ## The active set (R411 to R415) -/

/-- CIC decimation D₁ of a preset. -/
def presetD1 (p : Nat) : Nat := nth 640 [8, 32, 128, 640] p

/-- NTAPS of a source: the factory sets have 384 taps; a bank names its own. -/
def State.setTaps (s : State) (src bank : Nat) : Nat :=
  if src = 0 then 384 else fieldOf 0 9 (s.ramAt (0x800000 + bank * 0x1000)).toNat

/-- Coefficient k of a set, in 2⁻³⁰ (R411, R413): of the factory set of the preset, or of a bank. -/
def State.setTap (s : State) (src bank preset k : Nat) : Int :=
  if src = 0 then Config.factoryTap preset k else (s.ramAt (0x800000 + bank * 0x1000 + 16 + 4 * k)).toInt

/-- GD in 1/32 ns (R412). -/
def groupDelay (d1 taps : Nat) : Nat := (4 * (d1 - 1) + (taps - 1) * d1) * 15625

/-- SETTLE (R411). -/
def settleCount (taps : Nat) : Nat := (taps + 34) / 32 + 1

/-- SRC, BANK and PRESET in force; without a bank in use its number counts nothing. -/
def State.dflConfig (s : State) : Nat × Nat × Nat :=
  let src := s.getF F.DFL_CTL.SRC
  (src, if src = 0 then 0 else s.getF F.DFL_CTL.BANK, s.getF F.DFL_CTL.PRESET)

/-! ## From the lands to the raw value (R409 to R411) -/

/-- The signed input of channel `c` as a fraction of FS, in 2⁻²³ FS, rounded down (R409, R410; log entry 83): of a bridge the sense difference
against the excitation at the lands, of an RTD the voltage at the sense lands (4-wire) or the excitation lands. A bridge without excitation
has no stated ratio (log entry 7). -/
def State.landRaw (s : State) (c : Nat) (x : LandSample) : Int :=
  let g : Int := 2 ^ s.getF (F.EXC_CH.GAIN.idx c)
  if c < 8 then (if x.lands = 0 then signed 24 s.freeNat else x.sense * g * 2 ^ 24 / x.lands)
  else (if s.flag (F.EXC_CH.WIRES.idx c) then x.sense else x.lands) * g * 2 ^ 23 / 1250000000

/-- The comparator of R410 trips: the magnitude exceeds 1.25 FS. -/
def overRange (raw : Int) : Bool := decide (10485760 < raw.natAbs)

/-- Running sums: each integrator adds the one before it. -/
def integrate (x : Int) : List Int → List Int
  | [] => []
  | i :: l => (i + x) :: integrate (i + x) l

/-- The combs: each takes off what it held and keeps what it is given; the output and the new contents. -/
def comb (y : Int) : List Int → Int × List Int
  | [] => (y, [])
  | d :: l => let (z, k) := comb (y - d) l; (z, y :: k)

/-- One modulator sample through the fourth-order CIC decimator by `d1`; an output is one more input of the FIR (R411). -/
def Decimator.feed (d1 : Nat) (f : Decimator) (x : Int) : Decimator :=
  let ints := integrate x f.ints
  if f.phase + 1 < d1 then { f with phase := f.phase + 1, ints := ints }
  else
    let (y, combs) := comb (nth 0 ints 3) f.combs
    { phase := 0, ints := ints, combs := combs, fir := (y * ((640 / d1) ^ 4 : Nat) :: f.fir).take 384 }

/-- The FIR's output with the set in force (R411, R415). -/
def State.firOut (s : State) (f : Decimator) : Rat :=
  let (src, bank, preset) := s.exc.used
  let sum := ((List.range (s.setTaps src bank)).map (fun k => s.setTap src bank preset k * nth 0 f.fir k)).sum
  (sum : Rat) / ((2 ^ 30 * 640 ^ 4 : Nat) : Rat)

def State.filterOf (s : State) (c : Nat) : Decimator := (tabFind c s.exc.filters).getD Decimator.reset

/-- The samples of one channel since the last output set run through its decimators. -/
def State.feedChannel (s : State) (c : Nat) (xs : List LandSample) : State :=
  let f := (xs.map (s.landRaw c)).foldl (Decimator.feed (presetD1 s.exc.used.2.2)) (s.filterOf c)
  s.mapExc (fun x => { x with filters := tabSet c f x.filters })

/-! ## Settling (R416) -/

def chEn (c : Nat) : Field := F.EXC_CH.EN.idx c
def chFlags (c : Nat) : Field := F.EXC_STAT.FLAGS.idx c
/-- Flags of `EXC_STATn`, as bit numbers: UNSETTLED, OVR, EXOPEN, OPEN, SHORT, NOLIN, TOLD. -/
def State.chFlag (s : State) (c k : Nat) : Bool := s.bitF (chFlags c) k
def State.setChFlag (s : State) (c k : Nat) (b : Bool) : State := s.setBit (chFlags c) k b

/-- A channel's results are unsettled; its count starts with the first set that begins at `from_` or after, and not before an earlier event
lets it. -/
def State.unsettle (s : State) (c from_ : Nat) : State :=
  ((s.setF (F.EXC_STAT.SETTLE.idx c) (s.getF F.DFL_SETTLE.COUNT)).setChFlag c 0 true).mapExc (fun x => { x with settleFrom := tabSet c (max from_ (countAt c x.settleFrom)) x.settleFrom })

/-- What a commit changed on the channels: enabling counts from it, excitation and gain from 200 µs after it. -/
def State.excCommit (s old : State) : State :=
  (List.range 12).foldl (fun s c =>
    let moved := fun (f : Field) => s.getF (f.idx c) ≠ old.getF (f.idx c)
    if !s.flag (chEn c) then s
    else if moved F.EXC_CH.LEVEL ∨ moved F.EXC_CH.GAIN then s.unsettle c (s.now + 200000)
    else if moved F.EXC_CH.EN then s.unsettle c s.now else s) s

/-- A commit that changes SRC, BANK or PRESET takes effect at this set; PRESET restarts every CIC decimator (R415). -/
def State.dflUpdate (s : State) : State :=
  let (src, bank, preset) := s.dflConfig
  let (src0, bank0, preset0) := s.exc.used
  if (src, bank, preset) = (src0, bank0, preset0) then s
  else
    let taps := s.setTaps src bank
    let s := s.mapExc (fun x => { x with used := (src, bank, preset) })
    let s := ((s.setF F.DFL_BANK_STAT.NTAPS taps).setF F.DFL_DELAY.NS ((groupDelay (presetD1 preset) taps + 16) / 32)).setF F.DFL_SETTLE.COUNT (settleCount taps)
    let s := if (src, bank) = (src0, bank0) then s else s.raiseEvt 25 0
    if preset = preset0 then s
    else
      let s := s.mapExc (fun x => { x with filters := x.filters.map (fun e => (e.1, { Decimator.reset with fir := e.2.fir })) })
      (List.range 12).foldl (fun s c => if s.flag (chEn c) then s.unsettle c s.now else s) (s.raiseEvt 25 1)

/-! ## Faults (R417, R418) -/

/-- OVR clears after SETTLE periods in range with no OPEN; whether it was transient is for the next check to say. -/
def State.clearOvr (s : State) (c : Nat) : State :=
  if s.chFlag c 1 && !s.chFlag c 3 && decide (s.getF F.DFL_SETTLE.COUNT ≤ countAt c s.exc.calm) then
    (s.setChFlag c 1 false).raiseEvt 24 4
  else s

/-- The over-range comparator of an enabled channel trips (R418). -/
def State.tripOvr (s : State) (c : Nat) : State :=
  let s := s.mapExc (fun x => { x with calm := tabDel c x.calm, tripped := c :: x.tripped.filter (· ≠ c), tripAt := tabSet c s.now x.tripAt })
  if s.chFlag c 1 then s
  else ((s.setChFlag c 1 true).mapExc (fun x => { x with ovrAt := tabSet c s.now x.ovrAt, ovrNew := c :: x.ovrNew.filter (· ≠ c) })).raiseEvt 24 0

/-- R418: the over-range comparator trips. -/
def doOverRange (ch : Fin 12) (t : Nat) (s : State) : State :=
  let s := s.at t
  if !s.on 10 || !s.flag (chEn ch.val) then s else s.tripOvr ch.val

def execOverRange (ch : Fin 12) (t : Nat) (s : State) : Host.Outcome State Fault Refusal := answer (doOverRange ch t s)

/-- R418: excitation out of regulation for 2 µs. -/
def doExcitationOpen (ch : Fin 12) (t : Nat) (s : State) : State :=
  let s := s.at t
  let c := ch.val
  if !s.on 10 || !s.flag (chEn c) then s
  else
    let s := s.mapExc (fun x => { x with okChecks := tabDel c x.okChecks })
    if s.chFlag c 2 then s else (s.setChFlag c 2 true).raiseEvt 24 1

def execExcitationOpen (ch : Fin 12) (t : Nat) (s : State) : Host.Outcome State Fault Refusal := answer (doExcitationOpen ch t s)

/-- A field of entry `c` of the linearisation window (R420). -/
def linF (c off lsb width : Nat) : Field := ⟨0x900000 + c * 256 + off, lsb, width⟩

/-- A second check in window clears EXOPEN, OPEN and SHORT; settling then restarts (R416, R418). -/
def State.clearFaults (s : State) (c : Nat) : State :=
  if s.chFlag c 2 || s.chFlag c 3 || s.chFlag c 4 then
    ((((((s.setChFlag c 2 false).setChFlag c 3 false).setChFlag c 4 false).raiseEvt 24 4).unsettle c s.now)).clearOvr c
  else s

/-- A completed check of a magnitude against the channel's window. -/
def State.judgeCheck (s : State) (c mag : Nat) : State :=
  let lo := s.getF (linF c 52 0 16)
  let hi := s.getF (linF c 52 16 16)
  if hi = 0 then s
  else if hi < mag then
    let s := s.mapExc (fun x => { x with okChecks := tabDel c x.okChecks, lowChecks := tabDel c x.lowChecks, ovrNew := x.ovrNew.filter (· ≠ c) })
    if s.chFlag c 3 then s else ((s.setChFlag c 3 true).bump F.EXC_CNT.HIGH 1).raiseEvt 24 2
  else if mag < lo then
    let n := countAt c s.exc.lowChecks + 1
    let s := s.mapExc (fun x => { x with okChecks := tabDel c x.okChecks, lowChecks := tabSet c n x.lowChecks, ovrNew := x.ovrNew.filter (· ≠ c) })
    if n < 2 || s.chFlag c 4 then s else ((s.setChFlag c 4 true).bump F.EXC_CNT.HIGH 1).raiseEvt 24 3
  else
    let n := countAt c s.exc.okChecks + 1
    let transient := s.exc.ovrNew.contains c && !s.exc.tripped.contains c
    let s := s.mapExc (fun x => { x with okChecks := tabSet c n x.okChecks, lowChecks := tabDel c x.lowChecks, ovrNew := x.ovrNew.filter (· ≠ c) })
    let s := if transient then (s.bump F.EXC_CNT.LOW 1).raiseEvt 24 5 else s
    if 2 ≤ n then s.clearFaults c else s

/-- When the tone burst of the present 100 ms from the release of ANA began (R417). -/
def State.burstStart (s : State) : Nat := s.exc.relAt + (s.now - s.exc.relAt) / 100000000 * 100000000

/-- The result of the burst is due: it ends after 4.096 ms and is reported within 100 µs (R417). -/
def State.checkDue (s : State) : Bool := decide (s.burstStart + 4096000 ≤ s.now) && decide (s.now ≤ s.burstStart + 4196000)

/-- An instant of a channel falls within the present check. -/
def State.duringCheck (s : State) (c : Nat) (l : List (Nat × Nat)) : Bool :=
  (tabFind c l).any (fun a => decide (s.burstStart ≤ a) && decide (a ≤ s.burstStart + 4096000))

/-- R417: a tone burst has ended: a channel over range during the check reads 0xFFFF, and a check in whose time OVR was set is discarded. What the
detector makes of the burst is what the command brings (log entry 84). -/
def doImpedanceCheck (ch : Fin 12) (mag : Nat) (phase : Int) (t : Nat) (s : State) : State :=
  let s := s.at t
  let c := ch.val
  if !s.on 10 || !s.flag (chEn c) || !s.flag (F.EXC_CH.CHK.idx c) || !s.checkDue then s
  else
    let s := s.emit (.tone c s.burstStart)
    if s.duringCheck c s.exc.ovrAt then s
    else
    let mag := if s.duringCheck c s.exc.tripAt || s.exc.tripped.contains c then 0xFFFF else min 0xFFFF mag
    let s := (s.setF (F.EXC_IMP.MAG.inst c) mag).setI (F.EXC_IMP.PHASE.inst c) phase
    s.judgeCheck c mag

def execImpedanceCheck (ch : Fin 12) (mag : Nat) (phase : Int) (t : Nat) (s : State) : Host.Outcome State Fault Refusal :=
  answer (doImpedanceCheck ch mag phase t s)

/-! ## Linearisation (R421) -/

/-- y by Horner's rule: over j in tf for each power of xf, then over i in xf; each operation rounded (log entry 61). -/
def horner (c : Nat → Flt) (x t : Flt) : Flt :=
  let row := fun (i : Nat) => ((((c (3 * i + 2)).mul t).add (c (3 * i + 1))).mul t).add (c (3 * i))
  (((((row 3).mul x).add (row 2)).mul x).add (row 1)).mul x |>.add (row 0)

/-- tf and TOLD of channel `c`. -/
def State.chTemp (s : State) (c : Nat) : Flt × Bool :=
  let tch := s.getF (linF c 48 8 8)
  if 12 ≤ tch then (.fin 0, false)
  else match tabFind tch s.exc.good with
    | some v => (match Flt.ofRat (v : Rat) with
        | .fin q => Flt.ofRat (q / 10)
        | o => o, !s.flag (F.EXC_STAT.GOOD.idx tch))
    | none => (.fin 0, true)

/-- VALUE of a raw value, whether it saturated, and TOLD. A NaN has no stated VALUE (log entry 7). -/
def State.linearise (s : State) (c : Nat) (raw : Int) : Int × Bool × Bool :=
  let ofs := s.getI (linF c 56 0 32)
  let gain : Int := s.getF (linF c 60 0 32)
  let scale := fun (v : Int) (k : Int) => match Flt.ofRat (v : Rat) with
    | .fin q => Flt.ofRat (q * twoTo k)
    | o => o
  let x := (scale (raw - ofs) (-23)).mul (scale gain (-22))
  let (t, told) := s.chTemp c
  let y := horner (fun k => Flt.ofBits (s.peek (linF c (4 * k) 0 32).addr).toNat) x t
  match y.toInt32 with
  | some (v, sat) => (v, sat, told)
  | none => (signed 32 s.freeNat, false, told)

/-- The result of one channel in an output set: its flags, registers and last good VALUE. -/
def State.result (s : State) (c : Nat) (raw : Int) (trip : Bool) : State :=
  let s := s.mapExc (fun x => { x with calm := if trip then tabDel c x.calm else addCount c 1 x.calm })
  let s := s.clearOvr c
  let n := s.getF (F.EXC_STAT.SETTLE.idx c)
  let counts := decide ((tabFind c s.exc.settleFrom).getD 0 ≤ s.now)
  let s := s.setChFlag c 0 (decide (0 < n))
  let s := if counts then s.setF (F.EXC_STAT.SETTLE.idx c) (n - 1) else s
  let (v, sat, told) := s.linearise c raw
  let s := ((s.setChFlag c 5 (!s.flag (linF c 48 0 1))).setChFlag c 6 told).tick
  let s := if sat then s.bump F.EXC_CNT.LOW 1 else s
  let good := s.getF (chFlags c) % 64 = 0
  let s := s.setB (F.EXC_STAT.GOOD.idx c) good
  let s := (s.setI (F.DFL_OUT_RAW.VALUE.inst c) raw).setI (F.DFL_OUT_LIN.VALUE.inst c) v
  if good then s.mapExc (fun x => { x with good := tabSet c v x.good }) else s

/-! ## System calibration (R422) -/

/-- A result of the channel under calibration: good apart from NOLIN, the one that ends the wait among those averaged. -/
def State.calStep (s : State) (c : Nat) (raw : Int) : State :=
  match s.exc.step with
  | none => s
  | some k =>
    if k.ch ≠ c || decide (k.want ≤ k.n) || k.bad then s
    else
      let good := s.getF (chFlags c) % 32 = 0
      if !good then (if k.n = 0 then s else s.mapExc (fun x => { x with step := some { k with bad := true } }))
      else (s.setF F.EXC_SCAL.STATE 2).mapExc (fun x => { x with step := some { k with n := k.n + 1, sum := k.sum + raw } })

/-- A rational in whole units; the spec states no rounding, so a fraction may go either way (log entry 7). -/
def State.openRound (s : State) (q : Rat) : Int := if q.den = 1 then q.num else q.floor + ((s.freeNat % 2 : Nat) : Int)

/-- The step is over. -/
def State.calEnd (s : State) (ok : Bool) : State :=
  let s := (s.mapExc (fun x => { x with step := none })).tick
  let s := ((s.setF F.EXC_SCAL.GO 0).setF F.EXC_SCAL.STATE (if ok then 3 else 4)).raiseEvt 24 6
  if ok then s else s.recErr 24 0x81 0

/-- R422: the step has its results, or fails. -/
def doSystemCalibrationEnd (t : Nat) (s : State) : State :=
  let s := s.at t
  match s.exc.step with
  | none => s
  | some k =>
    if !s.on 10 then s
    else if k.bad then s.calEnd false
    else if k.n = 0 then (if k.start + 1000000000 ≤ s.now then s.calEnd false else s)
    else if k.n < k.want then s
    else
      let mean : Rat := (k.sum : Rat) / (k.n : Rat)
      if !k.full then
        let v := s.openRound mean
        ((s.setI F.EXC_SCAL_OFS.VALUE v).mapExc (fun x => { x with zeros := tabSet k.ch v x.zeros })).calEnd true
      else
        let ofs := (tabFind k.ch s.exc.zeros).getD (s.getI (linF k.ch 56 0 32))
        let d := mean - (ofs : Rat)
        let g := if d = 0 then 0 else (k.tgt : Rat) / d
        if g < 1 / 2 ∨ 2 < g then s.calEnd false
        else (s.setSat F.EXC_SCAL_GAIN.VALUE (s.openRound (g * twoTo 22)).toNat).calEnd true

def execSystemCalibrationEnd (t : Nat) (s : State) : Host.Outcome State Fault Refusal := answer (doSystemCalibrationEnd t s)

/-! ## Deflection triples (R423) and the stream (R424) -/

/-- Angle r from the values of X0 to X7. -/
def State.mountAngle (s : State) (r : Nat) : Int :=
  let sum := (List.range 8).foldl (fun a c =>
    a + (if s.flag (chEn c) then s.getI (F.EXC_MNT_M.M.idx (8 * r + c)) * s.getI (F.DFL_OUT_LIN.VALUE.inst c) else 0)) (0 : Int)
  clampInt (-8388608) 8388607 (sum / 65536)

/-- The triple of a set goes to Crema, or is withheld. -/
def State.mountTriple (s : State) (time : Nat) : State :=
  if !s.flag F.EXC_MNT_CTL.EN then s.setF F.EXC_MNT_CTL.DELIVERED 0
  else
    let used := fun (c : Nat) => (List.range 3).any (fun r => s.flag (F.EXC_MNT_M.M.idx (8 * r + c)))
    let ok := (List.range 8).all (fun c => !used c || (s.flag (chEn c) && s.flag (F.EXC_STAT.GOOD.idx c)))
    if !ok then (s.bump F.EXC_MNT_CNT.HIGH 1).setF F.EXC_MNT_CTL.DELIVERED 0
    else
      let n := s.exc.delivered + 1
      let s := if 256 ≤ n then s.bump F.EXC_MNT_CNT.LOW 1 else s
      let s := (s.mapExc (fun x => { x with delivered := if 256 ≤ n then 0 else n })).setF F.EXC_MNT_CTL.DELIVERED 1
      if !s.on 11 then s
      else
        let a := s.mountAngle
        let need := s.crm.triples.takeWhile (fun x => decide (s.oldestMeas ≤ x.1))
        let before := (s.crm.triples.drop need.length).take 1
        let s := { s with crm := { s.crm with triples := (time, (a 0, a 1, a 2)) :: need ++ before, arrived := s.now } }
        if s.flag F.CRM_MOUNT.EN then
          (((s.setI F.CRM_MNT_ROLL.ANGLE (a 0)).setI F.CRM_MNT_PITCH.ANGLE (a 1)).setI F.CRM_MNT_YAW.ANGLE (a 2)).setF F.CRM_MOUNT.STALE 0
        else s

/-- The record of an output set. -/
def State.dflRecord (s : State) (tai : Nat) : State :=
  if !s.flag F.DFL_CTL.STREAM then s
  else
    let chs := (List.range 12).filter (fun c => s.flag (chEn c))
    let res := fun (c : Nat) => leBytes 4 (s.getF (F.DFL_OUT_LIN.VALUE.inst c)) ++ leBytes 1 c ++ leBytes 1 (s.getF (chFlags c)) ++ leBytes 2 0
    s.commitRecord 8 9 (hkHeader 2 chs.length s.frameNo s.epoch tai ++ (chs.map res).flatten)

/-- The comparators that have tripped since the last set: those reported, and those of samples beyond 1.25 FS (R410). -/
def State.trips (s : State) (raws : List (List LandSample)) (tripped : Nat) : List Nat :=
  (List.range 12).filter (fun c => tripped.testBit c || ((nth [] raws c).any (fun x => overRange (s.landRaw c x))))

/-- The result of channel `c` in a set: its samples through the decimators, and a calibration step that waits for it. -/
def State.channelSet (s : State) (raws : List (List LandSample)) (trips : List Nat) (c : Nat) : State :=
  if !s.flag (chEn c) then s
  else
    let s := if trips.contains c then s.tripOvr c else s
    let s := s.feedChannel c (nth [] raws c)
    let raw := s.openRound (s.firOut (s.filterOf c))
    (s.tick.result c raw (trips.contains c)).calStep c raw

/-- R412: the engine computes one output set from the modulator samples since the last; `t` is the instant of X0's computation. -/
def doDflOutputSet (raws : List (List LandSample)) (tripped t : Nat) (s : State) : State :=
  let s := s.at t
  if !s.on 10 || raws.length ≠ 12 then s
  else
    let s := s.dflUpdate
    let s := s.setF F.DFL_SETS.COUNT (s.getF F.DFL_SETS.COUNT + 1)
    let trips := s.trips raws tripped
    let s := (List.range 12).foldl (fun s c => s.channelSet raws trips c) s
    let s := s.mapExc (fun x => { x with tripped := trips })
    let gd := groupDelay (presetD1 s.exc.used.2.2) (s.setTaps s.exc.used.1 s.exc.used.2.1)
    let back := fun (n extra : Nat) => (32 * n + extra - gd) / 32
    (s.mountTriple (back s.now 1750000)).dflRecord (back s.taiNs 0)

def execDflOutputSet (raws : List (List LandSample)) (tripped t : Nat) (s : State) : Host.Outcome State Fault Refusal :=
  answer (doDflOutputSet raws tripped t s)

end Sys2Proof.Machine
end

