-- ==== Sys2Proof/Machine/Recorder.lean ====
section
/-! DEFINITION. The event recorder (chapter 20): capture states, the buffer, readout, and the inputs of the trigger sequencer. -/

namespace Sys2Proof.Machine

def State.mapRec (s : State) (f : RecState → RecState) : State := { s with rcd := f s.rcd }
def State.recState (s : State) : Nat := s.getF F.REC_STAT.STATE

/-! ## Capture (R427 to R429) -/

/-- The newest entries (newest first) that fit into `room` bytes. -/
def fitEntries : Nat → List RecEntry → List RecEntry
  | _, [] => []
  | room, e :: l => if e.size ≤ room then e :: fitEntries (room - e.size) l else []

/-- Write an entry: the oldest ones give way when the buffer is full. -/
def State.writeEntry (s : State) (e : RecEntry) : State :=
  let post := s.recState = 2
  let point := post && s.rcd.pointDue && (match s.rcd.trig with
    | some i => decide (i ≤ (e.w : Int))
    | none => false)
  let counts := post && (point || !s.rcd.pointDue)
  let flags := (if point then 1 else 0) + (if post then 2 else 0) + (if s.rcd.lossNext then 4 else 0)
  let s := s.mapRec (fun r => { r with
    buffer := fitEntries (s.getF F.REC_SIZE.SIZE * 1048576) ({ e with flags := flags } :: r.buffer)
    lossNext := false, written := r.written + e.size, post := if counts then r.post + e.size else r.post
    pointDue := r.pointDue && !point })
  s.setSat F.REC_FILL.COUNT (s.rcd.written / 1024)

/-- R427, R428: the oldest record that waits is written, or dropped beyond the recorder's rate. -/
def doRecorderEntry (excess : Bool) (t : Nat) (s : State) : State :=
  let s := s.at t
  match s.rcd.due with
  | [] => s
  | e :: l =>
    let s := s.mapRec (fun r => { r with due := l })
    if !s.recArmed then s
    else if excess then ((((s.mapRec (fun r => { r with lossNext := true })).bump F.REC_DROP.COUNT 1).setF F.REC_STAT.LOSS 1)).raiseEvt 26 4
    else s.writeEntry e

def execRecorderEntry (excess : Bool) (t : Nat) (s : State) : Host.Outcome State Fault Refusal := answer (doRecorderEntry excess t s)

/-- The capture is frozen. -/
def State.recDone (s : State) : State := ((s.mapRec (fun r => { r with due := [] })).setF F.REC_STAT.STATE 3).raiseEvt 26 1

/-- R429: `REC_POST` KiB stand from the trigger point on. -/
def doPostComplete (t : Nat) (s : State) : State :=
  let s := s.at t
  if s.on 5 && s.recState = 2 && !s.rcd.pointDue && decide (s.getF F.REC_POST.KIB * 1024 ≤ s.rcd.post) then s.recDone else s

def execPostComplete (t : Nat) (s : State) : Host.Outcome State Fault Refusal := answer (doPostComplete t s)

/-- ARM (R429): recording begins afresh, with the sequencer in state 0. -/
def State.recArm (s : State) : State :=
  let s := s.mapRec (fun r => { r with
    due := [], buffer := [], lossNext := false, written := 0, post := 0, trig := none, pointDue := false, arms := r.arms + 1,
    part := 0, readout := [], timers := [], expired := [] })
  let s := (List.range 4).foldl (fun (s : State) k => s.setF (F.REC_CNT.VALUE.idx k) 0) s
  let s := (((s.setF F.REC_STAT.EARLY 0).setF F.REC_STAT.LOSS 0).setF F.REC_STAT.RST 0).setF F.REC_STAT.SEQ 0
  (((s.setF F.REC_TRIG_LO.NS 0).setF F.REC_TRIG_HI.NS 0).setF F.REC_FILL.COUNT 0).setF F.REC_STAT.STATE 1

/-- DISARM (R429). -/
def State.recDisarm (s : State) : State := if s.recState = 1 || s.recState = 2 then s.recDone else s

/-- READOUT in `DONE` (R435). -/
def State.recReadout (s : State) : State :=
  (s.mapRec (fun r => { r with part := 0, readout := r.buffer.reverse })).setF F.REC_STAT.STATE 4

/-! ## Readout (R435) -/

/-- An entry as it stands in the buffer. -/
def RecEntry.encode (e : RecEntry) : List Byte :=
  leBytes 8 e.w ++ leBytes 1 e.src ++ leBytes 1 e.flags ++ leBytes 2 e.bytes.length ++ leBytes 4 0 ++
    padTo ((e.bytes.length + 7) / 8 * 8) e.bytes

/-- The entries, oldest first, that fit into a record. -/
def firstEntries (l : List RecEntry) : List RecEntry := fitEntries 8192 l

/-- A RECORDER record. -/
def State.recorderRecord (s : State) (l : List RecEntry) : List Byte :=
  let body := (l.map RecEntry.encode).flatten
  leBytes 4 s.rcd.arms ++ leBytes 4 s.rcd.part ++ leBytes 8 (unsigned 64 (s.rcd.trig.getD 0)) ++
    leBytes 2 (fieldOf 8 3 (s.peek F.REC_STAT.STATE.addr).toNat) ++ leBytes 2 l.length ++ leBytes 2 body.length ++ leBytes 10 0 ++ body

/-- Bytes of RECORDER records that some queue of the class has not acknowledged. -/
def State.recorderUnacked (s : State) : Nat :=
  let open_ := fun (x : Nat × Nat) => match tabFind x.1 s.tp.queues with
    | some q => decide (q.acked < x.2)
    | none => false
  ((s.tp.journal.filter (fun r => r.cls = 7 && r.nums.any open_)).map (fun r => r.bytes.length)).sum

/-- Commit records while no more than half the region is unacknowledged. -/
def State.readOut : Nat → State → State
  | 0, s => s
  | fuel + 1, s =>
    let l := firstEntries s.rcd.readout
    if l.isEmpty || decide (s.getF (F.LDG_REGION.SIZE.inst 7) * 524288 < s.recorderUnacked) then s
    else State.readOut fuel ((s.commitRecord 7 8 (s.recorderRecord l)).mapRec (fun r => { r with part := r.part + 1, readout := r.readout.drop l.length }))

/-- R435: the readout goes on; with its last record committed it is over. -/
def doReadoutComplete (t : Nat) (s : State) : State :=
  let s := s.at t
  if !s.on 5 || s.recState ≠ 4 then s
  else
    let s := State.readOut s.rcd.readout.length s
    if s.rcd.readout.isEmpty then (s.setF F.REC_STAT.STATE 3).raiseEvt 26 2 else s

def execReadoutComplete (t : Nat) (s : State) : Host.Outcome State Fault Refusal := answer (doReadoutComplete t s)

/-! ## Sequencer inputs (R432 to R434) -/

/-- R432: a cycle in which a level input of the current state holds. -/
def doSequencerTransition (t : Nat) (s : State) : State := let s := s.at t; if s.on 5 then s.seqStep else s

def execSequencerTransition (t : Nat) (s : State) : Host.Outcome State Fault Refusal := answer (doSequencerTransition t s)

/-- R432: a timer has run the PERIOD it started from. -/
def doSequencerTimerExpiry (timer : Fin 4) (t : Nat) (s : State) : State :=
  let s := s.at t
  let k := timer.val
  match tabFind k s.rcd.timers with
  | some until_ =>
    if s.on 5 && decide (until_ ≤ s.now) then
      s.mapRec (fun r => { r with timers := tabDel k r.timers, expired := r.expired ++ [k] })
    else s
  | none => s

def execSequencerTimerExpiry (timer : Fin 4) (t : Nat) (s : State) : Host.Outcome State Fault Refusal := answer (doSequencerTimerExpiry timer t s)

/-- R430, R432: an edge of `TRIG_IO` as an input; its instant is corrected by the cable's delay. -/
def doTrigIoEdge (rising : Bool) (t : Nat) (s : State) : State :=
  let s := (s.at t).setB F.GIO_IN.TRIG_IO rising
  if s.on 5 && !s.flag F.REC_IO.DIR then s.recPulse (if rising then 2 else 3) (s.taiNs - s.getI F.REC_IO.CABLE) else s

def execTrigIoEdge (rising : Bool) (t : Nat) (s : State) : Host.Outcome State Fault Refusal := answer (doTrigIoEdge rising t s)

/-- The trigger instant of a chain trigger (R434). -/
def State.chainInstant (s : State) (x : ChainTrigger) (linkDelay : Nat) : Int :=
  if x.timed && s.on 3 && s.servo = 2 then x.tai else ((16 * s.taiNs : Nat) - (linkDelay + x.corr : Nat) : Int) / 16

/-- R433: forwarded out of the other port, with what this hop added. -/
def State.forwardTrigger (s : State) (out : Nat) (x : ChainTrigger) (add : Nat) : State :=
  s.sendFrame out 4 (chainTriggerBytes x.timed x.origin x.seq x.tai (x.corr + add))

/-- R433, R434: a chain trigger arrives. -/
def doChainTriggerAccept (portB : Bool) (trigger : ChainTrigger) (linkDelay residence t : Nat) (s : State) : State :=
  let s := s.at t
  let p := portNo portB
  if !s.portActive p || trigger.type ≠ 1 || trigger.origin = s.unitMac then s
  else
    let s := s.forwardTrigger (1 - p) trigger (linkDelay + residence)
    let seen := s.rcd.seen.any (fun e => e.1 = (trigger.origin, trigger.seq) && decide (s.now ≤ e.2 + 1000000000))
    if !s.on 5 || !s.flag F.REC_CTL.RECV_EN || seen then s
    else
      let recent := s.rcd.seen.filter (fun e => decide (s.now ≤ e.2 + 1000000000))
      let s := s.mapRec (fun r => { r with seen := ((trigger.origin, trigger.seq), s.now) :: recent })
      let f := F.REC_CHAIN.COUNT
      let n := min 0xFFFF (fieldOf 0 16 (s.getF f) + 1)
      ((s.setF f (withField 0 16 (s.getF f) n)).raiseEvt 26 3).recPulse 5 (s.chainInstant trigger linkDelay)

def execChainTriggerAccept (portB : Bool) (trigger : ChainTrigger) (linkDelay residence t : Nat) (s : State) :
    Host.Outcome State Fault Refusal := answer (doChainTriggerAccept portB trigger linkDelay residence t s)

end Sys2Proof.Machine
end

