-- ==== Sys2Proof/Machine/Scan.lean ====
section
/-! DEFINITION. Barista (chapter 04): the steps that the azimuth estimate enters, the checks of a slot, thermal admission, the start of a
group, and what a P0 group that cannot be served does. -/

namespace Sys2Proof.Machine

def State.mapSch (s : State) (f : SchedState → SchedState) : State := { s with sch := f s.sch }

/-! ## Heat (R96) -/

/-- H after `n` slots without a pulse; the quotient is truncated. -/
def coolDown (tau : Nat) : Nat → Nat → Nat
  | 0, h => h
  | n + 1, h => if h / tau = 0 then h else coolDown tau n (h - h / tau)

/-- Each slot every emitter's heat falls by H / TAU; pulses add theirs as they fire. -/
def State.coolAll (s : State) (slots : Nat) : State :=
  let tau := max 1 (s.getF F.SCH_THERM_TAU.VALUE)
  s.mapSch (fun c => { c with heat := (c.heat.map (fun e => (e.1, coolDown tau slots e.2))).filter (fun e => e.2 ≠ 0) })

/-- The fraction f of an emitter. -/
def State.admitted (s : State) (e : Nat) : Rat :=
  let thr := s.getF F.SCH_THERM_THR.VALUE
  let lim := s.getF F.SCH_THERM_LIM.VALUE
  let f : Rat := ((256 * lim : Nat) - (countAt e s.sch.heat : Nat) : Rat) / (256 * (lim - thr) : Nat)
  max 0 (min 1 f)

/-- Admission accumulator of a line. -/
def State.accumulator (s : State) (l : Nat) : Rat := (tabFind l s.sch.adm).getD 0

/-! ## Steps (R83, R88, R92, R112) -/

def Ready.isAt (r : Ready) (pass step pos : Nat) : Bool := r.pass = pass && r.step = step && r.pos = pos
def Ready.same (r q : Ready) : Bool := r.isAt q.pass q.step q.pos

def State.readyEntry (s : State) (r : Ready) : GroupEntry := s.groupEntry s.frameBank r.group

/-- Lines of a group that take part: those not removed under R128. -/
def State.members (s : State) (g : GroupEntry) : List (Nat × Nat) := g.lines.filter (fun x => !s.emt.removed.contains x.2)

/-- Some queue selects HIST records of a group's measurements (R98). -/
def State.exported (s : State) (f : FrameInfo) (g : GroupEntry) (ls : List (Nat × Nat)) : Bool :=
  g.hist && ls.any (fun l => (List.range 8).any (fun c => s.histWanted (8 * l.2 + c) g.cls f.num))

/-- A group is planned and ready (R99): not with no line left (R128), nor of class P4 with no HIST record selected (R98). -/
def State.plan (s : State) (f : FrameInfo) (p i : Nat) (x : Nat × Nat) : State :=
  let g := s.groupEntry f.bank x.2
  let ls := s.members g
  if ls.isEmpty || (g.cls = 4 && !s.exported f g ls) then s
  else
    let r : Ready := { pass := p, step := i, pos := x.1, group := x.2, cls := g.cls, readySlot := s.sch.slot, fail := none, thermal := none, slack := false }
    (s.mapFrame (fun f => { f with planned := bankAdd f.planned g.cls })).mapSch (fun c => { c with ready := c.ready ++ [r] })

/-- The next frame as the bank lays it out that the boundary will select. -/
def State.nextFrame (s : State) (f : FrameInfo) : FrameInfo :=
  let b := if s.commitDue ((s.frameNo + 1) % 2 ^ 32) then s.pendF F.SCH_BANK.SEL else s.getF F.SCH_BANK.SEL
  { f with bank := b, facets := s.progFacets b, revs := s.progRevs b }

/-- The estimate at place `pos` enters the steps that it has reached, in program order; past the last step of a pass, or past the end
of a pass without steps, the galvo takes the tilt of the next pass, after the last pass that of the next frame's bank (R112, log entry 62). -/
def State.reach (pos : Int) : Nat → State → State
  | 0, s => s
  | fuel + 1, s =>
    match s.sch.frame, s.sch.at_ with
    | some f, some (p, k) =>
      let n := f.facets * f.revs
      if n ≤ p then s
      else
        let e := s.passEntry f.bank p
        if k < e.steps then
          if s.stepStart f p (e.step0 + k) ≤ pos then
            let i := e.step0 + k
            let s := if s.emitting then (s.stepEntry f.bank i).groups.foldl (fun s x => s.plan f p i x) s else s
            reach pos fuel (s.mapSch (fun c => { c with at_ := some (p, k + 1) }))
          else s
        else
          let ends := if e.steps = 0 then s.passStart f (p + 1) else s.stepEnd f p (e.step0 + k - 1)
          if ends ≤ pos then
            let next := (if n ≤ p + 1 then s.passEntry (s.nextFrame f).bank 0 else s.passEntry f.bank (p + 1)).tilt
            reach pos fuel ((s.mapSch (fun c => { c with at_ := some (p + 1, 0) })).setTilt next)
          else s
    | _, _ => s

/-! ## Checks (R92) -/

/-- The slot a group waits for: a P0 group its reserved slot (R93). -/
def State.firstSlot (s : State) (r : Ready) : Nat := r.readySlot + (if r.cls = 0 then (s.readyEntry r).offset else 0)

/-- Check 2 (R143): energy of the window, of what is left of the trains that run, and of this train, zone by zone: of a train whose lines map
to several zones, each zone takes its own lines' share (DESIGN CHOICE, log entry 81). -/
def State.energyFits (s : State) (g : GroupEntry) (ls : List (Nat × Nat)) : Bool :=
  (ls.map (fun l => s.zoneOf l.2)).dedup.all (fun z =>
    let mine := ((ls.filter (fun l => s.zoneOf l.2 = z)).map (fun l => g.pulses * s.plannedEnergy l.2)).sum
    let left := ((s.sch.trains.map (fun tr =>
      ((tr.lines.filter (fun x => s.zoneOf x.line = z)).map (fun x => (tr.pulses - x.done) * s.plannedEnergy x.line)).sum))).sum
    decide (s.shortUse z s.now + left + mine ≤ s.shortCeil z) && decide (s.longUse z s.now + left + mine ≤ s.longCeil z))

/-- Slots an engine can give to single-slot measurements, or pairs to two-slot ones (R185, R186). -/
def State.enginePlaces (s : State) (e : Nat) (two : Bool) : Nat :=
  let free := s.freeSlots e
  if two then (free.filter (fun n => n % 2 = 0 && free.contains (n + 1))).length else free.length

/-- Check 3 (R92, R186). -/
def State.slotsFit (s : State) (g : GroupEntry) (ls : List (Nat × Nat)) : Bool :=
  let p0 := if g.cls = 0 then 0 else s.progP0Slots s.frameBank
  decide (slotsOf g.two ls.length + p0 ≤ s.freeTotal) && (List.range 8).all (fun e =>
    let n := (ls.filter (fun l => l.2 / 16 = e)).length
    n = 0 || (decide (8 * n ≤ s.enginePlaces e g.two) && decide (slotsOf g.two n + min p0 256 ≤ (s.freeSlots e).length)))

/-- Nominal pulses of a group that starts at `t`, its code offsets given: instant and line. -/
def GroupEntry.nominals (g : GroupEntry) (ls : List (Nat × Nat)) (start t : Nat) (offs : List Nat) : List (Nat × Nat) :=
  (ls.map (fun l => (List.range g.pulses).map (fun k => (t + k * g.cell start + nth 0 offs k + 48 * rankOf ls l.2, l.2)))).flatten

/-- The instant at which the estimate reaches a place in the frame, at the measured speed. -/
def State.timeOfPlace (s : State) (pos target : Int) : Option Nat :=
  if s.measRpm = 0 then none else some (s.now + s.codesNs (target - pos))

def State.startOffset (s : State) : Nat := s.getF F.GRN_START.OFS * 16

/-- Pulses of P0 groups whose nominal start lies within the next 100 µs: those ready, and those of steps to come, the next frame's
first ones among them. -/
def State.nextP0 (s : State) (f : FrameInfo) (pos : Int) : List (Nat × Nat) :=
  let soon := fun (t : Nat) => decide (s.now ≤ t) && decide (t < s.now + 100000)
  let ready := (s.sch.ready.filter (fun r => r.cls = 0 && soon (1000 * s.firstSlot r))).map (fun r =>
    (s.readyEntry r).nominals (s.members (s.readyEntry r)) s.startOffset (1000 * s.firstSlot r) [])
  let ahead := fun (f : FrameInfo) (revs : Nat) (steps : List (Nat × Nat)) => steps.map (fun x =>
    match s.timeOfPlace pos (s.stepStart f x.1 x.2 + ((revs * 2 ^ 24 : Nat) : Int)) with
    | some t => ((s.stepEntry f.bank x.2).groups.map (fun y =>
        let g := s.groupEntry f.bank y.2
        let at_ := 1000 * ((t + 999) / 1000 + g.offset)
        if g.cls = 0 && soon at_ then g.nominals (s.members g) s.startOffset at_ [] else [])).flatten
    | none => [])
  let to_come := (s.progSteps f.bank).filter (fun x => decide (pos < s.stepStart f x.1 x.2))
  let next := s.nextFrame f
  ready.flatten ++ (ahead f 0 to_come).flatten ++ (ahead next f.revs (s.progSteps next.bank)).flatten

/-- More than `limit` of some instants lie within 100 µs. -/
def crowded (limit : Nat) (ts : List Nat) : Bool :=
  ts.any (fun x => decide (limit < (ts.filter (fun y => decide (x ≤ y) && decide (y < x + 100000))).length))

/-- Check 4 (R92, R139). -/
def State.rateFits (s : State) (f : FrameInfo) (pos : Int) (g : GroupEntry) (ls : List (Nat × Nat)) : Bool :=
  let cand := g.nominals ls s.startOffset s.now (s.codeOffsets f.num f.trains g.pulses g.codeWindow)
  let all := s.sch.placed ++ cand ++ (if g.cls = 0 then [] else s.nextP0 f pos)
  !ls.any (fun l => s.lineBusy l.2) && !crowded 6400 (all.map (·.1))
    && (all.map (·.2)).dedup.all (fun l => !crowded 50 ((all.filter (fun x => x.2 = l)).map (·.1)))

/-- The credit level of a port, and the lowest among the ports that carry a queue (R98, R292). -/
def State.portCredit (s : State) (p : Nat) : Nat := min 255 (256 * (4194304 - ((s.port p).ownBits + 7) / 8) / 4194304)
def State.creditLevel (s : State) : Nat :=
  (s.tp.queues.map (fun e => s.portCredit (queuePort e.2))).foldl min 255

def egressThr (cls : Nat) : Field := nth F.SCH_EGR_THR.P1 [F.SCH_EGR_THR.P1, F.SCH_EGR_THR.P1, F.SCH_EGR_THR.P2, F.SCH_EGR_THR.P3, F.SCH_EGR_THR.P4] cls

/-- Check 5: thermal admission is judged in the first slot in which the group comes to it. -/
def State.admitAll (s : State) (r : Ready) (ls : List (Nat × Nat)) : State × Bool :=
  match r.thermal with
  | some b => (s, b)
  | none =>
    let ds := ls.map (fun l => (l.2, min 2 (s.accumulator l.2 + s.admitted (s.emitterOf l.2))))
    let ok := ds.all (fun d => decide (1 ≤ d.2))
    let s := s.mapSch (fun c => { c with adm := ds.foldl (fun t d => tabSet d.1 (if ok then d.2 - 1 else d.2) t) c.adm })
    (s, ok)

/-- Some line is throttled: bit 4 as that begins (R101). -/
def State.throttle (s : State) : State :=
  let hot := s.sch.heat.any (fun e => decide (s.admitted e.1 < 1) && s.emitterOf (e.1 % 128) = e.1)
  let t := s.mapSch (fun c => { c with hot := hot })
  if hot && !s.sch.hot then t.raiseEvt 8 4 else t

/-- The checks in their order: the reason of the first that fails (R92, R95). A P4 group that no HIST queue selects any more does not start
(R98), as check 7 would stop it (log entry 66). -/
def State.checks (s : State) (f : FrameInfo) (pos : Int) (r : Ready) : State × Ready × Option Nat :=
  let g := s.readyEntry r
  let ls := s.members g
  if !s.flag F.STE_STAT.VALID then (s, r, some 1)
  else if !s.energyFits g ls then (s, r, some 2)
  else if !s.slotsFit g ls then (s, r, some 6)
  else if !s.rateFits f pos g ls then (s, r, some 7)
  else if r.cls = 0 then (s, r, none)
  else
    let (s, ok) := s.admitAll r ls
    let r := { r with thermal := some ok }
    if !ok then (s, r, some 3)
    else if s.getF F.SCH_PWR_CAP.CAP < s.startsLately + 8 * ls.length then (s.raiseEvt 8 6, r, some 4)
    else if s.creditLevel < s.getF (egressThr r.cls) then (s.raiseEvt 8 5, r, some 5)
    else if r.cls = 4 && !s.exported f g ls then (s, r, some 5)
    else (s, r, none)

/-! ## The start of a group (R92, R139 to R141, R186) -/

/-- The train of a group that starts now. Its measurements take its frame and epoch, also where its first pulse would fire after the next
boundary (R44; log entry 66). -/
def State.trainOf (s : State) (f : FrameInfo) (r : Ready) : Train :=
  let g := s.readyEntry r
  let ls := sortBy (fun (a b : Nat × Nat) => decide (a.2 < b.2)) (s.members g)
  let cell := g.cell s.startOffset
  let offs := s.codeOffsets f.num f.trains g.pulses g.codeWindow
  { ord := f.trains, frame := f.num, epoch := f.epoch, group := r.group, pass := r.pass, step := r.step, pos := r.pos, cls := r.cls,
    pulses := g.pulses, cell := cell, start := s.now, offs := offs,
    lines := ls.map (fun l =>
      { line := l.2, slot := l.1, rank := rankOf ls l.2, energy := s.pulseEnergy l.2, done := 0, first := s.now + nth 0 offs 0 + 48 * rankOf ls l.2,
        endAt := s.now + g.pulses * cell + 48 * rankOf ls l.2 }),
    two := g.two, hist := g.hist }

def Train.endOf (tr : Train) : Nat := (tr.lines.map TrainLine.endAt).foldl max tr.start

/-- The group starts: its train, its measurements, and what the checks and the power manager count of it. -/
def State.startGroup (s : State) (f : FrameInfo) (r : Ready) : State :=
  let tr := s.trainOf f r
  let first := s.firstSlot r
  let s := match r.fail with
    | some why => if first < s.sch.slot then s.except r why (s.sch.slot - first) false else s
    | none => s
  let s := s.mapFrame (fun f => { f with trains := f.trains + 1, started := bankAdd f.started r.cls })
  let marks := (tr.lines.map (fun x => (List.range tr.pulses).map (fun k => (tr.nominal x.rank k, x.line)))).flatten
  let s := s.mapSch (fun c =>
    { c with trains := c.trains ++ [tr], ready := c.ready.filter (fun q => !q.same r), placed := c.placed ++ marks,
             starts := addCount c.slot (8 * tr.lines.length) c.starts })
  tr.lines.foldl (fun s x => s.openLine tr x) s

/-! ## P0 that cannot be served (R91, R93) -/

/-- The last slot of a P0 group's slack (R93). -/
def State.slackEnd (s : State) (r : Ready) : Nat := s.firstSlot r + s.getF F.SCH_P0_CTL.SLACK

/-- A P0 group has not started: the device enters `SAFE`, unless the frame carries `TRANSITION` and steering was the reason. -/
def State.p0Fails (s : State) (exempt : Bool) (fail : Option Nat) : State :=
  if exempt && fail = some 1 then s else s.enterSafe (if fail = some 1 then 0x27 else 0x23) []

/-- A ready P0 group has reached its slack, once: it waits on where R91 spares it. -/
def State.readySlack (s : State) (f : FrameInfo) (r : Ready) : State :=
  if r.slack then s
  else
    let s := s.mapSch (fun c => { c with ready := c.ready.map (fun q => if q.same r then { q with slack := true } else q) })
    (s.raiseEvt 8 2).p0Fails f.transition r.fail

/-- A P0 group whose step is over has reached its slack. -/
def State.owedSlack (s : State) (o : OwedP0) : State :=
  let s := s.mapSch (fun c => { c with owed := c.owed.filter (fun q => q ≠ o) })
  (s.raiseEvt 8 2).p0Fails o.exempt o.fail

/-- P0 groups whose slack ended before this slot. -/
def State.slackOver (s : State) : State :=
  let s := (s.sch.owed.filter (fun o => decide (o.due < s.sch.slot))).foldl State.owedSlack s
  match s.sch.frame with
  | some f => (s.sch.ready.filter (fun r => r.cls = 0 && decide (s.slackEnd r < s.sch.slot))).foldl (fun s r => s.readySlack f r) s
  | none => s

/-- A P0 group whose slack ends in slot `due` is skipped with its step or frame: it fails now where its slack is over, else when it
ends. -/
def State.skipP0 (s : State) (f : FrameInfo) (r : Ready) (due : Nat) : State :=
  if decide (s.sch.slot ≤ due) && !r.slack then
    let o : OwedP0 := { pass := r.pass, step := r.step, pos := r.pos, due := due, fail := r.fail, exempt := f.transition }
    s.mapSch (fun c => { c with owed := c.owed ++ [o] })
  else s.p0Fails f.transition r.fail

/-! ## A slot -/

/-- The order of R92 with the deadline as the place where the step ends. -/
def State.before (s : State) (f : FrameInfo) (a b : Ready) : Bool :=
  let ka := s.stepEnd f a.pass a.step
  let kb := s.stepEnd f b.pass b.step
  if a.cls ≠ b.cls then decide (a.cls < b.cls)
  else if ka ≠ kb then decide (ka < kb)
  else if a.group ≠ b.group then decide (a.group < b.group)
  else decide (a.pos < b.pos)

/-- A group may be examined in this slot: P0 from its reserved slot, its nominal start, on (log entry 16), others where no P0 group has its
reserved slot (R93). -/
def State.mayTry (s : State) (r : Ready) : Bool :=
  if r.cls = 0 then decide (s.firstSlot r ≤ s.sch.slot)
  else !s.sch.ready.any (fun q => q.cls = 0 && s.firstSlot q = s.sch.slot)

/-- The first group in the order that passes every check starts. -/
def State.arbitrate (f : FrameInfo) (pos : Int) : List Ready → State → State
  | [], s => s
  | r :: rest, s =>
    if s.mayTry r then
      match s.checks f pos r with
      | (s, r, none) => s.startGroup f r
      | (s, r, some why) =>
        let r := { r with fail := some why }
        arbitrate f pos rest (s.mapSch (fun c => { c with ready := c.ready.map (fun q => if q.same r then r else q) }))
    else arbitrate f pos rest s

/-- Groups whose step the estimate has left are skipped (R94), P0 groups among them until their slack ends. -/
def State.skipLeft (s : State) (f : FrameInfo) (pos : Int) : State :=
  let gone := s.sch.ready.filter (fun r => decide (s.stepEnd f r.pass r.step ≤ pos))
  let s := gone.foldl (fun s r => s.except r (r.fail.getD 0) 0 true) s
  let s := s.mapSch (fun c => { c with ready := c.ready.filter (fun r => !gone.any (fun g => g.same r)) })
  (gone.filter (fun r => r.cls = 0)).foldl (fun s r => s.skipP0 f r (s.slackEnd r)) s

/-- What the slot has no more use for: trains that have ended, pulses and starts of more than 100 µs ago. -/
def State.forgetOld (s : State) : State :=
  s.markDark.mapSch (fun c =>
    { c with trains := c.trains.filter (fun tr => decide (s.now < tr.endOf + 10000)),
             placed := c.placed.filter (fun x => decide (s.now < x.1 + 100000)),
             starts := c.starts.filter (fun x => decide (c.slot < x.1 + 100)) })

/-- The azimuth estimate and the TAI counter of the present slot are kept while a measurement has still to be placed (R219, R222). -/
def State.trackSlot (s : State) : State :=
  let here := (s.now, (s.azimuthAt s.now, s.time.tai))
  s.mapSch (fun c => { c with track := here :: c.track.filter (fun x => decide (s.oldestMeas ≤ x.1 + 2000)) })

/-- R92 to R96: the slot that begins at `t`. -/
def doBaristaSlot (t : Nat) (s : State) : State :=
  let s := s.at t
  if !s.on 8 || s.now ≠ t || t % 1000 ≠ 0 || t / 1000 ≤ s.sch.slot then s
  else
    let n := t / 1000 - s.sch.slot
    let s := (((s.coolAll n).mapSch (fun c => { c with slot := t / 1000 })).forgetOld.throttle.latchEnded.trackSlot).injectEdges (t / 1000) n
    let s := s.injectHits (t / 1000) n
    if !s.frames || s.rst.active.isSome then s
    else match s.framePos t with
      | none => s
      | some pos =>
        let s := State.reach pos 700000 s
        match s.sch.frame with
        | none => s
        | some f =>
          if s.emitting then
            let s := s.slackOver.skipLeft f pos
            if s.emitting then State.arbitrate f pos (sortBy (s.before f) s.sch.ready) s else s
          else s

def execBaristaSlot (t : Nat) (s : State) : Host.Outcome State Fault Refusal := answer (doBaristaSlot t s)

/-- R93: a ready P0 group has not started within SLACK slots after its reserved slot. -/
def doP0SlackExpiry (pass step pos t : Nat) (s : State) : State :=
  let s := s.at t
  match s.sch.owed.find? (fun o => o.pass = pass && o.step = step && o.pos = pos && decide (o.due ≤ s.sch.slot)),
      s.sch.frame, s.sch.ready.find? (fun r => r.cls = 0 && r.isAt pass step pos) with
  | some o, _, _ => s.owedSlack o
  | none, some f, some r => if s.emitting && decide (s.slackEnd r ≤ s.sch.slot) then s.readySlack f r else s
  | none, _, _ => s

def execP0SlackExpiry (pass step pos t : Nat) (s : State) : Host.Outcome State Fault Refusal := answer (doP0SlackExpiry pass step pos t s)

end Sys2Proof.Machine
end

