-- ==== Sys2Proof/Machine/Frame.lean ====
section
/-! DEFINITION. Frame boundaries (R88 to R91), what a commit brings into force (R41), and entry to `SAFE` from a latched cause (R64). -/

namespace Sys2Proof.Machine

/-! ## What a commit brings into force -/

/-- The active program's values (R101, R272): the period shown is rounded to the nearest ns. -/
def State.setProgram (s : State) : State :=
  let b := s.getF F.SCH_BANK.SEL
  let s := ((s.setF F.SCH_PROG.RPM (s.progRpm b)).setF F.SCH_PROG.REVS (s.progRevs b)).setF F.SCH_PROG.FACETS (s.progFacets b)
  s.setSat F.TSY_PULSE.NS ((2 * s.progRevs b * 60000000000 + s.progRpm b) / (2 * max 1 (s.progRpm b)))

/-- EN of the chains (R135): a stop is never shortened; a chain whose stop has finished goes back to `OFF`. -/
def State.chainsCommit (s old : State) : State :=
  (List.range 4).foldl (fun s c =>
    if s.chainEn c = old.chainEn c then s
    else if s.chainEn c && s.chainState c = 3 then s.setChainState c 4
    else if !s.chainEn c && s.chainState c = 4 then
      if (s.chain c).stopped then (s.setChain c { s.chain c with stopped := false }).setChainState c 0 else s.setChainState c 3
    else s) s

/-- Some word of a list has changed. -/
def State.moved (s old : State) (fs : List Field) : Bool := fs.any (fun f => s.peek f.addr != old.peek f.addr)

/-- Some field of a list has changed. -/
def State.changedF (s old : State) (fs : List Field) : Bool := fs.any (fun f => s.getF f != old.getF f)

/-- Steering after a commit (R106, R108, R114): a new reference is waited for; AUTO returns to speed mode with a new TARGET. -/
def State.steeringCommit (s old : State) : State :=
  let s := { s with ste := { s.ste with
      pgNew := s.ste.pgNew || s.changedF old [F.STE_PG_GAIN.KP, F.STE_PG_GAIN.KI, F.STE_PG_LIM.OLIM, F.STE_PG_LIM.ILIM, F.STE_LOCK.KPH]
      gvNew := s.ste.gvNew || s.changedF old [F.STE_GV_GAIN.KP, F.STE_GV_GAIN.KI, F.STE_GV_LIM.OLIM, F.STE_GV_LIM.ILIM, F.STE_GV_KD.KD] } }
  let s := if s.getF F.STE_CTL.REFSRC = old.getF F.STE_CTL.REFSRC then s.rebaseEdges old
    else
      let s := if s.flag F.STE_STAT.REF_OK then (s.setF F.STE_STAT.REF_OK 0).raiseEvt 9 2 else s
      State.refOkFromTime { s with ste := { s.ste with fsync := none, missed := 0, holdover := false, tsyPulse := none, pulseEdge := none } }
  if s.getF F.STE_RPM.TARGET = old.getF F.STE_RPM.TARGET then s
  else
    let s := { s with ste := { s.ste with dwell := none, rampedAt := none } }
    if s.ste.lock && s.getF F.STE_CTL.MODE = 2 then
      ((({ s with ste := { s.ste with lock := false, pgNew := true } }.setF F.STE_STAT.LOCK 0).setF F.STE_STAT.PH_IN 0).setF F.STE_PHERR.CODES 0).raiseEvt 9 1
    else s

/-- The blocks take up what has changed. `old`: the state before the commit. -/
def State.takeUp (s old : State) : State :=
  let s := if old.shadow.any (fun e => e.1 = F.SCH_BANK.SEL.addr || e.1 = F.STE_RPM.TARGET.addr) then s.setProgram else s
  let s := if s.getF F.SCH_BANK.SEL = old.getF F.SCH_BANK.SEL then s else s.raiseEvt 8 0
  let s := (s.chainsCommit old).steeringCommit old
  let enabled := fun (c : Nat) => s.flag (chanEn c) && !old.flag (chanEn c)
  let s := { s with rxc := { s.rxc with updated := s.rxc.updated.filter (fun c => !enabled c) } }
  let s := if s.getF F.RXC_I2C_CFG.APPLY_SEQ ≠ old.getF F.RXC_I2C_CFG.APPLY_SEQ && !s.rxc.applySent then
    { s with rxc := { s.rxc with applyDue := true } } else s
  let s := if old.shadow.any (fun e => e.1 / 0x1000 = 0x17) && s.getF F.HKA_CTL.TRIG = 5 then
    s.mapHka (fun h => { h with timerFrom := s.now }) else s
  let s := if s.moved old [F.EMT_WL.ACCEPT] || (List.range 4).any (fun c => s.compat c != old.compat c) then s.countReserves else s
  let s := if s.moved old [F.TSY_CTL.SRC] then s.timeCommit else s
  let s := if s.changedF old [F.CRM_MOUNT.EN] then s.showDeflection else s
  let s := if s.moved old [F.NTA_IP.V4, F.NTA_IPV4_BASE.ADDR] then s.updateIp else s
  let s := ((s.portCommit old 0).portCommit old 1).ipCommit old
  let s := if s.moved old [F.PWM_DOM_EN0.EN, F.PWM_DOM_EN1.EN] then s.updateDomains else s
  let s := if s.getF F.SFA_IMG_SEQ.SEQ = old.getF F.SFA_IMG_SEQ.SEQ then s else s.activateImage
  (s.excCommit old).updateValid

/-- R41: the armed commit applies, at frame number `f`. Open records and a range calibration end with it (R121, R345, R405). -/
def State.commitNow (s : State) (f : Nat) : State :=
  let s := (s.closeSteering).hkaClose
  let s := if s.cal.began.isSome then s.calAbort else s
  (s.applyCommit f).takeUp s

/-- R40, R41: in a state without frames a commit with MODE NEXT applies. -/
def doCommitApply (t : Nat) (s : State) : State :=
  let s := s.at t
  match s.sys.armed with
  | some a => if s.frames || a.atFrame then s else s.commitNow s.frameNo
  | none => s

def execCommitApply (t : Nat) (s : State) : Host.Outcome State Fault Refusal := answer (doCommitApply t s)

/-! ## The end of a frame -/

/-- The open frame ends in full: groups that wait are skipped, the budget run (R66, R101) goes on or ends, and the safety channels
will judge it (R243). -/
def State.endFrame (s : State) : State :=
  match s.sch.frame with
  | none => s
  | some f =>
    let late := s.sch.ready
    let p0 := (late.filter (fun r => r.cls = 0)).map (fun r => (r, s.slackEnd r))
    let s := late.foldl (fun s r => s.except r (r.fail.getD 0) 0 true) s
    let s := s.mapSch (fun c => { c with ready := [] })
    let counted := s.sch.frame.any (fun f => decide (0 < nth 0 f.reasons 3 + nth 0 f.reasons 4 + nth 0 f.reasons 5))
    let s := s.setF F.SCH_FRAME_STAT.BUDGET_RUN (if counted then min 15 (s.getF F.SCH_FRAME_STAT.BUDGET_RUN + 1) else 0)
    let s := s.closeFrame false
    let d : FrameDue := { frame := f.num, epoch := f.epoch, ended := s.now, set := s.getF F.SFA_FSET.ACTIVE }
    let s := if s.gradeS then { s with saf := { s.saf with due := s.saf.due ++ [d] } } else s
    p0.foldl (fun s r => s.skipP0 f r.1 r.2) s

/-- Pulses that running trains have still to fire are not fired when emission stops with the frame: absent, so that their measurements
close (log entry 63). -/
def State.cutTrains (s : State) : State :=
  let rest := (s.sch.trains.map (fun tr => (tr.lines.map (fun x => (List.range (tr.pulses - x.done)).map (fun i =>
    (tr, x.line, x.rank, x.done + i)))).flatten)).flatten
  let s := rest.foldl (fun s (tr, l, rank, k) =>
    s.pulseResult tr.frame tr.ord l { k := k, status := 2, instant := ((tr.nominal rank k * 128 + s.getF (F.ETD_LINE.LAT.inst l) : Nat) : Int),
                                      energy := nth 0 (s.chain (l / 32)).energies (l % 32) }) s
  s.markDark.mapSch (fun c => { c with trains := [] })

/-- A stop takes effect (R89, R136): to `STANDBY`, with the zero load. `others`: triggers of the same boundary, not acted on (R15). A P0 group
skipped at this boundary with its slack still running stays owed, until the slack expires or the first slot of the next run (DESIGN CHOICE, log
entry 66). -/
def State.stopFrames (s : State) (others : List Nat) : State :=
  let s := (((s.cutTrains).zeroLoads).outputsOff false).stopSteering
  { s with sys := { s.sys with stopReq := false }, rxc := { s.rxc with applySent := false } }.enterState .standby 0x13 others

/-! ## The next frame -/

/-- SCH runs under a budget that is held below demand (R67). -/
def State.showBudget (s : State) : State := if s.degradedCauses.contains 0x42 then s.setF (H.DEGRADED 8) 1 else s

/-- Entry to `DEGRADED` where a trigger stands (R15, R66); a stop that falls with it is a cause not acted on, and takes effect at the next
boundary (log entry 66). -/
def State.toDegraded (s : State) : State :=
  match s.degradedCauses with
  | [] => s
  | c :: rest => s.showBudget.enterState .degraded c (rest ++ s.stopCause)

/-- Changes of state at a boundary (R66, R68, R118). -/
def State.nextState (s : State) : State :=
  match s.dev with
  | .spinup => if s.spunUp then ((s.enterState .run 0x12 []).armRestart).toDegraded else s
  | .run => s.toDegraded
  | .degraded => if s.allCleared then
      ((s.setF (H.DEGRADED 8) 0).enterState .run 0x43 []).armRestart else s.showBudget
  | _ => s

/-- Frame `f` begins (R80, R88, R99, R112). `prev`: the frame before it; `trans`: it carries `TRANSITION`. -/
def State.beginFrame (s : State) (f : Nat) (prev : Option FrameInfo) (trans : Bool) : State :=
  let b := s.getF F.SCH_BANK.SEL
  let x : FrameInfo := {
    num := f, epoch := s.epoch, tai := s.taiNs, bank := b, planned := List.replicate 5 0, started := List.replicate 5 0,
    reasons := List.replicate 9 0, excs := [], excLost := 0, transition := trans, degraded := s.dev = .degraded,
    holdover := !s.flag F.STE_STAT.REF_OK, truncated := false, state := s.dev.code, facets := s.getF F.SCH_PROG.FACETS,
    revs := s.getF F.SCH_PROG.REVS, rpm := s.getF F.SCH_PROG.RPM, trains := 0, pulses := 0, delayed := List.replicate 8 0,
    suppressed := List.replicate 8 0, validAll := s.flag F.STE_STAT.VALID, start := s.now, dark := 0, first := prev.isNone, opened := false,
    headerDone := false, statsDone := false, stop := none }
  let s := (if prev.isNone then s.dropCounts else s).mapSch (fun c => { c with frame := some x, at_ := some (0, 0) })
  let s := State.setTilt { s with ste := { s.ste with transition := trans } } (s.passEntry b 0).tilt
  let s := if trans then s.raiseEvt 8 3 else s
  let s := if s.flag F.SHT_CODE.MODE then s.raiseEvt 11 1 else s
  s.hkaBoundary.recPulse 8 s.taiNs

/-- Working loads latch at the boundary (R132), or as soon as their shift ends. -/
def State.latchLoads (s : State) : State :=
  (List.range 4).foldl (fun s c => match (s.chain c).load with
    | some k =>
      if k.zero then s
      else if decide (s.now < s.shiftEnd c k) then s.setChain c { s.chain c with load := some { k with late := true } }
      else
        let s := s.carrySwitches c (s.acceptAt s.frameNo)
        s.latchLoad c ((s.chain c).load.getD k)
    | none => s) s

/-- The blocks' own work at a boundary: staged tables, ambient light, creep, lines, field sets. `changed`: a commit applied; `ended`: a frame
ended. -/
def State.blocksBoundary (s : State) (changed ended : Bool) : State :=
  let s := ((s.etdBoundary).rxcBoundary ended).grnBoundary (s.progP0Slots (s.getF F.SCH_BANK.SEL))
  let s := ((s.creepBoundary).updateLines).calBoundary changed
  let s := s.applyFieldSet
  if s.pageOn 17 then s.setF (H.ISR 17) 0 else s

/-- R88, R107: the boundary falls with its frame pulse, at the pulse's instant; the interlock is armed where it begins `RUN` (R116). The
boundary at which a stop takes effect begins no frame: it applies no armed commit and `SYS_FRAME` stays (log entry 66). -/
def doFrameBoundary (t : Nat) (s : State) : State :=
  let s := s.at t
  if !s.frames || !s.ste.pulseDue || s.ste.pulse ≠ some s.now || s.rst.active.isSome then s
  else
    let due := s.boundaryCauses
    let s := { s with ste := { s.ste with pulseDue := false } }
    let prev := s.sch.frame
    let s := s.endFrame
    if !s.frames then s.noteCauses due
    else if s.sys.stopReq && (s.dev ≠ .run || s.degradedCauses.isEmpty) then
      ((s.blocksBoundary false prev.isSome).hkaBoundary.recPulse 8 s.taiNs).stopFrames s.turnCauses
    else
      let f := (s.frameNo + 1) % 2 ^ 32
      let s := (s.setF F.SYS_FRAME.VALUE f).latchLoads
      let due := s.commitDue f
      let target := s.getF F.STE_RPM.TARGET
      let s := if due then s.commitNow f else s
      let changed := s.getF F.STE_RPM.TARGET ≠ target
      let trans := changed || prev.any (fun p => p.transition && !p.validAll)
      (((s.blocksBoundary due prev.isSome).nextState).beginFrame f prev trans).armIlk

def execFrameBoundary (t : Nat) (s : State) : Host.Outcome State Fault Refusal := answer (doFrameBoundary t s)

/-! ## Doubt -/

/-- R64: a cause of doubt is latched. -/
def doSafeEntry (cause t : Nat) (s : State) : State := let s := s.at t; if safeCause cause then s.enterSafe cause [] else s

def execSafeEntry (cause t : Nat) (s : State) : Host.Outcome State Fault Refusal := answer (doSafeEntry cause t s)

end Sys2Proof.Machine
end

