-- ==== Sys2Proof/Machine/Regs.lean ====
section
/-! DEFINITION. Reads of the register space (R25 to R31): which register an address reaches, the words that are formed when they are
read, the array windows, the pending view (R29) and what `BLK_CTL.FREEZE` holds (R31, log entry 11). -/

namespace Sys2Proof.Machine

/-! ## Addresses -/

/-- The register that a page offset reaches: for a register that a `_SEL` register selects, the selected instance, and none where the
selection names no instance (log entry 12). -/
def State.homeOf (s : State) (a : Nat) : Option Nat :=
  match selectedBy a with
  | none => some a
  | some (f, n) =>
    let i := s.getF f
    if n ≤ i then none
    else if 0xD120 ≤ a ∧ a ≤ 0xD128 then some (a + (68 * s.getF F.RXC_GRP_SEL.GROUP + i + 1) * 0x1000000)
    else if f = F.LDG_REGION_SEL.CLASS ∧ i = 0 then none
    else some (a + (i + 1) * 0x1000000)

/-- The instance a store address names. -/
def instanceOf (h : Nat) : Nat := h / 0x1000000 - 1

/-- Put a value into a field of a word. -/
def Field.into (f : Field) (v w : Nat) : Nat := withField f.lsb f.width w v
/-- Put a bit into a word. -/
def Field.bit (f : Field) (b : Bool) (w : Nat) : Nat := f.into (if b then 1 else 0) w

/-! ## Words formed when they are read -/

/-- A bank is in use (R85, R86): while frames run, the active one, and one that governs the frame or a measurement not yet closed. -/
def State.bankInUse (s : State) (b : Nat) : Bool :=
  s.frames && (s.getF F.SCH_BANK.SEL = b || s.sch.frame.any (fun f => f.bank = b)
    || s.grn.slots.any (fun e => s.bankOf e.2.epoch = b && (e.2.state = 1 || e.2.state = 2)))

/-- A bank is held by an armed commit that names it as the next active bank (R85). -/
def State.bankHeld (s : State) (b : Nat) : Bool :=
  s.sys.armed.isSome && (s.pendingAt F.SCH_BANK.SEL.addr).any (fun w => w.toNat % 2 = b)

/-- A coefficient bank is active (R413). -/
def State.coefActive (s : State) (b : Nat) : Bool := s.flag F.DFL_CTL.SRC && s.getF F.DFL_CTL.BANK = b
/-- It is in use: active, or the set of the last output set, which a commit has left, until the next one (R85, R414, R415). -/
def State.coefInUse (s : State) (b : Nat) : Bool := s.coefActive b || (s.exc.used.1 = 1 && s.exc.used.2.1 = b)
/-- It is held by an armed commit (R414). -/
def State.coefHeld (s : State) (b : Nat) : Bool :=
  s.sys.armed.isSome && s.pendF F.DFL_CTL.SRC = 1 && s.pendF F.DFL_CTL.BANK = b && (s.pendingAt F.DFL_CTL.SRC.addr).isSome

/-- The header words (R31): READY, FROZEN and LOCKED, PENDING, the capability bit of SFA and SFB (R258). -/
def State.headerView (s : State) (p o w : Nat) : Nat :=
  if o = 0x00C then (H.READY p).bit true (Field.bit ⟨0, 2, 1⟩ (s.flag (H.FREEZE p)) (Field.bit ⟨0, 4, 1⟩ (s.flag (H.LOCK p)) w))
  else if o = 0x028 then Field.bit ⟨0, 0, 1⟩ (s.pagePending p) w
  else if o = 0x004 && (p = 16 || p = 17) then Field.bit ⟨0, 0, 1⟩ s.gradeS w
  else w

def State.viewSys (s : State) (o w : Nat) : Nat :=
  if o = 0x120 then F.SYS_COMMIT.GO.bit s.sys.armed.isSome w
  else if o = 0x130 then s.eventSum
  else if o = 0x138 then F.SYS_ALERT_CTL.ASSERTED.bit s.pins.alertLow w
  else if o = 0x13C then min 0xFFFFFFFF ((s.now - s.sys.l0At) / 1000000000)
  else w

/-- `RST_NRST.LEVEL` is the filtered level of `NRST`, and HELD counts while it is low (R383); `RST_GATE.WAIT` shows what waits for its clock at the instant of the read (R388). -/
def State.viewRst (s : State) (o w : Nat) : Nat :=
  if o = 0x118 then
    match s.rst.nrstLow with
    | some from_ => F.RST_NRST.LEVEL.into 0 (F.RST_NRST.HELD.into (max (s.getF F.RST_NRST.HELD) (min 0xFFFF ((s.now - from_) / 1000000000))) w)
    | none => F.RST_NRST.LEVEL.into 1 w
  else if o = 0x130 then
    let held := fun (n : Nat) => (List.range 36).any (fun d => s.domainWaits d n) && (tabFind n s.time.stableFrom).isNone
    if s.rst.active.isSome then w else (List.range 9).foldl (fun w n => if held n then (⟨F.RST_GATE.WAIT.addr, n, 1⟩ : Field).bit true w else w) w
  else w

def State.viewTsy (s : State) (o w : Nat) : Nat :=
  if o = 0x108 then s.taiNs % 2 ^ 32
  else if o = 0x10C then s.taiNs / 2 ^ 32 % 2 ^ 32
  else if o = 0x144 then min 0xFFFFFFFF s.holdSeconds
  else w

/-- Spares of a pool kind left and in service (R355, R356). -/
def State.poolCount (s : State) (k : Nat) : Nat × Nat :=
  let sum := fun (l : List Nat) => l.sum
  let both := fun (p : Nat) => (s.getF (H.SPARE_LEFT p), s.getF (H.SPARE_USED p))
  match k with
  | 0 =>
    let etd := (List.range 9).map (fun i => (s.getF (F.ETD_TAPS.LEFT.inst i), s.getF (F.ETD_TAPS.USED.inst i)))
    let smp := (List.range 1088).map (fun i => (s.getF (F.RXC_SMP_TAPS.LEFT.inst i), s.getF (F.RXC_SMP_TAPS.USED.inst i)))
    (sum ((etd ++ smp).map (·.1)), sum ((etd ++ smp).map (·.2)))
  | 1 => both 13
  | 2 => both 12
  | 3 => both 14
  | 4 => both 22
  | 5 => ((both 18).1 + (both 19).1, (both 18).2 + (both 19).2)
  | 6 =>
    let active := (onesOf 5 (s.getF F.CPU_CORES.ACTIVE)).length
    let failed := (onesOf 5 (s.getF F.CPU_CORES.FAILED)).length
    (5 - active - failed, min 1 failed)
  | 7 => both 2
  | 8 => both 10
  | _ =>
    let out := s.getF F.LDG_BANK.A_FAIL + s.getF F.LDG_BANK.B_FAIL
    (1 - out, min 1 out)

/-- Spares provided over all pools of a kind (R349). -/
def State.poolTotal (s : State) (k : Nat) : Nat :=
  if k = 8 then ((List.range 128).filter (fun l => s.flag (trimPresent (128 + l)))).length
  else nth 0 [32 * 1097, 64, 1, 8, 2, 4, 1, 5, 0, 1] k

def State.viewCal (s : State) (o i w : Nat) : Nat :=
  if o = 0x140 then
    let (left, used) := s.poolCount i
    F.CAL_POOL_CNT.LEFT.into (min 0xFFFF left) (min 0xFFFF used)
  else if o = 0x144 then
    F.CAL_POOL_STAT.TOTAL.into (s.poolTotal i) (F.CAL_POOL_STAT.EXHAUSTED.bit (s.bitF F.CAL_EXHAUST.KINDS i) w)
  else w

def State.viewSch (s : State) (o i w : Nat) : Nat :=
  if o = 0x104 then
    s.getF F.SCH_BANK.SEL + (if s.bankInUse 0 then 2 else 0) + (if s.bankInUse 1 then 4 else 0) + (if s.bankHeld 0 then 8 else 0)
      + (if s.bankHeld 1 then 16 else 0)
  else if o = 0x120 then F.SCH_PWR_CAP.USED.into (min 0xFFFF s.startsLately) w
  else if o = 0x128 then min 0xFFFFFF (countAt i s.sch.heat) + 2 ^ 24 * ((s.admitted i * 255).floor.toNat)
  else w

/-- `EMT_OUT` of a line (R126, R129): in compatibility mode the eight bits sent. -/
def State.lineOut (s : State) (l : Nat) : Nat :=
  let ch := s.chain (l / 32)
  let w := nth 0 ch.last (l % 32)
  let drive := if ch.yc then w / 2 ^ 19 % 256 * 16 else w % 4096
  min 0xFFFF (nth 0 ch.energies (l % 32)) * 65536 + drive

/-- The EMT page: `EMT_ZONE_USE` shows the energy truncated to its unit (DESIGN CHOICE, log entry 81: R145 states no rounding). -/
def State.viewEmt (s : State) (o i w : Nat) : Nat :=
  if o = 0x140 then min 0xFFFF (s.shortUse i s.now / (10 * 65536)) + 65536 * min 0xFFFF (s.longUse i s.now / (1000 * 65536))
  else if o = 0x188 then
    let en := fun (p : Nat → Bool) => (List.range 4).all (fun c => !s.chainEn c || p c)
    F.EMT_EMIT.LEVEL.bit s.pins.emitEn (F.EMT_EMIT.NOILK.bit (!s.flag F.STE_STAT.ILK)
      (F.EMT_EMIT.CHAINS.bit (en (fun c => s.chainState c = 2)) (F.EMT_EMIT.LOADED.bit (en (fun c => (s.chain c).loaded)) 0)))
  else if o = 0x1A0 then s.lineOut i
  else w

/-- `SHT_CELL`: B for single-slot and two-slot trains; `SHT_KEYCHK`: the low 16 bits of AES-128 of 0 under the code key. -/
def State.viewSht (s : State) (o w : Nat) : Nat :=
  if o = 0x108 then ofBe (aes128 s.codeKey (List.replicate 16 0)) % 65536
  else if o = 0x10C then F.SHT_CELL.TWO.into (cellBase s.startOffset true) (cellBase s.startOffset false)
  else w

/-- The width table of a sampler is current (R152). -/
def State.tableCurrent (s : State) (inst : Nat) : Bool :=
  match tabFind (inst + 16) s.rxc.refreshed with
  | some t => decide (s.now ≤ t + 86400000000000) && !s.flag (F.RXC_SMP_TBL.PROV.inst inst)
  | none => !s.flag (F.RXC_SMP_TBL.PROV.inst inst)

/-- `RXC_GRP_STAT`: channels without a sampler; `RXC_SMP_STAT`: hits, test source, lock and channel as they stand (R184). -/
def State.viewRxc (s : State) (o i w : Nat) : Nat :=
  if o = 0x110 then F.RXC_GRP_STAT.NOSMP.into (s.samplerless i) w
  else if o = 0x120 then
    let w := F.RXC_SMP_STAT.HITS.into (min 0xFFFF (countAt (i + 16) s.rxc.edges / 16)) (F.RXC_SMP_STAT.SRC.bit (s.testSource (i / 68) (i % 68)) w)
    F.RXC_SMP_STAT.LOCK.bit (s.samplerLocked (i / 68) (i % 68)) (F.RXC_SMP_STAT.CHANNEL.into (s.samplerChannel (i / 68) (i % 68)) w)
  else if o = 0x124 then F.RXC_SMP_TBL.CURRENT.bit (s.tableCurrent i) w
  else w

def State.viewGrn (s : State) (o i w : Nat) : Nat :=
  if o = 0x124 then
    let open_ := ((List.range 512).filter (fun k => let st := s.slotState (i * 512 + k); st = 1 || st = 2)).length
    F.GRN_ENG_SLOTS.OPEN.into open_ (s.freeSlots i).length
  else w

/-- The worst-case response time in µs (R249): none without an active image or frames. -/
def State.responseUs (s : State) : Nat :=
  match s.image with
  | some i =>
    let (num, den) := s.framePeriod
    if s.frames && den ≠ 0 then (imgN i + 1) * num / (den * 1000) + 8000 else 0
  | none => 0

/-- An SFA word (R258). A pulse on `RESTART` reaches the block as a whole, at its trailing edge: the filtered level shown is 0 (log entry 82). -/
def State.viewSfa (s : State) (o w : Nat) : Nat :=
  if o = 0x12C then F.SFA_OSSD.OSSDA.bit s.pins.ossdA (F.SFA_OSSD.OSSDB.bit s.pins.ossdB (F.SFA_OSSD.FBA.bit s.feedback.1
    (F.SFA_OSSD.FBB.bit s.feedback.2 w)))
  else if o = 0x134 then F.SFA_DISC.RUN_MS.into (min 0xFFFF s.longestRun) w
  else if o = 0x13C then min 0xFFFFFFFF s.responseUs
  else if o = 0x140 then
    F.SFA_LOCK.WINDOW.into (match s.saf.clearAt with
      | some a => (a + 10000000000 - s.now + 99999999) / 100000000
      | none => 0) w
  else if 0x114 ≤ o ∧ o < 0x12C then 0
  else w

/-- An SFB word: channel B's own image, `IMG_SEQ`, settings and measure of the last `RESTART` pulse; the rest is as SFA has it (R259). -/
def State.viewSfb (s : State) (h o w : Nat) : Nat :=
  let shared := s.viewSfa o (s.peek (h - 0x1000)).toNat
  if o = 0x104 ∨ o = 0x108 ∨ o = 0x10C ∨ o = 0x138 then w
  else if o = 0x148 then F.SFA_RESTART.LAST_MS.into w shared
  else shared

def State.viewNet (s : State) (p o w : Nat) : Nat :=
  if o = 0x114 then
    let free := (4194304 - ((s.port p).ownBits + 7) / 8) / 1024
    F.NTA_CREDIT.LEVEL.into (s.portCredit p) free
  else if o = 0x10C then F.NTA_EYE.MARGIN.into (if w % 8 < 5 then nth 0 (s.port p).margins (w % 8) else 0) w
  else if o = 0x118 then
    let sec := s.taiNs / 1000000000
    let n := if sec = 0 then (0, 0) else (tabFind (sec - 1) (s.port p).fec).getD (0, 0)
    F.NTA_FEC.UNCORR.into (min 0xFFFF n.2) (min 0xFFFF (n.1 / 1024))
  else w

def State.viewQue (s : State) (o w : Nat) : Nat :=
  if o = 0x10C then F.QUE_SESS.OPEN.into s.tp.sessions.length w
  else if o = 0x110 then s.tp.queues.length
  else if o = 0x120 then F.QUE_RXQ.FILL.into ((rxBytes s.tp.rxq + 1023) / 1024) w
  else w

/-- The retained records of a class, latest first. -/
def State.classRecords (s : State) (c : Nat) : List JRec := s.tp.journal.filter (fun r => r.cls = c && !r.lost)

def State.viewLdg (s : State) (o i w : Nat) : Nat :=
  if o = 0x104 then F.LDG_FILL.UNCOPIED.into (min 2048 s.uncopied) (min 16384 s.tp.banks.length)
  else if o = 0x108 then F.LDG_NOR.ENTRIES.into (min 262144 s.tp.nor.length) w
  else if o = 0x11C then
    match (s.classRecords i).getLast? with
    | some r => min 0xFFFFFFFF ((s.now - r.time) / 1000000)
    | none => 0
  else if o = 0x120 then
    let sec := s.now / 1000000000
    if sec = 0 then 0 else countAt ((sec - 1) * 16 + i) s.tp.rates / 1000000
  else w

/-- Progress of a rebuild or copy: 2 GiB at 8 GB/s (R333, R334). -/
def State.rebuildPermil (s : State) (r : Rebuild) : Nat := min 1000 ((s.now - r.start) * 1000 / 268435456)

/-- `MEM_REBUILD.PERMIL`. -/
def State.viewMem (s : State) (o w : Nat) : Nat :=
  if o = 0x104 then
    F.MEM_REBUILD.PERMIL.into (match s.shownRebuild with
      | some r => s.rebuildPermil r
      | none => 0) w
  else if o = 0x10C then
    let n := match tabFind (s.getF F.MEM_ERR_SEL.CHAN) s.mem.corr with
      | some e => if e.1 = s.now / 1000000000 then e.2 else 0
      | none => 0
    F.MEM_ERR.CORR.into (min 0xFFFF n) w
  else if o = 0x110 then
    let rate := fun (dir : Nat) => countAt ((s.now / 1000000 - 1) * 2 + dir) s.tp.moved / 1000000
    if s.now < 1000000 then 0 else F.MEM_BW.READ.into (min 0xFFFF (rate 1)) (min 0xFFFF (rate 0))
  else w

def State.viewDfl (s : State) (o w : Nat) : Nat :=
  if o = 0x104 then
    F.DFL_BANK_STAT.INUSE_A.bit (s.coefInUse 0) (F.DFL_BANK_STAT.INUSE_B.bit (s.coefInUse 1)
      (F.DFL_BANK_STAT.HELD_A.bit (s.coefHeld 0) (F.DFL_BANK_STAT.HELD_B.bit (s.coefHeld 1) w)))
  else w

/-- `REC_TMRk.REMAIN`, in 100 µs units, rounded up. -/
def State.viewRec (s : State) (o w : Nat) : Nat :=
  if 0x150 ≤ o ∧ o < 0x160 then
    let k := (o - 0x150) / 4
    match tabFind k s.rcd.timers with
    | some until_ => F.REC_TMR.REMAIN.into ((until_ - s.now + 99999) / 100000) w
    | none => F.REC_TMR.REMAIN.into 0 w
  else w

/-- GIO (R451): the outputs as driven; `NRST` as filtered; `TRIG_IO` and `HKA_TRG` as their last edges left them; a module present pin as last
reported, low with a module. The levels of the other inputs reach no command and are open (log entry 7). -/
def State.viewGio (s : State) (o w : Nat) : Nat :=
  if o = 0x100 then
    let open_ := withField 9 1 (s.freeNat % 2 ^ 17) 0
    let pin := fun (f : Field) (p w : Nat) => match (s.port p).present with
      | some b => f.bit (!b) w
      | none => w
    F.GIO_IN.NRST.bit s.rst.nrstLow.isNone (F.GIO_IN.TRIG_IO.into (s.getF F.GIO_IN.TRIG_IO)
      (F.GIO_IN.HKA_TRG.into (s.getF F.GIO_IN.HKA_TRG) (pin F.GIO_IN.MPRS_A 0 (pin F.GIO_IN.MPRS_B 1 open_))))
  else if o = 0x104 then
    F.GIO_OUT.EMIT_EN.bit s.pins.emitEn (F.GIO_OUT.OSSDA.bit s.pins.ossdA (F.GIO_OUT.OSSDB.bit s.pins.ossdB
      (F.GIO_OUT.ALERT_N.bit s.pins.alertLow (F.GIO_OUT.TRIG_IO.bit (s.flag F.REC_IO.DIR) (F.GIO_OUT.POLY_BRK.bit (s.pins.drive = .brake) 0)))))
  else w

/-- Physical quantities that no command brings: each reads an open value (log entry 7). -/
def State.openView (s : State) (a w : Nat) : Nat :=
  if a = 0x2130 then F.PWM_RAIL.CURRENT.into s.freeNat w
  else w

/-- PWM: MEM and the grade in `PWM_DOM_EN0`; a domain whose turn in R365 is still to come is `OFF` and has not started. -/
def State.viewPwm (s : State) (o i w : Nat) : Nat :=
  if o = 0x11C then F.PWM_DOM_EN0.EN.into (withField 2 1 w (if s.gradeS then 1 else 0)) 0
  else if o = 0x128 then (if s.awaitsTurn i then F.PWM_DOM_STAT.STATE.into 0 (F.PWM_DOM_STAT.CYCLES.into (fieldOf 16 16 w - 1) w) else w)
  else w

/-- The word of a page register at store address `h`, as it stands at the instant of the read. -/
def State.liveWord (s : State) (h : Nat) : Nat :=
  let a := h % 0x1000000
  let i := instanceOf h
  let p := a / 0x1000
  let o := a % 0x1000
  let w := s.openView a (s.peek h).toNat
  if o < 0x30 then (if p = 17 && o = 0x014 then 0 else s.headerView p o w)
  else
    match p with
    | 0 => s.viewSys o w
    | 1 => s.viewRst o w
    | 2 => s.viewPwm o i w
    | 3 => if o = 0x108 then F.THM_PARAM.TAU.into (thmTau i) (thmTheta i) else w
    | 5 => s.viewTsy o w
    | 6 => s.viewCal o i w
    | 8 => s.viewSch o i w
    | 10 => s.viewEmt o i w
    | 11 => s.viewSht o w
    | 13 => s.viewRxc o i w
    | 14 => s.viewGrn o i w
    | 15 => if o = 0x1A4 then F.CRM_BACKLOG.NOW.into s.backlog w else w
    | 16 => s.viewSfa o w
    | 17 => if o < 0x14C then s.viewSfb h o w else w
    | 18 => s.viewNet 0 o w
    | 19 => s.viewNet 1 o w
    | 20 => s.viewQue o w
    | 21 => s.viewLdg o i w
    | 22 => s.viewMem o w
    | 25 => s.viewDfl o w
    | 26 => s.viewRec o w
    | 27 => s.viewGio o w
    | _ => w

/-! ## Windows -/

/-- Word `o` of entry `q` of the queue table (R339). -/
def State.queueWord (s : State) (q o : Nat) : Nat :=
  match s.queue q with
  | none => 0
  | some x =>
    let auth := (tabFind x.session s.tp.sessions).any (fun y => y.slot.isSome)
    let full := decide (x.window * 1024 ≤ unackedBytes x) || (decide (x.sent + 1 < x.next)
      && decide (x.window * 1024 < unackedBytes x + windowBytes ((s.items q (x.sent + 1) (x.sent + 1)))))
    let state := if x.waitHdr then 3 else if full then 2 else 1
    let stat := state + (if x.portB then 4 else 0) + (if auth then 8 else 0)
    let top := s.now / 1000000000 * 1000000000
    let resent := (x.resent.filter (fun r => decide (top ≤ r + 1000000000) && decide (r < top))).length
    match o / 4 with
    | 0 => stat + 65536 * (x.session % 4096)
    | 1 => x.gen
    | 2 => x.cls + 65536 * x.dport
    | 3 => x.flush + 65536 * x.maxdg
    | 4 => x.filter0
    | 5 => x.filter1
    | 6 => x.next % 2 ^ 32
    | 7 => x.next / 2 ^ 32 % 2 ^ 32
    | 8 => x.sent % 2 ^ 32
    | 9 => x.sent / 2 ^ 32 % 2 ^ 32
    | 10 => x.acked % 2 ^ 32
    | 11 => x.acked / 2 ^ 32 % 2 ^ 32
    | 12 => x.window
    | 13 => min 0xFFFF ((x.leaseEnd - s.now) / 1000000) + 65536 * min 0xFFFF resent
    | 14 => min 0xFFFFFFFF x.gapped
    | _ => min 0xFFFFFFFF x.ackErr

/-- Word `o` of a measurement slot (R205). -/
def Meas.slotWord (m : Meas) (second : Bool) (o : Nat) : Nat :=
  let bit := fun (b : Bool) (k : Nat) => if b then 2 ^ k else 0
  let cand := fun (j : Nat) => match m.cands[j]? with
    | some b => b % 8192 + 8192
    | none => 0
  match o / 4 with
  | 0 => m.state + bit m.two 3 + bit second 4 + bit m.hist 5 + bit m.est 6 + bit m.absent 7 + bit m.nocand 8 + bit m.late 9
      + bit m.chFault 10 + bit m.tileFault 11 + bit m.zoomFault 12 + bit m.lost 13 + 65536 * (m.chan % 1024 + 1024 * m.cls)
  | 1 => m.frame
  | 2 => m.train % 2 ^ 24 + 2 ^ 24 * (m.pulses % 64)
  | 3 => m.used % 64 + 256 * (m.zfrom % 64) + 65536 * (m.group % 65536)
  | 4 => min 0xFFFF m.lostCnt + 65536 * (m.base % 65536)
  | 5 => cand 0 + 65536 * cand 1
  | 6 => cand 2 + 65536 * cand 3
  | _ => (List.range 4).foldl (fun n j => n + min 32 (m.support j) * 64 ^ j) 0 + 2 ^ 24 * (m.zpulses % 64)

def State.slotTableWord (s : State) (n o : Nat) : Nat :=
  match tabFind n s.grn.slots with
  | some m => m.slotWord false o
  | none =>
    match (if n % 2 = 1 then (tabFind (n - 1) s.grn.slots).filter (·.two) else none) with
    | some m => m.slotWord true o
    | none => if o = 0 then s.slotState n else 0

/-- A word of the per-channel window (R183): FLAGS shows a channel without a sampler, and a sampler whose table is not current. -/
def State.chanWord (s : State) (c a : Nat) (w : Nat) : Nat :=
  if a % 64 = 8 then
    match s.samplerOf c with
    | some k => withField 19 1 w (if s.tableCurrent (samplerInst (c / 64) k) then 0 else 1)
    | none => withField 17 1 (withField 19 1 w 0) 1
  else w

/-- A word of a trim entry (R125): INELIGIBLE follows the accepted wavelength bins. -/
def State.trimWord (s : State) (e a : Nat) (w : Nat) : Nat :=
  if a % 64 = 20 then withField 10 1 w (if s.ineligible e (s.getF F.EMT_WL.ACCEPT) then 1 else 0) else w

/-- The pending view of the register at `a` (R29). -/
def State.pendingWord (s : State) (a : Nat) : Nat :=
  match s.homeOf a with
  | some h => mergeFields (shFields h) 0 (s.current h).toNat
  | none => 0

/-- The statistics and counter fields of a word (log entry 11). -/
def statFields (h : Nat) : List FieldSpec :=
  match regionOf (h % 0x1000000) with
  | .que _ o => if o = 52 then [⟨16, 16, .ro, 0, .none, true⟩] else if o = 56 ∨ o = 60 then [⟨0, 32, .ro, 0, .none, true⟩] else []
  | _ => (fieldsAt h).filter (fun f => f.stat)

/-- A word whose page is frozen shows its statistics as they stood when `FREEZE` was set. -/
def State.frozenOver (s : State) (h w : Nat) : Nat :=
  match pageOf (h % 0x1000000) with
  | some p => if s.flag (H.FREEZE p) then mergeFields (statFields h) w (cellGet (resetWord h) h s.frozen).toNat else w
  | none => w

/-- The word at a mapped, aligned address. -/
def State.readWord (s : State) (a : Nat) : Nat :=
  match regionOf a with
  | .page p o =>
    if (0x800 ≤ o ∧ o < 0x830) ∨ 0x900 ≤ o then s.pendingWord (a - 0x800)
    else if (0x30 ≤ o ∧ o < 0x100) ∨ 0x800 ≤ o then 0
    else
      match s.homeOf a with
      | some h => if p = 17 ∧ 0x100 ≤ o ∧ o < 0x14C then s.liveWord h else s.frozenOver h (s.liveWord h)
      | none => 0
  | .rxc c _ => s.frozenOver a (s.chanWord c a (s.peek a).toNat)
  | .que q o => s.frozenOver a (s.queueWord q o)
  | .bank _ _ => (s.ramAt a).toNat
  | .trim e _ => s.trimWord e a (s.peek a).toNat
  | .slot n o => s.slotTableWord n o
  | .coef _ _ => (s.ramAt a).toNat
  | .lin _ _ => (s.peek a).toNat
  | .unmapped => 0

/-- What reading a word changes: `HKA_RESn` and `HKA_DATA` clear VALID and OVR (R404); an open value has been taken. -/
def State.afterRead (s : State) (a : Nat) : State :=
  let s := if (0x17188 ≤ a ∧ a < 0x171C8) ∨ a = 0x171C8 then
      s.poke a (BitVec.ofNat 32 (withField 30 2 (s.peek a).toNat 0))
    else s
  if [0x2130, 0x1012C, 0x1112C, 0x1210C, 0x1310C, 0x12118, 0x13118, 0x1610C, 0x16110, 0x1B100].contains a then s.tick else s

/-- Read `n` words from address `a` upwards. -/
def State.readWords : Nat → Nat → State → List Nat × State
  | 0, _, s => ([], s)
  | n + 1, a, s =>
    let w := s.readWord a % 2 ^ 32
    let (l, s) := State.readWords n (a + 4) (s.afterRead a)
    (w :: l, s)

/-- An access is refused (R11, R24, R25): `ADDR_ERROR` 1 when unaligned or unmapped, `DOMAIN_OFF` 8. -/
def State.accessRefused (s : State) (a : Nat) : Option Nat :=
  if a % 4 ≠ 0 then some 1
  else
    match pageOf a with
    | none => some 1
    | some p => if s.pageOn p then none else some 8

/-- The words `a`, `a + 4`, … of an access. -/
def wordAddrs (a n : Nat) : List Nat := (List.range n).map (fun i => a + 4 * i)

/-! ## FREEZE -/

/-- Words of a page with statistics that are formed when read: they are not in the register store as they stand. -/
def computedStats (s : State) (p : Nat) : List Nat :=
  match p with
  | 0 => [0x13C]
  | 2 => (List.range 8).map (fun i => 0x2130 + (i + 1) * 0x1000000)
  | 18 => [0x12118]
  | 19 => [0x13118]
  | 20 => s.tp.queues.flatMap (fun e => [0x200000 + 64 * e.1 + 52, 0x200000 + 64 * e.1 + 56, 0x200000 + 64 * e.1 + 60])
  | 21 => (List.range 8).map (fun i => 0x15120 + (i + 2) * 0x1000000)
  | 22 => (List.range 10).map (fun i => 0x1610C + (i + 1) * 0x1000000) ++ [0x16110]
  | _ => []

/-- The word as it would be read, for the snapshot. -/
def State.statWord (s : State) (h : Nat) : Nat :=
  match regionOf (h % 0x1000000) with
  | .page _ _ => s.liveWord h
  | .que q o => s.queueWord q o
  | _ => (s.peek h).toNat

/-- `FREEZE` becomes 1: the page's statistics are held as they stand. -/
def State.freezePage (s : State) (p : Nat) : State :=
  let mine := (s.regs.map (·.1)).filter (fun h => pageOf (h % 0x1000000) = some p && !(statFields h).isEmpty)
  let words := mine ++ computedStats s p
  words.foldl (fun s h => { s.tick with frozen := cellPut (resetWord h) h (BitVec.ofNat 32 (s.statWord h)) s.frozen }) s

/-- `FREEZE` becomes 0: the registers catch up. -/
def State.thawPage (s : State) (p : Nat) : State :=
  { s with frozen := s.frozen.filter (fun e => pageOf (e.1 % 0x1000000) ≠ some p) }

end Sys2Proof.Machine
end

