-- ==== Sys2Proof/Machine/Validate.lean ====
section
/-! DEFINITION. The validation of the pending values at `GO` (R38): the limits that each chapter states, page by page. -/

namespace Sys2Proof.Machine

/-- Why a `GO` is refused: the status, the page that records it, the code and the failing address. -/
structure GoFail where
  status : Nat
  page : Nat
  code : Nat
  addr : Nat
  deriving DecidableEq, Repr

/-- The first of a list of checks that fails. -/
def firstFail (l : List (Option GoFail)) : Option GoFail := l.findSome? id

/-- The word of a field is pending. -/
def State.isPending (s : State) (f : Field) : Bool := (s.pendingAt f.addr).isSome
/-- Some word of a list is pending. -/
def State.anyPending (s : State) (fs : List Field) : Bool := fs.any s.isPending
/-- A field's pending value differs from its active one. -/
def State.changes (s : State) (f : Field) : Bool := s.pendF f != s.getF f

/-- A refusal at a field's address with a status. -/
def Field.fail (f : Field) (status code : Nat) (bad : Bool) : Option GoFail :=
  if bad then some { status := status, page := (pageOf (f.addr % 0x1000000)).getD 0, code := code, addr := f.addr % 0x1000000 } else none

/-- A pending field must satisfy `ok`; otherwise `CONFIG`. -/
def State.limit (s : State) (f : Field) (code : Nat) (ok : Nat → Bool) : Option GoFail :=
  f.fail 4 code (s.isPending f && !ok (s.pendF f))

/-- A pending field must lie from `lo` to `hi`. -/
def State.range (s : State) (f : Field) (code lo hi : Nat) : Option GoFail := s.limit f code (between lo hi)

/-- R34: no commit changes `BLK_CTL.EN` of a datapath page while frames run. -/
def State.failEn (s : State) (p : Nat) : Option GoFail := (H.EN p).fail 3 0x08 (s.frames && datapathPage p && s.changes (H.EN p))

/-- R366 and `PWM_MODEL` (R374). -/
def State.failPwm (s : State) : Option GoFail :=
  let clears := fun (f : Field) (i : Nat) => (s.getF f).testBit i && !(s.pendF f).testBit i
  let e0 := F.PWM_DOM_EN0.EN
  let e1 := F.PWM_DOM_EN1.EN
  firstFail [s.range F.PWM_MODEL.EMEAS 0x07 100 10000,
    e0.fail 3 0x80 (clears e0 (6 + s.hostPort) || (s.frames && (List.range 32).any (fun i => decide (6 ≤ i) && i != 7 && clears e0 i))),
    e1.fail 3 0x80 (s.frames && (List.range 4).any (clears e1))]

/-- `TSY_CTL` (R262, R271, R277): one block code for every check. -/
def State.failTsy (s : State) : Option GoFail :=
  let f := s.pendF
  let fits := decide (f F.TSY_CTL.SRC < 5) && f F.TSY_CTL.PROFILE != 3 && f F.TSY_CTL.TRANSPORT != 3 && between 1 5 (f F.TSY_CTL.SLEW)
    && f F.TSY_CTL.STEP != 0 && (f F.TSY_CTL.PROFILE != 2 || f F.TSY_CTL.TRANSPORT = 2) && !(f F.TSY_CTL.GM_EN = 1 && f F.TSY_CTL.SRC = 1)
  F.TSY_CTL.SRC.fail 4 0x80 (s.isPending F.TSY_CTL.SRC && !fits)

/-- The CAL page (R356). -/
def State.failCal (s : State) : Option GoFail :=
  firstFail [s.range F.CAL_SCHED.ETD_INT 0x07 1 1440, s.range F.CAL_WEAR_TAP.LOW 0x07 0 31, s.range F.CAL_WEAR_LANE.EYE_TIME 0x07 1 65535,
    s.range F.CAL_CREEP.LIMIT 0x07 1 2047]

/-- R87: the bank that will be active, for the values that will be active. -/
def State.failProgram (s : State) : Option GoFail :=
  if s.anyPending [F.SCH_BANK.SEL, F.STE_RPM.TARGET] then
    let b := s.pendF F.SCH_BANK.SEL
    let trim := fun (k : Nat) => signed 24 (s.pendF (F.STE_FACET_TRIM.TRIM.idx k))
    (s.progBad b (s.pendF F.STE_RPM.TARGET) (s.pendF F.GRN_START.OFS * 16) trim).map (fun off =>
      { status := 4, page := 8, code := 0x80, addr := 0x400000 + b * 0x100000 + off / 4 * 4 })
  else none

/-- The SCH page (R87, R101). -/
def State.failSch (s : State) : Option GoFail :=
  let thr := F.SCH_THERM_THR.VALUE
  let lim := F.SCH_THERM_LIM.VALUE
  firstFail [s.failProgram, s.range F.SCH_THERM_TAU.VALUE 0x07 16 65535,
    (if s.isPending thr then thr else lim).fail 4 0x07 (s.anyPending [thr, lim] && decide (s.pendF lim ≤ s.pendF thr))]

/-- The STE page (R106, R108, R123). -/
def State.failSte (s : State) : Option GoFail :=
  let ctl := F.STE_CTL.MODE
  firstFail [s.limit F.STE_CTL.GV_SRC 0x07 (fun v => decide (v < 2)), s.limit F.STE_CTL.MODE 0x07 (fun v => v != 3),
    s.limit F.STE_CTL.REFSRC 0x07 (fun v => v != 3),
    ctl.fail 4 0x80 (s.isPending ctl && s.pendF ctl = 1 && s.pendF F.STE_CTL.REFSRC = 0),
    s.range F.STE_RPM.RAMP 0x07 1 6000, s.range F.STE_RPM.TARGET 0x07 600 6000, s.range F.STE_LOCK.DWELL 0x07 10 10000,
    s.range F.STE_PWM.GV_DIV 0x07 250 2500, s.range F.STE_PWM.PG_DIV 0x07 250 2500]

/-- The EMT page (R127, R135, R145). -/
def State.failEmt (s : State) : Option GoFail :=
  firstFail ((List.range 4).map (fun c =>
    let compat := F.EMT_CHAIN_CTL.COMPAT.idx c
    firstFail [s.range (F.EMT_CHAIN_CTL.DIV.idx c) 0x07 20 60, compat.fail 4 0x07 (s.changes compat && s.chainState c != 0),
      s.range (F.EMT_CHAIN_CTL.TSRC.idx c) 0x07 0 11, s.range (F.EMT_CHAIN_CTL.TOFF.idx c) 0x07 1 255]))

/-- R149: the stop window. -/
def State.failEtd (s : State) : Option GoFail :=
  let lo := s.pendF F.ETD_WIN.MIN
  let hi := s.pendF F.ETD_WIN.MAX
  F.ETD_WIN.MIN.fail 4 0x80 (s.isPending F.ETD_WIN.MIN && !(between 2 80 lo && between (lo + 8) (lo + 47) hi))

/-- The RXC page (R179 to R181, R184). -/
def State.failRxc (s : State) : Option GoFail :=
  let seq := F.RXC_I2C_CFG.APPLY_SEQ
  let speed := fun (n : Nat) => fieldOf (2 * n) 2 (s.pendF F.RXC_I2C_CFG.SPEED)
  let en := fun (n : Nat) => (s.pendF F.RXC_I2C_CFG.APPLY_EN).testBit n
  firstFail [s.range F.RXC_CTL.AVG 0x07 0 4, F.RXC_I2C_CFG.SPEED.fail 4 0x07 ((List.range 4).any (fun n => speed n = 3)),
    seq.fail 4 0x07 (s.changes seq && (List.range 4).any (fun n => en n && (speed n != 2 || s.flag (F.RXC_I2C_CMD.GO.bus n))))]

/-- The GRN page (R189, R206). -/
def State.failGrn (s : State) : Option GoFail :=
  let ofs := s.pendF F.GRN_START.OFS
  let two := fun (_ : Unit) => ofs != 0 && s.progTwoSlot (s.pendF F.SCH_BANK.SEL)
  firstFail [F.GRN_START.OFS.fail 4 0x80 (s.isPending F.GRN_START.OFS && decide (128 < ofs)), F.GRN_START.OFS.fail 4 0x80 (two ()),
    s.range F.GRN_ZOOM.PASS1 0x07 4 16]

/-- The CRM page (R232). -/
def State.failCrm (s : State) : Option GoFail :=
  firstFail [s.range F.CRM_DET.MAXRET 0x80 1 4, s.range F.CRM_CENT.HALF 0x80 1 15, s.range F.CRM_PILE.BINS 0x80 2 24,
    s.range F.CRM_MOUNT.STALE_MS 0x80 1 255]

/-! ## The safety image and the program (R236, R237) -/

/-- The P0 occurrences of a program in order: pass, step, position, group. -/
def State.p0Occurrences (s : State) (b : Nat) : List (Nat × Nat × Nat × Nat) :=
  ((s.progSteps b).map (fun x => (((s.stepEntry b x.2).groups).filter (fun g => (s.groupEntry b g.2).cls = 0)).map (fun g =>
    (x.1, x.2, g.1, g.2)))).flatten

/-- The P0 layout digest (R237). -/
def State.layoutDigest (s : State) (b : Nat) : List Byte :=
  let raw := fun (off n : Nat) => leBytes n (s.bankLe b off n)
  let entry := fun (x : Nat × Nat × Nat × Nat) =>
    let pass := 0x100 + 16 * x.1
    let step := 0x1100 + 8 * x.2.1
    leBytes 1 x.1 ++ leBytes 2 x.2.1 ++ leBytes 1 x.2.2.1 ++ raw (0x42000 + 16 * x.2.2.2) 12 ++ raw step 3 ++ leBytes 2 (s.bankLe b (step + 6) 2)
      ++ raw (pass + 2) 2 ++ raw pass 1
  sha256 (raw 0x10 6 ++ ((s.p0Occurrences b).map entry).flatten)

/-- The rays of a program in the order of their keys (R233, R234). -/
def State.programRays (s : State) (b : Nat) : List RayKey :=
  ((s.p0Occurrences b).map (fun x => ((s.groupEntry b x.2.2.2).lines.map (fun l =>
    (List.range 8).map (fun i => { pass := x.1, step := x.2.1, pos := x.2.2.1, slot := l.1, off := i : RayKey }))).flatten)).flatten

/-- An image fits the program and the CRM and GRN values that will be active: the last three checks of R236. -/
def State.imageFits (s : State) (i : List Byte) : Bool :=
  let b := s.pendF F.SCH_BANK.SEL
  (i.drop 0x10).take 32 = s.layoutDigest b && (List.range (imgNray i)).map (fun n => (imgRay i n).1) = s.programRays b
    && imgLe i 0x4C 4 = (s.current F.CRM_DET.MAXRET.addr).toNat
    && (List.range 4).all (fun j => imgLe i (0x50 + 4 * j) 4 = (s.current (F.GRN_WEIGHT.W.idx j).addr).toNat)

/-- R236. -/
def State.failSfa (s : State) : Option GoFail :=
  let watched := [F.SCH_BANK.SEL, { F.CRM_DET.MAXRET with lsb := 0, width := 32 }] ++ (List.range 4).map F.GRN_WEIGHT.W.idx
  let staged := fun (_ : Unit) => match s.saf.staged, s.saf.stagedB with
    | some i, some j => s.imageAccepted i && s.imageAccepted j && s.imageFits i && s.imageFits j
    | _, _ => false
  let active := fun (f : Field) => match s.image with
    | some i => if s.imageFits i then none else some { status := 4, page := 16, code := 0x81, addr := f.addr : GoFail }
    | none => none
  (F.SFA_IMG_SEQ.SEQ.fail 4 0x81 (s.changes F.SFA_IMG_SEQ.SEQ && !staged ())).orElse (fun _ => (watched.find? s.changes).bind active)

/-- A port's page (R303). -/
def State.failPort (s : State) (p : Nat) : Option GoFail :=
  firstFail [s.limit (F.NTA_CTL.MODE.pageUp p) 0x81 (fun v => v != 3), s.limit (F.NTA_CTL.RATE.pageUp p) 0x81 (fun v => v != 3),
    s.range (F.NTA_CTL.IDLE.pageUp p) 0x07 1 255, s.limit (F.NTA_IP.V4.pageUp p) 0x07 (fun v => v != 3),
    s.range (F.NTA_CENSUS_CFG.HOLD.pageUp p) 0x07 1 10000]

/-- The QUE page (R340). -/
def State.failQue (s : State) : Option GoFail :=
  firstFail [s.range F.QUE_LEASE.SESSION 0x07 100 60000, s.range F.QUE_LEASE.QUEUE 0x07 100 60000, s.range F.QUE_RTO.INIT 0x07 100 65535]

/-- MAXAGE of each class (R331, R341). -/
def State.failLdg (s : State) : Option GoFail :=
  firstFail ((List.range 8).map (fun c => s.range (F.LDG_REGION.MAXAGE.inst (c + 1)) 0x07 1 65535))

/-- The HKA page (R396, R400, R402, R403). -/
def State.failHka (s : State) : Option GoFail :=
  let ent := fun (n : Nat) => (s.current (F.HKA_ENT.POS.idx n).addr).toNat
  let entry := fun (n : Nat) =>
    let e := ent n
    (F.HKA_ENT.POS.idx n).fail 4 0x80 (s.isPending (F.HKA_ENT.POS.idx n)
      && (entPos e = 31 || (entDiff e && !(entPos e % 2 = 0 && decide (entPos e ≤ 22)))))
  let window := fun (n : Nat) =>
    let lo := s.pendF (F.HKA_WIN.LO.idx n)
    let hi := s.pendF (F.HKA_WIN.HI.idx n)
    let wrong := if entDiff (ent n) then decide (signed 16 hi < signed 16 lo) else decide (hi < lo)
    (F.HKA_WIN.LO.idx n).fail 4 0x80 (s.anyPending [F.HKA_WIN.LO.idx n, F.HKA_ENT.POS.idx n] && wrong)
  let n := s.pendF F.STE_CTL.GV_HKA
  let fb := s.pendF F.STE_CTL.GV_FB = 1
  let uses := fb || s.pendF F.STE_CTL.GV_SRC = 1
  let galvo := (F.HKA_ENT.POS.idx n).fail 4 0x80 (s.anyPending [F.STE_CTL.GV_HKA, F.HKA_ENT.POS.idx n]
    && ((fb && !entMonitor (ent n)) || (uses && decide (1600 < entCycles (ent n) + 11))))
  firstFail ([s.range F.HKA_CTL.LEN 0x07 1 16, s.limit F.HKA_CTL.TRIG 0x80 (fun v => v != 7), s.range F.HKA_TIMER.PERIOD 0x07 16 16777215]
    ++ (List.range 16).map entry ++ (List.range 16).map window ++ [galvo])

/-- The EXC page (R409, R420, R425). -/
def State.failExc (s : State) : Option GoFail :=
  let chan := fun (x : Nat) => firstFail [s.limit (F.EXC_CH.LEVEL.idx x) 0x80 (fun v => v != 3),
    s.limit (F.EXC_CH.GAIN.idx x) 0x80 (fun v => decide (x < 8) || decide (v ≤ 3))]
  let lin := fun (x : Nat) => s.limit ⟨0x900000 + 256 * x + 48, 8, 8⟩ 0x80 (fun v => v = 0xFF || (between 8 11 v && v != x))
  firstFail ((List.range 12).map chan ++ (List.range 12).map lin)

/-- The first reserved or wrong word of a coefficient bank (R413, R414). -/
def State.coefBad (s : State) (b : Nat) : Option Nat :=
  let at_ := fun (k : Nat) => 0x800000 + b * 0x1000 + 4 * k
  let n := (s.ramAt (at_ 0)).toNat
  if !between 1 384 n then some (at_ 0)
  else ((List.range 1024).find? (fun k => (between 1 3 k || decide (4 + n ≤ k)) && s.ramAt (at_ k) != 0)).map at_

/-- R414: a bank about to become active. -/
def State.failDfl (s : State) : Option GoFail :=
  let b := s.pendF F.DFL_CTL.BANK
  if s.isPending F.DFL_CTL.SRC && s.pendF F.DFL_CTL.SRC = 1 && !s.coefActive b then
    (s.coefBad b).map (fun a => { status := 4, page := 25, code := 0x80, addr := a })
  else none

/-- R429 and the REC page (R436). -/
def State.failRec (s : State) : Option GoFail :=
  let legal := fun (f : Field) (n : Nat) => s.limit f 0x80 (fun v => decide (v < n))
  let step := fun (k : Nat) => firstFail [legal (F.REC_ST.IN_A.idx k) 20, legal (F.REC_ST.ACT_A.idx k) 14, legal (F.REC_ST.IN_B.idx k) 20,
    legal (F.REC_ST.ACT_B.idx k) 14]
  let busy := s.recState = 1 || s.recState = 2
  let fixed := s.shadow.find? (fun e => e.1 / 0x1000 = 26 && e.1 != F.REC_SRC.SRC.addr && e.1 != F.REC_SPAN.SPAN.addr
    && (s.applyWord e).peek e.1 != s.peek e.1)
  firstFail ([(if busy then fixed else none).map (fun e => { status := 3, page := 26, code := 0x80, addr := e.1 : GoFail }),
    s.limit F.REC_POST.KIB 0x80 (fun v => decide (v + 1024 ≤ s.getF F.REC_SIZE.SIZE * 1024))] ++ (List.range 8).map step
    ++ (List.range 4).map (fun k => s.range (F.REC_CNT.LIMIT.idx k) 0x07 1 65535)
    ++ (List.range 4).map (fun k => s.range (F.REC_TMR.PERIOD.idx k) 0x07 1 65535) ++ [s.range F.REC_IO.WIDTH 0x07 1 255])

/-- The checks of a page. -/
def State.failPage (s : State) (p : Nat) : Option GoFail :=
  (s.failEn p).orElse (fun _ => match p with
    | 2 => s.failPwm
    | 3 => s.range F.THM_TOL.TOL 0x07 10 255
    | 5 => s.failTsy
    | 6 => s.failCal
    | 8 => s.failSch
    | 9 => s.failSte
    | 10 => s.failEmt
    | 12 => s.failEtd
    | 13 => s.failRxc
    | 14 => s.failGrn
    | 15 => s.failCrm
    | 16 => s.failSfa
    | 18 => s.failPort 0
    | 19 => s.failPort 1
    | 20 => s.failQue
    | 21 => s.failLdg
    | 23 => s.failHka
    | 24 => s.failExc
    | 25 => s.failDfl
    | 26 => s.failRec
    | _ => none)

/-- The first check that fails, in ascending order of page (log entry 64). -/
def State.goFail (s : State) : Option GoFail := (List.range 28).findSome? s.failPage

end Sys2Proof.Machine
end

