-- ==== Sys2Proof/Machine/Write.lean ====
section
/-! DEFINITION. What one written word draws and does (R28, R34 to R41, R85, R125, R250, R255, R312 and the registers of every page): the
check that may refuse it, and its effect. -/

namespace Sys2Proof.Machine

/-- Who writes: the session, its roles (R308), and whether it may write at all (R78). -/
structure Writer where
  sess : Nat
  roles : Nat
  may : Bool
  deriving DecidableEq, Repr

/-- Why a word is refused: status, and what is recorded of it: a code (0: none) with its page and address, an event of the page. `go`: a
`GO` is refused with nothing armed. -/
structure WordFail where
  status : Nat
  page : Nat
  code : Nat
  addr : Nat
  evt : Option Nat
  go : Bool
  deriving DecidableEq, Repr

/-- A refusal that records nothing. -/
def plainFail (status : Nat) : WordFail := { status := status, page := 0, code := 0, addr := 0, evt := none, go := false }
/-- A refusal with a code. -/
def codeFail (status page code addr : Nat) : WordFail := { status := status, page := page, code := code, addr := addr, evt := none, go := false }
/-- `BUSY` (R33). -/
def busyFail (page addr : Nat) : WordFail := codeFail 2 page 0x04 addr
/-- `STATE_ERROR` (R33). -/
def stateFail (page addr : Nat) : WordFail := codeFail 3 page 0x08 addr

/-- Refuse where the condition holds. -/
def refuseIf (bad : Bool) (f : WordFail) : Option WordFail := if bad then some f else none

/-- The record that a refusal leaves. -/
def State.noteFail (s : State) (f : WordFail) : State :=
  let s := if f.code = 0 then s else s.recErr f.page f.code f.addr
  let s := match f.evt with
    | some b => if f.page = 16 then s.safetyEvt b else s.raiseEvt f.page b
    | none => s
  if f.go then s.setF F.SYS_COMMIT_STAT.STATUS 5 else s

/-! ## Shadowed words (R36) -/

/-- A written word with the bits that a register of its set does not have cleared: WIRES of the bridges (R425). -/
def maskWord (h w : Nat) : Nat := if 0x18100 ≤ h ∧ h < 0x18120 then withField 10 1 w 0 else w

/-- Registers that every write writes by SH writes (R87). -/
def alwaysShadow (h : Nat) : Bool := h = F.SCH_BANK.SEL.addr || h = F.STE_RPM.TARGET.addr

/-- A word is an SH write (R36). -/
def State.isShWrite (s : State) (h w : Nat) : Bool :=
  !(shFields h).isEmpty && (alwaysShadow h
    || (shFields h).any (fun f => fieldOf f.lsb f.width (maskWord h w) != fieldOf f.lsb f.width (s.current h).toNat))

/-- The store address whose fields a written word reaches; none where the write is ignored (R27, R29, R30) or reaches no field. -/
def State.writeHome (s : State) (a : Nat) : Option Nat :=
  match regionOf a with
  | .page p o => if p = 17 ∨ (0x30 ≤ o ∧ o < 0x100) ∨ 0x800 ≤ o then none else s.homeOf a
  | .rxc _ _ => some a
  | .lin _ _ => some a
  | _ => none

/-- An SH write takes effect: the pending value, and the owner (R36, R37). -/
def State.shWrite (s : State) (sess h w : Nat) : State :=
  let word := BitVec.ofNat 32 (mergeFields (shFields h) (s.current h).toNat (maskWord h w))
  let s := { s with shadow := tabSet h word s.shadow, sys := { s.sys with owner := some (s.sys.owner.getD sess) } }
  (s.setF F.SYS_COMMIT_STAT.OWNER (s.sys.owner.getD sess)).setF F.SYS_COMMIT_STAT.STATUS 1

/-- Another session owns the pending set. -/
def State.ownedByOther (s : State) (sess : Nat) : Bool := s.sys.owner.any (fun o => o ≠ sess)

/-! ## Commits (R37 to R40) -/

/-- The predicted boundary is less than 20 µs away; never in a state without frames (R40). -/
def State.boundaryNear (s : State) : Bool := s.frames && s.predicted.any (fun p => decide (p < s.now + 20000))

/-- R40: the frame of an AT_FRAME commit that is refused, with its status. -/
def State.targetFail (s : State) : Option Nat :=
  let d := (s.getF F.SYS_COMMIT_FRAME.TARGET + 2 ^ 32 - s.frameNo) % 2 ^ 32
  if d = 0 || decide (2 ^ 31 ≤ d) || (d = 1 && s.boundaryNear) then some 5
  else if 65537 ≤ d then some 6
  else none

/-- The refusals of a word that writes `SYS_COMMIT` (R37 to R40); R39: `ABORT` with `GO` is `RANGE`, a `GO` while armed is `BUSY`. A reserved
MODE is refused before the pending values are validated (log entry 66). -/
def State.checkCommit (s : State) (sess w : Nat) : Option WordFail :=
  let go := w.testBit 8
  let a := F.SYS_COMMIT.GO.addr
  let refused := fun (status : Nat) => { plainFail status with go := s.sys.armed.isNone }
  if s.ownedByOther sess then some (busyFail 0 a)
  else if !go then none
  else if w.testBit 9 then some (refused 6)
  else if s.sys.armed.isSome then some (busyFail 0 a)
  else if 2 ≤ w % 4 then some (refused 6)
  else match s.goFail with
    | some f => some { status := f.status, page := f.page, code := f.code, addr := f.addr, evt := none, go := true }
    | none => if w % 4 = 1 then s.targetFail.map refused else none

/-- The frame that a commit armed now applies at (R40). -/
def State.armFrame (s : State) (mode : Nat) : Nat :=
  if mode = 1 then s.getF F.SYS_COMMIT_FRAME.TARGET
  else if s.frames then (s.frameNo + (if s.boundaryNear then 2 else 1)) % 2 ^ 32
  else s.frameNo

/-- `ABORT` (R39): an armed commit is disarmed. STATUS then reads 1 while values stay pending, and 4, with the owner freed, when none do
(log entry 66). -/
def State.abortCommit (s : State) : State :=
  if s.sys.armed.isNone then s
  else
    let s := { s with sys := { s.sys with armed := none } }
    let s := if s.shadow.isEmpty then s.emptyPending.setF F.SYS_COMMIT_STAT.STATUS 4 else s.setF F.SYS_COMMIT_STAT.STATUS 1
    (s.emitEvent 4 0 1 0 0 0).reloadChains s.predicted

/-- `GO` accepted (R38, R40); loads within 200 µs of the boundary follow (R132). -/
def State.armCommit (s : State) (sess mode : Nat) : State :=
  let f := s.armFrame mode
  let a : Armed := { atFrame := mode = 1, frame := f, epoch := nextEpoch s.epoch }
  let owner := s.sys.owner.getD sess
  let s := { s with sys := { s.sys with owner := some owner, armed := some a }, rxc := { s.rxc with applySent := false } }
  (((s.setF F.SYS_COMMIT_AT.FRAME f).setF F.SYS_COMMIT_STAT.OWNER owner).setF F.SYS_COMMIT_STAT.STATUS 2).reloadChains s.predicted

/-! ## Trim entries (R125) -/

/-- The word at an address as the whole command leaves it. -/
def State.afterAll (s : State) (all : List (Nat × Nat)) (a : Nat) : Nat :=
  let rw := (fieldsAt a).filter (fun f => f.acc = .rw)
  match all.find? (fun e => e.1 = a) with
  | some (_, w) => mergeFields rw (s.peek a).toNat w
  | none => (s.peek a).toNat

/-- The entry as the command leaves it breaks the order of R125. -/
def State.trimBad (s : State) (all : List (Nat × Nat)) (e : Nat) : Bool :=
  let b := 0x600000 + 64 * e
  let f := fun (word lsb width : Nat) => fieldOf lsb width (s.afterAll all (b + 4 * word))
  let temp := fun (word lsb : Nat) => signed 16 (f word lsb 16)
  !(decide (temp 0 0 < temp 0 16) && decide (temp 0 16 < temp 1 0)) || decide (f 1 16 12 ≤ f 3 0 12) || decide (f 2 0 12 ≤ f 3 16 12)
    || decide (f 2 16 12 ≤ f 4 0 12) || decide (256 < f 5 16 9)

/-- States in which trims may be written. -/
def State.trimState (s : State) : Bool :=
  s.dev = .boot || s.dev = .standby || s.dev = .safe || s.dev = .lockout || s.dev = .provision

/-! ## Single registers -/

/-- R250: the selection code and its conditions. -/
def State.selectionGood (s : State) (i : List Byte) (w : Nat) : Bool :=
  let t := w % 8
  let seq := w / 65536 % 65536
  let msg := leBytes 8 s.serialNo ++ leBytes 4 (imgLe i 0xC 4) ++ leBytes 2 seq ++ leBytes 1 t
  let code := ((List.range 4).map (fun k => leBytes 4 (s.getF (F.SFA_SEL_CODE.CODE.idx k)))).flatten
  (hmacSha256 ((i.drop 0x60).take 32) msg).take 16 = code && seq = (s.getF F.SFA_FSET.SEQ + 1) % 65536
    && (imgLe i (0x44 + s.getF F.SFA_FSET.ACTIVE) 1).testBit t

def State.checkSelection (s : State) (a w : Nat) : Option WordFail :=
  let no := fun (status : Nat) => some { codeFail status 16 0x82 a with evt := some 6 }
  if s.flag F.SFA_FSET.PEND then no 2
  else match s.image, s.imageB with
    | some i, some j => if s.selectionGood i w && s.selectionGood j w then none else no 4
    | _, _ => no 4

/-- R255. -/
def State.checkClear (s : State) (a w : Nat) : Option WordFail :=
  refuseIf (w = 0x5AFEC1EA && !(s.dev = .lockout && s.flag F.SFA_LOCK.GONE)) (stateFail 16 a)

/-- R180: a transaction asked for on a bus. -/
def State.checkI2c (s : State) (n a w : Nat) : Option WordFail :=
  let addr := w % 128
  let wlen := w / 256 % 256
  let rlen := w / 65536 % 256
  if !w.testBit 31 then none
  else if decide (16 < wlen) || decide (16 < rlen) || (wlen = 0 && rlen = 0) || decide (addr < 8) || addr = 0x0F || decide (0x78 ≤ addr) then
    some (codeFail 6 13 0x80 a)
  else
    let applies := s.pendF F.RXC_I2C_CFG.APPLY_SEQ != s.getF F.RXC_I2C_CFG.APPLY_SEQ && s.sys.armed.isSome || s.rxc.applyDue
    refuseIf (s.flag (F.RXC_I2C_CMD.GO.bus n) || (applies && (s.pendF F.RXC_I2C_CFG.APPLY_EN).testBit n)) (busyFail 13 a)

/-- R345. -/
def State.checkCal (s : State) (a w : Nat) : Option WordFail :=
  if !w.testBit 31 then none
  else if !s.emitting then some (codeFail 3 6 0x80 a)
  else if s.flag F.CAL_RCAL_CTL.GO then some (codeFail 2 6 0x80 a)
  else refuseIf (decide (s.getF F.CAL_RCAL_CH.LAST < s.getF F.CAL_RCAL_CH.FIRST) || s.getF F.CAL_RCAL_RANGE.TRUE = 0 || w % 65536 = 0
    || w / 65536 % 256 = 0) (codeFail 6 6 0x80 a)

/-- R422. -/
def State.checkScal (s : State) (a w : Nat) : Option WordFail :=
  if !w.testBit 31 then none
  else if s.flag F.EXC_SCAL.GO then some (busyFail 24 a)
  else refuseIf (decide (11 < w % 16) || decide (10 < w / 65536 % 16) || (w.testBit 8 && s.getF F.EXC_SCAL_TGT.VALUE = 0)) (plainFail 6)

/-- R429, R435. -/
def State.checkRec (s : State) (a w : Nat) : Option WordFail :=
  let st := s.recState
  if w.testBit 0 && (st = 2 || st = 4) then some (stateFail 26 a)
  else if w.testBit 3 && st != 3 then some (stateFail 26 a)
  else refuseIf (w.testBit 3 && !s.tp.queues.any (fun e => e.2.cls = 7)) (plainFail 4)

/-- R34. -/
def State.checkReset (s : State) (sess p a w : Nat) : Option WordFail :=
  if !(w.testBit 1 && s.flag (H.SRST_IMPL p)) then none
  else if datapathPage p && s.frames then some (stateFail p a)
  else refuseIf (s.sys.armed.isSome || (s.pagePending p && s.sys.owner ≠ some sess)) (busyFail p a)

/-- The refusals that a single register's rule gives; R39: `BLK_SHADOW.DISCARD` is `BUSY` while a commit is armed. -/
def State.checkSpecial (s : State) (wr : Writer) (p a w : Nat) : Option WordFail :=
  let o := a % 0x1000
  if o = 0x008 then s.checkReset wr.sess p a w
  else if o = 0x028 then refuseIf (w.testBit 1 && (s.sys.armed.isSome || s.ownedByOther wr.sess)) (busyFail p a)
  else if a = 0x120 then s.checkCommit wr.sess w
  else if a = 0x114 then refuseIf (decide (3 < w % 16)) (plainFail 6)
  else if a = 0x5118 then
    refuseIf (w.testBit 0 && (s.frames || (s.getF F.TSY_CTL.SRC = 1 && s.acceptedSrc 1))) (stateFail 5 a)
  else if a = 0x611C then s.checkCal a w
  else if a = 0x9180 then
    (if !w.testBit 5 then none else if s.dev ≠ .spinup then some (stateFail 9 a) else refuseIf (w % 4 = 3) (plainFail 6))
  else if a = 0xD140 ∨ a = 0xD170 ∨ a = 0xD1A0 ∨ a = 0xD1D0 then s.checkI2c ((a - 0xD140) / 0x30) a w
  else if a = 0x10114 then s.checkSelection a w
  else if a = 0x10128 then s.checkClear a w
  else if a = 0x171D8 then refuseIf (w.testBit 0 && s.frames) (stateFail 23 a)
  else if a = 0x18168 then s.checkScal a w
  else if a = 0x1A100 then s.checkRec a w
  else none

/-! ## The check of a word (R312) -/

/-- The roles that a word calls for (R78, R250, R255, R258, R382): bit 0 CONFIG, bit 1 SAFETY. -/
def State.wordRole (s : State) (a w : Nat) : Nat :=
  let sh := s.writeHome a |>.any (fun h => s.isShWrite h w)
  if between 0x10114 0x1012B a || a = 0x1010C then 2
  else if sh || a = 0x120 || a = 0x114 || a = 0x1114 || (decide (a < 0x1C000) && a % 0x1000 = 0x028 && w.testBit 1) then 1
  else 0

/-- The first refusal of a word, against the state that the words before it leave; `all`: the whole command. R39: an SH write is `BUSY`
while a commit is armed. -/
def State.checkWord (s : State) (wr : Writer) (all : List (Nat × Nat)) (a w : Nat) : Option WordFail :=
  match s.accessRefused a with
  | some st => some (plainFail st)
  | none =>
    let role := s.wordRole a w
    if !wr.may || (wr.roles &&& role) != role then some (plainFail 7)
    else match regionOf a with
      | .bank b _ => refuseIf (s.bankInUse b || s.bankHeld b) { busyFail 8 a with evt := some 1 }
      | .coef b _ => refuseIf (s.coefInUse b || s.coefHeld b) { busyFail 25 a with evt := some 2 }
      | .trim e _ =>
        if !s.trimState then some (codeFail 3 10 0x80 a) else refuseIf (s.trimBad all e) (codeFail 6 10 0x80 a)
      | _ =>
        match s.writeHome a with
        | none => none
        | some h =>
          let p := (pageOf a).getD 0
          if s.isShWrite h w && (s.sys.armed.isSome || s.ownedByOther wr.sess) then some (busyFail p a)
          else match regionOf a with
            | .page _ _ => s.checkSpecial wr p a w
            | _ => none

/-! ## The effect of a word -/

/-- LK fields (R46): ignored while locked; a value outside its own range is ignored where a rule says so (R291, R374, R375), and stored where none
does (`CPU_WDT.PERIOD`; log entry 66). -/
def State.lockWrite (s : State) (p h w : Nat) : State :=
  let lk := (fieldsAt h).filter (fun f => f.acc = .lk)
  let put := fun (s : State) (fs : List FieldSpec) => s.poke h (BitVec.ofNat 32 (mergeFields fs (s.peek h).toNat w))
  if lk.isEmpty then s
  else if s.flag (H.LOCK p) then s.recErr p 0x03 h
  else if h = F.PWM_CEIL.NORM.addr then
    let ok := lk.filter (fun f => if f.lsb = 16 then between 200 360 (w / 65536 % 65536) else between 360 740 (w % 65536))
    let s := put s ok
    if ok.length = lk.length then s else s.recErr p 0x81 h
  else if h = F.THM_LIMITS.THR.addr then
    let thr := w % 256
    let lim := w / 256 % 256
    let shut := w / 65536 % 256
    if thr < lim ∧ lim < shut ∧ w / 16777216 % 256 < shut then put s lk else s.recErr p 0x80 h
  else if h = F.NTA_EGR.CEIL.addr ∨ h = (F.NTA_EGR.CEIL.pageUp 1).addr then
    if between 1 400 (w % 512) then put s lk else (s.recErr p 0x80 h).raiseEvt p 8
  else put s lk

/-- RW fields take the written value; WO fields of a register that keeps it too; W1C bits clear; `BLK_LOCK` sets (R7). -/
def State.plainWrite (s : State) (h w : Nat) : State :=
  let fs := fieldsAt h
  let old := (s.peek h).toNat
  let set := mergeFields (fs.filter (fun f => f.acc = .rw || (f.acc = .wo && between 0x10118 0x10127 h))) old w
  let keep := (fs.filter (fun f => f.acc = .w1c)).foldl (fun v f =>
    withField f.lsb f.width v (fieldOf f.lsb f.width old - (fieldOf f.lsb f.width old &&& fieldOf f.lsb f.width w))) set
  let word := if h % 0x1000 = 0x02C ∧ w % 2 = 1 then withField 0 1 keep 1 else keep
  if word = old then s else s.poke h (BitVec.ofNat 32 word)

/-- What the blocks of a page hold beside registers goes with its soft reset (log entry 65); `HKA_CALF` takes its factory factors. -/
def State.softEngine (s : State) (p : Nat) : State :=
  if p = 10 then
    State.countReserves { s with emt := { s.emt with chains := (s.chainsOff.zip s.emt.chains).map (fun x => { x.1 with temp := x.2.temp }) } }
  else if p = 13 then { s with rxc := { s.rxc with updated := [], rates := [] } }
  else if p = 23 then
    (List.range 4).foldl (fun (s : State) g => s.poke (F.HKA_CALF.OFS.idx g).addr (resetWord (F.HKA_CALF.OFS.idx g).addr))
      { s with hka := { HkaState.reset with timerFrom := s.now } }
  else s

/-- R34: a soft reset of a page; its registers take their reset values, `BLK_LOCK` apart, and its pending values are dropped. SRST written again
while it is in progress does nothing more (log entry 66). -/
def State.softReset (s : State) (p : Nat) : State :=
  if s.sys.resetting.contains p then s
  else
    let mine := fun (a : Nat) =>
      let b := a % 0x1000000
      (decide (b < 0x1C000) && b / 0x1000 = p && b % 0x1000 != 0x02C) || (p = 13 && decide (0x100000 ≤ b) && decide (b < 0x110000))
    let s := s.keepEra.discardPage p
    let s := { s with
      regs := resetCells mine 9 s.regs
      frozen := s.frozen.filter (fun e => !mine e.1)
      sys := { s.sys with resetting := p :: s.sys.resetting, coalesced := s.sys.coalesced.filter (fun e => e.1 / 32 ≠ p) } }
    (((s.softEngine p).setF (H.SRST p) 1).setF (H.BUSY p) 1)

/-- The header registers of a page. `old`: the state before the word. -/
def State.headerWrite (s old : State) (p o w : Nat) : State :=
  if o = 0x008 then
    let s := if s.flag (H.FREEZE p) && !old.flag (H.FREEZE p) then s.freezePage p
      else if old.flag (H.FREEZE p) && !s.flag (H.FREEZE p) then s.thawPage p else s
    if w.testBit 1 && s.flag (H.SRST_IMPL p) then s.softReset p else s
  else if o = 0x010 then (if w.testBit 31 && old.bitF (H.ISR p) 31 then s.clearErr p else s)
  else if o = 0x018 then (onesOf 32 w).foldl (fun s b => s.raiseEvt p b) s
  else if o = 0x028 && w.testBit 1 then s.discardPage p
  else s

/-- R345: ABORT, then GO. -/
def State.calWrite (s : State) (w : Nat) : State :=
  let s := if w.testBit 30 && s.flag F.CAL_RCAL_CTL.GO then s.calAbort else s
  if w.testBit 31 then
    ((s.mapCal (fun x => { x with armed := true })).setF F.CAL_RCAL_CTL.GO 1).setF F.CAL_RCAL_STAT.STATE 1
  else s

/-- R180: a transaction begins. -/
def State.i2cStart (s : State) (n : Nat) : State :=
  let len := s.getF (F.RXC_I2C_CMD.WLEN.bus n)
  let data := (((List.range 4).map (fun j => leBytes 4 (s.getF ((F.RXC_I2C_WD.DATA.bus n).idx j)))).flatten).take len
  let s := ((s.setF (F.RXC_I2C_CMD.GO.bus n) 1).setF (F.RXC_I2C_STAT.RESULT.bus n) 1).setF (F.RXC_I2C_STAT.DONE.bus n) 0
  s.emit (.i2c n (BitVec.ofNat 8 (s.getF (F.RXC_I2C_CMD.ADDR.bus n)) :: data))

/-- R422: a step begins. -/
def State.scalStart (s : State) : State :=
  let k : ScalStep := {
    ch := s.getF F.EXC_SCAL.CH, full := s.flag F.EXC_SCAL.STEP, want := 2 ^ s.getF F.EXC_SCAL.AVG, tgt := s.getI F.EXC_SCAL_TGT.VALUE
    start := s.now, sum := 0, n := 0, bad := false }
  ((s.mapExc (fun x => { x with step := some k })).setF F.EXC_SCAL.GO 1).setF F.EXC_SCAL.STATE 1

/-- R429, R432, R435: DISARM, ARM, SWTRIG, READOUT, in this order. -/
def State.recWrite (s : State) (w : Nat) : State :=
  let s := if w.testBit 1 then s.recDisarm else s
  let s := if w.testBit 0 then s.recArm else s
  let s := if w.testBit 2 then s.recPulse 4 s.taiNs else s
  if w.testBit 3 then s.recReadout else s

/-- What a write of a register starts, beside the values it leaves. -/
def State.specialWrite (s : State) (sess a w : Nat) : State :=
  if a = 0x120 then
    let s := if w.testBit 9 then s.abortCommit else s
    if w.testBit 8 then s.armCommit sess (w % 4) else s
  else if a = 0x1114 then (if w / 65536 = 0xB007 then s else s.recErr 1 0x80 a)
  else if a = 0x5118 then
    (if !w.testBit 0 then s else if w.testBit 1 then s.setF F.TSY_SET_CTL.APPLY 1 else s.loadTime)
  else if a = 0x611C then s.calWrite w
  else if a = 0x9180 then (if w.testBit 5 then (s.setF F.STE_TEST.ARM 1).setF F.STE_STAT.TEST 1 else s)
  else if a = 0xD140 ∨ a = 0xD170 ∨ a = 0xD1A0 ∨ a = 0xD1D0 then (if w.testBit 31 then s.i2cStart ((a - 0xD140) / 0x30) else s)
  else if a = 0x10114 then
    { ((s.setF F.SFA_FSET.PENDING (w % 8)).setF F.SFA_FSET.PEND 1).setF F.SFA_FSET.SEQ (w / 65536) with saf := { s.saf with selAt := s.now } }
  else if a = 0x10128 then
    (if w = 0x5AFEC1EA then ({ s with saf := { s.saf with clearAt := some s.now } }.setF F.SFA_OSSD.CLR_ARMED 1).safetyEvt 8 else s)
  else if a = 0x17100 then (if w.testBit 7 then s.hkaStart 0 else s)
  else if a = 0x171D8 then
    (if w.testBit 0 && !s.flag F.HKA_CAL.GO then (s.mapHka (fun x => { x with calFrom := some s.now })).setF F.HKA_CAL.GO 1 else s)
  else if a = 0x18168 then (if w.testBit 31 then s.scalStart else s)
  else if a = 0x1A100 then s.recWrite w
  else s

/-- A word of a trim entry (R125); PRESENT of a primary stays 1. -/
def State.trimWrite (s : State) (e a w : Nat) : State :=
  let s := s.plainWrite a w
  (s.mapCal (fun x => { x with fresh := e :: x.fresh.filter (· ≠ e) })).countReserves

/-- The effect of a word that no check has refused. -/
def State.doWord (s : State) (sess a w : Nat) : State :=
  match regionOf a with
  | .bank _ _ => s.ramPut a (BitVec.ofNat 32 w)
  | .coef _ _ => s.ramPut a (BitVec.ofNat 32 w)
  | .trim e _ => s.trimWrite e a w
  | r =>
    match s.writeHome a with
    | none => s
    | some h =>
      let t := if s.isShWrite h w then s.shWrite sess h w else s
      match r with
      | .page p o =>
        let t := (t.plainWrite h w).lockWrite p h w
        if o < 0x30 then t.headerWrite s p o w else t.specialWrite sess a w
      | _ => t

/-! ## All the words of a command (R28, R312) -/

/-- The words with their addresses. -/
def wordsAt (a : Nat) (ws : List Word) : List (Nat × Nat) := (wordAddrs a ws.length).zip (ws.map BitVec.toNat)

/-- Perform the words in order. -/
def State.doWords (s : State) (sess : Nat) (l : List (Nat × Nat)) : State := l.foldl (fun s e => s.doWord sess e.1 e.2) s

/-- The first refusal that any word draws. -/
def State.checkWords (wr : Writer) (all : List (Nat × Nat)) : List (Nat × Nat) → State → Option WordFail
  | [], _ => none
  | e :: l, s =>
    match s.checkWord wr all e.1 e.2 with
    | some f => some f
    | none => State.checkWords wr all l (s.doWord wr.sess e.1 e.2)

/-! ## Requests of `SYS_CMD` (R14, R89, R118, R312, R366) -/

/-- Domains that a start calls for. -/
def startDomains : List Nat := [8, 9, 10, 11] ++ (List.range 24).map (· + 12)

/-- No cause of doubt remains (R62, R65): a clock's cause is gone when every monitor that warned is stable again. -/
def State.doubtGone (s : State) : Bool :=
  let clocks := s.time.warned.all s.stableLong && s.rst.clkHeld.isEmpty
  s.sys.stay.all (fun c => c = 0x22 && clocks)

/-- The refusal of a request. -/
def State.requestFail (s : State) (req : Nat) : Option WordFail :=
  let a := F.SYS_CMD.REQ.addr
  match req with
  | 1 =>
    if s.dev ≠ .standby || !startDomains.all (fun d => s.domState d = 2) then some (stateFail 0 a)
    else refuseIf (s.getF F.SCH_PROG.RPM = 0 || s.getF F.SCH_PROG.RPM ≠ s.getF F.STE_RPM.TARGET || s.getF F.SYS_CHAIN.ADDR = 0) (plainFail 4)
  | 2 => refuseIf (!s.frames) (stateFail 0 a)
  | 3 => refuseIf (s.dev ≠ .safe || !s.doubtGone) (stateFail 0 a)
  | _ => none

/-- Start (R118): frames run, steering begins from the measured speed, every chain takes a full load. -/
def State.startFrames (s : State) : State :=
  let b := s.getF F.SCH_BANK.SEL
  let s := { s with
    ste := { s.ste with refRpm := s.measRpm * 10000, spinAt := s.now, rampedAt := none, validSince := none, tilt := (s.passEntry b 0).tilt }
    emt := { s.emt with chains := s.emt.chains.map (fun (c : Chain) => { c with fullDue := true, loaded := false }) } }
  s.enterState .spinup 0x11 []

/-- The effect of an accepted request. -/
def State.doRequest (s : State) (req : Nat) : State :=
  match req with
  | 1 => s.startFrames
  | 2 => { s with sys := { s.sys with stopReq := true } }
  | 3 => s.enterState .standby 0x14 []
  | _ => s

/-- The request that a command presents: that of its last word at `SYS_CMD`. -/
def requestOf (l : List (Nat × Nat)) : Nat := (l.foldl (fun r e => if e.1 = 0x114 then e.2 % 16 else r) 0)

end Sys2Proof.Machine
end

