-- ==== Sys2Proof/Machine/Control.lean ====
section
/-! DEFINITION. The commands of sessions (R312, R391, R392, R394), sessions themselves (R308 to R310), what arrives at the control port
(R307), and the completion of a soft reset (R34, R43). -/

namespace Sys2Proof.Machine

/-! ## A command of a session (R51, R53, R307, R310 to R315) -/

/-- What a command answers: status, response payload, and the ledger's RESULT. -/
structure Reply where
  status : Nat
  payload : List Byte
  result : List Byte
  deriving DecidableEq, Repr

/-- A reply whose RESULT is its payload. -/
def Reply.of (status : Nat) (payload : List Byte) : Reply := { status := status, payload := payload, result := payload }

/-- No command is performed: the ledger's domain or the cores are in reset (R337, R378), or none is acknowledged (R55, R61). -/
def State.noCommands (s : State) : Bool := !s.on 5 || s.coresHeld || s.noAcks

/-- The waiting command that comes next: across all sessions, commands are performed in the order they were accepted (R311). -/
def State.waiting (s : State) : Option Accepted := s.tp.accepted.head?

/-- A command row of session `i` stands for the waiting command: same session, opcode and payload. -/
def Accepted.isRow (a : Accepted) (i op : Nat) (payload : List Byte) : Bool := a.session = i && a.opcode = op && a.payload = payload

/-- The command numbered `seq` is acknowledged: it waits no longer and the session expects a later one. -/
def State.consume (s : State) (i seq : Nat) : State :=
  (s.mapTp (fun t => { t with accepted := t.accepted.filter (fun a => !(a.session = i && a.seq = seq)) })).mapSession i
    (fun x => { x with nextSeq := max x.nextSeq (seq + 1) })

/-- Record an entry and send its response; while 2,048 entries are uncopied both are withheld (R53). -/
def State.acknowledge (s : State) (e : LedgerEntry) (o : Out) : State :=
  if s.tp.withheld.isEmpty && decide (s.uncopied < 2048) then (s.recordEntry e).sendControl o
  else
    let t := s.mapTp (fun t => { t with withheld := t.withheld ++ [(e, o)] })
    if s.tp.withheld.isEmpty then t.raiseEvt 21 1 else t

/-- The ledger entry of a command (R313). -/
def State.entryOf (s : State) (i gen seq op : Nat) (payload : List Byte) (r : Reply) : LedgerEntry :=
  { session := i, opcode := op, gen := gen, seq := seq, status := r.status, copied := false, tai := s.taiNs, frame := s.frameNo, epoch := s.epoch
    digest := digestOf payload, result := padTo 16 r.result }

/-- Answer a command. -/
def State.finish (s : State) (x : Session) (dest : Endpoint) (i seq op : Nat) (payload : List Byte) (r : Reply) : State :=
  (s.consume i seq).acknowledge (s.entryOf i x.gen seq op payload r) (x.answer dest i seq op r.status 0 s.epoch r.payload)

/-- A command of session `i`, performed in the order of acceptance (R51, R311): while commands wait, a row that is not the first of
them does nothing (log entry 6). A row with none waiting is the message itself, which renews its session's lease (R310). `payload` as it arrived, `body` its effect; `after` what follows its answer. A body that answers
nothing leaves the command unacknowledged. -/
def State.command (s : State) (i op : Nat) (payload : List Byte) (body : Session → State → Option Reply × State)
    (after : State → State) : State :=
  if s.noCommands || s.unserved then s
  else match s.session i with
    | none => s.reject ⟨0, 0, false⟩ i 0 0 op 9 none
    | some x =>
      let w := s.waiting
      if w.any (fun a => !a.isRow i op payload) then s
      else
      let seq := (w.map (fun a => a.seq)).getD x.nextSeq
      let dest := (w.map (fun a => a.src)).getD x.peer
      if !payloadGood op payload then s.reject dest i x.gen seq op 0x0B (some x)
      else if 2 ^ 32 ≤ seq then s
      else
        let s := if w.isSome then s else (s.confirmSession i).renewSession i
        match body x s with
        | (some r, s) => after (s.finish x dest i seq op payload r)
        | (none, s) => s.unaccept (fun a => a.session = i && decide (seq ≤ a.seq))

/-- A command that needs roles (R78). -/
def withRole (role : Nat) (body : Session → State → Option Reply × State) (x : Session) (s : State) : Option Reply × State :=
  if s.rolesOf x &&& role = role then body x s else (some (Reply.of 7 []), s)

/-- A refusal without further effect. -/
def refuse (status : Nat) (s : State) : Option Reply × State := (some (Reply.of status []), s)

/-! ## READ and WRITE -/

/-- R312: every word is checked before any is read. -/
def readBody (addr count : Nat) (_ : Session) (s : State) : Option Reply × State :=
  match (wordAddrs addr count).findSome? s.accessRefused with
  | some status => refuse status s
  | none =>
    let (l, t) := State.readWords count addr s
    (some (Reply.of 0 (l.map (leBytes 4)).flatten), t)

def doRead (sess addr count : Nat) (s : State) : State :=
  s.command sess 0x01 (leBytes 4 addr ++ leBytes 2 count ++ leBytes 2 0) (readBody addr count) id

def execRead (sess addr count : Nat) (s : State) : Host.Outcome State Fault Refusal := answer (doRead sess addr count s)

/-- A word of the command sets `SYS_COMMIT.GO`. -/
def setsGo (l : List (Nat × Nat)) : Bool := l.any (fun e => e.1 = 0x120 && e.2.testBit 8)

/-- R38: the response to an accepted `GO`. -/
def State.goAnswer (s : State) : List Byte :=
  leBytes 4 (s.getF F.SYS_COMMIT_AT.FRAME) ++ leBytes 4 ((s.sys.armed.map (fun a => a.epoch)).getD 0)

/-- The cause of a request that the state before this cycle's transition would have let pass (R15). -/
def State.lateRequest (s : State) (req : Nat) : List Nat :=
  let was := DevState.ofCode (s.getF F.SYS_STATE.PREV)
  if req = 1 && was = .standby then [0x11]
  else if req = 2 && (was = .spinup || was = .run || was = .degraded) then [0x13]
  else if req = 3 && was = .safe then [0x14] else []

/-- R312: all words are checked, then the request of `SYS_CMD`, then all are performed. -/
def writeBody (sess addr : Nat) (words : List Word) (x : Session) (s : State) : Option Reply × State :=
  let l := wordsAt addr words
  let wr : Writer := { sess := sess, roles := s.rolesOf x, may := x.slot.isSome || !s.flag F.CPU_AUTH.REQUIRE }
  let no := fun (f : WordFail) => (some { status := f.status, payload := [], result := leBytes 4 0 : Reply }, s.noteFail f)
  let no' := fun (f : WordFail) =>
    (some { status := f.status, payload := [], result := leBytes 4 0 : Reply }, (s.noteFail f).noteCauses (s.lateRequest (requestOf l)))
  match State.checkWords wr l l s with
  | some f => no f
  | none =>
    match s.requestFail (requestOf l) with
    | some f => no' f
    | none =>
      let t := (s.doRequest (requestOf l)).doWords sess l
      let p := if setsGo l then t.goAnswer else []
      (some { status := 0, payload := p, result := leBytes 4 words.length ++ p }, t)

/-- A word of the command requests a reset with the right key (R376). -/
def asksReset (l : List (Nat × Nat)) : Bool := l.any (fun e => e.1 = 0x1114 && e.2 / 65536 = 0xB007 && e.2.testBit 0)

/-- R376, R382: the reset that a performed write of `RST_SWRST` requests, once its response is recorded (R51). Where the response is
withheld (R53), the reset that the write raises waits for it. -/
def softwareReset (sess : Nat) (l : List (Nat × Nat)) (accepted : State → Bool) (s : State) : State :=
  if asksReset l && accepted s then
    let t := (s.setF F.RST_CAUSE.ORIGIN sess).raiseReset 4 (s.sourceLevel 4)
    let key := s.tp.withheld.getLast?.map (fun w => (w.1.session, w.1.gen, w.1.seq))
    if t.rst.active.map (·.level) = s.rst.active.map (·.level) then t
    else t.mapRst (fun x => { x with active := x.active.map (fun r => { r with awaits := key }) })
  else s

/-- The last command acknowledged was performed. -/
def State.lastOk (s : State) : Bool :=
  match s.tp.withheld.getLast? with
  | some w => w.1.status = 0
  | none => s.tp.banks.head?.any (fun e => e.status = 0)

def doWrite (sess addr : Nat) (words : List Word) (s : State) : State :=
  s.command sess 0x02 (leBytes 4 addr ++ leBytes 2 words.length ++ leBytes 2 0 ++ (words.map (fun w => leBytes 4 w.toNat)).flatten)
    (writeBody sess addr words) (softwareReset sess (wordsAt addr words) State.lastOk)

def execWrite (sess addr : Nat) (words : List Word) (s : State) : Host.Outcome State Fault Refusal := answer (doWrite sess addr words s)

/-! ## Queues (R312, R318 to R320) -/

/-- The largest record of a class (R224, R231, R427). -/
def largestRecord : Nat → Nat
  | 3 => 8754 | 4 => 8256 | 7 => 8224 | _ => 64

/-- The subscription with the defaults of R318 in place. -/
def State.withDefaults (s : State) (q : Subscription) : Subscription :=
  { q with
    flush := if q.flush = 0 then 100 else q.flush
    lease := if q.lease = 0 then s.getF F.QUE_LEASE.QUEUE else q.lease
    window := if q.window = 0 then 65536 else q.window }

/-- R318, R319: every field lies in its range. -/
def subscriptionGood (q : Subscription) (ip6 : Bool) : Bool :=
  between 1 8 q.cls && between 10 10000 q.flush && between 100 60000 q.lease && between 1024 1048576 q.window
    && between (max 1472 (36 + largestRecord q.cls)) (if ip6 then 9150 else 9170) q.maxdg
    && (decide (q.cls ≤ 3) || (q.filter0 = 0 && q.filter1 = 0))

/-- A new queue under index `n`. -/
def State.newQueue (s : State) (sess : Nat) (x : Session) (q : Subscription) (n : Nat) : Queue :=
  { session := sess, gen := s.genOf (countAt n s.tp.qgens + 1), cls := q.cls, dport := q.dport, flush := q.flush, maxdg := q.maxdg
    filter0 := q.filter0, filter1 := q.filter1, window := q.window, leaseMs := q.lease, leaseEnd := s.now + q.lease * 1000000
    next := 1, sent := 0, acked := 0, waitHdr := decide (q.cls ≤ 3), portB := s.hostPort = 1, ip6 := x.peer.ip6
    unacked := [], resent := [], gapped := 0, ackErr := 0 }

def subscribeBody (sess : Nat) (sub : Subscription) (x : Session) (s : State) : Option Reply × State :=
  let q := s.withDefaults sub
  if !subscriptionGood q x.peer.ip6 then refuse 4 s
  else if 16384 ≤ s.tp.queues.length then refuse 0x0C (s.raiseEvt 20 6)
  else match tabFree 16384 s.tp.queues with
    | none => refuse 0x0C (s.raiseEvt 20 6)
    | some n =>
      let y := s.newQueue sess x q n
      let t := s.mapTp (fun t => { t with queues := tabSet n y t.queues, qgens := tabSet n (countAt n t.qgens + 1) t.qgens })
      (some (Reply.of 0 (leBytes 2 n ++ leBytes 4 y.gen ++ leBytes 8 1)), t)

/-- The SUBSCRIBE payload (R318). -/
def subscribeBytes (q : Subscription) : List Byte :=
  leBytes 1 q.cls ++ leBytes 1 0 ++ leBytes 2 q.dport ++ leBytes 2 q.flush ++ leBytes 2 q.maxdg ++ leBytes 4 q.lease ++ leBytes 4 q.window
    ++ leBytes 4 q.filter0 ++ leBytes 4 q.filter1

def doSubscribe (sess : Nat) (sub : Subscription) (s : State) : State := s.command sess 0x10 (subscribeBytes sub) (subscribeBody sess sub) id

def execSubscribe (sess : Nat) (sub : Subscription) (s : State) : Host.Outcome State Fault Refusal := answer (doSubscribe sess sub s)

/-- UNSUBSCRIBE calls for no role (R312), but an unauthenticated session under REQUIRE may not change subscriptions (R78; log entry 16). -/
def unsubscribeBody (sess queue : Nat) (x : Session) (s : State) : Option Reply × State :=
  if x.slot.isNone && s.flag F.CPU_AUTH.REQUIRE then refuse 7 s
  else match s.queue queue with
  | none => refuse 6 s
  | some q => if q.session ≠ sess then refuse 7 s else (some (Reply.of 0 []), s.dropQueue queue)

def doUnsubscribe (sess queue : Nat) (s : State) : State :=
  s.command sess 0x11 (leBytes 2 queue ++ leBytes 2 0) (unsubscribeBody sess queue) id

def execUnsubscribe (sess queue : Nat) (s : State) : Host.Outcome State Fault Refusal := answer (doUnsubscribe sess queue s)

/-! ## QUERY, NOP, CLOSE -/

def queryBody (ofSess ofGen ofSeq : Nat) (_ : Session) (s : State) : Option Reply × State :=
  match s.ledgerEntry ofSess ofGen ofSeq with
  | some e => (some (Reply.of 0 (entryBytes64 e)), s)
  | none => refuse 0x0E s

def doQuery (sess ofSess ofGen ofSeq : Nat) (s : State) : State :=
  s.command sess 0x20 (leBytes 2 ofSess ++ leBytes 4 ofGen ++ leBytes 4 ofSeq) (queryBody ofSess ofGen ofSeq) id

def execQuery (sess ofSess ofGen ofSeq : Nat) (s : State) : Host.Outcome State Fault Refusal := answer (doQuery sess ofSess ofGen ofSeq s)

def okBody (_ : Session) (s : State) : Option Reply × State := (some (Reply.of 0 []), s)

def doNop (sess : Nat) (s : State) : State := s.command sess 0x21 [] okBody id

def execNop (sess : Nat) (s : State) : Host.Outcome State Fault Refusal := answer (doNop sess s)

/-- R310: the session ends once its CLOSE is answered; a response that is withheld ends it when it is sent. -/
def doClose (sess : Nat) (s : State) : State :=
  s.command sess 0x22 [] okBody (fun t => if t.tp.withheld.isEmpty then t.endSession sess else t)

def execCloseSession (sess : Nat) (s : State) : Host.Outcome State Fault Refusal := answer (doClose sess s)

/-! ## Images (R76, R235, R312) -/

/-- Put bytes into a memory kept by address. -/
def putBytes (off : Nat) : List Byte → List (Nat × Byte) → List (Nat × Byte)
  | [], l => l
  | b :: bs, l => putBytes (off + 1) bs (tabSet off b l)

/-- The image in a staging slot: as many bytes as its LENGTH names, up to 1 MiB. -/
def stagedBytes (l : List (Nat × Byte)) : List Byte :=
  let at_ := fun (k : Nat) => (tabFind k l).getD 0
  let len := min (2 ^ 20) (ofLe ((List.range 4).map (fun k => at_ (8 + k))))
  (List.range len).map at_

/-- An armed commit would activate the staged image. -/
def State.activationArmed (s : State) : Bool := s.sys.armed.isSome && s.pendF F.SFA_IMG_SEQ.SEQ != s.getF F.SFA_IMG_SEQ.SEQ

/-- Both staging slots are empty. -/
def State.clearStaging (s : State) : State :=
  State.showStaged { s with saf := { s.saf with staging := [], stagingB := [], staged := none, stagedB := none } }

/-- R235: the load is complete; both channels judge their copies. -/
def State.judgeStaging (s : State) : Option Reply × State :=
  let i := stagedBytes s.saf.staging
  let j := stagedBytes s.saf.stagingB
  if s.imageAccepted i && s.imageAccepted j then
    let s := State.showStaged { s with saf := { s.saf with staging := [], stagingB := [], staged := some i, stagedB := some j } }
    (some (Reply.of 0 []), s.safetyEvt 3)
  else refuse 4 (s.clearStaging.recErr 16 0x80 0)

/-- Target 0: the staging slots of both channels (R2, R235). -/
def stagingBody (last : Bool) (offset : Nat) (data : List Byte) (_ : Session) (s : State) : Option Reply × State :=
  if !s.gradeS then refuse 4 (s.recErr 16 0x80 0)
  else if !s.on 1 || !s.on 2 then refuse 8 s
  else if s.activationArmed then refuse 2 s
  else if 2 ^ 20 < offset + data.length then refuse 6 s
  else
    let s := if s.saf.staging.isEmpty && s.saf.stagingB.isEmpty then s.clearStaging else s
    let s := { s with saf := { s.saf with staging := putBytes offset data s.saf.staging, stagingB := putBytes offset data s.saf.stagingB } }
    if last then s.judgeStaging else (some (Reply.of 0 []), s)

/-- Targets 1 and 2: the NOR image slots. -/
def norBody (target offset : Nat) (data : List Byte) (_ : Session) (s : State) : Option Reply × State :=
  if 2 < target then refuse 6 s
  else if s.rst.image = some (target - 1) then refuse 3 s
  else
    (some (Reply.of 0 []), s.mapRst (fun x =>
      if target = 1 then { x with nor0 := putBytes offset data x.nor0 } else { x with nor1 := putBytes offset data x.nor1 }))

/-- The recovery service takes an image write from a FIRMWARE-role session only (R75). -/
def doImageWrite (sess target : Nat) (last : Bool) (offset : Nat) (data : List Byte) (s : State) : State :=
  s.command sess 0x30 (leBytes 1 target ++ leBytes 1 (if last then 1 else 0) ++ leBytes 2 0 ++ leBytes 4 offset ++ data)
    (withRole ((if target = 0 then 2 else 4) ||| (if s.recovery then 4 else 0))
      (if target = 0 then stagingBody last offset data else norBody target offset data)) id

def execImageWrite (sess target : Nat) (last : Bool) (offset : Nat) (data : List Byte) (s : State) : Host.Outcome State Fault Refusal :=
  answer (doImageWrite sess target last offset data s)

def slotSelectBody (slot : Nat) (_ : Session) (s : State) : Option Reply × State :=
  if 1 < slot then refuse 6 s else (some (Reply.of 0 []), s.mapRst (fun x => { x with slotFirst := some slot }))

def doSlotSelect (sess slot : Nat) (s : State) : State :=
  s.command sess 0x31 (leBytes 1 slot ++ leBytes 3 0) (withRole 4 (slotSelectBody slot)) id

def execSlotSelect (sess slot : Nat) (s : State) : Host.Outcome State Fault Refusal := answer (doSlotSelect sess slot s)

/-! ## Provisioning (R391, R392, R394) -/

/-- Rows that Kyogivin programs or reserves (R394). -/
def rowClosed (row : Nat) : Bool := decide (row ≤ 5) || row = 30 || row = 31 || decide (42 ≤ row)

/-- A row whose programming did not end well: its CRC fails. -/
def brokenRow (data : List Byte) : List Byte := padTo 60 data ++ leBytes 4 (crc32 (padTo 60 data) + 1)

/-- A copy of a row after programming it, where it is unprogrammed. -/
def programCopy (copy : List (Nat × List Byte)) (row : Nat) (data : List Byte) (e : FuseEnd) : List (Nat × List Byte) :=
  if rowKind (fuseRow copy row) ≠ 0 then copy
  else tabSet row (if e = .verified then fuseRowOf data else brokenRow data) copy

/-- `RST_PROG` after a fuse program. -/
def State.showProgram (s : State) (row copies result : Nat) : State :=
  ((s.setF F.RST_PROG.ROW row).setF F.RST_PROG.COPIES copies).setF F.RST_PROG.RESULT result

/-- A fuse program that is refused (R394, R395). -/
def State.programRefused (s : State) (row status : Nat) : Option Reply × State := refuse status (s.showProgram row 0 4)

/-- R394: copy A, then copy B; a stop leaves the command without an answer. RESULT when a row does not verify is open (log entry 7). -/
def fuseBody (row : Nat) (data : List Byte) (endA endB : FuseEnd) (_ : Session) (s : State) : Option Reply × State :=
  let other := fun (copy : List (Nat × List Byte)) => rowKind (fuseRow copy row) = 1 && (fuseRow copy row).take 60 != padTo 60 data
  if s.dev ≠ .provision then refuse 3 s
  else if rowClosed row then (s.recErr 1 0x81 0).programRefused row 6
  else if s.inputMode ≠ 0 || !s.flag F.PWM_STAT.HU_READY then s.programRefused row 3
  else if other s.rst.fuseA || other s.rst.fuseB then s.programRefused row 4
  else
    let needA := rowKind (fuseRow s.rst.fuseA row) = 0
    let needB := rowKind (fuseRow s.rst.fuseB row) = 0
    let s := if needA then s.mapRst (fun x => { x with fuseA := programCopy x.fuseA row data endA }) else s
    if needA && endA = .stopped then (none, s.showProgram row 0 6)
    else
      let gotA := needA && endA = .verified
      let s := if needB then s.mapRst (fun x => { x with fuseB := programCopy x.fuseB row data endB }) else s
      if needB && endB = .stopped then (none, s.showProgram row (if gotA then 1 else 0) 6)
      else
        let gotB := needB && endB = .verified
        let copies := (if gotA then 1 else 0) + (if gotB then 2 else 0)
        let n := (if gotA then 1 else 0) + (if gotB then 1 else 0)
        let failed := (needA && !gotA) || (needB && !gotB)
        let code := if failed then 5 else if n = 2 then 1 else if n = 1 then 2 else 3
        let s := s.showProgram row copies code
        let s := if n = 0 then s else s.raiseEvt 1 2
        let result := if failed then s.freeNat % 256 else if n = 2 then 1 else if n = 1 then 2 else 0
        (some (Reply.of 0 (leBytes 1 result ++ leBytes 1 copies ++ leBytes 2 0)), if failed then s.tick else s)

def doFuseProgram (sess row : Nat) (data : List Byte) (endA endB : FuseEnd) (s : State) : State :=
  s.command sess 0x40 (leBytes 1 row ++ leBytes 3 0 ++ data) (withRole 8 (fuseBody row data endA endB)) id

def execFuseProgram (sess row : Nat) (data : List Byte) (endA endB : FuseEnd) (s : State) : Host.Outcome State Fault Refusal :=
  answer (doFuseProgram sess row data endA endB s)

/-- R392: a key of zeros empties the slot; a written slot serves at once. -/
def keySlotBody (slot roles : Nat) (key : List Byte) (_ : Session) (s : State) : Option Reply × State :=
  if s.dev ≠ .provision then refuse 3 s
  else if 15 < slot then refuse 6 s
  else
    let put := fun (l : List (Nat × KeySlot)) =>
      if key.all (· = 0) then tabDel slot l else tabSet slot { key := key, roles := roles, sealed := true } l
    let t := s.mapRst (fun x => { x with keySlots := put x.keySlots })
    (some (Reply.of 0 []), t.setF F.CPU_AUTH.SLOTS t.slotsGood)

def doKeySlotWrite (sess slot roles : Nat) (key : List Byte) (s : State) : State :=
  s.command sess 0x41 (leBytes 1 slot ++ leBytes 1 roles ++ leBytes 2 0 ++ key) (withRole 8 (keySlotBody slot roles key)) id

def execKeySlotWrite (sess slot roles : Nat) (key : List Byte) (s : State) : Host.Outcome State Fault Refusal :=
  answer (doKeySlotWrite sess slot roles key s)

def provisioningBody (serial : Nat) (_ : Session) (s : State) : Option Reply × State :=
  if s.dev ≠ .standby && s.dev ≠ .safe then refuse 3 s
  else if serial ≠ s.serialNo then refuse 4 s
  else
    (some (Reply.of 0 []), ((s.setF F.RST_PROV.REQ 1).mapRst (fun x => { x with provAt := some s.now })).raiseEvt 1 4)

def doProvisioningRequest (sess serial : Nat) (s : State) : State :=
  s.command sess 0x42 (leBytes 8 serial) (withRole 8 (provisioningBody serial)) id

def execProvisioningRequest (sess serial : Nat) (s : State) : Host.Outcome State Fault Refusal := answer (doProvisioningRequest sess serial s)

/-! ## Sessions (R308 to R310) and what arrives (R307, R337) -/

/-- The OPEN message of an unauthenticated header (R308). -/
def openBytes (nonce : List Byte) (lease slot : Nat) : List Byte :=
  headerBytes 0x10 0 48 0 0 0 0 0 0 ++ padTo 16 nonce ++ leBytes 4 lease ++ leBytes 1 slot ++ leBytes 3 0

def doOpenSession (src : Endpoint) (nonce : List Byte) (lease slot : Nat) (s : State) : State :=
  if !s.on 5 || s.unserved then s
  else
    let s := s.drainMessages
    if s.coresHeld || !s.ctlRoom || !s.tp.rxq.isEmpty then s.bufferMessage src (openBytes nonce lease slot)
    else s.openFrom src (padTo 16 nonce) lease slot 0

def execOpenSession (src : Endpoint) (nonce : List Byte) (lease slot : Nat) (s : State) : Host.Outcome State Fault Refusal :=
  answer (doOpenSession src nonce lease slot s)

/-- R309: no validly coded message came within 1 s of the reply. -/
def doAuthConfirmTimeout (sess t : Nat) (s : State) : State :=
  let s := s.at t
  match s.session sess with
  | some x => if s.on 5 && !x.confirmed && decide (x.confirmBy ≤ s.now) then s.endSession sess else s
  | none => s

def execAuthConfirmTimeout (sess t : Nat) (s : State) : Host.Outcome State Fault Refusal := answer (doAuthConfirmTimeout sess t s)

/-- R310: the lease has run out. -/
def doSessionLeaseExpiry (sess t : Nat) (s : State) : State :=
  let s := s.at t
  match s.session sess with
  | some x => if s.on 5 && decide (x.leaseEnd ≤ s.now) then (s.endSession sess).raiseEvt 20 1 else s
  | none => s

def execSessionLeaseExpiry (sess t : Nat) (s : State) : Host.Outcome State Fault Refusal := answer (doSessionLeaseExpiry sess t s)

/-- R307: a datagram at another port is none of these; one at the control port is dropped without an answer, an ACK, kept in the buffer of R337,
or handled. -/
def doControlMessageReceive (t : Nat) (src : Endpoint) (datagram : Datagram) (s : State) : State :=
  let s := s.at t
  let m := datagram.bytes
  if !s.atControlPort src datagram || s.unserved then s
  else if headerBad m then s.bump F.QUE_DROP.HDR 1
  else if msgLe m 3 1 = 0x21 then doAck ⟨src, datagram⟩ t s
  else s.drainMessages.takeMessage src m

def execControlMessageReceive (t : Nat) (src : Endpoint) (datagram : Datagram) (s : State) : Host.Outcome State Fault Refusal :=
  answer (doControlMessageReceive t src datagram s)

/-! ## Soft resets (R34, R43) -/

/-- A soft reset completes: `BUSY` and `SRST` clear, the epoch advances, and the page reports it. -/
def doSoftResetComplete (page : Fin 28) (t : Nat) (s : State) : State :=
  let s := s.at t
  let p := page.val
  if s.pageOn p && s.sys.resetting.contains p then
    let s := { s with sys := { s.sys with resetting := s.sys.resetting.filter (· ≠ p) } }
    (((s.setF (H.SRST p) 0).setF (H.BUSY p) 0).advanceEpoch).raiseEvt p 30
  else s

def execSoftResetComplete (page : Fin 28) (t : Nat) (s : State) : Host.Outcome State Fault Refusal := answer (doSoftResetComplete page t s)

end Sys2Proof.Machine
end

