-- ==== Sys2Proof/Machine/Dispatch.lean ====
section
/-! DEFINITION. The meaning of every command, one arm each. -/

namespace Sys2Proof.Machine

def exec (i : Instr) (s : State) : Host.Outcome State Fault Refusal :=
  match i with
  | .frameBoundary t => Sys2Proof.Machine.execFrameBoundary t s
  | .framePulse t => Sys2Proof.Machine.execFramePulse t s
  | .baristaSlot t => Sys2Proof.Machine.execBaristaSlot t s
  | .p0SlackExpiry pass step pos t => Sys2Proof.Machine.execP0SlackExpiry pass step pos t s
  | .polyEncoderEdge t => Sys2Proof.Machine.execPolyEncoderEdge t s
  | .indexMark t => Sys2Proof.Machine.execIndexMark t s
  | .polygonLoopSample t => Sys2Proof.Machine.execPolygonLoopSample t s
  | .galvoLoopSample t raw => Sys2Proof.Machine.execGalvoLoopSample t raw s
  | .fsyncEdge t => Sys2Proof.Machine.execFsyncEdge t s
  | .fsyncHoldover t => Sys2Proof.Machine.execFsyncHoldover t s
  | .interlockTrip cause t => Sys2Proof.Machine.execInterlockTrip cause t s
  | .galvoStallExpiry t => Sys2Proof.Machine.execGalvoStallExpiry t s
  | .spinupTimeout t => Sys2Proof.Machine.execSpinupTimeout t s
  | .transitionTimeout t => Sys2Proof.Machine.execTransitionTimeout t s
  | .steeringTestComplete t => Sys2Proof.Machine.execSteeringTestComplete t s
  | .steeringRecordClose t => Sys2Proof.Machine.execSteeringRecordClose t s
  | .chainLoadStart chain t => Sys2Proof.Machine.execChainLoadStart chain t s
  | .chainOffTimeExpiry chain t => Sys2Proof.Machine.execChainOffTimeExpiry chain t s
  | .chainZeroLoadLatched chain t => Sys2Proof.Machine.execChainZeroLoadLatched chain t s
  | .chainStopRequest chain t => Sys2Proof.Machine.execChainStopRequest chain t s
  | .diodeSwitchLatch line t => Sys2Proof.Machine.execDiodeSwitchLatch line t s
  | .firePulse line k egate cycle code => Sys2Proof.Machine.execFirePulse line k egate cycle code s
  | .emonStop bank edge code => Sys2Proof.Machine.execEmonStop bank edge code s
  | .pulseSettle bank t => Sys2Proof.Machine.execPulseSettle bank t s
  | .interpolatorRefreshComplete etd hits t => Sys2Proof.Machine.execInterpolatorRefreshComplete etd hits t s
  | .interpolatorFailure etd t => Sys2Proof.Machine.execInterpolatorFailure etd t s
  | .conversionTimeout etd t => Sys2Proof.Machine.execConversionTimeout etd t s
  | .substitutionApply etd t => Sys2Proof.Machine.execSubstitutionApply etd t s
  | .dllLock etd t => Sys2Proof.Machine.execDllLock etd t s
  | .referenceLoopFire egate cycle code stop => Sys2Proof.Machine.execReferenceLoopFire egate cycle code stop s
  | .returnPulse ch leadCycle leadCode trailCycle trailCode => Sys2Proof.Machine.execReturnPulse ch leadCycle leadCode trailCycle trailCode s
  | .channelStuck ch t => Sys2Proof.Machine.execChannelStuck ch t s
  | .channelUnstuck ch t => Sys2Proof.Machine.execChannelUnstuck ch t s
  | .samplerRefreshComplete group sampler hits t => Sys2Proof.Machine.execSamplerRefreshComplete group sampler hits t s
  | .samplerTapMapApply group sampler t => Sys2Proof.Machine.execSamplerTapMapApply group sampler t s
  | .samplerFailure group sampler t => Sys2Proof.Machine.execSamplerFailure group sampler t s
  | .samplerSubstitution ch t => Sys2Proof.Machine.execSamplerSubstitution ch t s
  | .i2cTransactionComplete bus result done data t => Sys2Proof.Machine.execI2cTransactionComplete bus result done data t s
  | .i2cStretchTimeout bus done t => Sys2Proof.Machine.execI2cStretchTimeout bus done t s
  | .i2cApply acked t => Sys2Proof.Machine.execI2cApply acked t s
  | .trainDescriptor frame train line => Sys2Proof.Machine.execTrainDescriptor frame train line s
  | .histogramUpdate update t => Sys2Proof.Machine.execHistogramUpdate update t s
  | .candidateSearch slot t => Sys2Proof.Machine.execCandidateSearch slot t s
  | .measurementClose slot t => Sys2Proof.Machine.execMeasurementClose slot t s
  | .slotCleared slot t => Sys2Proof.Machine.execSlotCleared slot t s
  | .tileRemap engine tile t => Sys2Proof.Machine.execTileRemap engine tile t s
  | .carafeUncorrectable slot zoom t => Sys2Proof.Machine.execCarafeUncorrectable slot zoom t s
  | .extract line t => Sys2Proof.Machine.execExtract line t s
  | .frameHeaderCommit t => Sys2Proof.Machine.execFrameHeaderCommit t s
  | .statsCommit t => Sys2Proof.Machine.execStatsCommit t s
  | .mountStale t => Sys2Proof.Machine.execMountStale t s
  | .p0Descriptor t => Sys2Proof.Machine.execP0Descriptor t s
  | .channelBRayResult frame train pass step pos slot off t => Sys2Proof.Machine.execChannelBRayResult frame train pass step pos slot off t s
  | .evaluationInstant t => Sys2Proof.Machine.execEvaluationInstant t s
  | .discrepancyExpiry t => Sys2Proof.Machine.execDiscrepancyExpiry t s
  | .ossdOffPulse channelB t => Sys2Proof.Machine.execOssdOffPulse channelB t s
  | .ossdReadbackFault fbA fbB t => Sys2Proof.Machine.execOssdReadbackFault fbA fbB t s
  | .clockCrossCheck dev t => Sys2Proof.Machine.execClockCrossCheck dev t s
  | .channelBGapTest pass crc t => Sys2Proof.Machine.execChannelBGapTest pass crc t s
  | .lockoutEntry cause t => Sys2Proof.Machine.execLockoutEntry cause t s
  | .lockoutRecordWritten t => Sys2Proof.Machine.execLockoutRecordWritten t s
  | .lockoutSelfTest passA passB crc fbOff t => Sys2Proof.Machine.execLockoutSelfTest passA passB crc fbOff t s
  | .clearWindowClose t => Sys2Proof.Machine.execClearWindowClose t s
  | .restartPulse t usA usB => Sys2Proof.Machine.execRestartPulse t usA usB s
  | .ptpMessage portB domain transport msg t => Sys2Proof.Machine.execPtpMessage portB domain transport msg t s
  | .ptpForward fromB kind seq correction ingress egress linkDelay ratio t => Sys2Proof.Machine.execPtpForward fromB kind seq correction ingress egress linkDelay ratio t s
  | .ppsEdge t => Sys2Proof.Machine.execPpsEdge t s
  | .timeSourceLost src t => Sys2Proof.Machine.execTimeSourceLost src t s
  | .ageingWrite t => Sys2Proof.Machine.execAgeingWrite t s
  | .tsyFramePulse t => Sys2Proof.Machine.execTsyFramePulse t s
  | .clockMonitorWindow mon ppm lock edge t => Sys2Proof.Machine.execClockMonitorWindow mon ppm lock edge t s
  | .ref10mWindow dev missing t => Sys2Proof.Machine.execRef10mWindow dev missing t s
  | .moduleReady portB t => Sys2Proof.Machine.execModuleReady portB t s
  | .linkStageComplete portB lane4 caps t => Sys2Proof.Machine.execLinkStageComplete portB lane4 caps t s
  | .linkStageTimeout portB t => Sys2Proof.Machine.execLinkStageTimeout portB t s
  | .linkDown portB t => Sys2Proof.Machine.execLinkDown portB t s
  | .standardLock portB txPre rxPre t => Sys2Proof.Machine.execStandardLock portB txPre rxPre t s
  | .capabilityFrame portB t => Sys2Proof.Machine.execCapabilityFrame portB t s
  | .laneSwap portB tx lane t => Sys2Proof.Machine.execLaneSwap portB tx lane t s
  | .laneFailure portB tx lane t => Sys2Proof.Machine.execLaneFailure portB tx lane t s
  | .sleep portB tx t => Sys2Proof.Machine.execSleep portB tx t s
  | .wake portB tx t => Sys2Proof.Machine.execWake portB tx t s
  | .frameReceive portB frame t => Sys2Proof.Machine.execFrameReceive portB frame t s
  | .census portB frame t => Sys2Proof.Machine.execCensus portB frame t s
  | .censusHoldExpiry t => Sys2Proof.Machine.execCensusHoldExpiry t s
  | .censusDone portB frame t => Sys2Proof.Machine.execCensusDone portB frame t s
  | .reverseCensus portB frame t => Sys2Proof.Machine.execReverseCensus portB frame t s
  | .linkNotice portB t => Sys2Proof.Machine.execLinkNotice portB t s
  | .ringFailover t => Sys2Proof.Machine.execRingFailover t s
  | .refreshBurst portB t => Sys2Proof.Machine.execRefreshBurst portB t s
  | .read sess addr count => Sys2Proof.Machine.execRead sess addr count s
  | .write sess addr words => Sys2Proof.Machine.execWrite sess addr words s
  | .subscribe sess sub => Sys2Proof.Machine.execSubscribe sess sub s
  | .unsubscribe sess queue => Sys2Proof.Machine.execUnsubscribe sess queue s
  | .query sess ofSess ofGen ofSeq => Sys2Proof.Machine.execQuery sess ofSess ofGen ofSeq s
  | .nop sess => Sys2Proof.Machine.execNop sess s
  | .closeSession sess => Sys2Proof.Machine.execCloseSession sess s
  | .imageWrite sess target last offset data => Sys2Proof.Machine.execImageWrite sess target last offset data s
  | .slotSelect sess slot => Sys2Proof.Machine.execSlotSelect sess slot s
  | .fuseProgram sess row data endA endB => Sys2Proof.Machine.execFuseProgram sess row data endA endB s
  | .keySlotWrite sess slot roles key => Sys2Proof.Machine.execKeySlotWrite sess slot roles key s
  | .provisioningRequest sess serial => Sys2Proof.Machine.execProvisioningRequest sess serial s
  | .provisioningReset t => Sys2Proof.Machine.execProvisioningReset t s
  | .openSession src nonce lease slot => Sys2Proof.Machine.execOpenSession src nonce lease slot s
  | .authConfirmTimeout sess t => Sys2Proof.Machine.execAuthConfirmTimeout sess t s
  | .controlMessageReceive t src datagram => Sys2Proof.Machine.execControlMessageReceive t src datagram s
  | .sessionLeaseExpiry sess t => Sys2Proof.Machine.execSessionLeaseExpiry sess t s
  | .commitApply t => Sys2Proof.Machine.execCommitApply t s
  | .softResetComplete page t => Sys2Proof.Machine.execSoftResetComplete page t s
  | .safeEntry cause t => Sys2Proof.Machine.execSafeEntry cause t s
  | .datagramSend queue t => Sys2Proof.Machine.execDatagramSend queue t s
  | .retransmissionTimeout queue t => Sys2Proof.Machine.execRetransmissionTimeout queue t s
  | .ack datagram t => Sys2Proof.Machine.execAck datagram t s
  | .queueLeaseExpiry queue t => Sys2Proof.Machine.execQueueLeaseExpiry queue t s
  | .retentionExpiry cls t => Sys2Proof.Machine.execRetentionExpiry cls t s
  | .ledgerNorCopy n t => Sys2Proof.Machine.execLedgerNorCopy n t s
  | .ledgerBankFailure bankB t => Sys2Proof.Machine.execLedgerBankFailure bankB t s
  | .dramChannelFailure loss t => Sys2Proof.Machine.execDramChannelFailure loss t s
  | .dramRebuildComplete t => Sys2Proof.Machine.execDramRebuildComplete t s
  | .rangeCalibrationEnd t => Sys2Proof.Machine.execRangeCalibrationEnd t s
  | .diodeFailure line t => Sys2Proof.Machine.execDiodeFailure line t s
  | .coreFailure core t => Sys2Proof.Machine.execCoreFailure core t s
  | .plannedSubstitution part t => Sys2Proof.Machine.execPlannedSubstitution part t s
  | .retirementRecordWrite t => Sys2Proof.Machine.execRetirementRecordWrite t s
  | .fenceViolation fence core addr t => Sys2Proof.Machine.execFenceViolation fence core addr t s
  | .watchdogWarning t => Sys2Proof.Machine.execWatchdogWarning t s
  | .inputSample mv iin vhu t => Sys2Proof.Machine.execInputSample mv iin vhu t s
  | .inputStartThreshold t => Sys2Proof.Machine.execInputStartThreshold t s
  | .normalDwellExpiry t => Sys2Proof.Machine.execNormalDwellExpiry t s
  | .warnRecoveryExpiry t => Sys2Proof.Machine.execWarnRecoveryExpiry t s
  | .inputInRangeExpiry t => Sys2Proof.Machine.execInputInRangeExpiry t s
  | .lossEntry t => Sys2Proof.Machine.execLossEntry t s
  | .lossExit t => Sys2Proof.Machine.execLossExit t s
  | .holdupEnd t => Sys2Proof.Machine.execHoldupEnd t s
  | .ackResume t => Sys2Proof.Machine.execAckResume t s
  | .holdupCheck energy t => Sys2Proof.Machine.execHoldupCheck energy t s
  | .powerCapUpdate pin t => Sys2Proof.Machine.execPowerCapUpdate pin t s
  | .domainStarted dom t => Sys2Proof.Machine.execDomainStarted dom t s
  | .domainStopped dom t => Sys2Proof.Machine.execDomainStopped dom t s
  | .domainOffTimeExpiry dom t => Sys2Proof.Machine.execDomainOffTimeExpiry dom t s
  | .domainRelease dom copyA copyB t => Sys2Proof.Machine.execDomainRelease dom copyA copyB t s
  | .releaseClockTimeout dom t => Sys2Proof.Machine.execReleaseClockTimeout dom t s
  | .releaseRetry mon t => Sys2Proof.Machine.execReleaseRetry mon t s
  | .phaseFailure rail t => Sys2Proof.Machine.execPhaseFailure rail t s
  | .sparePhaseInService rail t => Sys2Proof.Machine.execSparePhaseInService rail t s
  | .thermalSample reads t => Sys2Proof.Machine.execThermalSample reads t s
  | .powerOn t => Sys2Proof.Machine.execPowerOn t s
  | .brownOut t => Sys2Proof.Machine.execBrownOut t s
  | .nrstAssert t => Sys2Proof.Machine.execNrstAssert t s
  | .nrstRelease t => Sys2Proof.Machine.execNrstRelease t s
  | .nrstStuck t => Sys2Proof.Machine.execNrstStuck t s
  | .watchdogExpiry wdt => Sys2Proof.Machine.execWatchdogExpiry wdt s
  | .debugReset scan t => Sys2Proof.Machine.execDebugReset scan t s
  | .clockFailureReset mon t => Sys2Proof.Machine.execClockFailureReset mon t s
  | .lockupReset lockup => Sys2Proof.Machine.execLockupReset lockup s
  | .resetEntry t => Sys2Proof.Machine.execResetEntry t s
  | .resetRelease ending => Sys2Proof.Machine.execResetRelease ending s
  | .fuseLoadComplete t => Sys2Proof.Machine.execFuseLoadComplete t s
  | .safetyImageReverify passA passB t => Sys2Proof.Machine.execSafetyImageReverify passA passB t s
  | .selfTestComplete pass t => Sys2Proof.Machine.execSelfTestComplete pass t s
  | .imageVerify slot0 slot1 t => Sys2Proof.Machine.execImageVerify slot0 slot1 t s
  | .bootComplete t => Sys2Proof.Machine.execBootComplete t s
  | .hkaTrigger software t => Sys2Proof.Machine.execHkaTrigger software t s
  | .hkaTimerExpiry t => Sys2Proof.Machine.execHkaTimerExpiry t s
  | .hkaTrgEdge rising t => Sys2Proof.Machine.execHkaTrgEdge rising t s
  | .hkaConversion galvo raw t => Sys2Proof.Machine.execHkaConversion galvo raw t s
  | .hkaRecordClose t => Sys2Proof.Machine.execHkaRecordClose t s
  | .hkaCalibrationComplete factors t => Sys2Proof.Machine.execHkaCalibrationComplete factors t s
  | .dflOutputSet raws tripped t => Sys2Proof.Machine.execDflOutputSet raws tripped t s
  | .overRange ch t => Sys2Proof.Machine.execOverRange ch t s
  | .excitationOpen ch t => Sys2Proof.Machine.execExcitationOpen ch t s
  | .impedanceCheck ch mag phase t => Sys2Proof.Machine.execImpedanceCheck ch mag phase t s
  | .systemCalibrationEnd t => Sys2Proof.Machine.execSystemCalibrationEnd t s
  | .readoutComplete t => Sys2Proof.Machine.execReadoutComplete t s
  | .recorderEntry excess t => Sys2Proof.Machine.execRecorderEntry excess t s
  | .sequencerTransition t => Sys2Proof.Machine.execSequencerTransition t s
  | .sequencerTimerExpiry timer t => Sys2Proof.Machine.execSequencerTimerExpiry timer t s
  | .trigIoEdge rising t => Sys2Proof.Machine.execTrigIoEdge rising t s
  | .postComplete t => Sys2Proof.Machine.execPostComplete t s
  | .chainTriggerAccept portB trigger linkDelay residence t => Sys2Proof.Machine.execChainTriggerAccept portB trigger linkDelay residence t s

end Sys2Proof.Machine
end

