-- ==== Sys2Proof/Safety.lean ====
section
/-! DEFINITION. What a safe state is: the pins follow the state of the block, and nothing that could emit or switch on is driven outside the
states that allow it (R13, R16, R63, R117, R137, R245, R432); and the canonical form of the sparse stores. -/

namespace Sys2Proof.Machine

/-- Between commands: the pins are those of the state, and no sequencer input of kind pulse is left to be tested (R432). -/
abbrev State.Settled (s : State) : Prop := s.pins = s.pinsOf ∧ s.rcd.pulses = []

/-- What must be off outside `RUN` and `DEGRADED`, and while a reset is in progress: `EMIT_EN`, the `FIRE` outputs and both OSSDs. -/
def State.dark (s : State) : Bool := !s.pins.emitEn && !s.pins.fire && !s.pins.ossdA && !s.pins.ossdB

/-- The register store is in its canonical form: addresses rising, no entry equal to its register's reset value. -/
def State.regsWf (s : State) : Bool := cellsWf resetWord 0 s.regs

/-- The banks are in their canonical form: addresses rising, no entry of 0. -/
def State.ramWf (s : State) : Bool := cellsWf (fun _ => 0) 0 s.ram

/-- The parts of the state that a command may leave alone as a whole: the waiting commands; the pending values of the dual registers (R36), the
banks (R25) and the frozen values (R28); the state of each block; and the stores that outlast every reset (R384, R74, R307). The register store, the
clock, and what carries reports (`sys`, `tp`, `time`, `net`, `rcd`, the pins) are no parts: every command may report. -/
inductive Part where
  | queue
  | staged
  | banks
  | frozen
  | memory
  | resets
  | power
  | thermal
  | scheduler
  | steering
  | emitters
  | timing
  | receivers
  | histograms
  | crema
  | safety
  | calibration
  | converter
  | mounts
  | fuses
  | images
  | keys
  deriving DecidableEq, Repr

/-- A part is the same in two states. -/
def Part.Same (p : Part) (s u : State) : Prop :=
  match p with
  | .queue => u.pending = s.pending
  | .staged => u.shadow = s.shadow
  | .banks => u.ram = s.ram
  | .frozen => u.frozen = s.frozen
  | .memory => u.mem = s.mem
  | .resets => u.rst = s.rst
  | .power => u.pwr = s.pwr
  | .thermal => u.thm = s.thm
  | .scheduler => u.sch = s.sch
  | .steering => u.ste = s.ste
  | .emitters => u.emt = s.emt
  | .timing => u.etd = s.etd
  | .receivers => u.rxc = s.rxc
  | .histograms => u.grn = s.grn
  | .crema => u.crm = s.crm
  | .safety => u.saf = s.saf
  | .calibration => u.cal = s.cal
  | .converter => u.hka = s.hka
  | .mounts => u.exc = s.exc
  | .fuses => u.rst.fuseA = s.rst.fuseA ∧ u.rst.fuseB = s.rst.fuseB
  | .images => u.rst.nor0 = s.rst.nor0 ∧ u.rst.nor1 = s.rst.nor1
  | .keys => u.rst.keySlots = s.rst.keySlots

/-- The parts a command may change, whatever the state: those of the blocks the spec lets it act on, and, of a command that may lead to a
state without frames, to a reset or to the loss of a domain, those that this empties. No command changes the queue; only `FUSE_PROGRAM` the
fuses, only `IMAGE_WRITE` the images, only `KEY_SLOT_WRITE` the key slots. -/
def mayChange : Instr → List Part
  | .referenceLoopFire .. | .channelStuck .. | .channelUnstuck .. | .i2cTransactionComplete .. | .i2cStretchTimeout .. | .mountStale ..
  | .ptpForward .. | .ageingWrite .. | .moduleReady .. | .linkStageTimeout .. | .linkDown .. | .standardLock .. | .capabilityFrame ..
  | .sleep .. | .wake .. | .frameReceive .. | .censusHoldExpiry .. | .censusDone .. | .reverseCensus .. | .linkNotice ..
  | .refreshBurst .. | .read .. | .subscribe .. | .unsubscribe .. | .query .. | .nop .. | .openSession .. | .controlMessageReceive ..
  | .datagramSend .. | .retransmissionTimeout .. | .ack .. | .queueLeaseExpiry .. | .retentionExpiry .. | .watchdogWarning ..
  | .warnRecoveryExpiry .. | .inputInRangeExpiry .. | .nrstStuck .. | .readoutComplete .. | .recorderEntry .. | .sequencerTransition ..
  | .sequencerTimerExpiry .. | .trigIoEdge .. | .postComplete .. | .chainTriggerAccept .. => []
  | .tileRemap .. | .linkStageComplete .. | .laneSwap .. | .laneFailure .. | .rangeCalibrationEnd .. | .retirementRecordWrite .. =>
    [.calibration]
  | .hkaTrigger .. | .hkaTimerExpiry .. | .hkaTrgEdge .. | .hkaRecordClose .. | .hkaCalibrationComplete .. => [.converter]
  | .chainOffTimeExpiry .. | .chainZeroLoadLatched .. | .chainStopRequest .. => [.emitters]
  | .candidateSearch .. | .slotCleared .. | .softResetComplete .. => [.histograms]
  | .overRange .. | .excitationOpen .. | .impedanceCheck .. | .systemCalibrationEnd .. => [.mounts]
  | .normalDwellExpiry .. | .holdupCheck .. | .powerCapUpdate .. | .domainStarted .. | .domainStopped .. | .domainOffTimeExpiry .. => [.power]
  | .lockoutRecordWritten .. | .slotSelect .. | .provisioningRequest .. | .provisioningReset .. | .releaseClockTimeout .. | .powerOn ..
  | .brownOut .. | .nrstAssert .. | .nrstRelease .. | .debugReset .. | .clockFailureReset .. | .lockupReset .. | .selfTestComplete ..
  | .imageVerify .. => [.resets]
  | .p0Descriptor .. | .channelBRayResult .. | .ossdOffPulse .. | .lockoutSelfTest .. | .clearWindowClose .. => [.safety]
  | .closeSession .. | .authConfirmTimeout .. | .sessionLeaseExpiry .. | .ackResume .. => [.staged]
  | .framePulse .. | .fsyncHoldover .. | .steeringTestComplete .. | .steeringRecordClose .. | .tsyFramePulse .. => [.steering]
  | .pulseSettle .. | .dllLock .. => [.timing]
  | .dflOutputSet .. => [.crema, .mounts]
  | .chainLoadStart .. | .diodeSwitchLatch .. => [.emitters, .calibration]
  | .carafeUncorrectable .. => [.histograms, .calibration]
  | .measurementClose .. => [.histograms, .crema]
  | .dramChannelFailure .. | .dramRebuildComplete .. => [.memory, .calibration]
  | .sparePhaseInService .. => [.power, .calibration]
  | .histogramUpdate .. => [.receivers, .histograms]
  | .coreFailure .. | .watchdogExpiry .. => [.resets, .calibration]
  | .fuseProgram .. => [.resets, .fuses]
  | .keySlotWrite .. => [.resets, .keys]
  | .safetyImageReverify .. => [.resets, .safety]
  | .fsyncEdge .. | .ptpMessage .. | .ppsEdge .. | .timeSourceLost .. | .ref10mWindow .. | .census .. | .ringFailover .. =>
    [.scheduler, .steering]
  | .ledgerNorCopy .. => [.staged, .resets]
  | .interpolatorRefreshComplete .. | .interpolatorFailure .. | .conversionTimeout .. | .substitutionApply .. => [.timing, .calibration]
  | .trainDescriptor .. => [.timing, .histograms]
  | .emonStop .. => [.timing, .safety]
  | .diodeFailure .. => [.emitters, .timing, .calibration]
  | .imageWrite .. => [.resets, .safety, .images]
  | .restartPulse .. => [.resets, .scheduler, .safety]
  | .frameHeaderCommit .. | .statsCommit .. => [.scheduler, .histograms, .crema]
  | .samplerTapMapApply .. | .i2cApply .. => [.timing, .receivers, .calibration]
  | .samplerFailure .. | .samplerSubstitution .. => [.emitters, .receivers, .histograms, .calibration]
  | .extract .. => [.histograms, .crema, .safety, .calibration]
  | .returnPulse .. => [.receivers, .histograms, .crema, .safety]
  | .samplerRefreshComplete .. => [.emitters, .timing, .receivers, .histograms, .calibration]
  | .plannedSubstitution .. => [.memory, .power, .emitters, .timing, .receivers, .histograms, .calibration]
  | .p0SlackExpiry .. | .polyEncoderEdge .. | .indexMark .. | .polygonLoopSample .. | .interlockTrip .. | .galvoStallExpiry ..
  | .spinupTimeout .. | .transitionTimeout .. | .safeEntry .. | .fenceViolation .. =>
    [.scheduler, .steering, .emitters, .timing, .receivers, .histograms, .safety]
  | .inputSample .. => [.power, .scheduler, .steering, .emitters, .timing, .receivers, .histograms, .safety]
  | .evaluationInstant .. | .discrepancyExpiry .. | .ossdReadbackFault .. | .clockCrossCheck .. | .channelBGapTest .. | .lockoutEntry ..
  | .clockMonitorWindow .. | .bootComplete .. => [.resets, .scheduler, .steering, .emitters, .timing, .receivers, .histograms, .safety]
  | .ledgerBankFailure .. => [.scheduler, .steering, .emitters, .timing, .receivers, .histograms, .safety, .calibration]
  | .galvoLoopSample .. | .hkaConversion .. => [.scheduler, .steering, .emitters, .timing, .receivers, .histograms, .safety, .converter]
  | .baristaSlot .. | .firePulse .. => [.power, .scheduler, .steering, .emitters, .timing, .receivers, .histograms, .safety, .calibration]
  | .thermalSample .. => [.power, .thermal, .scheduler, .steering, .emitters, .timing, .receivers, .histograms, .safety]
  | .domainRelease .. => [.frozen, .resets, .power, .scheduler, .steering, .timing, .receivers, .histograms, .calibration, .converter, .mounts]
  | .write .. =>
    [.staged, .banks, .frozen, .resets, .scheduler, .steering, .emitters, .receivers, .histograms, .safety, .calibration, .converter, .mounts]
  | .frameBoundary .. | .commitApply .. | .lossEntry .. | .lossExit .. =>
    [.staged, .banks, .memory, .power, .scheduler, .steering, .emitters, .timing, .receivers, .histograms, .crema, .safety, .calibration,
     .converter, .mounts]
  | .holdupEnd .. | .releaseRetry .. | .phaseFailure .. | .resetRelease .. | .fuseLoadComplete .. =>
    [.staged, .banks, .memory, .resets, .power, .scheduler, .steering, .emitters, .timing, .receivers, .histograms, .crema, .safety,
     .calibration, .converter, .mounts]
  | .inputStartThreshold .. | .resetEntry .. =>
    [.staged, .banks, .frozen, .memory, .resets, .power, .thermal, .scheduler, .steering, .emitters, .timing, .receivers, .histograms,
     .crema, .safety, .calibration, .converter, .mounts]

/-- Every part that a command may not change is the same after it. -/
def Frame (c : Instr) (s u : State) : Prop := ∀ p : Part, p ∉ mayChange c → p.Same s u

end Sys2Proof.Machine
end

