-- ==== Sys2Proof/Certificates/Slice0/Obligations.lean ====
section
/-! DEFINITION. The statements about the model. `u` is always the next state. A statement that names a log entry rests on a choice of the
model at that point. -/

open Sys2Proof Sys2Proof.Machine

/-! ## The machine as a whole -/

/-- A step takes the command at the front of the queue and is its meaning on the rest. With no command waiting the block idles: it takes up the
messages that wait in its receive queues, as far as they can be taken up, and without such messages the step leaves the state as it is (the
model's choice, log entry 4). -/
def Obligations.StepRunsFront : Prop :=
  (∀ (c : Instr) (rest : List Instr) (s : State), step { s with pending := c :: rest } = exec c { s with pending := rest }) ∧
  (∀ s : State, s.pending = [] → step s = .next (if s.tp.rxq = [] then s else s.drainMessages.settle))

/-- No step stops: every step of every state answers a next state. -/
def Obligations.EveryStepAnswers : Prop := ∀ s : State, ∃ u, step s = .next u

/-- Right after power-on: `BOOT`, no frame counted, epoch 0, nothing pending, only the AON domain released, memory-backed queues and
tables empty, every output off. -/
def Obligations.ResetState : Prop :=
  State.reset.dev = .boot ∧ State.reset.frameNo = 0 ∧ State.reset.epoch = 0 ∧ State.reset.pending = [] ∧ State.reset.shadow = [] ∧ State.reset.sys.armed = none ∧
    State.reset.pwr.released = [0] ∧ State.reset.tp.sessions = [] ∧ State.reset.tp.queues = [] ∧ State.reset.tp.journal = [] ∧
    State.reset.sch.trains = [] ∧ State.reset.grn.slots = [] ∧ State.reset.dark = true ∧ State.reset.pins.alertLow = true ∧
    State.reset.pins.drive = .coast

/-- The state after reset is settled: its pins are those of its state. Its stores are in canonical form. -/
def Obligations.ResetSettled : Prop := State.reset.Settled ∧ State.reset.regsWf = true ∧ State.reset.ramWf = true

/-- Every step keeps this: the pins are those of the state (R13, R47, R63, R117, R137, R245), and no sequencer pulse is left over. -/
def Obligations.StepKeepsSettled : Prop := ∀ s u : State, s.Settled → step s = .next u → u.Settled

/-- R13: in every state but `RUN` and `DEGRADED` the pins hold `EMIT_EN` low and drive no `FIRE`, and a fire instant that comes emits no
pulse. `Settled` is the invariant of `StepKeepsSettled`. -/
def Obligations.NoPulseOutsideRun : Prop :=
  ∀ s : State, s.Settled → s.dev ≠ .run → s.dev ≠ .degraded →
    s.pins.emitEn = false ∧ s.pins.fire = false ∧
    ∀ (line : Fin 128) (k : Nat) (egate : Bool) (cycle code : Nat), ∃ u, exec (.firePulse line k egate cycle code) s = .next u ∧
      u.tp.out = s.tp.out ∧ u.emt = s.emt

/-- Whatever command is performed, in whatever state: where it leaves the device in a state other than `RUN` and `DEGRADED`, or a reset in
progress, `EMIT_EN`, the `FIRE` outputs and both OSSDs are off after it. -/
def Obligations.DarkAfterEveryCommand : Prop :=
  ∀ (c : Instr) (s u : State), exec c s = .next u → (u.dev ≠ .run ∧ u.dev ≠ .degraded) ∨ u.rst.active.isSome → u.dark = true

/-- R117: the interlock's gate is its own: while `STE_STAT.ILK` is set, `EMIT_EN` is low after every command, in every device state. -/
def Obligations.InterlockGate : Prop :=
  ∀ (c : Instr) (s u : State), exec c s = .next u → u.getF F.STE_STAT.ILK = 1 → u.pins.emitEn = false

/-- The frame of the 136 commands that change at most three parts of the state besides registers, clock and reports (the table is
`mayChange`): every other part is the same after them. So a session's reads, messages, link and time commands leave the datapath, the pending
values, the banks and the waiting commands alone; and the fuses, the images and the key slots change by `FUSE_PROGRAM`, `IMAGE_WRITE` and
`KEY_SLOT_WRITE` only. -/
def Obligations.FrameOfNarrowCommands : Prop :=
  ∀ (c : Instr) (s u : State), (mayChange c).length ≤ 3 → exec c s = .next u → Frame c s u

/-- The frame of the other 44 commands, which may lead to `SAFE` or `LOCKOUT`, end frames, apply a commit or a reset, or put a spare in: they
too leave alone every part that `mayChange` does not name. -/
def Obligations.FrameOfBroadCommands : Prop :=
  ∀ (c : Instr) (s u : State), 3 < (mayChange c).length → exec c s = .next u → Frame c s u

/-- The register store: a word reads as last written, every other word as before, and the canonical form is kept. -/
def Obligations.StoreReadsBack : Prop :=
  ∀ (s : State) (a b : Nat) (w : Word),
    (s.poke a w).peek b = (if b = a then w else s.peek b) ∧ (s.regsWf = true → (s.poke a w).regsWf = true)

/-- A field reads as last written, cut to its width, and a field of another word or of other bits of the word as before. -/
def Obligations.FieldReadsBack : Prop :=
  ∀ (s : State) (f g : Field) (v : Nat), f.lsb + f.width ≤ 32 →
    (s.setF f v).getF f = v % 2 ^ f.width ∧
    (g.addr ≠ f.addr ∨ g.lsb + g.width ≤ f.lsb ∨ f.lsb + f.width ≤ g.lsb → (s.setF f v).getF g = s.getF g)

/-! ## Beam steering (chapter 05) -/

/-- Encoder commands with STE released. An edge: the newest five edge instants are kept, the count since the index mark goes up by one, and
the measured speed is that of four edge intervals (R102). An index mark restarts the count, keeps the edges and ends a revolution, unless
it is the first of a frame whose pulse fell before it (R104). Frame references on `FSYNC` (R106): the first edge is accepted and the
reference stands; when three or more expected edges in a row are missing, holdover begins, `REF_OK` clears and those of the missing edges
that were not yet counted are counted missed. -/
def Obligations.EncoderCommands : Prop :=
  (∀ (s : State) (t a b c d : Nat) (l : List Nat), s.on 9 = true → s.ste.edges = a :: b :: c :: d :: l → d < t → s.cpr ≠ 0 → 
    ∃ u, exec (.polyEncoderEdge t) s = .next u ∧ u.ste.edges = [t, a, b, c, d] ∧ u.ste.count = s.ste.count + 1 ∧
      u.getF F.STE_SPEED.RPM = min (256 * 60000000000 / (s.cpr * (t - d))) (2 ^ 32 - 1)) ∧
  (∀ (s : State) (t : Nat), s.on 9 = true → 
    ∃ u, exec (.indexMark t) s = .next u ∧ u.ste.count = 0 ∧ u.ste.indexed = true ∧ u.ste.idxAt = t ∧ u.ste.edges = s.ste.edges ∧
      (u.ste.rev = (if s.ste.early then s.ste.rev else s.ste.rev + 1))) ∧
  (∀ (s : State) (t : Nat), s.on 9 = true → s.getF F.STE_CTL.REFSRC = 1 → s.ste.fsync = none → 
    ∃ u, exec (.fsyncEdge t) s = .next u ∧ u.ste.fsync = some t ∧ u.ste.missed = 0 ∧ u.ste.holdover = false ∧
      u.getF F.STE_STAT.REF_OK = 1) ∧
  (∀ (s : State) (t n : Nat), s.on 9 = true → s.getF F.STE_CTL.REFSRC = 1 → s.ste.holdover = false → n = (s.at t).overdueEdges → 3 ≤ n → 
    ∃ u, exec (.fsyncHoldover t) s = .next u ∧ u.ste.holdover = true ∧ u.getF F.STE_STAT.REF_OK = 0 ∧
      u.getF F.STE_REF_STAT.MISSED = min (s.getF F.STE_REF_STAT.MISSED + (n - s.ste.missed)) 65535 ∧ u.ste.missed = max n s.ste.missed)

/-- A frame pulse with the internal reference (R107), in a state with frames and at an index mark, at the start or after REVS revolutions:
it is produced, its boundary is due, and revolutions are counted anew. The boundary that falls with it, with no frame open before it, no
stop waiting and no condition of the interlock, opens the next frame, numbered one higher, at pass 0 and step 0 of the program (R80,
R88). -/
def Obligations.FramesFollowPulses : Prop :=
  (∀ (s : State) (t : Nat), s.frames = true → s.on 9 = true → s.getF F.STE_CTL.REFSRC = 0 → s.ste.indexed = true → s.ste.idxAt = t →
    (s.sch.frame = none ∨ s.getF F.SCH_PROG.REVS ≤ s.ste.rev) → 
    ∃ u, exec (.framePulse t) s = .next u ∧ u.ste.pulse = some t ∧ u.ste.pulseDue = true ∧ u.ste.rev = 0) ∧
  (∀ (s : State) (t : Nat), s.frames = true → s.ste.pulseDue = true → s.ste.pulse = some (max s.now t) → s.rst.active = none →
    s.sch.frame = none → s.sys.stopReq = false → s.ste.conds = [] → 
    ∃ u x, exec (.frameBoundary t) s = .next u ∧ u.sch.frame = some x ∧ u.sch.at_ = some (0, 0) ∧ x.num = (s.frameNo + 1) % 2 ^ 32 ∧
      x.started = [0, 0, 0, 0, 0] ∧ x.excs = [] ∧ x.truncated = false)

/-- The loops while frames run and STE is released. Polygon (R118): the reference, in 1/10,000 of 1/256 rpm at 10,000 samples a second,
moves towards TARGET by RAMP rpm per second and stops there. Galvo (R113): the measured position is (feedback × GAIN) >> 14 + OFS, held
to 16 bits signed, the feedback being the encoder's or, with GV_FB, the housekeeping entry's. Steering records (R121): a record closes at
64 entries or 10 ms after its first, is committed to HOUSEKEEPING (class 8), and up to 64 entries leave. A test that has run its length
(R120) ends: `ARM` and `STE_STAT.TEST` clear. `Settled` is the invariant of `StepKeepsSettled`. -/
def Obligations.LoopSamples : Prop :=
  (∀ (s : State) (t : Nat), s.frames = true → s.on 9 = true → 
    ∃ u, exec (.polygonLoopSample t) s = .next u ∧
      (u.ste.refRpm = (if s.ste.refRpm < ((s.getF F.STE_RPM.TARGET * 2560000 : Nat) : Int) then min ((s.getF F.STE_RPM.TARGET * 2560000 :
      Nat) : Int) (s.ste.refRpm + ((s.getF F.STE_RPM.RAMP * 256 : Nat) : Int)) else max ((s.getF F.STE_RPM.TARGET * 2560000 : Nat) : Int)
      (s.ste.refRpm - ((s.getF F.STE_RPM.RAMP * 256 : Nat) : Int))))) ∧
  (∀ (s : State) (t : Nat) (raw : Int), s.frames = true → s.on 9 = true → 
    ∃ u, exec (.galvoLoopSample t raw) s = .next u ∧
      (u.ste.gvMeas = clampInt (-32768) 32767 (((if s.getF F.STE_CTL.GV_FB = 0 then raw else s.hkaResult (s.getF F.STE_CTL.GV_HKA)) *
      s.getF F.STE_GV_CAL.GAIN) / 16384 + s.getI F.STE_GV_CAL.OFS))) ∧
  (∀ (s : State) (t : Nat) (e : SteerEntry) (l : List SteerEntry), s.Settled → s.ste.entries = e :: l → s.now ≤ t →
    (64 ≤ (e :: l).length ∨ e.time + 10000000 ≤ t) → 
    ∃ u r, exec (.steeringRecordClose t) s = .next u ∧ u.ste.entries = (e :: l).drop 64 ∧ u.tp.journal = r :: s.tp.journal ∧ r.cls = 8) ∧
  (∀ (s : State) (t n : Nat), s.ste.testDone = some n → s.getF F.STE_TEST.ARM = 1 → s.getF F.STE_TEST_LEN.SAMPLES ≤ n → 
    ∃ u, exec (.steeringTestComplete t) s = .next u ∧ u.ste.testDone = none ∧ u.getF F.STE_TEST.ARM = 0 ∧ u.getF F.STE_STAT.TEST = 0)

/-- What steering brings into `SAFE`, with cause 0x27 and every output off: a trip of the interlock while the device emits (R117), a galvo
error above its limit for STALL ms while it emits (R116), a spin-up that takes SPIN × 10 ms (R118), a transition that still lasts TRANS ×
10 ms after the ramp (R119). -/
def Obligations.SteeringDoubt : Prop :=
  (∀ (s : State) (cause : Fin 5) (t : Nat), (s.dev = .run ∨ s.dev = .degraded) → s.on 9 = true → 
    ∃ u, exec (.interlockTrip cause t) s = .next u ∧ u.dev = .safe ∧ u.getF F.SYS_STATE.CAUSE = 0x27 ∧ u.dark = true) ∧
  (∀ (s : State) (t since : Nat), (s.dev = .run ∨ s.dev = .degraded) → s.on 9 = true → s.ste.stall = some since → s.now ≤ t →
    since + s.getF F.STE_ILK.STALL * 1000000 ≤ t → 
    ∃ u, exec (.galvoStallExpiry t) s = .next u ∧ u.dev = .safe ∧ u.getF F.SYS_STATE.CAUSE = 0x27 ∧ u.dark = true) ∧
  (∀ (s : State) (t : Nat), s.dev = .spinup → s.now ≤ t → s.ste.spinAt + s.getF F.STE_TMO.SPIN * 10000000 ≤ t → 
    ∃ u, exec (.spinupTimeout t) s = .next u ∧ u.dev = .safe ∧ u.getF F.SYS_STATE.CAUSE = 0x27 ∧ u.dark = true) ∧
  (∀ (s : State) (t r : Nat), (s.dev = .run ∨ s.dev = .degraded) → s.ste.transition = true → s.ste.rampedAt = some r → s.now ≤ t →
    r + s.getF F.STE_TMO.TRANS * 10000000 ≤ t → 
    ∃ u, exec (.transitionTimeout t) s = .next u ∧ u.dev = .safe ∧ u.getF F.SYS_STATE.CAUSE = 0x27 ∧ u.dark = true)

/-! ## The scan program and Barista (chapter 04) -/

/-- Barista's slots (R92 to R96), each 1 µs. Where no frames run a slot only cools the emitters, slot by slot, by H ÷ TAU; with no heat and
no load in progress nothing leaves the pins and no register changes. While the device emits and steering is not valid, the only ready
group, of a class other than P0 and with its step not left, does not start and keeps reason 1 as its last failing check. A ready P0 group
in its reserved slot, with every check passed, starts its train (R93, R139). -/
def Obligations.BaristaSlots : Prop :=
  (∀ (s : State) (t : Nat), s.on 8 = true → s.now ≤ t → t % 1000 = 0 → s.sch.slot < t / 1000 → s.frames = false → 
    ∃ u, exec (.baristaSlot t) s = .next u ∧ u.sch.slot = t / 1000 ∧
      u.sch.heat = ((s.sch.heat.map (fun e => (e.1, coolDown (max 1 (s.getF F.SCH_THERM_TAU.VALUE)) (t / 1000 - s.sch.slot) e.2))).filter
      (fun e => e.2 ≠ 0))) ∧
  (∀ (s : State) (t : Nat), s.Settled → s.on 8 = true → s.now ≤ t → t % 1000 = 0 → s.sch.slot < t / 1000 → s.frames = false →
    s.sch.heat = [] → (∀ c : Fin 4, (s.chain c).load = none) → 
    ∃ u, exec (.baristaSlot t) s = .next u ∧ u.tp.out = s.tp.out ∧ u.regs = s.regs ∧
      u.sch.trains = s.sch.trains.filter (fun tr => decide (t < tr.endOf + 10000))) ∧
  (∀ (s : State) (t : Nat) (pos : Int) (f : FrameInfo) (r : Ready), s.on 8 = true → s.now ≤ t → t % 1000 = 0 → s.sch.slot < t / 1000 →
    (s.dev = .run ∨ s.dev = .degraded) → s.rst.active = none → s.getF F.STE_STAT.VALID = 0 → s.framePos t = some pos →
    s.sch.frame = some f → s.sch.at_ = none → s.sch.ready = [r] → s.sch.owed = [] → r.cls ≠ 0 → pos < s.stepEnd f r.pass r.step → 
    ∃ u, exec (.baristaSlot t) s = .next u ∧ u.sch.ready = [{ r with fail := some 1 }] ∧ u.sch.slot = t / 1000) ∧
  (∀ (s v : State) (t : Nat) (pos : Int) (f : FrameInfo) (r : Ready), s.on 8 = true → s.now = t → t % 1000 = 0 → s.sch.slot < t / 1000 →
    (s.dev = .run ∨ s.dev = .degraded) → s.rst.active = none → s.getF F.STE_STAT.VALID = 1 → s.framePos t = some pos →
    s.sch.frame = some f → s.sch.at_ = none → s.sch.ready = [r] → s.sch.trains = [] → s.sch.heat = [] → s.sch.placed = [] →
    s.sch.starts = [] → r.cls = 0 → r.fail = none → v = { s with sch := { s.sch with slot := t / 1000 } } → v.firstSlot r = t / 1000 →
    pos < s.stepEnd f r.pass r.step → s.sch.owed = [] → (∀ c : Fin 4, (s.chain c).load = none) →
    v.energyFits (v.readyEntry r) (v.members (v.readyEntry r)) = true → v.slotsFit (v.readyEntry r) (v.members (v.readyEntry r)) = true →
    v.rateFits f pos (v.readyEntry r) (v.members (v.readyEntry r)) = true → 
    ∃ u, exec (.baristaSlot t) s = .next u ∧ u.sch.trains = [v.trainOf f r] ∧ u.sch.ready = [])

/-- Every slot of Barista that begins at a whole µs after the last one, with the datapath released, is performed, whatever the device state
(R92, R95): it is the current slot from then on. In a frame, with every step planned and no group ready or owed, no train starts, those
that have ended are gone, and the device state stays. -/
def Obligations.EverySlotCompletes : Prop :=
  (∀ (s : State) (t : Nat), s.on 8 = true → s.now ≤ t → t % 1000 = 0 → s.sch.slot < t / 1000 → 
    ∃ u, exec (.baristaSlot t) s = .next u ∧ u.sch.slot = t / 1000 ∧ u.now = t) ∧
  (∀ (s : State) (t : Nat), s.on 8 = true → s.now ≤ t → t % 1000 = 0 → s.sch.slot < t / 1000 → s.sch.at_ = none → s.sch.ready = [] →
    s.sch.owed = [] → 
    ∃ u, exec (.baristaSlot t) s = .next u ∧ u.sch.slot = t / 1000 ∧
      u.sch.trains = s.sch.trains.filter (fun tr => decide (t < tr.endOf + 10000)) ∧ u.sch.ready = [] ∧ u.dev = s.dev)

/-- A ready P0 group that has not started by SLACK slots after its reserved slot (R93), in a frame without `TRANSITION`, while the device
emits: the device enters `SAFE`, with cause 0x27 where steering was the last failing check and 0x23 otherwise (R91), and every output is
off. So it does for a P0 group whose step ended before its slack. -/
def Obligations.P0CannotBeServed : Prop :=
  (∀ (s : State) (pass step pos t : Nat) (f : FrameInfo) (r : Ready), (s.dev = .run ∨ s.dev = .degraded) → s.sch.frame = some f →
    f.transition = false → s.sch.ready = [r] → s.sch.owed = [] → r.cls = 0 → r.slack = false → r.pass = pass → r.step = step →
    r.pos = pos → s.firstSlot r + s.getF F.SCH_P0_CTL.SLACK ≤ s.sch.slot → 
    ∃ u, exec (.p0SlackExpiry pass step pos t) s = .next u ∧ u.dev = .safe ∧
      (u.getF F.SYS_STATE.CAUSE = (if r.fail = some 1 then 0x27 else 0x23)) ∧ u.dark = true) ∧
  (∀ (s : State) (pass step pos t : Nat) (o : OwedP0), (s.dev = .run ∨ s.dev = .degraded) → s.sch.owed = [o] → o.pass = pass →
    o.step = step → o.pos = pos → o.exempt = false → o.due ≤ s.sch.slot → 
    ∃ u, exec (.p0SlackExpiry pass step pos t) s = .next u ∧ u.dev = .safe ∧
      (u.getF F.SYS_STATE.CAUSE = (if o.fail = some 1 then 0x27 else 0x23)) ∧ u.dark = true)

/-! ## Emission (chapter 06) -/

/-- The states of an emitter chain (R132, R135, R136). A load starts in `ON` with EN set while a full load is due; `OFF` with EN set and
t_OFF past goes to `STARTING` with the zero load; the zero load latches: `STARTING` to `ON` with a full load due where EN is set,
`STOPPING` to `OFF`, and `PENDING_ON` stays with its stop finished; `ON` with EN clear and no train goes to `STOPPING` with the zero
load. A primary/reserve switch of a line that waits, with no train running and no load in progress on the chain (R134): it latches, SEL
of the line changes and of no other line, and it waits no more. -/
def Obligations.ChainStates : Prop :=
  (∀ (s : State) (c : Fin 4) (t : Nat), s.frames = true → s.on 8 = true → c.val < s.emt.chains.length → s.chainState c = 2 →
    s.chainEn c = true → (s.chain c).fullDue = true → 
    ∃ u k, exec (.chainLoadStart c t) s = .next u ∧ (u.chain c).load = some k ∧ k.zero = false ∧ k.words.length = 32 ∧ u.chainState c = 2) ∧
  (∀ (s : State) (c : Fin 4) (t : Nat), s.on 8 = true → c.val < s.emt.chains.length → s.chainState c = 0 → s.chainEn c = true → s.now ≤ t →
    (s.chain c).offAt + s.getF (F.EMT_CHAIN_CTL.TOFF.idx c) * 100000 ≤ t → 
    ∃ u, exec (.chainOffTimeExpiry c t) s = .next u ∧ u.chainState c = 1 ∧ (u.chain c).load.map ChainLoad.zero = some true) ∧
  (∀ (s : State) (c : Fin 4) (t : Nat) (k : ChainLoad), c.val < s.emt.chains.length → (s.chain c).load = some k → k.zero = true →
    (s.chainState c = 1 ∨ s.chainState c = 3 ∨ s.chainState c = 4) → 
    ∃ u, exec (.chainZeroLoadLatched c t) s = .next u ∧
      (u.chainState c = (if s.chainState c = 1 then 2 else if s.chainState c = 3 then 0 else 4)) ∧ (u.chain c).load = none ∧
      (u.chain c).last = k.words ∧ ((u.chain c).fullDue = (if s.chainState c = 1 ∧
      s.chainEn c = true then true else (s.chain c).fullDue)) ∧ (s.chainState c = 4 → (u.chain c).stopped = true) ∧ (s.chainState c ≠ 1 →
      (u.chain c).offAt = max s.now t)) ∧
  (∀ (s : State) (c : Fin 4) (t : Nat), c.val < s.emt.chains.length → s.chainState c = 2 → s.chainEn c = false → s.sch.trains = [] → 
    ∃ u, exec (.chainStopRequest c t) s = .next u ∧ u.chainState c = 3 ∧ (u.chain c).load.map ChainLoad.zero = some true) ∧
  (∀ (s : State) (line l : Fin 128) (t : Nat), s.emt.switches.contains line.val = true → s.sch.trains = [] →
    (s.chain (line.val / 32)).load = none → 
    ∃ u, exec (.diodeSwitchLatch line t) s = .next u ∧
      (u.bitF (F.EMT_RSV.SEL.idx (l / 32)) (l % 32) = (if l = line then !s.bitF (F.EMT_RSV.SEL.idx (l / 32)) (l % 32) else s.bitF
      (F.EMT_RSV.SEL.idx (l / 32)) (l % 32))) ∧ (s.compat (l / 32) = false →
      u.reserveIn l = (if l = line then !s.reserveIn l else s.reserveIn l)) ∧ u.emt.switches = s.emt.switches.filter (· ≠ line.val))

/-- A pulse of a running train at its nominal instant (R138 to R142), with the `FIRE` pins driven, no earlier edge on its bank and room in
both energy windows of its zone: it is fired on its bank, and the bank's last edge stands at that instant. With the short window full it
is not fired: it is counted suppressed and marked absent (R143, R144). A pulse of a retired or ineligible diode is not fired and absent
(R128). -/
def Obligations.FirePulses : Prop :=
  (∀ (s : State) (line : Fin 128) (k : Nat) (egate : Bool) (cycle code n : Nat) (tr : Train) (x : TrainLine), s.Settled →
    s.pins.fire = true → s.lineDead line = false → (∀ c : Fin 4, (s.chain c).load = none) → s.sch.trains = [tr] → tr.lines = [x] →
    x.line = line.val → x.done = k → k < tr.pulses → tabFind (line.val / 16) s.sch.lastFire = none → n = tr.nominal x.rank k →
    s.shortUse (s.zoneOf line) n + s.pulseEnergy line ≤ s.shortCeil (s.zoneOf line) →
    s.longUse (s.zoneOf line) n + s.pulseEnergy line ≤ s.longCeil (s.zoneOf line) → 
    ∃ u, exec (.firePulse line k egate cycle code) s = .next u ∧ u.tp.out = .fire (line.val / 16) line.val n :: s.tp.out ∧
      tabFind (line.val / 16) u.sch.lastFire = some n) ∧
  (∀ (s : State) (line : Fin 128) (k : Nat) (egate : Bool) (cycle code n : Nat) (tr : Train) (x : TrainLine), s.Settled →
    s.pins.fire = true → s.lineDead line = false → (∀ c : Fin 4, (s.chain c).load = none) → s.sch.trains = [tr] → tr.lines = [x] →
    x.line = line.val → x.done = k → k < tr.pulses → tabFind (line.val / 16) s.sch.lastFire = none → n = tr.nominal x.rank k →
    s.shortCeil (s.zoneOf line) < s.shortUse (s.zoneOf line) n + s.pulseEnergy line → 
    ∃ u r, exec (.firePulse line k egate cycle code) s = .next u ∧ u.emt = s.emt ∧ u.sch.lastFire = s.sch.lastFire ∧
      u.getF F.EMT_GUARD.SUPPR = min (s.getF F.EMT_GUARD.SUPPR + 1) (2 ^ 32 - 1) ∧
      u.etd.results = s.etd.results ++ [((tr.frame, tr.ord, line.val), r)] ∧ r.status = 2 ∧ r.k = k) ∧
  (∀ (s : State) (line : Fin 128) (k : Nat) (egate : Bool) (cycle code : Nat) (tr : Train) (x : TrainLine), s.Settled →
    s.pins.fire = true → s.lineDead line = true → (∀ c : Fin 4, (s.chain c).load = none) → s.sch.trains = [tr] → tr.lines = [x] →
    x.line = line.val → x.done = k → k < tr.pulses → 
    ∃ u r, exec (.firePulse line k egate cycle code) s = .next u ∧ u.tp.out = s.tp.out ∧ u.sch.lastFire = s.sch.lastFire ∧
      u.etd.results = s.etd.results ++ [((tr.frame, tr.ord, line.val), r)] ∧ r.status = 2)

/-! ## Emission timing (chapter 07) -/

/-- A stop on a bank in service (R149, R150): inside the window of the bank's only start, with no stop before it and the start armed, it is
paired with the start, as timed by the bank's delay line; with no start open it is counted STRAY. The edge that EMON_POL does not select
is none (R147). The window of a bank's only start closes (R149, R156): the start is gone; with one timed stop the pulse is MEASURED, at
that stop less the bank's ZERO in the epoch of its frame (R44, R159), without a stop it is a MISS and its result is absent. -/
def Obligations.StopsArePaired : Prop :=
  (∀ (s : State) (bank : Fin 8) (rising : Bool) (cycle code time : Nat) (p : PulseStart), s.on 8 = true → s.activeEdge rising = true →
    s.bankEst bank = false → s.etd.starts = [p] → p.bank = bank.val → p.armed = true → tabFind bank.val s.etd.stopDead = none →
    time = edgeTime (s.tapLine (s.etdOf bank)).widths cycle code → p.time + fineNs (s.getF F.ETD_WIN.MIN) ≤ time →
    time ≤ p.time + fineNs (s.getF F.ETD_WIN.MAX) → 
    ∃ u, exec (.emonStop bank.castSucc ⟨rising, cycle⟩ code) s = .next u ∧ u.etd.starts = [{ p with stops := p.stops ++ [(time, true)] }] ∧
      tabFind bank.val u.etd.stopDead = some time ∧ u.etd.counts = s.etd.counts) ∧
  (∀ (s : State) (bank : Fin 8) (rising : Bool) (cycle code : Nat), s.on 8 = true → s.activeEdge rising = true → s.bankEst bank = false →
    s.etd.starts = [] → 
    ∃ u, exec (.emonStop bank.castSucc ⟨rising, cycle⟩ code) s = .next u ∧
      countAt (bank.val * 8 + 5) u.etd.counts = countAt (bank.val * 8 + 5) s.etd.counts + 1 ∧ u.etd.starts = []) ∧
  (∀ (s : State) (bank : Fin 9) (rising : Bool) (cycle code : Nat), s.Settled → s.activeEdge rising = false → 
    ∃ u, exec (.emonStop bank ⟨rising, cycle⟩ code) s = .next u ∧ u.etd = s.etd ∧ u.saf = s.saf ∧ u.regs = s.regs) ∧
  (∀ (s : State) (bank : Fin 8) (t stop : Nat) (p : PulseStart), s.etd.starts = [p] → p.bank = bank.val → p.armed = true → p.est = false →
    p.stops = [(stop, true)] → s.now ≤ t → p.time + fineNs (s.getF F.ETD_WIN.MAX) ≤ fineNs t → 
    ∃ u r, exec (.pulseSettle bank t) s = .next u ∧ u.etd.starts = [] ∧
      countAt (bank.val * 8) u.etd.counts = countAt (bank.val * 8) s.etd.counts + 1 ∧
      u.etd.results = s.etd.results ++ [((p.frame, p.ord, p.line), r)] ∧ r.status = 0 ∧ r.k = p.k ∧ r.energy = p.energy ∧
      r.instant = (toLsb stop : Int) - signed 16 (s.getAt p.epoch (F.ETD_ZERO.ZERO.idx bank))) ∧
  (∀ (s : State) (bank : Fin 8) (t : Nat) (p : PulseStart), s.etd.starts = [p] → p.bank = bank.val → p.armed = true → p.est = false →
    p.stops = [] → s.now ≤ t → p.time + fineNs (s.getF F.ETD_WIN.MAX) ≤ fineNs t → 
    ∃ u r, exec (.pulseSettle bank t) s = .next u ∧ u.etd.starts = [] ∧
      countAt (bank.val * 8 + 1) u.etd.counts = countAt (bank.val * 8 + 1) s.etd.counts + 1 ∧
      u.etd.results = s.etd.results ++ [((p.frame, p.ord, p.line), r)] ∧ r.status = 2)

/-- Interpolators (R152 to R158), with their domain released. The code-density test of an interpolator outside frames, with 524,288 hits
collected, whose widths all lie within 0.25 and 2 LSB, stages the table that the hits give. A DLL that loses lock, or a conversion that
does not come, marks the interpolator estimated. The change that waits is applied where no frame is open and no train runs: ETD8, idle
and sound, serves the bank. A DLL lock is shown. The idle spare fires its own loop in `STANDBY`, outside frames. -/
def Obligations.InterpolatorUpkeep : Prop :=
  (∀ (s : State) (etd : Fin 9) (hits : List Nat) (t : Nat), s.on 8 = true → s.sch.frame = none → s.sch.trains = [] →
    testHits ≤ countAt etd.val s.etd.hits → hits.length = 128 → hits.sum = testHits →
    hits.all (fun n => decide (1024 ≤ n) && decide (n ≤ 8192)) = true → 
    ∃ u, exec (.interpolatorRefreshComplete etd hits t) s = .next u ∧ (u.tapLine etd).staged = some (toWidths hits) ∧
      (u.tapLine etd).widths = (s.tapLine etd).widths ∧ u.getF (F.ETD_TBL.STAGED.inst etd) = 1) ∧
  (∀ (s : State) (etd : Fin 9) (t : Nat), s.on 8 = true → 
    ∃ u, exec (.interpolatorFailure etd t) s = .next u ∧ u.bitF F.ETD_FAIL.EST etd = true ∧ u.bitF F.ETD_MAP.LOCK etd = false) ∧
  (∀ (s : State) (etd : Fin 9) (t : Nat), s.on 8 = true → 
    ∃ u, exec (.conversionTimeout etd t) s = .next u ∧ u.bitF F.ETD_FAIL.EST etd = true) ∧
  (∀ (s : State) (etd : Fin 8) (t req : Nat), tabFind etd.val s.etd.subst = some req → s.sch.frame = none → s.sch.trains = [] →
    s.getF F.ETD_MAP.SPARE_IN = 0 → s.bitF F.ETD_FAIL.EST 8 = false → 
    ∃ u, exec (.substitutionApply etd.castSucc t) s = .next u ∧ u.getF F.ETD_MAP.SPARE_IN = 1 ∧ u.getF F.ETD_MAP.BANK = etd.val ∧
      u.bitF F.ETD_MAP.LOCK 8 = false ∧ tabFind etd.val u.etd.subst = none) ∧
  (∀ (s : State) (etd : Fin 9) (t : Nat), s.on 8 = true → 
    ∃ u, exec (.dllLock etd t) s = .next u ∧ u.bitF F.ETD_MAP.LOCK etd = true ∧
      u.etd.relock = s.etd.relock.filter (fun x => x.1 ≠ etd.val)) ∧
  (∀ (s : State) (egate : Bool) (cycle code : Nat) (stop : Option (Bool × Nat × Nat)), s.Settled → s.on 8 = true → s.dev = .standby →
    s.sch.frame = none → s.getF F.ETD_MAP.SPARE_IN = 0 → s.getF F.ETD_CTL.REFLOOP = 1 → 
    ∃ u, exec (.referenceLoopFire egate cycle code stop) s = .next u ∧ u.tp.out = .reference cycle :: s.tp.out)

/-! ## Return channels (chapter 08) -/

/-- A return pulse on a channel in service (R165, R166), the first of its channel. Below 80 LSB it is counted RUNT and is no event; from 80
to 559 LSB while no train runs it is one event, and nothing is forwarded. In the armed interval of a train on its line, with a level of
non-zero weight and room in the group queue, the event is forwarded: its leading edge less OFS, with level (width - 48) ÷ 32 (R175,
R176). A channel whose pair stays in the pulse state (R166): its STUCK flag sets, and clears again when the pair has left the pulse
state. -/
def Obligations.ReturnPulses : Prop :=
  (∀ (s : State) (ch : Fin 1024) (leadCycle leadCode trailCycle trailCode k w : Nat) (ws : List Nat), s.samplerAt ch leadCycle = some k →
    s.on 8 = true → s.on (20 + ch.val / 64) = true → s.getF (chanEn ch) = 1 → s.getF (chanFlag ch 0) = 0 →
    tabFind ch.val s.rxc.trailing = none → ws = (s.tapLine (samplerLine (ch.val / 64) k)).widths →
    w = toLsb (edgeTime ws trailCycle trailCode - edgeTime ws leadCycle leadCode) → w < 80 → 
    ∃ u, exec (.returnPulse ch leadCycle leadCode trailCycle trailCode) s = .next u ∧
      countAt (ch.val * 8 + 3) u.rxc.counts = countAt (ch.val * 8 + 3) s.rxc.counts + 1 ∧
      countAt (ch.val * 8) u.rxc.counts = countAt (ch.val * 8) s.rxc.counts ∧ u.rxc.queues = s.rxc.queues) ∧
  (∀ (s : State) (ch : Fin 1024) (leadCycle leadCode trailCycle trailCode k w : Nat) (ws : List Nat), s.samplerAt ch leadCycle = some k →
    s.on 8 = true → s.on (20 + ch.val / 64) = true → s.getF (chanEn ch) = 1 → s.getF (chanFlag ch 0) = 0 →
    tabFind ch.val s.rxc.trailing = none → ws = (s.tapLine (samplerLine (ch.val / 64) k)).widths →
    w = toLsb (edgeTime ws trailCycle trailCode - edgeTime ws leadCycle leadCode) → 80 ≤ w → w < 560 → s.sch.trains = [] → 
    ∃ u, exec (.returnPulse ch leadCycle leadCode trailCycle trailCode) s = .next u ∧
      countAt (ch.val * 8) u.rxc.counts = countAt (ch.val * 8) s.rxc.counts + 1 ∧ u.rxc.queues = s.rxc.queues ∧
      tabFind ch.val u.rxc.trailing = some (toLsb (edgeTime ws trailCycle trailCode) : Int)) ∧
  (∀ (s : State) (ch : Fin 1024) (leadCycle leadCode trailCycle trailCode k w : Nat) (ws : List Nat) (tr : Train) (x : TrainLine) (time :
    Int), s.samplerAt ch leadCycle = some k → s.on 8 = true → s.on (20 + ch.val / 64) = true → s.getF (chanEn ch) = 1 →
    s.getF (chanFlag ch 0) = 0 → tabFind ch.val s.rxc.trailing = none → ws = (s.tapLine (samplerLine (ch.val / 64) k)).widths →
    w = toLsb (edgeTime ws trailCycle trailCode - edgeTime ws leadCycle leadCode) → 80 ≤ w → w < 560 →
    s.samplerFailed (ch.val / 64) k = false → s.sch.trains = [tr] → tr.lines = [x] → x.line = ch.val / 8 →
    time = (toLsb (edgeTime ws leadCycle leadCode) : Int) - s.getI (chanOfs ch) → ((tr.nominal x.rank 0 * 128 : Nat) : Int) ≤ time →
    time < ((x.endAt * 128 : Nat) : Int) → s.weight tr.epoch ((w - 48) / 32) ≠ 0 → s.queueOf (ch.val / 64) = [] → 
    ∃ u, exec (.returnPulse ch leadCycle leadCode trailCycle trailCode) s = .next u ∧
      u.queueOf (ch.val / 64) = [{ ch := ch.val, frame := tr.frame, train := tr.ord, time := time, level := (w - 48) / 32 }]) ∧
  (∀ (s : State) (ch : Fin 1024) (t : Nat), s.on 8 = true → 
    ∃ u, exec (.channelStuck ch t) s = .next u ∧ u.getF (chanFlag ch 0) = 1 ∧ u.getF (chanEn ch) = s.getF (chanEn ch)) ∧
  (∀ (s : State) (ch : Fin 1024) (t : Nat), s.on 8 = true → 
    ∃ u, exec (.channelUnstuck ch t) s = .next u ∧ u.getF (chanFlag ch 0) = 0 ∧ u.getF (chanEn ch) = s.getF (chanEn ch))

/-- Samplers (R169 to R174), with their domains released. A refresh with 524,288 edges collected whose widths all lie within 0.25 and 2 LSB
stages the new table. A tap map that waits is applied outside frames while no train runs, and the sampler relocks within 3 µs. A sampler
that fails shows FAILED. A channel that lost its sampler is switched to the spare that its failure was assigned, and waits no more. The
tile buses (R180, R181). A running transaction ends with the result it met, a stretched clock ends it with result 5; GO clears. An APPLY
that is due goes out as the two bytes 0x0F, 0xA7 on every bus that takes part, and ACK and NACK show which of them acknowledged. -/
def Obligations.SamplerUpkeep : Prop :=
  (∀ (s : State) (group : Fin 16) (sampler : Fin 68) (hits : List Nat) (t : Nat), s.on 8 = true → s.on (20 + group.val) = true →
    testHits ≤ countAt (samplerLine group sampler) s.rxc.edges → hits.length = 128 → hits.sum = testHits →
    hits.all (fun n => decide (1024 ≤ n) && decide (n ≤ 8192)) = true → 
    ∃ u, exec (.samplerRefreshComplete group sampler hits t) s = .next u ∧
      (u.tapLine (samplerLine group sampler)).staged = some (toWidths hits) ∧
      (u.tapLine (samplerLine group sampler)).widths = (s.tapLine (samplerLine group sampler)).widths ∧
      u.getF (F.RXC_SMP_TBL.STAGED.inst (samplerInst group sampler)) = 1) ∧
  (∀ (s : State) (group : Fin 16) (sampler : Fin 68) (places : List Nat) (req t : Nat), (s.tapLine (samplerLine group sampler)).subst =
    some (places, req) → s.sch.frame = none → s.sch.trains = [] → 
    ∃ u lock, exec (.samplerTapMapApply group sampler t) s = .next u ∧
      u.tapLine (samplerLine group sampler) = (s.tapLine (samplerLine group sampler)).substituted (samplerLine group sampler) places ∧
      u.getF (F.RXC_SMP_TBL.PROV.inst (samplerInst group sampler)) = 1 ∧ u.etd.relock.head? = some (samplerLine group sampler, some lock) ∧
      lock ≤ max s.now t + 3000) ∧
  (∀ (s : State) (group : Fin 16) (sampler : Fin 68) (t : Nat), s.on 8 = true → s.on (20 + group.val) = true → 
    ∃ u, exec (.samplerFailure group sampler t) s = .next u ∧ u.samplerFailed group sampler = true) ∧
  (∀ (s : State) (ch : Fin 1024) (w : SpareClaim) (t : Nat), s.rxc.waiting = [w] → w.ch = ch.val → s.sch.trains = [] → 
    ∃ u, exec (.samplerSubstitution ch t) s = .next u ∧ u.getF (chanMap ch) = (64 + w.spare) % 128 ∧
      u.getF (F.RXC_SMP_STAT.IN_SERVICE.inst (samplerInst (ch.val / 64) (64 + w.spare))) = 1 ∧
      u.getF (F.RXC_SMP_STAT.CHANNEL.inst (samplerInst (ch.val / 64) (64 + w.spare))) = ch.val % 64 ∧ u.rxc.waiting = []) ∧
  (∀ (s : State) (bus : Fin 4) (result done : Nat) (data : List Byte) (t : Nat), s.on 8 = true → s.getF (F.RXC_I2C_CMD.GO.bus bus) = 1 →
    (result = 2 ∨ result = 3 ∨ result = 4 ∨ result = 7) → 
    ∃ u, exec (.i2cTransactionComplete bus result done data t) s = .next u ∧ u.getF (F.RXC_I2C_CMD.GO.bus bus) = 0 ∧
      u.getF (F.RXC_I2C_STAT.RESULT.bus bus) = result) ∧
  (∀ (s : State) (bus : Fin 4) (done t : Nat), s.on 8 = true → s.getF (F.RXC_I2C_CMD.GO.bus bus) = 1 → 
    ∃ u, exec (.i2cStretchTimeout bus done t) s = .next u ∧ u.getF (F.RXC_I2C_CMD.GO.bus bus) = 0 ∧
      u.getF (F.RXC_I2C_STAT.RESULT.bus bus) = 5) ∧
  (∀ (s : State) (acked t : Nat), s.Settled → s.on 8 = true → s.rxc.applyDue = true →
    (s.on 5 = false ∨ s.getF F.RXC_I2C_CFG.APPLY_EN &&& acked = s.getF F.RXC_I2C_CFG.APPLY_EN) → 
    ∃ u, exec (.i2cApply acked t) s = .next u ∧
      u.tp.out = (onesOf 4 (s.getF F.RXC_I2C_CFG.APPLY_EN)).map (fun b => Out.i2c b [0x0F, 0xA7]) ++ s.tp.out ∧ u.rxc.applyDue = false ∧
      u.getF F.RXC_I2C_APPLY.ACK = s.getF F.RXC_I2C_CFG.APPLY_EN &&& acked ∧
      u.getF F.RXC_I2C_APPLY.NACK = s.getF F.RXC_I2C_CFG.APPLY_EN - (s.getF F.RXC_I2C_CFG.APPLY_EN &&& acked))

/-! ## Histogram engines (chapter 09) -/

/-- How events and pulses meet a measurement. A train descriptor brings the result of a line's pulse to the line's only open measurement,
which holds no event (R189). A histogram update takes the oldest event of a group's queue, where the descriptors that decide its place
have arrived, uses one update of the engine's bucket, and adds the event's weight to the coarse bin (time since the pulse's window
opened) ÷ 64 LSB of the channel's measurement, with saturation (R190, R199). -/
def Obligations.EventsMeetMeasurements : Prop :=
  (∀ (s : State) (frame train n : Nat) (line : Fin 128) (r : PulseResult) (m : Meas), s.etd.results = [((frame, train, line.val), r)] →
    s.grn.slots = [(n, m)] → m.chan / 8 = line.val → m.frame = frame → m.train = train → m.state = 1 → m.waiting = [] → 
    ∃ u m', exec (.trainDescriptor frame train line) s = .next u ∧ u.etd.results = [] ∧ u.grn.slots = [(n, m')] ∧ r ∈ m'.pulseInfo ∧
      m'.pulseInfo.length = m.pulseInfo.length + 1 ∧ m'.used = m'.contributing m.pulses ∧ m'.absent = (m.absent || decide (r.status = 2)) ∧
      m'.est = (m.est || decide (r.status = 1)) ∧ m'.bins = m.bins) ∧
  (∀ (s : State) (group : Fin 16) (t slot : Nat) (ev : Event) (m : Meas) (r : PulseResult), s.queueOf group = [ev] → s.rxc.held = [] →
    tabFind (group.val / 2) s.grn.bucket = none → tabFind (group.val / 2) s.grn.recent = none → s.on (12 + group.val / 2) = true →
    s.measOf ev = some (slot, m) → m.decided ev.time = true → m.chFault = false → m.tileFault = false → m.zfrom = 0x3F →
    m.pulseAt ev.time = some r → r.status ≠ 2 → 
    ∃ u, exec (.histogramUpdate ⟨group, 0⟩ t) s = .next u ∧ u.queueOf group = [] ∧
      tabFind (group.val / 2) u.grn.bucket = some (163839, max s.now t) ∧
      tabFind slot u.grn.slots = some { m with bins := addBin ((ev.time - m.opens r).toNat / 64) (s.weight m.epoch ev.level) m.bins })

/-- The life of an open measurement after its events (R187, R194, R195). The candidate search ends once the windows of the first pass have
passed: its at most four candidates are kept, and NOCAND set without any. It closes when the windows of all its pulses have passed:
`CLOSED`, with the baseline of the pulses that contribute. A clearing slot becomes free. -/
def Obligations.MeasurementsClose : Prop :=
  (∀ (s : State) (slot : Fin 4096) (t : Nat) (m : Meas), tabFind slot.val s.grn.slots = some m → m.state = 1 → m.searched = none →
    m.passed (s.passOne m) (max s.now t) = true → 
    ∃ u m', exec (.candidateSearch slot t) s = .next u ∧ tabFind slot.val u.grn.slots = some m' ∧ m'.searched = some (max s.now t) ∧
      m'.cands.length ≤ 4 ∧ m'.nocand = m'.cands.isEmpty ∧ m'.bins = m.bins) ∧
  (∀ (s : State) (slot : Fin 4096) (t : Nat) (m : Meas), tabFind slot.val s.grn.slots = some m → (m.state = 1 ∨ m.state = 2) →
    m.passed m.pulses (max s.now t) = true → 
    ∃ u m', exec (.measurementClose slot t) s = .next u ∧ tabFind slot.val u.grn.slots = some m' ∧ m'.state = 3 ∧
      m'.closedAt = max s.now t ∧ m'.used = m.used ∧ m'.base = s.baseline m m.used ∧ m'.bins = m.bins) ∧
  (∀ (s : State) (slot : Fin 4096) (t : Nat) (m : Meas), tabFind slot.val s.grn.slots = some m → m.state = 5 → 
    ∃ u, exec (.slotCleared slot t) s = .next u ∧ tabFind slot.val u.grn.slots = none)

/-- Tiles of an engine (R202, R203), its domain released. A drained tile, with no slot of its logical tile in use, is replaced by the
engine's spare, physical tile 8, and marked failed. With the spare used up, a failed tile is unmapped and a trigger of the exhausted pool
stands (0x41), and a worn tile that has not failed serves on, its drain over. An uncorrectable error, with `GRN0`, which holds the page,
released too: one in a mapped tile counts, marks the tile failed and draining; one in the zoom share of a slot in use marks that
measurement's zoom faulted. -/
def Obligations.CarafeTiles : Prop :=
  (∀ (s : State) (engine tile : Fin 8) (t p : Nat), s.on (12 + engine.val) = true → s.tileOf engine tile = p → p < 9 →
    s.bitF (F.GRN_ENG_TSTAT.DRAIN.inst engine) p = true → s.tileEmpty engine tile = true → s.spareTile engine = true → 
    ∃ u, exec (.tileRemap engine tile t) s = .next u ∧ u.tileOf engine tile = 8 ∧ u.bitF (F.GRN_ENG_TSTAT.FAILED.inst engine) p = true ∧
      u.bitF (F.GRN_ENG_TSTAT.DRAIN.inst engine) p = false) ∧
  (∀ (s : State) (engine tile : Fin 8) (t p : Nat), s.on (12 + engine.val) = true → s.tileOf engine tile = p → p < 9 →
    s.bitF (F.GRN_ENG_TSTAT.DRAIN.inst engine) p = true → s.tileEmpty engine tile = true → s.spareTile engine = false →
    s.bitF (F.GRN_ENG_TSTAT.FAILED.inst engine) p = true → 
    ∃ u, exec (.tileRemap engine tile t) s = .next u ∧ u.tileOf engine tile = 15 ∧ u.bitF (F.GRN_ENG_TSTAT.FAILED.inst engine) p = true ∧
      u.bitF (F.GRN_ENG_TSTAT.DRAIN.inst engine) p = false ∧ u.sys.standing.contains (14, 0x41) = true) ∧
  (∀ (s : State) (engine tile : Fin 8) (t p : Nat), s.on (12 + engine.val) = true → s.tileOf engine tile = p → p < 9 →
    s.bitF (F.GRN_ENG_TSTAT.DRAIN.inst engine) p = true → s.tileEmpty engine tile = true → s.spareTile engine = false →
    s.bitF (F.GRN_ENG_TSTAT.FAILED.inst engine) p = false → 
    ∃ u, exec (.tileRemap engine tile t) s = .next u ∧ u.tileOf engine tile = p ∧ u.bitF (F.GRN_ENG_TSTAT.FAILED.inst engine) p = false ∧
      u.bitF (F.GRN_ENG_TSTAT.DRAIN.inst engine) p = false) ∧
  (∀ (s : State) (slot : Fin 4096) (t p : Nat), s.on (12 + slot.val / 512) = true → s.on 12 = true →
    s.tileOf (slot.val / 512) (slot.val % 512 / 64) = p → p < 9 → 
    ∃ u, exec (.carafeUncorrectable slot false t) s = .next u ∧ u.bitF (F.GRN_ENG_TSTAT.FAILED.inst (slot.val / 512)) p = true ∧
      u.bitF (F.GRN_ENG_TSTAT.DRAIN.inst (slot.val / 512)) p = true ∧
      u.getF (F.GRN_ENG_ERR.UNCORR.inst (slot.val / 512)) = min (s.getF (F.GRN_ENG_ERR.UNCORR.inst (slot.val / 512)) + 1) (2 ^
      F.GRN_ENG_ERR.UNCORR.width - 1)) ∧
  (∀ (s : State) (slot : Fin 4096) (t : Nat) (m : Meas), s.on (12 + slot.val / 512) = true → s.on 12 = true →
    tabFind slot.val s.grn.slots = some m → m.state ≠ 5 → 
    ∃ u, exec (.carafeUncorrectable slot true t) s = .next u ∧ tabFind slot.val u.grn.slots = some { m with zoomFault := true, zoom := [] })

/-! ## Return extraction (chapter 10) -/

/-- The eight closed measurements of one train of a line, the only ones that hold slots, are extracted (R207): after it every slot without
a `HIST` record is clearing, and one with it too, or pending until its record is committed (R187). No good deflection triple has arrived
for STALE_MS ms while the mount correction is on (R220): it is marked stale and the three angles are 0. -/
def Obligations.ExtractionFreesSlots : Prop :=
  (∀ (s : State) (line : Fin 128) (t n frame train : Nat) (g : Nat → Meas), s.on 11 = true →
    s.grn.slots = (List.range 8).map (fun i => (n + i, g i)) → (∀ i : Fin 8, (g i.val).chan = 8 * line.val + i.val ∧ (g i.val).state = 3 ∧
    (g i.val).frame = frame ∧ (g i.val).train = train) → 
    ∃ u, exec (.extract line t) s = .next u ∧ (∀ i, i < 8 → ∃ m, tabFind (n + i) u.grn.slots = some m ∧ (m.state = 5 ∨ (m.state = 4 ∧
      (g i).hist = true)))) ∧
  (∀ (s : State) (t : Nat), s.on 11 = true → s.getF F.CRM_MOUNT.EN = 1 → s.getF F.CRM_MOUNT.STALE = 0 →
    s.crm.arrived + s.getF F.CRM_MOUNT.STALE_MS * 1000000 ≤ max s.now t → 
    ∃ u, exec (.mountStale t) s = .next u ∧ u.getF F.CRM_MOUNT.STALE = 1 ∧ u.getF F.CRM_MNT_ROLL.ANGLE = 0 ∧
      u.getF F.CRM_MNT_PITCH.ANGLE = 0 ∧ u.getF F.CRM_MNT_YAW.ANGLE = 0)

/-- Frame records. The header that opens the first frame (R227, R228) is committed once in each of the three point classes, the same bytes
in each, every queue that waited for a header has begun, and the frame stands opened. The STATS record of the only past frame, its
measurements gone (R231), is committed with all its parts, and the frame keeps that. -/
def Obligations.HeadersAndStats : Prop :=
  (∀ (s : State) (t : Nat) (f : FrameInfo), s.Settled → s.sch.past = [] → s.sch.frame = some f → f.opened = false → f.first = true →
    s.crm.held = [] → 
    ∃ u a b c, exec (.frameHeaderCommit t) s = .next u ∧ u.tp.journal = c :: b :: a :: s.tp.journal ∧ a.cls = 1 ∧ b.cls = 2 ∧ c.cls = 3 ∧
      a.kind = 1 ∧ b.kind = 1 ∧ c.kind = 1 ∧ a.bytes = b.bytes ∧ b.bytes = c.bytes ∧ u.tp.queues.all (fun e => !e.2.waitHdr) = true ∧
      u.sch.frame = some { f with opened := true }) ∧
  (∀ (s : State) (t : Nat) (f : FrameInfo), s.Settled → s.sch.past = [f] → f.statsDone = false → f.headerDone = false → s.grn.slots = [] → 
    ∃ u, exec (.statsCommit t) s = .next u ∧ u.tp.journal.length = s.tp.journal.length + (s.statsParts f).length ∧
      1 ≤ (s.statsParts f).length ∧ u.sch.past = [{ f with statsDone := true }])

/-! ## Protective field (chapter 11) -/

/-- Rays of P0 groups with an image active in both channels. Channel A takes its oldest descriptor (R239): one result for that frame and
ray is kept; of a faulted measurement, or of one that comes more than 5 ms after its close, the ray is not evaluated and occupied in no
field. Channel B, by its own copy of the image (R240, R241): once the train that it has tapped has run, one result more for a frame and
ray that have none yet; with fewer emitted pulses than the least number of its image the ray is not evaluated and occupied in no field. 5
ms after the end of the oldest frame that is due (R244): the frame is due no more. Without an active image a SAFETY_STATUS record (class
6) is committed all the same (R257); with one, and no run of disagreement at TD, the results of the frame's rays are used up. -/
def Obligations.RaysAreJudged : Prop :=
  (∀ (s : State) (t : Nat) (i : List Byte) (d : P0Desc) (l : List P0Desc), s.image = some i → s.saf.descs = d :: l → 
    ∃ u r, exec (.p0Descriptor t) s = .next u ∧ u.saf.descs = l ∧ u.saf.raysA = s.saf.raysA ++ [r] ∧ r.frame = d.frame ∧ r.ray = d.ray ∧
      (d.fault = true ∨ d.closedAt + 5000000 < max s.now t → r.evaluated = false ∧ r.occupied = [])) ∧
  (∀ (s : State) (frame train pass step pos : Nat) (slot off : Fin 8) (t : Nat) (j : List Byte) (x : DripPulse), s.imageB = some j →
    s.on 2 = true → s.saf.pulses.find? (fun p => p.isOf frame train ⟨pass, step, pos, slot.val, off.val⟩) = some x →
    x.endAt ≤ max s.now t → s.saf.raysB.any (fun r => r.frame = frame && r.ray = ⟨pass, step, pos, slot.val, off.val⟩) = false → 
    ∃ u r, exec (.channelBRayResult frame train pass step pos slot off t) s = .next u ∧ u.saf.raysB = s.saf.raysB ++ [r] ∧
      r.frame = frame ∧ r.ray = ⟨pass, step, pos, slot.val, off.val⟩ ∧
      ((s.saf.pulses.filter (fun p => p.isOf frame train ⟨pass, step, pos, slot.val, off.val⟩ && p.emitted)).length < imgLe j 0x3B 1 →
      r.evaluated = false ∧ r.occupied = [])) ∧
  (∀ (s : State) (t : Nat) (d : FrameDue) (l : List FrameDue), s.Settled → s.image = none → s.saf.due = d :: l →
    d.ended + 5000000 ≤ max s.now t → 
    ∃ u r, exec (.evaluationInstant t) s = .next u ∧ u.saf.due = l ∧ u.tp.journal = r :: s.tp.journal ∧ r.cls = 6 ∧
      u.saf.outputsOn = s.saf.outputsOn) ∧
  (∀ (s : State) (t : Nat) (i j : List Byte) (d : FrameDue) (l : List FrameDue), s.image = some i → s.imageB = some j →
    s.saf.due = d :: l → d.ended + 5000000 ≤ max s.now t → (∀ r ∈ s.saf.runs, max s.now t < r.2 + s.getF F.SFA_CFG.TD * 1000000) → 
    ∃ u, exec (.evaluationInstant t) s = .next u ∧ u.saf.due = l ∧ u.saf.raysA = s.saf.raysA.filter (fun r => r.frame ≠ d.frame) ∧
      u.saf.raysB = s.saf.raysB.filter (fun r => r.frame ≠ d.frame))

/-- What takes an IK-1024S to `LOCKOUT` (R69) from a state in which its channels work, the latch set and every output off: a discrepancy
that lasts TD ms with an image active (0x50, R248); a feedback input that does not follow (0x51, R247); the third window in a row with
the clocks more than 5 % apart (0x52, R242); a failed self-test or CRC in a frame gap (0x52); and any safety-channel fault as such. -/
def Obligations.LockoutEntries : Prop :=
  (∀ (s : State) (t k b : Nat), s.gradeS = true → (s.dev = .standby ∨ s.dev = .spinup ∨ s.dev = .run ∨ s.dev = .degraded ∨ s.dev = .safe) →
    s.saf.activeA.isSome = true → s.saf.runs = [(k, b)] → b + s.getF F.SFA_CFG.TD * 980000 ≤ max s.now t → 
    ∃ u, exec (.discrepancyExpiry t) s = .next u ∧ u.dev = .lockout ∧ u.getF F.SYS_STATE.CAUSE = 0x50 ∧ u.rst.lockLatch = true ∧
      u.dark = true) ∧
  (∀ (s : State) (fbA fbB : Bool) (t : Nat), s.gradeS = true →
    (s.dev = .standby ∨ s.dev = .spinup ∨ s.dev = .run ∨ s.dev = .degraded ∨ s.dev = .safe) → (s.at t).readbackBad fbA fbB = true → 
    ∃ u, exec (.ossdReadbackFault fbA fbB t) s = .next u ∧ u.dev = .lockout ∧ u.getF F.SYS_STATE.CAUSE = 0x51 ∧ u.rst.lockLatch = true ∧
      u.dark = true) ∧
  (∀ (s : State) (dev : Int) (t : Nat), s.gradeS = true →
    (s.dev = .standby ∨ s.dev = .spinup ∨ s.dev = .run ∨ s.dev = .degraded ∨ s.dev = .safe) → s.on 2 = true → 500 < dev.natAbs →
    2 ≤ s.saf.clkBad → 
    ∃ u, exec (.clockCrossCheck dev t) s = .next u ∧ u.dev = .lockout ∧ u.getF F.SYS_STATE.CAUSE = 0x52 ∧ u.rst.lockLatch = true ∧
      u.dark = true) ∧
  (∀ (s : State) (pass crc : Bool) (t : Nat), s.gradeS = true →
    (s.dev = .standby ∨ s.dev = .spinup ∨ s.dev = .run ∨ s.dev = .degraded ∨ s.dev = .safe) → s.on 2 = true →
    (pass = false ∨ crc = false) → 
    ∃ u, exec (.channelBGapTest pass crc t) s = .next u ∧ u.dev = .lockout ∧ u.getF F.SYS_STATE.CAUSE = 0x52 ∧ u.rst.lockLatch = true ∧
      u.dark = true) ∧
  (∀ (s : State) (cause : Fin 3) (t : Nat), s.gradeS = true →
    (s.dev = .standby ∨ s.dev = .spinup ∨ s.dev = .run ∨ s.dev = .degraded ∨ s.dev = .safe) → 
    ∃ u, exec (.lockoutEntry cause t) s = .next u ∧ u.dev = .lockout ∧ u.getF F.SYS_STATE.CAUSE = 0x50 + cause.val ∧
      u.rst.lockLatch = true ∧ u.dark = true)

/-- Checks of the safety channels that find nothing (R242, R246), on an IK-1024S with channel B's domain released: a clock window within 5
% ends the run of bad ones and sets `REF_OK`; a passed gap test is shown and changes no output. While the outputs are on, a channel's
output is given its off-pulse when it is due. -/
def Obligations.SafetyChecksThatPass : Prop :=
  (∀ (s : State) (dev : Int) (t : Nat), s.gradeS = true → s.on 2 = true → dev.natAbs ≤ 500 → 
    ∃ u, exec (.clockCrossCheck dev t) s = .next u ∧ u.saf.clkBad = 0 ∧ u.saf.clkGood = s.saf.clkGood + 1 ∧ u.getF F.SFB_CLK.REF_OK = 1 ∧
      u.dev = s.dev) ∧
  (∀ (s : State) (t : Nat), s.gradeS = true → s.on 2 = true → 
    ∃ u, exec (.channelBGapTest true true t) s = .next u ∧ u.getF F.SFB_TEST.PASS = 1 ∧ u.getF F.SFB_TEST.CRC_OK = 1 ∧ u.dev = s.dev ∧
      u.saf = s.saf) ∧
  (∀ (s : State) (channelB : Bool) (t p : Nat), s.Settled → s.pulseDue channelB = some p → s.saf.outputsOn = true → p ≤ max s.now t → 
    ∃ u, exec (.ossdOffPulse channelB t) s = .next u ∧ (u.tp.out = .offPulse (if channelB then 1 else 0) p :: s.tp.out) ∧
      u.saf.outputsOn = true)

/-- The way out of `LOCKOUT` (R69, R252 to R255). Its record is written to NOR. The self-tests show the fault gone: for cause 0x50 when
both channels pass, for 0x51 when both pass and the feedback inputs have read off. The clear window closes after 10 s. A `RESTART` pulse
of 150 ms to 2 s, by both channels' measurement, that begins and ends inside the window leads to `STANDBY` with the latch and the record
erased; one that meets the restart interlock with the outputs ready turns them on. -/
def Obligations.LockoutIsCleared : Prop :=
  (∀ (s : State) (t : Nat), s.rst.lockLatch = true → s.rst.lockRecord = none → 
    ∃ u, exec (.lockoutRecordWritten t) s = .next u ∧ u.rst.lockRecord = some ⟨s.rst.lockCause, (s.at t).taiNs⟩ ∧
      u.getF F.SFA_LOCK.RECORD = 1) ∧
  (∀ (s : State) (passA passB crc fbOff : Bool) (t : Nat), s.dev = .lockout →
    (s.getF F.SFA_LOCK.CAUSE = 0x50 ∨ s.getF F.SFA_LOCK.CAUSE = 0x51) → 
    ∃ u, exec (.lockoutSelfTest passA passB crc fbOff t) s = .next u ∧ (u.getF F.SFA_LOCK.GONE = (if passA ∧ passB ∧
      (s.getF F.SFA_LOCK.CAUSE = 0x50 ∨ fbOff) then 1 else 0)) ∧ u.dev = .lockout) ∧
  (∀ (s : State) (t a : Nat), s.saf.clearAt = some a → a + 10000000000 ≤ max s.now t → 
    ∃ u, exec (.clearWindowClose t) s = .next u ∧ u.saf.clearAt = none ∧ u.getF F.SFA_OSSD.CLR_ARMED = 0) ∧
  (∀ (s : State) (t usA usB a : Nat), s.gradeS = true → s.dev = .lockout → s.saf.clearAt = some a → 150000 ≤ usA → usA ≤ 2000000 →
    150000 ≤ usB → usB ≤ 2000000 → a + usA * 1000 ≤ t → t ≤ a + 10000000000 → 
    ∃ u, exec (.restartPulse t usA usB) s = .next u ∧ u.dev = .standby ∧ u.getF F.SYS_STATE.CAUSE = 0x15 ∧ u.rst.lockLatch = false ∧
      u.rst.lockRecord = none ∧ u.saf.clearAt = none) ∧
  (∀ (s : State) (t usA usB : Nat), s.gradeS = true → s.outputsReady = true → s.getF F.SFA_OSSD.IL_WAIT = 1 → 150000 ≤ usA →
    usA ≤ 2000000 → 150000 ≤ usB → usB ≤ 2000000 → 
    ∃ u, exec (.restartPulse t usA usB) s = .next u ∧ u.getF F.SFA_OSSD.IL_WAIT = 0 ∧ u.saf.outputsOn = true ∧
      u.getF F.SFA_OSSD.PERMIT_A = 1 ∧ u.getF F.SFA_OSSD.PERMIT_B = 1)

/-! ## Time base (chapter 12) -/

/-- PTP messages of the unit's domain and transport on its host-facing port (R262, R268). An Announce that the best-master rules select,
the unit not being the better grandmaster (R271), makes its sender the master. The third Sync or a later one in a row of that master, at
an interval of 1 s to 1/128 s, with SRC calling for PTP: the source in use is PTP and the time counts as set. A path delay is taken over,
brought to the lands (R270). A PTP event message in profile 0 between two active ports (R269): it leaves by the other port with its
correctionField raised by its residence time from land to land (R270), less the calibrated residence in chain mode (R302), and is
counted. -/
def Obligations.PtpMessages : Prop :=
  (∀ (s : State) (portB : Bool) (domain transport gm p1 cc : Nat) (utc logInterval : Int) (v l59 l61 : Bool) (t : Nat), s.on 3 = true →
    portB = s.flag F.TSY_STAT.PORT → domain = s.getF F.TSY_CTL.DOMAIN → transport = s.getF F.TSY_CTL.TRANSPORT →
    (s.getF F.TSY_CTL.GM_EN = 0 ∨ p1 < 250 ∨ p1 = 250 ∧ cc ≤ s.clockClass) → 
    ∃ u, exec (.ptpMessage portB domain transport (.announce gm p1 cc utc v l59 l61 logInterval true) t) s = .next u ∧
      u.time.master = true ∧ u.getF F.TSY_GM_LO.ID = gm % 2 ^ 32 ∧ u.getF F.TSY_GM_HI.ID = gm / 2 ^ 32 % 2 ^ 32 ∧
      (u.getF F.TSY_STAT.UTC_VALID = (if v then 1 else 0))) ∧
  (∀ (s : State) (portB : Bool) (domain transport : Nat) (o r c logInterval : Int) (t : Nat), s.on 3 = true →
    portB = s.flag F.TSY_STAT.PORT → domain = s.getF F.TSY_CTL.DOMAIN → transport = s.getF F.TSY_CTL.TRANSPORT → s.time.master = true →
    2 ≤ s.time.syncs → -7 ≤ logInterval → logInterval ≤ 0 → s.getF F.TSY_CTL.SRC = 1 → 
    ∃ u, exec (.ptpMessage portB domain transport (.sync o r c logInterval) t) s = .next u ∧ u.time.syncs = s.time.syncs + 1 ∧
      u.acceptedSrc 1 = true ∧ u.timeSource = 1 ∧ u.getF F.TSY_STAT.TIME_SET = 1) ∧
  (∀ (s : State) (portB : Bool) (domain transport : Nat) (d : Int) (t : Nat), s.on 3 = true → portB = s.flag F.TSY_STAT.PORT →
    domain = s.getF F.TSY_CTL.DOMAIN → transport = s.getF F.TSY_CTL.TRANSPORT → 
    ∃ u, exec (.ptpMessage portB domain transport (.pathDelay d) t) s = .next u ∧
      u.time.path = d - ((s.getF (F.NTA_LAT.RX.pageUp s.hostPort) + s.getF (F.NTA_LAT.TX.pageUp s.hostPort)) * 2048 : Nat) ∧
      u.time.tai = (s.at t).time.tai) ∧
  (∀ (s : State) (fromB : Bool) (seq : Nat) (correction ingress egress linkDelay ratio : Int) (t : Nat), s.Settled → s.on 3 = true →
    s.portActive 0 = true → s.portActive 1 = true → s.getF F.TSY_CTL.PROFILE = 0 → 
    ∃ u, exec (.ptpForward fromB .event seq correction ingress egress linkDelay ratio t) s = .next u ∧
      (u.tp.out = .ptp (if fromB then 0 else 1) 4 seq (correction + (s.landTx (if fromB then 0 else 1) egress - s.landRx (if fromB then 1
      else 0) ingress - s.calibrated (if fromB then 0 else 1))) :: s.tp.out) ∧
      u.getF F.TSY_FWD.COUNT = min (s.getF F.TSY_FWD.COUNT + 1) (2 ^ F.TSY_FWD.COUNT.width - 1))

/-- Acceptance and loss of time sources (R262, R263). A PPS edge 1 s after the last, within 10 µs, accepts PPS where the servo is not
locked; a REF10M window within 50 ppb accepts REF10M. A PPS source without a good edge for 3 s and 10 µs is lost, a REF10M source outside
its band is lost, and is accepted no longer. The time base on its own. After 24 h in LOCKED the mean trim becomes the stored ageing value
(R260). With the PTP frame reference, the counter reaching a multiple of the frame period above that of the last pulse, within 20 ns,
gives a frame pulse (R272). -/
def Obligations.TimeSources : Prop :=
  (∀ (s : State) (t p : Nat), s.now ≤ t → s.on 3 = true → s.servo ≠ 2 → s.time.lastPps = some p → 999990000 ≤ t - p → t - p ≤ 1000010000 → 
    ∃ u, exec (.ppsEdge t) s = .next u ∧ u.time.lastPps = some t ∧ u.acceptedSrc 2 = true) ∧
  (∀ (s : State) (dev : Int) (t : Nat), s.on 3 = true → dev.natAbs ≤ 5000000 → 
    ∃ u, exec (.ref10mWindow dev false t) s = .next u ∧ u.acceptedSrc 3 = true) ∧
  (∀ (s : State) (dev : Int) (missing : Bool) (t : Nat), s.on 3 = true → (missing = true ∨ 5000000 < dev.natAbs) → 
    ∃ u, exec (.ref10mWindow dev missing t) s = .next u ∧ u.acceptedSrc 3 = false) ∧
  (∀ (s : State) (t p : Nat), s.on 3 = true → s.time.goodPps = some p → p + 3000010000 ≤ max s.now t → 
    ∃ u, exec (.timeSourceLost 1 t) s = .next u ∧ u.acceptedSrc 2 = false ∧ u.time.goodPps = none) ∧
  (∀ (s : State) (t : Nat), s.on 3 = true → s.servo = 2 → s.time.ageFrom + 86400000000000 ≤ max s.now t → 
    ∃ u, exec (.ageingWrite t) s = .next u ∧ u.time.ageFrom = max s.now t ∧
      u.time.age = clampInt (-(2 ^ 23)) (2 ^ 23 - 1) ((s.at t).meanTrim s.time.ageFrom)) ∧
  (∀ (s : State) (t q : Nat), s.now = t → s.on 3 = true → s.getF F.STE_CTL.REFSRC = 2 → 0 < s.getF F.TSY_PULSE.NS →
    q = s.taiNs / s.getF F.TSY_PULSE.NS * s.getF F.TSY_PULSE.NS → s.time.lastMultiple.all (fun x => decide (x < q)) = true →
    s.taiNs % s.getF F.TSY_PULSE.NS < 20 → 
    ∃ u, exec (.tsyFramePulse t) s = .next u ∧ u.ste.tsyPulse = some t ∧ u.time.lastMultiple = some q)

/-- Clock monitors (R274, R275, R377). The fourth window in a row in band, locked and with edges, makes the monitor stable. A window beyond
the warning band and within the failure limit, after one in band, leads to `SAFE` with cause 0x22 from a state with outputs or `STANDBY`.
A failure condition of a monitored clock sets its FAULT bit, clears STABLE and names the monitor in `RST_CAUSE`. -/
def Obligations.ClockMonitors : Prop :=
  (∀ (s : State) (mon : Fin 9) (ppm : Int) (t : Nat), s.monitored mon = true → tabFind mon.val s.time.monGood = some 3 →
    ppm.natAbs ≤ (monitorBand mon).1 → 
    ∃ u, exec (.clockMonitorWindow mon ppm true true t) s = .next u ∧ u.bitF F.CLK_MON_STAT.STABLE mon = true ∧
      u.getF (F.CLK_MON_DEV.STATE.inst mon) = 1 ∧ u.dev = s.dev) ∧
  (∀ (s : State) (mon : Fin 9) (ppm : Int) (t n : Nat), s.monitored mon = true → tabFind mon.val s.time.monGood = some n → n ≠ 0 →
    (monitorBand mon).1 < ppm.natAbs → ppm.natAbs ≤ (monitorBand mon).2 →
    (s.dev = .boot ∨ s.dev = .standby ∨ s.dev = .spinup ∨ s.dev = .run ∨ s.dev = .degraded) → (s.dev = .boot →
    (s.at t).sameCycle = false) → 
    ∃ u, exec (.clockMonitorWindow mon ppm true true t) s = .next u ∧ u.dev = .safe ∧ u.getF F.SYS_STATE.CAUSE = 0x22 ∧ u.dark = true) ∧
  (∀ (s : State) (mon : Fin 9) (t : Nat), s.monitored mon = true → 
    ∃ u, exec (.clockFailureReset mon t) s = .next u ∧ u.bitF F.CLK_MON_STAT.FAULT mon = true ∧ u.bitF F.CLK_MON_STAT.STABLE mon = false ∧
      u.getF F.RST_CAUSE.MON = mon.val)

/-! ## Ports and chain (chapter 13) -/

/-- The life of a link (R282 to R284). A module whose data path CMIS reports active on every lane of the mode becomes ready, and takes its
port to `DETECT` unless its MODE is STANDARD (R278). A training stage that has lasted its least time leads to the next one, and `CAPS`,
the own capabilities sent, to `ACTIVE` in chain mode with the partner's; where lane 4 was to be the spare and did not train, the link
retrains on two lanes instead, with a trigger of the exhausted pool (0x41, R287); a stage beyond its maximum is a failed attempt, after
which the port waits 10 ms. Lock to a standard stream gives an `ACTIVE` link out of chain mode at the set rate. A link that drops, or on
which AUTO meets a capability frame, is `ACTIVE` no longer and counted. -/
def Obligations.LinkLife : Prop :=
  (∀ (s : State) (portB : Bool) (report : ModuleReport) (t : Nat), s.net.ports.length = 2 → s.portOn (portNo portB) = true →
    report.portB = portB → report.present = true → report.lanes &&& s.modeLanes (portNo portB) = s.modeLanes (portNo portB) →
    (s.port (portNo portB)).ready = false → s.getF (nt (portNo portB) F.NTA_CTL.MODE) ≠ 1 → 
    ∃ u, exec (.moduleReady report t) s = .next u ∧ u.stage (portNo portB) = 1 ∧ (u.port (portNo portB)).ready = true ∧
      (u.port (portNo portB)).stageAt = max s.now t) ∧
  (∀ (s : State) (portB lane4 : Bool) (caps : CapsExchange) (t : Nat), s.net.ports.length = 2 → s.portOn (portNo portB) = true →
    1 ≤ s.stage (portNo portB) → s.stage (portNo portB) < 5 →
    (s.port (portNo portB)).stageAt + stageMin (s.stage (portNo portB)) ≤ max s.now t → 
    ∃ u, exec (.linkStageComplete portB lane4 caps t) s = .next u ∧ u.stage (portNo portB) = s.stage (portNo portB) + 1 ∧
      (u.port (portNo portB)).stageAt = max s.now t) ∧
  (∀ (s : State) (portB lane4 : Bool) (caps : CapsExchange) (t : Nat), s.net.ports.length = 2 → s.portOn (portNo portB) = true →
    s.stage (portNo portB) = 5 → (s.port (portNo portB)).stageAt ≤ max s.now t → (((s.port (portNo portB)).lane4 = true ∧
    caps.peer.lane4 = true) ∨ (s.port (portNo portB)).twoLanes = true ∨ s.getF (nt (portNo portB) F.NTA_CTL.SPARE) = 0) → 
    ∃ u, exec (.linkStageComplete portB lane4 caps t) s = .next u ∧ u.portActive (portNo portB) = true ∧
      u.chainMode (portNo portB) = true ∧ (u.port (portNo portB)).peer = some caps.peer ∧
      (u.port (portNo portB)).residence = caps.residence ∧
      (u.getF (nt (portNo portB) F.NTA_STAT.RATE) = (if (s.port (portNo portB)).twoLanes then 1 else 0)) ∧
      Out.capability (portNo portB) (s.ownCaps (portNo portB) caps.residence) ∈ u.tp.out) ∧
  (∀ (s : State) (portB lane4 : Bool) (caps : CapsExchange) (t : Nat), s.net.ports.length = 2 → s.portOn (portNo portB) = true →
    s.stage (portNo portB) = 5 → (s.port (portNo portB)).stageAt ≤ max s.now t →
    ((s.port (portNo portB)).lane4 = false ∨ caps.peer.lane4 = false) → (s.port (portNo portB)).twoLanes = false →
    s.getF (nt (portNo portB) F.NTA_CTL.SPARE) = 1 → 
    ∃ u, exec (.linkStageComplete portB lane4 caps t) s = .next u ∧ u.portActive (portNo portB) = false ∧
      (u.port (portNo portB)).twoLanes = true ∧ u.sys.standing.contains (portPage (portNo portB), 0x41) = true) ∧
  (∀ (s : State) (portB : Bool) (t d : Nat), s.net.ports.length = 2 → s.portOn (portNo portB) = true →
    stageMax (s.stage (portNo portB)) = some d → (s.port (portNo portB)).stageAt + d ≤ max s.now t → 
    ∃ u, exec (.linkStageTimeout portB t) s = .next u ∧
      (u.stage (portNo portB) = if s.getF (nt (portNo portB) F.NTA_CTL.MODE) = 1 ∨ (s.port (portNo portB)).ready = false then 0 else 1) ∧
      (u.port (portNo portB)).stageAt = max s.now t + 10000000 ∧
      u.getF (nt (portNo portB) F.NTA_LINK.DOWNS) = min (s.getF (nt (portNo portB) F.NTA_LINK.DOWNS) + 1) (2 ^ F.NTA_LINK.DOWNS.width - 1))
      ∧
  (∀ (s : State) (portB : Bool) (txPre rxPre t : Nat), s.net.ports.length = 2 → s.portOn (portNo portB) = true →
    s.portActive (portNo portB) = false → (s.port (portNo portB)).ready = true → (s.port (portNo portB)).stageAt ≤ max s.now t →
    (s.getF (nt (portNo portB) F.NTA_CTL.MODE) = 1 ∨ s.getF (nt (portNo portB) F.NTA_CTL.MODE) = 0 ∧ s.stage (portNo portB) = 1) → 
    ∃ u, exec (.standardLock portB txPre rxPre t) s = .next u ∧ u.portActive (portNo portB) = true ∧ u.chainMode (portNo portB) = false ∧
      u.getF (nt (portNo portB) F.NTA_STAT.RATE) = s.getF (nt (portNo portB) F.NTA_CTL.RATE)) ∧
  (∀ (s : State) (portB : Bool) (t : Nat), s.portOn (portNo portB) = true → s.portActive (portNo portB) = true → 
    ∃ u, exec (.linkDown portB t) s = .next u ∧ u.portActive (portNo portB) = false ∧ (portNo portB) ∈ u.net.notices ∧
      u.getF (nt (portNo portB) F.NTA_LINK.DOWNS) = min (s.getF (nt (portNo portB) F.NTA_LINK.DOWNS) + 1) (2 ^ F.NTA_LINK.DOWNS.width - 1))
      ∧
  (∀ (s : State) (portB : Bool) (t : Nat), s.portOn (portNo portB) = true → s.portActive (portNo portB) = true →
    s.chainMode (portNo portB) = false → s.getF (nt (portNo portB) F.NTA_CTL.MODE) = 0 → 
    ∃ u, exec (.capabilityFrame portB t) s = .next u ∧ u.portActive (portNo portB) = false ∧ (portNo portB) ∈ u.net.notices ∧
      u.getF (nt (portNo portB) F.NTA_LINK.DOWNS) = min (s.getF (nt (portNo portB) F.NTA_LINK.DOWNS) + 1) (2 ^ F.NTA_LINK.DOWNS.width - 1))

/-- Spare lanes (R285 to R287) on an active chain link. A planned swap, and a lane that fails while its direction's spare is free: the
direction is awake, the spare takes the lane over, the swap is counted and the link stays up. A lane that fails with no spare left: the
link retrains on two lanes, and a trigger of the exhausted pool stands (0x41). Sleep and forwarding (R279, R280, R288 to R290). A
direction of an active chain link sleeps where both ends permit it, the transmit direction once it has been idle for IDLE; it wakes for a
frame, under deep sleep of both directions in the next refresh burst. A refresh burst follows the last after 1 ms and carries a wake
request that waits. A bad frame is discarded and counted: nothing of it is forwarded, and the unit takes nothing from it; a good one for
another unit, neither reserved (R293) nor with a command of its own (a census, a census done, a chain trigger), goes into the other
port's forwarding buffer while it has room. -/
def Obligations.LanesAreReplaced : Prop :=
  (∀ (s : State) (portB tx : Bool) (lane : Fin 4) (t : Nat), s.portOn (portNo portB) = true → s.portActive (portNo portB) = true →
    s.chainMode (portNo portB) = true → s.laneSpareFree (portNo portB) tx = true → 
    ∃ u, exec (.laneSwap portB tx lane t) s = .next u ∧
      (u.getF (nt (portNo portB) (if tx then F.NTA_LANES.SPARE_TX else F.NTA_LANES.SPARE_RX)) = lane.val) ∧
      u.getF (nt (portNo portB) F.NTA_LINK.SWAPS) = min (s.getF (nt (portNo portB) F.NTA_LINK.SWAPS) + 1) (2 ^ F.NTA_LINK.SWAPS.width - 1)
      ∧ u.portActive (portNo portB) = true ∧ (u.getF (nt (portNo portB) (if tx then F.NTA_STAT.TX_ASLEEP else F.NTA_STAT.RX_ASLEEP)) = 0)) ∧
  (∀ (s : State) (portB tx : Bool) (lane : Fin 4) (t : Nat), s.portOn (portNo portB) = true → s.portActive (portNo portB) = true →
    s.chainMode (portNo portB) = true → s.laneSpareFree (portNo portB) tx = true → 
    ∃ u, exec (.laneFailure portB tx lane t) s = .next u ∧
      (u.getF (nt (portNo portB) (if tx then F.NTA_LANES.SPARE_TX else F.NTA_LANES.SPARE_RX)) = lane.val) ∧
      u.getF (nt (portNo portB) F.NTA_LINK.SWAPS) = min (s.getF (nt (portNo portB) F.NTA_LINK.SWAPS) + 1) (2 ^ F.NTA_LINK.SWAPS.width - 1)
      ∧ u.portActive (portNo portB) = true ∧ (u.getF (nt (portNo portB) (if tx then F.NTA_STAT.TX_ASLEEP else F.NTA_STAT.RX_ASLEEP)) = 0)) ∧
  (∀ (s : State) (portB tx : Bool) (lane : Fin 4) (t : Nat), s.net.ports.length = 2 → s.portOn (portNo portB) = true →
    s.portActive (portNo portB) = true → s.chainMode (portNo portB) = true → s.laneSpareFree (portNo portB) tx = false → 
    ∃ u, exec (.laneFailure portB tx lane t) s = .next u ∧ u.portActive (portNo portB) = false ∧ (u.port (portNo portB)).twoLanes = true ∧
      u.sys.standing.contains (portPage (portNo portB), 0x41) = true) ∧
  (∀ (s : State) (portB : Bool) (t : Nat), s.portOn (portNo portB) = true → s.portActive (portNo portB) = true →
    s.chainMode (portNo portB) = true → s.bothSleep (portNo portB) false = true → 
    ∃ u, exec (.sleep portB false t) s = .next u ∧ u.getF (nt (portNo portB) F.NTA_STAT.RX_ASLEEP) = 1) ∧
  (∀ (s : State) (portB : Bool) (t : Nat), s.now = t → s.net.ports.length = 2 → s.portOn (portNo portB) = true →
    s.portActive (portNo portB) = true → s.chainMode (portNo portB) = true → s.bothSleep (portNo portB) false = true →
    s.txEmpty (portNo portB) = true → (s.port (portNo portB)).idleFrom + s.getF (nt (portNo portB) F.NTA_CTL.IDLE) * 10000 ≤ t → 
    ∃ u, exec (.sleep portB true t) s = .next u ∧ u.getF (nt (portNo portB) F.NTA_STAT.TX_ASLEEP) = 1 ∧
      (u.port (portNo portB)).burstAt = t) ∧
  (∀ (s : State) (portB : Bool) (t : Nat), s.portOn (portNo portB) = true → s.portActive (portNo portB) = true → 
    ∃ u, exec (.wake portB false t) s = .next u ∧ u.getF (nt (portNo portB) F.NTA_STAT.RX_ASLEEP) = 0) ∧
  (∀ (s : State) (portB : Bool) (t : Nat), s.now = t → s.net.ports.length = 2 → s.portOn (portNo portB) = true →
    s.portActive (portNo portB) = true → s.getF (nt (portNo portB) F.NTA_STAT.TX_ASLEEP) = 1 → s.txEmpty (portNo portB) = false →
    s.getF (nt (portNo portB) F.NTA_STAT.RX_ASLEEP) = 0 → 
    ∃ u, exec (.wake portB true t) s = .next u ∧ u.getF (nt (portNo portB) F.NTA_STAT.TX_ASLEEP) = 0 ∧
      (u.port (portNo portB)).idleFrom = t) ∧
  (∀ (s : State) (portB : Bool) (t : Nat), s.now = t → s.net.ports.length = 2 → s.portOn (portNo portB) = true →
    s.portActive (portNo portB) = true → s.getF (nt (portNo portB) F.NTA_STAT.TX_ASLEEP) = 1 → s.txEmpty (portNo portB) = false →
    s.getF (nt (portNo portB) F.NTA_STAT.RX_ASLEEP) = 1 → s.bothSleep (portNo portB) true = true → 
    ∃ u, exec (.wake portB true t) s = .next u ∧ u.getF (nt (portNo portB) F.NTA_STAT.TX_ASLEEP) = 1 ∧
      (u.port (portNo portB)).wakePending = true) ∧
  (∀ (s : State) (portB : Bool) (t : Nat), s.net.ports.length = 2 → s.portOn (portNo portB) = true →
    s.getF (nt (portNo portB) F.NTA_STAT.TX_ASLEEP) = 1 → (s.port (portNo portB)).burstAt + 1000000 ≤ max s.now t → 
    ∃ u, exec (.refreshBurst portB t) s = .next u ∧ (u.port (portNo portB)).burstAt = max s.now t ∧
      (u.getF (nt (portNo portB) F.NTA_STAT.TX_ASLEEP) = if (s.port (portNo portB)).wakePending then 0 else 1)) ∧
  (∀ (s : State) (portB : Bool) (frame : EthFrame) (q : Fin 2) (t : Nat), s.Settled → s.net.ports.length = 2 →
    s.portOn (portNo portB) = true → s.portActive (portNo portB) = true → (frame.fcsOk = false ∨ 9216 < frame.bytes ∨ frame.pause = true) → 
    ∃ u, exec (.frameReceive portB frame t) s = .next u ∧
      u.getF (nt (portNo portB) F.NTA_DROP.RXDROP) = min (s.getF (nt (portNo portB) F.NTA_DROP.RXDROP) + 1) (2 ^ F.NTA_DROP.RXDROP.width -
      1) ∧ (u.port q).fwdBits = ((s.at t).port q).fwdBits ∧ u.tp = s.tp ∧ u.net.dhcp = s.net.dhcp ∧
      u.getF F.NTA_IPV4.ADDR = s.getF F.NTA_IPV4.ADDR) ∧
  (∀ (s : State) (portB : Bool) (frame : EthFrame) (t : Nat), s.now = t → s.net.ports.length = 2 → s.portOn (portNo portB) = true →
    s.portActive (portNo portB) = true → frame.fcsOk = true → frame.bytes ≤ 9216 → frame.pause = false → frame.dest = .other →
    frameReserved frame = false → frameHasCommand frame = false → s.portActive (1 - portNo portB) = true →
    (s.port (1 - portNo portB)).fwdBits + frame.bytes * 8 ≤ 1048576 * 8 → 
    ∃ u, exec (.frameReceive portB frame t) s = .next u ∧
      (u.port (1 - portNo portB)).fwdBits = (s.port (1 - portNo portB)).fwdBits + frame.bytes * 8)

/-- The chain census (R293 to R295, R298, R299). A unit without an address takes the frame's next one, is host-facing on the port it came
by, and holds the census, its own entry added, for the other port while that is not `ACTIVE`. When the hold ends it is the chain end; a
done frame is copied to `NTA_CENSUS`. A reverse census shows a ring on its port. A port's change is reported out of the host-facing port.
In a ring, a unit that has lost its host-facing port, unless a census chose it in the cycle of its loss, turns to the other with its
queues. -/
def Obligations.TheChainCensus : Prop :=
  (∀ (s : State) (portB : Bool) (f : CensusFrame) (t : Nat), s.portOn (portNo portB) = true → s.portActive (portNo portB) = true →
    s.portActive (1 - portNo portB) = false → s.getF F.SYS_CHAIN.ADDR = 0 → f.next ≤ 63 → s.frames = false → 
    ∃ u g, exec (.census portB f t) s = .next u ∧ u.getF F.SYS_CHAIN.ADDR = f.next ∧ u.net.addrId = f.id ∧ u.hostPort = (portNo portB) ∧
      u.net.held = some (g, (1 - portNo portB), max s.now t + s.getF F.NTA_CENSUS_CFG.HOLD * 1000000) ∧ g.id = f.id ∧ g.next = f.next + 1 ∧
      g.entries.length = f.entries.length + 1) ∧
  (∀ (s : State) (t : Nat) (f : CensusFrame) (out due : Nat), s.net.held = some (f, out, due) → due ≤ max s.now t → 
    ∃ u, exec (.censusHoldExpiry t) s = .next u ∧ u.net.held = none ∧ u.getF (nt 0 F.NTA_STAT.END) = 1 ∧ u.getF (nt 1 F.NTA_STAT.END) = 1 ∧
      u.getF F.NTA_CENSUS.ID = f.id % 2 ^ F.NTA_CENSUS.ID.width ∧
      u.getF F.NTA_CENSUS.COUNT = f.entries.length % 2 ^ F.NTA_CENSUS.COUNT.width) ∧
  (∀ (s : State) (portB : Bool) (f : CensusFrame) (t : Nat), s.portOn (portNo portB) = true → s.portActive (portNo portB) = true → 
    ∃ u, exec (.censusDone portB f t) s = .next u ∧ u.getF F.NTA_CENSUS.ID = f.id % 2 ^ F.NTA_CENSUS.ID.width ∧
      u.getF F.NTA_CENSUS.COUNT = f.entries.length % 2 ^ F.NTA_CENSUS.COUNT.width ∧
      (u.getF F.NTA_CENSUS.OVERFLOW = if f.overflow then 1 else 0)) ∧
  (∀ (s : State) (portB : Bool) (f : CensusFrame) (t : Nat), s.portOn (portNo portB) = true → s.portActive (portNo portB) = true → 
    ∃ u, exec (.reverseCensus portB f t) s = .next u ∧ u.getF (nt (portNo portB) F.NTA_STAT.RING) = 1) ∧
  (∀ (s : State) (portB : Bool) (t : Nat), s.Settled → s.net.notices.contains (portNo portB) = true → s.portActive s.hostPort = true → 
    ∃ u, exec (.linkNotice portB t) s = .next u ∧
      u.tp.out = .frame s.hostPort 3 (s.etherFrame 3 (s.noticeBytes (portNo portB))) :: s.tp.out ∧ (portNo portB) ∉ u.net.notices) ∧
  (∀ (s : State) (t : Nat), (s.getF (nt 0 F.NTA_STAT.RING) = 1 ∨ s.getF (nt 1 F.NTA_STAT.RING) = 1) → s.portActive s.hostPort = false →
    s.net.censusAt.any (fun c => (s.port s.hostPort).downAt.any (sameTick c)) = false → 
    ∃ u, exec (.ringFailover t) s = .next u ∧ u.hostPort = 1 - s.hostPort ∧ u.getF F.TSY_STAT.PORT = 1 - s.hostPort ∧
      u.tp.queues.all (fun e => e.2.portB == decide (s.hostPort = 0)) = true)

/-! ## Transport (chapter 14, streams, ledger, memory) -/

/-- Stream datagrams (R322, R324, R328), MEM released. A queue whose next record would overflow MAXDG, or whose oldest unsent record has
reached its flush age, sends what fits when window and port buffer have room: a datagram leaves `QUE_PORTS.STREAM` for the queue's
destination, a header and the runs of those items; it begins after the last number sent, waits for its acknowledgement, and its
retransmission time starts at QUE_RTO.INIT. One whose time has run is sent again, its time doubled up to 256 ms. A queue whose lease has
run out is released. -/
def Obligations.DatagramsAreSent : Prop :=
  (∀ (s : State) (queue : Fin 16384) (t : Nat) (x : Queue) (l : List Item) (full : Bool), s.now = t → s.on 5 = true →
    s.queue queue.val = some x → s.resendDue x = none →
    packItems (x.maxdg - 32) [] [] (s.items queue.val (x.sent + 1) (x.next - 1)) = (l, full) → l ≠ [] →
    (full = true ∨ ((s.retained queue.val (x.sent + 1) (x.next - 1)).map (fun e => e.2.time)).headD 0 + x.flush * 1000 ≤ t) →
    unackedBytes x + windowBytes l ≤ x.window * 1024 → s.portTakes (queuePort x) (32 + (itemsBytes l).length) = true → 
    ∃ u y d b, exec (.datagramSend queue t) s = .next u ∧ u.queue queue.val = some y ∧ y.unacked = x.unacked ++ [d] ∧
      d.first = x.sent + 1 ∧ d.count = y.sent - x.sent ∧ d.time = t ∧ d.rto = s.getF F.QUE_RTO.INIT ∧
      y.sent = l.foldl (fun m i => max m (itemLast i)) x.sent ∧ Out.datagram (s.getF F.QUE_PORTS.STREAM) (s.queueDest x) b ∈ u.tp.out ∧
      b.length = 32 + (itemsBytes l).length ∧ b.drop 32 = itemsBytes l) ∧
  (∀ (s : State) (queue : Fin 16384) (t : Nat) (x : Queue) (d : Sent), s.now = t → s.on 5 = true → s.queue queue.val = some x →
    x.unacked.find? (fun e => decide (e.time + e.rto * 1000 ≤ t)) = some d →
    s.portTakes (queuePort x) (32 + (itemsBytes (s.items queue.val d.first (d.first + d.count - 1))).length) = true → 
    ∃ u y e, exec (.retransmissionTimeout queue t) s = .next u ∧ u.queue queue.val = some y ∧ e ∈ y.unacked ∧ e.first = d.first ∧
      e.count = d.count ∧ e.time = t ∧ e.rto = min 256000 (2 * d.rto) ∧ y.unacked.length = x.unacked.length ∧
      u.getF F.QUE_RETX.COUNT = min (s.getF F.QUE_RETX.COUNT + 1) (2 ^ F.QUE_RETX.COUNT.width - 1)) ∧
  (∀ (s : State) (queue : Fin 16384) (t : Nat) (x : Queue), s.on 5 = true → s.queue queue.val = some x → x.leaseEnd ≤ max s.now t → 
    ∃ u, exec (.queueLeaseExpiry queue t) s = .next u ∧ u.queue queue.val = none)

/-- Acknowledgement (R325 to R327) at the control port, MEM released. A malformed ACK is counted and dropped: no other register changes, no
queue and no session, no lease is renewed and no answer sent. One of an open queue of a session without a key, up to the last number
sent, moves the acknowledged number up, never down, and renews the leases of queue and session (R310). One beyond the last number sent,
or beyond the last assigned, is counted and leaves the acknowledged number and both leases. `Settled` is the invariant of
`StepKeepsSettled`. -/
def Obligations.AcknowledgementsArrive : Prop :=
  (∀ (s : State) (arrival : AckArrival) (t : Nat), s.Settled → s.atControlPort arrival.src arrival.message = true →
    ackFormed arrival.message.bytes = false → 
    ∃ u, exec (.ack arrival t) s = .next u ∧ u.getF F.QUE_DROP.ACK = min (s.getF F.QUE_DROP.ACK + 1) (2 ^ F.QUE_DROP.ACK.width - 1) ∧
      u.regs = (s.bump F.QUE_DROP.ACK 1).regs ∧ u.tp = s.tp ∧ u.sys = s.sys) ∧
  (∀ (s : State) (arrival : AckArrival) (t : Nat) (ss : Session) (x : Queue), s.atControlPort arrival.src arrival.message = true →
    ackFormed arrival.message.bytes = true → tabFind (ofLe ((arrival.message.bytes.drop 12).take 2)) s.tp.sessions = some ss →
    ss.slot = none → ofLe ((arrival.message.bytes.drop 14).take 1) = 0 → s.queue (ofLe ((arrival.message.bytes.drop 4).take 2)) = some x →
    x.session = ofLe ((arrival.message.bytes.drop 12).take 2) → x.gen = ofLe ((arrival.message.bytes.drop 8).take 4) →
    ofLe ((arrival.message.bytes.drop 16).take 8) ≤ x.sent → x.sent < x.next → 
    ∃ u y z, exec (.ack arrival t) s = .next u ∧ u.queue (ofLe ((arrival.message.bytes.drop 4).take 2)) = some y ∧
      y.acked = max x.acked (ofLe ((arrival.message.bytes.drop 16).take 8)) ∧ y.sent = x.sent ∧
      y.leaseEnd = max s.now t + x.leaseMs * 1000000 ∧ tabFind (ofLe ((arrival.message.bytes.drop 12).take 2)) u.tp.sessions = some z ∧
      z.leaseEnd = max s.now t + ss.leaseMs * 1000000) ∧
  (∀ (s : State) (arrival : AckArrival) (t : Nat) (ss : Session) (x : Queue), s.atControlPort arrival.src arrival.message = true →
    ackFormed arrival.message.bytes = true → tabFind (ofLe ((arrival.message.bytes.drop 12).take 2)) s.tp.sessions = some ss →
    ss.slot = none → ofLe ((arrival.message.bytes.drop 14).take 1) = 0 → s.queue (ofLe ((arrival.message.bytes.drop 4).take 2)) = some x →
    x.session = ofLe ((arrival.message.bytes.drop 12).take 2) → x.gen = ofLe ((arrival.message.bytes.drop 8).take 4) →
    x.sent < ofLe ((arrival.message.bytes.drop 16).take 8) → 
    ∃ u y, exec (.ack arrival t) s = .next u ∧ u.queue (ofLe ((arrival.message.bytes.drop 4).take 2)) = some y ∧ y.acked = x.acked ∧
      y.leaseEnd = x.leaseEnd ∧ y.ackErr = x.ackErr + 1 ∧
      (tabFind (ofLe ((arrival.message.bytes.drop 12).take 2)) u.tp.sessions).map Session.leaseEnd = some ss.leaseEnd ∧
      (if ofLe ((arrival.message.bytes.drop 16).take 8) < x.next then u.getF F.QUE_ACKERR.PREMATURE = min (s.getF F.QUE_ACKERR.PREMATURE +
      1) (2 ^ F.QUE_ACKERR.PREMATURE.width - 1) else u.getF F.QUE_ACKERR.EXCESS = min (s.getF F.QUE_ACKERR.EXCESS + 1) (2 ^
      F.QUE_ACKERR.EXCESS.width - 1)))

/-- Retention and the command ledger (R53, R54, R61, R317, R330). With MEM released, no record older than its region's MAXAGE stays in the
journal, and records of other classes stay. With nothing withheld, the background copy leaves `n` entries fewer to be copied; once
acknowledgements are held for hold-up and everything is copied, the completion marker is written. A ledger bank that fails is taken out
of use; the loss of both leads to `SAFE` with cause 0x2B. -/
def Obligations.JournalAndLedger : Prop :=
  (∀ (s : State) (cls : Fin 8) (t : Nat), s.Settled → s.on 5 = true → 
    ∃ u, exec (.retentionExpiry cls t) s = .next u ∧ (∀ r ∈ u.tp.journal, r.cls = cls.val + 1 →
      max s.now t - s.getF (F.LDG_REGION.MAXAGE.inst (cls.val + 1)) * 10000000 ≤ r.time) ∧
      u.tp.journal.filter (fun r => r.cls ≠ cls.val + 1) = s.tp.journal.filter (fun r => r.cls ≠ cls.val + 1)) ∧
  (∀ (s : State) (n t : Nat), s.tp.withheld = [] → 
    ∃ u, exec (.ledgerNorCopy n t) s = .next u ∧ u.uncopied = s.uncopied - n) ∧
  (∀ (s : State) (n t : Nat), s.tp.withheld = [] → s.tp.ackHeld = true → s.uncopied ≤ n → 
    ∃ u, exec (.ledgerNorCopy n t) s = .next u ∧ u.tp.marker = true ∧ u.uncopied = 0) ∧
  (∀ (s : State) (bankB : Bool) (t : Nat), s.getF F.LDG_BANK.A_FAIL = 0 → s.getF F.LDG_BANK.B_FAIL = 0 → 
    ∃ u, exec (.ledgerBankFailure bankB t) s = .next u ∧ (u.getF (if bankB then F.LDG_BANK.B_FAIL else F.LDG_BANK.A_FAIL) = 1) ∧
      (u.getF (if bankB then F.LDG_BANK.A_FAIL else F.LDG_BANK.B_FAIL) = 0) ∧ u.dev = s.dev) ∧
  (∀ (s : State) (bankB : Bool) (t : Nat), (s.dev = .boot ∨ s.dev = .standby ∨ s.dev = .spinup ∨ s.dev = .run ∨ s.dev = .degraded) →
    (s.dev = .boot → (s.at t).sameCycle = false) → (s.getF (if bankB then F.LDG_BANK.B_FAIL else F.LDG_BANK.A_FAIL) = 0) →
    (s.getF (if bankB then F.LDG_BANK.A_FAIL else F.LDG_BANK.B_FAIL) = 1) → 
    ∃ u, exec (.ledgerBankFailure bankB t) s = .next u ∧ u.dev = .safe ∧ u.getF F.SYS_STATE.CAUSE = 0x2B ∧ u.dark = true)

/-- LP-DRAM channels (R334 to R336), MEM released. A spare that fails and that no planned copy fills is marked. An active channel that
fails with no rebuild in progress is replaced by the lowest idle spare, which is rebuilt from parity. When a rebuild after a failure
completes, none is in progress any more: one that a second failure had left behind has nothing more to rebuild. A planned copy that
completes takes the new channel into use in place of the old, and the rebuild of a failure that waited behind it, if any, is then the one
in progress. -/
def Obligations.DramChannels : Prop :=
  (∀ (s : State) (chan : Fin 10) (errors t : Nat), s.on 5 = true → s.bitF F.MEM_CHAN.FAILED chan = false →
    s.bitF F.MEM_CHAN.ACTIVE chan = false → s.rebuilds.all (fun r => !r.planned || r.into != chan.val) = true → 
    ∃ u, exec (.dramChannelFailure ⟨chan, errors⟩ t) s = .next u ∧ u.bitF F.MEM_CHAN.FAILED chan = true ∧
      u.bitF F.MEM_CHAN.ACTIVE chan = false ∧ u.mem = s.mem) ∧
  (∀ (s : State) (chan : Fin 10) (errors t sp : Nat), s.on 5 = true → s.bitF F.MEM_CHAN.FAILED chan = false →
    s.bitF F.MEM_CHAN.ACTIVE chan = true → s.mem.rebuild = none → s.mem.second = none → s.mem.noParity = false → s.idleChannel = some sp → 
    ∃ u, exec (.dramChannelFailure ⟨chan, errors⟩ t) s = .next u ∧ u.bitF F.MEM_CHAN.FAILED chan = true ∧
      u.bitF F.MEM_CHAN.ACTIVE chan = false ∧ u.bitF F.MEM_CHAN.ACTIVE sp = true ∧
      u.mem.rebuild = some ⟨chan.val, sp, false, max s.now t⟩) ∧
  (∀ (s : State) (t : Nat) (r : Rebuild), s.on 5 = true → s.mem.rebuild = some r → r.planned = false → 
    ∃ u, exec (.dramRebuildComplete t) s = .next u ∧ u.mem.rebuild = none ∧ u.mem.second = none ∧
      u.getF F.MEM_CHAN.ACTIVE = s.getF F.MEM_CHAN.ACTIVE) ∧
  (∀ (s : State) (t : Nat) (r : Rebuild), s.on 5 = true → s.mem.rebuild = some r → r.planned = true → r.source < 10 → r.into < 10 →
    r.source ≠ r.into → 
    ∃ u, exec (.dramRebuildComplete t) s = .next u ∧ u.mem.rebuild = s.mem.second ∧ u.bitF F.MEM_CHAN.ACTIVE r.into = true ∧
      u.bitF F.MEM_CHAN.ACTIVE r.source = false ∧ u.getF F.MEM_CHAN.FAILED = s.getF F.MEM_CHAN.FAILED)

/-! ## Calibration, spare capacity, fences (chapters 15 and 03) -/

/-- Calibration and spare capacity (R345, R349, R351, R352, R354). A range calibration whose channels all have their samples, or that has
run 60 s, is done. A line with 64 `MISS` in a row, another line of its bank being measured, has a failed diode, which is retired. A core
that fails in service is replaced by the spare core, with no change of state. A part whose wear indicator has crossed its limit, with
WEAR_EN, takes its planned substitution (R349): a tap or an interpolator asks for its spare at the next suitable gap, a sampler's channel
waits to be switched, a tile drains, an LP-DRAM channel is copied to an idle spare, a lane gives way to lane 4, a phase asks for its
rail's spare, a diode gives way to its reserve; without a spare left, each stays in service and is shown worn (R353). The retirement
record that is due is rewritten in both copies. Fences and the watchdog (R72, R79), the CPU domain released. A blocked firmware write is
counted, shows its fence, and its address and core where it is the first; from a state short of `SAFE` it leads to `SAFE` with cause
0x29. Half of the watchdog's period sets its event bit and changes no state. -/
def Obligations.SpareCapacity : Prop :=
  (∀ (s : State) (t f : Nat), s.on 4 = true → s.cal.began = some f → (s.calFull = true ∨ f + 60000000000 ≤ max s.now t) → 
    ∃ u, exec (.rangeCalibrationEnd t) s = .next u ∧ u.cal.began = none ∧ u.getF F.CAL_RCAL_STAT.STATE = 2 ∧ u.getF F.CAL_RCAL_CTL.GO = 0 ∧
      u.getF F.CAL_TRACE.RUNS = min (s.getF F.CAL_TRACE.RUNS + 1) (2 ^ F.CAL_TRACE.RUNS.width - 1)) ∧
  (∀ (s : State) (line : Fin 128) (t : Nat), s.on 8 = true → 64 ≤ countAt line.val s.etd.misses → s.bankEst (line.val / 16) = false →
    s.etd.alive.contains line.val = true → s.getF (F.CAL_LINE.FAILED.inst (s.emitterOf line.val)) = 0 → 
    ∃ u, exec (.diodeFailure line t) s = .next u ∧ u.getF (F.CAL_LINE.FAILED.inst (s.emitterOf line.val)) = 1 ∧
      u.getF (trimRetired (s.emitterOf line.val)) = 1 ∧ u.cal.recDue = true ∧ tabFind line.val u.etd.misses = none) ∧
  (∀ (s : State) (core : Fin 5) (t n : Nat), s.on 4 = true → s.bitF F.CPU_CORES.FAILED core = false →
    s.bitF F.CPU_CORES.ACTIVE core = true →
    (List.range 5).find? (fun k => !s.bitF F.CPU_CORES.ACTIVE k && !s.bitF F.CPU_CORES.FAILED k) = some n → 
    ∃ u, exec (.coreFailure core t) s = .next u ∧ u.bitF F.CPU_CORES.FAILED core = true ∧ u.bitF F.CPU_CORES.ACTIVE core = false ∧
      u.bitF F.CPU_CORES.ACTIVE n = true ∧ u.cal.recDue = true ∧ u.dev = s.dev) ∧
  (∀ (s : State) (n pos t : Nat) (l : TapLine), s.on 4 = true → s.getF F.CAL_CTL.WEAR_EN = 1 → s.wornNow (.tap n pos) = true →
    s.tapLine n = l → pos < 128 → l.subst = none → l.freeTaps ≠ [] → 
    ∃ u, exec (.plannedSubstitution (.tap n pos) t) s = .next u ∧ (u.tapLine n).subst = some ([pos], s.frameNo)) ∧
  (∀ (s : State) (n pos t : Nat) (l : TapLine), s.on 4 = true → s.getF F.CAL_CTL.WEAR_EN = 1 → s.wornNow (.tap n pos) = true →
    s.tapLine n = l → pos < 128 → l.subst = none → l.freeTaps = [] → 
    ∃ u, exec (.plannedSubstitution (.tap n pos) t) s = .next u ∧ u.etd = s.etd ∧ u.getF (F.CAL_POOL_STAT.WORN.inst 0) = 1) ∧
  (∀ (s : State) (g k c t : Nat), s.on 4 = true → s.getF F.CAL_CTL.WEAR_EN = 1 → s.wornNow (.sampler g k) = true →
    s.samplerFailed g k = false → s.getF (F.RXC_SMP_STAT.IN_SERVICE.inst (samplerInst g k)) = 1 →
    c = g * 64 + s.getF (F.RXC_SMP_STAT.CHANNEL.inst (samplerInst g k)) → s.rxc.retiring.contains c = false →
    s.rxc.waiting.any (fun w => w.ch = c) = false → (s.idleSpare g).isSome = true → 
    ∃ u, exec (.plannedSubstitution (.sampler g k) t) s = .next u ∧ u.rxc.retiring = s.rxc.retiring ++ [c]) ∧
  (∀ (s : State) (g k c t : Nat), s.on 4 = true → s.getF F.CAL_CTL.WEAR_EN = 1 → s.wornNow (.sampler g k) = true →
    s.samplerFailed g k = false → s.getF (F.RXC_SMP_STAT.IN_SERVICE.inst (samplerInst g k)) = 1 →
    c = g * 64 + s.getF (F.RXC_SMP_STAT.CHANNEL.inst (samplerInst g k)) → s.rxc.retiring.contains c = false →
    s.rxc.waiting.any (fun w => w.ch = c) = false → (s.idleSpare g).isSome = false → 
    ∃ u, exec (.plannedSubstitution (.sampler g k) t) s = .next u ∧ u.rxc = s.rxc ∧ u.getF (F.CAL_POOL_STAT.WORN.inst 1) = 1) ∧
  (∀ (s : State) (n t : Nat), s.on 4 = true → s.getF F.CAL_CTL.WEAR_EN = 1 → s.wornNow (.interpolator n) = true → n < 8 →
    s.bitF F.ETD_FAIL.EST n = false → s.bitF F.ETD_FAIL.EST 8 = false → s.getF F.ETD_MAP.SPARE_IN = 0 → s.etd.subst = [] → 
    ∃ u, exec (.plannedSubstitution (.interpolator n) t) s = .next u ∧ u.etd.subst = [(n, s.frameNo)]) ∧
  (∀ (s : State) (n t : Nat), s.on 4 = true → s.getF F.CAL_CTL.WEAR_EN = 1 → s.wornNow (.interpolator n) = true → n < 8 →
    s.bitF F.ETD_FAIL.EST n = false → tabFind n s.etd.subst = none → s.bitF F.ETD_FAIL.EST 8 = true → s.getF F.ETD_MAP.SPARE_IN = 0 → 
    ∃ u, exec (.plannedSubstitution (.interpolator n) t) s = .next u ∧ u.etd = s.etd ∧ u.getF (F.CAL_POOL_STAT.WORN.inst 2) = 1) ∧
  (∀ (s : State) (e i hourly p t : Nat) (twice : Bool), s.on 4 = true → s.getF F.CAL_CTL.WEAR_EN = 1 →
    s.wornNow (.tile e i hourly twice) = true → s.tileOf e i = p → p < 9 → s.bitF (F.GRN_ENG_TSTAT.DRAIN.inst e) p = false →
    s.spareTile e = true → 
    ∃ u, exec (.plannedSubstitution (.tile e i hourly twice) t) s = .next u ∧ u.bitF (F.GRN_ENG_TSTAT.DRAIN.inst e) p = true ∧
      u.tileOf e i = p) ∧
  (∀ (s : State) (e i hourly p t : Nat) (twice : Bool), s.on 4 = true → s.getF F.CAL_CTL.WEAR_EN = 1 →
    s.wornNow (.tile e i hourly twice) = true → s.tileOf e i = p → p < 9 → s.bitF (F.GRN_ENG_TSTAT.DRAIN.inst e) p = false →
    s.spareTile e = false → 
    ∃ u, exec (.plannedSubstitution (.tile e i hourly twice) t) s = .next u ∧ u.bitF (F.GRN_ENG_TSTAT.DRAIN.inst e) p = false ∧
      u.getF (F.CAL_POOL_STAT.WORN.inst 3) = 1) ∧
  (∀ (s : State) (c least last sp t : Nat), s.on 4 = true → s.getF F.CAL_CTL.WEAR_EN = 1 → s.wornNow (.dram c least last) = true →
    s.bitF F.MEM_CHAN.ACTIVE c = true → s.bitF F.MEM_CHAN.FAILED c = false → s.mem.rebuild = none → s.mem.second = none →
    s.idleChannel = some sp → 
    ∃ u, exec (.plannedSubstitution (.dram c least last) t) s = .next u ∧ u.mem.rebuild = some ⟨c, sp, true, max s.now t⟩ ∧
      u.bitF F.MEM_CHAN.ACTIVE c = true) ∧
  (∀ (s : State) (c least last t : Nat), s.on 4 = true → s.getF F.CAL_CTL.WEAR_EN = 1 → s.wornNow (.dram c least last) = true →
    s.bitF F.MEM_CHAN.ACTIVE c = true → s.bitF F.MEM_CHAN.FAILED c = false → s.mem.second = none → s.idleChannel = none → 
    ∃ u, exec (.plannedSubstitution (.dram c least last) t) s = .next u ∧ u.mem.rebuild = s.mem.rebuild ∧
      u.bitF F.MEM_CHAN.ACTIVE c = true ∧ u.getF (F.CAL_POOL_STAT.WORN.inst 4) = 1) ∧
  (∀ (s : State) (portB tx : Bool) (lane margin ns t : Nat), s.on 4 = true → s.getF F.CAL_CTL.WEAR_EN = 1 → s.net.ports.length = 2 →
    s.wornNow (.lane portB tx lane margin ns) = true → s.portActive (portNo portB) = true → s.chainMode (portNo portB) = true →
    s.laneSpareFree (portNo portB) tx = true → 
    ∃ u, exec (.plannedSubstitution (.lane portB tx lane margin ns) t) s = .next u ∧
      (u.getF (nt (portNo portB) (if tx then F.NTA_LANES.SPARE_TX else F.NTA_LANES.SPARE_RX)) = lane) ∧
      u.portActive (portNo portB) = true) ∧
  (∀ (s : State) (portB tx : Bool) (lane margin ns t : Nat), s.on 4 = true → s.getF F.CAL_CTL.WEAR_EN = 1 → s.net.ports.length = 2 →
    s.wornNow (.lane portB tx lane margin ns) = true → s.laneSpareFree (portNo portB) tx = false → 
    ∃ u, exec (.plannedSubstitution (.lane portB tx lane margin ns) t) s = .next u ∧
      (u.getF (nt (portNo portB) (if tx then F.NTA_LANES.SPARE_TX else F.NTA_LANES.SPARE_RX)) = s.getF (nt (portNo portB) (if tx then
      F.NTA_LANES.SPARE_TX else F.NTA_LANES.SPARE_RX))) ∧ u.getF (F.CAL_POOL_STAT.WORN.inst 5) = 1) ∧
  (∀ (s : State) (e t : Nat), s.on 4 = true → s.getF F.CAL_CTL.WEAR_EN = 1 → s.wornNow (.diode e) = true → e < 128 →
    s.reserveIn e = false → s.reserveUsable e = true → s.emt.switches.contains e = false → 
    ∃ u, exec (.plannedSubstitution (.diode e) t) s = .next u ∧ u.emt.switches = e :: s.emt.switches ∧
      u.getF (F.CAL_LINE.WORN.inst e) = 1) ∧
  (∀ (s : State) (e t : Nat), s.on 4 = true → s.getF F.CAL_CTL.WEAR_EN = 1 → s.wornNow (.diode e) = true → e < 128 →
    (s.reserveIn e = true ∨ s.reserveUsable e = false) → 
    ∃ u, exec (.plannedSubstitution (.diode e) t) s = .next u ∧ u.emt = s.emt ∧ u.getF (F.CAL_POOL_STAT.WORN.inst 8) = 1) ∧
  (∀ (s : State) (r t : Nat), s.on 4 = true → s.getF F.CAL_CTL.WEAR_EN = 1 → r < 5 → s.pwr.spareReq.any (fun x => x.1 = r) = false →
    s.getF (F.PWM_RAIL.SPARE_IN.inst r) = 0 → 
    ∃ u, exec (.plannedSubstitution (.phase r) t) s = .next u ∧ u.pwr.spareReq = s.pwr.spareReq ++ [(r, true)]) ∧
  (∀ (s : State) (r t : Nat), s.on 4 = true → s.getF F.CAL_CTL.WEAR_EN = 1 → r < 5 → s.pwr.spareReq.any (fun x => x.1 = r) = false →
    s.getF (F.PWM_RAIL.SPARE_IN.inst r) = 1 → 
    ∃ u, exec (.plannedSubstitution (.phase r) t) s = .next u ∧ u.pwr = s.pwr ∧ u.getF (F.CAL_POOL_STAT.WORN.inst 7) = 1) ∧
  (∀ (s : State) (t : Nat), s.on 4 = true → s.cal.recDue = true → 
    ∃ u, exec (.retirementRecordWrite t) s = .next u ∧ u.cal.recDue = false ∧ u.cal.record = s.recordNow ∧ u.getF F.CAL_REC.COPY_A = 1 ∧
      u.getF F.CAL_REC.COPY_B = 1 ∧ u.getF F.CAL_REC.WRITES = min (s.getF F.CAL_REC.WRITES + 1) (2 ^ F.CAL_REC.WRITES.width - 1)) ∧
  (∀ (s : State) (fence : Fin 7) (core : Fin 5) (addr t : Nat), (s.dev = .boot ∨ s.dev = .standby ∨ s.dev = .spinup ∨ s.dev = .run ∨ s.dev
    = .degraded) → (s.dev = .boot → (s.at t).sameCycle = false) → s.on 4 = true → 
    ∃ u, exec (.fenceViolation fence core addr t) s = .next u ∧ u.bitF F.CPU_FENCE.VIOL fence = true ∧
      u.getF F.CPU_FENCE_CNT.COUNT = min (s.getF F.CPU_FENCE_CNT.COUNT + 1) (2 ^ F.CPU_FENCE_CNT.COUNT.width - 1) ∧
      (u.getF F.CPU_FENCE_ADDR.CORE = (if s.getF F.CPU_FENCE.VIOL = 0 then core.val else s.getF F.CPU_FENCE_ADDR.CORE)) ∧
      (u.getF F.CPU_FENCE_ADDR.ADDR = (if s.getF F.CPU_FENCE.VIOL = 0 then addr % 2 ^ F.CPU_FENCE_ADDR.ADDR.width else s.getF
      F.CPU_FENCE_ADDR.ADDR)) ∧ u.dev = .safe ∧ u.getF F.SYS_STATE.CAUSE = 0x29 ∧ u.dark = true) ∧
  (∀ (s : State) (t : Nat), s.on 4 = true → 
    ∃ u, exec (.watchdogWarning t) s = .next u ∧ u.bitF (H.ISR 7) 2 = true ∧ u.dev = s.dev)

/-! ## Power and thermal (chapter 16) -/

/-- Power domains (R365, R367). A domain that has started is `ON`; one that has stopped is `OFF`, and its minimum off time counts from
then. Once that has run, a domain that is to be on, and that at boot waits for no domain of an earlier row, starts again: at once, or at
boot at its place in its row, and the start is counted. Barista's cap, phases and the thermal model (R364, R369, R371). The cap is `(f_T
· (P_ceil − F)) / EMEAS`, within 0 and 3,200, F the mean of the last 100 samples; where EMEAS is 0 it is open. A phase that fails is
counted and asks for its rail's spare; of the rail of AON it takes everything. A spare phase that carries load is in service. A thermal
sample is shown as read, and filters the power of each site. -/
def Obligations.DomainsStartAndStop : Prop :=
  (∀ (s : State) (dom : Fin 36) (t : Nat), s.domState dom.val = 1 → 
    ∃ u, exec (.domainStarted dom t) s = .next u ∧ u.domState dom.val = 2 ∧ tabFind dom.val u.pwr.onAt = some (max s.now t)) ∧
  (∀ (s : State) (dom : Fin 36) (t : Nat), (s.domState dom.val = 3 ∨ s.domState dom.val = 4) → 
    ∃ u, exec (.domainStopped dom t) s = .next u ∧ u.domState dom.val = 0 ∧ tabFind dom.val u.pwr.offAt = some (max s.now t) ∧
      u.pwr.released = s.pwr.released) ∧
  (∀ (s : State) (dom : Fin 36) (t o : Nat), s.rst.loading = false → s.atRest dom.val = true → s.wanted dom.val = true →
    s.turnOf dom.val = true → tabFind dom.val s.pwr.offAt = some o → o + offTime dom.val ≤ max s.now t → 
    ∃ u, exec (.domainOffTimeExpiry dom t) s = .next u ∧ u.getF (F.PWM_DOM_STAT.STATE.inst dom.val) = 1 ∧
      tabFind dom.val u.pwr.startAt = some ((s.at t).turnAt dom.val) ∧ (s.dev ≠ .boot → u.domState dom.val = 1) ∧
      u.getF (F.PWM_DOM_STAT.CYCLES.inst dom.val) = min (s.getF (F.PWM_DOM_STAT.CYCLES.inst dom.val) + 1) (2 ^ (F.PWM_DOM_STAT.CYCLES.inst
      dom.val).width - 1)) ∧
  (∀ (s : State) (pin t : Nat), s.dev ≠ .off → s.on 8 = true → s.getF F.PWM_MODEL.EMEAS ≠ 0 → 
    ∃ u, exec (.powerCapUpdate pin t) s = .next u ∧
      u.pwr.fixed = ((((pin * 1000 : Nat) : Int) - ((s.getF F.PWM_MODEL.EMEAS * (s.at t).startsLately * 10 : Nat) : Int)) ::
      s.pwr.fixed).take 100 ∧
      u.getF F.SCH_PWR_CAP.CAP = (clampInt 0 3200 (max 0 (s.pwr.ft * ((s.powerCeil : Rat) - meanFixed u.pwr.fixed)) / ((10 * s.getF
      F.PWM_MODEL.EMEAS : Nat) : Rat)).floor).toNat) ∧
  (∀ (s : State) (pin t : Nat), s.dev ≠ .off → s.on 8 = true → s.getF F.PWM_MODEL.EMEAS = 0 → 
    ∃ u, exec (.powerCapUpdate pin t) s = .next u ∧ u.getF F.SCH_PWR_CAP.CAP ≤ 3200 ∧ u.free = s.free + 1) ∧
  (∀ (s : State) (rail : Fin 8) (t : Nat), s.dev ≠ .off → rail.val < 5 → s.getF (F.PWM_RAIL.ACTIVE.inst rail.val) ≠ 0 →
    s.getF (F.PWM_RAIL.SPARE_IN.inst rail.val) = 0 → s.pwr.spareReq.any (fun x => x.1 = rail.val) = false → 
    ∃ u, exec (.phaseFailure rail t) s = .next u ∧
      u.getF (F.PWM_RAIL.ACTIVE.inst rail.val) = s.getF (F.PWM_RAIL.ACTIVE.inst rail.val) - 1 ∧
      u.getF (F.PWM_RAIL.FAILED.inst rail.val) = min (s.getF (F.PWM_RAIL.FAILED.inst rail.val) + 1) (2 ^ (F.PWM_RAIL.FAILED.inst
      rail.val).width - 1) ∧ u.pwr.spareReq = s.pwr.spareReq ++ [(rail.val, false)] ∧ u.dev = s.dev) ∧
  (∀ (s : State) (t : Nat), s.dev ≠ .off → s.getF (F.PWM_RAIL.ACTIVE.inst 6) ≠ 0 → 
    ∃ u, exec (.phaseFailure 6 t) s = .next u ∧ u.dev = .off ∧ u.pwr.released = [] ∧ u.dark = true) ∧
  (∀ (s : State) (rail : Fin 5) (t : Nat), s.pwr.spareReq.find? (fun x => x.1 = rail.val) = some (rail.val, false) → 
    ∃ u, exec (.sparePhaseInService rail t) s = .next u ∧ u.getF (F.PWM_RAIL.SPARE_IN.inst rail.val) = 1 ∧
      u.getF (F.PWM_RAIL.ACTIVE.inst rail.val) = min (s.getF (F.PWM_RAIL.ACTIVE.inst rail.val) + 1) (2 ^ (F.PWM_RAIL.ACTIVE.inst
      rail.val).width - 1) ∧ u.pwr.spareReq = s.pwr.spareReq.filter (fun x => x.1 ≠ rail.val)) ∧
  (∀ (s : State) (reads : List Int) (t : Nat), s.dev ≠ .off → reads.length = 12 → 
    ∃ u, exec (.thermalSample reads t) s = .next u ∧
      u.thm.pf = (List.range 12).map (fun i => nth 0 s.thm.pf i + ((s.getF F.PWM_POWER.PIN : Rat) / 10 - nth 0 s.thm.pf i) / (thmTau i :
      Rat)) ∧ (∀ i : Fin 12, u.getI (F.THM_SENS.READ.inst i.val) = clampInt (-(2 ^ (F.THM_SENS.READ.width - 1) : Nat)) ((2 ^
      (F.THM_SENS.READ.width - 1) : Nat) - 1) (nth 0 reads i.val)))

/-- Input modes and hold-up (R357 to R363). A sample below 4.40 V leads to `WARN` and from a state short of `SAFE` to `SAFE` with cause
0x28; one below 9.0 V to `LOW`. Above 9.5 V for 100 ms the mode is `NORMAL` again, above 4.60 V for 100 ms `LOW`. In range for 100 ms
clears cause 0x28. A loss sheds the datapath, holds acknowledgements and leads to `SAFE`; back in range it is left for `LOW` with nothing
shed. When hold-up ends everything is off. Acknowledgements resume with `VHU`. A loss in force that becomes an overvoltage shows that
too. Low hold-up energy is reported with each measurement, and once that `VHU` did not reach 30.0 V within 400 ms of `BOOT`. -/
def Obligations.InputModes : Prop :=
  (∀ (s : State) (mv iin vhu t : Nat), (s.dev = .boot ∨ s.dev = .standby ∨ s.dev = .spinup ∨ s.dev = .run ∨ s.dev = .degraded) →
    (s.dev = .boot → (s.at t).sameCycle = false) → s.inputMode ≤ 1 → mv < 4400 → 
    ∃ u, exec (.inputSample mv iin vhu t) s = .next u ∧ u.inputMode = 2 ∧ u.dev = .safe ∧ u.getF F.SYS_STATE.CAUSE = 0x28 ∧ u.dark = true) ∧
  (∀ (s : State) (mv iin vhu t : Nat), s.dev ≠ .off → s.inputMode = 0 → 4400 ≤ mv → mv < 9000 → 
    ∃ u, exec (.inputSample mv iin vhu t) s = .next u ∧ u.inputMode = 1 ∧ u.dev = s.dev ∧
      u.getF F.PWM_CNT.LOWS = min (s.getF F.PWM_CNT.LOWS + 1) (2 ^ F.PWM_CNT.LOWS.width - 1) ∧ u.getF F.PWM_IN.VIN = mv) ∧
  (∀ (s : State) (t a : Nat), s.dev ≠ .off → s.inputMode = 1 → s.pwr.above95 = some a → a + 100000000 ≤ max s.now t → 
    ∃ u, exec (.normalDwellExpiry t) s = .next u ∧ u.inputMode = 0 ∧ u.pwr.episode = none ∧ u.dev = s.dev) ∧
  (∀ (s : State) (t a : Nat), s.dev ≠ .off → s.inputMode = 2 → s.pwr.above46 = some a → a + 100000000 ≤ max s.now t → 
    ∃ u, exec (.warnRecoveryExpiry t) s = .next u ∧ u.inputMode = 1 ∧ u.dev = s.dev) ∧
  (∀ (s : State) (t a : Nat), s.pwr.inRange = some a → a + 100000000 ≤ max s.now t → 
    ∃ u, exec (.inputInRangeExpiry t) s = .next u ∧ 0x28 ∉ u.sys.stay ∧ u.dev = s.dev) ∧
  (∀ (s : State) (t : Nat), (s.dev = .boot ∨ s.dev = .standby ∨ s.dev = .spinup ∨ s.dev = .run ∨ s.dev = .degraded) → (s.dev = .boot →
    (s.at t).sameCycle = false) → s.inputMode ≠ 3 → (37000 < s.getF F.PWM_IN.VIN ∨ (s.at t).heldFor s.pwr.below38 20000 = true) → 
    ∃ u, exec (.lossEntry t) s = .next u ∧ u.inputMode = 3 ∧ u.tp.ackHeld = true ∧ u.getF F.PWM_STAT.ACK_HELD = 1 ∧
      u.pwr.shed = shedDomains ∧ u.dev = .safe ∧ u.dark = true ∧ (s.domState 8 = 2 → u.on 8 = false)) ∧
  (∀ (s : State) (t a : Nat), s.dev ≠ .off → s.inputMode = 3 → s.pwr.inRange = some a → a + 1000000 ≤ max s.now t → 
    ∃ u, exec (.lossExit t) s = .next u ∧ u.inputMode = 1 ∧ u.pwr.shed = [] ∧ u.getF F.PWM_STAT.OV = 0 ∧ u.dev = s.dev) ∧
  (∀ (s : State) (t : Nat), s.dev ≠ .off → s.inputMode = 3 → s.getF F.PWM_HU.VHU < 120 → 
    ∃ u, exec (.holdupEnd t) s = .next u ∧ u.dev = .off ∧ u.pwr.released = [] ∧ u.dark = true) ∧
  (∀ (s : State) (t : Nat), s.tp.ackHeld = true → s.inputMode ≠ 3 → s.getF F.PWM_STAT.HU_READY = 1 → 
    ∃ u, exec (.ackResume t) s = .next u ∧ u.tp.ackHeld = false ∧ u.getF F.PWM_STAT.ACK_HELD = 0) ∧
  (∀ (s : State) (t : Nat), s.dev ≠ .off → s.inputMode = 3 → 37000 < s.getF F.PWM_IN.VIN → 
    ∃ u, exec (.lossEntry t) s = .next u ∧ u.getF F.PWM_STAT.OV = 1 ∧ u.inputMode = 3 ∧ u.dev = s.dev ∧ u.pwr = s.pwr) ∧
  (∀ (s : State) (energy t : Nat), s.dev ≠ .off → s.on 0 = true → energy < 500 → 
    ∃ u, exec (.holdupCheck energy t) s = .next u ∧ u.getF F.PWM_HU.ENERGY = energy ∧ u.getF F.PWM_STAT.HU_LOW = 1 ∧
      u.bitF (H.ISR 2) 5 = true ∧ u.dev = s.dev) ∧
  (∀ (s : State) (energy t : Nat), s.dev ≠ .off → s.on 0 = true → 500 ≤ energy → s.pwr.huUp = false → s.pwr.huLate = false →
    s.pwr.bootAt + 400000000 ≤ max s.now t → 
    ∃ u, exec (.holdupCheck energy t) s = .next u ∧ u.getF F.PWM_STAT.HU_LOW = 1 ∧ u.bitF (H.ISR 2) 5 = true ∧ u.pwr.huLate = true ∧
      u.dev = s.dev)

/-! ## Resets and start-up (chapter 17) -/

/-- Reset sources (R376, R383, R391) with no reset in progress and no fuse load, from a state other than `OFF`, `BOOT` and `PROVISION`: the
reset waits at the source's level in force, `RST_CAUSE` names the source, and the source is counted. A watchdog's expiry is noted for the
core it is attributed to (R352). A power-on is always at level 0. Provisioning restarts at level 1 without a source. The rising edge of
`NRST` ends its hold, and a hold of 10 s is stuck. -/
def Obligations.ResetSources : Prop :=
  (∀ (s : State) (t : Nat), s.rst.active = none → 
    ∃ u, exec (.powerOn t) s = .next u ∧ u.rst.active = some ⟨0, false, false, true, none⟩ ∧ u.getF F.RST_CAUSE.SOURCES = 1 ∧
      u.getF F.RST_CAUSE.LEVEL = 0) ∧
  (∀ (s : State) (t : Nat), s.rst.active = none → s.rst.loading = false → s.dev ≠ .off → s.dev ≠ .boot → s.dev ≠ .provision → 
    ∃ u, exec (.brownOut t) s = .next u ∧ u.rst.active = some ⟨s.sourceLevel 1, false, false, false, none⟩ ∧
      u.getF F.RST_CAUSE.SOURCES = 2 ∧ u.getF F.RST_CAUSE.LEVEL = s.sourceLevel 1 ∧
      u.getF (F.RST_SRC_CNT.COUNT.inst 1) = min (s.getF (F.RST_SRC_CNT.COUNT.inst 1) + 1) (2 ^ (F.RST_SRC_CNT.COUNT.inst 1).width - 1) ∧
      u.dev = s.dev) ∧
  (∀ (s : State) (t : Nat), s.rst.active = none → s.rst.loading = false → s.dev ≠ .off → s.dev ≠ .boot → s.dev ≠ .provision →
    s.rst.nrstLow = none → 
    ∃ u, exec (.nrstAssert t) s = .next u ∧ u.rst.active = some ⟨s.sourceLevel 2, false, true, false, none⟩ ∧
      u.getF F.RST_CAUSE.SOURCES = 4 ∧ u.getF F.RST_CAUSE.LEVEL = s.sourceLevel 2 ∧
      u.getF (F.RST_SRC_CNT.COUNT.inst 2) = min (s.getF (F.RST_SRC_CNT.COUNT.inst 2) + 1) (2 ^ (F.RST_SRC_CNT.COUNT.inst 2).width - 1) ∧
      u.dev = s.dev ∧ u.rst.nrstLow = some (max s.now t)) ∧
  (∀ (s : State) (wdt : WatchdogEnd), s.rst.active = none → s.rst.loading = false → s.dev ≠ .off → s.dev ≠ .boot → s.dev ≠ .provision →
    s.on 4 = true → 
    ∃ u, exec (.watchdogExpiry wdt) s = .next u ∧ u.rst.active = some ⟨s.sourceLevel 3, false, false, false, none⟩ ∧
      u.getF F.RST_CAUSE.SOURCES = 8 ∧ u.getF F.RST_CAUSE.LEVEL = s.sourceLevel 3 ∧
      u.getF (F.RST_SRC_CNT.COUNT.inst 3) = min (s.getF (F.RST_SRC_CNT.COUNT.inst 3) + 1) (2 ^ (F.RST_SRC_CNT.COUNT.inst 3).width - 1) ∧
      tabFind wdt.core.val u.rst.expiries = some (max s.now wdt.t) ∧ (tabFind wdt.core.val s.rst.expiries = none → u.dev = s.dev)) ∧
  (∀ (s : State) (scan : Bool) (t : Nat), s.rst.active = none → s.rst.loading = false → s.dev ≠ .off → s.dev ≠ .boot → s.dev ≠ .provision → 
    ∃ u, exec (.debugReset scan t) s = .next u ∧ u.rst.active = some ⟨s.sourceLevel 5, false, false, false, none⟩ ∧
      u.getF F.RST_CAUSE.SOURCES = 32 ∧ u.getF F.RST_CAUSE.LEVEL = s.sourceLevel 5 ∧
      u.getF (F.RST_SRC_CNT.COUNT.inst 5) = min (s.getF (F.RST_SRC_CNT.COUNT.inst 5) + 1) (2 ^ (F.RST_SRC_CNT.COUNT.inst 5).width - 1) ∧
      u.dev = s.dev ∧ u.rst.scan = (s.rst.scan || scan)) ∧
  (∀ (s : State) (bus : Bool) (t : Nat), s.rst.active = none → s.rst.loading = false → s.dev ≠ .off → s.dev ≠ .boot → s.dev ≠ .provision →
    s.on 4 = true → 
    ∃ u, exec (.lockupReset ⟨bus, t⟩) s = .next u ∧ u.rst.active = some ⟨s.sourceLevel 7, false, false, false, none⟩ ∧
      u.getF F.RST_CAUSE.SOURCES = 128 ∧ u.getF F.RST_CAUSE.LEVEL = s.sourceLevel 7 ∧
      u.getF (F.RST_SRC_CNT.COUNT.inst 7) = min (s.getF (F.RST_SRC_CNT.COUNT.inst 7) + 1) (2 ^ (F.RST_SRC_CNT.COUNT.inst 7).width - 1) ∧
      u.dev = s.dev) ∧
  (∀ (s : State) (t f : Nat), s.rst.active = none → s.dev ≠ .off → s.rst.provAt = some f → f + 10000000 ≤ max s.now t → 
    ∃ u, exec (.provisioningReset t) s = .next u ∧ u.rst.active = some ⟨1, false, false, false, none⟩ ∧ u.rst.provAt = none ∧
      u.getF F.RST_CAUSE.SOURCES = 0 ∧ u.getF F.RST_CAUSE.LEVEL = 1) ∧
  (∀ (s : State) (t a : Nat), s.rst.nrstLow = some a → 
    ∃ u, exec (.nrstRelease t) s = .next u ∧ u.rst.nrstLow = none ∧
      u.getF F.RST_NRST.HELD = min (max (s.getF F.RST_NRST.HELD) ((max s.now t - a) / 1000000000)) (2 ^ F.RST_NRST.HELD.width - 1)) ∧
  (∀ (s : State) (t a : Nat), s.dev ≠ .off → s.rst.nrstLow = some a → a + 10000000000 ≤ max s.now t → 
    ∃ u, exec (.nrstStuck t) s = .next u ∧ u.getF F.RST_NRST.STUCK = 1 ∧ u.rst.nrstLow = some a)

/-- A reset takes effect (R54, R62, R376, R378, R390): a power-on at once, level 0 once the ledger is copied and its marker written, the
others at once; a software reset waits too while the response to it is withheld (R382). It is entered and every output is off; levels 0
and 1 lead to `BOOT` with every domain but AON held; level 2 from a state short of `SAFE` holds the datapath and leads to `SAFE` with
cause 0x25; level 3 leads there with cause 0x26 and keeps the sessions. -/
def Obligations.ResetsTakeEffect : Prop :=
  (∀ (s : State) (t : Nat) (r : ResetNow), s.rst.active = some r → r.entered = false → s.dev ≠ .off →
    (r.powerOn = true ∨ s.awaitsResponse r = false) → (r.powerOn = true ∨ r.level ≠ 0 ∨ s.uncopied = 0 ∧ s.tp.marker = true) → 
    ∃ u, exec (.resetEntry t) s = .next u ∧ u.rst.active = some { r with entered := true } ∧ (r.powerOn = true ∨ r.level ≤ 1 →
      u.dev = .boot) ∧ u.dark = true) ∧
  (∀ (s : State) (t : Nat) (r : ResetNow), s.rst.active = some r → r.entered = false → r.powerOn = false → s.awaitsResponse r = false →
    r.level = 0 → s.uncopied = 0 → s.tp.marker = true → 
    ∃ u, exec (.resetEntry t) s = .next u ∧ u.rst.active = some { r with entered := true } ∧ u.dev = .boot ∧ u.pwr.released = [0] ∧
      u.tp.sessions = [] ∧ u.shadow = [] ∧ u.tp.nor = s.tp.nor ∧ u.rst.fuseA = s.rst.fuseA ∧ u.dark = true) ∧
  (∀ (s : State) (t : Nat) (r : ResetNow), s.rst.active = some r → r.entered = false → r.powerOn = false → s.awaitsResponse r = false →
    r.level = 1 → 
    ∃ u, exec (.resetEntry t) s = .next u ∧ u.rst.active = some { r with entered := true } ∧ u.dev = .boot ∧ (∀ d, 1 ≤ d → d < 36 →
      u.on d = false) ∧ u.shadow = [] ∧ u.dark = true) ∧
  (∀ (s : State) (t : Nat) (r : ResetNow), (s.dev = .boot ∨ s.dev = .standby ∨ s.dev = .spinup ∨ s.dev = .run ∨ s.dev = .degraded) →
    (s.dev = .boot → (s.at t).sameCycle = false) → s.rst.active = some r → r.entered = false → r.powerOn = false →
    s.awaitsResponse r = false → r.level = 2 → 
    ∃ u, exec (.resetEntry t) s = .next u ∧ u.rst.active = some { r with entered := true } ∧ u.dev = .safe ∧
      u.getF F.SYS_STATE.CAUSE = 0x25 ∧ (∀ d, 8 ≤ d → d < 36 → u.on d = false) ∧ (∀ d, d < 8 → u.on d = s.on d) ∧ u.dark = true) ∧
  (∀ (s : State) (t : Nat) (r : ResetNow), (s.dev = .boot ∨ s.dev = .standby ∨ s.dev = .spinup ∨ s.dev = .run ∨ s.dev = .degraded) →
    (s.dev = .boot → (s.at t).sameCycle = false) → s.rst.active = some r → r.entered = false → r.powerOn = false →
    s.awaitsResponse r = false → r.level = 3 → 
    ∃ u, exec (.resetEntry t) s = .next u ∧ u.rst.active = some { r with entered := true } ∧ u.dev = .safe ∧
      u.getF F.SYS_STATE.CAUSE = 0x26 ∧ u.pwr.released = s.pwr.released ∧ u.tp.sessions = s.tp.sessions ∧ u.epoch = s.epoch ∧ u.dark = true)

/-- A reset that has been entered is released once `NRST` is high and no clock keeps the device in reset (R43, R62, R378, R383, R386, R388,
R390): none is in progress any more. From level 0 the fuse load begins; from 1 and 2 the epoch advances, from 3 it does not, where no
message waits. The causes of `SAFE` that name the reset remain no longer: 0x25 after level 2, 0x26 after level 3. Where the fuse shadow
fails its CRC, a level above 0 becomes level 0 instead, still to take effect. -/
def Obligations.ResetsAreReleased : Prop :=
  (∀ (s : State) (shadow : Bool) (t : Nat) (r : ResetNow), s.rst.active = some r → r.entered = true →
    (r.pin = false ∨ s.rst.nrstLow = none) → s.clockKeeps = false → s.dev ≠ .off → (shadow = true ∨ r.level = 0) → r.level ≤ 3 → 
    ∃ u, exec (.resetRelease ⟨shadow, t⟩) s = .next u ∧ u.rst.active = none ∧ (r.level = 0 → u.rst.loading = true) ∧
      (r.level = 1 ∨ r.level = 2 → u.epoch = nextEpoch s.epoch) ∧ (r.level = 3 → s.tp.rxq = [] → u.epoch = s.epoch ∧ 0x26 ∉ u.sys.stay)) ∧
  (∀ (s : State) (shadow : Bool) (t : Nat) (r : ResetNow), s.rst.active = some r → r.entered = true →
    (r.pin = false ∨ s.rst.nrstLow = none) → s.clockKeeps = false → s.dev ≠ .off → r.level = 0 → 
    ∃ u, exec (.resetRelease ⟨shadow, t⟩) s = .next u ∧ u.rst.active = none ∧ u.rst.loading = true ∧ u.getF F.RST_BOOT.STEP = 1 ∧
      u.pwr.released = [0]) ∧
  (∀ (s : State) (t : Nat) (r : ResetNow), s.rst.active = some r → r.entered = true → (r.pin = false ∨ s.rst.nrstLow = none) →
    s.clockKeeps = false → s.dev ≠ .off → r.level = 1 → 
    ∃ u, exec (.resetRelease ⟨true, t⟩) s = .next u ∧ u.rst.active = none ∧ u.epoch = nextEpoch s.epoch ∧ u.getF F.RST_BOOT.STEP = 2) ∧
  (∀ (s : State) (t : Nat) (r : ResetNow), s.rst.active = some r → r.entered = true → (r.pin = false ∨ s.rst.nrstLow = none) →
    s.clockKeeps = false → s.dev ≠ .off → r.level = 2 → 
    ∃ u, exec (.resetRelease ⟨true, t⟩) s = .next u ∧ u.rst.active = none ∧ u.epoch = nextEpoch s.epoch ∧ 0x25 ∉ u.sys.stay) ∧
  (∀ (s : State) (t : Nat) (r : ResetNow), s.rst.active = some r → r.entered = true → (r.pin = false ∨ s.rst.nrstLow = none) →
    s.clockKeeps = false → s.dev ≠ .off → r.level ≠ 0 → 
    ∃ u, exec (.resetRelease ⟨false, t⟩) s = .next u ∧ u.rst.active = some { r with level := 0, entered := false } ∧
      u.getF F.RST_CAUSE.LEVEL = 0 ∧ u.dev = s.dev)

/-- Start-up begins (R357, R376, R384, R385, R389). With the input above 5.0 V for 10 ms, `OFF` is left for `BOOT`: the fuse load begins
with only AON released, the start is counted, and `RST_CAUSE` names power-on; with `NRST` low that holds a reset too. A fuse load that
ends in no other reset is complete: the rows that neither copy holds well are the bad ones, and they decide what `RST_FUSE` shows; the
state stays `BOOT`. -/
def Obligations.StartAndFuseLoad : Prop :=
  (∀ (s : State) (t a : Nat), s.dev = .off → s.pwr.above50 = some a → a + 10000000 ≤ max s.now t → 
    ∃ u, exec (.inputStartThreshold t) s = .next u ∧ u.dev = .boot ∧ u.getF F.SYS_STATE.CAUSE = s.startCause ∧ u.rst.loading = true ∧
      u.rst.active.isSome = s.rst.nrstLow.isSome ∧ u.tp.bootCount = s.tp.bootCount + 1 ∧ u.pwr.released = [0] ∧
      u.bitF F.RST_CAUSE.SOURCES 0 = true ∧ u.bitF F.RST_CAUSE.SOURCES 2 = s.rst.nrstLow.isSome) ∧
  (∀ (s : State) (t : Nat), s.rst.loading = true → s.rst.active = none → 
    ∃ u, exec (.fuseLoadComplete t) s = .next u ∧ u.rst.loading = false ∧
      u.rst.badRows = (List.range 64).filter (fun n => (loadRow s.rst.fuseA s.rst.fuseB n).2.1) ∧
      (u.getF F.RST_FUSE.STATE = 4 ↔ u.rst.badRows ≠ []) ∧ u.getF F.RST_BOOT.STEP = 2 ∧ u.dev = s.dev)

/-- Start-up (R75, R379, R388 to R390). A domain that is `ON` with its clock stable is released in its turn. A monitor that is not stable
in time fails; the third failure in a row of SMP or ANA holds their domains instead of a reset, and they are tried again once it has been
stable for 1 s. A safety image that does not verify again is active no more. The self-test's result is taken. The slot tried first is the
one of SLOT_SELECT, else that of the higher version (R75; slot 0 where they are equal is log entry 66): accepted, it is booted and the
other is not tried; refused, the other is, and with neither accepted no image is booted; `CPU_IMG` shows the verdict of each slot tried.
A boot without a cause of doubt ends in `STANDBY`, one with a failed self-test in `SAFE`, one with a bad fuse row in `PROVISION`. -/
def Obligations.BootToItsDestination : Prop :=
  (∀ (s : State) (dom : Fin 36) (copyA copyB : Bool) (t : Nat), s.mayRelease dom.val = true → 
    ∃ u, exec (.domainRelease dom copyA copyB t) s = .next u ∧ u.on dom.val = true ∧ u.pwr.released = s.pwr.released ++ [dom.val] ∧
      tabFind dom.val u.pwr.why = none) ∧
  (∀ (s : State) (dom : Fin 36) (t n : Nat), domainMonitor dom.val = some n → s.domainWaits dom.val n = true → s.rst.active = none →
    s.rst.loading = false → s.dev ≠ .off → s.monStable n = false → s.rst.clkHeld.contains n = false →
    max s.rst.relAt ((tabFind dom.val s.pwr.onAt).getD 0) + 20000000 ≤ max s.now t → 
    ∃ u, exec (.releaseClockTimeout dom t) s = .next u ∧ countAt n u.rst.clkFails = countAt n s.rst.clkFails + 1 ∧
      u.getF F.RST_CAUSE.MON = n ∧ (if (n = 1 ∨ n = 4) ∧ 2 ≤ countAt n s.rst.clkFails then u.rst.clkHeld.contains n = true ∧
      u.rst.active = none else u.rst.active.isSome = true)) ∧
  (∀ (s : State) (retry : Retry) (t : Nat), s.rst.clkHeld.contains retry.mon.val = true → (s.at t).stableLong retry.mon.val = true → 
    ∃ u, exec (.releaseRetry retry t) s = .next u ∧ u.rst.clkHeld.contains retry.mon.val = false ∧
      countAt retry.mon.val u.rst.clkFails = 0 ∧
      u.getF F.RST_GATE.CLKFAIL = min (s.getF F.RST_GATE.CLKFAIL + 1) (2 ^ F.RST_GATE.CLKFAIL.width - 1)) ∧
  (∀ (s : State) (passA passB : Bool) (t : Nat), s.rst.reverify = true → s.on 1 = true → s.on 2 = true → (passA = false ∨ passB = false) → 
    ∃ u, exec (.safetyImageReverify passA passB t) s = .next u ∧ u.rst.reverify = false ∧ u.saf.activeA = none ∧ u.saf.activeB = none) ∧
  (∀ (s : State) (t : Nat) (i j : List Byte), s.rst.reverify = true → s.on 1 = true → s.on 2 = true → s.saf.activeA = some i →
    s.saf.activeB = some j → 
    ∃ u, exec (.safetyImageReverify true true t) s = .next u ∧ u.rst.reverify = false ∧ u.saf.activeA = some i ∧ u.saf.activeB = some j ∧
      u.saf.outputsOn = false) ∧
  (∀ (s : State) (pass : Bool) (t : Nat), s.booting = true → s.rst.selfTest = none → s.on 4 = true → s.allOn [1, 2, 5] = true → 
    ∃ u, exec (.selfTestComplete pass t) s = .next u ∧ u.rst.selfTest = some pass ∧ u.dev = .boot) ∧
  (∀ (s : State) (formed0 formed1 : Bool) (t : Nat), s.booting = true → s.rst.selfTest.isSome = true → s.rst.imageDone = false → 
    ∃ u, exec (.imageVerify formed0 formed1 t) s = .next u ∧
      (let verdict := fun (k : Nat) => s.judgeImage k (if k = 0 then formed0 else formed1); (if verdict s.bootSlot = 1 then u.rst.image =
      some s.bootSlot ∧
      u.getF F.CPU_IMG.BOOTED = s.bootSlot % 2 else if verdict (1 - s.bootSlot) = 1 then u.rst.image = some (1 - s.bootSlot) ∧
      u.getF F.CPU_IMG.BOOTED = 1 - s.bootSlot else u.rst.image = none) ∧
      u.getF (if s.bootSlot = 0 then F.CPU_IMG.SLOT0 else F.CPU_IMG.SLOT1) = verdict s.bootSlot ∧ (verdict s.bootSlot ≠ 1 →
      u.getF (if 1 - s.bootSlot = 0 then F.CPU_IMG.SLOT0 else F.CPU_IMG.SLOT1) = verdict (1 - s.bootSlot))) ∧ u.rst.imageDone = true ∧
      u.rst.slotFirst = none ∧ u.dev = .boot) ∧
  (∀ (s : State) (t : Nat), s.booting = true → s.rst.imageDone = true → s.hka.calFrom = none →
    (List.range 36).all (fun d => !s.wanted d || s.on d) = true → s.getF F.RST_PROV.REQ = 0 → s.rst.clkHeld = [] → s.rst.badRows = [] →
    s.rst.selfTest = some true → s.rst.image.isSome = true → (s.gradeS = false ∨ s.rst.lockRecord = none ∧ s.rst.lockLatch = false) → 
    ∃ u, exec (.bootComplete t) s = .next u ∧ u.dev = .standby ∧ u.getF F.SYS_STATE.CAUSE = 0x10 ∧ u.getF F.RST_BOOT.STEP = 10) ∧
  (∀ (s : State) (t : Nat), s.booting = true → s.rst.imageDone = true → s.hka.calFrom = none →
    (List.range 36).all (fun d => !s.wanted d || s.on d) = true → s.getF F.RST_PROV.REQ = 0 → (s.dev = .boot →
    (s.at t).sameCycle = false) → s.rst.badRows = [] → s.rst.selfTest ≠ some true → 
    ∃ u, exec (.bootComplete t) s = .next u ∧ u.dev = .safe ∧ u.getF F.SYS_STATE.CAUSE = 0x20 ∧ u.dark = true) ∧
  (∀ (s : State) (t : Nat), s.booting = true → s.rst.imageDone = true → s.hka.calFrom = none →
    (List.range 36).all (fun d => !s.wanted d || s.on d) = true → s.getF F.RST_PROV.REQ = 0 → s.rst.badRows ≠ [] → 
    ∃ u, exec (.bootComplete t) s = .next u ∧ u.dev = .provision ∧ u.getF F.SYS_STATE.CAUSE = 0x60 ∧ u.getF F.RST_PROV.CAUSE = 0x60 ∧
      u.dark = true)

/-! ## Housekeeping converter and mount sensing (chapters 18 and 19) -/

/-- The housekeeping converter (R397 to R407), ANA released. A trigger that finds no sequence sampling and no calibration begins one of LEN
entries: at once for software and the timer, within 37 ns of the start of a facet transition gap under TRIG 6, within 25 to 37 ns of a
rising edge of `HKA_TRG` under TRIG 1; during a calibration it is a missed one. A conversion takes the sequence one entry on, its
corrected code kept; a galvo conversion ends the oldest that runs, its code kept too. A record is committed 100 µs after its first
result. A calibration of 1.2 ms with good factors takes them over; with bad ones it fails and keeps the old offsets and gains. -/
def Obligations.HousekeepingConverter : Prop :=
  (∀ (s : State) (t : Nat), s.on 10 = true → s.hka.runs.any (fun r => r.samples (max s.now t)) = false → s.hka.calFrom = none → 
    ∃ u r, exec (.hkaTrigger true t) s = .next u ∧ u.hka.runs = s.hka.runs ++ [r] ∧ r.next = 0 ∧ r.ents.length = s.getF F.HKA_CTL.LEN ∧
      r.start = max s.now t) ∧
  (∀ (s : State) (t : Nat), s.on 10 = true → s.hka.runs.any (fun r => r.samples (max s.now t)) = false → s.hka.calFrom = none →
    s.getF F.HKA_CTL.TRIG = 6 → s.frames = true → 
    ∃ u r, exec (.hkaTrigger false t) s = .next u ∧ u.hka.runs = s.hka.runs ++ [r] ∧ r.next = 0 ∧ r.ents.length = s.getF F.HKA_CTL.LEN ∧
      max s.now t ≤ r.start ∧ r.start ≤ max s.now t + 37) ∧
  (∀ (s : State) (t f : Nat), s.on 10 = true → s.hka.calFrom = some f → 
    ∃ u, exec (.hkaTrigger true t) s = .next u ∧ u.hka.runs = s.hka.runs ∧
      u.getF F.HKA_STAT.MISSED = min (s.getF F.HKA_STAT.MISSED + 1) (2 ^ F.HKA_STAT.MISSED.width - 1)) ∧
  (∀ (s : State) (t : Nat), s.on 10 = true → s.hka.runs.any (fun r => r.samples (max s.now t)) = false → s.hka.calFrom = none →
    s.getF F.HKA_CTL.TRIG = 5 → 2 * s.hka.timerFrom + 25 * s.getF F.HKA_TIMER.PERIOD ≤ 2 * max s.now t + 1 → 
    ∃ u r, exec (.hkaTimerExpiry t) s = .next u ∧ u.hka.runs = s.hka.runs ++ [r] ∧ r.next = 0 ∧ r.ents.length = s.getF F.HKA_CTL.LEN ∧
      r.start = max s.now t ∧ u.hka.timerFrom = max s.now t) ∧
  (∀ (s : State) (t : Nat), s.on 10 = true → s.hka.runs.any (fun r => r.samples (max s.now t)) = false → s.hka.calFrom = none →
    s.getF F.HKA_CTL.TRIG = 1 → 
    ∃ u r, exec (.hkaTrgEdge true t) s = .next u ∧ u.hka.runs = s.hka.runs ++ [r] ∧ r.next = 0 ∧ r.ents.length = s.getF F.HKA_CTL.LEN ∧
      max s.now t + 25 ≤ r.start ∧ r.start ≤ max s.now t + 37) ∧
  (∀ (s : State) (raw t : Nat) (r : HkaRun) (l : List HkaRun), s.on 10 = true → raw ≤ 16383 → s.hka.runs = r :: l →
    r.next + 1 < r.ents.length → r.sampledAt r.next + 275 ≤ 2 * max s.now t + 1 → 
    ∃ u, exec (.hkaConversion false raw t) s = .next u ∧ u.hka.runs = { r with next := r.next + 1 } :: l ∧
      tabFind r.next u.hka.codes = some (s.hkaCode (nth 0 r.ents r.next) raw)) ∧
  (∀ (s : State) (raw t : Nat) (g : HkaGalvo) (l : List HkaGalvo), s.on 10 = true → raw ≤ 16383 → s.hka.galvo = g :: l →
    g.at2 + 25 * (entCycles g.ent + 11) ≤ 2 * max s.now t + 1 → 
    ∃ u, exec (.hkaConversion true raw t) s = .next u ∧ u.hka.galvo = l ∧ tabFind g.entry u.hka.codes = some (s.hkaCode g.ent raw)) ∧
  (∀ (s : State) (t : Nat) (r : HkaRecord), s.Settled → s.hka.open_ = some r → r.first + 100000 ≤ max s.now t → 
    ∃ u j, exec (.hkaRecordClose t) s = .next u ∧ u.hka.open_ = none ∧ u.tp.journal = j :: s.tp.journal ∧ j.cls = 8) ∧
  (∀ (s : State) (factors : List (Int × Nat)) (t f : Nat), s.on 10 = true → s.hka.calFrom = some f → f + 1200000 ≤ max s.now t →
    factors.length = 4 → calGood factors = true → 
    ∃ u, exec (.hkaCalibrationComplete factors t) s = .next u ∧ u.hka.calFrom = none ∧ u.getF F.HKA_CAL.GO = 0 ∧
      u.getF F.HKA_CAL.DONE = 1 ∧ (∀ g : Fin 4, u.getI (F.HKA_CALF.OFS.idx g.val) = (nth (0, 0) factors g.val).1 ∧
      u.getF (F.HKA_CALF.GAINF.idx g.val) = (nth (0, 0) factors g.val).2)) ∧
  (∀ (s : State) (factors : List (Int × Nat)) (t f : Nat), s.on 10 = true → s.hka.calFrom = some f → f + 1200000 ≤ max s.now t →
    factors.length = 4 → calGood factors = false → 
    ∃ u, exec (.hkaCalibrationComplete factors t) s = .next u ∧ u.hka.calFrom = none ∧ u.getF F.HKA_CAL.GO = 0 ∧
      u.getF F.HKA_CAL.FAIL = 1 ∧ (∀ g : Fin 4, u.getI (F.HKA_CALF.OFS.idx g.val) = s.getI (F.HKA_CALF.OFS.idx g.val) ∧
      u.getF (F.HKA_CALF.GAINF.idx g.val) = s.getF (F.HKA_CALF.GAINF.idx g.val)))

/-- Mount sensing (R412, R415, R417, R418, R422), ANA released. An output set counts, takes SRC, BANK and PRESET in force into use, runs
the samples of every enabled channel through its decimators, and gives it the filter's output as its raw value (a fraction rounded either
way, log entry 7; a bridge without excitation has no stated input, log entry 83). The channels whose comparator tripped are those
reported and those with a sample beyond 1.25 FS. Over range sets OVR; excitation out of regulation sets EXOPEN and ends the run of good
checks. A completed check that is due shows its magnitude, the largest where the channel was over range during it, and one above the
window sets OPEN; one in whose time OVR was set is discarded. A zero step of a calibration ends with the mean of its results where that
is a whole number; one with a bad result fails. -/
def Obligations.MountSensing : Prop :=
  (∀ (s : State) (raws : List (List LandSample)) (tripped t : Nat), s.on 10 = true → raws.length = 12 → 
    ∃ u, exec (.dflOutputSet raws tripped t) s = .next u ∧
      u.getF F.DFL_SETS.COUNT = (s.getF F.DFL_SETS.COUNT + 1) % 2 ^ F.DFL_SETS.COUNT.width ∧ u.exc.used = s.dflConfig ∧
      u.exc.tripped = (s.at t).dflUpdate.trips raws tripped ∧ (∀ c : Fin 12, s.getF (chEn c.val) = 1 →
      8 ≤ c.val ∨ (nth [] raws c.val).all (fun x => x.lands ≠ 0) = true →
      u.filterOf c.val = ((nth [] raws c.val).map (s.landRaw c.val)).foldl (Decimator.feed (presetD1 u.exc.used.2.2)) ((s.at
      t).dflUpdate.filterOf c.val)) ∧ (∀ c : Fin 12, s.getF (chEn c.val) = 1 →
      ∃ v : Int, u.getI (F.DFL_OUT_RAW.VALUE.inst c.val) = clampInt (-(2 ^ (F.DFL_OUT_RAW.VALUE.width - 1) : Nat)) ((2 ^
      (F.DFL_OUT_RAW.VALUE.width - 1) : Nat) - 1) v ∧ (u.firOut (u.filterOf c.val)).floor ≤ v ∧
      v ≤ (u.firOut (u.filterOf c.val)).floor + 1)) ∧
  (∀ (s : State) (ch : Fin 12) (t : Nat), s.on 10 = true → s.getF (chEn ch.val) = 1 → 
    ∃ u, exec (.overRange ch t) s = .next u ∧ u.chFlag ch.val 1 = true ∧ u.exc.tripped.contains ch.val = true ∧
      countAt ch.val u.exc.calm = 0 ∧ tabFind ch.val u.exc.tripAt = some (max s.now t)) ∧
  (∀ (s : State) (ch : Fin 12) (t : Nat), s.on 10 = true → s.getF (chEn ch.val) = 1 → 
    ∃ u, exec (.excitationOpen ch t) s = .next u ∧ u.chFlag ch.val 2 = true ∧ countAt ch.val u.exc.okChecks = 0) ∧
  (∀ (s : State) (ch : Fin 12) (mag t m : Nat) (phase : Int), s.on 10 = true → s.getF (chEn ch.val) = 1 →
    s.getF (F.EXC_CH.CHK.idx ch.val) = 1 → (s.at t).duringCheck ch.val s.exc.ovrAt = false → (s.at t).checkDue = true →
    (m = if (s.at t).duringCheck ch.val s.exc.tripAt || s.exc.tripped.contains ch.val then 0xFFFF else min 0xFFFF mag) → 
    ∃ u, exec (.impedanceCheck ch mag phase t) s = .next u ∧ u.getF (F.EXC_IMP.MAG.inst ch.val) = m ∧ (s.getF (linF ch.val 52 16 16) ≠ 0 →
      s.getF (linF ch.val 52 16 16) < m → u.chFlag ch.val 3 = true)) ∧
  (∀ (s : State) (ch : Fin 12) (mag t : Nat) (phase : Int), (s.at t).duringCheck ch.val s.exc.ovrAt = true → 
    ∃ u, exec (.impedanceCheck ch mag phase t) s = .next u ∧ u.getF (F.EXC_IMP.MAG.inst ch.val) = s.getF (F.EXC_IMP.MAG.inst ch.val) ∧
      u.exc.ovrNew = s.exc.ovrNew) ∧
  (∀ (s : State) (t : Nat) (k : ScalStep), s.on 10 = true → s.exc.step = some k → k.bad = false → k.full = false → 0 < k.n → k.want ≤ k.n →
    (k.n : Int) ∣ k.sum → 
    ∃ u, exec (.systemCalibrationEnd t) s = .next u ∧ u.exc.step = none ∧ tabFind k.ch u.exc.zeros = some (k.sum / (k.n : Int)) ∧
      u.getF F.EXC_SCAL.STATE = 3 ∧ u.getF F.EXC_SCAL.GO = 0) ∧
  (∀ (s : State) (t : Nat) (k : ScalStep), s.on 10 = true → s.exc.step = some k → k.bad = true → 
    ∃ u, exec (.systemCalibrationEnd t) s = .next u ∧ u.exc.step = none ∧ u.exc.zeros = s.exc.zeros ∧ u.getF F.EXC_SCAL.STATE = 4 ∧
      u.getF F.EXC_SCAL.GO = 0)

/-! ## Event recorder (chapter 20) -/

/-- The event recorder (R427 to R435), MEM released. The oldest record that waits is dropped beyond the recorder's rate, with LOSS, and
otherwise written as the newest entry of the buffer, marked with the loss before it. With REC_POST written from the trigger point on, the
capture is done. A readout whose entries fit one record and the region is over with it. A cycle in which input A of the sequencer's state
holds takes its transition: a level, an edge of `TRIG_IO` as an input, or a chain trigger of another unit not seen before, which is
counted. A timer has expired at the instant that its PERIOD set when it started. A chain trigger of another unit is forwarded out of the
other port, where that is `ACTIVE`, with the link delay and the residence added to CORR. -/
def Obligations.EventRecorder : Prop :=
  (∀ (s : State) (t : Nat) (e : RecEntry) (l : List RecEntry), s.rcd.due = e :: l → s.recArmed = true → 
    ∃ u m, exec (.recorderEntry true t) s = .next u ∧ u.rcd.due = l ++ m ∧ u.rcd.lossNext = true ∧ u.getF F.REC_STAT.LOSS = 1 ∧
      u.getF F.REC_DROP.COUNT = min (s.getF F.REC_DROP.COUNT + 1) (2 ^ F.REC_DROP.COUNT.width - 1)) ∧
  (∀ (s : State) (t : Nat) (e : RecEntry) (l : List RecEntry), s.Settled → s.rcd.due = e :: l → s.recArmed = true → s.recState = 1 →
    e.size ≤ s.getF F.REC_SIZE.SIZE * 1048576 → 
    ∃ u, exec (.recorderEntry false t) s = .next u ∧ u.rcd.due = l ∧
      (u.rcd.buffer.head? = some { e with flags := if s.rcd.lossNext then 4 else 0 }) ∧ u.rcd.lossNext = false ∧
      u.rcd.written = s.rcd.written + e.size) ∧
  (∀ (s : State) (t : Nat), s.on 5 = true → s.recState = 2 → s.rcd.pointDue = false → s.getF F.REC_POST.KIB * 1024 ≤ s.rcd.post → 
    ∃ u, exec (.postComplete t) s = .next u ∧ u.recState = 3 ∧ u.rcd.due = []) ∧
  (∀ (s : State) (t : Nat), s.on 5 = true → s.recState = 4 → s.rcd.readout ≠ [] → firstEntries s.rcd.readout = s.rcd.readout →
    s.recorderUnacked ≤ s.getF (F.LDG_REGION.SIZE.inst 7) * 524288 → 
    ∃ u, exec (.readoutComplete t) s = .next u ∧ u.recState = 3 ∧ u.rcd.readout = [] ∧ u.rcd.part = s.rcd.part + 1) ∧
  (∀ (s : State) (t : Nat), s.Settled → s.on 5 = true → s.seqHolds (s.getF (F.REC_ST.IN_A.idx (s.getF F.REC_STAT.SEQ))) = true →
    s.getF (F.REC_ST.ACT_A.idx (s.getF F.REC_STAT.SEQ)) = 0 → 
    ∃ u, exec (.sequencerTransition t) s = .next u ∧ u.getF F.REC_STAT.SEQ = s.getF (F.REC_ST.NEXT_A.idx (s.getF F.REC_STAT.SEQ)) ∧
      u.recState = s.recState) ∧
  (∀ (s : State) (timer : Fin 4) (t f : Nat), s.Settled → s.on 5 = true → tabFind timer.val s.rcd.timers = some f → f ≤ max s.now t → 
    ∃ u, exec (.sequencerTimerExpiry timer t) s = .next u ∧ u.rcd.expired.contains timer.val = true ∧
      tabFind timer.val u.rcd.timers = none) ∧
  (∀ (s : State) (rising : Bool) (t n : Nat), s.Settled → s.on 5 = true → s.getF F.REC_IO.DIR = 0 → s.getF F.REC_STAT.SEQ = n →
    (s.getF (F.REC_ST.IN_A.idx n) = (if rising then 2 else 3)) → s.getF (F.REC_ST.ACT_A.idx n) = 0 → 
    ∃ u, exec (.trigIoEdge rising t) s = .next u ∧ u.getF F.REC_STAT.SEQ = s.getF (F.REC_ST.NEXT_A.idx n) ∧ u.recState = s.recState ∧
      u.rcd.pulses = []) ∧
  (∀ (s : State) (portB : Bool) (trigger : ChainTrigger) (linkDelay residence t : Nat), s.portActive (portNo portB) = true →
    trigger.type = 1 → trigger.origin ≠ s.unitMac → s.on 5 = true → s.getF F.REC_CTL.RECV_EN = 1 →
    s.rcd.seen.any (fun e => e.1 = (trigger.origin, trigger.seq)) = false → 
    ∃ u, exec (.chainTriggerAccept portB trigger linkDelay residence t) s = .next u ∧
      u.rcd.seen.head? = some ((trigger.origin, trigger.seq), max s.now t) ∧
      fieldOf 0 16 (u.getF F.REC_CHAIN.COUNT) = min 0xFFFF (fieldOf 0 16 (s.getF F.REC_CHAIN.COUNT) + 1)) ∧
  (∀ (s : State) (portB : Bool) (trigger : ChainTrigger) (linkDelay residence t : Nat), s.portActive (portNo portB) = true →
    s.portActive (1 - portNo portB) = true → trigger.type = 1 → trigger.origin ≠ s.unitMac → 
    ∃ u, exec (.chainTriggerAccept portB trigger linkDelay residence t) s = .next u ∧
      Out.frame (1 - portNo portB) 4 (s.etherFrame 4 (chainTriggerBytes trigger.timed trigger.origin trigger.seq trigger.tai (trigger.corr
      + (linkDelay + residence)))) ∈ u.tp.out) ∧
  (∀ (s : State) (portB : Bool) (trigger : ChainTrigger) (linkDelay residence t n : Nat), s.Settled → s.portActive (portNo portB) = true →
    trigger.type = 1 → trigger.origin ≠ s.unitMac → s.on 5 = true → s.getF F.REC_CTL.RECV_EN = 1 →
    s.rcd.seen.any (fun e => e.1 = (trigger.origin, trigger.seq)) = false → s.getF F.REC_STAT.SEQ = n → s.getF (F.REC_ST.IN_A.idx n) = 5 →
    s.getF (F.REC_ST.ACT_A.idx n) = 0 → 
    ∃ u, exec (.chainTriggerAccept portB trigger linkDelay residence t) s = .next u ∧
      u.getF F.REC_STAT.SEQ = s.getF (F.REC_ST.NEXT_A.idx n) ∧ u.recState = s.recState ∧ u.rcd.pulses = [])

/-! ## Control (chapters 02, 03, 14 and 17) -/

/-- The commands of a session (R51, R76, R307, R312, R313, R391, R392, R394), where commands are performed and none is withheld: each takes
the session's next number, has its effect, is answered with status 0, stands in the ledger as its newest entry with status 0, and uses
its number up; CLOSE ends the session with its queues instead. READ answers the words in order, each as the register space then reads, so
of a program bank the words as stored. WRITE, when every check passes, performs its request and then its words in order: a word of a
program bank that no commit uses is stored, a word of `BLK_IER` replaces it, and a new speed waits as a pending value of the session
while the active one stays. SUBSCRIBE opens a queue of its class and answers its index, generation and first number, UNSUBSCRIBE releases
one of the session's own. NOP has no effect, QUERY answers the entry asked for. IMAGE_WRITE stores data in an image slot other than the
one booted, or in the staging slots of both channels; SLOT_SELECT names the slot; FUSE_PROGRAM programs both copies of a row; KEY_SLOT
writes a key, or empties the slot with a key of zeros; PROVISION asks for the restart. -/
def Obligations.SessionCommands : Prop :=
  (∀ (s : State) (sess seq : Nat) (x : Session) (addr count : Nat), s.noCommands = false → s.unserved = false → s.session sess = some x →
    s.waiting.all (fun a => a.isRow sess 0x01 (leBytes 4 addr ++ leBytes 2 count ++ leBytes 2 0)) = true →
    (s.waiting.map (fun a => a.seq)).getD x.nextSeq = seq → seq < 2 ^ 32 → s.tp.withheld = [] → s.uncopied < 2048 → addr < 2 ^ 24 →
    1 ≤ count → count ≤ 1024 → (∀ a ∈ wordAddrs addr count, s.accessRefused a = none) → 
    ∃ u e, exec (.read sess addr count) s = .next u ∧ u.tp.banks.head? = some e ∧ e.session = sess ∧ e.opcode = 0x01 ∧ e.gen = x.gen ∧
      e.seq = seq ∧ e.status = 0 ∧ (u.session sess).map (fun y => y.nextSeq) = some (max x.nextSeq (seq + 1)) ∧
      (x.answer ((s.waiting.map (fun a => a.src)).getD x.peer) sess seq 0x01 0 0 s.epoch (((State.readWords count addr (if s.waiting.isSome
      then s else (s.confirmSession sess).renewSession sess)).1.map (leBytes 4)).flatten) ∈ u.tp.out)) ∧
  (∀ (s : State) (sess seq : Nat) (x : Session) (addr count : Nat), s.noCommands = false → s.unserved = false → s.session sess = some x →
    s.waiting.all (fun a => a.isRow sess 0x01 (leBytes 4 addr ++ leBytes 2 count ++ leBytes 2 0)) = true →
    (s.waiting.map (fun a => a.seq)).getD x.nextSeq = seq → seq < 2 ^ 32 → s.tp.withheld = [] → s.uncopied < 2048 → addr < 2 ^ 24 →
    1 ≤ count → count ≤ 1024 → 0x400000 ≤ addr → addr + 4 * count ≤ 0x600000 → (∀ a ∈ wordAddrs addr count, s.accessRefused a = none) → 
    ∃ u e, exec (.read sess addr count) s = .next u ∧ u.tp.banks.head? = some e ∧ e.session = sess ∧ e.opcode = 0x01 ∧ e.gen = x.gen ∧
      e.seq = seq ∧ e.status = 0 ∧ (u.session sess).map (fun y => y.nextSeq) = some (max x.nextSeq (seq + 1)) ∧
      x.answer ((s.waiting.map (fun a => a.src)).getD x.peer) sess seq 0x01 0 0 s.epoch (((wordAddrs addr count).map (fun a => leBytes 4
      (s.ramAt a).toNat)).flatten) ∈ u.tp.out) ∧
  (∀ (s : State) (sess seq : Nat) (x : Session) (addr : Nat) (words : List Word) (v : State), s.noCommands = false → s.unserved = false →
    s.session sess = some x →
    s.waiting.all (fun a => a.isRow sess 0x02 (leBytes 4 addr ++ leBytes 2 words.length ++ leBytes 2 0 ++ (words.map (fun w => leBytes 4
    w.toNat)).flatten)) = true → (s.waiting.map (fun a => a.seq)).getD x.nextSeq = seq → seq < 2 ^ 32 → s.tp.withheld = [] →
    s.uncopied < 2048 → addr < 2 ^ 24 → 1 ≤ words.length → words.length ≤ 1024 →
    (v = if s.waiting.isSome then s else (s.confirmSession sess).renewSession sess) →
    State.checkWords { sess := sess, roles := s.rolesOf x, may := x.slot.isSome || !s.flag F.CPU_AUTH.REQUIRE } (wordsAt addr words)
    (wordsAt addr words) v = none → v.requestFail (requestOf (wordsAt addr words)) = none → asksReset (wordsAt addr words) = false → 
    ∃ u e, exec (.write sess addr words) s = .next u ∧ u.tp.banks.head? = some e ∧ e.session = sess ∧ e.opcode = 0x02 ∧ e.gen = x.gen ∧
      e.seq = seq ∧ e.status = 0 ∧ (∀ a, pageOf (a % 0x1000000) ≠ some 26 →
      u.peek a = ((v.doRequest (requestOf (wordsAt addr words))).doWords sess (wordsAt addr words)).peek a) ∧
      u.shadow = ((v.doRequest (requestOf (wordsAt addr words))).doWords sess (wordsAt addr words)).shadow ∧
      u.ram = ((v.doRequest (requestOf (wordsAt addr words))).doWords sess (wordsAt addr words)).ram ∧
      (u.session sess).map (fun y => y.nextSeq) = some (max x.nextSeq (seq + 1)) ∧
      (x.answer ((s.waiting.map (fun a => a.src)).getD x.peer) sess seq 0x02 0 0 u.epoch (if setsGo (wordsAt addr words) then ((v.doRequest
      (requestOf (wordsAt addr words))).doWords sess (wordsAt addr words)).goAnswer else []) ∈ u.tp.out)) ∧
  (∀ (s : State) (sess seq : Nat) (x : Session) (addr b o : Nat) (w : Word), s.noCommands = false → s.unserved = false →
    s.session sess = some x →
    s.waiting.all (fun a => a.isRow sess 0x02 (leBytes 4 addr ++ leBytes 2 1 ++ leBytes 2 0 ++ leBytes 4 w.toNat)) = true →
    (s.waiting.map (fun a => a.seq)).getD x.nextSeq = seq → seq < 2 ^ 32 → s.tp.withheld = [] → s.uncopied < 2048 →
    regionOf addr = .bank b o → s.accessRefused addr = none → s.bankInUse b = false → s.bankHeld b = false →
    (x.slot.isSome = true ∨ s.getF F.CPU_AUTH.REQUIRE = 0) → 
    ∃ u e, exec (.write sess addr [w]) s = .next u ∧ u.tp.banks.head? = some e ∧ e.session = sess ∧ e.opcode = 0x02 ∧ e.gen = x.gen ∧
      e.seq = seq ∧ e.status = 0 ∧ u.ramAt addr = w ∧ (∀ a : Nat, a ≠ addr → u.ramAt a = s.ramAt a) ∧ u.shadow = s.shadow ∧
      (u.session sess).map (fun y => y.nextSeq) = some (max x.nextSeq (seq + 1)) ∧
      x.answer ((s.waiting.map (fun a => a.src)).getD x.peer) sess seq 0x02 0 0 s.epoch ([]) ∈ u.tp.out) ∧
  (∀ (s : State) (sess seq : Nat) (x : Session) (p : Fin 28) (w : Word), s.noCommands = false → s.unserved = false →
    s.session sess = some x →
    s.waiting.all (fun a => a.isRow sess 0x02 (leBytes 4 (p.val * 0x1000 + 0x14) ++ leBytes 2 1 ++ leBytes 2 0 ++ leBytes 4 w.toNat)) =
    true → (s.waiting.map (fun a => a.seq)).getD x.nextSeq = seq → seq < 2 ^ 32 → s.tp.withheld = [] → s.uncopied < 2048 → p.val ≠ 17 →
    p.val ≠ 26 → s.pageOn p.val = true → (x.slot.isSome = true ∨ s.getF F.CPU_AUTH.REQUIRE = 0) → 
    ∃ u e, exec (.write sess (p.val * 0x1000 + 0x14) [w]) s = .next u ∧ u.tp.banks.head? = some e ∧ e.session = sess ∧ e.opcode = 0x02 ∧
      e.gen = x.gen ∧ e.seq = seq ∧ e.status = 0 ∧ u.getF (H.IER p.val) = w.toNat ∧ u.shadow = s.shadow ∧ u.ram = s.ram ∧
      (u.session sess).map (fun y => y.nextSeq) = some (max x.nextSeq (seq + 1)) ∧
      x.answer ((s.waiting.map (fun a => a.src)).getD x.peer) sess seq 0x02 0 0 s.epoch ([]) ∈ u.tp.out) ∧
  (∀ (s : State) (sess seq : Nat) (x : Session) (w : Word), s.noCommands = false → s.unserved = false → s.session sess = some x →
    s.waiting.all (fun a => a.isRow sess 0x02 (leBytes 4 0x9104 ++ leBytes 2 1 ++ leBytes 2 0 ++ leBytes 4 w.toNat)) = true →
    (s.waiting.map (fun a => a.seq)).getD x.nextSeq = seq → seq < 2 ^ 32 → s.tp.withheld = [] → s.uncopied < 2048 → s.on 9 = true →
    s.sys.armed = none → s.sys.owner.getD sess = sess → s.rolesOf x &&& 1 = 1 → (x.slot.isSome = true ∨ s.getF F.CPU_AUTH.REQUIRE = 0) → 
    ∃ u e, exec (.write sess 0x9104 [w]) s = .next u ∧ u.tp.banks.head? = some e ∧ e.session = sess ∧ e.opcode = 0x02 ∧ e.gen = x.gen ∧
      e.seq = seq ∧ e.status = 0 ∧ u.pendF F.STE_RPM.TARGET = fieldOf F.STE_RPM.TARGET.lsb F.STE_RPM.TARGET.width w.toNat ∧
      u.getF F.STE_RPM.TARGET = s.getF F.STE_RPM.TARGET ∧ u.sys.owner = some sess ∧ u.getF F.SYS_COMMIT_STAT.STATUS = 1 ∧
      (u.session sess).map (fun y => y.nextSeq) = some (max x.nextSeq (seq + 1)) ∧
      x.answer ((s.waiting.map (fun a => a.src)).getD x.peer) sess seq 0x02 0 0 s.epoch ([]) ∈ u.tp.out) ∧
  (∀ (s : State) (sess seq : Nat) (x : Session) (sub : Subscription) (n : Nat), s.noCommands = false → s.unserved = false →
    s.session sess = some x → s.waiting.all (fun a => a.isRow sess 0x10 (subscribeBytes sub)) = true →
    (s.waiting.map (fun a => a.seq)).getD x.nextSeq = seq → seq < 2 ^ 32 → s.tp.withheld = [] → s.uncopied < 2048 →
    payloadGood 0x10 (subscribeBytes sub) = true → subscriptionGood (s.withDefaults sub) x.peer.ip6 = true → s.tp.queues.length < 16384 →
    n < 16384 → tabFind n s.tp.queues = none → (∀ k, k < n → (tabFind k s.tp.queues).isSome = true) → 
    ∃ u e y, exec (.subscribe sess sub) s = .next u ∧ u.tp.banks.head? = some e ∧ e.session = sess ∧ e.opcode = 0x10 ∧ e.gen = x.gen ∧
      e.seq = seq ∧ e.status = 0 ∧ u.queue n = some y ∧ y.session = sess ∧ y.cls = sub.cls ∧ y.sent = 0 ∧ y.acked = 0 ∧
      (u.session sess).map (fun y => y.nextSeq) = some (max x.nextSeq (seq + 1)) ∧
      x.answer ((s.waiting.map (fun a => a.src)).getD x.peer) sess seq 0x10 0 0 s.epoch (leBytes 2 n ++ leBytes 4 y.gen ++ leBytes 8 1) ∈
      u.tp.out) ∧
  (∀ (s : State) (sess seq : Nat) (x : Session) (queue : Nat) (q : Queue), s.noCommands = false → s.unserved = false →
    s.session sess = some x → s.waiting.all (fun a => a.isRow sess 0x11 (leBytes 2 queue ++ leBytes 2 0)) = true →
    (s.waiting.map (fun a => a.seq)).getD x.nextSeq = seq → seq < 2 ^ 32 → s.tp.withheld = [] → s.uncopied < 2048 →
    s.queue queue = some q → q.session = sess → (x.slot.isSome = true ∨ s.getF F.CPU_AUTH.REQUIRE = 0) → 
    ∃ u e, exec (.unsubscribe sess queue) s = .next u ∧ u.tp.banks.head? = some e ∧ e.session = sess ∧ e.opcode = 0x11 ∧ e.gen = x.gen ∧
      e.seq = seq ∧ e.status = 0 ∧ u.queue queue = none ∧ (u.session sess).map (fun y => y.nextSeq) = some (max x.nextSeq (seq + 1)) ∧
      x.answer ((s.waiting.map (fun a => a.src)).getD x.peer) sess seq 0x11 0 0 s.epoch ([]) ∈ u.tp.out) ∧
  (∀ (s : State) (sess seq : Nat) (x : Session) (ofSess ofGen ofSeq : Nat) (g : LedgerEntry), s.noCommands = false → s.unserved = false →
    s.session sess = some x → s.waiting.all (fun a => a.isRow sess 0x20 (leBytes 2 ofSess ++ leBytes 4 ofGen ++ leBytes 4 ofSeq)) = true →
    (s.waiting.map (fun a => a.seq)).getD x.nextSeq = seq → seq < 2 ^ 32 → s.tp.withheld = [] → s.uncopied < 2048 →
    s.ledgerEntry ofSess ofGen ofSeq = some g → 
    ∃ u e, exec (.query sess ofSess ofGen ofSeq) s = .next u ∧ u.tp.banks.head? = some e ∧ e.session = sess ∧ e.opcode = 0x20 ∧
      e.gen = x.gen ∧ e.seq = seq ∧ e.status = 0 ∧ (u.session sess).map (fun y => y.nextSeq) = some (max x.nextSeq (seq + 1)) ∧
      x.answer ((s.waiting.map (fun a => a.src)).getD x.peer) sess seq 0x20 0 0 s.epoch (entryBytes64 g) ∈ u.tp.out) ∧
  (∀ (s : State) (sess seq : Nat) (x : Session), s.noCommands = false → s.unserved = false → s.session sess = some x →
    s.waiting.all (fun a => a.isRow sess 0x21 ([])) = true → (s.waiting.map (fun a => a.seq)).getD x.nextSeq = seq → seq < 2 ^ 32 →
    s.tp.withheld = [] → s.uncopied < 2048 → s.Settled → 
    ∃ u e, exec (.nop sess) s = .next u ∧ u.tp.banks.head? = some e ∧ e.session = sess ∧ e.opcode = 0x21 ∧ e.gen = x.gen ∧ e.seq = seq ∧
      e.status = 0 ∧ (u.session sess).map (fun y => y.nextSeq) = some (max x.nextSeq (seq + 1)) ∧
      x.answer ((s.waiting.map (fun a => a.src)).getD x.peer) sess seq 0x21 0 0 s.epoch ([]) ∈ u.tp.out ∧ u.regs = s.regs ∧ u.ram = s.ram ∧
      u.shadow = s.shadow) ∧
  (∀ (s : State) (sess seq : Nat) (x : Session), s.noCommands = false → s.unserved = false → s.session sess = some x →
    s.waiting.all (fun a => a.isRow sess 0x22 ([])) = true → (s.waiting.map (fun a => a.seq)).getD x.nextSeq = seq → seq < 2 ^ 32 →
    s.tp.withheld = [] → s.uncopied < 2048 → 
    ∃ u e, exec (.closeSession sess) s = .next u ∧ u.tp.banks.head? = some e ∧ e.session = sess ∧ e.opcode = 0x22 ∧ e.gen = x.gen ∧
      e.seq = seq ∧ e.status = 0 ∧ u.session sess = none ∧ (∀ q ∈ u.tp.queues, q.2.session ≠ sess) ∧
      x.answer ((s.waiting.map (fun a => a.src)).getD x.peer) sess seq 0x22 0 0 s.epoch ([]) ∈ u.tp.out) ∧
  (∀ (s : State) (sess seq : Nat) (x : Session) (target : Nat) (last : Bool) (offset : Nat) (data : List Byte), s.noCommands = false →
    s.unserved = false → s.session sess = some x →
    (s.waiting.all (fun a => a.isRow sess 0x30 (leBytes 1 target ++ leBytes 1 (if last then 1 else 0) ++ leBytes 2 0 ++ leBytes 4 offset ++
    data)) = true) → (s.waiting.map (fun a => a.seq)).getD x.nextSeq = seq → seq < 2 ^ 32 → s.tp.withheld = [] → s.uncopied < 2048 →
    s.rolesOf x &&& 4 = 4 → (target = 1 ∨ target = 2) → 4 ≤ data.length → data.length ≤ 8192 → s.rst.image ≠ some (target - 1) → 
    ∃ u e, exec (.imageWrite sess target last offset data) s = .next u ∧ u.tp.banks.head? = some e ∧ e.session = sess ∧ e.opcode = 0x30 ∧
      e.gen = x.gen ∧ e.seq = seq ∧ e.status = 0 ∧ (if target = 1 then u.rst.nor0 = putBytes offset data s.rst.nor0 ∧
      u.rst.nor1 = s.rst.nor1 else u.rst.nor1 = putBytes offset data s.rst.nor1 ∧ u.rst.nor0 = s.rst.nor0) ∧
      (u.session sess).map (fun y => y.nextSeq) = some (max x.nextSeq (seq + 1)) ∧
      x.answer ((s.waiting.map (fun a => a.src)).getD x.peer) sess seq 0x30 0 0 s.epoch ([]) ∈ u.tp.out) ∧
  (∀ (s : State) (sess seq : Nat) (x : Session) (offset : Nat) (data : List Byte), s.noCommands = false → s.unserved = false →
    s.session sess = some x →
    (s.waiting.all (fun a => a.isRow sess 0x30 (leBytes 1 0 ++ leBytes 1 (if false then 1 else 0) ++ leBytes 2 0 ++ leBytes 4 offset ++
    data)) = true) → (s.waiting.map (fun a => a.seq)).getD x.nextSeq = seq → seq < 2 ^ 32 → s.tp.withheld = [] → s.uncopied < 2048 →
    s.rolesOf x &&& 2 = 2 → 4 ≤ data.length → data.length ≤ 8192 → s.recovery = false → s.gradeS = true → s.on 1 = true → s.on 2 = true →
    s.activationArmed = false → offset + data.length ≤ 2 ^ 20 → 
    ∃ u e, exec (.imageWrite sess 0 false offset data) s = .next u ∧ u.tp.banks.head? = some e ∧ e.session = sess ∧ e.opcode = 0x30 ∧
      e.gen = x.gen ∧ e.seq = seq ∧ e.status = 0 ∧ u.saf.staging = putBytes offset data s.saf.staging ∧
      u.saf.stagingB = putBytes offset data s.saf.stagingB ∧ (u.session sess).map (fun y => y.nextSeq) = some (max x.nextSeq (seq + 1)) ∧
      x.answer ((s.waiting.map (fun a => a.src)).getD x.peer) sess seq 0x30 0 0 s.epoch ([]) ∈ u.tp.out) ∧
  (∀ (s : State) (sess seq : Nat) (x : Session) (slot : Nat), s.noCommands = false → s.unserved = false → s.session sess = some x →
    s.waiting.all (fun a => a.isRow sess 0x31 (leBytes 1 slot ++ leBytes 3 0)) = true →
    (s.waiting.map (fun a => a.seq)).getD x.nextSeq = seq → seq < 2 ^ 32 → s.tp.withheld = [] → s.uncopied < 2048 → s.rolesOf x &&& 4 = 4 →
    slot ≤ 1 → 
    ∃ u e, exec (.slotSelect sess slot) s = .next u ∧ u.tp.banks.head? = some e ∧ e.session = sess ∧ e.opcode = 0x31 ∧ e.gen = x.gen ∧
      e.seq = seq ∧ e.status = 0 ∧ u.rst.slotFirst = some slot ∧
      (u.session sess).map (fun y => y.nextSeq) = some (max x.nextSeq (seq + 1)) ∧
      x.answer ((s.waiting.map (fun a => a.src)).getD x.peer) sess seq 0x31 0 0 s.epoch ([]) ∈ u.tp.out) ∧
  (∀ (s : State) (sess seq : Nat) (x : Session) (row : Nat) (data : List Byte), s.noCommands = false → s.unserved = false →
    s.session sess = some x → s.waiting.all (fun a => a.isRow sess 0x40 (leBytes 1 row ++ leBytes 3 0 ++ data)) = true →
    (s.waiting.map (fun a => a.seq)).getD x.nextSeq = seq → seq < 2 ^ 32 → s.tp.withheld = [] → s.uncopied < 2048 → s.rolesOf x &&& 8 = 8 →
    data.length = 60 → s.dev = .provision → rowClosed row = false → s.inputMode = 0 → s.getF F.PWM_STAT.HU_READY = 1 →
    rowKind (fuseRow s.rst.fuseA row) = 0 → rowKind (fuseRow s.rst.fuseB row) = 0 → 
    ∃ u e, exec (.fuseProgram sess row data .verified .verified) s = .next u ∧ u.tp.banks.head? = some e ∧ e.session = sess ∧
      e.opcode = 0x40 ∧ e.gen = x.gen ∧ e.seq = seq ∧ e.status = 0 ∧ u.rst.fuseA = tabSet row (fuseRowOf data) s.rst.fuseA ∧
      u.rst.fuseB = tabSet row (fuseRowOf data) s.rst.fuseB ∧ u.getF F.RST_PROG.RESULT = 1 ∧ u.getF F.RST_PROG.COPIES = 3 ∧
      (u.session sess).map (fun y => y.nextSeq) = some (max x.nextSeq (seq + 1)) ∧
      x.answer ((s.waiting.map (fun a => a.src)).getD x.peer) sess seq 0x40 0 0 s.epoch ([1, 3, 0, 0]) ∈ u.tp.out) ∧
  (∀ (s : State) (sess seq : Nat) (x : Session) (slot roles : Nat) (key : List Byte), s.noCommands = false → s.unserved = false →
    s.session sess = some x → s.waiting.all (fun a => a.isRow sess 0x41 (leBytes 1 slot ++ leBytes 1 roles ++ leBytes 2 0 ++ key)) = true →
    (s.waiting.map (fun a => a.seq)).getD x.nextSeq = seq → seq < 2 ^ 32 → s.tp.withheld = [] → s.uncopied < 2048 → s.rolesOf x &&& 8 = 8 →
    s.dev = .provision → slot ≤ 15 → roles < 16 → key.length = 32 → 
    ∃ u e, exec (.keySlotWrite sess slot roles key) s = .next u ∧ u.tp.banks.head? = some e ∧ e.session = sess ∧ e.opcode = 0x41 ∧
      e.gen = x.gen ∧ e.seq = seq ∧ e.status = 0 ∧
      (u.rst.keySlots = if key.all (· = 0) then tabDel slot s.rst.keySlots else tabSet slot ⟨key, roles, true⟩ s.rst.keySlots) ∧
      (u.session sess).map (fun y => y.nextSeq) = some (max x.nextSeq (seq + 1)) ∧
      x.answer ((s.waiting.map (fun a => a.src)).getD x.peer) sess seq 0x41 0 0 s.epoch ([]) ∈ u.tp.out) ∧
  (∀ (s : State) (sess seq : Nat) (x : Session) (serial : Nat), s.noCommands = false → s.unserved = false → s.session sess = some x →
    s.waiting.all (fun a => a.isRow sess 0x42 (leBytes 8 serial)) = true → (s.waiting.map (fun a => a.seq)).getD x.nextSeq = seq →
    seq < 2 ^ 32 → s.tp.withheld = [] → s.uncopied < 2048 → s.rolesOf x &&& 8 = 8 → (s.dev = .standby ∨ s.dev = .safe) →
    serial = s.serialNo → 
    ∃ u e, exec (.provisioningRequest sess serial) s = .next u ∧ u.tp.banks.head? = some e ∧ e.session = sess ∧ e.opcode = 0x42 ∧
      e.gen = x.gen ∧ e.seq = seq ∧ e.status = 0 ∧ u.getF F.RST_PROV.REQ = 1 ∧ u.rst.provAt = some s.now ∧
      (u.session sess).map (fun y => y.nextSeq) = some (max x.nextSeq (seq + 1)) ∧
      x.answer ((s.waiting.map (fun a => a.src)).getD x.peer) sess seq 0x42 0 0 s.epoch ([]) ∈ u.tp.out)

/-- Sessions and what arrives (R307 to R311, R337), MEM released. An OPEN under a free index, without a key, opens a session of the lease
asked for. A session whose confirmation or lease has run out ends with its queues. A datagram at the control port with a bad header is
dropped and counted; one that comes while the cores are in reset waits in the buffer; a NOP of an open session without a key that carries
its next number is accepted and the number used up. -/
def Obligations.SessionsAndMessages : Prop :=
  (∀ (s : State) (src : Endpoint) (nonce : List Byte) (lease i : Nat), s.on 5 = true → s.unserved = false → s.coresHeld = false →
    s.ctlRoom = true → s.tp.rxq = [] →
    s.tp.opens.find? (fun o => o.src = src && o.nonce = padTo 16 nonce && decide (s.now < o.time + 1000000000)) = none → 100 ≤ lease →
    lease ≤ 60000 → s.tp.sessions.length < 4096 → i < 4096 → tabFind i s.tp.sessions = none → (∀ k, k < i →
    (tabFind k s.tp.sessions).isSome = true) → 
    ∃ u y, exec (.openSession src nonce lease 0xFF) s = .next u ∧ u.session i = some y ∧ y.peer = src ∧ y.leaseMs = lease ∧
      y.leaseEnd = s.now + lease * 1000000 ∧ y.nextSeq = 1 ∧ y.slot = none) ∧
  (∀ (s : State) (sess t : Nat) (x : Session), s.on 5 = true → s.session sess = some x → x.confirmed = false → x.confirmBy ≤ max s.now t → 
    ∃ u, exec (.authConfirmTimeout sess t) s = .next u ∧ u.session sess = none ∧ (∀ q ∈ u.tp.queues, q.2.session ≠ sess)) ∧
  (∀ (s : State) (sess t : Nat) (x : Session), s.on 5 = true → s.session sess = some x → x.leaseEnd ≤ max s.now t → 
    ∃ u, exec (.sessionLeaseExpiry sess t) s = .next u ∧ u.session sess = none ∧ (∀ q ∈ u.tp.queues, q.2.session ≠ sess)) ∧
  (∀ (s : State) (src : Endpoint) (datagram : Datagram) (t : Nat), s.atControlPort src datagram = true → s.unserved = false →
    headerBad datagram.bytes = true → 
    ∃ u, exec (.controlMessageReceive t src datagram) s = .next u ∧
      u.getF F.QUE_DROP.HDR = min (s.getF F.QUE_DROP.HDR + 1) (2 ^ F.QUE_DROP.HDR.width - 1) ∧ u.tp.sessions = s.tp.sessions ∧
      u.tp.accepted = s.tp.accepted) ∧
  (∀ (s : State) (src : Endpoint) (datagram : Datagram) (t : Nat), s.atControlPort src datagram = true → s.unserved = false →
    headerBad datagram.bytes = false → msgLe datagram.bytes 3 1 ≠ 0x21 → (s.at t).coresHeld = true →
    rxBytes s.tp.rxq + datagram.bytes.length ≤ 4194304 → 
    ∃ u, exec (.controlMessageReceive t src datagram) s = .next u ∧ u.tp.rxq = s.tp.rxq ++ [(src, datagram.bytes)] ∧
      u.tp.accepted = s.tp.accepted) ∧
  (∀ (s : State) (src : Endpoint) (i gen seq t p : Nat) (x : Session), s.atControlPort src ⟨p, (headerBytes 0x12 i 24 gen seq 0x21 0 0 0)⟩
    = true → s.unserved = false → (s.at t).coresHeld = false → s.ctlRoom = true → s.tp.rxq = [] → s.noAcks = false → i < 4096 →
    gen < 2 ^ 32 → seq < 2 ^ 32 → s.session i = some x → x.gen = gen → x.nextSeq = seq → x.slot = none → 
    ∃ u, exec (.controlMessageReceive t src ⟨p, (headerBytes 0x12 i 24 gen seq 0x21 0 0 0)⟩) s = .next u ∧
      u.tp.accepted = s.tp.accepted ++ [⟨i, seq, 0x21, src, []⟩] ∧ (u.session i).map (fun y => y.nextSeq) = some (seq + 1))

/-- Commits, soft resets, doubt (R34, R40, R41, R43, R62 to R65). In a state without frames an armed commit with MODE NEXT applies: nothing
is pending or armed any more, the epoch advances, and the status says so. A soft reset that completes clears SRST and BUSY and advances
the epoch. A cause of doubt leads to `SAFE` from every state short of it, and is one more cause of the stay in it. -/
def Obligations.CommitsAndDoubt : Prop :=
  (∀ (s : State) (t : Nat) (a : Armed), s.sys.armed = some a → a.atFrame = false → s.frames = false → 
    ∃ u, exec (.commitApply t) s = .next u ∧ u.sys.armed = none ∧ u.shadow = [] ∧ u.epoch = nextEpoch s.epoch ∧
      u.getF F.SYS_COMMIT_STAT.STATUS = 3 ∧ u.getF F.SYS_COMMIT_AT.FRAME = s.frameNo) ∧
  (∀ (s : State) (page : Fin 28) (t : Nat), s.pageOn page.val = true → s.sys.resetting.contains page.val = true → 
    ∃ u, exec (.softResetComplete page t) s = .next u ∧ u.sys.resetting.contains page.val = false ∧ u.getF (H.SRST page.val) = 0 ∧
      u.getF (H.BUSY page.val) = 0 ∧ u.epoch = nextEpoch s.epoch) ∧
  (∀ (s : State) (cause t : Nat), (s.dev = .boot ∨ s.dev = .standby ∨ s.dev = .spinup ∨ s.dev = .run ∨ s.dev = .degraded) →
    (s.dev = .boot → (s.at t).sameCycle = false) → safeCause cause = true → 
    ∃ u, exec (.safeEntry cause t) s = .next u ∧ u.dev = .safe ∧ u.getF F.SYS_STATE.CAUSE = cause ∧ (entryCause cause = false →
      u.sys.stay.contains cause = true) ∧ u.dark = true) ∧
  (∀ (s : State) (cause t : Nat), s.dev = .safe → safeCause cause = true → entryCause cause = false → 
    ∃ u, exec (.safeEntry cause t) s = .next u ∧ u.dev = .safe ∧ u.getF F.SYS_STATE.CAUSE = s.getF F.SYS_STATE.CAUSE ∧
      u.sys.stay.contains cause = true ∧ (∀ c ∈ s.sys.stay, u.sys.stay.contains c = true))

/-! ## Access to the register space (chapter 02) -/

/-- R24: a READ or WRITE that carries an unaligned address is answered with `ADDR_ERROR` (status 1), without data, and none of its accesses
is performed. -/
def Obligations.UnalignedIsRefused : Prop :=
  (∀ (s : State) (sess seq : Nat) (x : Session) (addr count : Nat), s.Settled → s.noCommands = false → s.unserved = false →
    s.session sess = some x → s.waiting.all (fun a => a.isRow sess 0x01 (leBytes 4 addr ++ leBytes 2 count ++ leBytes 2 0)) = true →
    (s.waiting.map (fun a => a.seq)).getD x.nextSeq = seq → seq < 2 ^ 32 → s.tp.withheld = [] → s.uncopied < 2048 → addr < 2 ^ 24 →
    1 ≤ count → count ≤ 1024 → addr % 4 ≠ 0 → 
    ∃ u e, exec (.read sess addr count) s = .next u ∧ u.tp.banks.head? = some e ∧ e.seq = seq ∧ e.status = 1 ∧
      x.answer ((s.waiting.map (fun a => a.src)).getD x.peer) sess seq 0x01 1 0 s.epoch [] ∈ u.tp.out ∧ u.regs = s.regs ∧ u.ram = s.ram ∧
      u.shadow = s.shadow) ∧
  (∀ (s : State) (sess seq : Nat) (x : Session) (addr : Nat) (words : List Word), s.Settled → s.noCommands = false → s.unserved = false →
    s.session sess = some x →
    s.waiting.all (fun a => a.isRow sess 0x02 (leBytes 4 addr ++ leBytes 2 words.length ++ leBytes 2 0 ++ (words.map (fun w => leBytes 4
    w.toNat)).flatten)) = true → (s.waiting.map (fun a => a.seq)).getD x.nextSeq = seq → seq < 2 ^ 32 → s.tp.withheld = [] →
    s.uncopied < 2048 → addr < 2 ^ 24 → 1 ≤ words.length → words.length ≤ 1024 → addr % 4 ≠ 0 → 
    ∃ u e, exec (.write sess addr words) s = .next u ∧ u.tp.banks.head? = some e ∧ e.seq = seq ∧ e.status = 1 ∧
      x.answer ((s.waiting.map (fun a => a.src)).getD x.peer) sess seq 0x02 1 0 s.epoch [] ∈ u.tp.out ∧ u.regs = s.regs ∧ u.ram = s.ram ∧
      u.shadow = s.shadow)

/-- R11: a READ that meets a page whose domain is off, its words aligned and mapped, and a WRITE that begins with one, are answered with
`DOMAIN_OFF` (status 8), without data, and no access is performed. -/
def Obligations.DomainOffIsRefused : Prop :=
  (∀ (s : State) (sess seq : Nat) (x : Session) (addr count a p : Nat), s.Settled → s.noCommands = false → s.unserved = false →
    s.session sess = some x → s.waiting.all (fun a => a.isRow sess 0x01 (leBytes 4 addr ++ leBytes 2 count ++ leBytes 2 0)) = true →
    (s.waiting.map (fun a => a.seq)).getD x.nextSeq = seq → seq < 2 ^ 32 → s.tp.withheld = [] → s.uncopied < 2048 → addr < 2 ^ 24 →
    1 ≤ count → count ≤ 1024 → (∀ b ∈ wordAddrs addr count, b % 4 = 0 ∧ (pageOf b).isSome = true) → a ∈ wordAddrs addr count →
    pageOf a = some p → s.pageOn p = false → 
    ∃ u e, exec (.read sess addr count) s = .next u ∧ u.tp.banks.head? = some e ∧ e.seq = seq ∧ e.status = 8 ∧
      x.answer ((s.waiting.map (fun a => a.src)).getD x.peer) sess seq 0x01 8 0 s.epoch [] ∈ u.tp.out ∧ u.regs = s.regs ∧ u.ram = s.ram ∧
      u.shadow = s.shadow) ∧
  (∀ (s : State) (sess seq : Nat) (x : Session) (addr p : Nat) (words : List Word), s.Settled → s.noCommands = false → s.unserved = false →
    s.session sess = some x →
    s.waiting.all (fun a => a.isRow sess 0x02 (leBytes 4 addr ++ leBytes 2 words.length ++ leBytes 2 0 ++ (words.map (fun w => leBytes 4
    w.toNat)).flatten)) = true → (s.waiting.map (fun a => a.seq)).getD x.nextSeq = seq → seq < 2 ^ 32 → s.tp.withheld = [] →
    s.uncopied < 2048 → addr < 2 ^ 24 → 1 ≤ words.length → words.length ≤ 1024 → addr % 4 = 0 → pageOf addr = some p → s.pageOn p = false → 
    ∃ u e, exec (.write sess addr words) s = .next u ∧ u.tp.banks.head? = some e ∧ e.seq = seq ∧ e.status = 8 ∧
      x.answer ((s.waiting.map (fun a => a.src)).getD x.peer) sess seq 0x02 8 0 s.epoch [] ∈ u.tp.out ∧ u.regs = s.regs ∧ u.ram = s.ram ∧
      u.shadow = s.shadow)
end

