-- ==== Sys2Proof/Laws/Cells.lean ====
section
/-! SUPPORT. Sparse stores and tables: a read after a write, the canonical form, and the arithmetic of fields. -/

namespace Sys2Proof.Machine

variable {β : Type}

/-! ## Tables -/

@[simp] theorem tabFind_nil (k : Nat) : tabFind (β := β) k [] = none := rfl

theorem tabFind_cons (k j : Nat) (v : β) (t : List (Nat × β)) : tabFind k ((j, v) :: t) = if j = k then some v else tabFind k t := rfl

@[simp] theorem tabFind_tabSet_self (k : Nat) (v : β) (l : List (Nat × β)) : tabFind k (tabSet k v l) = some v := by
  induction l with
  | nil => simp [tabSet, tabFind]
  | cons e t ih =>
    obtain ⟨j, w⟩ := e
    simp only [tabSet]
    split
    · rename_i h
      simp [tabFind, Nat.ne_of_lt h, ih]
    · split <;> simp [tabFind]

theorem tabFind_tabSet_other {k a : Nat} (v : β) (l : List (Nat × β)) (h : a ≠ k) : tabFind a (tabSet k v l) = tabFind a l := by
  induction l with
  | nil => simp [tabSet, tabFind, Ne.symm h]
  | cons e t ih =>
    obtain ⟨j, w⟩ := e
    simp only [tabSet]
    split
    · simp [tabFind, ih]
    · split
      · rename_i _ hj
        subst hj
        simp [tabFind, Ne.symm h]
      · simp [tabFind, Ne.symm h]

theorem tabDel_cons (k j : Nat) (v : β) (t : List (Nat × β)) : tabDel k ((j, v) :: t) = if j = k then tabDel k t else (j, v) :: tabDel k t := by
  by_cases h : j = k <;> simp [tabDel, h]

@[simp] theorem tabFind_tabDel_self (k : Nat) (l : List (Nat × β)) : tabFind k (tabDel k l) = none := by
  induction l with
  | nil => rfl
  | cons e t ih =>
    rw [tabDel_cons]
    split
    · exact ih
    · rename_i h
      rw [tabFind_cons, if_neg h, ih]

theorem tabFind_tabDel_other {k a : Nat} (l : List (Nat × β)) (h : a ≠ k) : tabFind a (tabDel k l) = tabFind a l := by
  induction l with
  | nil => rfl
  | cons e t ih =>
    rw [tabDel_cons]
    split
    · rename_i hj
      rw [ih, tabFind_cons, if_neg (fun h' => h (h'.symm.trans hj))]
    · rw [tabFind_cons, ih, tabFind_cons]

/-! ## Stores -/

@[simp] theorem cellGet_cellPut_self [DecidableEq β] (d : β) (a : Nat) (v : β) (l : List (Nat × β)) : cellGet d a (cellPut d a v l) = v := by
  unfold cellGet cellPut
  split
  · rename_i h
    simp [h]
  · simp

theorem cellGet_cellPut_other [DecidableEq β] (d d' : β) {a b : Nat} (v : β) (l : List (Nat × β)) (h : b ≠ a) :
    cellGet d' b (cellPut d a v l) = cellGet d' b l := by
  unfold cellGet cellPut
  split
  · rw [tabFind_tabDel_other _ h]
  · rw [tabFind_tabSet_other _ _ h]

theorem cellsWf_mono [DecidableEq β] (d : Nat → β) {lo hi : Nat} (l : List (Nat × β)) (h : lo ≤ hi) (w : cellsWf d hi l = true) :
    cellsWf d lo l = true := by
  cases l with
  | nil => rfl
  | cons e t =>
    obtain ⟨a, v⟩ := e
    simp only [cellsWf, Bool.and_eq_true, decide_eq_true_eq] at w ⊢
    exact ⟨⟨by omega, w.1.2⟩, w.2⟩

/-- Dropping entries keeps the canonical form. -/
theorem cellsWf_filter [DecidableEq β] (d : Nat → β) (p : Nat × β → Bool) (l : List (Nat × β)) :
    ∀ lo, cellsWf d lo l = true → cellsWf d lo (l.filter p) = true := by
  induction l with
  | nil => intro lo _; rfl
  | cons e t ih =>
    intro lo w
    obtain ⟨a, v⟩ := e
    simp only [cellsWf, Bool.and_eq_true, decide_eq_true_eq] at w
    by_cases h : p (a, v)
    · simp only [List.filter_cons, h, if_true, cellsWf, Bool.and_eq_true, decide_eq_true_eq]
      exact ⟨w.1, ih _ w.2⟩
    · simp only [List.filter_cons, h, Bool.false_eq_true, if_false]
      exact cellsWf_mono d _ (by omega) (ih _ w.2)

theorem cellsWf_tabSet [DecidableEq β] (d : Nat → β) (a : Nat) (v : β) (hv : v ≠ d a) (l : List (Nat × β)) :
    ∀ lo, lo ≤ a → cellsWf d lo l = true → cellsWf d lo (tabSet a v l) = true := by
  induction l with
  | nil =>
    intro lo h _
    simp [tabSet, cellsWf, h, hv]
  | cons e t ih =>
    intro lo h w
    obtain ⟨b, u⟩ := e
    simp only [cellsWf, Bool.and_eq_true, decide_eq_true_eq] at w
    simp only [tabSet]
    split
    · rename_i hb
      simp only [cellsWf, Bool.and_eq_true, decide_eq_true_eq]
      exact ⟨w.1, ih _ (by omega) w.2⟩
    · split
      · rename_i hb hab
        subst hab
        simp only [cellsWf, Bool.and_eq_true, decide_eq_true_eq]
        exact ⟨⟨h, hv⟩, w.2⟩
      · simp only [cellsWf, Bool.and_eq_true, decide_eq_true_eq]
        exact ⟨⟨h, hv⟩, ⟨by omega, w.1.2⟩, w.2⟩

/-- A write keeps the canonical form of a store. -/
theorem cellsWf_cellPut [DecidableEq β] (d : Nat → β) (a : Nat) (v : β) (l : List (Nat × β)) (w : cellsWf d 0 l = true) :
    cellsWf d 0 (cellPut (d a) a v l) = true := by
  unfold cellPut
  split
  · exact cellsWf_filter d _ _ _ w
  · rename_i h
    exact cellsWf_tabSet d a v h _ _ (Nat.zero_le _) w

/-! ## Fields of a word -/

theorem fieldOf_lt (lsb width w : Nat) : fieldOf lsb width w < 2 ^ width := Nat.mod_lt _ (Nat.two_pow_pos _)

theorem withField_split (lsb width w v : Nat) :
    withField lsb width w v = w / 2 ^ (lsb + width) * 2 ^ (lsb + width) + (v % 2 ^ width) * 2 ^ lsb + w % 2 ^ lsb := by
  unfold withField fieldOf
  have h1 : w = w / 2 ^ lsb * 2 ^ lsb + w % 2 ^ lsb := (Nat.div_add_mod' w (2 ^ lsb)).symm
  have h2 : w / 2 ^ lsb = w / 2 ^ lsb / 2 ^ width * 2 ^ width + w / 2 ^ lsb % 2 ^ width := (Nat.div_add_mod' _ (2 ^ width)).symm
  have h3 : w / 2 ^ lsb / 2 ^ width = w / 2 ^ (lsb + width) := by rw [Nat.div_div_eq_div_mul, pow_add]
  have h4 : w / 2 ^ lsb * 2 ^ lsb = w / 2 ^ (lsb + width) * 2 ^ (lsb + width) + w / 2 ^ lsb % 2 ^ width * 2 ^ lsb := by
    conv_lhs => rw [h2, h3]
    rw [pow_add]; ring
  omega

/-- The field just set reads as what was put there. -/
theorem fieldOf_withField_self (lsb width w v : Nat) : fieldOf lsb width (withField lsb width w v) = v % 2 ^ width := by
  rw [withField_split]
  unfold fieldOf
  have hl : w % 2 ^ lsb < 2 ^ lsb := Nat.mod_lt _ (Nat.two_pow_pos _)
  have : (w / 2 ^ (lsb + width) * 2 ^ (lsb + width) + v % 2 ^ width * 2 ^ lsb + w % 2 ^ lsb) / 2 ^ lsb
      = w / 2 ^ (lsb + width) * 2 ^ width + v % 2 ^ width := by
    rw [show w / 2 ^ (lsb + width) * 2 ^ (lsb + width) + v % 2 ^ width * 2 ^ lsb + w % 2 ^ lsb
        = w % 2 ^ lsb + 2 ^ lsb * (w / 2 ^ (lsb + width) * 2 ^ width + v % 2 ^ width) by rw [pow_add]; ring]
    rw [Nat.add_mul_div_left _ _ (Nat.two_pow_pos _), Nat.div_eq_of_lt hl, Nat.zero_add]
  rw [this, Nat.add_comm, Nat.add_mul_mod_self_right, Nat.mod_mod]

/-- A field below the one set keeps its value. -/
theorem fieldOf_withField_below {l1 w1 l2 w2 : Nat} (w v : Nat) (h : l1 + w1 ≤ l2) :
    fieldOf l1 w1 (withField l2 w2 w v) = fieldOf l1 w1 w := by
  rw [withField_split]
  unfold fieldOf
  obtain ⟨k, rfl⟩ := Nat.exists_eq_add_of_le h
  have key : ∀ x : Nat, x / 2 ^ l1 % 2 ^ w1 = x % 2 ^ (l1 + w1) / 2 ^ l1 := fun x => by
    rw [pow_add, Nat.mod_mul_right_div_self]
  rw [key, key w]
  congr 1
  have e : w / 2 ^ (l1 + w1 + k + w2) * 2 ^ (l1 + w1 + k + w2) + v % 2 ^ w2 * 2 ^ (l1 + w1 + k) + w % 2 ^ (l1 + w1 + k)
      = w % 2 ^ (l1 + w1 + k) + 2 ^ (l1 + w1) * (w / 2 ^ (l1 + w1 + k + w2) * 2 ^ (k + w2) + v % 2 ^ w2 * 2 ^ k) := by
    rw [show l1 + w1 + k + w2 = (l1 + w1) + (k + w2) by omega, pow_add 2 (l1 + w1) (k + w2), pow_add 2 (l1 + w1) k]; ring
  rw [e, Nat.add_mul_mod_self_left]
  exact Nat.mod_mod_of_dvd _ (pow_dvd_pow 2 (by omega))

/-- A field above the one set keeps its value. -/
theorem fieldOf_withField_above {l1 w1 l2 w2 : Nat} (w v : Nat) (h : l2 + w2 ≤ l1) :
    fieldOf l1 w1 (withField l2 w2 w v) = fieldOf l1 w1 w := by
  rw [withField_split]
  unfold fieldOf
  obtain ⟨k, rfl⟩ := Nat.exists_eq_add_of_le h
  congr 1
  have hv : v % 2 ^ w2 * 2 ^ l2 + w % 2 ^ l2 < 2 ^ (l2 + w2) := by
    have a : v % 2 ^ w2 + 1 ≤ 2 ^ w2 := Nat.mod_lt _ (Nat.two_pow_pos _)
    have b : w % 2 ^ l2 < 2 ^ l2 := Nat.mod_lt _ (Nat.two_pow_pos _)
    have c : (v % 2 ^ w2 + 1) * 2 ^ l2 ≤ 2 ^ w2 * 2 ^ l2 := Nat.mul_le_mul_right _ a
    rw [pow_add, Nat.mul_comm (2 ^ l2)]
    linarith [Nat.succ_mul (v % 2 ^ w2) (2 ^ l2)]
  have d : ∀ x : Nat, x / 2 ^ (l2 + w2 + k) = x / 2 ^ (l2 + w2) / 2 ^ k := fun x => by rw [Nat.div_div_eq_div_mul, pow_add 2 (l2 + w2)]
  rw [d, d w]
  congr 1
  rw [Nat.add_assoc, Nat.mul_comm (w / 2 ^ (l2 + w2)), Nat.mul_add_div (Nat.two_pow_pos _), Nat.div_eq_of_lt hv, Nat.add_zero]

/-- A field set in a word of 32 bits leaves a word of 32 bits. -/
theorem withField_lt {lsb width w : Nat} (v : Nat) (hw : w < 2 ^ 32) (h : lsb + width ≤ 32) : withField lsb width w v < 2 ^ 32 := by
  rw [withField_split]
  obtain ⟨k, hk⟩ := Nat.exists_eq_add_of_le h
  have a : v % 2 ^ width + 1 ≤ 2 ^ width := Nat.mod_lt _ (Nat.two_pow_pos _)
  have b : w % 2 ^ lsb < 2 ^ lsb := Nat.mod_lt _ (Nat.two_pow_pos _)
  have c : (v % 2 ^ width + 1) * 2 ^ lsb ≤ 2 ^ width * 2 ^ lsb := Nat.mul_le_mul_right _ a
  have d : w / 2 ^ (lsb + width) < 2 ^ k := by
    rw [Nat.div_lt_iff_lt_mul (Nat.two_pow_pos _), ← pow_add, Nat.add_comm k, ← hk]; exact hw
  have e : (w / 2 ^ (lsb + width) + 1) * 2 ^ (lsb + width) ≤ 2 ^ k * 2 ^ (lsb + width) := Nat.mul_le_mul_right _ d
  have f : 2 ^ k * 2 ^ (lsb + width) = 2 ^ 32 := by rw [← pow_add, Nat.add_comm k, ← hk]
  have g : 2 ^ width * 2 ^ lsb = 2 ^ (lsb + width) := by rw [← pow_add, Nat.add_comm]
  linarith [Nat.succ_mul (v % 2 ^ width) (2 ^ lsb), Nat.succ_mul (w / 2 ^ (lsb + width)) (2 ^ (lsb + width))]

end Sys2Proof.Machine
end

