-- ==== Sys2Proof/Laws/State.lean ====
section
/-! SUPPORT. What each update of the state leaves, field by field. -/

namespace Sys2Proof.Machine

namespace State

variable (s : State)

/-! ## One spelling for fields of registers -/

@[simp] theorem setB_eq (f : Field) (b : Bool) : s.setB f b = s.setF f (if b then 1 else 0) := rfl
@[simp] theorem setSat_eq (f : Field) (v : Nat) : s.setSat f v = s.setF f (min v (2 ^ f.width - 1)) := rfl
@[simp] theorem bump_eq (f : Field) (n : Nat) : s.bump f n = s.setF f (min (s.getF f + n) (2 ^ f.width - 1)) := rfl
@[simp] theorem flag_eq (f : Field) : s.flag f = (s.getF f != 0) := rfl
@[simp] theorem bitF_eq (f : Field) (i : Nat) : s.bitF f i = (s.getF f).testBit i := rfl


/-! ## `poke` -/

section
variable (a : Nat) (w : Word)

@[simp] theorem poke_pending : (s.poke a w).pending = s.pending := rfl
@[simp] theorem poke_now : (s.poke a w).now = s.now := rfl
@[simp] theorem poke_free : (s.poke a w).free = s.free := rfl
@[simp] theorem poke_shadow : (s.poke a w).shadow = s.shadow := rfl
@[simp] theorem poke_ram : (s.poke a w).ram = s.ram := rfl
@[simp] theorem poke_frozen : (s.poke a w).frozen = s.frozen := rfl
@[simp] theorem poke_sys : (s.poke a w).sys = s.sys := rfl
@[simp] theorem poke_tp : (s.poke a w).tp = s.tp := rfl
@[simp] theorem poke_mem : (s.poke a w).mem = s.mem := rfl
@[simp] theorem poke_rst : (s.poke a w).rst = s.rst := rfl
@[simp] theorem poke_pwr : (s.poke a w).pwr = s.pwr := rfl
@[simp] theorem poke_thm : (s.poke a w).thm = s.thm := rfl
@[simp] theorem poke_time : (s.poke a w).time = s.time := rfl
@[simp] theorem poke_sch : (s.poke a w).sch = s.sch := rfl
@[simp] theorem poke_ste : (s.poke a w).ste = s.ste := rfl
@[simp] theorem poke_emt : (s.poke a w).emt = s.emt := rfl
@[simp] theorem poke_etd : (s.poke a w).etd = s.etd := rfl
@[simp] theorem poke_rxc : (s.poke a w).rxc = s.rxc := rfl
@[simp] theorem poke_grn : (s.poke a w).grn = s.grn := rfl
@[simp] theorem poke_crm : (s.poke a w).crm = s.crm := rfl
@[simp] theorem poke_saf : (s.poke a w).saf = s.saf := rfl
@[simp] theorem poke_net : (s.poke a w).net = s.net := rfl
@[simp] theorem poke_cal : (s.poke a w).cal = s.cal := rfl
@[simp] theorem poke_hka : (s.poke a w).hka = s.hka := rfl
@[simp] theorem poke_exc : (s.poke a w).exc = s.exc := rfl
@[simp] theorem poke_rcd : (s.poke a w).rcd = s.rcd := rfl
@[simp] theorem poke_pins : (s.poke a w).pins = s.pins := rfl
@[simp] theorem poke_on (d : Nat) : (s.poke a w).on d = s.on d := rfl
@[simp] theorem poke_regs : (s.poke a w).regs = cellPut (resetWord a) a w s.regs := rfl

end

/-! ## `setF` -/

section
variable (f : Field) (v : Nat)

@[simp] theorem setF_pending : (s.setF f v).pending = s.pending := rfl
@[simp] theorem setF_now : (s.setF f v).now = s.now := rfl
@[simp] theorem setF_free : (s.setF f v).free = s.free := rfl
@[simp] theorem setF_shadow : (s.setF f v).shadow = s.shadow := rfl
@[simp] theorem setF_ram : (s.setF f v).ram = s.ram := rfl
@[simp] theorem setF_frozen : (s.setF f v).frozen = s.frozen := rfl
@[simp] theorem setF_sys : (s.setF f v).sys = s.sys := rfl
@[simp] theorem setF_tp : (s.setF f v).tp = s.tp := rfl
@[simp] theorem setF_mem : (s.setF f v).mem = s.mem := rfl
@[simp] theorem setF_rst : (s.setF f v).rst = s.rst := rfl
@[simp] theorem setF_pwr : (s.setF f v).pwr = s.pwr := rfl
@[simp] theorem setF_thm : (s.setF f v).thm = s.thm := rfl
@[simp] theorem setF_time : (s.setF f v).time = s.time := rfl
@[simp] theorem setF_sch : (s.setF f v).sch = s.sch := rfl
@[simp] theorem setF_ste : (s.setF f v).ste = s.ste := rfl
@[simp] theorem setF_emt : (s.setF f v).emt = s.emt := rfl
@[simp] theorem setF_etd : (s.setF f v).etd = s.etd := rfl
@[simp] theorem setF_rxc : (s.setF f v).rxc = s.rxc := rfl
@[simp] theorem setF_grn : (s.setF f v).grn = s.grn := rfl
@[simp] theorem setF_crm : (s.setF f v).crm = s.crm := rfl
@[simp] theorem setF_saf : (s.setF f v).saf = s.saf := rfl
@[simp] theorem setF_net : (s.setF f v).net = s.net := rfl
@[simp] theorem setF_cal : (s.setF f v).cal = s.cal := rfl
@[simp] theorem setF_hka : (s.setF f v).hka = s.hka := rfl
@[simp] theorem setF_exc : (s.setF f v).exc = s.exc := rfl
@[simp] theorem setF_rcd : (s.setF f v).rcd = s.rcd := rfl
@[simp] theorem setF_pins : (s.setF f v).pins = s.pins := rfl
@[simp] theorem setF_on (d : Nat) : (s.setF f v).on d = s.on d := rfl

end

/-! ## `setI` -/

section
variable (f : Field) (v : Int)

@[simp] theorem setI_pending : (s.setI f v).pending = s.pending := rfl
@[simp] theorem setI_now : (s.setI f v).now = s.now := rfl
@[simp] theorem setI_free : (s.setI f v).free = s.free := rfl
@[simp] theorem setI_shadow : (s.setI f v).shadow = s.shadow := rfl
@[simp] theorem setI_ram : (s.setI f v).ram = s.ram := rfl
@[simp] theorem setI_frozen : (s.setI f v).frozen = s.frozen := rfl
@[simp] theorem setI_sys : (s.setI f v).sys = s.sys := rfl
@[simp] theorem setI_tp : (s.setI f v).tp = s.tp := rfl
@[simp] theorem setI_mem : (s.setI f v).mem = s.mem := rfl
@[simp] theorem setI_rst : (s.setI f v).rst = s.rst := rfl
@[simp] theorem setI_pwr : (s.setI f v).pwr = s.pwr := rfl
@[simp] theorem setI_thm : (s.setI f v).thm = s.thm := rfl
@[simp] theorem setI_time : (s.setI f v).time = s.time := rfl
@[simp] theorem setI_sch : (s.setI f v).sch = s.sch := rfl
@[simp] theorem setI_ste : (s.setI f v).ste = s.ste := rfl
@[simp] theorem setI_emt : (s.setI f v).emt = s.emt := rfl
@[simp] theorem setI_etd : (s.setI f v).etd = s.etd := rfl
@[simp] theorem setI_rxc : (s.setI f v).rxc = s.rxc := rfl
@[simp] theorem setI_grn : (s.setI f v).grn = s.grn := rfl
@[simp] theorem setI_crm : (s.setI f v).crm = s.crm := rfl
@[simp] theorem setI_saf : (s.setI f v).saf = s.saf := rfl
@[simp] theorem setI_net : (s.setI f v).net = s.net := rfl
@[simp] theorem setI_cal : (s.setI f v).cal = s.cal := rfl
@[simp] theorem setI_hka : (s.setI f v).hka = s.hka := rfl
@[simp] theorem setI_exc : (s.setI f v).exc = s.exc := rfl
@[simp] theorem setI_rcd : (s.setI f v).rcd = s.rcd := rfl
@[simp] theorem setI_pins : (s.setI f v).pins = s.pins := rfl
@[simp] theorem setI_on (d : Nat) : (s.setI f v).on d = s.on d := rfl

end

/-! ## `setBit` -/

section
variable (f : Field) (i : Nat) (b : Bool)

@[simp] theorem setBit_pending : (s.setBit f i b).pending = s.pending := rfl
@[simp] theorem setBit_now : (s.setBit f i b).now = s.now := rfl
@[simp] theorem setBit_free : (s.setBit f i b).free = s.free := rfl
@[simp] theorem setBit_shadow : (s.setBit f i b).shadow = s.shadow := rfl
@[simp] theorem setBit_ram : (s.setBit f i b).ram = s.ram := rfl
@[simp] theorem setBit_frozen : (s.setBit f i b).frozen = s.frozen := rfl
@[simp] theorem setBit_sys : (s.setBit f i b).sys = s.sys := rfl
@[simp] theorem setBit_tp : (s.setBit f i b).tp = s.tp := rfl
@[simp] theorem setBit_mem : (s.setBit f i b).mem = s.mem := rfl
@[simp] theorem setBit_rst : (s.setBit f i b).rst = s.rst := rfl
@[simp] theorem setBit_pwr : (s.setBit f i b).pwr = s.pwr := rfl
@[simp] theorem setBit_thm : (s.setBit f i b).thm = s.thm := rfl
@[simp] theorem setBit_time : (s.setBit f i b).time = s.time := rfl
@[simp] theorem setBit_sch : (s.setBit f i b).sch = s.sch := rfl
@[simp] theorem setBit_ste : (s.setBit f i b).ste = s.ste := rfl
@[simp] theorem setBit_emt : (s.setBit f i b).emt = s.emt := rfl
@[simp] theorem setBit_etd : (s.setBit f i b).etd = s.etd := rfl
@[simp] theorem setBit_rxc : (s.setBit f i b).rxc = s.rxc := rfl
@[simp] theorem setBit_grn : (s.setBit f i b).grn = s.grn := rfl
@[simp] theorem setBit_crm : (s.setBit f i b).crm = s.crm := rfl
@[simp] theorem setBit_saf : (s.setBit f i b).saf = s.saf := rfl
@[simp] theorem setBit_net : (s.setBit f i b).net = s.net := rfl
@[simp] theorem setBit_cal : (s.setBit f i b).cal = s.cal := rfl
@[simp] theorem setBit_hka : (s.setBit f i b).hka = s.hka := rfl
@[simp] theorem setBit_exc : (s.setBit f i b).exc = s.exc := rfl
@[simp] theorem setBit_rcd : (s.setBit f i b).rcd = s.rcd := rfl
@[simp] theorem setBit_pins : (s.setBit f i b).pins = s.pins := rfl
@[simp] theorem setBit_on (d : Nat) : (s.setBit f i b).on d = s.on d := rfl

end

/-! ## `ramPut` -/

section
variable (a : Nat) (w : Word)

@[simp] theorem ramPut_pending : (s.ramPut a w).pending = s.pending := rfl
@[simp] theorem ramPut_now : (s.ramPut a w).now = s.now := rfl
@[simp] theorem ramPut_free : (s.ramPut a w).free = s.free := rfl
@[simp] theorem ramPut_regs : (s.ramPut a w).regs = s.regs := rfl
@[simp] theorem ramPut_shadow : (s.ramPut a w).shadow = s.shadow := rfl
@[simp] theorem ramPut_frozen : (s.ramPut a w).frozen = s.frozen := rfl
@[simp] theorem ramPut_sys : (s.ramPut a w).sys = s.sys := rfl
@[simp] theorem ramPut_tp : (s.ramPut a w).tp = s.tp := rfl
@[simp] theorem ramPut_mem : (s.ramPut a w).mem = s.mem := rfl
@[simp] theorem ramPut_rst : (s.ramPut a w).rst = s.rst := rfl
@[simp] theorem ramPut_pwr : (s.ramPut a w).pwr = s.pwr := rfl
@[simp] theorem ramPut_thm : (s.ramPut a w).thm = s.thm := rfl
@[simp] theorem ramPut_time : (s.ramPut a w).time = s.time := rfl
@[simp] theorem ramPut_sch : (s.ramPut a w).sch = s.sch := rfl
@[simp] theorem ramPut_ste : (s.ramPut a w).ste = s.ste := rfl
@[simp] theorem ramPut_emt : (s.ramPut a w).emt = s.emt := rfl
@[simp] theorem ramPut_etd : (s.ramPut a w).etd = s.etd := rfl
@[simp] theorem ramPut_rxc : (s.ramPut a w).rxc = s.rxc := rfl
@[simp] theorem ramPut_grn : (s.ramPut a w).grn = s.grn := rfl
@[simp] theorem ramPut_crm : (s.ramPut a w).crm = s.crm := rfl
@[simp] theorem ramPut_saf : (s.ramPut a w).saf = s.saf := rfl
@[simp] theorem ramPut_net : (s.ramPut a w).net = s.net := rfl
@[simp] theorem ramPut_cal : (s.ramPut a w).cal = s.cal := rfl
@[simp] theorem ramPut_hka : (s.ramPut a w).hka = s.hka := rfl
@[simp] theorem ramPut_exc : (s.ramPut a w).exc = s.exc := rfl
@[simp] theorem ramPut_rcd : (s.ramPut a w).rcd = s.rcd := rfl
@[simp] theorem ramPut_pins : (s.ramPut a w).pins = s.pins := rfl
@[simp] theorem ramPut_peek (b : Nat) : (s.ramPut a w).peek b = s.peek b := rfl
@[simp] theorem ramPut_getF (g : Field) : (s.ramPut a w).getF g = s.getF g := rfl
@[simp] theorem ramPut_on (d : Nat) : (s.ramPut a w).on d = s.on d := rfl
@[simp] theorem ramPut_ram : (s.ramPut a w).ram = cellPut 0 a w s.ram := rfl

end

/-! ## `tick` -/

section

@[simp] theorem tick_pending : (s.tick).pending = s.pending := rfl
@[simp] theorem tick_now : (s.tick).now = s.now := rfl
@[simp] theorem tick_regs : (s.tick).regs = s.regs := rfl
@[simp] theorem tick_shadow : (s.tick).shadow = s.shadow := rfl
@[simp] theorem tick_ram : (s.tick).ram = s.ram := rfl
@[simp] theorem tick_frozen : (s.tick).frozen = s.frozen := rfl
@[simp] theorem tick_sys : (s.tick).sys = s.sys := rfl
@[simp] theorem tick_tp : (s.tick).tp = s.tp := rfl
@[simp] theorem tick_mem : (s.tick).mem = s.mem := rfl
@[simp] theorem tick_rst : (s.tick).rst = s.rst := rfl
@[simp] theorem tick_pwr : (s.tick).pwr = s.pwr := rfl
@[simp] theorem tick_thm : (s.tick).thm = s.thm := rfl
@[simp] theorem tick_time : (s.tick).time = s.time := rfl
@[simp] theorem tick_sch : (s.tick).sch = s.sch := rfl
@[simp] theorem tick_ste : (s.tick).ste = s.ste := rfl
@[simp] theorem tick_emt : (s.tick).emt = s.emt := rfl
@[simp] theorem tick_etd : (s.tick).etd = s.etd := rfl
@[simp] theorem tick_rxc : (s.tick).rxc = s.rxc := rfl
@[simp] theorem tick_grn : (s.tick).grn = s.grn := rfl
@[simp] theorem tick_crm : (s.tick).crm = s.crm := rfl
@[simp] theorem tick_saf : (s.tick).saf = s.saf := rfl
@[simp] theorem tick_net : (s.tick).net = s.net := rfl
@[simp] theorem tick_cal : (s.tick).cal = s.cal := rfl
@[simp] theorem tick_hka : (s.tick).hka = s.hka := rfl
@[simp] theorem tick_exc : (s.tick).exc = s.exc := rfl
@[simp] theorem tick_rcd : (s.tick).rcd = s.rcd := rfl
@[simp] theorem tick_pins : (s.tick).pins = s.pins := rfl
@[simp] theorem tick_peek (b : Nat) : (s.tick).peek b = s.peek b := rfl
@[simp] theorem tick_getF (g : Field) : (s.tick).getF g = s.getF g := rfl
@[simp] theorem tick_on (d : Nat) : (s.tick).on d = s.on d := rfl
@[simp] theorem tick_free : (s.tick).free = s.free + 1 := rfl

end

/-! ## `emit` -/

section
variable (o : Out)

@[simp] theorem emit_pending : (s.emit o).pending = s.pending := rfl
@[simp] theorem emit_now : (s.emit o).now = s.now := rfl
@[simp] theorem emit_free : (s.emit o).free = s.free := rfl
@[simp] theorem emit_regs : (s.emit o).regs = s.regs := rfl
@[simp] theorem emit_shadow : (s.emit o).shadow = s.shadow := rfl
@[simp] theorem emit_ram : (s.emit o).ram = s.ram := rfl
@[simp] theorem emit_frozen : (s.emit o).frozen = s.frozen := rfl
@[simp] theorem emit_sys : (s.emit o).sys = s.sys := rfl
@[simp] theorem emit_mem : (s.emit o).mem = s.mem := rfl
@[simp] theorem emit_rst : (s.emit o).rst = s.rst := rfl
@[simp] theorem emit_pwr : (s.emit o).pwr = s.pwr := rfl
@[simp] theorem emit_thm : (s.emit o).thm = s.thm := rfl
@[simp] theorem emit_time : (s.emit o).time = s.time := rfl
@[simp] theorem emit_sch : (s.emit o).sch = s.sch := rfl
@[simp] theorem emit_ste : (s.emit o).ste = s.ste := rfl
@[simp] theorem emit_emt : (s.emit o).emt = s.emt := rfl
@[simp] theorem emit_etd : (s.emit o).etd = s.etd := rfl
@[simp] theorem emit_rxc : (s.emit o).rxc = s.rxc := rfl
@[simp] theorem emit_grn : (s.emit o).grn = s.grn := rfl
@[simp] theorem emit_crm : (s.emit o).crm = s.crm := rfl
@[simp] theorem emit_saf : (s.emit o).saf = s.saf := rfl
@[simp] theorem emit_net : (s.emit o).net = s.net := rfl
@[simp] theorem emit_cal : (s.emit o).cal = s.cal := rfl
@[simp] theorem emit_hka : (s.emit o).hka = s.hka := rfl
@[simp] theorem emit_exc : (s.emit o).exc = s.exc := rfl
@[simp] theorem emit_rcd : (s.emit o).rcd = s.rcd := rfl
@[simp] theorem emit_pins : (s.emit o).pins = s.pins := rfl
@[simp] theorem emit_peek (b : Nat) : (s.emit o).peek b = s.peek b := rfl
@[simp] theorem emit_getF (g : Field) : (s.emit o).getF g = s.getF g := rfl
@[simp] theorem emit_on (d : Nat) : (s.emit o).on d = s.on d := rfl
@[simp] theorem emit_tp : (s.emit o).tp = { s.tp with out := o :: s.tp.out } := rfl

end

/-! ## `mapTp` -/

section
variable (f : TransportState → TransportState)

@[simp] theorem mapTp_pending : (s.mapTp f).pending = s.pending := rfl
@[simp] theorem mapTp_now : (s.mapTp f).now = s.now := rfl
@[simp] theorem mapTp_free : (s.mapTp f).free = s.free := rfl
@[simp] theorem mapTp_regs : (s.mapTp f).regs = s.regs := rfl
@[simp] theorem mapTp_shadow : (s.mapTp f).shadow = s.shadow := rfl
@[simp] theorem mapTp_ram : (s.mapTp f).ram = s.ram := rfl
@[simp] theorem mapTp_frozen : (s.mapTp f).frozen = s.frozen := rfl
@[simp] theorem mapTp_sys : (s.mapTp f).sys = s.sys := rfl
@[simp] theorem mapTp_mem : (s.mapTp f).mem = s.mem := rfl
@[simp] theorem mapTp_rst : (s.mapTp f).rst = s.rst := rfl
@[simp] theorem mapTp_pwr : (s.mapTp f).pwr = s.pwr := rfl
@[simp] theorem mapTp_thm : (s.mapTp f).thm = s.thm := rfl
@[simp] theorem mapTp_time : (s.mapTp f).time = s.time := rfl
@[simp] theorem mapTp_sch : (s.mapTp f).sch = s.sch := rfl
@[simp] theorem mapTp_ste : (s.mapTp f).ste = s.ste := rfl
@[simp] theorem mapTp_emt : (s.mapTp f).emt = s.emt := rfl
@[simp] theorem mapTp_etd : (s.mapTp f).etd = s.etd := rfl
@[simp] theorem mapTp_rxc : (s.mapTp f).rxc = s.rxc := rfl
@[simp] theorem mapTp_grn : (s.mapTp f).grn = s.grn := rfl
@[simp] theorem mapTp_crm : (s.mapTp f).crm = s.crm := rfl
@[simp] theorem mapTp_saf : (s.mapTp f).saf = s.saf := rfl
@[simp] theorem mapTp_net : (s.mapTp f).net = s.net := rfl
@[simp] theorem mapTp_cal : (s.mapTp f).cal = s.cal := rfl
@[simp] theorem mapTp_hka : (s.mapTp f).hka = s.hka := rfl
@[simp] theorem mapTp_exc : (s.mapTp f).exc = s.exc := rfl
@[simp] theorem mapTp_rcd : (s.mapTp f).rcd = s.rcd := rfl
@[simp] theorem mapTp_pins : (s.mapTp f).pins = s.pins := rfl
@[simp] theorem mapTp_peek (b : Nat) : (s.mapTp f).peek b = s.peek b := rfl
@[simp] theorem mapTp_getF (g : Field) : (s.mapTp f).getF g = s.getF g := rfl
@[simp] theorem mapTp_on (d : Nat) : (s.mapTp f).on d = s.on d := rfl
@[simp] theorem mapTp_tp : (s.mapTp f).tp = f s.tp := rfl

end

/-! ## `mapRst` -/

section
variable (f : RstState → RstState)

@[simp] theorem mapRst_pending : (s.mapRst f).pending = s.pending := rfl
@[simp] theorem mapRst_now : (s.mapRst f).now = s.now := rfl
@[simp] theorem mapRst_free : (s.mapRst f).free = s.free := rfl
@[simp] theorem mapRst_regs : (s.mapRst f).regs = s.regs := rfl
@[simp] theorem mapRst_shadow : (s.mapRst f).shadow = s.shadow := rfl
@[simp] theorem mapRst_ram : (s.mapRst f).ram = s.ram := rfl
@[simp] theorem mapRst_frozen : (s.mapRst f).frozen = s.frozen := rfl
@[simp] theorem mapRst_sys : (s.mapRst f).sys = s.sys := rfl
@[simp] theorem mapRst_tp : (s.mapRst f).tp = s.tp := rfl
@[simp] theorem mapRst_mem : (s.mapRst f).mem = s.mem := rfl
@[simp] theorem mapRst_pwr : (s.mapRst f).pwr = s.pwr := rfl
@[simp] theorem mapRst_thm : (s.mapRst f).thm = s.thm := rfl
@[simp] theorem mapRst_time : (s.mapRst f).time = s.time := rfl
@[simp] theorem mapRst_sch : (s.mapRst f).sch = s.sch := rfl
@[simp] theorem mapRst_ste : (s.mapRst f).ste = s.ste := rfl
@[simp] theorem mapRst_emt : (s.mapRst f).emt = s.emt := rfl
@[simp] theorem mapRst_etd : (s.mapRst f).etd = s.etd := rfl
@[simp] theorem mapRst_rxc : (s.mapRst f).rxc = s.rxc := rfl
@[simp] theorem mapRst_grn : (s.mapRst f).grn = s.grn := rfl
@[simp] theorem mapRst_crm : (s.mapRst f).crm = s.crm := rfl
@[simp] theorem mapRst_saf : (s.mapRst f).saf = s.saf := rfl
@[simp] theorem mapRst_net : (s.mapRst f).net = s.net := rfl
@[simp] theorem mapRst_cal : (s.mapRst f).cal = s.cal := rfl
@[simp] theorem mapRst_hka : (s.mapRst f).hka = s.hka := rfl
@[simp] theorem mapRst_exc : (s.mapRst f).exc = s.exc := rfl
@[simp] theorem mapRst_rcd : (s.mapRst f).rcd = s.rcd := rfl
@[simp] theorem mapRst_pins : (s.mapRst f).pins = s.pins := rfl
@[simp] theorem mapRst_peek (b : Nat) : (s.mapRst f).peek b = s.peek b := rfl
@[simp] theorem mapRst_getF (g : Field) : (s.mapRst f).getF g = s.getF g := rfl
@[simp] theorem mapRst_on (d : Nat) : (s.mapRst f).on d = s.on d := rfl
@[simp] theorem mapRst_rst : (s.mapRst f).rst = f s.rst := rfl

end

/-! ## `mapPwr` -/

section
variable (f : PowerState → PowerState)

@[simp] theorem mapPwr_pending : (s.mapPwr f).pending = s.pending := rfl
@[simp] theorem mapPwr_now : (s.mapPwr f).now = s.now := rfl
@[simp] theorem mapPwr_free : (s.mapPwr f).free = s.free := rfl
@[simp] theorem mapPwr_regs : (s.mapPwr f).regs = s.regs := rfl
@[simp] theorem mapPwr_shadow : (s.mapPwr f).shadow = s.shadow := rfl
@[simp] theorem mapPwr_ram : (s.mapPwr f).ram = s.ram := rfl
@[simp] theorem mapPwr_frozen : (s.mapPwr f).frozen = s.frozen := rfl
@[simp] theorem mapPwr_sys : (s.mapPwr f).sys = s.sys := rfl
@[simp] theorem mapPwr_tp : (s.mapPwr f).tp = s.tp := rfl
@[simp] theorem mapPwr_mem : (s.mapPwr f).mem = s.mem := rfl
@[simp] theorem mapPwr_rst : (s.mapPwr f).rst = s.rst := rfl
@[simp] theorem mapPwr_thm : (s.mapPwr f).thm = s.thm := rfl
@[simp] theorem mapPwr_time : (s.mapPwr f).time = s.time := rfl
@[simp] theorem mapPwr_sch : (s.mapPwr f).sch = s.sch := rfl
@[simp] theorem mapPwr_ste : (s.mapPwr f).ste = s.ste := rfl
@[simp] theorem mapPwr_emt : (s.mapPwr f).emt = s.emt := rfl
@[simp] theorem mapPwr_etd : (s.mapPwr f).etd = s.etd := rfl
@[simp] theorem mapPwr_rxc : (s.mapPwr f).rxc = s.rxc := rfl
@[simp] theorem mapPwr_grn : (s.mapPwr f).grn = s.grn := rfl
@[simp] theorem mapPwr_crm : (s.mapPwr f).crm = s.crm := rfl
@[simp] theorem mapPwr_saf : (s.mapPwr f).saf = s.saf := rfl
@[simp] theorem mapPwr_net : (s.mapPwr f).net = s.net := rfl
@[simp] theorem mapPwr_cal : (s.mapPwr f).cal = s.cal := rfl
@[simp] theorem mapPwr_hka : (s.mapPwr f).hka = s.hka := rfl
@[simp] theorem mapPwr_exc : (s.mapPwr f).exc = s.exc := rfl
@[simp] theorem mapPwr_rcd : (s.mapPwr f).rcd = s.rcd := rfl
@[simp] theorem mapPwr_pins : (s.mapPwr f).pins = s.pins := rfl
@[simp] theorem mapPwr_peek (b : Nat) : (s.mapPwr f).peek b = s.peek b := rfl
@[simp] theorem mapPwr_getF (g : Field) : (s.mapPwr f).getF g = s.getF g := rfl
@[simp] theorem mapPwr_pwr : (s.mapPwr f).pwr = f s.pwr := rfl

end

/-! ## `mapTime` -/

section
variable (f : TimeState → TimeState)

@[simp] theorem mapTime_pending : (s.mapTime f).pending = s.pending := rfl
@[simp] theorem mapTime_now : (s.mapTime f).now = s.now := rfl
@[simp] theorem mapTime_free : (s.mapTime f).free = s.free := rfl
@[simp] theorem mapTime_regs : (s.mapTime f).regs = s.regs := rfl
@[simp] theorem mapTime_shadow : (s.mapTime f).shadow = s.shadow := rfl
@[simp] theorem mapTime_ram : (s.mapTime f).ram = s.ram := rfl
@[simp] theorem mapTime_frozen : (s.mapTime f).frozen = s.frozen := rfl
@[simp] theorem mapTime_sys : (s.mapTime f).sys = s.sys := rfl
@[simp] theorem mapTime_tp : (s.mapTime f).tp = s.tp := rfl
@[simp] theorem mapTime_mem : (s.mapTime f).mem = s.mem := rfl
@[simp] theorem mapTime_rst : (s.mapTime f).rst = s.rst := rfl
@[simp] theorem mapTime_pwr : (s.mapTime f).pwr = s.pwr := rfl
@[simp] theorem mapTime_thm : (s.mapTime f).thm = s.thm := rfl
@[simp] theorem mapTime_sch : (s.mapTime f).sch = s.sch := rfl
@[simp] theorem mapTime_ste : (s.mapTime f).ste = s.ste := rfl
@[simp] theorem mapTime_emt : (s.mapTime f).emt = s.emt := rfl
@[simp] theorem mapTime_etd : (s.mapTime f).etd = s.etd := rfl
@[simp] theorem mapTime_rxc : (s.mapTime f).rxc = s.rxc := rfl
@[simp] theorem mapTime_grn : (s.mapTime f).grn = s.grn := rfl
@[simp] theorem mapTime_crm : (s.mapTime f).crm = s.crm := rfl
@[simp] theorem mapTime_saf : (s.mapTime f).saf = s.saf := rfl
@[simp] theorem mapTime_net : (s.mapTime f).net = s.net := rfl
@[simp] theorem mapTime_cal : (s.mapTime f).cal = s.cal := rfl
@[simp] theorem mapTime_hka : (s.mapTime f).hka = s.hka := rfl
@[simp] theorem mapTime_exc : (s.mapTime f).exc = s.exc := rfl
@[simp] theorem mapTime_rcd : (s.mapTime f).rcd = s.rcd := rfl
@[simp] theorem mapTime_pins : (s.mapTime f).pins = s.pins := rfl
@[simp] theorem mapTime_peek (b : Nat) : (s.mapTime f).peek b = s.peek b := rfl
@[simp] theorem mapTime_getF (g : Field) : (s.mapTime f).getF g = s.getF g := rfl
@[simp] theorem mapTime_on (d : Nat) : (s.mapTime f).on d = s.on d := rfl
@[simp] theorem mapTime_time : (s.mapTime f).time = f s.time := rfl

end

/-! ## `mapSch` -/

section
variable (f : SchedState → SchedState)

@[simp] theorem mapSch_pending : (s.mapSch f).pending = s.pending := rfl
@[simp] theorem mapSch_now : (s.mapSch f).now = s.now := rfl
@[simp] theorem mapSch_free : (s.mapSch f).free = s.free := rfl
@[simp] theorem mapSch_regs : (s.mapSch f).regs = s.regs := rfl
@[simp] theorem mapSch_shadow : (s.mapSch f).shadow = s.shadow := rfl
@[simp] theorem mapSch_ram : (s.mapSch f).ram = s.ram := rfl
@[simp] theorem mapSch_frozen : (s.mapSch f).frozen = s.frozen := rfl
@[simp] theorem mapSch_sys : (s.mapSch f).sys = s.sys := rfl
@[simp] theorem mapSch_tp : (s.mapSch f).tp = s.tp := rfl
@[simp] theorem mapSch_mem : (s.mapSch f).mem = s.mem := rfl
@[simp] theorem mapSch_rst : (s.mapSch f).rst = s.rst := rfl
@[simp] theorem mapSch_pwr : (s.mapSch f).pwr = s.pwr := rfl
@[simp] theorem mapSch_thm : (s.mapSch f).thm = s.thm := rfl
@[simp] theorem mapSch_time : (s.mapSch f).time = s.time := rfl
@[simp] theorem mapSch_ste : (s.mapSch f).ste = s.ste := rfl
@[simp] theorem mapSch_emt : (s.mapSch f).emt = s.emt := rfl
@[simp] theorem mapSch_etd : (s.mapSch f).etd = s.etd := rfl
@[simp] theorem mapSch_rxc : (s.mapSch f).rxc = s.rxc := rfl
@[simp] theorem mapSch_grn : (s.mapSch f).grn = s.grn := rfl
@[simp] theorem mapSch_crm : (s.mapSch f).crm = s.crm := rfl
@[simp] theorem mapSch_saf : (s.mapSch f).saf = s.saf := rfl
@[simp] theorem mapSch_net : (s.mapSch f).net = s.net := rfl
@[simp] theorem mapSch_cal : (s.mapSch f).cal = s.cal := rfl
@[simp] theorem mapSch_hka : (s.mapSch f).hka = s.hka := rfl
@[simp] theorem mapSch_exc : (s.mapSch f).exc = s.exc := rfl
@[simp] theorem mapSch_rcd : (s.mapSch f).rcd = s.rcd := rfl
@[simp] theorem mapSch_pins : (s.mapSch f).pins = s.pins := rfl
@[simp] theorem mapSch_peek (b : Nat) : (s.mapSch f).peek b = s.peek b := rfl
@[simp] theorem mapSch_getF (g : Field) : (s.mapSch f).getF g = s.getF g := rfl
@[simp] theorem mapSch_on (d : Nat) : (s.mapSch f).on d = s.on d := rfl
@[simp] theorem mapSch_sch : (s.mapSch f).sch = f s.sch := rfl

end

/-! ## `mapCal` -/

section
variable (f : CalState → CalState)

@[simp] theorem mapCal_pending : (s.mapCal f).pending = s.pending := rfl
@[simp] theorem mapCal_now : (s.mapCal f).now = s.now := rfl
@[simp] theorem mapCal_free : (s.mapCal f).free = s.free := rfl
@[simp] theorem mapCal_regs : (s.mapCal f).regs = s.regs := rfl
@[simp] theorem mapCal_shadow : (s.mapCal f).shadow = s.shadow := rfl
@[simp] theorem mapCal_ram : (s.mapCal f).ram = s.ram := rfl
@[simp] theorem mapCal_frozen : (s.mapCal f).frozen = s.frozen := rfl
@[simp] theorem mapCal_sys : (s.mapCal f).sys = s.sys := rfl
@[simp] theorem mapCal_tp : (s.mapCal f).tp = s.tp := rfl
@[simp] theorem mapCal_mem : (s.mapCal f).mem = s.mem := rfl
@[simp] theorem mapCal_rst : (s.mapCal f).rst = s.rst := rfl
@[simp] theorem mapCal_pwr : (s.mapCal f).pwr = s.pwr := rfl
@[simp] theorem mapCal_thm : (s.mapCal f).thm = s.thm := rfl
@[simp] theorem mapCal_time : (s.mapCal f).time = s.time := rfl
@[simp] theorem mapCal_sch : (s.mapCal f).sch = s.sch := rfl
@[simp] theorem mapCal_ste : (s.mapCal f).ste = s.ste := rfl
@[simp] theorem mapCal_emt : (s.mapCal f).emt = s.emt := rfl
@[simp] theorem mapCal_etd : (s.mapCal f).etd = s.etd := rfl
@[simp] theorem mapCal_rxc : (s.mapCal f).rxc = s.rxc := rfl
@[simp] theorem mapCal_grn : (s.mapCal f).grn = s.grn := rfl
@[simp] theorem mapCal_crm : (s.mapCal f).crm = s.crm := rfl
@[simp] theorem mapCal_saf : (s.mapCal f).saf = s.saf := rfl
@[simp] theorem mapCal_net : (s.mapCal f).net = s.net := rfl
@[simp] theorem mapCal_hka : (s.mapCal f).hka = s.hka := rfl
@[simp] theorem mapCal_exc : (s.mapCal f).exc = s.exc := rfl
@[simp] theorem mapCal_rcd : (s.mapCal f).rcd = s.rcd := rfl
@[simp] theorem mapCal_pins : (s.mapCal f).pins = s.pins := rfl
@[simp] theorem mapCal_peek (b : Nat) : (s.mapCal f).peek b = s.peek b := rfl
@[simp] theorem mapCal_getF (g : Field) : (s.mapCal f).getF g = s.getF g := rfl
@[simp] theorem mapCal_on (d : Nat) : (s.mapCal f).on d = s.on d := rfl
@[simp] theorem mapCal_cal : (s.mapCal f).cal = f s.cal := rfl

end

/-! ## `mapHka` -/

section
variable (f : HkaState → HkaState)

@[simp] theorem mapHka_pending : (s.mapHka f).pending = s.pending := rfl
@[simp] theorem mapHka_now : (s.mapHka f).now = s.now := rfl
@[simp] theorem mapHka_free : (s.mapHka f).free = s.free := rfl
@[simp] theorem mapHka_regs : (s.mapHka f).regs = s.regs := rfl
@[simp] theorem mapHka_shadow : (s.mapHka f).shadow = s.shadow := rfl
@[simp] theorem mapHka_ram : (s.mapHka f).ram = s.ram := rfl
@[simp] theorem mapHka_frozen : (s.mapHka f).frozen = s.frozen := rfl
@[simp] theorem mapHka_sys : (s.mapHka f).sys = s.sys := rfl
@[simp] theorem mapHka_tp : (s.mapHka f).tp = s.tp := rfl
@[simp] theorem mapHka_mem : (s.mapHka f).mem = s.mem := rfl
@[simp] theorem mapHka_rst : (s.mapHka f).rst = s.rst := rfl
@[simp] theorem mapHka_pwr : (s.mapHka f).pwr = s.pwr := rfl
@[simp] theorem mapHka_thm : (s.mapHka f).thm = s.thm := rfl
@[simp] theorem mapHka_time : (s.mapHka f).time = s.time := rfl
@[simp] theorem mapHka_sch : (s.mapHka f).sch = s.sch := rfl
@[simp] theorem mapHka_ste : (s.mapHka f).ste = s.ste := rfl
@[simp] theorem mapHka_emt : (s.mapHka f).emt = s.emt := rfl
@[simp] theorem mapHka_etd : (s.mapHka f).etd = s.etd := rfl
@[simp] theorem mapHka_rxc : (s.mapHka f).rxc = s.rxc := rfl
@[simp] theorem mapHka_grn : (s.mapHka f).grn = s.grn := rfl
@[simp] theorem mapHka_crm : (s.mapHka f).crm = s.crm := rfl
@[simp] theorem mapHka_saf : (s.mapHka f).saf = s.saf := rfl
@[simp] theorem mapHka_net : (s.mapHka f).net = s.net := rfl
@[simp] theorem mapHka_cal : (s.mapHka f).cal = s.cal := rfl
@[simp] theorem mapHka_exc : (s.mapHka f).exc = s.exc := rfl
@[simp] theorem mapHka_rcd : (s.mapHka f).rcd = s.rcd := rfl
@[simp] theorem mapHka_pins : (s.mapHka f).pins = s.pins := rfl
@[simp] theorem mapHka_peek (b : Nat) : (s.mapHka f).peek b = s.peek b := rfl
@[simp] theorem mapHka_getF (g : Field) : (s.mapHka f).getF g = s.getF g := rfl
@[simp] theorem mapHka_on (d : Nat) : (s.mapHka f).on d = s.on d := rfl
@[simp] theorem mapHka_hka : (s.mapHka f).hka = f s.hka := rfl

end

/-! ## `mapExc` -/

section
variable (f : ExcState → ExcState)

@[simp] theorem mapExc_pending : (s.mapExc f).pending = s.pending := rfl
@[simp] theorem mapExc_now : (s.mapExc f).now = s.now := rfl
@[simp] theorem mapExc_free : (s.mapExc f).free = s.free := rfl
@[simp] theorem mapExc_regs : (s.mapExc f).regs = s.regs := rfl
@[simp] theorem mapExc_shadow : (s.mapExc f).shadow = s.shadow := rfl
@[simp] theorem mapExc_ram : (s.mapExc f).ram = s.ram := rfl
@[simp] theorem mapExc_frozen : (s.mapExc f).frozen = s.frozen := rfl
@[simp] theorem mapExc_sys : (s.mapExc f).sys = s.sys := rfl
@[simp] theorem mapExc_tp : (s.mapExc f).tp = s.tp := rfl
@[simp] theorem mapExc_mem : (s.mapExc f).mem = s.mem := rfl
@[simp] theorem mapExc_rst : (s.mapExc f).rst = s.rst := rfl
@[simp] theorem mapExc_pwr : (s.mapExc f).pwr = s.pwr := rfl
@[simp] theorem mapExc_thm : (s.mapExc f).thm = s.thm := rfl
@[simp] theorem mapExc_time : (s.mapExc f).time = s.time := rfl
@[simp] theorem mapExc_sch : (s.mapExc f).sch = s.sch := rfl
@[simp] theorem mapExc_ste : (s.mapExc f).ste = s.ste := rfl
@[simp] theorem mapExc_emt : (s.mapExc f).emt = s.emt := rfl
@[simp] theorem mapExc_etd : (s.mapExc f).etd = s.etd := rfl
@[simp] theorem mapExc_rxc : (s.mapExc f).rxc = s.rxc := rfl
@[simp] theorem mapExc_grn : (s.mapExc f).grn = s.grn := rfl
@[simp] theorem mapExc_crm : (s.mapExc f).crm = s.crm := rfl
@[simp] theorem mapExc_saf : (s.mapExc f).saf = s.saf := rfl
@[simp] theorem mapExc_net : (s.mapExc f).net = s.net := rfl
@[simp] theorem mapExc_cal : (s.mapExc f).cal = s.cal := rfl
@[simp] theorem mapExc_hka : (s.mapExc f).hka = s.hka := rfl
@[simp] theorem mapExc_rcd : (s.mapExc f).rcd = s.rcd := rfl
@[simp] theorem mapExc_pins : (s.mapExc f).pins = s.pins := rfl
@[simp] theorem mapExc_peek (b : Nat) : (s.mapExc f).peek b = s.peek b := rfl
@[simp] theorem mapExc_getF (g : Field) : (s.mapExc f).getF g = s.getF g := rfl
@[simp] theorem mapExc_on (d : Nat) : (s.mapExc f).on d = s.on d := rfl
@[simp] theorem mapExc_exc : (s.mapExc f).exc = f s.exc := rfl

end

/-! ## `mapRec` -/

section
variable (f : RecState → RecState)

@[simp] theorem mapRec_pending : (s.mapRec f).pending = s.pending := rfl
@[simp] theorem mapRec_now : (s.mapRec f).now = s.now := rfl
@[simp] theorem mapRec_free : (s.mapRec f).free = s.free := rfl
@[simp] theorem mapRec_regs : (s.mapRec f).regs = s.regs := rfl
@[simp] theorem mapRec_shadow : (s.mapRec f).shadow = s.shadow := rfl
@[simp] theorem mapRec_ram : (s.mapRec f).ram = s.ram := rfl
@[simp] theorem mapRec_frozen : (s.mapRec f).frozen = s.frozen := rfl
@[simp] theorem mapRec_sys : (s.mapRec f).sys = s.sys := rfl
@[simp] theorem mapRec_tp : (s.mapRec f).tp = s.tp := rfl
@[simp] theorem mapRec_mem : (s.mapRec f).mem = s.mem := rfl
@[simp] theorem mapRec_rst : (s.mapRec f).rst = s.rst := rfl
@[simp] theorem mapRec_pwr : (s.mapRec f).pwr = s.pwr := rfl
@[simp] theorem mapRec_thm : (s.mapRec f).thm = s.thm := rfl
@[simp] theorem mapRec_time : (s.mapRec f).time = s.time := rfl
@[simp] theorem mapRec_sch : (s.mapRec f).sch = s.sch := rfl
@[simp] theorem mapRec_ste : (s.mapRec f).ste = s.ste := rfl
@[simp] theorem mapRec_emt : (s.mapRec f).emt = s.emt := rfl
@[simp] theorem mapRec_etd : (s.mapRec f).etd = s.etd := rfl
@[simp] theorem mapRec_rxc : (s.mapRec f).rxc = s.rxc := rfl
@[simp] theorem mapRec_grn : (s.mapRec f).grn = s.grn := rfl
@[simp] theorem mapRec_crm : (s.mapRec f).crm = s.crm := rfl
@[simp] theorem mapRec_saf : (s.mapRec f).saf = s.saf := rfl
@[simp] theorem mapRec_net : (s.mapRec f).net = s.net := rfl
@[simp] theorem mapRec_cal : (s.mapRec f).cal = s.cal := rfl
@[simp] theorem mapRec_hka : (s.mapRec f).hka = s.hka := rfl
@[simp] theorem mapRec_exc : (s.mapRec f).exc = s.exc := rfl
@[simp] theorem mapRec_pins : (s.mapRec f).pins = s.pins := rfl
@[simp] theorem mapRec_peek (b : Nat) : (s.mapRec f).peek b = s.peek b := rfl
@[simp] theorem mapRec_getF (g : Field) : (s.mapRec f).getF g = s.getF g := rfl
@[simp] theorem mapRec_on (d : Nat) : (s.mapRec f).on d = s.on d := rfl
@[simp] theorem mapRec_rcd : (s.mapRec f).rcd = f s.rcd := rfl

end

/-! ## `mapFrame` -/

section
variable (f : FrameInfo → FrameInfo)

@[simp] theorem mapFrame_pending : (s.mapFrame f).pending = s.pending := rfl
@[simp] theorem mapFrame_now : (s.mapFrame f).now = s.now := rfl
@[simp] theorem mapFrame_free : (s.mapFrame f).free = s.free := rfl
@[simp] theorem mapFrame_regs : (s.mapFrame f).regs = s.regs := rfl
@[simp] theorem mapFrame_shadow : (s.mapFrame f).shadow = s.shadow := rfl
@[simp] theorem mapFrame_ram : (s.mapFrame f).ram = s.ram := rfl
@[simp] theorem mapFrame_frozen : (s.mapFrame f).frozen = s.frozen := rfl
@[simp] theorem mapFrame_sys : (s.mapFrame f).sys = s.sys := rfl
@[simp] theorem mapFrame_tp : (s.mapFrame f).tp = s.tp := rfl
@[simp] theorem mapFrame_mem : (s.mapFrame f).mem = s.mem := rfl
@[simp] theorem mapFrame_rst : (s.mapFrame f).rst = s.rst := rfl
@[simp] theorem mapFrame_pwr : (s.mapFrame f).pwr = s.pwr := rfl
@[simp] theorem mapFrame_thm : (s.mapFrame f).thm = s.thm := rfl
@[simp] theorem mapFrame_time : (s.mapFrame f).time = s.time := rfl
@[simp] theorem mapFrame_ste : (s.mapFrame f).ste = s.ste := rfl
@[simp] theorem mapFrame_emt : (s.mapFrame f).emt = s.emt := rfl
@[simp] theorem mapFrame_etd : (s.mapFrame f).etd = s.etd := rfl
@[simp] theorem mapFrame_rxc : (s.mapFrame f).rxc = s.rxc := rfl
@[simp] theorem mapFrame_grn : (s.mapFrame f).grn = s.grn := rfl
@[simp] theorem mapFrame_crm : (s.mapFrame f).crm = s.crm := rfl
@[simp] theorem mapFrame_saf : (s.mapFrame f).saf = s.saf := rfl
@[simp] theorem mapFrame_net : (s.mapFrame f).net = s.net := rfl
@[simp] theorem mapFrame_cal : (s.mapFrame f).cal = s.cal := rfl
@[simp] theorem mapFrame_hka : (s.mapFrame f).hka = s.hka := rfl
@[simp] theorem mapFrame_exc : (s.mapFrame f).exc = s.exc := rfl
@[simp] theorem mapFrame_rcd : (s.mapFrame f).rcd = s.rcd := rfl
@[simp] theorem mapFrame_pins : (s.mapFrame f).pins = s.pins := rfl
@[simp] theorem mapFrame_peek (b : Nat) : (s.mapFrame f).peek b = s.peek b := rfl
@[simp] theorem mapFrame_getF (g : Field) : (s.mapFrame f).getF g = s.getF g := rfl
@[simp] theorem mapFrame_on (d : Nat) : (s.mapFrame f).on d = s.on d := rfl

end

/-! ## `mapPort` -/

section
variable (p : Nat) (f : Port → Port)

@[simp] theorem mapPort_pending : (s.mapPort p f).pending = s.pending := rfl
@[simp] theorem mapPort_now : (s.mapPort p f).now = s.now := rfl
@[simp] theorem mapPort_free : (s.mapPort p f).free = s.free := rfl
@[simp] theorem mapPort_regs : (s.mapPort p f).regs = s.regs := rfl
@[simp] theorem mapPort_shadow : (s.mapPort p f).shadow = s.shadow := rfl
@[simp] theorem mapPort_ram : (s.mapPort p f).ram = s.ram := rfl
@[simp] theorem mapPort_frozen : (s.mapPort p f).frozen = s.frozen := rfl
@[simp] theorem mapPort_sys : (s.mapPort p f).sys = s.sys := rfl
@[simp] theorem mapPort_tp : (s.mapPort p f).tp = s.tp := rfl
@[simp] theorem mapPort_mem : (s.mapPort p f).mem = s.mem := rfl
@[simp] theorem mapPort_rst : (s.mapPort p f).rst = s.rst := rfl
@[simp] theorem mapPort_pwr : (s.mapPort p f).pwr = s.pwr := rfl
@[simp] theorem mapPort_thm : (s.mapPort p f).thm = s.thm := rfl
@[simp] theorem mapPort_time : (s.mapPort p f).time = s.time := rfl
@[simp] theorem mapPort_sch : (s.mapPort p f).sch = s.sch := rfl
@[simp] theorem mapPort_ste : (s.mapPort p f).ste = s.ste := rfl
@[simp] theorem mapPort_emt : (s.mapPort p f).emt = s.emt := rfl
@[simp] theorem mapPort_etd : (s.mapPort p f).etd = s.etd := rfl
@[simp] theorem mapPort_rxc : (s.mapPort p f).rxc = s.rxc := rfl
@[simp] theorem mapPort_grn : (s.mapPort p f).grn = s.grn := rfl
@[simp] theorem mapPort_crm : (s.mapPort p f).crm = s.crm := rfl
@[simp] theorem mapPort_saf : (s.mapPort p f).saf = s.saf := rfl
@[simp] theorem mapPort_cal : (s.mapPort p f).cal = s.cal := rfl
@[simp] theorem mapPort_hka : (s.mapPort p f).hka = s.hka := rfl
@[simp] theorem mapPort_exc : (s.mapPort p f).exc = s.exc := rfl
@[simp] theorem mapPort_rcd : (s.mapPort p f).rcd = s.rcd := rfl
@[simp] theorem mapPort_pins : (s.mapPort p f).pins = s.pins := rfl
@[simp] theorem mapPort_peek (b : Nat) : (s.mapPort p f).peek b = s.peek b := rfl
@[simp] theorem mapPort_getF (g : Field) : (s.mapPort p f).getF g = s.getF g := rfl
@[simp] theorem mapPort_on (d : Nat) : (s.mapPort p f).on d = s.on d := rfl

end

/-! ## `setMeas` -/

section
variable (n : Nat) (m : Meas)

@[simp] theorem setMeas_pending : (s.setMeas n m).pending = s.pending := rfl
@[simp] theorem setMeas_now : (s.setMeas n m).now = s.now := rfl
@[simp] theorem setMeas_free : (s.setMeas n m).free = s.free := rfl
@[simp] theorem setMeas_regs : (s.setMeas n m).regs = s.regs := rfl
@[simp] theorem setMeas_shadow : (s.setMeas n m).shadow = s.shadow := rfl
@[simp] theorem setMeas_ram : (s.setMeas n m).ram = s.ram := rfl
@[simp] theorem setMeas_frozen : (s.setMeas n m).frozen = s.frozen := rfl
@[simp] theorem setMeas_sys : (s.setMeas n m).sys = s.sys := rfl
@[simp] theorem setMeas_tp : (s.setMeas n m).tp = s.tp := rfl
@[simp] theorem setMeas_mem : (s.setMeas n m).mem = s.mem := rfl
@[simp] theorem setMeas_rst : (s.setMeas n m).rst = s.rst := rfl
@[simp] theorem setMeas_pwr : (s.setMeas n m).pwr = s.pwr := rfl
@[simp] theorem setMeas_thm : (s.setMeas n m).thm = s.thm := rfl
@[simp] theorem setMeas_time : (s.setMeas n m).time = s.time := rfl
@[simp] theorem setMeas_sch : (s.setMeas n m).sch = s.sch := rfl
@[simp] theorem setMeas_ste : (s.setMeas n m).ste = s.ste := rfl
@[simp] theorem setMeas_emt : (s.setMeas n m).emt = s.emt := rfl
@[simp] theorem setMeas_etd : (s.setMeas n m).etd = s.etd := rfl
@[simp] theorem setMeas_rxc : (s.setMeas n m).rxc = s.rxc := rfl
@[simp] theorem setMeas_crm : (s.setMeas n m).crm = s.crm := rfl
@[simp] theorem setMeas_saf : (s.setMeas n m).saf = s.saf := rfl
@[simp] theorem setMeas_net : (s.setMeas n m).net = s.net := rfl
@[simp] theorem setMeas_cal : (s.setMeas n m).cal = s.cal := rfl
@[simp] theorem setMeas_hka : (s.setMeas n m).hka = s.hka := rfl
@[simp] theorem setMeas_exc : (s.setMeas n m).exc = s.exc := rfl
@[simp] theorem setMeas_rcd : (s.setMeas n m).rcd = s.rcd := rfl
@[simp] theorem setMeas_pins : (s.setMeas n m).pins = s.pins := rfl
@[simp] theorem setMeas_peek (b : Nat) : (s.setMeas n m).peek b = s.peek b := rfl
@[simp] theorem setMeas_getF (g : Field) : (s.setMeas n m).getF g = s.getF g := rfl
@[simp] theorem setMeas_on (d : Nat) : (s.setMeas n m).on d = s.on d := rfl

end

/-! ## `setTapLine` -/

section
variable (n : Nat) (l : TapLine)

@[simp] theorem setTapLine_pending : (s.setTapLine n l).pending = s.pending := rfl
@[simp] theorem setTapLine_now : (s.setTapLine n l).now = s.now := rfl
@[simp] theorem setTapLine_free : (s.setTapLine n l).free = s.free := rfl
@[simp] theorem setTapLine_regs : (s.setTapLine n l).regs = s.regs := rfl
@[simp] theorem setTapLine_shadow : (s.setTapLine n l).shadow = s.shadow := rfl
@[simp] theorem setTapLine_ram : (s.setTapLine n l).ram = s.ram := rfl
@[simp] theorem setTapLine_frozen : (s.setTapLine n l).frozen = s.frozen := rfl
@[simp] theorem setTapLine_sys : (s.setTapLine n l).sys = s.sys := rfl
@[simp] theorem setTapLine_tp : (s.setTapLine n l).tp = s.tp := rfl
@[simp] theorem setTapLine_mem : (s.setTapLine n l).mem = s.mem := rfl
@[simp] theorem setTapLine_rst : (s.setTapLine n l).rst = s.rst := rfl
@[simp] theorem setTapLine_pwr : (s.setTapLine n l).pwr = s.pwr := rfl
@[simp] theorem setTapLine_thm : (s.setTapLine n l).thm = s.thm := rfl
@[simp] theorem setTapLine_time : (s.setTapLine n l).time = s.time := rfl
@[simp] theorem setTapLine_sch : (s.setTapLine n l).sch = s.sch := rfl
@[simp] theorem setTapLine_ste : (s.setTapLine n l).ste = s.ste := rfl
@[simp] theorem setTapLine_emt : (s.setTapLine n l).emt = s.emt := rfl
@[simp] theorem setTapLine_rxc : (s.setTapLine n l).rxc = s.rxc := rfl
@[simp] theorem setTapLine_grn : (s.setTapLine n l).grn = s.grn := rfl
@[simp] theorem setTapLine_crm : (s.setTapLine n l).crm = s.crm := rfl
@[simp] theorem setTapLine_saf : (s.setTapLine n l).saf = s.saf := rfl
@[simp] theorem setTapLine_net : (s.setTapLine n l).net = s.net := rfl
@[simp] theorem setTapLine_cal : (s.setTapLine n l).cal = s.cal := rfl
@[simp] theorem setTapLine_hka : (s.setTapLine n l).hka = s.hka := rfl
@[simp] theorem setTapLine_exc : (s.setTapLine n l).exc = s.exc := rfl
@[simp] theorem setTapLine_rcd : (s.setTapLine n l).rcd = s.rcd := rfl
@[simp] theorem setTapLine_pins : (s.setTapLine n l).pins = s.pins := rfl
@[simp] theorem setTapLine_peek (b : Nat) : (s.setTapLine n l).peek b = s.peek b := rfl
@[simp] theorem setTapLine_getF (g : Field) : (s.setTapLine n l).getF g = s.getF g := rfl
@[simp] theorem setTapLine_on (d : Nat) : (s.setTapLine n l).on d = s.on d := rfl

end

/-! ## `setChain` -/

section
variable (c : Nat) (k : Chain)

@[simp] theorem setChain_pending : (s.setChain c k).pending = s.pending := rfl
@[simp] theorem setChain_now : (s.setChain c k).now = s.now := rfl
@[simp] theorem setChain_free : (s.setChain c k).free = s.free := rfl
@[simp] theorem setChain_regs : (s.setChain c k).regs = s.regs := rfl
@[simp] theorem setChain_shadow : (s.setChain c k).shadow = s.shadow := rfl
@[simp] theorem setChain_ram : (s.setChain c k).ram = s.ram := rfl
@[simp] theorem setChain_frozen : (s.setChain c k).frozen = s.frozen := rfl
@[simp] theorem setChain_sys : (s.setChain c k).sys = s.sys := rfl
@[simp] theorem setChain_tp : (s.setChain c k).tp = s.tp := rfl
@[simp] theorem setChain_mem : (s.setChain c k).mem = s.mem := rfl
@[simp] theorem setChain_rst : (s.setChain c k).rst = s.rst := rfl
@[simp] theorem setChain_pwr : (s.setChain c k).pwr = s.pwr := rfl
@[simp] theorem setChain_thm : (s.setChain c k).thm = s.thm := rfl
@[simp] theorem setChain_time : (s.setChain c k).time = s.time := rfl
@[simp] theorem setChain_sch : (s.setChain c k).sch = s.sch := rfl
@[simp] theorem setChain_ste : (s.setChain c k).ste = s.ste := rfl
@[simp] theorem setChain_etd : (s.setChain c k).etd = s.etd := rfl
@[simp] theorem setChain_rxc : (s.setChain c k).rxc = s.rxc := rfl
@[simp] theorem setChain_grn : (s.setChain c k).grn = s.grn := rfl
@[simp] theorem setChain_crm : (s.setChain c k).crm = s.crm := rfl
@[simp] theorem setChain_saf : (s.setChain c k).saf = s.saf := rfl
@[simp] theorem setChain_net : (s.setChain c k).net = s.net := rfl
@[simp] theorem setChain_cal : (s.setChain c k).cal = s.cal := rfl
@[simp] theorem setChain_hka : (s.setChain c k).hka = s.hka := rfl
@[simp] theorem setChain_exc : (s.setChain c k).exc = s.exc := rfl
@[simp] theorem setChain_rcd : (s.setChain c k).rcd = s.rcd := rfl
@[simp] theorem setChain_pins : (s.setChain c k).pins = s.pins := rfl
@[simp] theorem setChain_peek (b : Nat) : (s.setChain c k).peek b = s.peek b := rfl
@[simp] theorem setChain_getF (g : Field) : (s.setChain c k).getF g = s.getF g := rfl
@[simp] theorem setChain_on (d : Nat) : (s.setChain c k).on d = s.on d := rfl

end

/-! ## `setQueue` -/

section
variable (q : Nat) (x : Queue)

@[simp] theorem setQueue_pending : (s.setQueue q x).pending = s.pending := rfl
@[simp] theorem setQueue_now : (s.setQueue q x).now = s.now := rfl
@[simp] theorem setQueue_free : (s.setQueue q x).free = s.free := rfl
@[simp] theorem setQueue_regs : (s.setQueue q x).regs = s.regs := rfl
@[simp] theorem setQueue_shadow : (s.setQueue q x).shadow = s.shadow := rfl
@[simp] theorem setQueue_ram : (s.setQueue q x).ram = s.ram := rfl
@[simp] theorem setQueue_frozen : (s.setQueue q x).frozen = s.frozen := rfl
@[simp] theorem setQueue_sys : (s.setQueue q x).sys = s.sys := rfl
@[simp] theorem setQueue_mem : (s.setQueue q x).mem = s.mem := rfl
@[simp] theorem setQueue_rst : (s.setQueue q x).rst = s.rst := rfl
@[simp] theorem setQueue_pwr : (s.setQueue q x).pwr = s.pwr := rfl
@[simp] theorem setQueue_thm : (s.setQueue q x).thm = s.thm := rfl
@[simp] theorem setQueue_time : (s.setQueue q x).time = s.time := rfl
@[simp] theorem setQueue_sch : (s.setQueue q x).sch = s.sch := rfl
@[simp] theorem setQueue_ste : (s.setQueue q x).ste = s.ste := rfl
@[simp] theorem setQueue_emt : (s.setQueue q x).emt = s.emt := rfl
@[simp] theorem setQueue_etd : (s.setQueue q x).etd = s.etd := rfl
@[simp] theorem setQueue_rxc : (s.setQueue q x).rxc = s.rxc := rfl
@[simp] theorem setQueue_grn : (s.setQueue q x).grn = s.grn := rfl
@[simp] theorem setQueue_crm : (s.setQueue q x).crm = s.crm := rfl
@[simp] theorem setQueue_saf : (s.setQueue q x).saf = s.saf := rfl
@[simp] theorem setQueue_net : (s.setQueue q x).net = s.net := rfl
@[simp] theorem setQueue_cal : (s.setQueue q x).cal = s.cal := rfl
@[simp] theorem setQueue_hka : (s.setQueue q x).hka = s.hka := rfl
@[simp] theorem setQueue_exc : (s.setQueue q x).exc = s.exc := rfl
@[simp] theorem setQueue_rcd : (s.setQueue q x).rcd = s.rcd := rfl
@[simp] theorem setQueue_pins : (s.setQueue q x).pins = s.pins := rfl
@[simp] theorem setQueue_peek (b : Nat) : (s.setQueue q x).peek b = s.peek b := rfl
@[simp] theorem setQueue_getF (g : Field) : (s.setQueue q x).getF g = s.getF g := rfl
@[simp] theorem setQueue_on (d : Nat) : (s.setQueue q x).on d = s.on d := rfl

end

end State

end Sys2Proof.Machine
end

