-- ==== Sys2Proof/Laws/Ops.lean ====
section
/-! SUPPORT. What the shared operations can do: reads after writes of fields, and for each operation that reports something (an
event, an error, a record, a transition, the end of a command) the whole of what it leaves alone. -/

namespace Sys2Proof.Machine

/-! ## Fields of registers -/

theorem getF_congr {s t : State} {f : Field} (h : t.peek f.addr = s.peek f.addr) : t.getF f = s.getF f := by
  simp [State.getF, h]

@[simp] theorem peek_poke_self (s : State) (a : Nat) (w : Word) : (s.poke a w).peek a = w := by
  simp [State.peek, State.poke]

theorem peek_poke_other (s : State) {a b : Nat} (w : Word) (h : b ≠ a) : (s.poke a w).peek b = s.peek b := by
  simp only [State.peek, State.poke]
  exact cellGet_cellPut_other _ _ _ _ h

theorem peek_setF_other (s : State) (f : Field) (v : Nat) {b : Nat} (h : b ≠ f.addr) : (s.setF f v).peek b = s.peek b :=
  peek_poke_other s _ h

theorem getF_setF_self (s : State) (f : Field) (v : Nat) (h : f.lsb + f.width ≤ 32) :
    (s.setF f v).getF f = v % 2 ^ f.width := by
  have hw := withField_lt (lsb := f.lsb) (width := f.width) v (s.peek f.addr).isLt h
  simp only [State.getF, State.setF, peek_poke_self, BitVec.toNat_ofNat, Nat.mod_eq_of_lt hw]
  exact fieldOf_withField_self _ _ _ _

theorem getF_setF_other (s : State) (f g : Field) (v : Nat) (h : g.addr ≠ f.addr) : (s.setF f v).getF g = s.getF g :=
  getF_congr (peek_setF_other s f v h)

/-- A field beside the one written keeps its value. -/
theorem getF_setF_beside (s : State) (f g : Field) (v : Nat) (hf : f.lsb + f.width ≤ 32)
    (h : g.addr ≠ f.addr ∨ g.lsb + g.width ≤ f.lsb ∨ f.lsb + f.width ≤ g.lsb) : (s.setF f v).getF g = s.getF g := by
  by_cases ha : g.addr = f.addr
  · have hw := withField_lt (lsb := f.lsb) (width := f.width) v (s.peek f.addr).isLt hf
    have hd : g.lsb + g.width ≤ f.lsb ∨ f.lsb + f.width ≤ g.lsb := by tauto
    simp only [State.getF, State.setF, ha, peek_poke_self, BitVec.toNat_ofNat, Nat.mod_eq_of_lt hw]
    exact hd.elim (fieldOf_withField_below _ _) (fieldOf_withField_above _ _)
  · exact getF_setF_other s f g v ha

theorem getF_lt (s : State) (f : Field) : s.getF f < 2 ^ f.width := fieldOf_lt _ _ _

/-! ## Operations that report

`t.Reports P s`: `t` is `s` but for registers at addresses outside `P`, occurrences counted under R48, standing triggers and the instant and
cycle of the last transition, the queues' numbers, the journal, its rates and places, the record of outputs, and the recorder. -/

structure State.Reports (P : Nat → Prop) (s t : State) : Prop where
  same : t = { s with
    regs := t.regs
    sys := { s.sys with coalesced := t.sys.coalesced, standing := t.sys.standing, stateAt := t.sys.stateAt, moved := t.sys.moved }
    tp := { s.tp with queues := t.tp.queues, journal := t.tp.journal, out := t.tp.out, rates := t.tp.rates, moved := t.tp.moved, ends := t.tp.ends }
    rcd := t.rcd }
  kept : ∀ a, P a → t.peek a = s.peek a

namespace State.Reports

variable {P : Nat → Prop} {s t u : State}

theorem rfl_ (s : State) : s.Reports P s := ⟨rfl, fun _ _ => rfl⟩

theorem trans (h : s.Reports P t) (k : t.Reports P u) : s.Reports P u := by
  refine ⟨?_, fun a ha => (k.kept a ha).trans (h.kept a ha)⟩
  have h1 := h.same
  have k1 := k.same
  rw [h1] at k1
  exact k1

theorem mono {Q : Nat → Prop} (h : s.Reports P t) (hq : ∀ a, Q a → P a) : s.Reports Q t := ⟨h.same, fun a ha => h.kept a (hq a ha)⟩

theorem getF {f : Field} (h : s.Reports P t) (hf : P f.addr) : t.getF f = s.getF f := getF_congr (h.kept _ hf)

theorem pending (h : s.Reports P t) : t.pending = s.pending := (congrArg State.pending h.same).trans rfl
theorem now (h : s.Reports P t) : t.now = s.now := (congrArg State.now h.same).trans rfl
theorem free (h : s.Reports P t) : t.free = s.free := (congrArg State.free h.same).trans rfl
theorem shadow (h : s.Reports P t) : t.shadow = s.shadow := (congrArg State.shadow h.same).trans rfl
theorem ram (h : s.Reports P t) : t.ram = s.ram := (congrArg State.ram h.same).trans rfl
theorem frozen (h : s.Reports P t) : t.frozen = s.frozen := (congrArg State.frozen h.same).trans rfl
theorem mem (h : s.Reports P t) : t.mem = s.mem := (congrArg State.mem h.same).trans rfl
theorem rst (h : s.Reports P t) : t.rst = s.rst := (congrArg State.rst h.same).trans rfl
theorem pwr (h : s.Reports P t) : t.pwr = s.pwr := (congrArg State.pwr h.same).trans rfl
theorem thm (h : s.Reports P t) : t.thm = s.thm := (congrArg State.thm h.same).trans rfl
theorem time (h : s.Reports P t) : t.time = s.time := (congrArg State.time h.same).trans rfl
theorem sch (h : s.Reports P t) : t.sch = s.sch := (congrArg State.sch h.same).trans rfl
theorem ste (h : s.Reports P t) : t.ste = s.ste := (congrArg State.ste h.same).trans rfl
theorem emt (h : s.Reports P t) : t.emt = s.emt := (congrArg State.emt h.same).trans rfl
theorem etd (h : s.Reports P t) : t.etd = s.etd := (congrArg State.etd h.same).trans rfl
theorem rxc (h : s.Reports P t) : t.rxc = s.rxc := (congrArg State.rxc h.same).trans rfl
theorem grn (h : s.Reports P t) : t.grn = s.grn := (congrArg State.grn h.same).trans rfl
theorem crm (h : s.Reports P t) : t.crm = s.crm := (congrArg State.crm h.same).trans rfl
theorem saf (h : s.Reports P t) : t.saf = s.saf := (congrArg State.saf h.same).trans rfl
theorem net (h : s.Reports P t) : t.net = s.net := (congrArg State.net h.same).trans rfl
theorem cal (h : s.Reports P t) : t.cal = s.cal := (congrArg State.cal h.same).trans rfl
theorem hka (h : s.Reports P t) : t.hka = s.hka := (congrArg State.hka h.same).trans rfl
theorem exc (h : s.Reports P t) : t.exc = s.exc := (congrArg State.exc h.same).trans rfl
theorem pins (h : s.Reports P t) : t.pins = s.pins := (congrArg State.pins h.same).trans rfl
theorem sys_owner (h : s.Reports P t) : t.sys.owner = s.sys.owner := (congrArg (fun x => x.sys.owner) h.same).trans rfl
theorem sys_armed (h : s.Reports P t) : t.sys.armed = s.sys.armed := (congrArg (fun x => x.sys.armed) h.same).trans rfl
theorem sys_stay (h : s.Reports P t) : t.sys.stay = s.sys.stay := (congrArg (fun x => x.sys.stay) h.same).trans rfl
theorem sys_stopReq (h : s.Reports P t) : t.sys.stopReq = s.sys.stopReq := (congrArg (fun x => x.sys.stopReq) h.same).trans rfl
theorem sys_arisen (h : s.Reports P t) : t.sys.arisen = s.sys.arisen := (congrArg (fun x => x.sys.arisen) h.same).trans rfl
theorem sys_l0At (h : s.Reports P t) : t.sys.l0At = s.sys.l0At := (congrArg (fun x => x.sys.l0At) h.same).trans rfl
theorem sys_resetting (h : s.Reports P t) : t.sys.resetting = s.sys.resetting := (congrArg (fun x => x.sys.resetting) h.same).trans rfl
theorem tp_sessions (h : s.Reports P t) : t.tp.sessions = s.tp.sessions := (congrArg (fun x => x.tp.sessions) h.same).trans rfl
theorem tp_gens (h : s.Reports P t) : t.tp.gens = s.tp.gens := (congrArg (fun x => x.tp.gens) h.same).trans rfl
theorem tp_accepted (h : s.Reports P t) : t.tp.accepted = s.tp.accepted := (congrArg (fun x => x.tp.accepted) h.same).trans rfl
theorem tp_banks (h : s.Reports P t) : t.tp.banks = s.tp.banks := (congrArg (fun x => x.tp.banks) h.same).trans rfl
theorem tp_nor (h : s.Reports P t) : t.tp.nor = s.tp.nor := (congrArg (fun x => x.tp.nor) h.same).trans rfl
theorem tp_marker (h : s.Reports P t) : t.tp.marker = s.tp.marker := (congrArg (fun x => x.tp.marker) h.same).trans rfl
theorem tp_withheld (h : s.Reports P t) : t.tp.withheld = s.tp.withheld := (congrArg (fun x => x.tp.withheld) h.same).trans rfl
theorem tp_ackHeld (h : s.Reports P t) : t.tp.ackHeld = s.tp.ackHeld := (congrArg (fun x => x.tp.ackHeld) h.same).trans rfl
theorem tp_qgens (h : s.Reports P t) : t.tp.qgens = s.tp.qgens := (congrArg (fun x => x.tp.qgens) h.same).trans rfl
theorem tp_rxq (h : s.Reports P t) : t.tp.rxq = s.tp.rxq := (congrArg (fun x => x.tp.rxq) h.same).trans rfl
theorem tp_opens (h : s.Reports P t) : t.tp.opens = s.tp.opens := (congrArg (fun x => x.tp.opens) h.same).trans rfl
theorem tp_bootCount (h : s.Reports P t) : t.tp.bootCount = s.tp.bootCount := (congrArg (fun x => x.tp.bootCount) h.same).trans rfl
theorem on (h : s.Reports P t) (d : Nat) : t.on d = s.on d := (congrArg (fun x => x.pwr.released.contains d) h.same).trans rfl
theorem pageOn (h : s.Reports P t) (p : Nat) : t.pageOn p = s.pageOn p := h.on _

theorem foldl {β : Type} (l : List β) (g : State → β → State) (hg : ∀ (s : State) b, s.Reports P (g s b)) (s : State) : s.Reports P (l.foldl g s) := by
  induction l generalizing s with
  | nil => exact rfl_ s
  | cons b l ih => exact (hg s b).trans (ih _)

end State.Reports

/-! ## Operations that also send

`t.Sends P s`: as `t.Reports P s`, and the ports may have been given something to send. -/

theorem State.Reports.withNet {P : Nat → Prop} {s t : State} (h : s.Reports P t) (n : NetState) :
    ({ s with net := n } : State).Reports P { t with net := n } :=
  ⟨(congrArg (fun x : State => { x with net := n }) h.same).trans rfl, h.kept⟩

structure State.Sends (P : Nat → Prop) (s t : State) : Prop where
  reports : s.Reports P { t with net := s.net }
  net : t.net = { s.net with ports := t.net.ports }

namespace State.Sends

variable {P : Nat → Prop} {s t u : State}

theorem of (h : s.Reports P t) : s.Sends P t := by
  refine ⟨?_, by rw [h.net]⟩
  have : ({ t with net := s.net } : State) = t := by rw [← h.net]
  rw [this]; exact h

theorem rfl_ (s : State) : s.Sends P s := of (State.Reports.rfl_ s)

theorem trans (h : s.Sends P t) (k : t.Sends P u) : s.Sends P u :=
  ⟨h.reports.trans (k.reports.withNet s.net), by rw [k.net, h.net]⟩

theorem mono {Q : Nat → Prop} (h : s.Sends P t) (hq : ∀ a, Q a → P a) : s.Sends Q t := ⟨h.reports.mono hq, h.net⟩

theorem pending (h : s.Sends P t) : t.pending = s.pending := h.reports.pending
theorem now (h : s.Sends P t) : t.now = s.now := h.reports.now
theorem free (h : s.Sends P t) : t.free = s.free := h.reports.free
theorem shadow (h : s.Sends P t) : t.shadow = s.shadow := h.reports.shadow
theorem ram (h : s.Sends P t) : t.ram = s.ram := h.reports.ram
theorem frozen (h : s.Sends P t) : t.frozen = s.frozen := h.reports.frozen
theorem mem (h : s.Sends P t) : t.mem = s.mem := h.reports.mem
theorem rst (h : s.Sends P t) : t.rst = s.rst := h.reports.rst
theorem pwr (h : s.Sends P t) : t.pwr = s.pwr := h.reports.pwr
theorem thm (h : s.Sends P t) : t.thm = s.thm := h.reports.thm
theorem time (h : s.Sends P t) : t.time = s.time := h.reports.time
theorem sch (h : s.Sends P t) : t.sch = s.sch := h.reports.sch
theorem ste (h : s.Sends P t) : t.ste = s.ste := h.reports.ste
theorem emt (h : s.Sends P t) : t.emt = s.emt := h.reports.emt
theorem etd (h : s.Sends P t) : t.etd = s.etd := h.reports.etd
theorem rxc (h : s.Sends P t) : t.rxc = s.rxc := h.reports.rxc
theorem grn (h : s.Sends P t) : t.grn = s.grn := h.reports.grn
theorem crm (h : s.Sends P t) : t.crm = s.crm := h.reports.crm
theorem saf (h : s.Sends P t) : t.saf = s.saf := h.reports.saf
theorem cal (h : s.Sends P t) : t.cal = s.cal := h.reports.cal
theorem hka (h : s.Sends P t) : t.hka = s.hka := h.reports.hka
theorem exc (h : s.Sends P t) : t.exc = s.exc := h.reports.exc
theorem pins (h : s.Sends P t) : t.pins = s.pins := h.reports.pins
theorem net_hostB (h : s.Sends P t) : t.net.hostB = s.net.hostB := (congrArg NetState.hostB h.net).trans rfl
theorem net_censusAt (h : s.Sends P t) : t.net.censusAt = s.net.censusAt := (congrArg NetState.censusAt h.net).trans rfl
theorem net_addrId (h : s.Sends P t) : t.net.addrId = s.net.addrId := (congrArg NetState.addrId h.net).trans rfl
theorem net_held (h : s.Sends P t) : t.net.held = s.net.held := (congrArg NetState.held h.net).trans rfl
theorem net_notices (h : s.Sends P t) : t.net.notices = s.net.notices := (congrArg NetState.notices h.net).trans rfl
theorem net_dhcp (h : s.Sends P t) : t.net.dhcp = s.net.dhcp := (congrArg NetState.dhcp h.net).trans rfl
theorem sys_owner (h : s.Sends P t) : t.sys.owner = s.sys.owner := h.reports.sys_owner
theorem sys_armed (h : s.Sends P t) : t.sys.armed = s.sys.armed := h.reports.sys_armed
theorem sys_stay (h : s.Sends P t) : t.sys.stay = s.sys.stay := h.reports.sys_stay
theorem sys_stopReq (h : s.Sends P t) : t.sys.stopReq = s.sys.stopReq := h.reports.sys_stopReq
theorem sys_arisen (h : s.Sends P t) : t.sys.arisen = s.sys.arisen := h.reports.sys_arisen
theorem sys_l0At (h : s.Sends P t) : t.sys.l0At = s.sys.l0At := h.reports.sys_l0At
theorem sys_resetting (h : s.Sends P t) : t.sys.resetting = s.sys.resetting := h.reports.sys_resetting
theorem tp_sessions (h : s.Sends P t) : t.tp.sessions = s.tp.sessions := h.reports.tp_sessions
theorem tp_gens (h : s.Sends P t) : t.tp.gens = s.tp.gens := h.reports.tp_gens
theorem tp_accepted (h : s.Sends P t) : t.tp.accepted = s.tp.accepted := h.reports.tp_accepted
theorem tp_banks (h : s.Sends P t) : t.tp.banks = s.tp.banks := h.reports.tp_banks
theorem tp_nor (h : s.Sends P t) : t.tp.nor = s.tp.nor := h.reports.tp_nor
theorem tp_marker (h : s.Sends P t) : t.tp.marker = s.tp.marker := h.reports.tp_marker
theorem tp_withheld (h : s.Sends P t) : t.tp.withheld = s.tp.withheld := h.reports.tp_withheld
theorem tp_ackHeld (h : s.Sends P t) : t.tp.ackHeld = s.tp.ackHeld := h.reports.tp_ackHeld
theorem tp_qgens (h : s.Sends P t) : t.tp.qgens = s.tp.qgens := h.reports.tp_qgens
theorem tp_rxq (h : s.Sends P t) : t.tp.rxq = s.tp.rxq := h.reports.tp_rxq
theorem tp_opens (h : s.Sends P t) : t.tp.opens = s.tp.opens := h.reports.tp_opens
theorem tp_bootCount (h : s.Sends P t) : t.tp.bootCount = s.tp.bootCount := h.reports.tp_bootCount
theorem on (h : s.Sends P t) (d : Nat) : t.on d = s.on d := h.reports.on d
theorem kept (h : s.Sends P t) (a : Nat) (ha : P a) : t.peek a = s.peek a := h.reports.kept a ha

end State.Sends

theorem recPush_reports (s : State) (src : Nat) (bytes : List Byte) : s.Reports (fun _ => True) (s.recPush src bytes) := by
  unfold State.recPush
  split
  · exact ⟨rfl, fun _ _ => rfl⟩
  · exact State.Reports.rfl_ _

theorem commitSel_reports (s : State) (cls kind : Nat) (bytes : List Byte) (sel : Queue → Bool) : s.Reports (fun _ => True) (s.commitSel cls kind bytes sel) := by
  unfold State.commitSel
  dsimp only
  split
  · refine State.Reports.trans ?_ (recPush_reports _ _ _)
    exact ⟨rfl, fun _ _ => rfl⟩
  · exact ⟨rfl, fun _ _ => rfl⟩

theorem commitRecord_reports (s : State) (cls kind : Nat) (bytes : List Byte) : s.Reports (fun _ => True) (s.commitRecord cls kind bytes) := commitSel_reports _ _ _ _ _

theorem commitHeader_reports (s : State) (bytes : List Byte) : s.Reports (fun _ => True) (s.commitHeader bytes) := by
  unfold State.commitHeader
  dsimp only
  refine State.Reports.trans (State.Reports.trans (State.Reports.trans ?_ (commitRecord_reports _ _ _ _)) (commitRecord_reports _ _ _ _)) (commitRecord_reports _ _ _ _)
  exact ⟨rfl, fun _ _ => rfl⟩

theorem recPulse_reports (s : State) (input : Nat) (instant : Int) : s.Reports (fun _ => True) (s.recPulse input instant) := by
  unfold State.recPulse
  split
  · exact ⟨rfl, fun _ _ => rfl⟩
  · exact State.Reports.rfl_ _

theorem recMatch_reports (s : State) (kind page code : Nat) : s.Reports (fun _ => True) (s.recMatch kind page code) := by
  unfold State.recMatch
  refine State.Reports.foldl _ _ (fun s b => ?_) s
  dsimp only
  split
  · exact recPulse_reports _ _ _
  · exact State.Reports.rfl_ _

theorem emitEvent_reports (s : State) (kind page code a b count : Nat) : s.Reports (fun _ => True) (s.emitEvent kind page code a b count) := by
  unfold State.emitEvent
  exact (recMatch_reports _ _ _ _).trans (commitRecord_reports _ _ _ _)

theorem setF_reports (s : State) (f : Field) (v : Nat) : s.Reports (fun a => a ≠ f.addr) (s.setF f v) :=
  ⟨rfl, fun _ h => peek_setF_other s f v h⟩

theorem setBit_reports (s : State) (f : Field) (i : Nat) (b : Bool) : s.Reports (fun a => a ≠ f.addr) (s.setBit f i b) :=
  setF_reports s f _

theorem coalesced_reports (s : State) (l : List (Nat × Nat)) (P : Nat → Prop) :
    s.Reports P { s with sys := { s.sys with coalesced := l } } := ⟨rfl, fun _ _ => rfl⟩

theorem emit_reports (s : State) (o : Out) : s.Reports (fun _ => True) (s.emit o) := ⟨rfl, fun _ _ => rfl⟩

theorem raiseEvt_reports (s : State) (p bit : Nat) : s.Reports (fun a => a ≠ p * 0x1000 + 0x10) (s.raiseEvt p bit) := by
  have h : s.Reports (fun a => a ≠ p * 0x1000 + 0x10) (s.setBit (H.ISR p) bit true) := setBit_reports s (H.ISR p) bit true
  unfold State.raiseEvt
  split
  · exact State.Reports.rfl_ _
  · split
    · exact ⟨rfl, fun _ _ => rfl⟩
    · dsimp only
      split
      · exact h.trans (((emitEvent_reports _ 1 p bit _ _ _).mono (fun _ _ => trivial)).trans (coalesced_reports _ _ _))
      · exact h

theorem recErr_reports (s : State) (p code addr : Nat) : s.Reports (fun a => a ≠ p * 0x1000 + 0x10 ∧ a ≠ p * 0x1000 + 0x1C ∧ a ≠ p * 0x1000 + 0x20) (s.recErr p code addr) := by
  have r : ∀ s : State, s.Reports (fun a => a ≠ p * 0x1000 + 0x10 ∧ a ≠ p * 0x1000 + 0x1C ∧ a ≠ p * 0x1000 + 0x20) (s.raiseEvt p 31) :=
    fun s => (raiseEvt_reports s p 31).mono (fun _ h => h.1)
  have c : ∀ (s : State) (f : Field) (v : Nat), f.addr = p * 0x1000 + 0x1C ∨ f.addr = p * 0x1000 + 0x20 →
      s.Reports (fun a => a ≠ p * 0x1000 + 0x10 ∧ a ≠ p * 0x1000 + 0x1C ∧ a ≠ p * 0x1000 + 0x20) (s.setF f v) := by
    intro s f v h
    refine (setF_reports s f v).mono (fun a ha => ?_)
    rcases h with h | h <;> rw [h]
    · exact ha.2.1
    · exact ha.2.2
  unfold State.recErr
  split
  · exact State.Reports.rfl_ _
  · split
    · simp only [State.bump_eq]
      exact (c _ _ _ (.inl rfl)).trans (r _)
    · exact (((c _ _ _ (.inl rfl)).trans (c _ _ _ (.inl rfl))).trans (c _ _ _ (.inr rfl))).trans (r _)

theorem amend_reports (s : State) (f : List Byte → List Byte) : s.Reports (fun _ => True) (s.amend f) := by
  unfold State.amend
  split
  · exact State.Reports.rfl_ _
  · exact ⟨rfl, fun _ _ => rfl⟩

theorem noteCauses_reports (s : State) (cs : List Nat) : s.Reports (fun _ => True) (s.noteCauses cs) := by
  unfold State.noteCauses
  split
  · exact amend_reports _ _
  · exact State.Reports.rfl_ _

/-- What ends a run of frames is written on the last of the past ones, and nowhere else. -/
theorem markStop_eq (s : State) : ∃ p, s.markStop = { s with sch := { s.sch with past := p } } := by
  unfold State.markStop
  split
  · split
    · exact ⟨_, rfl⟩
    · exact ⟨_, rfl⟩
  · exact ⟨_, rfl⟩

/-- A transition is what is reported, the mark on the last of the past frames, and the end of a stay in `SAFE`. -/
theorem enterState_reports (s : State) (d : DevState) (cause : Nat) (others : List Nat) :
    ∃ t p w y, s.Reports (fun a => a ≠ F.SYS_STATE.STATE.addr) t ∧ s.enterState d cause others
      = { t with sch := { s.sch with past := p }, time := { s.time with warned := w }, sys := { t.sys with stay := y } } := by
  have c : ∀ (s : State) (f : Field) (v : Nat), f.addr = F.SYS_STATE.STATE.addr → s.Reports (fun a => a ≠ F.SYS_STATE.STATE.addr) (s.setF f v) :=
    fun s f v h => h ▸ setF_reports s f v
  have m : ∀ (v x : State) (w : List Nat) (y : List Nat), v = { s with time := { s.time with warned := w }, sys := { s.sys with stay := y } } →
      v.Reports (fun a => a ≠ F.SYS_STATE.STATE.addr) x →
      ∃ t p w y, s.Reports (fun a => a ≠ F.SYS_STATE.STATE.addr) t ∧ x.markStop
        = { t with sch := { s.sch with past := p }, time := { s.time with warned := w }, sys := { t.sys with stay := y } } := by
    intro v x w y hv h
    obtain ⟨p, hp⟩ := markStop_eq x
    refine ⟨{ s with regs := x.regs, sys := { x.sys with stay := s.sys.stay }, tp := x.tp, rcd := x.rcd }, p, w, y, ⟨?_, ?_⟩, ?_⟩
    · have e1 := congrArg State.sys h.same
      have e2 := congrArg State.tp h.same
      subst hv
      dsimp only at e1 e2 ⊢
      rw [e1, e2]
    · intro a ha
      subst hv
      exact h.kept a ha
    · subst hv
      have e := h.same
      rw [hp, h.sch]
      dsimp only at e ⊢
      rw [e]
  unfold State.enterState
  extract_lets old v
  have hv : ∃ w y, v = { s with time := { s.time with warned := w }, sys := { s.sys with stay := y } } := by
    show ∃ w y, (if d = .safe then s else s.endStay) = _
    split
    · exact ⟨s.time.warned, s.sys.stay, rfl⟩
    · exact ⟨[], [], rfl⟩
  obtain ⟨w, y, hv⟩ := hv
  clear_value v
  split
  · refine m v _ w y hv ?_
    exact ((((recMatch_reports v 2 0 cause).mono (fun _ _ => trivial)).trans (c _ F.SYS_STATE.STATE d.code rfl)).trans
      (c _ F.SYS_STATE.CAUSE cause rfl)).trans ((amend_reports _ _).mono (fun _ _ => trivial))
  · refine m v _ w y hv ?_
    refine State.Reports.trans ?_ ((emitEvent_reports _ 2 0 cause _ _ 0).mono (fun _ _ => trivial))
    have h := ((c v F.SYS_STATE.PREV old rfl).trans (c _ F.SYS_STATE.STATE d.code rfl)).trans (c _ F.SYS_STATE.CAUSE cause rfl)
    exact ⟨rfl, h.kept⟩

/-! ### The same, field by field -/

namespace State

@[simp] theorem recPush_pending (s : State) (src : Nat) (bytes : List Byte) : (s.recPush src bytes).pending = s.pending := (recPush_reports s src bytes).pending
@[simp] theorem recPush_now (s : State) (src : Nat) (bytes : List Byte) : (s.recPush src bytes).now = s.now := (recPush_reports s src bytes).now
@[simp] theorem recPush_free (s : State) (src : Nat) (bytes : List Byte) : (s.recPush src bytes).free = s.free := (recPush_reports s src bytes).free
@[simp] theorem recPush_shadow (s : State) (src : Nat) (bytes : List Byte) : (s.recPush src bytes).shadow = s.shadow := (recPush_reports s src bytes).shadow
@[simp] theorem recPush_ram (s : State) (src : Nat) (bytes : List Byte) : (s.recPush src bytes).ram = s.ram := (recPush_reports s src bytes).ram
@[simp] theorem recPush_frozen (s : State) (src : Nat) (bytes : List Byte) : (s.recPush src bytes).frozen = s.frozen := (recPush_reports s src bytes).frozen
@[simp] theorem recPush_mem (s : State) (src : Nat) (bytes : List Byte) : (s.recPush src bytes).mem = s.mem := (recPush_reports s src bytes).mem
@[simp] theorem recPush_rst (s : State) (src : Nat) (bytes : List Byte) : (s.recPush src bytes).rst = s.rst := (recPush_reports s src bytes).rst
@[simp] theorem recPush_pwr (s : State) (src : Nat) (bytes : List Byte) : (s.recPush src bytes).pwr = s.pwr := (recPush_reports s src bytes).pwr
@[simp] theorem recPush_thm (s : State) (src : Nat) (bytes : List Byte) : (s.recPush src bytes).thm = s.thm := (recPush_reports s src bytes).thm
@[simp] theorem recPush_time (s : State) (src : Nat) (bytes : List Byte) : (s.recPush src bytes).time = s.time := (recPush_reports s src bytes).time
@[simp] theorem recPush_sch (s : State) (src : Nat) (bytes : List Byte) : (s.recPush src bytes).sch = s.sch := (recPush_reports s src bytes).sch
@[simp] theorem recPush_ste (s : State) (src : Nat) (bytes : List Byte) : (s.recPush src bytes).ste = s.ste := (recPush_reports s src bytes).ste
@[simp] theorem recPush_emt (s : State) (src : Nat) (bytes : List Byte) : (s.recPush src bytes).emt = s.emt := (recPush_reports s src bytes).emt
@[simp] theorem recPush_etd (s : State) (src : Nat) (bytes : List Byte) : (s.recPush src bytes).etd = s.etd := (recPush_reports s src bytes).etd
@[simp] theorem recPush_rxc (s : State) (src : Nat) (bytes : List Byte) : (s.recPush src bytes).rxc = s.rxc := (recPush_reports s src bytes).rxc
@[simp] theorem recPush_grn (s : State) (src : Nat) (bytes : List Byte) : (s.recPush src bytes).grn = s.grn := (recPush_reports s src bytes).grn
@[simp] theorem recPush_crm (s : State) (src : Nat) (bytes : List Byte) : (s.recPush src bytes).crm = s.crm := (recPush_reports s src bytes).crm
@[simp] theorem recPush_saf (s : State) (src : Nat) (bytes : List Byte) : (s.recPush src bytes).saf = s.saf := (recPush_reports s src bytes).saf
@[simp] theorem recPush_net (s : State) (src : Nat) (bytes : List Byte) : (s.recPush src bytes).net = s.net := (recPush_reports s src bytes).net
@[simp] theorem recPush_cal (s : State) (src : Nat) (bytes : List Byte) : (s.recPush src bytes).cal = s.cal := (recPush_reports s src bytes).cal
@[simp] theorem recPush_hka (s : State) (src : Nat) (bytes : List Byte) : (s.recPush src bytes).hka = s.hka := (recPush_reports s src bytes).hka
@[simp] theorem recPush_exc (s : State) (src : Nat) (bytes : List Byte) : (s.recPush src bytes).exc = s.exc := (recPush_reports s src bytes).exc
@[simp] theorem recPush_pins (s : State) (src : Nat) (bytes : List Byte) : (s.recPush src bytes).pins = s.pins := (recPush_reports s src bytes).pins
@[simp] theorem recPush_sys_owner (s : State) (src : Nat) (bytes : List Byte) : (s.recPush src bytes).sys.owner = s.sys.owner := (recPush_reports s src bytes).sys_owner
@[simp] theorem recPush_sys_armed (s : State) (src : Nat) (bytes : List Byte) : (s.recPush src bytes).sys.armed = s.sys.armed := (recPush_reports s src bytes).sys_armed
@[simp] theorem recPush_sys_stay (s : State) (src : Nat) (bytes : List Byte) : (s.recPush src bytes).sys.stay = s.sys.stay := (recPush_reports s src bytes).sys_stay
@[simp] theorem recPush_sys_stopReq (s : State) (src : Nat) (bytes : List Byte) : (s.recPush src bytes).sys.stopReq = s.sys.stopReq := (recPush_reports s src bytes).sys_stopReq
@[simp] theorem recPush_sys_arisen (s : State) (src : Nat) (bytes : List Byte) : (s.recPush src bytes).sys.arisen = s.sys.arisen := (recPush_reports s src bytes).sys_arisen
@[simp] theorem recPush_sys_l0At (s : State) (src : Nat) (bytes : List Byte) : (s.recPush src bytes).sys.l0At = s.sys.l0At := (recPush_reports s src bytes).sys_l0At
@[simp] theorem recPush_sys_resetting (s : State) (src : Nat) (bytes : List Byte) : (s.recPush src bytes).sys.resetting = s.sys.resetting := (recPush_reports s src bytes).sys_resetting
@[simp] theorem recPush_tp_sessions (s : State) (src : Nat) (bytes : List Byte) : (s.recPush src bytes).tp.sessions = s.tp.sessions := (recPush_reports s src bytes).tp_sessions
@[simp] theorem recPush_tp_gens (s : State) (src : Nat) (bytes : List Byte) : (s.recPush src bytes).tp.gens = s.tp.gens := (recPush_reports s src bytes).tp_gens
@[simp] theorem recPush_tp_accepted (s : State) (src : Nat) (bytes : List Byte) : (s.recPush src bytes).tp.accepted = s.tp.accepted := (recPush_reports s src bytes).tp_accepted
@[simp] theorem recPush_tp_banks (s : State) (src : Nat) (bytes : List Byte) : (s.recPush src bytes).tp.banks = s.tp.banks := (recPush_reports s src bytes).tp_banks
@[simp] theorem recPush_tp_nor (s : State) (src : Nat) (bytes : List Byte) : (s.recPush src bytes).tp.nor = s.tp.nor := (recPush_reports s src bytes).tp_nor
@[simp] theorem recPush_tp_marker (s : State) (src : Nat) (bytes : List Byte) : (s.recPush src bytes).tp.marker = s.tp.marker := (recPush_reports s src bytes).tp_marker
@[simp] theorem recPush_tp_withheld (s : State) (src : Nat) (bytes : List Byte) : (s.recPush src bytes).tp.withheld = s.tp.withheld := (recPush_reports s src bytes).tp_withheld
@[simp] theorem recPush_tp_ackHeld (s : State) (src : Nat) (bytes : List Byte) : (s.recPush src bytes).tp.ackHeld = s.tp.ackHeld := (recPush_reports s src bytes).tp_ackHeld
@[simp] theorem recPush_tp_qgens (s : State) (src : Nat) (bytes : List Byte) : (s.recPush src bytes).tp.qgens = s.tp.qgens := (recPush_reports s src bytes).tp_qgens
@[simp] theorem recPush_tp_rxq (s : State) (src : Nat) (bytes : List Byte) : (s.recPush src bytes).tp.rxq = s.tp.rxq := (recPush_reports s src bytes).tp_rxq
@[simp] theorem recPush_tp_opens (s : State) (src : Nat) (bytes : List Byte) : (s.recPush src bytes).tp.opens = s.tp.opens := (recPush_reports s src bytes).tp_opens
@[simp] theorem recPush_tp_bootCount (s : State) (src : Nat) (bytes : List Byte) : (s.recPush src bytes).tp.bootCount = s.tp.bootCount := (recPush_reports s src bytes).tp_bootCount
@[simp] theorem recPush_on (s : State) (src : Nat) (bytes : List Byte) (dom : Nat) : (s.recPush src bytes).on dom = s.on dom := (recPush_reports s src bytes).on dom
@[simp] theorem recPush_peek (s : State) (src : Nat) (bytes : List Byte) (x : Nat) : (s.recPush src bytes).peek x = s.peek x := (recPush_reports s src bytes).kept x trivial
@[simp] theorem recPush_getF (s : State) (src : Nat) (bytes : List Byte) (f : Field) : (s.recPush src bytes).getF f = s.getF f := getF_congr (recPush_peek s src bytes _)

@[simp] theorem commitRecord_pending (s : State) (cls kind : Nat) (bytes : List Byte) : (s.commitRecord cls kind bytes).pending = s.pending := (commitRecord_reports s cls kind bytes).pending
@[simp] theorem commitRecord_now (s : State) (cls kind : Nat) (bytes : List Byte) : (s.commitRecord cls kind bytes).now = s.now := (commitRecord_reports s cls kind bytes).now
@[simp] theorem commitRecord_free (s : State) (cls kind : Nat) (bytes : List Byte) : (s.commitRecord cls kind bytes).free = s.free := (commitRecord_reports s cls kind bytes).free
@[simp] theorem commitRecord_shadow (s : State) (cls kind : Nat) (bytes : List Byte) : (s.commitRecord cls kind bytes).shadow = s.shadow := (commitRecord_reports s cls kind bytes).shadow
@[simp] theorem commitRecord_ram (s : State) (cls kind : Nat) (bytes : List Byte) : (s.commitRecord cls kind bytes).ram = s.ram := (commitRecord_reports s cls kind bytes).ram
@[simp] theorem commitRecord_frozen (s : State) (cls kind : Nat) (bytes : List Byte) : (s.commitRecord cls kind bytes).frozen = s.frozen := (commitRecord_reports s cls kind bytes).frozen
@[simp] theorem commitRecord_mem (s : State) (cls kind : Nat) (bytes : List Byte) : (s.commitRecord cls kind bytes).mem = s.mem := (commitRecord_reports s cls kind bytes).mem
@[simp] theorem commitRecord_rst (s : State) (cls kind : Nat) (bytes : List Byte) : (s.commitRecord cls kind bytes).rst = s.rst := (commitRecord_reports s cls kind bytes).rst
@[simp] theorem commitRecord_pwr (s : State) (cls kind : Nat) (bytes : List Byte) : (s.commitRecord cls kind bytes).pwr = s.pwr := (commitRecord_reports s cls kind bytes).pwr
@[simp] theorem commitRecord_thm (s : State) (cls kind : Nat) (bytes : List Byte) : (s.commitRecord cls kind bytes).thm = s.thm := (commitRecord_reports s cls kind bytes).thm
@[simp] theorem commitRecord_time (s : State) (cls kind : Nat) (bytes : List Byte) : (s.commitRecord cls kind bytes).time = s.time := (commitRecord_reports s cls kind bytes).time
@[simp] theorem commitRecord_sch (s : State) (cls kind : Nat) (bytes : List Byte) : (s.commitRecord cls kind bytes).sch = s.sch := (commitRecord_reports s cls kind bytes).sch
@[simp] theorem commitRecord_ste (s : State) (cls kind : Nat) (bytes : List Byte) : (s.commitRecord cls kind bytes).ste = s.ste := (commitRecord_reports s cls kind bytes).ste
@[simp] theorem commitRecord_emt (s : State) (cls kind : Nat) (bytes : List Byte) : (s.commitRecord cls kind bytes).emt = s.emt := (commitRecord_reports s cls kind bytes).emt
@[simp] theorem commitRecord_etd (s : State) (cls kind : Nat) (bytes : List Byte) : (s.commitRecord cls kind bytes).etd = s.etd := (commitRecord_reports s cls kind bytes).etd
@[simp] theorem commitRecord_rxc (s : State) (cls kind : Nat) (bytes : List Byte) : (s.commitRecord cls kind bytes).rxc = s.rxc := (commitRecord_reports s cls kind bytes).rxc
@[simp] theorem commitRecord_grn (s : State) (cls kind : Nat) (bytes : List Byte) : (s.commitRecord cls kind bytes).grn = s.grn := (commitRecord_reports s cls kind bytes).grn
@[simp] theorem commitRecord_crm (s : State) (cls kind : Nat) (bytes : List Byte) : (s.commitRecord cls kind bytes).crm = s.crm := (commitRecord_reports s cls kind bytes).crm
@[simp] theorem commitRecord_saf (s : State) (cls kind : Nat) (bytes : List Byte) : (s.commitRecord cls kind bytes).saf = s.saf := (commitRecord_reports s cls kind bytes).saf
@[simp] theorem commitRecord_net (s : State) (cls kind : Nat) (bytes : List Byte) : (s.commitRecord cls kind bytes).net = s.net := (commitRecord_reports s cls kind bytes).net
@[simp] theorem commitRecord_cal (s : State) (cls kind : Nat) (bytes : List Byte) : (s.commitRecord cls kind bytes).cal = s.cal := (commitRecord_reports s cls kind bytes).cal
@[simp] theorem commitRecord_hka (s : State) (cls kind : Nat) (bytes : List Byte) : (s.commitRecord cls kind bytes).hka = s.hka := (commitRecord_reports s cls kind bytes).hka
@[simp] theorem commitRecord_exc (s : State) (cls kind : Nat) (bytes : List Byte) : (s.commitRecord cls kind bytes).exc = s.exc := (commitRecord_reports s cls kind bytes).exc
@[simp] theorem commitRecord_pins (s : State) (cls kind : Nat) (bytes : List Byte) : (s.commitRecord cls kind bytes).pins = s.pins := (commitRecord_reports s cls kind bytes).pins
@[simp] theorem commitRecord_sys_owner (s : State) (cls kind : Nat) (bytes : List Byte) : (s.commitRecord cls kind bytes).sys.owner = s.sys.owner := (commitRecord_reports s cls kind bytes).sys_owner
@[simp] theorem commitRecord_sys_armed (s : State) (cls kind : Nat) (bytes : List Byte) : (s.commitRecord cls kind bytes).sys.armed = s.sys.armed := (commitRecord_reports s cls kind bytes).sys_armed
@[simp] theorem commitRecord_sys_stay (s : State) (cls kind : Nat) (bytes : List Byte) : (s.commitRecord cls kind bytes).sys.stay = s.sys.stay := (commitRecord_reports s cls kind bytes).sys_stay
@[simp] theorem commitRecord_sys_stopReq (s : State) (cls kind : Nat) (bytes : List Byte) : (s.commitRecord cls kind bytes).sys.stopReq = s.sys.stopReq := (commitRecord_reports s cls kind bytes).sys_stopReq
@[simp] theorem commitRecord_sys_arisen (s : State) (cls kind : Nat) (bytes : List Byte) : (s.commitRecord cls kind bytes).sys.arisen = s.sys.arisen := (commitRecord_reports s cls kind bytes).sys_arisen
@[simp] theorem commitRecord_sys_l0At (s : State) (cls kind : Nat) (bytes : List Byte) : (s.commitRecord cls kind bytes).sys.l0At = s.sys.l0At := (commitRecord_reports s cls kind bytes).sys_l0At
@[simp] theorem commitRecord_sys_resetting (s : State) (cls kind : Nat) (bytes : List Byte) : (s.commitRecord cls kind bytes).sys.resetting = s.sys.resetting := (commitRecord_reports s cls kind bytes).sys_resetting
@[simp] theorem commitRecord_tp_sessions (s : State) (cls kind : Nat) (bytes : List Byte) : (s.commitRecord cls kind bytes).tp.sessions = s.tp.sessions := (commitRecord_reports s cls kind bytes).tp_sessions
@[simp] theorem commitRecord_tp_gens (s : State) (cls kind : Nat) (bytes : List Byte) : (s.commitRecord cls kind bytes).tp.gens = s.tp.gens := (commitRecord_reports s cls kind bytes).tp_gens
@[simp] theorem commitRecord_tp_accepted (s : State) (cls kind : Nat) (bytes : List Byte) : (s.commitRecord cls kind bytes).tp.accepted = s.tp.accepted := (commitRecord_reports s cls kind bytes).tp_accepted
@[simp] theorem commitRecord_tp_banks (s : State) (cls kind : Nat) (bytes : List Byte) : (s.commitRecord cls kind bytes).tp.banks = s.tp.banks := (commitRecord_reports s cls kind bytes).tp_banks
@[simp] theorem commitRecord_tp_nor (s : State) (cls kind : Nat) (bytes : List Byte) : (s.commitRecord cls kind bytes).tp.nor = s.tp.nor := (commitRecord_reports s cls kind bytes).tp_nor
@[simp] theorem commitRecord_tp_marker (s : State) (cls kind : Nat) (bytes : List Byte) : (s.commitRecord cls kind bytes).tp.marker = s.tp.marker := (commitRecord_reports s cls kind bytes).tp_marker
@[simp] theorem commitRecord_tp_withheld (s : State) (cls kind : Nat) (bytes : List Byte) : (s.commitRecord cls kind bytes).tp.withheld = s.tp.withheld := (commitRecord_reports s cls kind bytes).tp_withheld
@[simp] theorem commitRecord_tp_ackHeld (s : State) (cls kind : Nat) (bytes : List Byte) : (s.commitRecord cls kind bytes).tp.ackHeld = s.tp.ackHeld := (commitRecord_reports s cls kind bytes).tp_ackHeld
@[simp] theorem commitRecord_tp_qgens (s : State) (cls kind : Nat) (bytes : List Byte) : (s.commitRecord cls kind bytes).tp.qgens = s.tp.qgens := (commitRecord_reports s cls kind bytes).tp_qgens
@[simp] theorem commitRecord_tp_rxq (s : State) (cls kind : Nat) (bytes : List Byte) : (s.commitRecord cls kind bytes).tp.rxq = s.tp.rxq := (commitRecord_reports s cls kind bytes).tp_rxq
@[simp] theorem commitRecord_tp_opens (s : State) (cls kind : Nat) (bytes : List Byte) : (s.commitRecord cls kind bytes).tp.opens = s.tp.opens := (commitRecord_reports s cls kind bytes).tp_opens
@[simp] theorem commitRecord_tp_bootCount (s : State) (cls kind : Nat) (bytes : List Byte) : (s.commitRecord cls kind bytes).tp.bootCount = s.tp.bootCount := (commitRecord_reports s cls kind bytes).tp_bootCount
@[simp] theorem commitRecord_on (s : State) (cls kind : Nat) (bytes : List Byte) (dom : Nat) : (s.commitRecord cls kind bytes).on dom = s.on dom := (commitRecord_reports s cls kind bytes).on dom
@[simp] theorem commitRecord_peek (s : State) (cls kind : Nat) (bytes : List Byte) (x : Nat) : (s.commitRecord cls kind bytes).peek x = s.peek x := (commitRecord_reports s cls kind bytes).kept x trivial
@[simp] theorem commitRecord_getF (s : State) (cls kind : Nat) (bytes : List Byte) (f : Field) : (s.commitRecord cls kind bytes).getF f = s.getF f := getF_congr (commitRecord_peek s cls kind bytes _)

@[simp] theorem commitHeader_pending (s : State) (bytes : List Byte) : (s.commitHeader bytes).pending = s.pending := (commitHeader_reports s bytes).pending
@[simp] theorem commitHeader_now (s : State) (bytes : List Byte) : (s.commitHeader bytes).now = s.now := (commitHeader_reports s bytes).now
@[simp] theorem commitHeader_free (s : State) (bytes : List Byte) : (s.commitHeader bytes).free = s.free := (commitHeader_reports s bytes).free
@[simp] theorem commitHeader_shadow (s : State) (bytes : List Byte) : (s.commitHeader bytes).shadow = s.shadow := (commitHeader_reports s bytes).shadow
@[simp] theorem commitHeader_ram (s : State) (bytes : List Byte) : (s.commitHeader bytes).ram = s.ram := (commitHeader_reports s bytes).ram
@[simp] theorem commitHeader_frozen (s : State) (bytes : List Byte) : (s.commitHeader bytes).frozen = s.frozen := (commitHeader_reports s bytes).frozen
@[simp] theorem commitHeader_mem (s : State) (bytes : List Byte) : (s.commitHeader bytes).mem = s.mem := (commitHeader_reports s bytes).mem
@[simp] theorem commitHeader_rst (s : State) (bytes : List Byte) : (s.commitHeader bytes).rst = s.rst := (commitHeader_reports s bytes).rst
@[simp] theorem commitHeader_pwr (s : State) (bytes : List Byte) : (s.commitHeader bytes).pwr = s.pwr := (commitHeader_reports s bytes).pwr
@[simp] theorem commitHeader_thm (s : State) (bytes : List Byte) : (s.commitHeader bytes).thm = s.thm := (commitHeader_reports s bytes).thm
@[simp] theorem commitHeader_time (s : State) (bytes : List Byte) : (s.commitHeader bytes).time = s.time := (commitHeader_reports s bytes).time
@[simp] theorem commitHeader_sch (s : State) (bytes : List Byte) : (s.commitHeader bytes).sch = s.sch := (commitHeader_reports s bytes).sch
@[simp] theorem commitHeader_ste (s : State) (bytes : List Byte) : (s.commitHeader bytes).ste = s.ste := (commitHeader_reports s bytes).ste
@[simp] theorem commitHeader_emt (s : State) (bytes : List Byte) : (s.commitHeader bytes).emt = s.emt := (commitHeader_reports s bytes).emt
@[simp] theorem commitHeader_etd (s : State) (bytes : List Byte) : (s.commitHeader bytes).etd = s.etd := (commitHeader_reports s bytes).etd
@[simp] theorem commitHeader_rxc (s : State) (bytes : List Byte) : (s.commitHeader bytes).rxc = s.rxc := (commitHeader_reports s bytes).rxc
@[simp] theorem commitHeader_grn (s : State) (bytes : List Byte) : (s.commitHeader bytes).grn = s.grn := (commitHeader_reports s bytes).grn
@[simp] theorem commitHeader_crm (s : State) (bytes : List Byte) : (s.commitHeader bytes).crm = s.crm := (commitHeader_reports s bytes).crm
@[simp] theorem commitHeader_saf (s : State) (bytes : List Byte) : (s.commitHeader bytes).saf = s.saf := (commitHeader_reports s bytes).saf
@[simp] theorem commitHeader_net (s : State) (bytes : List Byte) : (s.commitHeader bytes).net = s.net := (commitHeader_reports s bytes).net
@[simp] theorem commitHeader_cal (s : State) (bytes : List Byte) : (s.commitHeader bytes).cal = s.cal := (commitHeader_reports s bytes).cal
@[simp] theorem commitHeader_hka (s : State) (bytes : List Byte) : (s.commitHeader bytes).hka = s.hka := (commitHeader_reports s bytes).hka
@[simp] theorem commitHeader_exc (s : State) (bytes : List Byte) : (s.commitHeader bytes).exc = s.exc := (commitHeader_reports s bytes).exc
@[simp] theorem commitHeader_pins (s : State) (bytes : List Byte) : (s.commitHeader bytes).pins = s.pins := (commitHeader_reports s bytes).pins
@[simp] theorem commitHeader_sys_owner (s : State) (bytes : List Byte) : (s.commitHeader bytes).sys.owner = s.sys.owner := (commitHeader_reports s bytes).sys_owner
@[simp] theorem commitHeader_sys_armed (s : State) (bytes : List Byte) : (s.commitHeader bytes).sys.armed = s.sys.armed := (commitHeader_reports s bytes).sys_armed
@[simp] theorem commitHeader_sys_stay (s : State) (bytes : List Byte) : (s.commitHeader bytes).sys.stay = s.sys.stay := (commitHeader_reports s bytes).sys_stay
@[simp] theorem commitHeader_sys_stopReq (s : State) (bytes : List Byte) : (s.commitHeader bytes).sys.stopReq = s.sys.stopReq := (commitHeader_reports s bytes).sys_stopReq
@[simp] theorem commitHeader_sys_arisen (s : State) (bytes : List Byte) : (s.commitHeader bytes).sys.arisen = s.sys.arisen := (commitHeader_reports s bytes).sys_arisen
@[simp] theorem commitHeader_sys_l0At (s : State) (bytes : List Byte) : (s.commitHeader bytes).sys.l0At = s.sys.l0At := (commitHeader_reports s bytes).sys_l0At
@[simp] theorem commitHeader_sys_resetting (s : State) (bytes : List Byte) : (s.commitHeader bytes).sys.resetting = s.sys.resetting := (commitHeader_reports s bytes).sys_resetting
@[simp] theorem commitHeader_tp_sessions (s : State) (bytes : List Byte) : (s.commitHeader bytes).tp.sessions = s.tp.sessions := (commitHeader_reports s bytes).tp_sessions
@[simp] theorem commitHeader_tp_gens (s : State) (bytes : List Byte) : (s.commitHeader bytes).tp.gens = s.tp.gens := (commitHeader_reports s bytes).tp_gens
@[simp] theorem commitHeader_tp_accepted (s : State) (bytes : List Byte) : (s.commitHeader bytes).tp.accepted = s.tp.accepted := (commitHeader_reports s bytes).tp_accepted
@[simp] theorem commitHeader_tp_banks (s : State) (bytes : List Byte) : (s.commitHeader bytes).tp.banks = s.tp.banks := (commitHeader_reports s bytes).tp_banks
@[simp] theorem commitHeader_tp_nor (s : State) (bytes : List Byte) : (s.commitHeader bytes).tp.nor = s.tp.nor := (commitHeader_reports s bytes).tp_nor
@[simp] theorem commitHeader_tp_marker (s : State) (bytes : List Byte) : (s.commitHeader bytes).tp.marker = s.tp.marker := (commitHeader_reports s bytes).tp_marker
@[simp] theorem commitHeader_tp_withheld (s : State) (bytes : List Byte) : (s.commitHeader bytes).tp.withheld = s.tp.withheld := (commitHeader_reports s bytes).tp_withheld
@[simp] theorem commitHeader_tp_ackHeld (s : State) (bytes : List Byte) : (s.commitHeader bytes).tp.ackHeld = s.tp.ackHeld := (commitHeader_reports s bytes).tp_ackHeld
@[simp] theorem commitHeader_tp_qgens (s : State) (bytes : List Byte) : (s.commitHeader bytes).tp.qgens = s.tp.qgens := (commitHeader_reports s bytes).tp_qgens
@[simp] theorem commitHeader_tp_rxq (s : State) (bytes : List Byte) : (s.commitHeader bytes).tp.rxq = s.tp.rxq := (commitHeader_reports s bytes).tp_rxq
@[simp] theorem commitHeader_tp_opens (s : State) (bytes : List Byte) : (s.commitHeader bytes).tp.opens = s.tp.opens := (commitHeader_reports s bytes).tp_opens
@[simp] theorem commitHeader_tp_bootCount (s : State) (bytes : List Byte) : (s.commitHeader bytes).tp.bootCount = s.tp.bootCount := (commitHeader_reports s bytes).tp_bootCount
@[simp] theorem commitHeader_on (s : State) (bytes : List Byte) (dom : Nat) : (s.commitHeader bytes).on dom = s.on dom := (commitHeader_reports s bytes).on dom
@[simp] theorem commitHeader_peek (s : State) (bytes : List Byte) (x : Nat) : (s.commitHeader bytes).peek x = s.peek x := (commitHeader_reports s bytes).kept x trivial
@[simp] theorem commitHeader_getF (s : State) (bytes : List Byte) (f : Field) : (s.commitHeader bytes).getF f = s.getF f := getF_congr (commitHeader_peek s bytes _)

@[simp] theorem recPulse_pending (s : State) (input : Nat) (instant : Int) : (s.recPulse input instant).pending = s.pending := (recPulse_reports s input instant).pending
@[simp] theorem recPulse_now (s : State) (input : Nat) (instant : Int) : (s.recPulse input instant).now = s.now := (recPulse_reports s input instant).now
@[simp] theorem recPulse_free (s : State) (input : Nat) (instant : Int) : (s.recPulse input instant).free = s.free := (recPulse_reports s input instant).free
@[simp] theorem recPulse_shadow (s : State) (input : Nat) (instant : Int) : (s.recPulse input instant).shadow = s.shadow := (recPulse_reports s input instant).shadow
@[simp] theorem recPulse_ram (s : State) (input : Nat) (instant : Int) : (s.recPulse input instant).ram = s.ram := (recPulse_reports s input instant).ram
@[simp] theorem recPulse_frozen (s : State) (input : Nat) (instant : Int) : (s.recPulse input instant).frozen = s.frozen := (recPulse_reports s input instant).frozen
@[simp] theorem recPulse_mem (s : State) (input : Nat) (instant : Int) : (s.recPulse input instant).mem = s.mem := (recPulse_reports s input instant).mem
@[simp] theorem recPulse_rst (s : State) (input : Nat) (instant : Int) : (s.recPulse input instant).rst = s.rst := (recPulse_reports s input instant).rst
@[simp] theorem recPulse_pwr (s : State) (input : Nat) (instant : Int) : (s.recPulse input instant).pwr = s.pwr := (recPulse_reports s input instant).pwr
@[simp] theorem recPulse_thm (s : State) (input : Nat) (instant : Int) : (s.recPulse input instant).thm = s.thm := (recPulse_reports s input instant).thm
@[simp] theorem recPulse_time (s : State) (input : Nat) (instant : Int) : (s.recPulse input instant).time = s.time := (recPulse_reports s input instant).time
@[simp] theorem recPulse_sch (s : State) (input : Nat) (instant : Int) : (s.recPulse input instant).sch = s.sch := (recPulse_reports s input instant).sch
@[simp] theorem recPulse_ste (s : State) (input : Nat) (instant : Int) : (s.recPulse input instant).ste = s.ste := (recPulse_reports s input instant).ste
@[simp] theorem recPulse_emt (s : State) (input : Nat) (instant : Int) : (s.recPulse input instant).emt = s.emt := (recPulse_reports s input instant).emt
@[simp] theorem recPulse_etd (s : State) (input : Nat) (instant : Int) : (s.recPulse input instant).etd = s.etd := (recPulse_reports s input instant).etd
@[simp] theorem recPulse_rxc (s : State) (input : Nat) (instant : Int) : (s.recPulse input instant).rxc = s.rxc := (recPulse_reports s input instant).rxc
@[simp] theorem recPulse_grn (s : State) (input : Nat) (instant : Int) : (s.recPulse input instant).grn = s.grn := (recPulse_reports s input instant).grn
@[simp] theorem recPulse_crm (s : State) (input : Nat) (instant : Int) : (s.recPulse input instant).crm = s.crm := (recPulse_reports s input instant).crm
@[simp] theorem recPulse_saf (s : State) (input : Nat) (instant : Int) : (s.recPulse input instant).saf = s.saf := (recPulse_reports s input instant).saf
@[simp] theorem recPulse_net (s : State) (input : Nat) (instant : Int) : (s.recPulse input instant).net = s.net := (recPulse_reports s input instant).net
@[simp] theorem recPulse_cal (s : State) (input : Nat) (instant : Int) : (s.recPulse input instant).cal = s.cal := (recPulse_reports s input instant).cal
@[simp] theorem recPulse_hka (s : State) (input : Nat) (instant : Int) : (s.recPulse input instant).hka = s.hka := (recPulse_reports s input instant).hka
@[simp] theorem recPulse_exc (s : State) (input : Nat) (instant : Int) : (s.recPulse input instant).exc = s.exc := (recPulse_reports s input instant).exc
@[simp] theorem recPulse_pins (s : State) (input : Nat) (instant : Int) : (s.recPulse input instant).pins = s.pins := (recPulse_reports s input instant).pins
@[simp] theorem recPulse_sys_owner (s : State) (input : Nat) (instant : Int) : (s.recPulse input instant).sys.owner = s.sys.owner := (recPulse_reports s input instant).sys_owner
@[simp] theorem recPulse_sys_armed (s : State) (input : Nat) (instant : Int) : (s.recPulse input instant).sys.armed = s.sys.armed := (recPulse_reports s input instant).sys_armed
@[simp] theorem recPulse_sys_stay (s : State) (input : Nat) (instant : Int) : (s.recPulse input instant).sys.stay = s.sys.stay := (recPulse_reports s input instant).sys_stay
@[simp] theorem recPulse_sys_stopReq (s : State) (input : Nat) (instant : Int) : (s.recPulse input instant).sys.stopReq = s.sys.stopReq := (recPulse_reports s input instant).sys_stopReq
@[simp] theorem recPulse_sys_arisen (s : State) (input : Nat) (instant : Int) : (s.recPulse input instant).sys.arisen = s.sys.arisen := (recPulse_reports s input instant).sys_arisen
@[simp] theorem recPulse_sys_l0At (s : State) (input : Nat) (instant : Int) : (s.recPulse input instant).sys.l0At = s.sys.l0At := (recPulse_reports s input instant).sys_l0At
@[simp] theorem recPulse_sys_resetting (s : State) (input : Nat) (instant : Int) : (s.recPulse input instant).sys.resetting = s.sys.resetting := (recPulse_reports s input instant).sys_resetting
@[simp] theorem recPulse_tp_sessions (s : State) (input : Nat) (instant : Int) : (s.recPulse input instant).tp.sessions = s.tp.sessions := (recPulse_reports s input instant).tp_sessions
@[simp] theorem recPulse_tp_gens (s : State) (input : Nat) (instant : Int) : (s.recPulse input instant).tp.gens = s.tp.gens := (recPulse_reports s input instant).tp_gens
@[simp] theorem recPulse_tp_accepted (s : State) (input : Nat) (instant : Int) : (s.recPulse input instant).tp.accepted = s.tp.accepted := (recPulse_reports s input instant).tp_accepted
@[simp] theorem recPulse_tp_banks (s : State) (input : Nat) (instant : Int) : (s.recPulse input instant).tp.banks = s.tp.banks := (recPulse_reports s input instant).tp_banks
@[simp] theorem recPulse_tp_nor (s : State) (input : Nat) (instant : Int) : (s.recPulse input instant).tp.nor = s.tp.nor := (recPulse_reports s input instant).tp_nor
@[simp] theorem recPulse_tp_marker (s : State) (input : Nat) (instant : Int) : (s.recPulse input instant).tp.marker = s.tp.marker := (recPulse_reports s input instant).tp_marker
@[simp] theorem recPulse_tp_withheld (s : State) (input : Nat) (instant : Int) : (s.recPulse input instant).tp.withheld = s.tp.withheld := (recPulse_reports s input instant).tp_withheld
@[simp] theorem recPulse_tp_ackHeld (s : State) (input : Nat) (instant : Int) : (s.recPulse input instant).tp.ackHeld = s.tp.ackHeld := (recPulse_reports s input instant).tp_ackHeld
@[simp] theorem recPulse_tp_qgens (s : State) (input : Nat) (instant : Int) : (s.recPulse input instant).tp.qgens = s.tp.qgens := (recPulse_reports s input instant).tp_qgens
@[simp] theorem recPulse_tp_rxq (s : State) (input : Nat) (instant : Int) : (s.recPulse input instant).tp.rxq = s.tp.rxq := (recPulse_reports s input instant).tp_rxq
@[simp] theorem recPulse_tp_opens (s : State) (input : Nat) (instant : Int) : (s.recPulse input instant).tp.opens = s.tp.opens := (recPulse_reports s input instant).tp_opens
@[simp] theorem recPulse_tp_bootCount (s : State) (input : Nat) (instant : Int) : (s.recPulse input instant).tp.bootCount = s.tp.bootCount := (recPulse_reports s input instant).tp_bootCount
@[simp] theorem recPulse_on (s : State) (input : Nat) (instant : Int) (dom : Nat) : (s.recPulse input instant).on dom = s.on dom := (recPulse_reports s input instant).on dom
@[simp] theorem recPulse_peek (s : State) (input : Nat) (instant : Int) (x : Nat) : (s.recPulse input instant).peek x = s.peek x := (recPulse_reports s input instant).kept x trivial
@[simp] theorem recPulse_getF (s : State) (input : Nat) (instant : Int) (f : Field) : (s.recPulse input instant).getF f = s.getF f := getF_congr (recPulse_peek s input instant _)

@[simp] theorem recMatch_pending (s : State) (kind page code : Nat) : (s.recMatch kind page code).pending = s.pending := (recMatch_reports s kind page code).pending
@[simp] theorem recMatch_now (s : State) (kind page code : Nat) : (s.recMatch kind page code).now = s.now := (recMatch_reports s kind page code).now
@[simp] theorem recMatch_free (s : State) (kind page code : Nat) : (s.recMatch kind page code).free = s.free := (recMatch_reports s kind page code).free
@[simp] theorem recMatch_shadow (s : State) (kind page code : Nat) : (s.recMatch kind page code).shadow = s.shadow := (recMatch_reports s kind page code).shadow
@[simp] theorem recMatch_ram (s : State) (kind page code : Nat) : (s.recMatch kind page code).ram = s.ram := (recMatch_reports s kind page code).ram
@[simp] theorem recMatch_frozen (s : State) (kind page code : Nat) : (s.recMatch kind page code).frozen = s.frozen := (recMatch_reports s kind page code).frozen
@[simp] theorem recMatch_mem (s : State) (kind page code : Nat) : (s.recMatch kind page code).mem = s.mem := (recMatch_reports s kind page code).mem
@[simp] theorem recMatch_rst (s : State) (kind page code : Nat) : (s.recMatch kind page code).rst = s.rst := (recMatch_reports s kind page code).rst
@[simp] theorem recMatch_pwr (s : State) (kind page code : Nat) : (s.recMatch kind page code).pwr = s.pwr := (recMatch_reports s kind page code).pwr
@[simp] theorem recMatch_thm (s : State) (kind page code : Nat) : (s.recMatch kind page code).thm = s.thm := (recMatch_reports s kind page code).thm
@[simp] theorem recMatch_time (s : State) (kind page code : Nat) : (s.recMatch kind page code).time = s.time := (recMatch_reports s kind page code).time
@[simp] theorem recMatch_sch (s : State) (kind page code : Nat) : (s.recMatch kind page code).sch = s.sch := (recMatch_reports s kind page code).sch
@[simp] theorem recMatch_ste (s : State) (kind page code : Nat) : (s.recMatch kind page code).ste = s.ste := (recMatch_reports s kind page code).ste
@[simp] theorem recMatch_emt (s : State) (kind page code : Nat) : (s.recMatch kind page code).emt = s.emt := (recMatch_reports s kind page code).emt
@[simp] theorem recMatch_etd (s : State) (kind page code : Nat) : (s.recMatch kind page code).etd = s.etd := (recMatch_reports s kind page code).etd
@[simp] theorem recMatch_rxc (s : State) (kind page code : Nat) : (s.recMatch kind page code).rxc = s.rxc := (recMatch_reports s kind page code).rxc
@[simp] theorem recMatch_grn (s : State) (kind page code : Nat) : (s.recMatch kind page code).grn = s.grn := (recMatch_reports s kind page code).grn
@[simp] theorem recMatch_crm (s : State) (kind page code : Nat) : (s.recMatch kind page code).crm = s.crm := (recMatch_reports s kind page code).crm
@[simp] theorem recMatch_saf (s : State) (kind page code : Nat) : (s.recMatch kind page code).saf = s.saf := (recMatch_reports s kind page code).saf
@[simp] theorem recMatch_net (s : State) (kind page code : Nat) : (s.recMatch kind page code).net = s.net := (recMatch_reports s kind page code).net
@[simp] theorem recMatch_cal (s : State) (kind page code : Nat) : (s.recMatch kind page code).cal = s.cal := (recMatch_reports s kind page code).cal
@[simp] theorem recMatch_hka (s : State) (kind page code : Nat) : (s.recMatch kind page code).hka = s.hka := (recMatch_reports s kind page code).hka
@[simp] theorem recMatch_exc (s : State) (kind page code : Nat) : (s.recMatch kind page code).exc = s.exc := (recMatch_reports s kind page code).exc
@[simp] theorem recMatch_pins (s : State) (kind page code : Nat) : (s.recMatch kind page code).pins = s.pins := (recMatch_reports s kind page code).pins
@[simp] theorem recMatch_sys_owner (s : State) (kind page code : Nat) : (s.recMatch kind page code).sys.owner = s.sys.owner := (recMatch_reports s kind page code).sys_owner
@[simp] theorem recMatch_sys_armed (s : State) (kind page code : Nat) : (s.recMatch kind page code).sys.armed = s.sys.armed := (recMatch_reports s kind page code).sys_armed
@[simp] theorem recMatch_sys_stay (s : State) (kind page code : Nat) : (s.recMatch kind page code).sys.stay = s.sys.stay := (recMatch_reports s kind page code).sys_stay
@[simp] theorem recMatch_sys_stopReq (s : State) (kind page code : Nat) : (s.recMatch kind page code).sys.stopReq = s.sys.stopReq := (recMatch_reports s kind page code).sys_stopReq
@[simp] theorem recMatch_sys_arisen (s : State) (kind page code : Nat) : (s.recMatch kind page code).sys.arisen = s.sys.arisen := (recMatch_reports s kind page code).sys_arisen
@[simp] theorem recMatch_sys_l0At (s : State) (kind page code : Nat) : (s.recMatch kind page code).sys.l0At = s.sys.l0At := (recMatch_reports s kind page code).sys_l0At
@[simp] theorem recMatch_sys_resetting (s : State) (kind page code : Nat) : (s.recMatch kind page code).sys.resetting = s.sys.resetting := (recMatch_reports s kind page code).sys_resetting
@[simp] theorem recMatch_tp_sessions (s : State) (kind page code : Nat) : (s.recMatch kind page code).tp.sessions = s.tp.sessions := (recMatch_reports s kind page code).tp_sessions
@[simp] theorem recMatch_tp_gens (s : State) (kind page code : Nat) : (s.recMatch kind page code).tp.gens = s.tp.gens := (recMatch_reports s kind page code).tp_gens
@[simp] theorem recMatch_tp_accepted (s : State) (kind page code : Nat) : (s.recMatch kind page code).tp.accepted = s.tp.accepted := (recMatch_reports s kind page code).tp_accepted
@[simp] theorem recMatch_tp_banks (s : State) (kind page code : Nat) : (s.recMatch kind page code).tp.banks = s.tp.banks := (recMatch_reports s kind page code).tp_banks
@[simp] theorem recMatch_tp_nor (s : State) (kind page code : Nat) : (s.recMatch kind page code).tp.nor = s.tp.nor := (recMatch_reports s kind page code).tp_nor
@[simp] theorem recMatch_tp_marker (s : State) (kind page code : Nat) : (s.recMatch kind page code).tp.marker = s.tp.marker := (recMatch_reports s kind page code).tp_marker
@[simp] theorem recMatch_tp_withheld (s : State) (kind page code : Nat) : (s.recMatch kind page code).tp.withheld = s.tp.withheld := (recMatch_reports s kind page code).tp_withheld
@[simp] theorem recMatch_tp_ackHeld (s : State) (kind page code : Nat) : (s.recMatch kind page code).tp.ackHeld = s.tp.ackHeld := (recMatch_reports s kind page code).tp_ackHeld
@[simp] theorem recMatch_tp_qgens (s : State) (kind page code : Nat) : (s.recMatch kind page code).tp.qgens = s.tp.qgens := (recMatch_reports s kind page code).tp_qgens
@[simp] theorem recMatch_tp_rxq (s : State) (kind page code : Nat) : (s.recMatch kind page code).tp.rxq = s.tp.rxq := (recMatch_reports s kind page code).tp_rxq
@[simp] theorem recMatch_tp_opens (s : State) (kind page code : Nat) : (s.recMatch kind page code).tp.opens = s.tp.opens := (recMatch_reports s kind page code).tp_opens
@[simp] theorem recMatch_tp_bootCount (s : State) (kind page code : Nat) : (s.recMatch kind page code).tp.bootCount = s.tp.bootCount := (recMatch_reports s kind page code).tp_bootCount
@[simp] theorem recMatch_on (s : State) (kind page code : Nat) (dom : Nat) : (s.recMatch kind page code).on dom = s.on dom := (recMatch_reports s kind page code).on dom
@[simp] theorem recMatch_peek (s : State) (kind page code : Nat) (x : Nat) : (s.recMatch kind page code).peek x = s.peek x := (recMatch_reports s kind page code).kept x trivial
@[simp] theorem recMatch_getF (s : State) (kind page code : Nat) (f : Field) : (s.recMatch kind page code).getF f = s.getF f := getF_congr (recMatch_peek s kind page code _)

@[simp] theorem emitEvent_pending (s : State) (kind page code a b count : Nat) : (s.emitEvent kind page code a b count).pending = s.pending := (emitEvent_reports s kind page code a b count).pending
@[simp] theorem emitEvent_now (s : State) (kind page code a b count : Nat) : (s.emitEvent kind page code a b count).now = s.now := (emitEvent_reports s kind page code a b count).now
@[simp] theorem emitEvent_free (s : State) (kind page code a b count : Nat) : (s.emitEvent kind page code a b count).free = s.free := (emitEvent_reports s kind page code a b count).free
@[simp] theorem emitEvent_shadow (s : State) (kind page code a b count : Nat) : (s.emitEvent kind page code a b count).shadow = s.shadow := (emitEvent_reports s kind page code a b count).shadow
@[simp] theorem emitEvent_ram (s : State) (kind page code a b count : Nat) : (s.emitEvent kind page code a b count).ram = s.ram := (emitEvent_reports s kind page code a b count).ram
@[simp] theorem emitEvent_frozen (s : State) (kind page code a b count : Nat) : (s.emitEvent kind page code a b count).frozen = s.frozen := (emitEvent_reports s kind page code a b count).frozen
@[simp] theorem emitEvent_mem (s : State) (kind page code a b count : Nat) : (s.emitEvent kind page code a b count).mem = s.mem := (emitEvent_reports s kind page code a b count).mem
@[simp] theorem emitEvent_rst (s : State) (kind page code a b count : Nat) : (s.emitEvent kind page code a b count).rst = s.rst := (emitEvent_reports s kind page code a b count).rst
@[simp] theorem emitEvent_pwr (s : State) (kind page code a b count : Nat) : (s.emitEvent kind page code a b count).pwr = s.pwr := (emitEvent_reports s kind page code a b count).pwr
@[simp] theorem emitEvent_thm (s : State) (kind page code a b count : Nat) : (s.emitEvent kind page code a b count).thm = s.thm := (emitEvent_reports s kind page code a b count).thm
@[simp] theorem emitEvent_time (s : State) (kind page code a b count : Nat) : (s.emitEvent kind page code a b count).time = s.time := (emitEvent_reports s kind page code a b count).time
@[simp] theorem emitEvent_sch (s : State) (kind page code a b count : Nat) : (s.emitEvent kind page code a b count).sch = s.sch := (emitEvent_reports s kind page code a b count).sch
@[simp] theorem emitEvent_ste (s : State) (kind page code a b count : Nat) : (s.emitEvent kind page code a b count).ste = s.ste := (emitEvent_reports s kind page code a b count).ste
@[simp] theorem emitEvent_emt (s : State) (kind page code a b count : Nat) : (s.emitEvent kind page code a b count).emt = s.emt := (emitEvent_reports s kind page code a b count).emt
@[simp] theorem emitEvent_etd (s : State) (kind page code a b count : Nat) : (s.emitEvent kind page code a b count).etd = s.etd := (emitEvent_reports s kind page code a b count).etd
@[simp] theorem emitEvent_rxc (s : State) (kind page code a b count : Nat) : (s.emitEvent kind page code a b count).rxc = s.rxc := (emitEvent_reports s kind page code a b count).rxc
@[simp] theorem emitEvent_grn (s : State) (kind page code a b count : Nat) : (s.emitEvent kind page code a b count).grn = s.grn := (emitEvent_reports s kind page code a b count).grn
@[simp] theorem emitEvent_crm (s : State) (kind page code a b count : Nat) : (s.emitEvent kind page code a b count).crm = s.crm := (emitEvent_reports s kind page code a b count).crm
@[simp] theorem emitEvent_saf (s : State) (kind page code a b count : Nat) : (s.emitEvent kind page code a b count).saf = s.saf := (emitEvent_reports s kind page code a b count).saf
@[simp] theorem emitEvent_net (s : State) (kind page code a b count : Nat) : (s.emitEvent kind page code a b count).net = s.net := (emitEvent_reports s kind page code a b count).net
@[simp] theorem emitEvent_cal (s : State) (kind page code a b count : Nat) : (s.emitEvent kind page code a b count).cal = s.cal := (emitEvent_reports s kind page code a b count).cal
@[simp] theorem emitEvent_hka (s : State) (kind page code a b count : Nat) : (s.emitEvent kind page code a b count).hka = s.hka := (emitEvent_reports s kind page code a b count).hka
@[simp] theorem emitEvent_exc (s : State) (kind page code a b count : Nat) : (s.emitEvent kind page code a b count).exc = s.exc := (emitEvent_reports s kind page code a b count).exc
@[simp] theorem emitEvent_pins (s : State) (kind page code a b count : Nat) : (s.emitEvent kind page code a b count).pins = s.pins := (emitEvent_reports s kind page code a b count).pins
@[simp] theorem emitEvent_sys_owner (s : State) (kind page code a b count : Nat) : (s.emitEvent kind page code a b count).sys.owner = s.sys.owner := (emitEvent_reports s kind page code a b count).sys_owner
@[simp] theorem emitEvent_sys_armed (s : State) (kind page code a b count : Nat) : (s.emitEvent kind page code a b count).sys.armed = s.sys.armed := (emitEvent_reports s kind page code a b count).sys_armed
@[simp] theorem emitEvent_sys_stay (s : State) (kind page code a b count : Nat) : (s.emitEvent kind page code a b count).sys.stay = s.sys.stay := (emitEvent_reports s kind page code a b count).sys_stay
@[simp] theorem emitEvent_sys_stopReq (s : State) (kind page code a b count : Nat) : (s.emitEvent kind page code a b count).sys.stopReq = s.sys.stopReq := (emitEvent_reports s kind page code a b count).sys_stopReq
@[simp] theorem emitEvent_sys_arisen (s : State) (kind page code a b count : Nat) : (s.emitEvent kind page code a b count).sys.arisen = s.sys.arisen := (emitEvent_reports s kind page code a b count).sys_arisen
@[simp] theorem emitEvent_sys_l0At (s : State) (kind page code a b count : Nat) : (s.emitEvent kind page code a b count).sys.l0At = s.sys.l0At := (emitEvent_reports s kind page code a b count).sys_l0At
@[simp] theorem emitEvent_sys_resetting (s : State) (kind page code a b count : Nat) : (s.emitEvent kind page code a b count).sys.resetting = s.sys.resetting := (emitEvent_reports s kind page code a b count).sys_resetting
@[simp] theorem emitEvent_tp_sessions (s : State) (kind page code a b count : Nat) : (s.emitEvent kind page code a b count).tp.sessions = s.tp.sessions := (emitEvent_reports s kind page code a b count).tp_sessions
@[simp] theorem emitEvent_tp_gens (s : State) (kind page code a b count : Nat) : (s.emitEvent kind page code a b count).tp.gens = s.tp.gens := (emitEvent_reports s kind page code a b count).tp_gens
@[simp] theorem emitEvent_tp_accepted (s : State) (kind page code a b count : Nat) : (s.emitEvent kind page code a b count).tp.accepted = s.tp.accepted := (emitEvent_reports s kind page code a b count).tp_accepted
@[simp] theorem emitEvent_tp_banks (s : State) (kind page code a b count : Nat) : (s.emitEvent kind page code a b count).tp.banks = s.tp.banks := (emitEvent_reports s kind page code a b count).tp_banks
@[simp] theorem emitEvent_tp_nor (s : State) (kind page code a b count : Nat) : (s.emitEvent kind page code a b count).tp.nor = s.tp.nor := (emitEvent_reports s kind page code a b count).tp_nor
@[simp] theorem emitEvent_tp_marker (s : State) (kind page code a b count : Nat) : (s.emitEvent kind page code a b count).tp.marker = s.tp.marker := (emitEvent_reports s kind page code a b count).tp_marker
@[simp] theorem emitEvent_tp_withheld (s : State) (kind page code a b count : Nat) : (s.emitEvent kind page code a b count).tp.withheld = s.tp.withheld := (emitEvent_reports s kind page code a b count).tp_withheld
@[simp] theorem emitEvent_tp_ackHeld (s : State) (kind page code a b count : Nat) : (s.emitEvent kind page code a b count).tp.ackHeld = s.tp.ackHeld := (emitEvent_reports s kind page code a b count).tp_ackHeld
@[simp] theorem emitEvent_tp_qgens (s : State) (kind page code a b count : Nat) : (s.emitEvent kind page code a b count).tp.qgens = s.tp.qgens := (emitEvent_reports s kind page code a b count).tp_qgens
@[simp] theorem emitEvent_tp_rxq (s : State) (kind page code a b count : Nat) : (s.emitEvent kind page code a b count).tp.rxq = s.tp.rxq := (emitEvent_reports s kind page code a b count).tp_rxq
@[simp] theorem emitEvent_tp_opens (s : State) (kind page code a b count : Nat) : (s.emitEvent kind page code a b count).tp.opens = s.tp.opens := (emitEvent_reports s kind page code a b count).tp_opens
@[simp] theorem emitEvent_tp_bootCount (s : State) (kind page code a b count : Nat) : (s.emitEvent kind page code a b count).tp.bootCount = s.tp.bootCount := (emitEvent_reports s kind page code a b count).tp_bootCount
@[simp] theorem emitEvent_on (s : State) (kind page code a b count : Nat) (dom : Nat) : (s.emitEvent kind page code a b count).on dom = s.on dom := (emitEvent_reports s kind page code a b count).on dom
@[simp] theorem emitEvent_peek (s : State) (kind page code a b count : Nat) (x : Nat) : (s.emitEvent kind page code a b count).peek x = s.peek x := (emitEvent_reports s kind page code a b count).kept x trivial
@[simp] theorem emitEvent_getF (s : State) (kind page code a b count : Nat) (f : Field) : (s.emitEvent kind page code a b count).getF f = s.getF f := getF_congr (emitEvent_peek s kind page code a b count _)

@[simp] theorem raiseEvt_pending (s : State) (p bit : Nat) : (s.raiseEvt p bit).pending = s.pending := (raiseEvt_reports s p bit).pending
@[simp] theorem raiseEvt_now (s : State) (p bit : Nat) : (s.raiseEvt p bit).now = s.now := (raiseEvt_reports s p bit).now
@[simp] theorem raiseEvt_free (s : State) (p bit : Nat) : (s.raiseEvt p bit).free = s.free := (raiseEvt_reports s p bit).free
@[simp] theorem raiseEvt_shadow (s : State) (p bit : Nat) : (s.raiseEvt p bit).shadow = s.shadow := (raiseEvt_reports s p bit).shadow
@[simp] theorem raiseEvt_ram (s : State) (p bit : Nat) : (s.raiseEvt p bit).ram = s.ram := (raiseEvt_reports s p bit).ram
@[simp] theorem raiseEvt_frozen (s : State) (p bit : Nat) : (s.raiseEvt p bit).frozen = s.frozen := (raiseEvt_reports s p bit).frozen
@[simp] theorem raiseEvt_mem (s : State) (p bit : Nat) : (s.raiseEvt p bit).mem = s.mem := (raiseEvt_reports s p bit).mem
@[simp] theorem raiseEvt_rst (s : State) (p bit : Nat) : (s.raiseEvt p bit).rst = s.rst := (raiseEvt_reports s p bit).rst
@[simp] theorem raiseEvt_pwr (s : State) (p bit : Nat) : (s.raiseEvt p bit).pwr = s.pwr := (raiseEvt_reports s p bit).pwr
@[simp] theorem raiseEvt_thm (s : State) (p bit : Nat) : (s.raiseEvt p bit).thm = s.thm := (raiseEvt_reports s p bit).thm
@[simp] theorem raiseEvt_time (s : State) (p bit : Nat) : (s.raiseEvt p bit).time = s.time := (raiseEvt_reports s p bit).time
@[simp] theorem raiseEvt_sch (s : State) (p bit : Nat) : (s.raiseEvt p bit).sch = s.sch := (raiseEvt_reports s p bit).sch
@[simp] theorem raiseEvt_ste (s : State) (p bit : Nat) : (s.raiseEvt p bit).ste = s.ste := (raiseEvt_reports s p bit).ste
@[simp] theorem raiseEvt_emt (s : State) (p bit : Nat) : (s.raiseEvt p bit).emt = s.emt := (raiseEvt_reports s p bit).emt
@[simp] theorem raiseEvt_etd (s : State) (p bit : Nat) : (s.raiseEvt p bit).etd = s.etd := (raiseEvt_reports s p bit).etd
@[simp] theorem raiseEvt_rxc (s : State) (p bit : Nat) : (s.raiseEvt p bit).rxc = s.rxc := (raiseEvt_reports s p bit).rxc
@[simp] theorem raiseEvt_grn (s : State) (p bit : Nat) : (s.raiseEvt p bit).grn = s.grn := (raiseEvt_reports s p bit).grn
@[simp] theorem raiseEvt_crm (s : State) (p bit : Nat) : (s.raiseEvt p bit).crm = s.crm := (raiseEvt_reports s p bit).crm
@[simp] theorem raiseEvt_saf (s : State) (p bit : Nat) : (s.raiseEvt p bit).saf = s.saf := (raiseEvt_reports s p bit).saf
@[simp] theorem raiseEvt_net (s : State) (p bit : Nat) : (s.raiseEvt p bit).net = s.net := (raiseEvt_reports s p bit).net
@[simp] theorem raiseEvt_cal (s : State) (p bit : Nat) : (s.raiseEvt p bit).cal = s.cal := (raiseEvt_reports s p bit).cal
@[simp] theorem raiseEvt_hka (s : State) (p bit : Nat) : (s.raiseEvt p bit).hka = s.hka := (raiseEvt_reports s p bit).hka
@[simp] theorem raiseEvt_exc (s : State) (p bit : Nat) : (s.raiseEvt p bit).exc = s.exc := (raiseEvt_reports s p bit).exc
@[simp] theorem raiseEvt_pins (s : State) (p bit : Nat) : (s.raiseEvt p bit).pins = s.pins := (raiseEvt_reports s p bit).pins
@[simp] theorem raiseEvt_sys_owner (s : State) (p bit : Nat) : (s.raiseEvt p bit).sys.owner = s.sys.owner := (raiseEvt_reports s p bit).sys_owner
@[simp] theorem raiseEvt_sys_armed (s : State) (p bit : Nat) : (s.raiseEvt p bit).sys.armed = s.sys.armed := (raiseEvt_reports s p bit).sys_armed
@[simp] theorem raiseEvt_sys_stay (s : State) (p bit : Nat) : (s.raiseEvt p bit).sys.stay = s.sys.stay := (raiseEvt_reports s p bit).sys_stay
@[simp] theorem raiseEvt_sys_stopReq (s : State) (p bit : Nat) : (s.raiseEvt p bit).sys.stopReq = s.sys.stopReq := (raiseEvt_reports s p bit).sys_stopReq
@[simp] theorem raiseEvt_sys_arisen (s : State) (p bit : Nat) : (s.raiseEvt p bit).sys.arisen = s.sys.arisen := (raiseEvt_reports s p bit).sys_arisen
@[simp] theorem raiseEvt_sys_l0At (s : State) (p bit : Nat) : (s.raiseEvt p bit).sys.l0At = s.sys.l0At := (raiseEvt_reports s p bit).sys_l0At
@[simp] theorem raiseEvt_sys_resetting (s : State) (p bit : Nat) : (s.raiseEvt p bit).sys.resetting = s.sys.resetting := (raiseEvt_reports s p bit).sys_resetting
@[simp] theorem raiseEvt_tp_sessions (s : State) (p bit : Nat) : (s.raiseEvt p bit).tp.sessions = s.tp.sessions := (raiseEvt_reports s p bit).tp_sessions
@[simp] theorem raiseEvt_tp_gens (s : State) (p bit : Nat) : (s.raiseEvt p bit).tp.gens = s.tp.gens := (raiseEvt_reports s p bit).tp_gens
@[simp] theorem raiseEvt_tp_accepted (s : State) (p bit : Nat) : (s.raiseEvt p bit).tp.accepted = s.tp.accepted := (raiseEvt_reports s p bit).tp_accepted
@[simp] theorem raiseEvt_tp_banks (s : State) (p bit : Nat) : (s.raiseEvt p bit).tp.banks = s.tp.banks := (raiseEvt_reports s p bit).tp_banks
@[simp] theorem raiseEvt_tp_nor (s : State) (p bit : Nat) : (s.raiseEvt p bit).tp.nor = s.tp.nor := (raiseEvt_reports s p bit).tp_nor
@[simp] theorem raiseEvt_tp_marker (s : State) (p bit : Nat) : (s.raiseEvt p bit).tp.marker = s.tp.marker := (raiseEvt_reports s p bit).tp_marker
@[simp] theorem raiseEvt_tp_withheld (s : State) (p bit : Nat) : (s.raiseEvt p bit).tp.withheld = s.tp.withheld := (raiseEvt_reports s p bit).tp_withheld
@[simp] theorem raiseEvt_tp_ackHeld (s : State) (p bit : Nat) : (s.raiseEvt p bit).tp.ackHeld = s.tp.ackHeld := (raiseEvt_reports s p bit).tp_ackHeld
@[simp] theorem raiseEvt_tp_qgens (s : State) (p bit : Nat) : (s.raiseEvt p bit).tp.qgens = s.tp.qgens := (raiseEvt_reports s p bit).tp_qgens
@[simp] theorem raiseEvt_tp_rxq (s : State) (p bit : Nat) : (s.raiseEvt p bit).tp.rxq = s.tp.rxq := (raiseEvt_reports s p bit).tp_rxq
@[simp] theorem raiseEvt_tp_opens (s : State) (p bit : Nat) : (s.raiseEvt p bit).tp.opens = s.tp.opens := (raiseEvt_reports s p bit).tp_opens
@[simp] theorem raiseEvt_tp_bootCount (s : State) (p bit : Nat) : (s.raiseEvt p bit).tp.bootCount = s.tp.bootCount := (raiseEvt_reports s p bit).tp_bootCount
@[simp] theorem raiseEvt_on (s : State) (p bit : Nat) (dom : Nat) : (s.raiseEvt p bit).on dom = s.on dom := (raiseEvt_reports s p bit).on dom

@[simp] theorem recErr_pending (s : State) (p code addr : Nat) : (s.recErr p code addr).pending = s.pending := (recErr_reports s p code addr).pending
@[simp] theorem recErr_now (s : State) (p code addr : Nat) : (s.recErr p code addr).now = s.now := (recErr_reports s p code addr).now
@[simp] theorem recErr_free (s : State) (p code addr : Nat) : (s.recErr p code addr).free = s.free := (recErr_reports s p code addr).free
@[simp] theorem recErr_shadow (s : State) (p code addr : Nat) : (s.recErr p code addr).shadow = s.shadow := (recErr_reports s p code addr).shadow
@[simp] theorem recErr_ram (s : State) (p code addr : Nat) : (s.recErr p code addr).ram = s.ram := (recErr_reports s p code addr).ram
@[simp] theorem recErr_frozen (s : State) (p code addr : Nat) : (s.recErr p code addr).frozen = s.frozen := (recErr_reports s p code addr).frozen
@[simp] theorem recErr_mem (s : State) (p code addr : Nat) : (s.recErr p code addr).mem = s.mem := (recErr_reports s p code addr).mem
@[simp] theorem recErr_rst (s : State) (p code addr : Nat) : (s.recErr p code addr).rst = s.rst := (recErr_reports s p code addr).rst
@[simp] theorem recErr_pwr (s : State) (p code addr : Nat) : (s.recErr p code addr).pwr = s.pwr := (recErr_reports s p code addr).pwr
@[simp] theorem recErr_thm (s : State) (p code addr : Nat) : (s.recErr p code addr).thm = s.thm := (recErr_reports s p code addr).thm
@[simp] theorem recErr_time (s : State) (p code addr : Nat) : (s.recErr p code addr).time = s.time := (recErr_reports s p code addr).time
@[simp] theorem recErr_sch (s : State) (p code addr : Nat) : (s.recErr p code addr).sch = s.sch := (recErr_reports s p code addr).sch
@[simp] theorem recErr_ste (s : State) (p code addr : Nat) : (s.recErr p code addr).ste = s.ste := (recErr_reports s p code addr).ste
@[simp] theorem recErr_emt (s : State) (p code addr : Nat) : (s.recErr p code addr).emt = s.emt := (recErr_reports s p code addr).emt
@[simp] theorem recErr_etd (s : State) (p code addr : Nat) : (s.recErr p code addr).etd = s.etd := (recErr_reports s p code addr).etd
@[simp] theorem recErr_rxc (s : State) (p code addr : Nat) : (s.recErr p code addr).rxc = s.rxc := (recErr_reports s p code addr).rxc
@[simp] theorem recErr_grn (s : State) (p code addr : Nat) : (s.recErr p code addr).grn = s.grn := (recErr_reports s p code addr).grn
@[simp] theorem recErr_crm (s : State) (p code addr : Nat) : (s.recErr p code addr).crm = s.crm := (recErr_reports s p code addr).crm
@[simp] theorem recErr_saf (s : State) (p code addr : Nat) : (s.recErr p code addr).saf = s.saf := (recErr_reports s p code addr).saf
@[simp] theorem recErr_net (s : State) (p code addr : Nat) : (s.recErr p code addr).net = s.net := (recErr_reports s p code addr).net
@[simp] theorem recErr_cal (s : State) (p code addr : Nat) : (s.recErr p code addr).cal = s.cal := (recErr_reports s p code addr).cal
@[simp] theorem recErr_hka (s : State) (p code addr : Nat) : (s.recErr p code addr).hka = s.hka := (recErr_reports s p code addr).hka
@[simp] theorem recErr_exc (s : State) (p code addr : Nat) : (s.recErr p code addr).exc = s.exc := (recErr_reports s p code addr).exc
@[simp] theorem recErr_pins (s : State) (p code addr : Nat) : (s.recErr p code addr).pins = s.pins := (recErr_reports s p code addr).pins
@[simp] theorem recErr_sys_owner (s : State) (p code addr : Nat) : (s.recErr p code addr).sys.owner = s.sys.owner := (recErr_reports s p code addr).sys_owner
@[simp] theorem recErr_sys_armed (s : State) (p code addr : Nat) : (s.recErr p code addr).sys.armed = s.sys.armed := (recErr_reports s p code addr).sys_armed
@[simp] theorem recErr_sys_stay (s : State) (p code addr : Nat) : (s.recErr p code addr).sys.stay = s.sys.stay := (recErr_reports s p code addr).sys_stay
@[simp] theorem recErr_sys_stopReq (s : State) (p code addr : Nat) : (s.recErr p code addr).sys.stopReq = s.sys.stopReq := (recErr_reports s p code addr).sys_stopReq
@[simp] theorem recErr_sys_arisen (s : State) (p code addr : Nat) : (s.recErr p code addr).sys.arisen = s.sys.arisen := (recErr_reports s p code addr).sys_arisen
@[simp] theorem recErr_sys_l0At (s : State) (p code addr : Nat) : (s.recErr p code addr).sys.l0At = s.sys.l0At := (recErr_reports s p code addr).sys_l0At
@[simp] theorem recErr_sys_resetting (s : State) (p code addr : Nat) : (s.recErr p code addr).sys.resetting = s.sys.resetting := (recErr_reports s p code addr).sys_resetting
@[simp] theorem recErr_tp_sessions (s : State) (p code addr : Nat) : (s.recErr p code addr).tp.sessions = s.tp.sessions := (recErr_reports s p code addr).tp_sessions
@[simp] theorem recErr_tp_gens (s : State) (p code addr : Nat) : (s.recErr p code addr).tp.gens = s.tp.gens := (recErr_reports s p code addr).tp_gens
@[simp] theorem recErr_tp_accepted (s : State) (p code addr : Nat) : (s.recErr p code addr).tp.accepted = s.tp.accepted := (recErr_reports s p code addr).tp_accepted
@[simp] theorem recErr_tp_banks (s : State) (p code addr : Nat) : (s.recErr p code addr).tp.banks = s.tp.banks := (recErr_reports s p code addr).tp_banks
@[simp] theorem recErr_tp_nor (s : State) (p code addr : Nat) : (s.recErr p code addr).tp.nor = s.tp.nor := (recErr_reports s p code addr).tp_nor
@[simp] theorem recErr_tp_marker (s : State) (p code addr : Nat) : (s.recErr p code addr).tp.marker = s.tp.marker := (recErr_reports s p code addr).tp_marker
@[simp] theorem recErr_tp_withheld (s : State) (p code addr : Nat) : (s.recErr p code addr).tp.withheld = s.tp.withheld := (recErr_reports s p code addr).tp_withheld
@[simp] theorem recErr_tp_ackHeld (s : State) (p code addr : Nat) : (s.recErr p code addr).tp.ackHeld = s.tp.ackHeld := (recErr_reports s p code addr).tp_ackHeld
@[simp] theorem recErr_tp_qgens (s : State) (p code addr : Nat) : (s.recErr p code addr).tp.qgens = s.tp.qgens := (recErr_reports s p code addr).tp_qgens
@[simp] theorem recErr_tp_rxq (s : State) (p code addr : Nat) : (s.recErr p code addr).tp.rxq = s.tp.rxq := (recErr_reports s p code addr).tp_rxq
@[simp] theorem recErr_tp_opens (s : State) (p code addr : Nat) : (s.recErr p code addr).tp.opens = s.tp.opens := (recErr_reports s p code addr).tp_opens
@[simp] theorem recErr_tp_bootCount (s : State) (p code addr : Nat) : (s.recErr p code addr).tp.bootCount = s.tp.bootCount := (recErr_reports s p code addr).tp_bootCount
@[simp] theorem recErr_on (s : State) (p code addr : Nat) (dom : Nat) : (s.recErr p code addr).on dom = s.on dom := (recErr_reports s p code addr).on dom

@[simp] theorem enterState_pending (s : State) (d : DevState) (cause : Nat) (others : List Nat) : (s.enterState d cause others).pending = s.pending := by
  obtain ⟨t, p, w, y, h, e⟩ := enterState_reports s d cause others; rw [e]; exact h.pending
@[simp] theorem enterState_now (s : State) (d : DevState) (cause : Nat) (others : List Nat) : (s.enterState d cause others).now = s.now := by
  obtain ⟨t, p, w, y, h, e⟩ := enterState_reports s d cause others; rw [e]; exact h.now
@[simp] theorem enterState_free (s : State) (d : DevState) (cause : Nat) (others : List Nat) : (s.enterState d cause others).free = s.free := by
  obtain ⟨t, p, w, y, h, e⟩ := enterState_reports s d cause others; rw [e]; exact h.free
@[simp] theorem enterState_shadow (s : State) (d : DevState) (cause : Nat) (others : List Nat) : (s.enterState d cause others).shadow = s.shadow := by
  obtain ⟨t, p, w, y, h, e⟩ := enterState_reports s d cause others; rw [e]; exact h.shadow
@[simp] theorem enterState_ram (s : State) (d : DevState) (cause : Nat) (others : List Nat) : (s.enterState d cause others).ram = s.ram := by
  obtain ⟨t, p, w, y, h, e⟩ := enterState_reports s d cause others; rw [e]; exact h.ram
@[simp] theorem enterState_frozen (s : State) (d : DevState) (cause : Nat) (others : List Nat) : (s.enterState d cause others).frozen = s.frozen := by
  obtain ⟨t, p, w, y, h, e⟩ := enterState_reports s d cause others; rw [e]; exact h.frozen
@[simp] theorem enterState_mem (s : State) (d : DevState) (cause : Nat) (others : List Nat) : (s.enterState d cause others).mem = s.mem := by
  obtain ⟨t, p, w, y, h, e⟩ := enterState_reports s d cause others; rw [e]; exact h.mem
@[simp] theorem enterState_rst (s : State) (d : DevState) (cause : Nat) (others : List Nat) : (s.enterState d cause others).rst = s.rst := by
  obtain ⟨t, p, w, y, h, e⟩ := enterState_reports s d cause others; rw [e]; exact h.rst
@[simp] theorem enterState_pwr (s : State) (d : DevState) (cause : Nat) (others : List Nat) : (s.enterState d cause others).pwr = s.pwr := by
  obtain ⟨t, p, w, y, h, e⟩ := enterState_reports s d cause others; rw [e]; exact h.pwr
@[simp] theorem enterState_thm (s : State) (d : DevState) (cause : Nat) (others : List Nat) : (s.enterState d cause others).thm = s.thm := by
  obtain ⟨t, p, w, y, h, e⟩ := enterState_reports s d cause others; rw [e]; exact h.thm
@[simp] theorem enterState_ste (s : State) (d : DevState) (cause : Nat) (others : List Nat) : (s.enterState d cause others).ste = s.ste := by
  obtain ⟨t, p, w, y, h, e⟩ := enterState_reports s d cause others; rw [e]; exact h.ste
@[simp] theorem enterState_emt (s : State) (d : DevState) (cause : Nat) (others : List Nat) : (s.enterState d cause others).emt = s.emt := by
  obtain ⟨t, p, w, y, h, e⟩ := enterState_reports s d cause others; rw [e]; exact h.emt
@[simp] theorem enterState_etd (s : State) (d : DevState) (cause : Nat) (others : List Nat) : (s.enterState d cause others).etd = s.etd := by
  obtain ⟨t, p, w, y, h, e⟩ := enterState_reports s d cause others; rw [e]; exact h.etd
@[simp] theorem enterState_rxc (s : State) (d : DevState) (cause : Nat) (others : List Nat) : (s.enterState d cause others).rxc = s.rxc := by
  obtain ⟨t, p, w, y, h, e⟩ := enterState_reports s d cause others; rw [e]; exact h.rxc
@[simp] theorem enterState_grn (s : State) (d : DevState) (cause : Nat) (others : List Nat) : (s.enterState d cause others).grn = s.grn := by
  obtain ⟨t, p, w, y, h, e⟩ := enterState_reports s d cause others; rw [e]; exact h.grn
@[simp] theorem enterState_crm (s : State) (d : DevState) (cause : Nat) (others : List Nat) : (s.enterState d cause others).crm = s.crm := by
  obtain ⟨t, p, w, y, h, e⟩ := enterState_reports s d cause others; rw [e]; exact h.crm
@[simp] theorem enterState_saf (s : State) (d : DevState) (cause : Nat) (others : List Nat) : (s.enterState d cause others).saf = s.saf := by
  obtain ⟨t, p, w, y, h, e⟩ := enterState_reports s d cause others; rw [e]; exact h.saf
@[simp] theorem enterState_net (s : State) (d : DevState) (cause : Nat) (others : List Nat) : (s.enterState d cause others).net = s.net := by
  obtain ⟨t, p, w, y, h, e⟩ := enterState_reports s d cause others; rw [e]; exact h.net
@[simp] theorem enterState_cal (s : State) (d : DevState) (cause : Nat) (others : List Nat) : (s.enterState d cause others).cal = s.cal := by
  obtain ⟨t, p, w, y, h, e⟩ := enterState_reports s d cause others; rw [e]; exact h.cal
@[simp] theorem enterState_hka (s : State) (d : DevState) (cause : Nat) (others : List Nat) : (s.enterState d cause others).hka = s.hka := by
  obtain ⟨t, p, w, y, h, e⟩ := enterState_reports s d cause others; rw [e]; exact h.hka
@[simp] theorem enterState_exc (s : State) (d : DevState) (cause : Nat) (others : List Nat) : (s.enterState d cause others).exc = s.exc := by
  obtain ⟨t, p, w, y, h, e⟩ := enterState_reports s d cause others; rw [e]; exact h.exc
@[simp] theorem enterState_pins (s : State) (d : DevState) (cause : Nat) (others : List Nat) : (s.enterState d cause others).pins = s.pins := by
  obtain ⟨t, p, w, y, h, e⟩ := enterState_reports s d cause others; rw [e]; exact h.pins
@[simp] theorem enterState_time_tai (s : State) (d : DevState) (cause : Nat) (others : List Nat) : (s.enterState d cause others).time.tai = s.time.tai := by
  obtain ⟨t, p, w, y, h, e⟩ := enterState_reports s d cause others; rw [e]
@[simp] theorem enterState_time_slew (s : State) (d : DevState) (cause : Nat) (others : List Nat) : (s.enterState d cause others).time.slew = s.time.slew := by
  obtain ⟨t, p, w, y, h, e⟩ := enterState_reports s d cause others; rw [e]
@[simp] theorem enterState_time_accepted (s : State) (d : DevState) (cause : Nat) (others : List Nat) : (s.enterState d cause others).time.accepted = s.time.accepted := by
  obtain ⟨t, p, w, y, h, e⟩ := enterState_reports s d cause others; rw [e]
@[simp] theorem enterState_time_everAccepted (s : State) (d : DevState) (cause : Nat) (others : List Nat) : (s.enterState d cause others).time.everAccepted = s.time.everAccepted := by
  obtain ⟨t, p, w, y, h, e⟩ := enterState_reports s d cause others; rw [e]
@[simp] theorem enterState_time_master (s : State) (d : DevState) (cause : Nat) (others : List Nat) : (s.enterState d cause others).time.master = s.time.master := by
  obtain ⟨t, p, w, y, h, e⟩ := enterState_reports s d cause others; rw [e]
@[simp] theorem enterState_time_syncs (s : State) (d : DevState) (cause : Nat) (others : List Nat) : (s.enterState d cause others).time.syncs = s.time.syncs := by
  obtain ⟨t, p, w, y, h, e⟩ := enterState_reports s d cause others; rw [e]
@[simp] theorem enterState_time_good (s : State) (d : DevState) (cause : Nat) (others : List Nat) : (s.enterState d cause others).time.good = s.time.good := by
  obtain ⟨t, p, w, y, h, e⟩ := enterState_reports s d cause others; rw [e]
@[simp] theorem enterState_time_fine (s : State) (d : DevState) (cause : Nat) (others : List Nat) : (s.enterState d cause others).time.fine = s.time.fine := by
  obtain ⟨t, p, w, y, h, e⟩ := enterState_reports s d cause others; rw [e]
@[simp] theorem enterState_time_lockedAt (s : State) (d : DevState) (cause : Nat) (others : List Nat) : (s.enterState d cause others).time.lockedAt = s.time.lockedAt := by
  obtain ⟨t, p, w, y, h, e⟩ := enterState_reports s d cause others; rw [e]
@[simp] theorem enterState_time_ageFrom (s : State) (d : DevState) (cause : Nat) (others : List Nat) : (s.enterState d cause others).time.ageFrom = s.time.ageFrom := by
  obtain ⟨t, p, w, y, h, e⟩ := enterState_reports s d cause others; rw [e]
@[simp] theorem enterState_time_trims (s : State) (d : DevState) (cause : Nat) (others : List Nat) : (s.enterState d cause others).time.trims = s.time.trims := by
  obtain ⟨t, p, w, y, h, e⟩ := enterState_reports s d cause others; rw [e]
@[simp] theorem enterState_time_lastSync (s : State) (d : DevState) (cause : Nat) (others : List Nat) : (s.enterState d cause others).time.lastSync = s.time.lastSync := by
  obtain ⟨t, p, w, y, h, e⟩ := enterState_reports s d cause others; rw [e]
@[simp] theorem enterState_time_syncNs (s : State) (d : DevState) (cause : Nat) (others : List Nat) : (s.enterState d cause others).time.syncNs = s.time.syncNs := by
  obtain ⟨t, p, w, y, h, e⟩ := enterState_reports s d cause others; rw [e]
@[simp] theorem enterState_time_lastAnnounce (s : State) (d : DevState) (cause : Nat) (others : List Nat) : (s.enterState d cause others).time.lastAnnounce = s.time.lastAnnounce := by
  obtain ⟨t, p, w, y, h, e⟩ := enterState_reports s d cause others; rw [e]
@[simp] theorem enterState_time_announceNs (s : State) (d : DevState) (cause : Nat) (others : List Nat) : (s.enterState d cause others).time.announceNs = s.time.announceNs := by
  obtain ⟨t, p, w, y, h, e⟩ := enterState_reports s d cause others; rw [e]
@[simp] theorem enterState_time_path (s : State) (d : DevState) (cause : Nat) (others : List Nat) : (s.enterState d cause others).time.path = s.time.path := by
  obtain ⟨t, p, w, y, h, e⟩ := enterState_reports s d cause others; rw [e]
@[simp] theorem enterState_time_lastPps (s : State) (d : DevState) (cause : Nat) (others : List Nat) : (s.enterState d cause others).time.lastPps = s.time.lastPps := by
  obtain ⟨t, p, w, y, h, e⟩ := enterState_reports s d cause others; rw [e]
@[simp] theorem enterState_time_goodPps (s : State) (d : DevState) (cause : Nat) (others : List Nat) : (s.enterState d cause others).time.goodPps = s.time.goodPps := by
  obtain ⟨t, p, w, y, h, e⟩ := enterState_reports s d cause others; rw [e]
@[simp] theorem enterState_time_holdAt (s : State) (d : DevState) (cause : Nat) (others : List Nat) : (s.enterState d cause others).time.holdAt = s.time.holdAt := by
  obtain ⟨t, p, w, y, h, e⟩ := enterState_reports s d cause others; rw [e]
@[simp] theorem enterState_time_fromPps (s : State) (d : DevState) (cause : Nat) (others : List Nat) : (s.enterState d cause others).time.fromPps = s.time.fromPps := by
  obtain ⟨t, p, w, y, h, e⟩ := enterState_reports s d cause others; rw [e]
@[simp] theorem enterState_time_age (s : State) (d : DevState) (cause : Nat) (others : List Nat) : (s.enterState d cause others).time.age = s.time.age := by
  obtain ⟨t, p, w, y, h, e⟩ := enterState_reports s d cause others; rw [e]
@[simp] theorem enterState_time_residence (s : State) (d : DevState) (cause : Nat) (others : List Nat) : (s.enterState d cause others).time.residence = s.time.residence := by
  obtain ⟨t, p, w, y, h, e⟩ := enterState_reports s d cause others; rw [e]
@[simp] theorem enterState_time_monGood (s : State) (d : DevState) (cause : Nat) (others : List Nat) : (s.enterState d cause others).time.monGood = s.time.monGood := by
  obtain ⟨t, p, w, y, h, e⟩ := enterState_reports s d cause others; rw [e]
@[simp] theorem enterState_time_stableFrom (s : State) (d : DevState) (cause : Nat) (others : List Nat) : (s.enterState d cause others).time.stableFrom = s.time.stableFrom := by
  obtain ⟨t, p, w, y, h, e⟩ := enterState_reports s d cause others; rw [e]
@[simp] theorem enterState_time_lastMultiple (s : State) (d : DevState) (cause : Nat) (others : List Nat) : (s.enterState d cause others).time.lastMultiple = s.time.lastMultiple := by
  obtain ⟨t, p, w, y, h, e⟩ := enterState_reports s d cause others; rw [e]
@[simp] theorem enterState_time_carried (s : State) (d : DevState) (cause : Nat) (others : List Nat) : (s.enterState d cause others).time.carried = s.time.carried := by
  obtain ⟨t, p, w, y, h, e⟩ := enterState_reports s d cause others; rw [e]
@[simp] theorem enterState_time_traced (s : State) (d : DevState) (cause : Nat) (others : List Nat) : (s.enterState d cause others).time.traced = s.time.traced := by
  obtain ⟨t, p, w, y, h, e⟩ := enterState_reports s d cause others; rw [e]
@[simp] theorem enterState_sys_owner (s : State) (d : DevState) (cause : Nat) (others : List Nat) : (s.enterState d cause others).sys.owner = s.sys.owner := by
  obtain ⟨t, p, w, y, h, e⟩ := enterState_reports s d cause others; rw [e]; exact h.sys_owner
@[simp] theorem enterState_sys_armed (s : State) (d : DevState) (cause : Nat) (others : List Nat) : (s.enterState d cause others).sys.armed = s.sys.armed := by
  obtain ⟨t, p, w, y, h, e⟩ := enterState_reports s d cause others; rw [e]; exact h.sys_armed
@[simp] theorem enterState_sys_stopReq (s : State) (d : DevState) (cause : Nat) (others : List Nat) : (s.enterState d cause others).sys.stopReq = s.sys.stopReq := by
  obtain ⟨t, p, w, y, h, e⟩ := enterState_reports s d cause others; rw [e]; exact h.sys_stopReq
@[simp] theorem enterState_sys_arisen (s : State) (d : DevState) (cause : Nat) (others : List Nat) : (s.enterState d cause others).sys.arisen = s.sys.arisen := by
  obtain ⟨t, p, w, y, h, e⟩ := enterState_reports s d cause others; rw [e]; exact h.sys_arisen
@[simp] theorem enterState_sys_l0At (s : State) (d : DevState) (cause : Nat) (others : List Nat) : (s.enterState d cause others).sys.l0At = s.sys.l0At := by
  obtain ⟨t, p, w, y, h, e⟩ := enterState_reports s d cause others; rw [e]; exact h.sys_l0At
@[simp] theorem enterState_sys_resetting (s : State) (d : DevState) (cause : Nat) (others : List Nat) : (s.enterState d cause others).sys.resetting = s.sys.resetting := by
  obtain ⟨t, p, w, y, h, e⟩ := enterState_reports s d cause others; rw [e]; exact h.sys_resetting
@[simp] theorem enterState_tp_sessions (s : State) (d : DevState) (cause : Nat) (others : List Nat) : (s.enterState d cause others).tp.sessions = s.tp.sessions := by
  obtain ⟨t, p, w, y, h, e⟩ := enterState_reports s d cause others; rw [e]; exact h.tp_sessions
@[simp] theorem enterState_tp_gens (s : State) (d : DevState) (cause : Nat) (others : List Nat) : (s.enterState d cause others).tp.gens = s.tp.gens := by
  obtain ⟨t, p, w, y, h, e⟩ := enterState_reports s d cause others; rw [e]; exact h.tp_gens
@[simp] theorem enterState_tp_accepted (s : State) (d : DevState) (cause : Nat) (others : List Nat) : (s.enterState d cause others).tp.accepted = s.tp.accepted := by
  obtain ⟨t, p, w, y, h, e⟩ := enterState_reports s d cause others; rw [e]; exact h.tp_accepted
@[simp] theorem enterState_tp_banks (s : State) (d : DevState) (cause : Nat) (others : List Nat) : (s.enterState d cause others).tp.banks = s.tp.banks := by
  obtain ⟨t, p, w, y, h, e⟩ := enterState_reports s d cause others; rw [e]; exact h.tp_banks
@[simp] theorem enterState_tp_nor (s : State) (d : DevState) (cause : Nat) (others : List Nat) : (s.enterState d cause others).tp.nor = s.tp.nor := by
  obtain ⟨t, p, w, y, h, e⟩ := enterState_reports s d cause others; rw [e]; exact h.tp_nor
@[simp] theorem enterState_tp_marker (s : State) (d : DevState) (cause : Nat) (others : List Nat) : (s.enterState d cause others).tp.marker = s.tp.marker := by
  obtain ⟨t, p, w, y, h, e⟩ := enterState_reports s d cause others; rw [e]; exact h.tp_marker
@[simp] theorem enterState_tp_withheld (s : State) (d : DevState) (cause : Nat) (others : List Nat) : (s.enterState d cause others).tp.withheld = s.tp.withheld := by
  obtain ⟨t, p, w, y, h, e⟩ := enterState_reports s d cause others; rw [e]; exact h.tp_withheld
@[simp] theorem enterState_tp_ackHeld (s : State) (d : DevState) (cause : Nat) (others : List Nat) : (s.enterState d cause others).tp.ackHeld = s.tp.ackHeld := by
  obtain ⟨t, p, w, y, h, e⟩ := enterState_reports s d cause others; rw [e]; exact h.tp_ackHeld
@[simp] theorem enterState_tp_qgens (s : State) (d : DevState) (cause : Nat) (others : List Nat) : (s.enterState d cause others).tp.qgens = s.tp.qgens := by
  obtain ⟨t, p, w, y, h, e⟩ := enterState_reports s d cause others; rw [e]; exact h.tp_qgens
@[simp] theorem enterState_tp_rxq (s : State) (d : DevState) (cause : Nat) (others : List Nat) : (s.enterState d cause others).tp.rxq = s.tp.rxq := by
  obtain ⟨t, p, w, y, h, e⟩ := enterState_reports s d cause others; rw [e]; exact h.tp_rxq
@[simp] theorem enterState_tp_opens (s : State) (d : DevState) (cause : Nat) (others : List Nat) : (s.enterState d cause others).tp.opens = s.tp.opens := by
  obtain ⟨t, p, w, y, h, e⟩ := enterState_reports s d cause others; rw [e]; exact h.tp_opens
@[simp] theorem enterState_tp_bootCount (s : State) (d : DevState) (cause : Nat) (others : List Nat) : (s.enterState d cause others).tp.bootCount = s.tp.bootCount := by
  obtain ⟨t, p, w, y, h, e⟩ := enterState_reports s d cause others; rw [e]; exact h.tp_bootCount
@[simp] theorem enterState_sch_frame (s : State) (d : DevState) (cause : Nat) (others : List Nat) : (s.enterState d cause others).sch.frame = s.sch.frame := by
  obtain ⟨t, p, w, y, h, e⟩ := enterState_reports s d cause others; rw [e]
@[simp] theorem enterState_sch_at_ (s : State) (d : DevState) (cause : Nat) (others : List Nat) : (s.enterState d cause others).sch.at_ = s.sch.at_ := by
  obtain ⟨t, p, w, y, h, e⟩ := enterState_reports s d cause others; rw [e]
@[simp] theorem enterState_sch_ready (s : State) (d : DevState) (cause : Nat) (others : List Nat) : (s.enterState d cause others).sch.ready = s.sch.ready := by
  obtain ⟨t, p, w, y, h, e⟩ := enterState_reports s d cause others; rw [e]
@[simp] theorem enterState_sch_trains (s : State) (d : DevState) (cause : Nat) (others : List Nat) : (s.enterState d cause others).sch.trains = s.sch.trains := by
  obtain ⟨t, p, w, y, h, e⟩ := enterState_reports s d cause others; rw [e]
@[simp] theorem enterState_sch_starts (s : State) (d : DevState) (cause : Nat) (others : List Nat) : (s.enterState d cause others).sch.starts = s.sch.starts := by
  obtain ⟨t, p, w, y, h, e⟩ := enterState_reports s d cause others; rw [e]
@[simp] theorem enterState_sch_heat (s : State) (d : DevState) (cause : Nat) (others : List Nat) : (s.enterState d cause others).sch.heat = s.sch.heat := by
  obtain ⟨t, p, w, y, h, e⟩ := enterState_reports s d cause others; rw [e]
@[simp] theorem enterState_sch_adm (s : State) (d : DevState) (cause : Nat) (others : List Nat) : (s.enterState d cause others).sch.adm = s.sch.adm := by
  obtain ⟨t, p, w, y, h, e⟩ := enterState_reports s d cause others; rw [e]
@[simp] theorem enterState_sch_placed (s : State) (d : DevState) (cause : Nat) (others : List Nat) : (s.enterState d cause others).sch.placed = s.sch.placed := by
  obtain ⟨t, p, w, y, h, e⟩ := enterState_reports s d cause others; rw [e]
@[simp] theorem enterState_sch_lastFire (s : State) (d : DevState) (cause : Nat) (others : List Nat) : (s.enterState d cause others).sch.lastFire = s.sch.lastFire := by
  obtain ⟨t, p, w, y, h, e⟩ := enterState_reports s d cause others; rw [e]
@[simp] theorem enterState_sch_slot (s : State) (d : DevState) (cause : Nat) (others : List Nat) : (s.enterState d cause others).sch.slot = s.sch.slot := by
  obtain ⟨t, p, w, y, h, e⟩ := enterState_reports s d cause others; rw [e]
@[simp] theorem enterState_sch_owed (s : State) (d : DevState) (cause : Nat) (others : List Nat) : (s.enterState d cause others).sch.owed = s.sch.owed := by
  obtain ⟨t, p, w, y, h, e⟩ := enterState_reports s d cause others; rw [e]
@[simp] theorem enterState_sch_hot (s : State) (d : DevState) (cause : Nat) (others : List Nat) : (s.enterState d cause others).sch.hot = s.sch.hot := by
  obtain ⟨t, p, w, y, h, e⟩ := enterState_reports s d cause others; rw [e]
@[simp] theorem enterState_sch_track (s : State) (d : DevState) (cause : Nat) (others : List Nat) : (s.enterState d cause others).sch.track = s.sch.track := by
  obtain ⟨t, p, w, y, h, e⟩ := enterState_reports s d cause others; rw [e]
@[simp] theorem enterState_on (s : State) (d : DevState) (cause : Nat) (others : List Nat) (dom : Nat) : (s.enterState d cause others).on dom = s.on dom := by
  obtain ⟨t, p, w, y, h, e⟩ := enterState_reports s d cause others; rw [e]; exact h.on dom
theorem enterState_peek (s : State) (d : DevState) (cause : Nat) (others : List Nat) (a : Nat) (ha : a ≠ F.SYS_STATE.STATE.addr) : (s.enterState d cause others).peek a = s.peek a := by
  obtain ⟨t, p, w, y, h, e⟩ := enterState_reports s d cause others; rw [e]; exact h.kept a ha

theorem raiseEvt_getF (s : State) (p bit : Nat) (f : Field) (h : f.addr ≠ p * 0x1000 + 0x10) : (s.raiseEvt p bit).getF f = s.getF f :=
  getF_congr ((raiseEvt_reports s p bit).kept _ h)
theorem recErr_getF (s : State) (p code addr : Nat) (f : Field)
    (h : f.addr ≠ p * 0x1000 + 0x10 ∧ f.addr ≠ p * 0x1000 + 0x1C ∧ f.addr ≠ p * 0x1000 + 0x20) : (s.recErr p code addr).getF f = s.getF f :=
  getF_congr ((recErr_reports s p code addr).kept _ h)
theorem enterState_getF (s : State) (d : DevState) (cause : Nat) (others : List Nat) (f : Field) (h : f.addr ≠ F.SYS_STATE.STATE.addr) :
    (s.enterState d cause others).getF f = s.getF f :=
  getF_congr (enterState_peek s d cause others _ h)

end State

/-! ## The passage of time -/

theorem runTai_eq (s : State) (dt : Nat) : ∃ x, s.runTai dt = { s with time := x } := by
  unfold State.runTai
  split <;> exact ⟨_, rfl⟩

theorem drainPort_eq (s : State) (p dt : Nat) : ∃ x, s.drainPort p dt = { s with net := x } := by
  unfold State.drainPort
  split <;> exact ⟨_, rfl⟩

/-- Time moves the clock, the TAI counter and the ports, and nothing else (log entry 5). -/
theorem at_eq (s : State) (t : Nat) : ∃ x y, s.at t = { s with now := max s.now t, time := x, net := y } := by
  unfold State.at
  split
  · rename_i h
    obtain ⟨x, hx⟩ := runTai_eq s (t - s.now)
    obtain ⟨y, hy⟩ := drainPort_eq (s.runTai (t - s.now)) 0 (t - s.now)
    obtain ⟨z, hz⟩ := drainPort_eq ((s.runTai (t - s.now)).drainPort 0 (t - s.now)) 1 (t - s.now)
    refine ⟨x, z, ?_⟩
    dsimp only
    rw [hz, hy, hx]
    simp [Nat.max_eq_right (Nat.le_of_lt h)]
  · rename_i h
    exact ⟨s.time, s.net, by simp [Nat.max_eq_left (Nat.le_of_not_lt h)]⟩

namespace State

@[simp] theorem at_pending (s : State) (t : Nat) : (s.at t).pending = s.pending := by obtain ⟨x, y, h⟩ := at_eq s t; rw [h]
@[simp] theorem at_free (s : State) (t : Nat) : (s.at t).free = s.free := by obtain ⟨x, y, h⟩ := at_eq s t; rw [h]
@[simp] theorem at_regs (s : State) (t : Nat) : (s.at t).regs = s.regs := by obtain ⟨x, y, h⟩ := at_eq s t; rw [h]
@[simp] theorem at_shadow (s : State) (t : Nat) : (s.at t).shadow = s.shadow := by obtain ⟨x, y, h⟩ := at_eq s t; rw [h]
@[simp] theorem at_ram (s : State) (t : Nat) : (s.at t).ram = s.ram := by obtain ⟨x, y, h⟩ := at_eq s t; rw [h]
@[simp] theorem at_frozen (s : State) (t : Nat) : (s.at t).frozen = s.frozen := by obtain ⟨x, y, h⟩ := at_eq s t; rw [h]
@[simp] theorem at_sys (s : State) (t : Nat) : (s.at t).sys = s.sys := by obtain ⟨x, y, h⟩ := at_eq s t; rw [h]
@[simp] theorem at_tp (s : State) (t : Nat) : (s.at t).tp = s.tp := by obtain ⟨x, y, h⟩ := at_eq s t; rw [h]
@[simp] theorem at_mem (s : State) (t : Nat) : (s.at t).mem = s.mem := by obtain ⟨x, y, h⟩ := at_eq s t; rw [h]
@[simp] theorem at_rst (s : State) (t : Nat) : (s.at t).rst = s.rst := by obtain ⟨x, y, h⟩ := at_eq s t; rw [h]
@[simp] theorem at_pwr (s : State) (t : Nat) : (s.at t).pwr = s.pwr := by obtain ⟨x, y, h⟩ := at_eq s t; rw [h]
@[simp] theorem at_thm (s : State) (t : Nat) : (s.at t).thm = s.thm := by obtain ⟨x, y, h⟩ := at_eq s t; rw [h]
@[simp] theorem at_sch (s : State) (t : Nat) : (s.at t).sch = s.sch := by obtain ⟨x, y, h⟩ := at_eq s t; rw [h]
@[simp] theorem at_ste (s : State) (t : Nat) : (s.at t).ste = s.ste := by obtain ⟨x, y, h⟩ := at_eq s t; rw [h]
@[simp] theorem at_emt (s : State) (t : Nat) : (s.at t).emt = s.emt := by obtain ⟨x, y, h⟩ := at_eq s t; rw [h]
@[simp] theorem at_etd (s : State) (t : Nat) : (s.at t).etd = s.etd := by obtain ⟨x, y, h⟩ := at_eq s t; rw [h]
@[simp] theorem at_rxc (s : State) (t : Nat) : (s.at t).rxc = s.rxc := by obtain ⟨x, y, h⟩ := at_eq s t; rw [h]
@[simp] theorem at_grn (s : State) (t : Nat) : (s.at t).grn = s.grn := by obtain ⟨x, y, h⟩ := at_eq s t; rw [h]
@[simp] theorem at_crm (s : State) (t : Nat) : (s.at t).crm = s.crm := by obtain ⟨x, y, h⟩ := at_eq s t; rw [h]
@[simp] theorem at_saf (s : State) (t : Nat) : (s.at t).saf = s.saf := by obtain ⟨x, y, h⟩ := at_eq s t; rw [h]
@[simp] theorem at_cal (s : State) (t : Nat) : (s.at t).cal = s.cal := by obtain ⟨x, y, h⟩ := at_eq s t; rw [h]
@[simp] theorem at_hka (s : State) (t : Nat) : (s.at t).hka = s.hka := by obtain ⟨x, y, h⟩ := at_eq s t; rw [h]
@[simp] theorem at_exc (s : State) (t : Nat) : (s.at t).exc = s.exc := by obtain ⟨x, y, h⟩ := at_eq s t; rw [h]
@[simp] theorem at_rcd (s : State) (t : Nat) : (s.at t).rcd = s.rcd := by obtain ⟨x, y, h⟩ := at_eq s t; rw [h]
@[simp] theorem at_pins (s : State) (t : Nat) : (s.at t).pins = s.pins := by obtain ⟨x, y, h⟩ := at_eq s t; rw [h]
@[simp] theorem at_now (s : State) (t : Nat) : (s.at t).now = max s.now t := by obtain ⟨x, y, h⟩ := at_eq s t; rw [h]
@[simp] theorem at_on (s : State) (t d : Nat) : (s.at t).on d = s.on d := by obtain ⟨x, y, h⟩ := at_eq s t; rw [h]; rfl
@[simp] theorem at_peek (s : State) (t a : Nat) : (s.at t).peek a = s.peek a := by obtain ⟨x, y, h⟩ := at_eq s t; rw [h]; rfl
@[simp] theorem at_getF (s : State) (t : Nat) (f : Field) : (s.at t).getF f = s.getF f := getF_congr (at_peek s t _)
@[simp] theorem at_dev (s : State) (t : Nat) : (s.at t).dev = s.dev := by simp [State.dev]
@[simp] theorem at_pageOn (s : State) (t p : Nat) : (s.at t).pageOn p = s.pageOn p := by simp [State.pageOn]

end State

/-! ## The end of a command -/

/-- The addresses of page 26 (REC). -/
def outsideRec (a : Nat) : Prop := a / 0x1000 ≠ 26

theorem rcd_reports (s : State) (r : RecState) (P : Nat → Prop) : s.Reports P { s with rcd := r } := ⟨rfl, fun _ _ => rfl⟩

theorem setF_rec (s : State) (f : Field) (v : Nat) (h : f.addr / 0x1000 = 26) : s.Reports outsideRec (s.setF f v) :=
  (setF_reports s f v).mono (fun a ha he => by subst he; exact ha h)

theorem raiseEvt_rec (s : State) (bit : Nat) : s.Reports outsideRec (s.raiseEvt 26 bit) :=
  (raiseEvt_reports s 26 bit).mono (fun a ha he => by subst he; exact ha rfl)

theorem recTrigger_tail {s u : State} (h : s.Reports outsideRec u) (early : Bool) (lo hi : Nat) :
    s.Reports outsideRec
      (let v := ((u.setF F.REC_STAT.STATE 2).setB F.REC_STAT.EARLY early).setF F.REC_TRIG_LO.NS lo
       let w := (v.setF F.REC_TRIG_HI.NS hi).raiseEvt 26 0
       if w.flag F.REC_IO.DIR then w.emit (.trigger w.now (w.getF F.REC_IO.WIDTH)) else w) := by
  have k := (((h.trans (setF_rec u F.REC_STAT.STATE 2 rfl)).trans (setF_rec _ F.REC_STAT.EARLY (if early then 1 else 0) rfl)).trans
    (setF_rec _ F.REC_TRIG_LO.NS lo rfl)).trans (setF_rec _ F.REC_TRIG_HI.NS hi rfl)
  have k := k.trans (raiseEvt_rec _ 0)
  dsimp only [State.setB_eq]
  generalize State.raiseEvt _ 26 0 = w at k ⊢
  split
  · exact k.trans ((emit_reports _ _).mono (fun _ _ => trivial))
  · exact k

theorem recTrigger_reports (s : State) (i : Int) : s.Reports outsideRec (s.recTrigger i) := by
  unfold State.recTrigger
  split
  · exact recTrigger_tail (rcd_reports s _ _) _ _ _
  · exact setF_rec _ F.REC_STAT.EXTRA _ rfl
  · exact setF_rec _ F.REC_STAT.EXTRA _ rfl
  · exact State.Reports.rfl_ _

theorem sendFrame_sends (s : State) (p kind : Nat) (body : List Byte) : s.Sends outsideRec (s.sendFrame p kind body) := by
  unfold State.sendFrame
  split
  · exact ⟨⟨rfl, fun _ _ => rfl⟩, rfl⟩
  · exact State.Sends.rfl_ _

theorem sendChainTrigger_sends (s : State) (i : Int) : s.Sends outsideRec (s.sendChainTrigger i) := by
  unfold State.sendChainTrigger
  split
  · dsimp only
    refine State.Sends.trans (State.Sends.trans ?_ (sendFrame_sends _ _ _ _)) (sendFrame_sends _ _ _ _)
    exact .of (State.Reports.trans (rcd_reports _ _ _) (setF_rec _ F.REC_CHAIN.COUNT _ rfl))
  · exact State.Sends.rfl_ _

theorem seqAction_sends (s : State) (act : Nat) (i : Int) : s.Sends outsideRec (s.seqAction act i) := by
  have hf : ∀ (s : State) (k : Nat), k < 4 → s.Reports outsideRec (s.setF (F.REC_CNT.VALUE.idx k) 0) := by
    intro s k hk
    refine setF_rec s _ _ ?_
    interval_cases k <;> rfl
  unfold State.seqAction
  split
  · exact .of (recTrigger_reports _ _)
  · exact (State.Sends.of (recTrigger_reports _ _)).trans (sendChainTrigger_sends _ _)
  · exact sendChainTrigger_sends _ _
  · exact .of (setF_rec _ F.REC_CNT.VALUE _ rfl)
  · exact .of (setF_rec _ (F.REC_CNT.VALUE.idx 1) _ rfl)
  · exact .of (setF_rec _ (F.REC_CNT.VALUE.idx 2) _ rfl)
  · exact .of (setF_rec _ (F.REC_CNT.VALUE.idx 3) _ rfl)
  · exact .of (rcd_reports _ _ _)
  · exact .of (rcd_reports _ _ _)
  · exact .of (rcd_reports _ _ _)
  · exact .of (rcd_reports _ _ _)
  · show s.Sends outsideRec ((((s.setF (F.REC_CNT.VALUE.idx 0) 0).setF (F.REC_CNT.VALUE.idx 1) 0).setF (F.REC_CNT.VALUE.idx 2) 0).setF (F.REC_CNT.VALUE.idx 3) 0)
    exact .of ((((hf _ 0 (by decide)).trans (hf _ 1 (by decide))).trans (hf _ 2 (by decide))).trans (hf _ 3 (by decide)))
  · exact .of (rcd_reports _ _ _)
  · exact State.Sends.rfl_ _

theorem seqStep_sends (s : State) : s.Sends outsideRec s.seqStep := by
  unfold State.seqStep
  dsimp only
  split
  · exact (seqAction_sends _ _ _).trans (.of (setF_rec _ F.REC_STAT.SEQ _ rfl))
  · split
    · exact (seqAction_sends _ _ _).trans (.of (setF_rec _ F.REC_STAT.SEQ _ rfl))
    · exact State.Sends.rfl_ _

theorem runPulses_sends (n : Nat) (s : State) : s.Sends outsideRec (State.runPulses n s) := by
  induction n generalizing s with
  | zero => exact .of (rcd_reports _ _ _)
  | succ n ih =>
    unfold State.runPulses
    split
    · exact State.Sends.rfl_ _
    · exact ((seqStep_sends s).trans (.of (rcd_reports _ _ _))).trans (ih _)

theorem runPulses_pulses (n : Nat) (s : State) : (State.runPulses n s).rcd.pulses = [] := by
  induction n generalizing s with
  | zero => rfl
  | succ n ih =>
    unfold State.runPulses
    split
    · rename_i h
      simpa using h
    · exact ih _

/-- After a command no sequencer input of kind pulse holds. -/
@[simp] theorem settle_pulses (s : State) : s.settle.rcd.pulses = [] := runPulses_pulses 8 s

/-- After a command the pins are those of the state. -/
theorem settle_pins (s : State) : s.settle.pins = s.settle.pinsOf := rfl

namespace State

@[simp] theorem settle_pending (s : State) : s.settle.pending = s.pending := (runPulses_sends 8 s).pending
@[simp] theorem settle_free (s : State) : s.settle.free = s.free := (runPulses_sends 8 s).free
@[simp] theorem settle_shadow (s : State) : s.settle.shadow = s.shadow := (runPulses_sends 8 s).shadow
@[simp] theorem settle_ram (s : State) : s.settle.ram = s.ram := (runPulses_sends 8 s).ram
@[simp] theorem settle_frozen (s : State) : s.settle.frozen = s.frozen := (runPulses_sends 8 s).frozen
@[simp] theorem settle_mem (s : State) : s.settle.mem = s.mem := (runPulses_sends 8 s).mem
@[simp] theorem settle_rst (s : State) : s.settle.rst = s.rst := (runPulses_sends 8 s).rst
@[simp] theorem settle_pwr (s : State) : s.settle.pwr = s.pwr := (runPulses_sends 8 s).pwr
@[simp] theorem settle_thm (s : State) : s.settle.thm = s.thm := (runPulses_sends 8 s).thm
@[simp] theorem settle_sch (s : State) : s.settle.sch = s.sch := (runPulses_sends 8 s).sch
@[simp] theorem settle_ste (s : State) : s.settle.ste = s.ste := (runPulses_sends 8 s).ste
@[simp] theorem settle_emt (s : State) : s.settle.emt = s.emt := (runPulses_sends 8 s).emt
@[simp] theorem settle_etd (s : State) : s.settle.etd = s.etd := (runPulses_sends 8 s).etd
@[simp] theorem settle_rxc (s : State) : s.settle.rxc = s.rxc := (runPulses_sends 8 s).rxc
@[simp] theorem settle_grn (s : State) : s.settle.grn = s.grn := (runPulses_sends 8 s).grn
@[simp] theorem settle_crm (s : State) : s.settle.crm = s.crm := (runPulses_sends 8 s).crm
@[simp] theorem settle_saf (s : State) : s.settle.saf = s.saf := (runPulses_sends 8 s).saf
@[simp] theorem settle_cal (s : State) : s.settle.cal = s.cal := (runPulses_sends 8 s).cal
@[simp] theorem settle_hka (s : State) : s.settle.hka = s.hka := (runPulses_sends 8 s).hka
@[simp] theorem settle_exc (s : State) : s.settle.exc = s.exc := (runPulses_sends 8 s).exc
@[simp] theorem settle_now (s : State) : s.settle.now = s.now := (runPulses_sends 8 s).now
@[simp] theorem settle_time (s : State) : s.settle.time = s.time := (runPulses_sends 8 s).time
@[simp] theorem settle_net_hostB (s : State) : s.settle.net.hostB = s.net.hostB := (runPulses_sends 8 s).net_hostB
@[simp] theorem settle_net_censusAt (s : State) : s.settle.net.censusAt = s.net.censusAt := (runPulses_sends 8 s).net_censusAt
@[simp] theorem settle_net_addrId (s : State) : s.settle.net.addrId = s.net.addrId := (runPulses_sends 8 s).net_addrId
@[simp] theorem settle_net_held (s : State) : s.settle.net.held = s.net.held := (runPulses_sends 8 s).net_held
@[simp] theorem settle_net_notices (s : State) : s.settle.net.notices = s.net.notices := (runPulses_sends 8 s).net_notices
@[simp] theorem settle_net_dhcp (s : State) : s.settle.net.dhcp = s.net.dhcp := (runPulses_sends 8 s).net_dhcp
@[simp] theorem settle_sys_owner (s : State) : s.settle.sys.owner = s.sys.owner := (runPulses_sends 8 s).sys_owner
@[simp] theorem settle_sys_armed (s : State) : s.settle.sys.armed = s.sys.armed := (runPulses_sends 8 s).sys_armed
@[simp] theorem settle_sys_stay (s : State) : s.settle.sys.stay = s.sys.stay := (runPulses_sends 8 s).sys_stay
@[simp] theorem settle_sys_stopReq (s : State) : s.settle.sys.stopReq = s.sys.stopReq := (runPulses_sends 8 s).sys_stopReq
@[simp] theorem settle_sys_l0At (s : State) : s.settle.sys.l0At = s.sys.l0At := (runPulses_sends 8 s).sys_l0At
@[simp] theorem settle_sys_resetting (s : State) : s.settle.sys.resetting = s.sys.resetting := (runPulses_sends 8 s).sys_resetting
@[simp] theorem settle_tp_sessions (s : State) : s.settle.tp.sessions = s.tp.sessions := (runPulses_sends 8 s).tp_sessions
@[simp] theorem settle_tp_gens (s : State) : s.settle.tp.gens = s.tp.gens := (runPulses_sends 8 s).tp_gens
@[simp] theorem settle_tp_accepted (s : State) : s.settle.tp.accepted = s.tp.accepted := (runPulses_sends 8 s).tp_accepted
@[simp] theorem settle_tp_banks (s : State) : s.settle.tp.banks = s.tp.banks := (runPulses_sends 8 s).tp_banks
@[simp] theorem settle_tp_nor (s : State) : s.settle.tp.nor = s.tp.nor := (runPulses_sends 8 s).tp_nor
@[simp] theorem settle_tp_marker (s : State) : s.settle.tp.marker = s.tp.marker := (runPulses_sends 8 s).tp_marker
@[simp] theorem settle_tp_withheld (s : State) : s.settle.tp.withheld = s.tp.withheld := (runPulses_sends 8 s).tp_withheld
@[simp] theorem settle_tp_ackHeld (s : State) : s.settle.tp.ackHeld = s.tp.ackHeld := (runPulses_sends 8 s).tp_ackHeld
@[simp] theorem settle_tp_qgens (s : State) : s.settle.tp.qgens = s.tp.qgens := (runPulses_sends 8 s).tp_qgens
@[simp] theorem settle_tp_rxq (s : State) : s.settle.tp.rxq = s.tp.rxq := (runPulses_sends 8 s).tp_rxq
@[simp] theorem settle_tp_opens (s : State) : s.settle.tp.opens = s.tp.opens := (runPulses_sends 8 s).tp_opens
@[simp] theorem settle_sys_arisen (s : State) : s.settle.sys.arisen = s.sys.arisen := (runPulses_sends 8 s).sys_arisen
@[simp] theorem settle_tp_bootCount (s : State) : s.settle.tp.bootCount = s.tp.bootCount := (runPulses_sends 8 s).tp_bootCount
@[simp] theorem settle_on (s : State) (d : Nat) : s.settle.on d = s.on d := (runPulses_sends 8 s).on d
theorem settle_peek (s : State) (a : Nat) (h : a / 0x1000 ≠ 26) : s.settle.peek a = s.peek a := (runPulses_sends 8 s).kept a h
theorem settle_getF (s : State) (f : Field) (h : f.addr / 0x1000 ≠ 26) : s.settle.getF f = s.getF f := getF_congr (settle_peek s _ h)
@[simp] theorem settle_dev (s : State) : s.settle.dev = s.dev := by unfold State.dev; rw [settle_getF _ _ (by decide)]

end State

/-- Every command answers a next state, and it has settled. -/
theorem exec_answers (c : Instr) (s : State) : ∃ u, exec c s = .next (State.settle u) := by
  cases c <;> exact ⟨_, rfl⟩

end Sys2Proof.Machine
end

