-- ==== Sys2Proof/Laws/States.lean ====
section
/-! SUPPORT. What a transition of the device state leaves (R12), and entry to `SAFE` and `LOCKOUT` (R62, R69). -/

namespace Sys2Proof.Machine

theorem sys_getF (s : State) (y : SysState) (f : Field) : ({ s with sys := y } : State).getF f = s.getF f := rfl

theorem tp_getF (s : State) (x : TransportState) (f : Field) : ({ s with tp := x } : State).getF f = s.getF f := rfl
theorem markStop_getF (s : State) (f : Field) : s.markStop.getF f = s.getF f := by obtain ⟨p, h⟩ := markStop_eq s; rw [h]; rfl
theorem amend_getF (s : State) (g : List Byte → List Byte) (f : Field) : (s.amend g).getF f = s.getF f :=
  getF_congr ((amend_reports s g).kept _ trivial)

/-- A transition leaves the new state and its cause in `SYS_STATE`, and, as the first of its cycle, the old state. -/
theorem enterState_state (s : State) (d : DevState) (c : Nat) (o : List Nat) :
    (s.enterState d c o).dev = d ∧ (s.enterState d c o).getF F.SYS_STATE.CAUSE = c % 2 ^ 8 ∧
      (s.sameCycle = false → (s.enterState d c o).getF F.SYS_STATE.PREV = s.dev.code) := by
  have hd : d.code % 2 ^ 4 = d.code ∧ DevState.ofCode d.code = d := by cases d <;> decide
  have hp : s.dev.code % 2 ^ 4 = s.dev.code := by cases s.dev <;> decide
  have hs : ∀ u : State, DevState.ofCode (((u.setF F.SYS_STATE.STATE d.code).setF F.SYS_STATE.CAUSE c).getF F.SYS_STATE.STATE) = d := by
    intro u
    rw [getF_setF_beside _ _ _ _ (by decide) (by decide), getF_setF_self _ _ _ (by decide)]
    exact (congrArg DevState.ofCode hd.1).trans hd.2
  have hc : ∀ u : State, (u.setF F.SYS_STATE.CAUSE c).getF F.SYS_STATE.CAUSE = c % 2 ^ 8 := fun u => getF_setF_self _ _ _ (by decide)
  unfold State.enterState
  extract_lets old v w x
  have hv : v.sameCycle = s.sameCycle := by
    show State.sameCycle (if d = .safe then s else s.endStay) = _
    split <;> rfl
  replace hp : old % 2 ^ 4 = old := hp
  have ho : old = s.dev.code := rfl
  clear_value old
  rw [← ho]
  clear_value v
  split
  · rename_i h
    simp only [Bool.and_eq_true] at h
    refine ⟨?_, ?_, fun n => absurd h.1.1 (by simp [hv, n])⟩
    · rw [State.dev, markStop_getF, amend_getF]
      exact hs _
    · rw [markStop_getF, amend_getF]
      exact hc _
  · rw [State.dev, markStop_getF, markStop_getF, markStop_getF, State.emitEvent_getF, State.emitEvent_getF, State.emitEvent_getF]
    refine ⟨hs _, hc _, fun _ => ?_⟩
    show ((((v.setF F.SYS_STATE.PREV old).setF F.SYS_STATE.STATE d.code).setF F.SYS_STATE.CAUSE c).getF F.SYS_STATE.PREV) = old
    rw [getF_setF_beside _ _ _ _ (by decide) (by decide), getF_setF_beside _ _ _ _ (by decide) (by decide), getF_setF_self _ _ _ (by decide)]
    exact hp

@[simp] theorem enterState_dev (s : State) (d : DevState) (c : Nat) (o : List Nat) : (s.enterState d c o).dev = d := (enterState_state s d c o).1
@[simp] theorem enterState_cause (s : State) (d : DevState) (c : Nat) (o : List Nat) :
    (s.enterState d c o).getF F.SYS_STATE.CAUSE = c % 2 ^ 8 := (enterState_state s d c o).2.1

@[simp] theorem recPulse_dev (s : State) (i : Nat) (t : Int) : (s.recPulse i t).dev = s.dev := by simp [State.dev]

/-- Entry to `SAFE` from a state that a cause of doubt ends. -/
theorem enterSafe_enters (s : State) (c : Nat) (o : List Nat)
    (h : s.dev = .boot ∨ s.dev = .standby ∨ s.dev = .spinup ∨ s.dev = .run ∨ s.dev = .degraded)
    (n : s.dev = .boot → s.sameCycle = false) :
    (s.enterSafe c o).dev = .safe ∧ (s.enterSafe c o).getF F.SYS_STATE.CAUSE = c % 2 ^ 8 := by
  have e : ∃ u o' i, s.enterSafe c o = (State.enterState u .safe c o').recPulse 9 i := by
    unfold State.enterSafe
    split
    · simp_all
    · simp_all
    · simp_all
    · simp_all
    · rw [if_neg (by
        intro hb
        simp only [Bool.and_eq_true, decide_eq_true_eq] at hb
        rw [n hb.1] at hb
        exact absurd hb.2 (by decide))]
      exact ⟨_, _, _, rfl⟩
  obtain ⟨u, o', i, e⟩ := e
  rw [e]
  simp

/-- Entry to `LOCKOUT` of an IK-1024S. -/
theorem enterLockout_enters (s : State) (c : Nat) (g : s.gradeS = true)
    (h : s.dev = .standby ∨ s.dev = .spinup ∨ s.dev = .run ∨ s.dev = .degraded ∨ s.dev = .safe) :
    (s.enterLockout c).dev = .lockout ∧ (s.enterLockout c).getF F.SYS_STATE.CAUSE = c % 2 ^ 8 := by
  have e : ∃ u o i, s.enterLockout c = (State.enterState u .lockout c o).recPulse 9 i := by
    unfold State.enterLockout
    rw [if_neg (by rcases h with h | h | h | h | h <;> simp [h, g]), if_neg (by rcases h with h | h | h | h | h <;> simp [h])]
    exact ⟨_, _, _, rfl⟩
  obtain ⟨u, o, i, e⟩ := e
  rw [e]
  simp

end Sys2Proof.Machine
end

