-- ==== Sys2Proof/WellFormed.lean ====
section
/-! DEFINITION. Which commands can be sent: every operand fits the field that carries it (R24, R92, R125, R150, R305, R312, R318, R371, R412,
R433). -/

namespace Sys2Proof

/-- The fields of a SUBSCRIBE payload fit their bytes (R318). -/
def subscriptionFits (q : Subscription) : Bool :=
  decide (q.cls < 256 ∧ q.dport < 65536 ∧ q.flush < 65536 ∧ q.maxdg < 65536 ∧ q.lease < 2 ^ 32 ∧ q.window < 2 ^ 32 ∧ q.filter0 < 2 ^ 32
    ∧ q.filter1 < 2 ^ 32)

/-- The check of a command. -/
def Instr.wellFormed (i : Instr) : Bool :=
  match i with
  | .frameBoundary _ => true
  | .framePulse _ => true
  | .baristaSlot _ => true
  | .p0SlackExpiry pass step pos _ => decide (pass < 256 ∧ step < 65536 ∧ pos < 256)
  | .polyEncoderEdge _ => true
  | .indexMark _ => true
  | .polygonLoopSample _ => true
  | .galvoLoopSample _ _ => true
  | .fsyncEdge _ => true
  | .fsyncHoldover _ => true
  | .interlockTrip _ _ => true
  | .galvoStallExpiry _ => true
  | .spinupTimeout _ => true
  | .transitionTimeout _ => true
  | .steeringTestComplete _ => true
  | .steeringRecordClose _ => true
  | .chainLoadStart _ _ => true
  | .chainOffTimeExpiry _ _ => true
  | .chainZeroLoadLatched _ _ => true
  | .chainStopRequest _ _ => true
  | .diodeSwitchLatch _ _ => true
  | .firePulse _ _ _ _ code => decide (code < 128)
  | .emonStop _ _ code => decide (code < 128)
  | .pulseSettle _ _ => true
  | .interpolatorRefreshComplete _ hits _ => decide (hits.length = 128)
  | .interpolatorFailure _ _ => true
  | .conversionTimeout _ _ => true
  | .substitutionApply _ _ => true
  | .dllLock _ _ => true
  | .referenceLoopFire _ _ code stop => decide (code < 128 ∧ stop.all (fun x => x.2.2 < 128))
  | .returnPulse _ _ leadCode _ trailCode => decide (leadCode < 128 ∧ trailCode < 128)
  | .channelStuck _ _ => true
  | .channelUnstuck _ _ => true
  | .samplerRefreshComplete _ _ hits _ => decide (hits.length = 128)
  | .samplerTapMapApply _ _ _ => true
  | .samplerFailure _ _ _ => true
  | .samplerSubstitution _ _ => true
  | .i2cTransactionComplete _ result done data _ => decide (result < 8 ∧ done ≤ 32 ∧ data.length ≤ 16)
  | .i2cStretchTimeout _ done _ => decide (done ≤ 32)
  | .i2cApply acked _ => decide (acked < 16)
  | .trainDescriptor frame _ _ => decide (frame < 2 ^ 32)
  | .histogramUpdate _ _ => true
  | .candidateSearch _ _ => true
  | .measurementClose _ _ => true
  | .slotCleared _ _ => true
  | .tileRemap _ _ _ => true
  | .carafeUncorrectable _ _ _ => true
  | .extract _ _ => true
  | .frameHeaderCommit _ => true
  | .statsCommit _ => true
  | .mountStale _ => true
  | .p0Descriptor _ => true
  | .channelBRayResult frame _ pass step pos _ _ _ => decide (frame < 2 ^ 32 ∧ pass < 256 ∧ step < 65536 ∧ pos < 256)
  | .evaluationInstant _ => true
  | .discrepancyExpiry _ => true
  | .ossdOffPulse _ _ => true
  | .ossdReadbackFault _ _ _ => true
  | .clockCrossCheck _ _ => true
  | .channelBGapTest _ _ _ => true
  | .lockoutEntry _ _ => true
  | .lockoutRecordWritten _ => true
  | .lockoutSelfTest _ _ _ _ _ => true
  | .clearWindowClose _ => true
  | .restartPulse _ _ _ => true
  | .ptpMessage _ domain _ _ _ => decide (domain < 256)
  | .ptpForward _ _ seq _ _ _ _ _ _ => decide (seq < 65536)
  | .ppsEdge _ => true
  | .timeSourceLost _ _ => true
  | .ageingWrite _ => true
  | .tsyFramePulse _ => true
  | .clockMonitorWindow _ _ _ _ _ => true
  | .ref10mWindow _ _ _ => true
  | .moduleReady _ _ => true
  | .linkStageComplete _ _ caps _ => decide (caps.peer.serial < 2 ^ 64 ∧ caps.peer.mac < 2 ^ 48)
  | .linkStageTimeout _ _ => true
  | .linkDown _ _ => true
  | .standardLock _ txPre rxPre _ => decide (txPre < 16 ∧ rxPre < 16)
  | .capabilityFrame _ _ => true
  | .laneSwap _ _ _ _ => true
  | .laneFailure _ _ _ _ => true
  | .sleep _ _ _ => true
  | .wake _ _ _ => true
  | .frameReceive _ _ _ => true
  | .census _ _ _ => true
  | .censusHoldExpiry _ => true
  | .censusDone _ _ _ => true
  | .reverseCensus _ _ _ => true
  | .linkNotice _ _ => true
  | .ringFailover _ => true
  | .refreshBurst _ _ => true
  | .read sess addr count => decide (sess < 4096 ∧ addr < 2 ^ 24 ∧ count < 65536)
  | .write sess addr words => decide (sess < 4096 ∧ addr < 2 ^ 24 ∧ words.length < 65536)
  | .subscribe sess sub => decide (sess < 4096 ∧ subscriptionFits sub)
  | .unsubscribe sess queue => decide (sess < 4096 ∧ queue < 65536)
  | .query sess ofSess ofGen ofSeq => decide (sess < 4096 ∧ ofSess < 65536 ∧ ofGen < 2 ^ 32 ∧ ofSeq < 2 ^ 32)
  | .nop sess => decide (sess < 4096)
  | .closeSession sess => decide (sess < 4096)
  | .imageWrite sess target _ offset _ => decide (sess < 4096 ∧ target < 256 ∧ offset < 2 ^ 32)
  | .slotSelect sess slot => decide (sess < 4096 ∧ slot < 256)
  | .fuseProgram sess row _ _ _ => decide (sess < 4096 ∧ row < 256)
  | .keySlotWrite sess slot roles _ => decide (sess < 4096 ∧ slot < 256 ∧ roles < 256)
  | .provisioningRequest sess serial => decide (sess < 4096 ∧ serial < 2 ^ 64)
  | .provisioningReset _ => true
  | .openSession _ nonce lease slot => decide (nonce.length = 16 ∧ lease < 2 ^ 32 ∧ slot < 256)
  | .authConfirmTimeout sess _ => decide (sess < 4096)
  | .controlMessageReceive _ _ _ => true
  | .sessionLeaseExpiry sess _ => decide (sess < 4096)
  | .commitApply _ => true
  | .softResetComplete _ _ => true
  | .safeEntry cause _ => decide (cause < 256)
  | .datagramSend _ _ => true
  | .retransmissionTimeout _ _ => true
  | .ack _ _ => true
  | .queueLeaseExpiry _ _ => true
  | .retentionExpiry _ _ => true
  | .ledgerNorCopy _ _ => true
  | .ledgerBankFailure _ _ => true
  | .dramChannelFailure _ _ => true
  | .dramRebuildComplete _ => true
  | .rangeCalibrationEnd _ => true
  | .diodeFailure _ _ => true
  | .coreFailure _ _ => true
  | .plannedSubstitution _ _ => true
  | .retirementRecordWrite _ => true
  | .fenceViolation _ _ _ _ => true
  | .watchdogWarning _ => true
  | .inputSample _ _ _ _ => true
  | .inputStartThreshold _ => true
  | .normalDwellExpiry _ => true
  | .warnRecoveryExpiry _ => true
  | .inputInRangeExpiry _ => true
  | .lossEntry _ => true
  | .lossExit _ => true
  | .holdupEnd _ => true
  | .ackResume _ => true
  | .holdupCheck _ _ => true
  | .powerCapUpdate _ _ => true
  | .domainStarted _ _ => true
  | .domainStopped _ _ => true
  | .domainOffTimeExpiry _ _ => true
  | .domainRelease _ _ _ _ => true
  | .releaseClockTimeout _ _ => true
  | .releaseRetry _ _ => true
  | .phaseFailure _ _ => true
  | .sparePhaseInService _ _ => true
  | .thermalSample reads _ => decide (reads.length = 12)
  | .powerOn _ => true
  | .brownOut _ => true
  | .nrstAssert _ => true
  | .nrstRelease _ => true
  | .nrstStuck _ => true
  | .watchdogExpiry _ => true
  | .debugReset _ _ => true
  | .clockFailureReset _ _ => true
  | .lockupReset _ => true
  | .resetEntry _ => true
  | .resetRelease _ => true
  | .fuseLoadComplete _ => true
  | .safetyImageReverify _ _ _ => true
  | .selfTestComplete _ _ => true
  | .imageVerify _ _ _ => true
  | .bootComplete _ => true
  | .hkaTrigger _ _ => true
  | .hkaTimerExpiry _ => true
  | .hkaTrgEdge _ _ => true
  | .hkaConversion _ _ _ => true
  | .hkaRecordClose _ => true
  | .hkaCalibrationComplete _ _ => true
  | .dflOutputSet raws tripped _ => decide (raws.length = 12 ∧ tripped < 4096)
  | .overRange _ _ => true
  | .excitationOpen _ _ => true
  | .impedanceCheck _ _ _ _ => true
  | .systemCalibrationEnd _ => true
  | .readoutComplete _ => true
  | .recorderEntry _ _ => true
  | .sequencerTransition _ => true
  | .sequencerTimerExpiry _ _ => true
  | .trigIoEdge _ _ => true
  | .postComplete _ => true
  | .chainTriggerAccept _ trigger _ _ _ => decide (trigger.type < 256 ∧ trigger.origin < 2 ^ 48 ∧ trigger.seq < 65536 ∧ trigger.tai < 2 ^ 64)

/-- A command whose operands fit. -/
abbrev Instr.WellFormed (i : Instr) : Prop := i.wellFormed = true

end Sys2Proof
end

