-- ==== Sys2Proof/Tests/Slice0.lean ====
section
/-! SUPPORT. Tests: the checks of well-formedness, a concrete state for the hypotheses of every statement, and single steps. -/

open Sys2Proof Sys2Proof.Machine

/-- A unit with the given register words and released domains; all else as at reset. -/
def unit (regs : List (Nat × Word)) (doms : List Nat) : State :=
  { State.reset with regs := regs, pwr := { PowerState.reset with released := doms }, rst := { RstState.reset with loading := false } }

/-- A unit whose pins are those of its state. -/
def settledUnit (s : State) : State := { s with pins := s.pinsOf }

/-- A frame without a program's content. -/
def frame0 : FrameInfo :=
  { num := 1, epoch := 0, tai := 0, bank := 0, planned := [0, 0, 0, 0, 0], started := [0, 0, 0, 0, 0], reasons := List.replicate 9 0, excs := [],
    excLost := 0, transition := false, degraded := false, holdover := false, truncated := false, state := 4, facets := 4, revs := 1, rpm := 3000,
    trains := 0, pulses := 0, delayed := [], suppressed := [], validAll := true, start := 0, dark := 0, first := true, opened := false,
    headerDone := false, statsDone := false, stop := none }

/-- A ready group of a class. -/
def ready0 (cls : Nat) : Ready :=
  { pass := 0, step := 0, pos := 0, group := 0, cls := cls, readySlot := 0, fail := none, thermal := none, slack := false }

/-- A train with one line, 17, and one pulse at 1,000 ns. -/
def train0 : Train :=
  { ord := 0, frame := 1, epoch := 0, group := 0, pass := 0, step := 0, pos := 0, cls := 1, pulses := 8, cell := 3000, start := 1000, offs := [],
    lines := [⟨17, 0, 0, 0, 0, 1000, 9000⟩], two := false, hist := false }

/-- A delay line whose taps have one width. -/
def line0 : TapLine :=
  { active := List.range 128, widths := List.replicate 128 256, staged := none, retired := [], subst := none, drift := [] }

/-- A start on bank 1 at 1,000 ns. -/
def start0 : PulseStart :=
  { bank := 1, line := 17, frame := 1, ord := 0, k := 0, epoch := 0, energy := 5, issued := 1000, time := 32768000, armed := true, est := false, stops := [] }

/-- The place in the frame of the steering state of `startUnit`. -/
def steerPos : Int := -16736256

/-- A unit that emits with valid steering and one ready P0 group without lines, in its reserved slot. -/
def startUnit : State :=
  { (unit [(0x110, 4), (0x9160, 0x10)] [0, 8]).setF F.STE_ENC.CPR 1024 with
    now := 1000
    sch := { SchedState.reset with frame := some frame0, ready := [{ ready0 0 with readySlot := 1 }] }
    ste := { SteerState.reset with edges := [500, 400, 300, 200, 100], indexed := true, early := true } }

/-- An open measurement of channel 136, line 17, in frame 1. -/
def meas0 : Meas :=
  { state := 1, two := false, hist := false, est := false, absent := false, nocand := false, late := false, chFault := false, tileFault := false,
    zoomFault := false, lost := false, chan := 136, cls := 1, frame := 1, epoch := 0, train := 0, pulses := 8, used := 0, zfrom := 0x3F, group := 0,
    pass := 0, step := 0, pos := 0, lineSlot := 0, emitter := 17, openedAt := 1000, closedAt := 0, lostCnt := 0, base := 0, cands := [], hits := [], zpulses := 0, bins := [], zoom := [],
    pulseInfo := [], start := 0, amb := 0, rAll := 0, tilt := 0, searched := none, waiting := [] }

theorem startUnit_members (r : Ready) (v : State) (h : v = { startUnit with sch := { startUnit.sch with slot := 1 } }) (k : r.group = 0) :
    v.members (v.readyEntry r) = [] := by
  subst h
  simp only [State.readyEntry, k]
  decide

theorem startUnit_cls : (({ startUnit with sch := { startUnit.sch with slot := 1 } } : State).readyEntry { ready0 0 with readySlot := 1 }).cls = 0 := by
  decide

/-- A pulse of a train as channel B taps it, none emitted. -/
def pulse0 : DripPulse :=
  { frame := 1, train := 0, pass := 0, step := 0, pos := 0, slot := 0, line := 17, fire := 1000, endAt := 9000, emitted := false }

/-- A descriptor of a faulted P0 measurement. -/
def desc0 : P0Desc := { chan := 136, frame := 1, status := 0, ray := ⟨0, 0, 0, 0, 0⟩, used := 8, fault := true, closedAt := 3, returns := [] }

/-! ## Witnesses: states and operands that meet the hypotheses of each statement -/

theorem witness_EncoderCommands_1 : ∃ (s : State) (t : Nat) (a : Nat) (b : Nat) (c : Nat) (d : Nat) (l : List Nat), s.on 9 = true ∧
  s.ste.edges = a :: b :: c :: d :: l ∧ d < t ∧ s.cpr ≠ 0 :=
  ⟨{ unit [(0x110, 2)] [0, 9] with ste := { SteerState.reset with edges := [400, 300, 200, 100, 50] } }, 500, 400, 300, 200, 100, [50], by decide⟩

theorem witness_EncoderCommands_2 : ∃ (s : State), s.on 9 = true :=
  ⟨unit [(0x110, 3)] [0, 9], by decide⟩

theorem witness_EncoderCommands_3 : ∃ (s : State), s.on 9 = true ∧ s.getF F.STE_CTL.REFSRC = 1 ∧ s.ste.fsync = none :=
  ⟨(unit [(0x110, 2)] [0, 9]).setF F.STE_CTL.REFSRC 1, by decide⟩

theorem witness_EncoderCommands_4 : ∃ (s : State) (t : Nat) (n : Nat), s.on 9 = true ∧ s.getF F.STE_CTL.REFSRC = 1 ∧
  s.ste.holdover = false ∧ n = (s.at t).overdueEdges ∧ 3 ≤ n :=
  ⟨{ (((unit [(0x110, 2)] [0, 9]).setF F.STE_CTL.REFSRC 1).setF F.SCH_PROG.REVS 1).setF F.SCH_PROG.RPM 600 with ste := { SteerState.reset with fsync := some 3 } }, 502000003, 5, by decide⟩

theorem witness_FramesFollowPulses_1 : ∃ (s : State) (t : Nat), s.frames = true ∧ s.on 9 = true ∧ s.getF F.STE_CTL.REFSRC = 0 ∧
  s.ste.indexed = true ∧ s.ste.idxAt = t ∧ (s.sch.frame = none ∨ s.getF F.SCH_PROG.REVS ≤ s.ste.rev) :=
  ⟨{ unit [(0x110, 3)] [0, 9] with ste := { SteerState.reset with indexed := true, idxAt := 9 } }, 9, by decide⟩

theorem witness_FramesFollowPulses_2 : ∃ (s : State) (t : Nat), s.frames = true ∧ s.ste.pulseDue = true ∧
  s.ste.pulse = some (max s.now t) ∧ s.rst.active = none ∧ s.sch.frame = none ∧ s.sys.stopReq = false ∧ s.ste.conds = [] :=
  ⟨{ unit [(0x110, 3)] [0, 9] with ste := { SteerState.reset with pulseDue := true, pulse := some 9 } }, 9, by decide⟩

theorem witness_LoopSamples_1 : ∃ (s : State), s.frames = true ∧ s.on 9 = true :=
  ⟨(unit [(0x110, 3)] [0, 9]).setF F.STE_RPM.TARGET 3000, by decide⟩

theorem witness_LoopSamples_2 : ∃ (s : State), s.frames = true ∧ s.on 9 = true :=
  ⟨(unit [(0x110, 3)] [0, 9]).setF F.STE_GV_CAL.GAIN 16384, by decide⟩

theorem witness_LoopSamples_3 : ∃ (s : State) (t : Nat) (e : SteerEntry) (l : List SteerEntry), s.Settled ∧ s.ste.entries = e :: l ∧
  s.now ≤ t ∧ (64 ≤ (e :: l).length ∨ e.time + 10000000 ≤ t) :=
  ⟨settledUnit { unit [(0x110, 2)] [0, 9] with ste := { SteerState.reset with entries := [⟨0, 0, 0, 5, 0, 0, 0, 0, 2⟩] } }, 10000005, ⟨0, 0, 0, 5, 0, 0, 0, 0, 2⟩, [], by decide⟩

theorem witness_LoopSamples_4 : ∃ (s : State) (n : Nat), s.ste.testDone = some n ∧ s.getF F.STE_TEST.ARM = 1 ∧
  s.getF F.STE_TEST_LEN.SAMPLES ≤ n :=
  ⟨{ (unit [(0x110, 3)] [0, 9]).setF F.STE_TEST.ARM 1 with ste := { SteerState.reset with testDone := some 5000000 } }, 5000000, by decide⟩

theorem witness_SteeringDoubt_1 : ∃ (s : State), (s.dev = .run ∨ s.dev = .degraded) ∧ s.on 9 = true :=
  ⟨unit [(0x110, 4)] [0, 9], by decide⟩

theorem witness_SteeringDoubt_2 : ∃ (s : State) (t : Nat) (since : Nat), (s.dev = .run ∨ s.dev = .degraded) ∧ s.on 9 = true ∧
  s.ste.stall = some since ∧ s.now ≤ t ∧ since + s.getF F.STE_ILK.STALL * 1000000 ≤ t :=
  ⟨{ unit [(0x110, 4)] [0, 9] with ste := { SteerState.reset with stall := some 0 } }, 999000000, 0, by decide⟩

theorem witness_SteeringDoubt_3 : ∃ (s : State) (t : Nat), s.dev = .spinup ∧ s.now ≤ t ∧
  s.ste.spinAt + s.getF F.STE_TMO.SPIN * 10000000 ≤ t :=
  ⟨unit [(0x110, 3)] [0, 9], 2 ^ 50, by decide⟩

theorem witness_SteeringDoubt_4 : ∃ (s : State) (t : Nat) (r : Nat), (s.dev = .run ∨ s.dev = .degraded) ∧ s.ste.transition = true ∧
  s.ste.rampedAt = some r ∧ s.now ≤ t ∧ r + s.getF F.STE_TMO.TRANS * 10000000 ≤ t :=
  ⟨{ unit [(0x110, 5)] [0, 9] with ste := { SteerState.reset with transition := true, rampedAt := some 0 } }, 2 ^ 50, 0, by decide⟩

theorem witness_BaristaSlots_1 : ∃ (s : State) (t : Nat), s.on 8 = true ∧ s.now ≤ t ∧ t % 1000 = 0 ∧ s.sch.slot < t / 1000 ∧
  s.frames = false :=
  ⟨unit [(0x110, 2)] [0, 8], 2000, by decide⟩

theorem witness_BaristaSlots_2 : ∃ (s : State) (t : Nat), s.Settled ∧ s.on 8 = true ∧ s.now ≤ t ∧ t % 1000 = 0 ∧ s.sch.slot < t / 1000 ∧
  s.frames = false ∧ s.sch.heat = [] ∧ (∀ c : Fin 4, (s.chain c).load = none) :=
  ⟨settledUnit (unit [(0x110, 2)] [0, 8]), 2000, by decide⟩

theorem witness_BaristaSlots_3 : ∃ (s : State) (t : Nat) (pos : Int) (f : FrameInfo) (r : Ready), s.on 8 = true ∧ s.now ≤ t ∧
  t % 1000 = 0 ∧ s.sch.slot < t / 1000 ∧ (s.dev = .run ∨ s.dev = .degraded) ∧ s.rst.active = none ∧ s.getF F.STE_STAT.VALID = 0 ∧
  s.framePos t = some pos ∧ s.sch.frame = some f ∧ s.sch.at_ = none ∧ s.sch.ready = [r] ∧ s.sch.owed = [] ∧ r.cls ≠ 0 ∧
  pos < s.stepEnd f r.pass r.step :=
  ⟨{ (unit [(0x110, 4)] [0, 8]).setF F.STE_ENC.CPR 1024 with sch := { SchedState.reset with frame := some frame0, ready := [ready0 1] }, ste := { SteerState.reset with edges := [500, 400, 300, 200, 100], indexed := true, early := true } }, 1000, steerPos, frame0, ready0 1, by decide⟩

theorem witness_BaristaSlots_4 : ∃ (s : State) (v : State) (t : Nat) (pos : Int) (f : FrameInfo) (r : Ready), s.on 8 = true ∧ s.now = t ∧
  t % 1000 = 0 ∧ s.sch.slot < t / 1000 ∧ (s.dev = .run ∨ s.dev = .degraded) ∧ s.rst.active = none ∧ s.getF F.STE_STAT.VALID = 1 ∧
  s.framePos t = some pos ∧ s.sch.frame = some f ∧ s.sch.at_ = none ∧ s.sch.ready = [r] ∧ s.sch.trains = [] ∧ s.sch.heat = [] ∧
  s.sch.placed = [] ∧ s.sch.starts = [] ∧ r.cls = 0 ∧ r.fail = none ∧ v = { s with sch := { s.sch with slot := t / 1000 } } ∧
  v.firstSlot r = t / 1000 ∧ pos < s.stepEnd f r.pass r.step ∧ s.sch.owed = [] ∧ (∀ c : Fin 4, (s.chain c).load = none) ∧
  v.energyFits (v.readyEntry r) (v.members (v.readyEntry r)) = true ∧ v.slotsFit (v.readyEntry r) (v.members (v.readyEntry r)) = true ∧
  v.rateFits f pos (v.readyEntry r) (v.members (v.readyEntry r)) = true :=
  ⟨startUnit, { startUnit with sch := { startUnit.sch with slot := 1 } }, 1000, steerPos, frame0, { ready0 0 with readySlot := 1 }, by decide, by decide, by decide, by decide, by decide, by decide, by decide, by decide, rfl, by decide, rfl, by decide, by decide, by decide, by decide, by decide, by decide, rfl, by decide, by decide, by decide, by decide, by rw [startUnit_members _ _ rfl rfl]; decide, by rw [startUnit_members _ _ rfl rfl]; unfold State.slotsFit; rw [startUnit_cls]; simp [slotsOf], by rw [startUnit_members _ _ rfl rfl]; decide⟩

theorem witness_EverySlotCompletes_1 : ∃ (s : State) (t : Nat), s.on 8 = true ∧ s.now ≤ t ∧ t % 1000 = 0 ∧ s.sch.slot < t / 1000 :=
  ⟨startUnit, 1000, by decide⟩

theorem witness_EverySlotCompletes_2 : ∃ (s : State) (t : Nat), s.on 8 = true ∧ s.now ≤ t ∧ t % 1000 = 0 ∧ s.sch.slot < t / 1000 ∧
  s.sch.at_ = none ∧ s.sch.ready = [] ∧ s.sch.owed = [] :=
  ⟨{ startUnit with sch := { startUnit.sch with ready := [], trains := [train0] } }, 1000, by decide⟩

theorem witness_P0CannotBeServed_1 : ∃ (s : State) (pass : Nat) (step : Nat) (pos : Nat) (f : FrameInfo) (r : Ready), (s.dev = .run ∨ s.dev
  = .degraded) ∧ s.sch.frame = some f ∧ f.transition = false ∧ s.sch.ready = [r] ∧ s.sch.owed = [] ∧ r.cls = 0 ∧ r.slack = false ∧
  r.pass = pass ∧ r.step = step ∧ r.pos = pos ∧ s.firstSlot r + s.getF F.SCH_P0_CTL.SLACK ≤ s.sch.slot :=
  ⟨{ unit [(0x110, 4)] [0, 8] with sch := { SchedState.reset with frame := some frame0, ready := [ready0 0], slot := 300 } }, 0, 0, 0, frame0, ready0 0, by decide⟩

theorem witness_P0CannotBeServed_2 : ∃ (s : State) (pass : Nat) (step : Nat) (pos : Nat) (o : OwedP0), (s.dev = .run ∨ s.dev = .degraded) ∧
  s.sch.owed = [o] ∧ o.pass = pass ∧ o.step = step ∧ o.pos = pos ∧ o.exempt = false ∧ o.due ≤ s.sch.slot :=
  ⟨{ unit [(0x110, 4)] [0, 8] with sch := { SchedState.reset with owed := [⟨0, 1, 2, 3, some 7, false⟩], slot := 300 } }, 0, 1, 2, ⟨0, 1, 2, 3, some 7, false⟩, by decide⟩

theorem witness_ChainStates_1 : ∃ (s : State) (c : Fin 4), s.frames = true ∧ s.on 8 = true ∧ c.val < s.emt.chains.length ∧
  s.chainState c = 2 ∧ s.chainEn c = true ∧ (s.chain c).fullDue = true :=
  ⟨{ ((unit [(0x110, 3)] [0, 8]).setF (F.EMT_CHAIN_STAT.STATE.idx 1) 2).setF (F.EMT_CHAIN_CTL.EN.idx 1) 1 with emt := { EmitState.reset with chains := List.replicate 4 { Chain.reset with fullDue := true } } }, 1, by decide⟩

theorem witness_ChainStates_2 : ∃ (s : State) (c : Fin 4) (t : Nat), s.on 8 = true ∧ c.val < s.emt.chains.length ∧ s.chainState c = 0 ∧
  s.chainEn c = true ∧ s.now ≤ t ∧ (s.chain c).offAt + s.getF (F.EMT_CHAIN_CTL.TOFF.idx c) * 100000 ≤ t :=
  ⟨(unit [(0x110, 2)] [0, 8]).setF (F.EMT_CHAIN_CTL.EN.idx 1) 1, 1, 2 ^ 40, by decide⟩

theorem witness_ChainStates_3 : ∃ (s : State) (c : Fin 4) (k : ChainLoad), c.val < s.emt.chains.length ∧ (s.chain c).load = some k ∧
  k.zero = true ∧ (s.chainState c = 1 ∨ s.chainState c = 3 ∨ s.chainState c = 4) :=
  ⟨{ (unit [(0x110, 3)] [0, 8]).setF (F.EMT_CHAIN_STAT.STATE.idx 1) 1 with emt := { EmitState.reset with chains := List.replicate 4 { Chain.reset with load := some ⟨[], [], true, 0, false⟩ } } }, 1, ⟨[], [], true, 0, false⟩, by decide⟩

theorem witness_ChainStates_4 : ∃ (s : State) (c : Fin 4), c.val < s.emt.chains.length ∧ s.chainState c = 2 ∧ s.chainEn c = false ∧
  s.sch.trains = [] :=
  ⟨(unit [(0x110, 2)] [0, 8]).setF (F.EMT_CHAIN_STAT.STATE.idx 1) 2, 1, by decide⟩

theorem witness_ChainStates_5 : ∃ (s : State) (line : Fin 128), s.emt.switches.contains line.val = true ∧ s.sch.trains = [] ∧
  (s.chain (line.val / 32)).load = none :=
  ⟨{ unit [(0x110, 2)] [0, 8] with emt := { EmitState.reset with switches := [40] } }, 40, by decide⟩

theorem witness_FirePulses_1 : ∃ (s : State) (line : Fin 128) (k : Nat) (n : Nat) (tr : Train) (x : TrainLine), s.Settled ∧
  s.pins.fire = true ∧ s.lineDead line = false ∧ (∀ c : Fin 4, (s.chain c).load = none) ∧ s.sch.trains = [tr] ∧ tr.lines = [x] ∧
  x.line = line.val ∧ x.done = k ∧ k < tr.pulses ∧ tabFind (line.val / 16) s.sch.lastFire = none ∧ n = tr.nominal x.rank k ∧
  s.shortUse (s.zoneOf line) n + s.pulseEnergy line ≤ s.shortCeil (s.zoneOf line) ∧
  s.longUse (s.zoneOf line) n + s.pulseEnergy line ≤ s.longCeil (s.zoneOf line) :=
  ⟨settledUnit { unit [(0x110, 4)] [0, 8] with sch := { SchedState.reset with trains := [train0] } }, 17, 0, 1000, train0, ⟨17, 0, 0, 0, 0, 1000, 9000⟩, by decide⟩

theorem witness_FirePulses_2 : ∃ (s : State) (line : Fin 128) (k : Nat) (n : Nat) (tr : Train) (x : TrainLine), s.Settled ∧
  s.pins.fire = true ∧ s.lineDead line = false ∧ (∀ c : Fin 4, (s.chain c).load = none) ∧ s.sch.trains = [tr] ∧ tr.lines = [x] ∧
  x.line = line.val ∧ x.done = k ∧ k < tr.pulses ∧ tabFind (line.val / 16) s.sch.lastFire = none ∧ n = tr.nominal x.rank k ∧
  s.shortCeil (s.zoneOf line) < s.shortUse (s.zoneOf line) n + s.pulseEnergy line :=
  ⟨settledUnit { (unit [(0x110, 4)] [0, 8]).setF F.EMT_ZONE_CEIL.SHORT 0 with sch := { SchedState.reset with trains := [train0] }, emt := { EmitState.reset with us := [(16, 70000000000)] } }, 17, 0, 1000, train0, ⟨17, 0, 0, 0, 0, 1000, 9000⟩, by decide⟩

theorem witness_FirePulses_3 : ∃ (s : State) (line : Fin 128) (k : Nat) (tr : Train) (x : TrainLine), s.Settled ∧ s.pins.fire = true ∧
  s.lineDead line = true ∧ (∀ c : Fin 4, (s.chain c).load = none) ∧ s.sch.trains = [tr] ∧ tr.lines = [x] ∧ x.line = line.val ∧ x.done = k ∧
  k < tr.pulses :=
  ⟨settledUnit { (unit [(0x110, 4)] [0, 8]).setF (trimRetired 17) 1 with sch := { SchedState.reset with trains := [train0] } }, 17, 0, train0, ⟨17, 0, 0, 0, 0, 1000, 9000⟩, by decide⟩

theorem witness_StopsArePaired_1 : ∃ (s : State) (bank : Fin 8) (rising : Bool) (cycle : Nat) (code : Nat) (time : Nat) (p : PulseStart),
  s.on 8 = true ∧ s.activeEdge rising = true ∧ s.bankEst bank = false ∧ s.etd.starts = [p] ∧ p.bank = bank.val ∧ p.armed = true ∧
  tabFind bank.val s.etd.stopDead = none ∧ time = edgeTime (s.tapLine (s.etdOf bank)).widths cycle code ∧
  p.time + fineNs (s.getF F.ETD_WIN.MIN) ≤ time ∧ time ≤ p.time + fineNs (s.getF F.ETD_WIN.MAX) :=
  ⟨{ (unit [(0x110, 4)] [0, 8]).setF F.ETD_WIN.MAX 100 with etd := { EtdState.reset with starts := [start0], lines := [(1, line0)] } }, 1, true, 1020, 0, edgeTime line0.widths 1020 0, start0, by decide⟩

theorem witness_StopsArePaired_2 : ∃ (s : State) (bank : Fin 8) (rising : Bool), s.on 8 = true ∧ s.activeEdge rising = true ∧
  s.bankEst bank = false ∧ s.etd.starts = [] :=
  ⟨unit [(0x110, 4)] [0, 8], 1, true, by decide⟩

theorem witness_StopsArePaired_3 : ∃ (s : State) (rising : Bool), s.Settled ∧ s.activeEdge rising = false :=
  ⟨settledUnit (unit [(0x110, 4)] [0, 8]), false, by decide⟩

theorem witness_StopsArePaired_4 : ∃ (s : State) (bank : Fin 8) (t : Nat) (stop : Nat) (p : PulseStart), s.etd.starts = [p] ∧
  p.bank = bank.val ∧ p.armed = true ∧ p.est = false ∧ p.stops = [(stop, true)] ∧ s.now ≤ t ∧
  p.time + fineNs (s.getF F.ETD_WIN.MAX) ≤ fineNs t :=
  ⟨{ unit [(0x110, 4)] [0, 8] with etd := { EtdState.reset with starts := [{ start0 with stops := [(33000000, true)] }] } }, 1, 2 ^ 40, 33000000, { start0 with stops := [(33000000, true)] }, by decide⟩

theorem witness_StopsArePaired_5 : ∃ (s : State) (bank : Fin 8) (t : Nat) (p : PulseStart), s.etd.starts = [p] ∧ p.bank = bank.val ∧
  p.armed = true ∧ p.est = false ∧ p.stops = [] ∧ s.now ≤ t ∧ p.time + fineNs (s.getF F.ETD_WIN.MAX) ≤ fineNs t :=
  ⟨{ unit [(0x110, 4)] [0, 8] with etd := { EtdState.reset with starts := [start0] } }, 1, 2 ^ 40, start0, by decide⟩

theorem witness_InterpolatorUpkeep_1 : ∃ (s : State) (etd : Fin 9) (hits : List Nat), s.on 8 = true ∧ s.sch.frame = none ∧
  s.sch.trains = [] ∧ testHits ≤ countAt etd.val s.etd.hits ∧ hits.length = 128 ∧ hits.sum = testHits ∧
  hits.all (fun n => decide (1024 ≤ n) && decide (n ≤ 8192)) = true :=
  ⟨{ unit [(0x110, 2)] [0, 8] with etd := { EtdState.reset with hits := [(3, 524288)] } }, 3, List.replicate 128 4096, by decide, by decide, by decide, by decide, by simp, by simp [testHits], by simp⟩

theorem witness_InterpolatorUpkeep_2 : ∃ (s : State), s.on 8 = true :=
  ⟨unit [(0x110, 2)] [0, 8], by decide⟩

theorem witness_InterpolatorUpkeep_3 : ∃ (s : State), s.on 8 = true :=
  ⟨unit [(0x110, 2)] [0, 8], by decide⟩

theorem witness_InterpolatorUpkeep_4 : ∃ (s : State) (etd : Fin 8) (req : Nat), tabFind etd.val s.etd.subst = some req ∧
  s.sch.frame = none ∧ s.sch.trains = [] ∧ s.getF F.ETD_MAP.SPARE_IN = 0 ∧ s.bitF F.ETD_FAIL.EST 8 = false :=
  ⟨{ unit [(0x110, 2)] [0, 8] with etd := { EtdState.reset with subst := [(3, 7)] } }, 3, 7, by decide⟩

theorem witness_InterpolatorUpkeep_5 : ∃ (s : State), s.on 8 = true :=
  ⟨unit [(0x110, 2)] [0, 8], by decide⟩

theorem witness_InterpolatorUpkeep_6 : ∃ (s : State), s.Settled ∧ s.on 8 = true ∧ s.dev = .standby ∧ s.sch.frame = none ∧
  s.getF F.ETD_MAP.SPARE_IN = 0 ∧ s.getF F.ETD_CTL.REFLOOP = 1 :=
  ⟨settledUnit ((unit [(0x110, 2)] [0, 8]).setF F.ETD_CTL.REFLOOP 1), by decide⟩

theorem witness_ReturnPulses_1 : ∃ (s : State) (ch : Fin 1024) (leadCycle : Nat) (leadCode : Nat) (trailCycle : Nat) (trailCode : Nat) (k :
  Nat) (w : Nat) (ws : List Nat), s.samplerAt ch leadCycle = some k ∧ s.on 8 = true ∧ s.on (20 + ch.val / 64) = true ∧
  s.getF (chanEn ch) = 1 ∧ s.getF (chanFlag ch 0) = 0 ∧ tabFind ch.val s.rxc.trailing = none ∧
  ws = (s.tapLine (samplerLine (ch.val / 64) k)).widths ∧ w = toLsb (edgeTime ws trailCycle trailCode - edgeTime ws leadCycle leadCode) ∧
  w < 80 :=
  ⟨{ ((unit [(0x110, 4)] [0, 8, 22]).setF (chanEn 130) 1).setF (chanMap 130) 2 with etd := { EtdState.reset with lines := [(samplerLine 2 2, line0)] } }, 130, 999, 0, 999, 0, 2, 0, List.replicate 128 256, by decide, by decide, by decide, by decide, by decide, by decide, by rfl, by decide, by decide⟩

theorem witness_ReturnPulses_2 : ∃ (s : State) (ch : Fin 1024) (leadCycle : Nat) (leadCode : Nat) (trailCycle : Nat) (trailCode : Nat) (k :
  Nat) (w : Nat) (ws : List Nat), s.samplerAt ch leadCycle = some k ∧ s.on 8 = true ∧ s.on (20 + ch.val / 64) = true ∧
  s.getF (chanEn ch) = 1 ∧ s.getF (chanFlag ch 0) = 0 ∧ tabFind ch.val s.rxc.trailing = none ∧
  ws = (s.tapLine (samplerLine (ch.val / 64) k)).widths ∧ w = toLsb (edgeTime ws trailCycle trailCode - edgeTime ws leadCycle leadCode) ∧
  80 ≤ w ∧ w < 560 ∧ s.sch.trains = [] :=
  ⟨{ ((unit [(0x110, 4)] [0, 8, 22]).setF (chanEn 130) 1).setF (chanMap 130) 2 with etd := { EtdState.reset with lines := [(samplerLine 2 2, line0)] } }, 130, 999, 0, 1000, 0, 2, 128, List.replicate 128 256, by decide⟩

theorem witness_ReturnPulses_3 : ∃ (s : State) (ch : Fin 1024) (leadCycle : Nat) (leadCode : Nat) (trailCycle : Nat) (trailCode : Nat) (k :
  Nat) (w : Nat) (ws : List Nat) (tr : Train) (x : TrainLine) (time : Int), s.samplerAt ch leadCycle = some k ∧ s.on 8 = true ∧
  s.on (20 + ch.val / 64) = true ∧ s.getF (chanEn ch) = 1 ∧ s.getF (chanFlag ch 0) = 0 ∧ tabFind ch.val s.rxc.trailing = none ∧
  ws = (s.tapLine (samplerLine (ch.val / 64) k)).widths ∧ w = toLsb (edgeTime ws trailCycle trailCode - edgeTime ws leadCycle leadCode) ∧
  80 ≤ w ∧ w < 560 ∧ s.samplerFailed (ch.val / 64) k = false ∧ s.sch.trains = [tr] ∧ tr.lines = [x] ∧ x.line = ch.val / 8 ∧
  time = (toLsb (edgeTime ws leadCycle leadCode) : Int) - s.getI (chanOfs ch) ∧ ((tr.nominal x.rank 0 * 128 : Nat) : Int) ≤ time ∧
  time < ((x.endAt * 128 : Nat) : Int) ∧ s.weight tr.epoch ((w - 48) / 32) ≠ 0 ∧ s.queueOf (ch.val / 64) = [] :=
  ⟨{ (((unit [(0x110, 4)] [0, 8, 22]).setF (chanEn 136) 1).setF (chanMap 136) 2).setF (F.GRN_WEIGHT.W) 0x01010101 with sch := { SchedState.reset with trains := [train0] }, etd := { EtdState.reset with lines := [(samplerLine 2 2, line0)] } }, 136, 2000, 0, 2001, 0, 2, 128, List.replicate 128 256, train0, ⟨17, 0, 0, 0, 0, 1000, 9000⟩, 256128, by decide⟩

theorem witness_ReturnPulses_4 : ∃ (s : State), s.on 8 = true :=
  ⟨{ ((unit [(0x110, 4)] [0, 8, 22]).setF (chanEn 130) 1).setF (chanMap 130) 2 with etd := { EtdState.reset with lines := [(samplerLine 2 2, line0)] } }, by decide⟩

theorem witness_ReturnPulses_5 : ∃ (s : State), s.on 8 = true :=
  ⟨{ ((unit [(0x110, 4)] [0, 8, 22]).setF (chanEn 130) 1).setF (chanMap 130) 2 with etd := { EtdState.reset with lines := [(samplerLine 2 2, line0)] } }, by decide⟩

theorem witness_SamplerUpkeep_1 : ∃ (s : State) (group : Fin 16) (sampler : Fin 68) (hits : List Nat), s.on 8 = true ∧
  s.on (20 + group.val) = true ∧ testHits ≤ countAt (samplerLine group sampler) s.rxc.edges ∧ hits.length = 128 ∧ hits.sum = testHits ∧
  hits.all (fun n => decide (1024 ≤ n) && decide (n ≤ 8192)) = true :=
  ⟨{ unit [(0x110, 2)] [0, 8, 22] with rxc := { RxState.reset with edges := [(samplerLine 2 5, 524288)] } }, 2, 5, List.replicate 128 4096, by decide, by decide, by decide, by simp, by simp [testHits], by simp⟩

theorem witness_SamplerUpkeep_2 : ∃ (s : State) (group : Fin 16) (sampler : Fin 68) (places : List Nat) (req : Nat), (s.tapLine
  (samplerLine group sampler)).subst = some (places, req) ∧ s.sch.frame = none ∧ s.sch.trains = [] :=
  ⟨{ unit [(0x110, 2)] [0, 8, 22] with etd := { EtdState.reset with lines := [(samplerLine 2 5, { line0 with subst := some ([7], 3) })] } }, 2, 5, [7], 3, by decide, by decide, by decide⟩

theorem witness_SamplerUpkeep_3 : ∃ (s : State) (group : Fin 16), s.on 8 = true ∧ s.on (20 + group.val) = true :=
  ⟨unit [(0x110, 2)] [0, 8, 22], 2, by decide⟩

theorem witness_SamplerUpkeep_4 : ∃ (s : State) (ch : Fin 1024) (w : SpareClaim), s.rxc.waiting = [w] ∧ w.ch = ch.val ∧ s.sch.trains = [] :=
  ⟨{ unit [(0x110, 2)] [0, 8, 22] with rxc := { RxState.reset with waiting := [⟨130, 1, 3⟩] } }, 130, ⟨130, 1, 3⟩, by decide⟩

theorem witness_SamplerUpkeep_5 : ∃ (s : State) (bus : Fin 4) (result : Nat), s.on 8 = true ∧ s.getF (F.RXC_I2C_CMD.GO.bus bus) = 1 ∧
  (result = 2 ∨ result = 3 ∨ result = 4 ∨ result = 7) :=
  ⟨(unit [(0x110, 2)] [0, 8, 22]).setF (F.RXC_I2C_CMD.GO.bus 1) 1, 1, 2, by decide⟩

theorem witness_SamplerUpkeep_6 : ∃ (s : State) (bus : Fin 4), s.on 8 = true ∧ s.getF (F.RXC_I2C_CMD.GO.bus bus) = 1 :=
  ⟨(unit [(0x110, 2)] [0, 8, 22]).setF (F.RXC_I2C_CMD.GO.bus 3) 1, 3, by decide⟩

theorem witness_SamplerUpkeep_7 : ∃ (s : State) (acked : Nat), s.Settled ∧ s.on 8 = true ∧ s.rxc.applyDue = true ∧
  (s.on 5 = false ∨ s.getF F.RXC_I2C_CFG.APPLY_EN &&& acked = s.getF F.RXC_I2C_CFG.APPLY_EN) :=
  ⟨settledUnit { (unit [(0x110, 2)] [0, 8, 22]).setF F.RXC_I2C_CFG.APPLY_EN 5 with rxc := { RxState.reset with applyDue := true } }, 4, by decide⟩

theorem witness_EventsMeetMeasurements_1 : ∃ (s : State) (frame : Nat) (train : Nat) (n : Nat) (line : Fin 128) (r : PulseResult) (m :
  Meas), s.etd.results = [((frame, train, line.val), r)] ∧ s.grn.slots = [(n, m)] ∧ m.chan / 8 = line.val ∧ m.frame = frame ∧
  m.train = train ∧ m.state = 1 ∧ m.waiting = [] :=
  ⟨{ unit [(0x110, 4)] [0, 8, 12] with etd := { EtdState.reset with results := [((1, 0, 17), ⟨0, 0, 128000, 5⟩)] }, grn := { GrindState.reset with slots := [(520, meas0)] } }, 1, 0, 520, 17, ⟨0, 0, 128000, 5⟩, meas0, by decide⟩

theorem witness_EventsMeetMeasurements_2 : ∃ (s : State) (group : Fin 16) (slot : Nat) (ev : Event) (m : Meas) (r : PulseResult), s.queueOf
  group = [ev] ∧ s.rxc.held = [] ∧ tabFind (group.val / 2) s.grn.bucket = none ∧ tabFind (group.val / 2) s.grn.recent = none ∧
  s.on (12 + group.val / 2) = true ∧ s.measOf ev = some (slot, m) ∧ m.decided ev.time = true ∧ m.chFault = false ∧ m.tileFault = false ∧
  m.zfrom = 0x3F ∧ m.pulseAt ev.time = some r ∧ r.status ≠ 2 :=
  ⟨{ unit [(0x110, 4)] [0, 8, 12, 13] with rxc := { RxState.reset with queues := [(2, [⟨136, 1, 0, 130000, 3⟩])] }, grn := { GrindState.reset with slots := [(520, { meas0 with pulses := 1, pulseInfo := [⟨0, 0, 128000, 5⟩] })] } }, 2, 520, ⟨136, 1, 0, 130000, 3⟩, { meas0 with pulses := 1, pulseInfo := [⟨0, 0, 128000, 5⟩] }, ⟨0, 0, 128000, 5⟩, by decide⟩

theorem witness_MeasurementsClose_1 : ∃ (s : State) (slot : Fin 4096) (t : Nat) (m : Meas), tabFind slot.val s.grn.slots = some m ∧
  m.state = 1 ∧ m.searched = none ∧ m.passed (s.passOne m) (max s.now t) = true :=
  ⟨{ unit [(0x110, 4)] [0, 8, 12, 13] with grn := { GrindState.reset with slots := [(520, { meas0 with pulseInfo := [⟨0, 0, 128000, 5⟩, ⟨1, 0, 228000, 5⟩, ⟨2, 0, 328000, 5⟩, ⟨3, 0, 428000, 5⟩], pulses := 4, bins := [(40, 30)] })] } }, 520, 2 ^ 30, { meas0 with pulseInfo := [⟨0, 0, 128000, 5⟩, ⟨1, 0, 228000, 5⟩, ⟨2, 0, 328000, 5⟩, ⟨3, 0, 428000, 5⟩], pulses := 4, bins := [(40, 30)] }, by decide⟩

theorem witness_MeasurementsClose_2 : ∃ (s : State) (slot : Fin 4096) (t : Nat) (m : Meas), tabFind slot.val s.grn.slots = some m ∧
  (m.state = 1 ∨ m.state = 2) ∧ m.passed m.pulses (max s.now t) = true :=
  ⟨{ unit [(0x110, 4)] [0, 8, 12, 13] with grn := { GrindState.reset with slots := [(520, { meas0 with pulseInfo := [⟨0, 0, 128000, 5⟩], pulses := 1 })] } }, 520, 2 ^ 30, { meas0 with pulseInfo := [⟨0, 0, 128000, 5⟩], pulses := 1 }, by decide⟩

theorem witness_MeasurementsClose_3 : ∃ (s : State) (slot : Fin 4096) (m : Meas), tabFind slot.val s.grn.slots = some m ∧ m.state = 5 :=
  ⟨{ unit [(0x110, 4)] [0, 8, 12, 13] with grn := { GrindState.reset with slots := [(520, { meas0 with state := 5 })] } }, 520, { meas0 with state := 5 }, by decide⟩

theorem witness_CarafeTiles_1 : ∃ (s : State) (engine : Fin 8) (tile : Fin 8) (p : Nat), s.on (12 + engine.val) = true ∧
  s.tileOf engine tile = p ∧ p < 9 ∧ s.bitF (F.GRN_ENG_TSTAT.DRAIN.inst engine) p = true ∧ s.tileEmpty engine tile = true ∧
  s.spareTile engine = true :=
  ⟨(unit [] [0, 12, 13]).setF (F.GRN_ENG_TSTAT.DRAIN.inst 1) 4, 1, 2, 2, by decide, by decide, by decide, by decide, by set_option maxRecDepth 20000 in decide, by decide⟩

theorem witness_CarafeTiles_2 : ∃ (s : State) (engine : Fin 8) (tile : Fin 8) (p : Nat), s.on (12 + engine.val) = true ∧
  s.tileOf engine tile = p ∧ p < 9 ∧ s.bitF (F.GRN_ENG_TSTAT.DRAIN.inst engine) p = true ∧ s.tileEmpty engine tile = true ∧
  s.spareTile engine = false ∧ s.bitF (F.GRN_ENG_TSTAT.FAILED.inst engine) p = true :=
  ⟨((unit [] [0, 12, 13]).setF (F.GRN_ENG_TSTAT.DRAIN.inst 1) 4).setF (F.GRN_ENG_TSTAT.FAILED.inst 1) 260, 1, 2, 2, by decide, by decide, by decide, by decide, by set_option maxRecDepth 20000 in decide, by decide, by decide⟩

theorem witness_CarafeTiles_3 : ∃ (s : State) (engine : Fin 8) (tile : Fin 8) (p : Nat), s.on (12 + engine.val) = true ∧
  s.tileOf engine tile = p ∧ p < 9 ∧ s.bitF (F.GRN_ENG_TSTAT.DRAIN.inst engine) p = true ∧ s.tileEmpty engine tile = true ∧
  s.spareTile engine = false ∧ s.bitF (F.GRN_ENG_TSTAT.FAILED.inst engine) p = false :=
  ⟨((unit [] [0, 12, 13]).setF (F.GRN_ENG_TSTAT.DRAIN.inst 1) 4).setF (F.GRN_ENG_TSTAT.FAILED.inst 1) 256, 1, 2, 2, by decide, by decide, by decide, by decide, by set_option maxRecDepth 20000 in decide, by decide, by decide⟩

theorem witness_CarafeTiles_4 : ∃ (s : State) (slot : Fin 4096) (p : Nat), s.on (12 + slot.val / 512) = true ∧ s.on 12 = true ∧
  s.tileOf (slot.val / 512) (slot.val % 512 / 64) = p ∧ p < 9 :=
  ⟨unit [] [0, 12, 13], 700, 2, by decide⟩

theorem witness_CarafeTiles_5 : ∃ (s : State) (slot : Fin 4096) (m : Meas), s.on (12 + slot.val / 512) = true ∧ s.on 12 = true ∧
  tabFind slot.val s.grn.slots = some m ∧ m.state ≠ 5 :=
  ⟨{ unit [] [0, 12, 13] with grn := { GrindState.reset with slots := [(520, meas0)] } }, 520, meas0, by decide⟩

theorem witness_ExtractionFreesSlots_1 : ∃ (s : State) (line : Fin 128) (n : Nat) (frame : Nat) (train : Nat) (g : Nat →
  Meas), s.on 11 = true ∧ s.grn.slots = (List.range 8).map (fun i => (n + i, g i)) ∧ (∀ i : Fin 8, (g i.val).chan = 8 * line.val + i.val ∧
  (g i.val).state = 3 ∧ (g i.val).frame = frame ∧ (g i.val).train = train) :=
  ⟨{ unit [] [0, 11] with grn := { GrindState.reset with slots := (List.range 8).map (fun i => (520 + i, { meas0 with state := 3, chan := 136 + i })) } }, 17, 520, 1, 0, fun i => { meas0 with state := 3, chan := 136 + i }, by decide, by rfl, by decide⟩

theorem witness_ExtractionFreesSlots_2 : ∃ (s : State) (t : Nat), s.on 11 = true ∧ s.getF F.CRM_MOUNT.EN = 1 ∧
  s.getF F.CRM_MOUNT.STALE = 0 ∧ s.crm.arrived + s.getF F.CRM_MOUNT.STALE_MS * 1000000 ≤ max s.now t :=
  ⟨(unit [] [0, 11]).setF F.CRM_MOUNT.EN 1, 2 ^ 40, by decide⟩

theorem witness_HeadersAndStats_1 : ∃ (s : State) (f : FrameInfo), s.Settled ∧ s.sch.past = [] ∧ s.sch.frame = some f ∧ f.opened = false ∧
  f.first = true ∧ s.crm.held = [] :=
  ⟨settledUnit { unit [] [0, 11] with sch := { SchedState.reset with frame := some frame0 } }, frame0, by decide⟩

theorem witness_HeadersAndStats_2 : ∃ (s : State) (f : FrameInfo), s.Settled ∧ s.sch.past = [f] ∧ f.statsDone = false ∧
  f.headerDone = false ∧ s.grn.slots = [] :=
  ⟨settledUnit { unit [] [0, 11] with sch := { SchedState.reset with past := [frame0] } }, frame0, by decide⟩

theorem witness_RaysAreJudged_1 : ∃ (s : State) (i : List Byte) (d : P0Desc) (l : List P0Desc), s.image = some i ∧ s.saf.descs = d :: l :=
  ⟨{ (unit [(0x110, 4)] [0, 1, 2]).setF F.SYS_PART.GRADE 2 with saf := { SafetyState.reset with activeA := some [], activeB := some [], descs := [desc0] } }, [], desc0, [], by decide⟩

theorem witness_RaysAreJudged_2 : ∃ (s : State) (frame : Nat) (train : Nat) (pass : Nat) (step : Nat) (pos : Nat) (slot : Fin 8) (off : Fin
  8) (t : Nat) (j : List Byte) (x : DripPulse), s.imageB = some j ∧ s.on 2 = true ∧
  s.saf.pulses.find? (fun p => p.isOf frame train ⟨pass, step, pos, slot.val, off.val⟩) = some x ∧ x.endAt ≤ max s.now t ∧
  s.saf.raysB.any (fun r => r.frame = frame && r.ray = ⟨pass, step, pos, slot.val, off.val⟩) = false :=
  ⟨{ (unit [(0x110, 4)] [0, 1, 2]).setF F.SYS_PART.GRADE 2 with saf := { SafetyState.reset with activeA := some [], activeB := some (List.replicate 70 1), pulses := [pulse0] } }, 1, 0, 0, 0, 0, 0, 0, 9000, List.replicate 70 1, pulse0, by rfl, by decide, by decide, by decide, by decide⟩

theorem witness_RaysAreJudged_3 : ∃ (s : State) (t : Nat) (d : FrameDue) (l : List FrameDue), s.Settled ∧ s.image = none ∧
  s.saf.due = d :: l ∧ d.ended + 5000000 ≤ max s.now t :=
  ⟨settledUnit { (unit [(0x110, 4)] [0, 1, 2]).setF F.SYS_PART.GRADE 2 with saf := { SafetyState.reset with due := [⟨1, 0, 5, 0⟩] } }, 5000005, ⟨1, 0, 5, 0⟩, [], by decide⟩

theorem witness_RaysAreJudged_4 : ∃ (s : State) (t : Nat) (i : List Byte) (j : List Byte) (d : FrameDue) (l : List FrameDue), s.image =
  some i ∧ s.imageB = some j ∧ s.saf.due = d :: l ∧ d.ended + 5000000 ≤ max s.now t ∧
  (∀ r ∈ s.saf.runs, max s.now t < r.2 + s.getF F.SFA_CFG.TD * 1000000) :=
  ⟨{ (unit [(0x110, 4)] [0, 1, 2]).setF F.SYS_PART.GRADE 2 with saf := { SafetyState.reset with activeA := some [], activeB := some [], due := [⟨1, 0, 5, 0⟩] } }, 5000005, [], [], ⟨1, 0, 5, 0⟩, [], by decide⟩

theorem witness_LockoutEntries_1 : ∃ (s : State) (t : Nat) (k : Nat) (b : Nat), s.gradeS = true ∧
  (s.dev = .standby ∨ s.dev = .spinup ∨ s.dev = .run ∨ s.dev = .degraded ∨ s.dev = .safe) ∧ s.saf.activeA.isSome = true ∧
  s.saf.runs = [(k, b)] ∧ b + s.getF F.SFA_CFG.TD * 980000 ≤ max s.now t :=
  ⟨{ (unit [(0x110, 4)] [0, 1, 2]).setF F.SYS_PART.GRADE 2 with saf := { SafetyState.reset with activeA := some [], activeB := some [], runs := [(3, 0)] } }, 2 ^ 50, 3, 0, by decide⟩

theorem witness_LockoutEntries_2 : ∃ (s : State) (fbA : Bool) (fbB : Bool) (t : Nat), s.gradeS = true ∧
  (s.dev = .standby ∨ s.dev = .spinup ∨ s.dev = .run ∨ s.dev = .degraded ∨ s.dev = .safe) ∧ (s.at t).readbackBad fbA fbB = true :=
  ⟨(unit [(0x110, 4)] [0, 1, 2]).setF F.SYS_PART.GRADE 2, true, false, 50000, by decide⟩

theorem witness_LockoutEntries_3 : ∃ (s : State) (dev : Int), s.gradeS = true ∧
  (s.dev = .standby ∨ s.dev = .spinup ∨ s.dev = .run ∨ s.dev = .degraded ∨ s.dev = .safe) ∧ s.on 2 = true ∧ 500 < dev.natAbs ∧
  2 ≤ s.saf.clkBad :=
  ⟨{ (unit [(0x110, 4)] [0, 1, 2]).setF F.SYS_PART.GRADE 2 with saf := { SafetyState.reset with clkBad := 2 } }, -501, by decide⟩

theorem witness_LockoutEntries_4 : ∃ (s : State) (pass : Bool) (crc : Bool), s.gradeS = true ∧
  (s.dev = .standby ∨ s.dev = .spinup ∨ s.dev = .run ∨ s.dev = .degraded ∨ s.dev = .safe) ∧ s.on 2 = true ∧ (pass = false ∨ crc = false) :=
  ⟨(unit [(0x110, 4)] [0, 1, 2]).setF F.SYS_PART.GRADE 2, true, false, by decide⟩

theorem witness_LockoutEntries_5 : ∃ (s : State), s.gradeS = true ∧
  (s.dev = .standby ∨ s.dev = .spinup ∨ s.dev = .run ∨ s.dev = .degraded ∨ s.dev = .safe) :=
  ⟨(unit [(0x110, 4)] [0, 1, 2]).setF F.SYS_PART.GRADE 2, by decide⟩

theorem witness_SafetyChecksThatPass_1 : ∃ (s : State) (dev : Int), s.gradeS = true ∧ s.on 2 = true ∧ dev.natAbs ≤ 500 :=
  ⟨(unit [(0x110, 4)] [0, 1, 2]).setF F.SYS_PART.GRADE 2, -500, by decide⟩

theorem witness_SafetyChecksThatPass_2 : ∃ (s : State), s.gradeS = true ∧ s.on 2 = true :=
  ⟨(unit [(0x110, 4)] [0, 1, 2]).setF F.SYS_PART.GRADE 2, by decide⟩

theorem witness_SafetyChecksThatPass_3 : ∃ (s : State) (channelB : Bool) (t : Nat) (p : Nat), s.Settled ∧ s.pulseDue channelB = some p ∧
  s.saf.outputsOn = true ∧ p ≤ max s.now t :=
  ⟨settledUnit { (unit [(0x110, 4)] [0, 1, 2]).setF F.SYS_PART.GRADE 2 with saf := { SafetyState.reset with activeA := some [], activeB := some [], outputsOn := true, pulseA := some 3 } }, true, 50, 3, by decide⟩

theorem witness_LockoutIsCleared_1 : ∃ (s : State), s.rst.lockLatch = true ∧ s.rst.lockRecord = none :=
  ⟨{ unit [(0x110, 7)] [0, 1, 2] with rst := { RstState.reset with lockLatch := true, lockCause := 0x50 } }, by decide⟩

theorem witness_LockoutIsCleared_2 : ∃ (s : State), s.dev = .lockout ∧ (s.getF F.SFA_LOCK.CAUSE = 0x50 ∨ s.getF F.SFA_LOCK.CAUSE = 0x51) :=
  ⟨(unit [(0x110, 7)] [0, 1, 2]).setF F.SFA_LOCK.CAUSE 0x51, by decide⟩

theorem witness_LockoutIsCleared_3 : ∃ (s : State) (t : Nat) (a : Nat), s.saf.clearAt = some a ∧ a + 10000000000 ≤ max s.now t :=
  ⟨{ unit [(0x110, 7)] [0, 1, 2] with saf := { SafetyState.reset with clearAt := some 3 } }, 2 ^ 40, 3, by decide⟩

theorem witness_LockoutIsCleared_4 : ∃ (s : State) (t : Nat) (usA : Nat) (usB : Nat) (a : Nat), s.gradeS = true ∧ s.dev = .lockout ∧
  s.saf.clearAt = some a ∧ 150000 ≤ usA ∧ usA ≤ 2000000 ∧ 150000 ≤ usB ∧ usB ≤ 2000000 ∧ a + usA * 1000 ≤ t ∧ t ≤ a + 10000000000 :=
  ⟨{ (unit [(0x110, 7)] [0, 1, 2]).setF F.SYS_PART.GRADE 2 with saf := { SafetyState.reset with clearAt := some 3 } }, 300000000, 150000, 2000000, 3, by decide⟩

theorem witness_LockoutIsCleared_5 : ∃ (s : State) (usA : Nat) (usB : Nat), s.gradeS = true ∧ s.outputsReady = true ∧
  s.getF F.SFA_OSSD.IL_WAIT = 1 ∧ 150000 ≤ usA ∧ usA ≤ 2000000 ∧ 150000 ≤ usB ∧ usB ≤ 2000000 :=
  ⟨{ ((((unit [(0x110, 4)] [0, 1, 2]).setF F.SYS_PART.GRADE 2).setF F.SFA_OSSD.IL_WAIT 1).setF F.SFA_OSSD.PERMIT_A 1).setF F.SFA_OSSD.PERMIT_B 1 with saf := { SafetyState.reset with activeA := some [], activeB := some [] } }, 150000, 2000000, by decide⟩

theorem witness_PtpMessages_1 : ∃ (s : State) (portB : Bool) (domain : Nat) (transport : Nat) (p1 : Nat) (cc : Nat), s.on 3 = true ∧
  portB = s.flag F.TSY_STAT.PORT ∧ domain = s.getF F.TSY_CTL.DOMAIN ∧ transport = s.getF F.TSY_CTL.TRANSPORT ∧
  (s.getF F.TSY_CTL.GM_EN = 0 ∨ p1 < 250 ∨ p1 = 250 ∧ cc ≤ s.clockClass) :=
  ⟨unit [(0x110, 2)] [0, 3], false, 0, 0, 128, 6, by decide⟩

theorem witness_PtpMessages_2 : ∃ (s : State) (portB : Bool) (domain : Nat) (transport : Nat) (logInterval : Int), s.on 3 = true ∧
  portB = s.flag F.TSY_STAT.PORT ∧ domain = s.getF F.TSY_CTL.DOMAIN ∧ transport = s.getF F.TSY_CTL.TRANSPORT ∧ s.time.master = true ∧
  2 ≤ s.time.syncs ∧ -7 ≤ logInterval ∧ logInterval ≤ 0 ∧ s.getF F.TSY_CTL.SRC = 1 :=
  ⟨{ (unit [(0x110, 2)] [0, 3]).setF F.TSY_CTL.SRC 1 with time := { TimeState.reset with master := true, syncs := 2 } }, false, 0, 0, -3, by decide⟩

theorem witness_PtpMessages_3 : ∃ (s : State) (portB : Bool) (domain : Nat) (transport : Nat), s.on 3 = true ∧
  portB = s.flag F.TSY_STAT.PORT ∧ domain = s.getF F.TSY_CTL.DOMAIN ∧ transport = s.getF F.TSY_CTL.TRANSPORT :=
  ⟨unit [(0x110, 2)] [0, 3], false, 0, 0, by decide⟩

theorem witness_PtpMessages_4 : ∃ (s : State), s.Settled ∧ s.on 3 = true ∧ s.portActive 0 = true ∧ s.portActive 1 = true ∧
  s.getF F.TSY_CTL.PROFILE = 0 :=
  ⟨settledUnit (((unit [(0x110, 2)] [0, 3, 6, 7]).setF F.NTA_STAT.STAGE 6).setF (F.NTA_STAT.STAGE.pageUp 1) 6), by decide⟩

theorem witness_TimeSources_1 : ∃ (s : State) (t : Nat) (p : Nat), s.now ≤ t ∧ s.on 3 = true ∧ s.servo ≠ 2 ∧ s.time.lastPps = some p ∧
  999990000 ≤ t - p ∧ t - p ≤ 1000010000 :=
  ⟨{ unit [(0x110, 2)] [0, 3] with time := { TimeState.reset with lastPps := some 5 } }, 1000000005, 5, by decide⟩

theorem witness_TimeSources_2 : ∃ (s : State) (dev : Int), s.on 3 = true ∧ dev.natAbs ≤ 5000000 :=
  ⟨unit [(0x110, 2)] [0, 3], -5000000, by decide⟩

theorem witness_TimeSources_3 : ∃ (s : State) (dev : Int) (missing : Bool), s.on 3 = true ∧ (missing = true ∨ 5000000 < dev.natAbs) :=
  ⟨{ unit [(0x110, 2)] [0, 3] with time := { TimeState.reset with accepted := 8 } }, 5000001, false, by decide⟩

theorem witness_TimeSources_4 : ∃ (s : State) (t : Nat) (p : Nat), s.on 3 = true ∧ s.time.goodPps = some p ∧ p + 3000010000 ≤ max s.now t :=
  ⟨{ unit [(0x110, 2)] [0, 3] with time := { TimeState.reset with goodPps := some 5, accepted := 4 } }, 2 ^ 40, 5, by decide⟩

theorem witness_TimeSources_5 : ∃ (s : State) (t : Nat), s.on 3 = true ∧ s.servo = 2 ∧ s.time.ageFrom + 86400000000000 ≤ max s.now t :=
  ⟨(unit [(0x110, 2)] [0, 3]).setF F.TSY_STAT.STATE 2, 2 ^ 50, by decide⟩

theorem witness_TimeSources_6 : ∃ (s : State) (t : Nat) (q : Nat), s.now = t ∧ s.on 3 = true ∧ s.getF F.STE_CTL.REFSRC = 2 ∧
  0 < s.getF F.TSY_PULSE.NS ∧ q = s.taiNs / s.getF F.TSY_PULSE.NS * s.getF F.TSY_PULSE.NS ∧
  s.time.lastMultiple.all (fun x => decide (x < q)) = true ∧ s.taiNs % s.getF F.TSY_PULSE.NS < 20 :=
  ⟨{ ((unit [(0x110, 2)] [0, 3]).setF F.STE_CTL.REFSRC 2).setF F.TSY_PULSE.NS 1000 with time := { TimeState.reset with tai := 2019 * 65536, lastMultiple := some 1000 } , now := 7 }, 7, 2000, by decide⟩

theorem witness_ClockMonitors_1 : ∃ (s : State) (mon : Fin 9) (ppm : Int), s.monitored mon = true ∧
  tabFind mon.val s.time.monGood = some 3 ∧ ppm.natAbs ≤ (monitorBand mon).1 :=
  ⟨{ unit [(0x110, 2)] [0, 3] with time := { TimeState.reset with monGood := [(7, 3)] } }, 7, -5000, by decide⟩

theorem witness_ClockMonitors_2 : ∃ (s : State) (mon : Fin 9) (ppm : Int) (t : Nat) (n : Nat), s.monitored mon = true ∧
  tabFind mon.val s.time.monGood = some n ∧ n ≠ 0 ∧ (monitorBand mon).1 < ppm.natAbs ∧ ppm.natAbs ≤ (monitorBand mon).2 ∧
  (s.dev = .boot ∨ s.dev = .standby ∨ s.dev = .spinup ∨ s.dev = .run ∨ s.dev = .degraded) ∧ (s.dev = .boot → (s.at t).sameCycle = false) :=
  ⟨{ unit [(0x110, 2)] [0, 3] with time := { TimeState.reset with monGood := [(7, 3)] } }, 7, -5001, 5, 3, by decide⟩

theorem witness_ClockMonitors_3 : ∃ (s : State) (mon : Fin 9), s.monitored mon = true :=
  ⟨unit [(0x110, 2)] [0, 3], 7, by decide⟩

theorem witness_LinkLife_1 : ∃ (s : State) (portB : Bool) (report : ModuleReport), s.net.ports.length = 2 ∧
  s.portOn (portNo portB) = true ∧ report.portB = portB ∧ report.present = true ∧
  report.lanes &&& s.modeLanes (portNo portB) = s.modeLanes (portNo portB) ∧ (s.port (portNo portB)).ready = false ∧
  s.getF (nt (portNo portB) F.NTA_CTL.MODE) ≠ 1 :=
  ⟨unit [(0x110, 2)] [0, 3, 6, 7], true, ⟨true, true, 15⟩, by decide⟩

theorem witness_LinkLife_2 : ∃ (s : State) (portB : Bool) (t : Nat), s.net.ports.length = 2 ∧ s.portOn (portNo portB) = true ∧
  1 ≤ s.stage (portNo portB) ∧ s.stage (portNo portB) < 5 ∧
  (s.port (portNo portB)).stageAt + stageMin (s.stage (portNo portB)) ≤ max s.now t :=
  ⟨((unit [(0x110, 2)] [0, 3, 6, 7]).setF (nt 1 F.NTA_STAT.STAGE) 2), true, 15000000, by decide⟩

theorem witness_LinkLife_3 : ∃ (s : State) (portB : Bool) (caps : CapsExchange) (t : Nat), s.net.ports.length = 2 ∧
  s.portOn (portNo portB) = true ∧ s.stage (portNo portB) = 5 ∧ (s.port (portNo portB)).stageAt ≤ max s.now t ∧
  (((s.port (portNo portB)).lane4 = true ∧
  caps.peer.lane4 = true) ∨ (s.port (portNo portB)).twoLanes = true ∨ s.getF (nt (portNo portB) F.NTA_CTL.SPARE) = 0) :=
  ⟨{ ((unit [(0x110, 2)] [0, 3, 6, 7]).setF (nt 1 F.NTA_STAT.STAGE) 5) with net := { NetState.reset with ports := [Port.reset, { Port.reset with lane4 := true }] } }, true, ⟨⟨1, 2, true, true, true, 100⟩, 7, []⟩, 15, by decide⟩

theorem witness_LinkLife_4 : ∃ (s : State) (portB : Bool) (caps : CapsExchange) (t : Nat), s.net.ports.length = 2 ∧
  s.portOn (portNo portB) = true ∧ s.stage (portNo portB) = 5 ∧ (s.port (portNo portB)).stageAt ≤ max s.now t ∧
  ((s.port (portNo portB)).lane4 = false ∨ caps.peer.lane4 = false) ∧ (s.port (portNo portB)).twoLanes = false ∧
  s.getF (nt (portNo portB) F.NTA_CTL.SPARE) = 1 :=
  ⟨(((unit [(0x110, 2)] [0, 3, 6, 7]).setF (nt 1 F.NTA_STAT.STAGE) 5).setF (nt 1 F.NTA_CTL.SPARE) 1), true, ⟨⟨1, 2, false, true, true, 100⟩, 7, []⟩, 15, by decide⟩

theorem witness_LinkLife_5 : ∃ (s : State) (portB : Bool) (t : Nat) (d : Nat), s.net.ports.length = 2 ∧ s.portOn (portNo portB) = true ∧
  stageMax (s.stage (portNo portB)) = some d ∧ (s.port (portNo portB)).stageAt + d ≤ max s.now t :=
  ⟨{ ((unit [(0x110, 2)] [0, 3, 6, 7]).setF (nt 1 F.NTA_STAT.STAGE) 3) with net := { NetState.reset with ports := [Port.reset, { Port.reset with ready := true }] } }, true, 2000000, 2000000, by decide⟩

theorem witness_LinkLife_6 : ∃ (s : State) (portB : Bool) (t : Nat), s.net.ports.length = 2 ∧ s.portOn (portNo portB) = true ∧
  s.portActive (portNo portB) = false ∧ (s.port (portNo portB)).ready = true ∧ (s.port (portNo portB)).stageAt ≤ max s.now t ∧
  (s.getF (nt (portNo portB) F.NTA_CTL.MODE) = 1 ∨ s.getF (nt (portNo portB) F.NTA_CTL.MODE) = 0 ∧ s.stage (portNo portB) = 1) :=
  ⟨{ ((unit [(0x110, 2)] [0, 3, 6, 7]).setF (nt 1 F.NTA_STAT.STAGE) 1) with net := { NetState.reset with ports := [Port.reset, { Port.reset with ready := true }] } }, true, 5, by decide⟩

theorem witness_LinkLife_7 : ∃ (s : State) (portB : Bool), s.portOn (portNo portB) = true ∧ s.portActive (portNo portB) = true :=
  ⟨((unit [(0x110, 2)] [0, 3, 6, 7]).setF (nt 1 F.NTA_STAT.STAGE) 6), true, by decide⟩

theorem witness_LinkLife_8 : ∃ (s : State) (portB : Bool), s.portOn (portNo portB) = true ∧ s.portActive (portNo portB) = true ∧
  s.chainMode (portNo portB) = false ∧ s.getF (nt (portNo portB) F.NTA_CTL.MODE) = 0 :=
  ⟨((unit [(0x110, 2)] [0, 3, 6, 7]).setF (nt 1 F.NTA_STAT.STAGE) 6), true, by decide⟩

theorem witness_LanesAreReplaced_1 : ∃ (s : State) (portB : Bool) (tx : Bool), s.portOn (portNo portB) = true ∧
  s.portActive (portNo portB) = true ∧ s.chainMode (portNo portB) = true ∧ s.laneSpareFree (portNo portB) tx = true :=
  ⟨{ (((((unit [(0x110, 2)] [0, 3, 6, 7]).setF (nt 1 F.NTA_STAT.STAGE) 6).setF (nt 1 F.NTA_STAT.CHAIN) 1).setF (nt 1 F.NTA_LANES.SPARE_TX) 7).setF (nt 1 F.NTA_LANES.SPARE_RX) 7) with net := { NetState.reset with ports := [Port.reset, { Port.reset with lane4 := true }] } }, true, false, by decide⟩

theorem witness_LanesAreReplaced_2 : ∃ (s : State) (portB : Bool) (tx : Bool), s.portOn (portNo portB) = true ∧
  s.portActive (portNo portB) = true ∧ s.chainMode (portNo portB) = true ∧ s.laneSpareFree (portNo portB) tx = true :=
  ⟨{ (((((unit [(0x110, 2)] [0, 3, 6, 7]).setF (nt 1 F.NTA_STAT.STAGE) 6).setF (nt 1 F.NTA_STAT.CHAIN) 1).setF (nt 1 F.NTA_LANES.SPARE_TX) 7).setF (nt 1 F.NTA_LANES.SPARE_RX) 7) with net := { NetState.reset with ports := [Port.reset, { Port.reset with lane4 := true }] } }, true, true, by decide⟩

theorem witness_LanesAreReplaced_3 : ∃ (s : State) (portB : Bool) (tx : Bool), s.net.ports.length = 2 ∧ s.portOn (portNo portB) = true ∧
  s.portActive (portNo portB) = true ∧ s.chainMode (portNo portB) = true ∧ s.laneSpareFree (portNo portB) tx = false :=
  ⟨(((unit [(0x110, 2)] [0, 3, 6, 7]).setF (nt 1 F.NTA_STAT.STAGE) 6).setF (nt 1 F.NTA_STAT.CHAIN) 1), true, true, by decide⟩

theorem witness_LanesAreReplaced_4 : ∃ (s : State) (portB : Bool), s.portOn (portNo portB) = true ∧ s.portActive (portNo portB) = true ∧
  s.chainMode (portNo portB) = true ∧ s.bothSleep (portNo portB) false = true :=
  ⟨{ ((((unit [(0x110, 2)] [0, 3, 6, 7]).setF (nt 1 F.NTA_STAT.STAGE) 6).setF (nt 1 F.NTA_STAT.CHAIN) 1).setF (nt 1 F.NTA_CTL.SLEEP) 1) with net := { NetState.reset with ports := [Port.reset, { Port.reset with peer := some ⟨1, 2, true, true, true, 100⟩ }] } }, true, by decide⟩

theorem witness_LanesAreReplaced_5 : ∃ (s : State) (portB : Bool) (t : Nat), s.now = t ∧ s.net.ports.length = 2 ∧
  s.portOn (portNo portB) = true ∧ s.portActive (portNo portB) = true ∧ s.chainMode (portNo portB) = true ∧
  s.bothSleep (portNo portB) false = true ∧ s.txEmpty (portNo portB) = true ∧
  (s.port (portNo portB)).idleFrom + s.getF (nt (portNo portB) F.NTA_CTL.IDLE) * 10000 ≤ t :=
  ⟨{ { ((((unit [(0x110, 2)] [0, 3, 6, 7]).setF (nt 1 F.NTA_STAT.STAGE) 6).setF (nt 1 F.NTA_STAT.CHAIN) 1).setF (nt 1 F.NTA_CTL.SLEEP) 1) with net := { NetState.reset with ports := [Port.reset, { Port.reset with peer := some ⟨1, 2, true, true, true, 100⟩ }] } } with now := 2 ^ 40 }, true, 2 ^ 40, by decide⟩

theorem witness_LanesAreReplaced_6 : ∃ (s : State) (portB : Bool), s.portOn (portNo portB) = true ∧ s.portActive (portNo portB) = true :=
  ⟨(((unit [(0x110, 2)] [0, 3, 6, 7]).setF (nt 1 F.NTA_STAT.STAGE) 6).setF (nt 1 F.NTA_STAT.RX_ASLEEP) 1), true, by decide⟩

theorem witness_LanesAreReplaced_7 : ∃ (s : State) (portB : Bool) (t : Nat), s.now = t ∧ s.net.ports.length = 2 ∧
  s.portOn (portNo portB) = true ∧ s.portActive (portNo portB) = true ∧ s.getF (nt (portNo portB) F.NTA_STAT.TX_ASLEEP) = 1 ∧
  s.txEmpty (portNo portB) = false ∧ s.getF (nt (portNo portB) F.NTA_STAT.RX_ASLEEP) = 0 :=
  ⟨{ { (((unit [(0x110, 2)] [0, 3, 6, 7]).setF (nt 1 F.NTA_STAT.STAGE) 6).setF (nt 1 F.NTA_STAT.TX_ASLEEP) 1) with net := { NetState.reset with ports := [Port.reset, { Port.reset with ctlBits := 64 }] } } with now := 5 }, true, 5, by decide⟩

theorem witness_LanesAreReplaced_8 : ∃ (s : State) (portB : Bool) (t : Nat), s.now = t ∧ s.net.ports.length = 2 ∧
  s.portOn (portNo portB) = true ∧ s.portActive (portNo portB) = true ∧ s.getF (nt (portNo portB) F.NTA_STAT.TX_ASLEEP) = 1 ∧
  s.txEmpty (portNo portB) = false ∧ s.getF (nt (portNo portB) F.NTA_STAT.RX_ASLEEP) = 1 ∧ s.bothSleep (portNo portB) true = true :=
  ⟨{ { (((((unit [(0x110, 2)] [0, 3, 6, 7]).setF (nt 1 F.NTA_STAT.STAGE) 6).setF (nt 1 F.NTA_STAT.TX_ASLEEP) 1).setF (nt 1 F.NTA_STAT.RX_ASLEEP) 1).setF (nt 1 F.NTA_CTL.DEEP) 1) with net := { NetState.reset with ports := [Port.reset, { Port.reset with ctlBits := 64, peer := some ⟨1, 2, true, true, true, 100⟩ }] } } with now := 5 }, true, 5, by decide⟩

theorem witness_LanesAreReplaced_9 : ∃ (s : State) (portB : Bool) (t : Nat), s.net.ports.length = 2 ∧ s.portOn (portNo portB) = true ∧
  s.getF (nt (portNo portB) F.NTA_STAT.TX_ASLEEP) = 1 ∧ (s.port (portNo portB)).burstAt + 1000000 ≤ max s.now t :=
  ⟨{ (((unit [(0x110, 2)] [0, 3, 6, 7]).setF (nt 1 F.NTA_STAT.STAGE) 6).setF (nt 1 F.NTA_STAT.TX_ASLEEP) 1) with net := { NetState.reset with ports := [Port.reset, { Port.reset with wakePending := true }] } }, true, 1000000, by decide⟩

theorem witness_LanesAreReplaced_10 : ∃ (s : State) (portB : Bool) (frame : EthFrame), s.Settled ∧ s.net.ports.length = 2 ∧
  s.portOn (portNo portB) = true ∧ s.portActive (portNo portB) = true ∧ (frame.fcsOk = false ∨ 9216 < frame.bytes ∨ frame.pause = true) :=
  ⟨settledUnit (((unit [(0x110, 2)] [0, 3, 6, 7]).setF (nt 1 F.NTA_STAT.STAGE) 6)), true, ⟨9217, true, false, false, .unit, some 7, 0x800, 0, 0, 0⟩, by decide⟩

theorem witness_LanesAreReplaced_11 : ∃ (s : State) (portB : Bool) (frame : EthFrame) (t : Nat), s.now = t ∧ s.net.ports.length = 2 ∧
  s.portOn (portNo portB) = true ∧ s.portActive (portNo portB) = true ∧ frame.fcsOk = true ∧ frame.bytes ≤ 9216 ∧ frame.pause = false ∧
  frame.dest = .other ∧ frameReserved frame = false ∧ frameHasCommand frame = false ∧ s.portActive (1 - portNo portB) = true ∧
  (s.port (1 - portNo portB)).fwdBits + frame.bytes * 8 ≤ 1048576 * 8 :=
  ⟨(((unit [(0x110, 2)] [0, 3, 6, 7]).setF (nt 1 F.NTA_STAT.STAGE) 6)).setF F.NTA_STAT.STAGE 6, true, ⟨9216, true, false, false, .other, none, 0x800, 0, 0, 0⟩, 0, by decide⟩

theorem witness_TheChainCensus_1 : ∃ (s : State) (portB : Bool) (f : CensusFrame), s.portOn (portNo portB) = true ∧
  s.portActive (portNo portB) = true ∧ s.portActive (1 - portNo portB) = false ∧ s.getF F.SYS_CHAIN.ADDR = 0 ∧ f.next ≤ 63 ∧
  s.frames = false :=
  ⟨((unit [(0x110, 2)] [0, 3, 6, 7]).setF (nt 1 F.NTA_STAT.STAGE) 6), true, ⟨7, 63, false, false, []⟩, by decide⟩

theorem witness_TheChainCensus_2 : ∃ (s : State) (t : Nat) (f : CensusFrame) (out : Nat) (due : Nat), s.net.held = some (f, out, due) ∧
  due ≤ max s.now t :=
  ⟨{ ((unit [(0x110, 2)] [0, 3, 6, 7]).setF (nt 1 F.NTA_STAT.STAGE) 6) with net := { NetState.reset with held := some (⟨7, 63, false, false, []⟩, 0, 5) } }, 5, ⟨7, 63, false, false, []⟩, 0, 5, by decide⟩

theorem witness_TheChainCensus_3 : ∃ (s : State) (portB : Bool), s.portOn (portNo portB) = true ∧ s.portActive (portNo portB) = true :=
  ⟨((unit [(0x110, 2)] [0, 3, 6, 7]).setF (nt 1 F.NTA_STAT.STAGE) 6), true, by decide⟩

theorem witness_TheChainCensus_4 : ∃ (s : State) (portB : Bool), s.portOn (portNo portB) = true ∧ s.portActive (portNo portB) = true :=
  ⟨((unit [(0x110, 2)] [0, 3, 6, 7]).setF (nt 1 F.NTA_STAT.STAGE) 6), true, by decide⟩

theorem witness_TheChainCensus_5 : ∃ (s : State) (portB : Bool), s.Settled ∧ s.net.notices.contains (portNo portB) = true ∧
  s.portActive s.hostPort = true :=
  ⟨settledUnit { (((unit [(0x110, 2)] [0, 3, 6, 7]).setF (nt 1 F.NTA_STAT.STAGE) 6)).setF (nt 1 F.NTA_STAT.HOSTSIDE) 1 with net := { NetState.reset with notices := [0], hostB := true } }, false, by decide⟩

theorem witness_TheChainCensus_6 : ∃ (s : State), (s.getF (nt 0 F.NTA_STAT.RING) = 1 ∨ s.getF (nt 1 F.NTA_STAT.RING) = 1) ∧
  s.portActive s.hostPort = false ∧ s.net.censusAt.any (fun c => (s.port s.hostPort).downAt.any (sameTick c)) = false :=
  ⟨((unit [(0x110, 2)] [0, 3, 6, 7]).setF (nt 1 F.NTA_STAT.RING) 1), by decide⟩

theorem witness_DatagramsAreSent_1 : ∃ (s : State) (queue : Fin 16384) (t : Nat) (x : Queue) (l : List Item) (full : Bool), s.now = t ∧
  s.on 5 = true ∧ s.queue queue.val = some x ∧ s.resendDue x = none ∧
  packItems (x.maxdg - 32) [] [] (s.items queue.val (x.sent + 1) (x.next - 1)) = (l, full) ∧ l ≠ [] ∧
  (full = true ∨ ((s.retained queue.val (x.sent + 1) (x.next - 1)).map (fun e => e.2.time)).headD 0 + x.flush * 1000 ≤ t) ∧
  unackedBytes x + windowBytes l ≤ x.window * 1024 ∧ s.portTakes (queuePort x) (32 + (itemsBytes l).length) = true :=
  ⟨{ { (unit [(0x110, 2)] [0, 5, 6]).setF F.NTA_STAT.STAGE 6 with tp := { TransportState.reset with queues := [(3, { session := 1, gen := 9, cls := 5, dport := 7, flush := 1, maxdg := 1400, filter0 := 0, filter1 := 0, window := 64, leaseMs := 1000, leaseEnd := 5, next := 2, sent := 0, acked := 0, waitHdr := false, portB := false, ip6 := false, unacked := [], resent := [], gapped := 0, ackErr := 0 })], journal := [⟨5, 6, 0, 0, [1, 2], [(3, 1)], false⟩] } } with now := 2000 }, 3, 2000, { session := 1, gen := 9, cls := 5, dport := 7, flush := 1, maxdg := 1400, filter0 := 0, filter1 := 0, window := 64, leaseMs := 1000, leaseEnd := 5, next := 2, sent := 0, acked := 0, waitHdr := false, portB := false, ip6 := false, unacked := [], resent := [], gapped := 0, ackErr := 0 }, [.record 1 6 [1, 2]], false, by decide⟩

theorem witness_DatagramsAreSent_2 : ∃ (s : State) (queue : Fin 16384) (t : Nat) (x : Queue) (d : Sent), s.now = t ∧ s.on 5 = true ∧
  s.queue queue.val = some x ∧ x.unacked.find? (fun e => decide (e.time + e.rto * 1000 ≤ t)) = some d ∧
  s.portTakes (queuePort x) (32 + (itemsBytes (s.items queue.val d.first (d.first + d.count - 1))).length) = true :=
  ⟨{ { (unit [(0x110, 2)] [0, 5, 6]).setF F.NTA_STAT.STAGE 6 with tp := { TransportState.reset with queues := [(3, {  session := 1, gen := 9, cls := 5, dport := 7, flush := 1, maxdg := 1400, filter0 := 0, filter1 := 0, window := 64, leaseMs := 1000, leaseEnd := 5, next := 2, sent := 1, acked := 0, waitHdr := false, portB := false, ip6 := false, unacked := [⟨1, 1, 2, 0, 0, 400⟩], resent := [], gapped := 0, ackErr := 0 })], journal := [⟨5, 6, 0, 0, [1, 2], [(3, 1)], false⟩] } } with now := 400000 }, 3, 400000, {  session := 1, gen := 9, cls := 5, dport := 7, flush := 1, maxdg := 1400, filter0 := 0, filter1 := 0, window := 64, leaseMs := 1000, leaseEnd := 5, next := 2, sent := 1, acked := 0, waitHdr := false, portB := false, ip6 := false, unacked := [⟨1, 1, 2, 0, 0, 400⟩], resent := [], gapped := 0, ackErr := 0 }, ⟨1, 1, 2, 0, 0, 400⟩, by decide⟩

theorem witness_DatagramsAreSent_3 : ∃ (s : State) (queue : Fin 16384) (t : Nat) (x : Queue), s.on 5 = true ∧ s.queue queue.val = some x ∧
  x.leaseEnd ≤ max s.now t :=
  ⟨{ (unit [(0x110, 2)] [0, 5, 6]).setF F.NTA_STAT.STAGE 6 with tp := { TransportState.reset with queues := [(3, { session := 1, gen := 9, cls := 5, dport := 7, flush := 1, maxdg := 1400, filter0 := 0, filter1 := 0, window := 64, leaseMs := 1000, leaseEnd := 5, next := 2, sent := 0, acked := 0, waitHdr := false, portB := false, ip6 := false, unacked := [], resent := [], gapped := 0, ackErr := 0 })] } }, 3, 5, { session := 1, gen := 9, cls := 5, dport := 7, flush := 1, maxdg := 1400, filter0 := 0, filter1 := 0, window := 64, leaseMs := 1000, leaseEnd := 5, next := 2, sent := 0, acked := 0, waitHdr := false, portB := false, ip6 := false, unacked := [], resent := [], gapped := 0, ackErr := 0 }, by decide⟩

theorem witness_AcknowledgementsArrive_1 : ∃ (s : State) (arrival : AckArrival), s.Settled ∧
  s.atControlPort arrival.src arrival.message = true ∧ ackFormed arrival.message.bytes = false :=
  ⟨settledUnit ((unit [(0x110, 2)] [0, 5, 6]).setF F.NTA_STAT.STAGE 6), ⟨⟨7, 9, false⟩, ⟨47808, [1, 2]⟩⟩, by decide⟩

theorem witness_AcknowledgementsArrive_2 : ∃ (s : State) (arrival : AckArrival) (ss : Session) (x : Queue), s.atControlPort arrival.src
  arrival.message = true ∧ ackFormed arrival.message.bytes = true ∧
  tabFind (ofLe ((arrival.message.bytes.drop 12).take 2)) s.tp.sessions = some ss ∧ ss.slot = none ∧
  ofLe ((arrival.message.bytes.drop 14).take 1) = 0 ∧ s.queue (ofLe ((arrival.message.bytes.drop 4).take 2)) = some x ∧
  x.session = ofLe ((arrival.message.bytes.drop 12).take 2) ∧ x.gen = ofLe ((arrival.message.bytes.drop 8).take 4) ∧
  ofLe ((arrival.message.bytes.drop 16).take 8) ≤ x.sent ∧ x.sent < x.next :=
  ⟨{ (unit [(0x110, 2)] [0, 5, 6]).setF F.NTA_STAT.STAGE 6 with tp := { TransportState.reset with queues := [(3, {  session := 1, gen := 9, cls := 5, dport := 7, flush := 1, maxdg := 1400, filter0 := 0, filter1 := 0, window := 64, leaseMs := 1000, leaseEnd := 5, next := 2, sent := 1, acked := 0, waitHdr := false, portB := false, ip6 := false, unacked := [⟨1, 1, 2, 0, 0, 400⟩], resent := [], gapped := 0, ackErr := 0 })], sessions := [(1, { gen := 1, nextSeq := 1, leaseMs := 1000, leaseEnd := 5, slot := none, roles := 0, key := [], confirmed := true, confirmBy := 0, peer := ⟨0, 0, false⟩ })] } }, ⟨⟨7, 9, false⟩, ⟨47808, [0x49, 0x4B, 1, 0, 3, 0, 32, 0, 9, 0, 0, 0, 1, 0, 0, 0, 1, 0, 0, 0, 0, 0, 0, 0, 0, 0, 0, 0, 0, 0, 0, 0]⟩⟩, { gen := 1, nextSeq := 1, leaseMs := 1000, leaseEnd := 5, slot := none, roles := 0, key := [], confirmed := true, confirmBy := 0, peer := ⟨0, 0, false⟩ }, {  session := 1, gen := 9, cls := 5, dport := 7, flush := 1, maxdg := 1400, filter0 := 0, filter1 := 0, window := 64, leaseMs := 1000, leaseEnd := 5, next := 2, sent := 1, acked := 0, waitHdr := false, portB := false, ip6 := false, unacked := [⟨1, 1, 2, 0, 0, 400⟩], resent := [], gapped := 0, ackErr := 0 }, by decide⟩

theorem witness_AcknowledgementsArrive_3 : ∃ (s : State) (arrival : AckArrival) (ss : Session) (x : Queue), s.atControlPort arrival.src
  arrival.message = true ∧ ackFormed arrival.message.bytes = true ∧
  tabFind (ofLe ((arrival.message.bytes.drop 12).take 2)) s.tp.sessions = some ss ∧ ss.slot = none ∧
  ofLe ((arrival.message.bytes.drop 14).take 1) = 0 ∧ s.queue (ofLe ((arrival.message.bytes.drop 4).take 2)) = some x ∧
  x.session = ofLe ((arrival.message.bytes.drop 12).take 2) ∧ x.gen = ofLe ((arrival.message.bytes.drop 8).take 4) ∧
  x.sent < ofLe ((arrival.message.bytes.drop 16).take 8) :=
  ⟨{ (unit [(0x110, 2)] [0, 5, 6]).setF F.NTA_STAT.STAGE 6 with tp := { TransportState.reset with queues := [(3, { session := 1, gen := 9, cls := 5, dport := 7, flush := 1, maxdg := 1400, filter0 := 0, filter1 := 0, window := 64, leaseMs := 1000, leaseEnd := 5, next := 2, sent := 0, acked := 0, waitHdr := false, portB := false, ip6 := false, unacked := [], resent := [], gapped := 0, ackErr := 0 })], sessions := [(1, { gen := 1, nextSeq := 1, leaseMs := 1000, leaseEnd := 5, slot := none, roles := 0, key := [], confirmed := true, confirmBy := 0, peer := ⟨0, 0, false⟩ })] } }, ⟨⟨7, 9, false⟩, ⟨47808, [0x49, 0x4B, 1, 0, 3, 0, 32, 0, 9, 0, 0, 0, 1, 0, 0, 0, 1, 0, 0, 0, 0, 0, 0, 0, 0, 0, 0, 0, 0, 0, 0, 0]⟩⟩, { gen := 1, nextSeq := 1, leaseMs := 1000, leaseEnd := 5, slot := none, roles := 0, key := [], confirmed := true, confirmBy := 0, peer := ⟨0, 0, false⟩ }, { session := 1, gen := 9, cls := 5, dport := 7, flush := 1, maxdg := 1400, filter0 := 0, filter1 := 0, window := 64, leaseMs := 1000, leaseEnd := 5, next := 2, sent := 0, acked := 0, waitHdr := false, portB := false, ip6 := false, unacked := [], resent := [], gapped := 0, ackErr := 0 }, by decide⟩

theorem witness_JournalAndLedger_1 : ∃ (s : State), s.Settled ∧ s.on 5 = true :=
  ⟨settledUnit ({ (unit [(0x110, 2)] [0, 5, 6]).setF F.NTA_STAT.STAGE 6 with tp := { TransportState.reset with journal := [⟨5, 6, 0, 0, [1, 2], [(3, 1)], false⟩] } }), by decide⟩

theorem witness_JournalAndLedger_2 : ∃ (s : State), s.tp.withheld = [] :=
  ⟨{ (unit [(0x110, 2)] [0, 5, 6]).setF F.NTA_STAT.STAGE 6 with tp := { TransportState.reset with banks := [⟨1, 0x10, 1, 1, 0, false, 0, 0, 0, [], []⟩, ⟨1, 0x10, 1, 1, 0, false, 0, 0, 0, [], []⟩] } }, by decide⟩

theorem witness_JournalAndLedger_3 : ∃ (s : State) (n : Nat), s.tp.withheld = [] ∧ s.tp.ackHeld = true ∧ s.uncopied ≤ n :=
  ⟨{ (unit [(0x110, 2)] [0, 5, 6]).setF F.NTA_STAT.STAGE 6 with tp := { TransportState.reset with ackHeld := true, banks := [⟨1, 0x10, 1, 1, 0, false, 0, 0, 0, [], []⟩] } }, 1, by decide⟩

theorem witness_JournalAndLedger_4 : ∃ (s : State), s.getF F.LDG_BANK.A_FAIL = 0 ∧ s.getF F.LDG_BANK.B_FAIL = 0 :=
  ⟨(unit [(0x110, 2)] [0, 5, 6]).setF F.NTA_STAT.STAGE 6, by decide⟩

theorem witness_JournalAndLedger_5 : ∃ (s : State) (bankB : Bool) (t : Nat), (s.dev = .boot ∨ s.dev = .standby ∨ s.dev = .spinup ∨ s.dev =
  .run ∨ s.dev = .degraded) ∧ (s.dev = .boot → (s.at t).sameCycle = false) ∧
  (s.getF (if bankB then F.LDG_BANK.B_FAIL else F.LDG_BANK.A_FAIL) = 0) ∧
  (s.getF (if bankB then F.LDG_BANK.A_FAIL else F.LDG_BANK.B_FAIL) = 1) :=
  ⟨((unit [(0x110, 2)] [0, 5, 6]).setF F.NTA_STAT.STAGE 6).setF F.LDG_BANK.A_FAIL 1, true, 5, by decide⟩

theorem witness_DramChannels_1 : ∃ (s : State) (chan : Fin 10), s.on 5 = true ∧ s.bitF F.MEM_CHAN.FAILED chan = false ∧
  s.bitF F.MEM_CHAN.ACTIVE chan = false ∧ s.rebuilds.all (fun r => !r.planned || r.into != chan.val) = true :=
  ⟨(unit [(0x110, 2)] [0, 5, 6]).setF F.NTA_STAT.STAGE 6, 9, by decide⟩

theorem witness_DramChannels_2 : ∃ (s : State) (chan : Fin 10) (sp : Nat), s.on 5 = true ∧ s.bitF F.MEM_CHAN.FAILED chan = false ∧
  s.bitF F.MEM_CHAN.ACTIVE chan = true ∧ s.mem.rebuild = none ∧ s.mem.second = none ∧ s.mem.noParity = false ∧ s.idleChannel = some sp :=
  ⟨(unit [(0x110, 2)] [0, 5, 6]).setF F.NTA_STAT.STAGE 6, 0, 8, by decide⟩

theorem witness_DramChannels_3 : ∃ (s : State) (r : Rebuild), s.on 5 = true ∧ s.mem.rebuild = some r ∧ r.planned = false :=
  ⟨{ (unit [(0x110, 2)] [0, 5, 6]).setF F.NTA_STAT.STAGE 6 with mem := { MemState.reset with rebuild := some ⟨0, 8, false, 3⟩ } }, ⟨0, 8, false, 3⟩, by decide⟩

theorem witness_DramChannels_4 : ∃ (s : State) (r : Rebuild), s.on 5 = true ∧ s.mem.rebuild = some r ∧ r.planned = true ∧ r.source < 10 ∧
  r.into < 10 ∧ r.source ≠ r.into :=
  ⟨{ (unit [(0x110, 2)] [0, 5, 6]).setF F.NTA_STAT.STAGE 6 with mem := { MemState.reset with rebuild := some ⟨0, 8, true, 3⟩ } }, ⟨0, 8, true, 3⟩, by decide⟩

theorem witness_SpareCapacity_1 : ∃ (s : State) (t : Nat) (f : Nat), s.on 4 = true ∧ s.cal.began = some f ∧
  (s.calFull = true ∨ f + 60000000000 ≤ max s.now t) :=
  ⟨{ unit [(0x110, 2)] [0, 4, 5, 6, 7, 8, 12, 13, 22] with cal := { CalState.reset with began := some 5 } }, 2 ^ 50, 5, by decide, by decide, Or.inr (by decide)⟩

theorem witness_SpareCapacity_2 : ∃ (s : State) (line : Fin 128), s.on 8 = true ∧ 64 ≤ countAt line.val s.etd.misses ∧
  s.bankEst (line.val / 16) = false ∧ s.etd.alive.contains line.val = true ∧ s.getF (F.CAL_LINE.FAILED.inst (s.emitterOf line.val)) = 0 :=
  ⟨{ unit [(0x110, 2)] [0, 4, 5, 6, 7, 8, 12, 13, 22] with etd := { EtdState.reset with misses := [(17, 64)], alive := [17] } }, 17, by decide⟩

theorem witness_SpareCapacity_3 : ∃ (s : State) (core : Fin 5) (n : Nat), s.on 4 = true ∧ s.bitF F.CPU_CORES.FAILED core = false ∧
  s.bitF F.CPU_CORES.ACTIVE core = true ∧
  (List.range 5).find? (fun k => !s.bitF F.CPU_CORES.ACTIVE k && !s.bitF F.CPU_CORES.FAILED k) = some n :=
  ⟨unit [(0x110, 2)] [0, 4, 5, 6, 7, 8, 12, 13, 22], 0, 4, by decide⟩

theorem witness_SpareCapacity_4 : ∃ (s : State) (n : Nat) (pos : Nat) (l : TapLine), s.on 4 = true ∧ s.getF F.CAL_CTL.WEAR_EN = 1 ∧
  s.wornNow (.tap n pos) = true ∧ s.tapLine n = l ∧ pos < 128 ∧ l.subst = none ∧ l.freeTaps ≠ [] :=
  ⟨{ ((unit [(0x110, 2)] [0, 4, 5, 6, 7, 8, 12, 13, 22]).setF F.CAL_CTL.WEAR_EN 1) with etd := { EtdState.reset with lines := [(3, { line0 with drift := [(7, 3)] })] } }, 3, 7, { line0 with drift := [(7, 3)] }, by decide⟩

theorem witness_SpareCapacity_5 : ∃ (s : State) (n : Nat) (pos : Nat) (l : TapLine), s.on 4 = true ∧ s.getF F.CAL_CTL.WEAR_EN = 1 ∧
  s.wornNow (.tap n pos) = true ∧ s.tapLine n = l ∧ pos < 128 ∧ l.subst = none ∧ l.freeTaps = [] :=
  ⟨{ ((unit [(0x110, 2)] [0, 4, 5, 6, 7, 8, 12, 13, 22]).setF F.CAL_CTL.WEAR_EN 1) with etd := { EtdState.reset with lines := [(3, { line0 with drift := [(7, 3)], retired := List.range' 128 32 })] } }, 3, 7, { line0 with drift := [(7, 3)], retired := List.range' 128 32 }, by decide⟩

theorem witness_SpareCapacity_6 : ∃ (s : State) (g : Nat) (k : Nat) (c : Nat), s.on 4 = true ∧ s.getF F.CAL_CTL.WEAR_EN = 1 ∧
  s.wornNow (.sampler g k) = true ∧ s.samplerFailed g k = false ∧ s.getF (F.RXC_SMP_STAT.IN_SERVICE.inst (samplerInst g k)) = 1 ∧
  c = g * 64 + s.getF (F.RXC_SMP_STAT.CHANNEL.inst (samplerInst g k)) ∧ s.rxc.retiring.contains c = false ∧
  s.rxc.waiting.any (fun w => w.ch = c) = false ∧ (s.idleSpare g).isSome = true :=
  ⟨(((((unit [(0x110, 2)] [0, 4, 5, 6, 7, 8, 12, 13, 22]).setF F.CAL_CTL.WEAR_EN 1)).setF (F.RXC_SMP_TAPS.LEFT.inst (samplerInst 2 5)) 0).setF (F.RXC_SMP_STAT.IN_SERVICE.inst (samplerInst 2 5)) 1).setF (F.RXC_SMP_STAT.CHANNEL.inst (samplerInst 2 5)) 5, 2, 5, 133, by decide⟩

theorem witness_SpareCapacity_7 : ∃ (s : State) (g : Nat) (k : Nat) (c : Nat), s.on 4 = true ∧ s.getF F.CAL_CTL.WEAR_EN = 1 ∧
  s.wornNow (.sampler g k) = true ∧ s.samplerFailed g k = false ∧ s.getF (F.RXC_SMP_STAT.IN_SERVICE.inst (samplerInst g k)) = 1 ∧
  c = g * 64 + s.getF (F.RXC_SMP_STAT.CHANNEL.inst (samplerInst g k)) ∧ s.rxc.retiring.contains c = false ∧
  s.rxc.waiting.any (fun w => w.ch = c) = false ∧ (s.idleSpare g).isSome = false :=
  ⟨{ (((((unit [(0x110, 2)] [0, 4, 5, 6, 7, 8, 12, 13, 22]).setF F.CAL_CTL.WEAR_EN 1)).setF (F.RXC_SMP_TAPS.LEFT.inst (samplerInst 2 5)) 0).setF (F.RXC_SMP_STAT.IN_SERVICE.inst (samplerInst 2 5)) 1).setF (F.RXC_SMP_STAT.CHANNEL.inst (samplerInst 2 5)) 5 with rxc := { RxState.reset with waiting := [⟨128, 0, 3⟩, ⟨129, 1, 3⟩, ⟨130, 2, 3⟩, ⟨131, 3, 3⟩] } }, 2, 5, 133, by decide⟩

theorem witness_SpareCapacity_8 : ∃ (s : State) (n : Nat), s.on 4 = true ∧ s.getF F.CAL_CTL.WEAR_EN = 1 ∧
  s.wornNow (.interpolator n) = true ∧ n < 8 ∧ s.bitF F.ETD_FAIL.EST n = false ∧ s.bitF F.ETD_FAIL.EST 8 = false ∧
  s.getF F.ETD_MAP.SPARE_IN = 0 ∧ s.etd.subst = [] :=
  ⟨(((unit [(0x110, 2)] [0, 4, 5, 6, 7, 8, 12, 13, 22]).setF F.CAL_CTL.WEAR_EN 1)).setF (F.ETD_TAPS.LEFT.inst 3) 0, 3, by decide⟩

theorem witness_SpareCapacity_9 : ∃ (s : State) (n : Nat), s.on 4 = true ∧ s.getF F.CAL_CTL.WEAR_EN = 1 ∧
  s.wornNow (.interpolator n) = true ∧ n < 8 ∧ s.bitF F.ETD_FAIL.EST n = false ∧ tabFind n s.etd.subst = none ∧
  s.bitF F.ETD_FAIL.EST 8 = true ∧ s.getF F.ETD_MAP.SPARE_IN = 0 :=
  ⟨((((unit [(0x110, 2)] [0, 4, 5, 6, 7, 8, 12, 13, 22]).setF F.CAL_CTL.WEAR_EN 1)).setF (F.ETD_TAPS.LEFT.inst 3) 0).setBit F.ETD_FAIL.EST 8 true, 3, by decide⟩

theorem witness_SpareCapacity_10 : ∃ (s : State) (e : Nat) (i : Nat) (hourly : Nat) (p : Nat) (twice : Bool), s.on 4 = true ∧
  s.getF F.CAL_CTL.WEAR_EN = 1 ∧ s.wornNow (.tile e i hourly twice) = true ∧ s.tileOf e i = p ∧ p < 9 ∧
  s.bitF (F.GRN_ENG_TSTAT.DRAIN.inst e) p = false ∧ s.spareTile e = true :=
  ⟨((unit [(0x110, 2)] [0, 4, 5, 6, 7, 8, 12, 13, 22]).setF F.CAL_CTL.WEAR_EN 1), 1, 2, 2 ^ 20, 2, false, by decide⟩

theorem witness_SpareCapacity_11 : ∃ (s : State) (e : Nat) (i : Nat) (hourly : Nat) (p : Nat) (twice : Bool), s.on 4 = true ∧
  s.getF F.CAL_CTL.WEAR_EN = 1 ∧ s.wornNow (.tile e i hourly twice) = true ∧ s.tileOf e i = p ∧ p < 9 ∧
  s.bitF (F.GRN_ENG_TSTAT.DRAIN.inst e) p = false ∧ s.spareTile e = false :=
  ⟨(((unit [(0x110, 2)] [0, 4, 5, 6, 7, 8, 12, 13, 22]).setF F.CAL_CTL.WEAR_EN 1)).setBit (F.GRN_ENG_TSTAT.FAILED.inst 1) 8 true, 1, 2, 0, 2, true, by decide⟩

theorem witness_SpareCapacity_12 : ∃ (s : State) (c : Nat) (least : Nat) (last : Nat) (sp : Nat), s.on 4 = true ∧
  s.getF F.CAL_CTL.WEAR_EN = 1 ∧ s.wornNow (.dram c least last) = true ∧ s.bitF F.MEM_CHAN.ACTIVE c = true ∧
  s.bitF F.MEM_CHAN.FAILED c = false ∧ s.mem.rebuild = none ∧ s.mem.second = none ∧ s.idleChannel = some sp :=
  ⟨((unit [(0x110, 2)] [0, 4, 5, 6, 7, 8, 12, 13, 22]).setF F.CAL_CTL.WEAR_EN 1), 0, 2 ^ 20, 2 ^ 20, 8, by decide⟩

theorem witness_SpareCapacity_13 : ∃ (s : State) (c : Nat) (least : Nat) (last : Nat), s.on 4 = true ∧ s.getF F.CAL_CTL.WEAR_EN = 1 ∧
  s.wornNow (.dram c least last) = true ∧ s.bitF F.MEM_CHAN.ACTIVE c = true ∧ s.bitF F.MEM_CHAN.FAILED c = false ∧ s.mem.second = none ∧
  s.idleChannel = none :=
  ⟨(((unit [(0x110, 2)] [0, 4, 5, 6, 7, 8, 12, 13, 22]).setF F.CAL_CTL.WEAR_EN 1)).setF F.MEM_CHAN.FAILED 0x300, 0, 2 ^ 20, 2 ^ 20, by decide⟩

theorem witness_SpareCapacity_14 : ∃ (s : State) (portB : Bool) (tx : Bool) (lane : Nat) (margin : Nat) (ns : Nat), s.on 4 = true ∧
  s.getF F.CAL_CTL.WEAR_EN = 1 ∧ s.net.ports.length = 2 ∧ s.wornNow (.lane portB tx lane margin ns) = true ∧
  s.portActive (portNo portB) = true ∧ s.chainMode (portNo portB) = true ∧ s.laneSpareFree (portNo portB) tx = true :=
  ⟨{ (((((((unit [(0x110, 2)] [0, 4, 5, 6, 7, 8, 12, 13, 22]).setF F.CAL_CTL.WEAR_EN 1)).setF (nt 1 F.NTA_STAT.STAGE) 6).setF (nt 1 F.NTA_STAT.CHAIN) 1).setF (nt 1 F.NTA_LANES.SPARE_TX) 7).setF (nt 1 F.NTA_LANES.SPARE_RX) 7) with net := { NetState.reset with ports := [Port.reset, { Port.reset with lane4 := true }] } }, true, true, 3, 0, 2 ^ 60, by decide⟩

theorem witness_SpareCapacity_15 : ∃ (s : State) (portB : Bool) (tx : Bool) (lane : Nat) (margin : Nat) (ns : Nat), s.on 4 = true ∧
  s.getF F.CAL_CTL.WEAR_EN = 1 ∧ s.net.ports.length = 2 ∧ s.wornNow (.lane portB tx lane margin ns) = true ∧
  s.laneSpareFree (portNo portB) tx = false :=
  ⟨(((((((unit [(0x110, 2)] [0, 4, 5, 6, 7, 8, 12, 13, 22]).setF F.CAL_CTL.WEAR_EN 1)).setF (nt 1 F.NTA_STAT.STAGE) 6).setF (nt 1 F.NTA_STAT.CHAIN) 1).setF (nt 1 F.NTA_LANES.SPARE_TX) 7).setF (nt 1 F.NTA_LANES.SPARE_RX) 7), true, true, 3, 0, 2 ^ 60, by decide⟩

theorem witness_SpareCapacity_16 : ∃ (s : State) (e : Nat), s.on 4 = true ∧ s.getF F.CAL_CTL.WEAR_EN = 1 ∧ s.wornNow (.diode e) = true ∧
  e < 128 ∧ s.reserveIn e = false ∧ s.reserveUsable e = true ∧ s.emt.switches.contains e = false :=
  ⟨(((((unit [(0x110, 2)] [0, 4, 5, 6, 7, 8, 12, 13, 22]).setF F.CAL_CTL.WEAR_EN 1)).setF F.CAL_CREEP.LIMIT 2).setI (trimCreep 17) 5).setF (trimPresent 145) 1, 17, by decide⟩

theorem witness_SpareCapacity_17 : ∃ (s : State) (e : Nat), s.on 4 = true ∧ s.getF F.CAL_CTL.WEAR_EN = 1 ∧ s.wornNow (.diode e) = true ∧
  e < 128 ∧ (s.reserveIn e = true ∨ s.reserveUsable e = false) :=
  ⟨((((unit [(0x110, 2)] [0, 4, 5, 6, 7, 8, 12, 13, 22]).setF F.CAL_CTL.WEAR_EN 1)).setF F.CAL_CREEP.LIMIT 2).setI (trimCreep 17) 5, 17, by decide⟩

theorem witness_SpareCapacity_18 : ∃ (s : State) (r : Nat), s.on 4 = true ∧ s.getF F.CAL_CTL.WEAR_EN = 1 ∧ r < 5 ∧
  s.pwr.spareReq.any (fun x => x.1 = r) = false ∧ s.getF (F.PWM_RAIL.SPARE_IN.inst r) = 0 :=
  ⟨((unit [(0x110, 2)] [0, 4, 5, 6, 7, 8, 12, 13, 22]).setF F.CAL_CTL.WEAR_EN 1), 4, by decide⟩

theorem witness_SpareCapacity_19 : ∃ (s : State) (r : Nat), s.on 4 = true ∧ s.getF F.CAL_CTL.WEAR_EN = 1 ∧ r < 5 ∧
  s.pwr.spareReq.any (fun x => x.1 = r) = false ∧ s.getF (F.PWM_RAIL.SPARE_IN.inst r) = 1 :=
  ⟨((unit [(0x110, 2)] [0, 4, 5, 6, 7, 8, 12, 13, 22]).setF F.CAL_CTL.WEAR_EN 1).setF (F.PWM_RAIL.SPARE_IN.inst 4) 1, 4, by decide⟩

theorem witness_SpareCapacity_20 : ∃ (s : State), s.on 4 = true ∧ s.cal.recDue = true :=
  ⟨{ unit [(0x110, 2)] [0, 4, 5, 6, 7, 8, 12, 13, 22] with cal := { CalState.reset with recDue := true } }, by decide⟩

theorem witness_SpareCapacity_21 : ∃ (s : State) (t : Nat), (s.dev = .boot ∨ s.dev = .standby ∨ s.dev = .spinup ∨ s.dev = .run ∨ s.dev =
  .degraded) ∧ (s.dev = .boot → (s.at t).sameCycle = false) ∧ s.on 4 = true :=
  ⟨unit [(0x110, 2)] [0, 4, 5, 6, 7, 8, 12, 13, 22], 5, by decide⟩

theorem witness_SpareCapacity_22 : ∃ (s : State), s.on 4 = true :=
  ⟨unit [(0x110, 2)] [0, 4, 5, 6, 7, 8, 12, 13, 22], by decide⟩

theorem witness_DomainsStartAndStop_1 : ∃ (s : State) (dom : Fin 36), s.domState dom.val = 1 :=
  ⟨(({ unit [(0x110, 2)] [0, 3, 8] with pwr := { PowerState.reset with released := [0, 3, 8] } }).setF (F.PWM_DOM_STAT.STATE.inst 5) 1), 5, by decide⟩

theorem witness_DomainsStartAndStop_2 : ∃ (s : State) (dom : Fin 36), (s.domState dom.val = 3 ∨ s.domState dom.val = 4) :=
  ⟨(({ unit [(0x110, 2)] [0, 3, 8] with pwr := { PowerState.reset with released := [0, 3, 8] } }).setF (F.PWM_DOM_STAT.STATE.inst 5) 4), 5, by decide⟩

theorem witness_DomainsStartAndStop_3 : ∃ (s : State) (dom : Fin 36) (t : Nat) (o : Nat), s.rst.loading = false ∧ s.atRest dom.val = true ∧
  s.wanted dom.val = true ∧ s.turnOf dom.val = true ∧ tabFind dom.val s.pwr.offAt = some o ∧ o + offTime dom.val ≤ max s.now t :=
  ⟨{ unit [(0x110, 2)] [0, 3, 8] with pwr := { PowerState.reset with released := [0, 3, 8], offAt := [(3, 7)] } }, 3, 1000007, 7, by decide⟩

theorem witness_DomainsStartAndStop_4 : ∃ (s : State), s.dev ≠ .off ∧ s.on 8 = true ∧ s.getF F.PWM_MODEL.EMEAS ≠ 0 :=
  ⟨(({ unit [(0x110, 2)] [0, 3, 8] with pwr := { PowerState.reset with released := [0, 3, 8] } }).setF (F.PWM_MODEL.EMEAS) 3), by decide⟩

theorem witness_DomainsStartAndStop_5 : ∃ (s : State), s.dev ≠ .off ∧ s.on 8 = true ∧ s.getF F.PWM_MODEL.EMEAS = 0 :=
  ⟨(({ unit [(0x110, 2)] [0, 3, 8] with pwr := { PowerState.reset with released := [0, 3, 8] } }).setF (F.PWM_MODEL.EMEAS) 0), by decide⟩

theorem witness_DomainsStartAndStop_6 : ∃ (s : State) (rail : Fin 8), s.dev ≠ .off ∧ rail.val < 5 ∧
  s.getF (F.PWM_RAIL.ACTIVE.inst rail.val) ≠ 0 ∧ s.getF (F.PWM_RAIL.SPARE_IN.inst rail.val) = 0 ∧
  s.pwr.spareReq.any (fun x => x.1 = rail.val) = false :=
  ⟨{ unit [(0x110, 2)] [0, 3, 8] with pwr := { PowerState.reset with released := [0, 3, 8] } }, 4, by decide⟩

theorem witness_DomainsStartAndStop_7 : ∃ (s : State), s.dev ≠ .off ∧ s.getF (F.PWM_RAIL.ACTIVE.inst 6) ≠ 0 :=
  ⟨{ unit [(0x110, 2)] [0, 3, 8] with pwr := { PowerState.reset with released := [0, 3, 8] } }, by decide⟩

theorem witness_DomainsStartAndStop_8 : ∃ (s : State) (rail : Fin 5), s.pwr.spareReq.find? (fun x => x.1 = rail.val) = some (rail.val,
  false) :=
  ⟨{ unit [(0x110, 2)] [0, 3, 8] with pwr := { PowerState.reset with released := [0, 3, 8], spareReq := [(2, false)] } }, 2, by decide⟩

theorem witness_DomainsStartAndStop_9 : ∃ (s : State) (reads : List Int), s.dev ≠ .off ∧ reads.length = 12 :=
  ⟨{ unit [(0x110, 2)] [0, 3, 8] with pwr := { PowerState.reset with released := [0, 3, 8] } }, List.replicate 12 (-50), by decide⟩

theorem witness_InputModes_1 : ∃ (s : State) (mv : Nat) (t : Nat), (s.dev = .boot ∨ s.dev = .standby ∨ s.dev = .spinup ∨ s.dev = .run ∨
  s.dev = .degraded) ∧ (s.dev = .boot → (s.at t).sameCycle = false) ∧ s.inputMode ≤ 1 ∧ mv < 4400 :=
  ⟨{ unit [(0x110, 2)] [0, 3, 8] with pwr := { PowerState.reset with released := [0, 3, 8] } }, 4399, 5, by decide⟩

theorem witness_InputModes_2 : ∃ (s : State) (mv : Nat), s.dev ≠ .off ∧ s.inputMode = 0 ∧ 4400 ≤ mv ∧ mv < 9000 :=
  ⟨(({ unit [(0x110, 2)] [0, 3, 8] with pwr := { PowerState.reset with released := [0, 3, 8] } }).setF (F.PWM_STAT.MODE) 0), 8999, by decide⟩

theorem witness_InputModes_3 : ∃ (s : State) (t : Nat) (a : Nat), s.dev ≠ .off ∧ s.inputMode = 1 ∧ s.pwr.above95 = some a ∧
  a + 100000000 ≤ max s.now t :=
  ⟨(({ unit [(0x110, 2)] [0, 3, 8] with pwr := { PowerState.reset with released := [0, 3, 8], above95 := some 3 } }).setF (F.PWM_STAT.MODE) 1), 100000003, 3, by decide⟩

theorem witness_InputModes_4 : ∃ (s : State) (t : Nat) (a : Nat), s.dev ≠ .off ∧ s.inputMode = 2 ∧ s.pwr.above46 = some a ∧
  a + 100000000 ≤ max s.now t :=
  ⟨(({ unit [(0x110, 2)] [0, 3, 8] with pwr := { PowerState.reset with released := [0, 3, 8], above46 := some 3 } }).setF (F.PWM_STAT.MODE) 2), 100000003, 3, by decide⟩

theorem witness_InputModes_5 : ∃ (s : State) (t : Nat) (a : Nat), s.pwr.inRange = some a ∧ a + 100000000 ≤ max s.now t :=
  ⟨{ unit [(0x110, 2)] [0, 3, 8] with pwr := { PowerState.reset with released := [0, 3, 8], inRange := some 3 } }, 100000003, 3, by decide⟩

theorem witness_InputModes_6 : ∃ (s : State) (t : Nat), (s.dev = .boot ∨ s.dev = .standby ∨ s.dev = .spinup ∨ s.dev = .run ∨ s.dev =
  .degraded) ∧ (s.dev = .boot → (s.at t).sameCycle = false) ∧ s.inputMode ≠ 3 ∧
  (37000 < s.getF F.PWM_IN.VIN ∨ (s.at t).heldFor s.pwr.below38 20000 = true) :=
  ⟨(({ unit [(0x110, 2)] [0, 3, 8] with pwr := { PowerState.reset with released := [0, 3, 8], below38 := some 3 } }).setF (F.PWM_DOM_STAT.STATE.inst 8) 2), 20003, by decide⟩

theorem witness_InputModes_7 : ∃ (s : State) (t : Nat) (a : Nat), s.dev ≠ .off ∧ s.inputMode = 3 ∧ s.pwr.inRange = some a ∧
  a + 1000000 ≤ max s.now t :=
  ⟨(({ unit [(0x110, 2)] [0, 3, 8] with pwr := { PowerState.reset with released := [0, 3, 8], inRange := some 3, shed := [8] } }).setF (F.PWM_STAT.MODE) 3), 1000003, 3, by decide⟩

theorem witness_InputModes_8 : ∃ (s : State), s.dev ≠ .off ∧ s.inputMode = 3 ∧ s.getF F.PWM_HU.VHU < 120 :=
  ⟨(({ unit [(0x110, 2)] [0, 3, 8] with pwr := { PowerState.reset with released := [0, 3, 8] } }).setF (F.PWM_STAT.MODE) 3), by decide⟩

theorem witness_InputModes_9 : ∃ (s : State), s.tp.ackHeld = true ∧ s.inputMode ≠ 3 ∧ s.getF F.PWM_STAT.HU_READY = 1 :=
  ⟨(({ { unit [(0x110, 2)] [0, 3, 8] with pwr := { PowerState.reset with released := [0, 3, 8] } } with tp := { TransportState.reset with ackHeld := true } }).setF (F.PWM_STAT.HU_READY) 1), by decide⟩

theorem witness_InputModes_10 : ∃ (s : State), s.dev ≠ .off ∧ s.inputMode = 3 ∧ 37000 < s.getF F.PWM_IN.VIN :=
  ⟨((({ unit [(0x110, 2)] [0, 3, 8] with pwr := { PowerState.reset with released := [0, 3, 8] } }).setF (F.PWM_STAT.MODE) 3).setF (F.PWM_IN.VIN) 37001), by decide⟩

theorem witness_InputModes_11 : ∃ (s : State) (energy : Nat), s.dev ≠ .off ∧ s.on 0 = true ∧ energy < 500 :=
  ⟨{ unit [(0x110, 2)] [0, 3, 8] with pwr := { PowerState.reset with released := [0, 3, 8] } }, 499, by decide⟩

theorem witness_InputModes_12 : ∃ (s : State) (energy : Nat) (t : Nat), s.dev ≠ .off ∧ s.on 0 = true ∧ 500 ≤ energy ∧ s.pwr.huUp = false ∧
  s.pwr.huLate = false ∧ s.pwr.bootAt + 400000000 ≤ max s.now t :=
  ⟨{ unit [(0x110, 2)] [0, 3, 8] with pwr := { PowerState.reset with released := [0, 3, 8] } }, 600, 400000000, by decide⟩

theorem witness_ResetSources_1 : ∃ (s : State), s.rst.active = none :=
  ⟨{ unit [(0x110, 3)] [0, 3, 4] with rst := { RstState.reset with loading := false } }, by decide⟩

theorem witness_ResetSources_2 : ∃ (s : State), s.rst.active = none ∧ s.rst.loading = false ∧ s.dev ≠ .off ∧ s.dev ≠ .boot ∧
  s.dev ≠ .provision :=
  ⟨{ unit [(0x110, 3)] [0, 3, 4] with rst := { RstState.reset with loading := false } }, by decide⟩

theorem witness_ResetSources_3 : ∃ (s : State), s.rst.active = none ∧ s.rst.loading = false ∧ s.dev ≠ .off ∧ s.dev ≠ .boot ∧
  s.dev ≠ .provision ∧ s.rst.nrstLow = none :=
  ⟨{ unit [(0x110, 3)] [0, 3, 4] with rst := { RstState.reset with loading := false } }, by decide⟩

theorem witness_ResetSources_4 : ∃ (s : State), s.rst.active = none ∧ s.rst.loading = false ∧ s.dev ≠ .off ∧ s.dev ≠ .boot ∧
  s.dev ≠ .provision ∧ s.on 4 = true :=
  ⟨{ unit [(0x110, 3)] [0, 3, 4] with rst := { RstState.reset with loading := false } }, by decide⟩

theorem witness_ResetSources_5 : ∃ (s : State), s.rst.active = none ∧ s.rst.loading = false ∧ s.dev ≠ .off ∧ s.dev ≠ .boot ∧
  s.dev ≠ .provision :=
  ⟨{ unit [(0x110, 3)] [0, 3, 4] with rst := { RstState.reset with loading := false } }, by decide⟩

theorem witness_ResetSources_6 : ∃ (s : State), s.rst.active = none ∧ s.rst.loading = false ∧ s.dev ≠ .off ∧ s.dev ≠ .boot ∧
  s.dev ≠ .provision ∧ s.on 4 = true :=
  ⟨{ unit [(0x110, 3)] [0, 3, 4] with rst := { RstState.reset with loading := false } }, by decide⟩

theorem witness_ResetSources_7 : ∃ (s : State) (t : Nat) (f : Nat), s.rst.active = none ∧ s.dev ≠ .off ∧ s.rst.provAt = some f ∧
  f + 10000000 ≤ max s.now t :=
  ⟨{ unit [(0x110, 3)] [0, 3, 4] with rst := { RstState.reset with loading := false, provAt := some 3 } }, 10000003, 3, by decide⟩

theorem witness_ResetSources_8 : ∃ (s : State) (a : Nat), s.rst.nrstLow = some a :=
  ⟨{ unit [(0x110, 3)] [0, 3, 4] with rst := { RstState.reset with loading := false, nrstLow := some 3 } }, 3, by decide⟩

theorem witness_ResetSources_9 : ∃ (s : State) (t : Nat) (a : Nat), s.dev ≠ .off ∧ s.rst.nrstLow = some a ∧ a + 10000000000 ≤ max s.now t :=
  ⟨{ unit [(0x110, 3)] [0, 3, 4] with rst := { RstState.reset with loading := false, nrstLow := some 3 } }, 10000000003, 3, by decide⟩

theorem witness_ResetsTakeEffect_1 : ∃ (s : State) (r : ResetNow), s.rst.active = some r ∧ r.entered = false ∧ s.dev ≠ .off ∧
  (r.powerOn = true ∨ s.awaitsResponse r = false) ∧ (r.powerOn = true ∨ r.level ≠ 0 ∨ s.uncopied = 0 ∧ s.tp.marker = true) :=
  ⟨{ unit [(0x110, 3)] [0, 3, 4] with rst := { RstState.reset with loading := false, active := some ⟨0, false, false, true, none⟩ } }, ⟨0, false, false, true, none⟩, by decide⟩

theorem witness_ResetsTakeEffect_2 : ∃ (s : State) (r : ResetNow), s.rst.active = some r ∧ r.entered = false ∧ r.powerOn = false ∧
  s.awaitsResponse r = false ∧ r.level = 0 ∧ s.uncopied = 0 ∧ s.tp.marker = true :=
  ⟨{ unit [(0x110, 3)] [0, 3, 4] with rst := { RstState.reset with loading := false, active := some ⟨0, false, false, false, none⟩ }, tp := { TransportState.reset with marker := true } }, ⟨0, false, false, false, none⟩, by decide⟩

theorem witness_ResetsTakeEffect_3 : ∃ (s : State) (r : ResetNow), s.rst.active = some r ∧ r.entered = false ∧ r.powerOn = false ∧
  s.awaitsResponse r = false ∧ r.level = 1 :=
  ⟨{ unit [(0x110, 3)] [0, 3, 4] with rst := { RstState.reset with loading := false, active := some ⟨1, false, false, false, none⟩ } }, ⟨1, false, false, false, none⟩, by decide⟩

theorem witness_ResetsTakeEffect_4 : ∃ (s : State) (t : Nat) (r : ResetNow), (s.dev = .boot ∨ s.dev = .standby ∨ s.dev = .spinup ∨ s.dev =
  .run ∨ s.dev = .degraded) ∧ (s.dev = .boot → (s.at t).sameCycle = false) ∧ s.rst.active = some r ∧ r.entered = false ∧
  r.powerOn = false ∧ s.awaitsResponse r = false ∧ r.level = 2 :=
  ⟨{ unit [(0x110, 3)] [0, 3, 4] with rst := { RstState.reset with loading := false, active := some ⟨2, false, false, false, none⟩ } }, 5, ⟨2, false, false, false, none⟩, by decide⟩

theorem witness_ResetsTakeEffect_5 : ∃ (s : State) (t : Nat) (r : ResetNow), (s.dev = .boot ∨ s.dev = .standby ∨ s.dev = .spinup ∨ s.dev =
  .run ∨ s.dev = .degraded) ∧ (s.dev = .boot → (s.at t).sameCycle = false) ∧ s.rst.active = some r ∧ r.entered = false ∧
  r.powerOn = false ∧ s.awaitsResponse r = false ∧ r.level = 3 :=
  ⟨{ unit [(0x110, 3)] [0, 3, 4] with rst := { RstState.reset with loading := false, active := some ⟨3, false, false, false, none⟩ } }, 5, ⟨3, false, false, false, none⟩, by decide⟩

theorem witness_ResetsAreReleased_1 : ∃ (s : State) (shadow : Bool) (r : ResetNow), s.rst.active = some r ∧ r.entered = true ∧
  (r.pin = false ∨ s.rst.nrstLow = none) ∧ s.clockKeeps = false ∧ s.dev ≠ .off ∧ (shadow = true ∨ r.level = 0) ∧ r.level ≤ 3 :=
  ⟨{ unit [(0x110, 3)] [0, 3, 4] with rst := { RstState.reset with loading := false, active := some ⟨3, true, false, false, none⟩ } }, true, ⟨3, true, false, false, none⟩, by decide⟩

theorem witness_ResetsAreReleased_2 : ∃ (s : State) (r : ResetNow), s.rst.active = some r ∧ r.entered = true ∧
  (r.pin = false ∨ s.rst.nrstLow = none) ∧ s.clockKeeps = false ∧ s.dev ≠ .off ∧ r.level = 0 :=
  ⟨{ unit [(0x110, 3)] [0, 3, 4] with rst := { RstState.reset with loading := false, active := some ⟨0, true, false, false, none⟩ } }, ⟨0, true, false, false, none⟩, by decide⟩

theorem witness_ResetsAreReleased_3 : ∃ (s : State) (r : ResetNow), s.rst.active = some r ∧ r.entered = true ∧
  (r.pin = false ∨ s.rst.nrstLow = none) ∧ s.clockKeeps = false ∧ s.dev ≠ .off ∧ r.level = 1 :=
  ⟨{ unit [(0x110, 3)] [0, 3, 4] with rst := { RstState.reset with loading := false, active := some ⟨1, true, false, false, none⟩ } }, ⟨1, true, false, false, none⟩, by decide⟩

theorem witness_ResetsAreReleased_4 : ∃ (s : State) (r : ResetNow), s.rst.active = some r ∧ r.entered = true ∧
  (r.pin = false ∨ s.rst.nrstLow = none) ∧ s.clockKeeps = false ∧ s.dev ≠ .off ∧ r.level = 2 :=
  ⟨{ unit [(0x110, 3)] [0, 3, 4] with rst := { RstState.reset with loading := false, active := some ⟨2, true, false, false, none⟩ } }, ⟨2, true, false, false, none⟩, by decide⟩

theorem witness_ResetsAreReleased_5 : ∃ (s : State) (r : ResetNow), s.rst.active = some r ∧ r.entered = true ∧
  (r.pin = false ∨ s.rst.nrstLow = none) ∧ s.clockKeeps = false ∧ s.dev ≠ .off ∧ r.level ≠ 0 :=
  ⟨{ unit [(0x110, 3)] [0, 3, 4] with rst := { RstState.reset with loading := false, active := some ⟨2, true, false, false, none⟩ } }, ⟨2, true, false, false, none⟩, by decide⟩

theorem witness_StartAndFuseLoad_1 : ∃ (s : State) (t : Nat) (a : Nat), s.dev = .off ∧ s.pwr.above50 = some a ∧
  a + 10000000 ≤ max s.now t :=
  ⟨{ unit [(0x110, 0)] [0, 3, 4] with rst := { RstState.reset with loading := false, nrstLow := some 3 }, pwr := { PowerState.reset with above50 := some 3 } }, 10000003, 3, by decide⟩

theorem witness_StartAndFuseLoad_2 : ∃ (s : State), s.rst.loading = true ∧ s.rst.active = none :=
  ⟨State.reset, by decide⟩

theorem witness_BootToItsDestination_1 : ∃ (s : State) (dom : Fin 36), s.mayRelease dom.val = true :=
  ⟨({ { unit [(0x110, 1)] [0] with rst := { RstState.reset with loading := false } } with time := { TimeState.reset with stableFrom := [(0, 0)] } } : State).setF (F.PWM_DOM_STAT.STATE.inst 3) 2, 3, by decide⟩

theorem witness_BootToItsDestination_2 : ∃ (s : State) (dom : Fin 36) (t : Nat) (n : Nat), domainMonitor dom.val = some n ∧
  s.domainWaits dom.val n = true ∧ s.rst.active = none ∧ s.rst.loading = false ∧ s.dev ≠ .off ∧ s.monStable n = false ∧
  s.rst.clkHeld.contains n = false ∧ max s.rst.relAt ((tabFind dom.val s.pwr.onAt).getD 0) + 20000000 ≤ max s.now t :=
  ⟨({ unit [(0x110, 1)] [0] with rst := { RstState.reset with loading := false, clkFails := [(1, 2)] } } : State).setF (F.PWM_DOM_STAT.STATE.inst 8) 2, 8, 20000000, 1, by decide⟩

theorem witness_BootToItsDestination_3 : ∃ (s : State) (retry : Retry) (t : Nat), s.rst.clkHeld.contains retry.mon.val = true ∧
  (s.at t).stableLong retry.mon.val = true :=
  ⟨{ { unit [(0x110, 3)] [0, 3, 4] with rst := { RstState.reset with loading := false, clkHeld := [1], clkFails := [(1, 3)] } } with time := { TimeState.reset with stableFrom := [(1, 0)] } }, ⟨1, true⟩, 1000000000, by decide⟩

theorem witness_BootToItsDestination_4 : ∃ (s : State) (passA : Bool) (passB : Bool), s.rst.reverify = true ∧ s.on 1 = true ∧
  s.on 2 = true ∧ (passA = false ∨ passB = false) :=
  ⟨{ unit [(0x110, 3)] [0, 1, 2] with rst := { RstState.reset with loading := false, reverify := true } }, true, false, by decide⟩

theorem witness_BootToItsDestination_5 : ∃ (s : State) (i : List Byte) (j : List Byte), s.rst.reverify = true ∧ s.on 1 = true ∧
  s.on 2 = true ∧ s.saf.activeA = some i ∧ s.saf.activeB = some j :=
  ⟨{ unit [(0x110, 3)] [0, 1, 2] with rst := { RstState.reset with loading := false, reverify := true }, saf := { SafetyState.reset with activeA := some [], activeB := some [1] } }, [], [1], by decide⟩

theorem witness_BootToItsDestination_6 : ∃ (s : State), s.booting = true ∧ s.rst.selfTest = none ∧ s.on 4 = true ∧
  s.allOn [1, 2, 5] = true :=
  ⟨{ unit [(0x110, 1)] [0, 1, 2, 3, 4, 5] with rst := { RstState.reset with loading := false } }, by decide⟩

theorem witness_BootToItsDestination_7 : ∃ (s : State), s.booting = true ∧ s.rst.selfTest.isSome = true ∧ s.rst.imageDone = false :=
  ⟨{ unit [(0x110, 1)] [0, 3, 4] with rst := { RstState.reset with loading := false, selfTest := some true, slotFirst := some 0 } }, by decide⟩

theorem witness_BootToItsDestination_8 : ∃ (s : State), s.booting = true ∧ s.rst.imageDone = true ∧ s.hka.calFrom = none ∧
  (List.range 36).all (fun d => !s.wanted d || s.on d) = true ∧ s.getF F.RST_PROV.REQ = 0 ∧ s.rst.clkHeld = [] ∧ s.rst.badRows = [] ∧
  s.rst.selfTest = some true ∧ s.rst.image.isSome = true ∧ (s.gradeS = false ∨ s.rst.lockRecord = none ∧ s.rst.lockLatch = false) :=
  ⟨{ unit [(0x110, 1), (0x2120, 0), (0x2124, 0)] (List.range 36) with rst := { RstState.reset with loading := false, imageDone := true, selfTest := some true, image := some 0 } }, by decide⟩

theorem witness_BootToItsDestination_9 : ∃ (s : State) (t : Nat), s.booting = true ∧ s.rst.imageDone = true ∧ s.hka.calFrom = none ∧
  (List.range 36).all (fun d => !s.wanted d || s.on d) = true ∧ s.getF F.RST_PROV.REQ = 0 ∧ (s.dev = .boot → (s.at t).sameCycle = false) ∧
  s.rst.badRows = [] ∧ s.rst.selfTest ≠ some true :=
  ⟨{ unit [(0x110, 1), (0x2120, 0), (0x2124, 0)] (List.range 36) with rst := { RstState.reset with loading := false, imageDone := true, selfTest := some false, image := some 0 } }, 5, by decide⟩

theorem witness_BootToItsDestination_10 : ∃ (s : State), s.booting = true ∧ s.rst.imageDone = true ∧ s.hka.calFrom = none ∧
  (List.range 36).all (fun d => !s.wanted d || s.on d) = true ∧ s.getF F.RST_PROV.REQ = 0 ∧ s.rst.badRows ≠ [] :=
  ⟨{ unit [(0x110, 1), (0x2120, 0), (0x2124, 0)] (List.range 36) with rst := { RstState.reset with loading := false, imageDone := true, badRows := [5] } }, by decide⟩

theorem witness_HousekeepingConverter_1 : ∃ (s : State) (t : Nat), s.on 10 = true ∧
  s.hka.runs.any (fun r => r.samples (max s.now t)) = false ∧ s.hka.calFrom = none :=
  ⟨(unit [(0x110, 2)] [0, 10]), 5, by decide⟩

theorem witness_HousekeepingConverter_2 : ∃ (s : State) (t : Nat), s.on 10 = true ∧
  s.hka.runs.any (fun r => r.samples (max s.now t)) = false ∧ s.hka.calFrom = none ∧ s.getF F.HKA_CTL.TRIG = 6 ∧ s.frames = true :=
  ⟨((unit [(0x110, 2)] [0, 10]).setF F.HKA_CTL.TRIG 6).setF F.SYS_STATE.STATE 4, 5, by decide⟩

theorem witness_HousekeepingConverter_3 : ∃ (s : State) (f : Nat), s.on 10 = true ∧ s.hka.calFrom = some f :=
  ⟨{ unit [(0x110, 2)] [0, 10] with hka := { HkaState.reset with calFrom := some 3 } }, 3, by decide⟩

theorem witness_HousekeepingConverter_4 : ∃ (s : State) (t : Nat), s.on 10 = true ∧
  s.hka.runs.any (fun r => r.samples (max s.now t)) = false ∧ s.hka.calFrom = none ∧ s.getF F.HKA_CTL.TRIG = 5 ∧
  2 * s.hka.timerFrom + 25 * s.getF F.HKA_TIMER.PERIOD ≤ 2 * max s.now t + 1 :=
  ⟨((unit [(0x110, 2)] [0, 10]).setF F.HKA_CTL.TRIG 5), 2 ^ 40, by decide⟩

theorem witness_HousekeepingConverter_5 : ∃ (s : State) (t : Nat), s.on 10 = true ∧
  s.hka.runs.any (fun r => r.samples (max s.now t)) = false ∧ s.hka.calFrom = none ∧ s.getF F.HKA_CTL.TRIG = 1 :=
  ⟨((unit [(0x110, 2)] [0, 10]).setF F.HKA_CTL.TRIG 1), 5, by decide⟩

theorem witness_HousekeepingConverter_6 : ∃ (s : State) (raw : Nat) (t : Nat) (r : HkaRun) (l : List HkaRun), s.on 10 = true ∧
  raw ≤ 16383 ∧ s.hka.runs = r :: l ∧ r.next + 1 < r.ents.length ∧ r.sampledAt r.next + 275 ≤ 2 * max s.now t + 1 :=
  ⟨{ unit [(0x110, 2)] [0, 10] with hka := { HkaState.reset with runs := [{ ents := [0, 1], wins := [0, 0], dest := false, stream := false, next := 0, ins := [], start := 0, tai := 0 }] } }, 16383, 150, { ents := [0, 1], wins := [0, 0], dest := false, stream := false, next := 0, ins := [], start := 0, tai := 0 }, [], by decide⟩

theorem witness_HousekeepingConverter_7 : ∃ (s : State) (raw : Nat) (t : Nat) (g : HkaGalvo) (l : List HkaGalvo), s.on 10 = true ∧
  raw ≤ 16383 ∧ s.hka.galvo = g :: l ∧ g.at2 + 25 * (entCycles g.ent + 11) ≤ 2 * max s.now t + 1 :=
  ⟨{ unit [(0x110, 2)] [0, 10] with hka := { HkaState.reset with galvo := [{ entry := 0, ent := 0, win := 0, dest := false, stream := false, at2 := 0, start := 0, tai := 0 }] } }, 16383, 2 ^ 40, { entry := 0, ent := 0, win := 0, dest := false, stream := false, at2 := 0, start := 0, tai := 0 }, [], by decide⟩

theorem witness_HousekeepingConverter_8 : ∃ (s : State) (t : Nat) (r : HkaRecord), s.Settled ∧ s.hka.open_ = some r ∧
  r.first + 100000 ≤ max s.now t :=
  ⟨settledUnit { unit [(0x110, 2)] [0, 10] with hka := { HkaState.reset with open_ := some { start := 0, tai := 0, first := 0, frame := 0, epoch := 0, results := [] } } }, 100000, { start := 0, tai := 0, first := 0, frame := 0, epoch := 0, results := [] }, by decide⟩

theorem witness_HousekeepingConverter_9 : ∃ (s : State) (factors : List (Int × Nat)) (t : Nat) (f : Nat), s.on 10 = true ∧
  s.hka.calFrom = some f ∧ f + 1200000 ≤ max s.now t ∧ factors.length = 4 ∧ calGood factors = true :=
  ⟨{ unit [(0x110, 2)] [0, 10] with hka := { HkaState.reset with calFrom := some 3 } }, [(-256, 14746), (256, 18022), (0, 16384), (1, 16384)], 1200003, 3, by decide⟩

theorem witness_HousekeepingConverter_10 : ∃ (s : State) (factors : List (Int × Nat)) (t : Nat) (f : Nat), s.on 10 = true ∧
  s.hka.calFrom = some f ∧ f + 1200000 ≤ max s.now t ∧ factors.length = 4 ∧ calGood factors = false :=
  ⟨{ unit [(0x110, 2)] [0, 10] with hka := { HkaState.reset with calFrom := some 3 } }, [(-257, 14746), (256, 18022), (0, 16384), (1, 16384)], 1200003, 3, by decide⟩

theorem witness_MountSensing_1 : ∃ (s : State) (raws : List (List LandSample)), s.on 10 = true ∧ raws.length = 12 :=
  ⟨(((((unit [(0x110, 2)] [0, 10]) : State).setF (chEn 7) 1) : State).setF (F.DFL_CTL.SRC) 1), List.replicate 12 [⟨1000, 2500000000⟩], by decide⟩

theorem witness_MountSensing_2 : ∃ (s : State) (ch : Fin 12), s.on 10 = true ∧ s.getF (chEn ch.val) = 1 :=
  ⟨(((unit [(0x110, 2)] [0, 10]) : State).setF (chEn 7) 1), 7, by decide⟩

theorem witness_MountSensing_3 : ∃ (s : State) (ch : Fin 12), s.on 10 = true ∧ s.getF (chEn ch.val) = 1 :=
  ⟨(((unit [(0x110, 2)] [0, 10]) : State).setF (chEn 7) 1), 7, by decide⟩

theorem witness_MountSensing_4 : ∃ (s : State) (ch : Fin 12) (mag : Nat) (t : Nat) (m : Nat), s.on 10 = true ∧ s.getF (chEn ch.val) = 1 ∧
  s.getF (F.EXC_CH.CHK.idx ch.val) = 1 ∧ (s.at t).duringCheck ch.val s.exc.ovrAt = false ∧ (s.at t).checkDue = true ∧
  (m = if (s.at t).duringCheck ch.val s.exc.tripAt || s.exc.tripped.contains ch.val then 0xFFFF else min 0xFFFF mag) :=
  ⟨(((((((unit [(0x110, 2)] [0, 10]) : State).setF (chEn 7) 1) : State).setF (F.EXC_CH.CHK.idx 7) 1) : State).setF (linF 7 52 16 16) 9), 7, 10, 4096000, 10, by decide⟩

theorem witness_MountSensing_5 : ∃ (s : State) (ch : Fin 12) (t : Nat), (s.at t).duringCheck ch.val s.exc.ovrAt = true :=
  ⟨(((({ unit [(0x110, 2)] [0, 10] with exc := { ExcState.reset with ovrAt := [(7, 100)] } } : State).setF (chEn 7) 1) : State).setF (F.EXC_CH.CHK.idx 7) 1), 7, 4096000, by decide⟩

theorem witness_MountSensing_6 : ∃ (s : State) (k : ScalStep), s.on 10 = true ∧ s.exc.step = some k ∧ k.bad = false ∧ k.full = false ∧
  0 < k.n ∧ k.want ≤ k.n ∧ (k.n : Int) ∣ k.sum :=
  ⟨(({ unit [(0x110, 2)] [0, 10] with exc := { ExcState.reset with step := some { ch := 7, full := false, want := 4, tgt := 0, start := 0, sum := -8, n := 4, bad := false } } } : State).setF (chEn 7) 1), { ch := 7, full := false, want := 4, tgt := 0, start := 0, sum := -8, n := 4, bad := false }, by decide⟩

theorem witness_MountSensing_7 : ∃ (s : State) (k : ScalStep), s.on 10 = true ∧ s.exc.step = some k ∧ k.bad = true :=
  ⟨(({ unit [(0x110, 2)] [0, 10] with exc := { ExcState.reset with step := some { ch := 7, full := false, want := 4, tgt := 0, start := 0, sum := -8, n := 4, bad := true } } } : State).setF (chEn 7) 1), { ch := 7, full := false, want := 4, tgt := 0, start := 0, sum := -8, n := 4, bad := true }, by decide⟩

theorem witness_EventRecorder_1 : ∃ (s : State) (e : RecEntry) (l : List RecEntry), s.rcd.due = e :: l ∧ s.recArmed = true :=
  ⟨(({ unit [(0x110, 2)] [0, 5, 6, 7] with rcd := { RecState.reset with due := [⟨0, 2, 0, [1, 2]⟩] } } : State).setF (F.REC_STAT.STATE) 1), ⟨0, 2, 0, [1, 2]⟩, [], by decide⟩

theorem witness_EventRecorder_2 : ∃ (s : State) (e : RecEntry) (l : List RecEntry), s.Settled ∧ s.rcd.due = e :: l ∧ s.recArmed = true ∧
  s.recState = 1 ∧ e.size ≤ s.getF F.REC_SIZE.SIZE * 1048576 :=
  ⟨settledUnit (((({ unit [(0x110, 2)] [0, 5, 6, 7] with rcd := { RecState.reset with lossNext := true, due := [⟨0, 2, 0, [1, 2]⟩] } } : State).setF (F.REC_STAT.STATE) 1) : State).setF (F.REC_SIZE.SIZE) 1), ⟨0, 2, 0, [1, 2]⟩, [], by decide⟩

theorem witness_EventRecorder_3 : ∃ (s : State), s.on 5 = true ∧ s.recState = 2 ∧ s.rcd.pointDue = false ∧
  s.getF F.REC_POST.KIB * 1024 ≤ s.rcd.post :=
  ⟨(((({ unit [(0x110, 2)] [0, 5, 6, 7] with rcd := { RecState.reset with post := 1024 } } : State).setF (F.REC_STAT.STATE) 2) : State).setF (F.REC_POST.KIB) 1), by decide⟩

theorem witness_EventRecorder_4 : ∃ (s : State), s.on 5 = true ∧ s.recState = 4 ∧ s.rcd.readout ≠ [] ∧
  firstEntries s.rcd.readout = s.rcd.readout ∧ s.recorderUnacked ≤ s.getF (F.LDG_REGION.SIZE.inst 7) * 524288 :=
  ⟨(({ unit [(0x110, 2)] [0, 5, 6, 7] with rcd := { RecState.reset with readout := [⟨0, 2, 0, [1, 2]⟩] } } : State).setF (F.REC_STAT.STATE) 4), by decide⟩

theorem witness_EventRecorder_5 : ∃ (s : State), s.Settled ∧ s.on 5 = true ∧
  s.seqHolds (s.getF (F.REC_ST.IN_A.idx (s.getF F.REC_STAT.SEQ))) = true ∧ s.getF (F.REC_ST.ACT_A.idx (s.getF F.REC_STAT.SEQ)) = 0 :=
  ⟨settledUnit (((((((unit [(0x110, 2)] [0, 5, 6, 7]) : State).setF (F.REC_STAT.STATE) 1) : State).setF (F.REC_ST.IN_A.idx 0) 1) : State).setF (F.REC_ST.NEXT_A.idx 0) 3), by decide⟩

theorem witness_EventRecorder_6 : ∃ (s : State) (timer : Fin 4) (t : Nat) (f : Nat), s.Settled ∧ s.on 5 = true ∧
  tabFind timer.val s.rcd.timers = some f ∧ f ≤ max s.now t :=
  ⟨settledUnit (({ unit [(0x110, 2)] [0, 5, 6, 7] with rcd := { RecState.reset with timers := [(2, 100000)] } } : State).setF (F.REC_STAT.STATE) 1), 2, 100000, 100000, by decide⟩

theorem witness_EventRecorder_7 : ∃ (s : State) (rising : Bool) (n : Nat), s.Settled ∧ s.on 5 = true ∧ s.getF F.REC_IO.DIR = 0 ∧
  s.getF F.REC_STAT.SEQ = n ∧ (s.getF (F.REC_ST.IN_A.idx n) = (if rising then 2 else 3)) ∧ s.getF (F.REC_ST.ACT_A.idx n) = 0 :=
  ⟨settledUnit (((((((unit [(0x110, 2)] [0, 5, 6, 7]) : State).setF (F.REC_STAT.STATE) 1) : State).setF (F.REC_ST.IN_A.idx 0) 2) : State).setF (F.REC_ST.NEXT_A.idx 0) 3), true, 0, by decide⟩

theorem witness_EventRecorder_8 : ∃ (s : State) (portB : Bool) (trigger : ChainTrigger), s.portActive (portNo portB) = true ∧
  trigger.type = 1 ∧ trigger.origin ≠ s.unitMac ∧ s.on 5 = true ∧ s.getF F.REC_CTL.RECV_EN = 1 ∧
  s.rcd.seen.any (fun e => e.1 = (trigger.origin, trigger.seq)) = false :=
  ⟨(((((((unit [(0x110, 2)] [0, 5, 6, 7]) : State).setF (F.REC_STAT.STATE) 1) : State).setF (F.NTA_STAT.STAGE) 6) : State).setF (F.REC_CTL.RECV_EN) 1), false, { type := 1, timed := false, origin := 9, seq := 4, tai := 0, corr := 0 }, by decide⟩

theorem witness_EventRecorder_9 : ∃ (s : State) (portB : Bool) (trigger : ChainTrigger), s.portActive (portNo portB) = true ∧
  s.portActive (1 - portNo portB) = true ∧ trigger.type = 1 ∧ trigger.origin ≠ s.unitMac :=
  ⟨(((((((unit [(0x110, 2)] [0, 5, 6, 7]) : State).setF (F.REC_STAT.STATE) 1) : State).setF (F.NTA_STAT.STAGE) 6) : State).setF (F.NTA_STAT.STAGE.pageUp 1) 6), false, { type := 1, timed := false, origin := 9, seq := 4, tai := 0, corr := 0 }, by decide⟩

theorem witness_EventRecorder_10 : ∃ (s : State) (portB : Bool) (trigger : ChainTrigger) (n : Nat), s.Settled ∧
  s.portActive (portNo portB) = true ∧ trigger.type = 1 ∧ trigger.origin ≠ s.unitMac ∧ s.on 5 = true ∧ s.getF F.REC_CTL.RECV_EN = 1 ∧
  s.rcd.seen.any (fun e => e.1 = (trigger.origin, trigger.seq)) = false ∧ s.getF F.REC_STAT.SEQ = n ∧ s.getF (F.REC_ST.IN_A.idx n) = 5 ∧
  s.getF (F.REC_ST.ACT_A.idx n) = 0 :=
  ⟨settledUnit (((((((((((unit [(0x110, 2)] [0, 5, 6, 7]) : State).setF (F.REC_STAT.STATE) 1) : State).setF (F.NTA_STAT.STAGE) 6) : State).setF (F.REC_CTL.RECV_EN) 1) : State).setF (F.REC_ST.IN_A.idx 0) 5) : State).setF (F.REC_ST.NEXT_A.idx 0) 3), false, { type := 1, timed := false, origin := 9, seq := 4, tai := 0, corr := 0 }, 0, by decide⟩

theorem witness_SessionCommands_1 : ∃ (s : State) (sess : Nat) (seq : Nat) (x : Session) (addr : Nat) (count : Nat), s.noCommands = false ∧
  s.unserved = false ∧ s.session sess = some x ∧
  s.waiting.all (fun a => a.isRow sess 0x01 (leBytes 4 addr ++ leBytes 2 count ++ leBytes 2 0)) = true ∧
  (s.waiting.map (fun a => a.seq)).getD x.nextSeq = seq ∧ seq < 2 ^ 32 ∧ s.tp.withheld = [] ∧ s.uncopied < 2048 ∧ addr < 2 ^ 24 ∧
  1 ≤ count ∧ count ≤ 1024 ∧ (∀ a ∈ wordAddrs addr count, s.accessRefused a = none) :=
  ⟨{ unit [(0x110, 2)] [0, 1, 2, 4, 5] with tp := { TransportState.reset with sessions := [(3, { gen := 1, nextSeq := 7, leaseMs := 1000, leaseEnd := 5, slot := none, roles := 0, key := [], confirmed := true, confirmBy := 0, peer := ⟨9, 4, false⟩ })] } }, 3, 7, { gen := 1, nextSeq := 7, leaseMs := 1000, leaseEnd := 5, slot := none, roles := 0, key := [], confirmed := true, confirmBy := 0, peer := ⟨9, 4, false⟩ }, 0x110, 2, by decide⟩

theorem witness_SessionCommands_2 : ∃ (s : State) (sess : Nat) (seq : Nat) (x : Session) (addr : Nat) (count : Nat), s.noCommands = false ∧
  s.unserved = false ∧ s.session sess = some x ∧
  s.waiting.all (fun a => a.isRow sess 0x01 (leBytes 4 addr ++ leBytes 2 count ++ leBytes 2 0)) = true ∧
  (s.waiting.map (fun a => a.seq)).getD x.nextSeq = seq ∧ seq < 2 ^ 32 ∧ s.tp.withheld = [] ∧ s.uncopied < 2048 ∧ addr < 2 ^ 24 ∧
  1 ≤ count ∧ count ≤ 1024 ∧ 0x400000 ≤ addr ∧ addr + 4 * count ≤ 0x600000 ∧ (∀ a ∈ wordAddrs addr count, s.accessRefused a = none) :=
  ⟨{ unit [(0x110, 2)] [0, 1, 2, 4, 5, 8] with tp := { TransportState.reset with sessions := [(3, { gen := 1, nextSeq := 7, leaseMs := 1000, leaseEnd := 5, slot := none, roles := 0, key := [], confirmed := true, confirmBy := 0, peer := ⟨9, 4, false⟩ })] }, ram := [(0x400100, 5)] }, 3, 7, { gen := 1, nextSeq := 7, leaseMs := 1000, leaseEnd := 5, slot := none, roles := 0, key := [], confirmed := true, confirmBy := 0, peer := ⟨9, 4, false⟩ }, 0x400100, 1, by decide⟩

theorem witness_SessionCommands_3 : ∃ (s : State) (sess : Nat) (seq : Nat) (x : Session) (addr : Nat) (words : List Word) (v : State),
  s.noCommands = false ∧ s.unserved = false ∧ s.session sess = some x ∧
  s.waiting.all (fun a => a.isRow sess 0x02 (leBytes 4 addr ++ leBytes 2 words.length ++ leBytes 2 0 ++ (words.map (fun w => leBytes 4
  w.toNat)).flatten)) = true ∧ (s.waiting.map (fun a => a.seq)).getD x.nextSeq = seq ∧ seq < 2 ^ 32 ∧ s.tp.withheld = [] ∧
  s.uncopied < 2048 ∧ addr < 2 ^ 24 ∧ 1 ≤ words.length ∧ words.length ≤ 1024 ∧
  (v = if s.waiting.isSome then s else (s.confirmSession sess).renewSession sess) ∧
  State.checkWords { sess := sess, roles := s.rolesOf x, may := x.slot.isSome || !s.flag F.CPU_AUTH.REQUIRE } (wordsAt addr words) (wordsAt
  addr words) v = none ∧ v.requestFail (requestOf (wordsAt addr words)) = none ∧ asksReset (wordsAt addr words) = false :=
  ⟨{ unit [(0x110, 2)] [0, 1, 2, 4, 5] with tp := { TransportState.reset with sessions := [(3, { gen := 1, nextSeq := 7, leaseMs := 1000, leaseEnd := 5, slot := none, roles := 0, key := [], confirmed := true, confirmBy := 0, peer := ⟨9, 4, false⟩ })] } }, 3, 7, { gen := 1, nextSeq := 7, leaseMs := 1000, leaseEnd := 5, slot := none, roles := 0, key := [], confirmed := true, confirmBy := 0, peer := ⟨9, 4, false⟩ }, 0x10, [0x80000001], (({ unit [(0x110, 2)] [0, 1, 2, 4, 5] with tp := { TransportState.reset with sessions := [(3, { gen := 1, nextSeq := 7, leaseMs := 1000, leaseEnd := 5, slot := none, roles := 0, key := [], confirmed := true, confirmBy := 0, peer := ⟨9, 4, false⟩ })] } }).confirmSession 3).renewSession 3, by decide, by decide, by decide, by decide, by decide, by decide, by decide, by decide, by decide, by decide, by decide, by rfl, by set_option maxRecDepth 100000 in decide, by decide, by decide⟩

theorem witness_SessionCommands_4 : ∃ (s : State) (sess : Nat) (seq : Nat) (x : Session) (addr : Nat) (b : Nat) (o : Nat) (w : Word),
  s.noCommands = false ∧ s.unserved = false ∧ s.session sess = some x ∧
  s.waiting.all (fun a => a.isRow sess 0x02 (leBytes 4 addr ++ leBytes 2 1 ++ leBytes 2 0 ++ leBytes 4 w.toNat)) = true ∧
  (s.waiting.map (fun a => a.seq)).getD x.nextSeq = seq ∧ seq < 2 ^ 32 ∧ s.tp.withheld = [] ∧ s.uncopied < 2048 ∧
  regionOf addr = .bank b o ∧ s.accessRefused addr = none ∧ s.bankInUse b = false ∧ s.bankHeld b = false ∧
  (x.slot.isSome = true ∨ s.getF F.CPU_AUTH.REQUIRE = 0) :=
  ⟨{ unit [(0x110, 2)] [0, 1, 2, 4, 5, 8] with tp := { TransportState.reset with sessions := [(3, { gen := 1, nextSeq := 7, leaseMs := 1000, leaseEnd := 5, slot := none, roles := 0, key := [], confirmed := true, confirmBy := 0, peer := ⟨9, 4, false⟩ })] } }, 3, 7, { gen := 1, nextSeq := 7, leaseMs := 1000, leaseEnd := 5, slot := none, roles := 0, key := [], confirmed := true, confirmBy := 0, peer := ⟨9, 4, false⟩ }, 0x500100, 1, 0x100, 7, by decide⟩

theorem witness_SessionCommands_5 : ∃ (s : State) (sess : Nat) (seq : Nat) (x : Session) (p : Fin 28) (w : Word), s.noCommands = false ∧
  s.unserved = false ∧ s.session sess = some x ∧
  s.waiting.all (fun a => a.isRow sess 0x02 (leBytes 4 (p.val * 0x1000 + 0x14) ++ leBytes 2 1 ++ leBytes 2 0 ++ leBytes 4 w.toNat)) = true
  ∧ (s.waiting.map (fun a => a.seq)).getD x.nextSeq = seq ∧ seq < 2 ^ 32 ∧ s.tp.withheld = [] ∧ s.uncopied < 2048 ∧ p.val ≠ 17 ∧
  p.val ≠ 26 ∧ s.pageOn p.val = true ∧ (x.slot.isSome = true ∨ s.getF F.CPU_AUTH.REQUIRE = 0) :=
  ⟨{ unit [(0x110, 2)] [0, 1, 2, 4, 5] with tp := { TransportState.reset with sessions := [(3, { gen := 1, nextSeq := 7, leaseMs := 1000, leaseEnd := 5, slot := none, roles := 0, key := [], confirmed := true, confirmBy := 0, peer := ⟨9, 4, false⟩ })] } }, 3, 7, { gen := 1, nextSeq := 7, leaseMs := 1000, leaseEnd := 5, slot := none, roles := 0, key := [], confirmed := true, confirmBy := 0, peer := ⟨9, 4, false⟩ }, 7, 0x80000001, by decide⟩

theorem witness_SessionCommands_6 : ∃ (s : State) (sess : Nat) (seq : Nat) (x : Session) (w : Word), s.noCommands = false ∧
  s.unserved = false ∧ s.session sess = some x ∧
  s.waiting.all (fun a => a.isRow sess 0x02 (leBytes 4 0x9104 ++ leBytes 2 1 ++ leBytes 2 0 ++ leBytes 4 w.toNat)) = true ∧
  (s.waiting.map (fun a => a.seq)).getD x.nextSeq = seq ∧ seq < 2 ^ 32 ∧ s.tp.withheld = [] ∧ s.uncopied < 2048 ∧ s.on 9 = true ∧
  s.sys.armed = none ∧ s.sys.owner.getD sess = sess ∧ s.rolesOf x &&& 1 = 1 ∧ (x.slot.isSome = true ∨ s.getF F.CPU_AUTH.REQUIRE = 0) :=
  ⟨{ unit [(0x110, 2)] [0, 1, 2, 4, 5, 9] with tp := { TransportState.reset with sessions := [(3, { gen := 1, nextSeq := 7, leaseMs := 1000, leaseEnd := 5, slot := none, roles := 0, key := [], confirmed := true, confirmBy := 0, peer := ⟨9, 4, false⟩ })] } }, 3, 7, { gen := 1, nextSeq := 7, leaseMs := 1000, leaseEnd := 5, slot := none, roles := 0, key := [], confirmed := true, confirmBy := 0, peer := ⟨9, 4, false⟩ }, 1500, by decide⟩

theorem witness_SessionCommands_7 : ∃ (s : State) (sess : Nat) (seq : Nat) (x : Session) (sub : Subscription) (n : Nat), s.noCommands =
  false ∧ s.unserved = false ∧ s.session sess = some x ∧ s.waiting.all (fun a => a.isRow sess 0x10 (subscribeBytes sub)) = true ∧
  (s.waiting.map (fun a => a.seq)).getD x.nextSeq = seq ∧ seq < 2 ^ 32 ∧ s.tp.withheld = [] ∧ s.uncopied < 2048 ∧
  payloadGood 0x10 (subscribeBytes sub) = true ∧ subscriptionGood (s.withDefaults sub) x.peer.ip6 = true ∧ s.tp.queues.length < 16384 ∧
  n < 16384 ∧ tabFind n s.tp.queues = none ∧ (∀ k, k < n → (tabFind k s.tp.queues).isSome = true) :=
  ⟨{ unit [(0x110, 2)] [0, 1, 2, 4, 5] with tp := { TransportState.reset with sessions := [(3, { gen := 1, nextSeq := 7, leaseMs := 1000, leaseEnd := 5, slot := none, roles := 0, key := [], confirmed := true, confirmBy := 0, peer := ⟨9, 4, false⟩ })] } }, 3, 7, { gen := 1, nextSeq := 7, leaseMs := 1000, leaseEnd := 5, slot := none, roles := 0, key := [], confirmed := true, confirmBy := 0, peer := ⟨9, 4, false⟩ }, ⟨5, 7, 100, 1472, 1000, 65536, 0, 0⟩, 0, by decide⟩

theorem witness_SessionCommands_8 : ∃ (s : State) (sess : Nat) (seq : Nat) (x : Session) (queue : Nat) (q : Queue), s.noCommands = false ∧
  s.unserved = false ∧ s.session sess = some x ∧ s.waiting.all (fun a => a.isRow sess 0x11 (leBytes 2 queue ++ leBytes 2 0)) = true ∧
  (s.waiting.map (fun a => a.seq)).getD x.nextSeq = seq ∧ seq < 2 ^ 32 ∧ s.tp.withheld = [] ∧ s.uncopied < 2048 ∧ s.queue queue = some q ∧
  q.session = sess ∧ (x.slot.isSome = true ∨ s.getF F.CPU_AUTH.REQUIRE = 0) :=
  ⟨{ unit [(0x110, 2)] [0, 1, 2, 4, 5] with tp := { TransportState.reset with sessions := [(3, { gen := 1, nextSeq := 7, leaseMs := 1000, leaseEnd := 5, slot := none, roles := 0, key := [], confirmed := true, confirmBy := 0, peer := ⟨9, 4, false⟩ })], queues := [(4, { session := 3, gen := 9, cls := 5, dport := 7, flush := 1, maxdg := 1400, filter0 := 0, filter1 := 0, window := 64, leaseMs := 1000, leaseEnd := 5, next := 2, sent := 0, acked := 0, waitHdr := false, portB := false, ip6 := false, unacked := [], resent := [], gapped := 0, ackErr := 0 })] } }, 3, 7, { gen := 1, nextSeq := 7, leaseMs := 1000, leaseEnd := 5, slot := none, roles := 0, key := [], confirmed := true, confirmBy := 0, peer := ⟨9, 4, false⟩ }, 4, { session := 3, gen := 9, cls := 5, dport := 7, flush := 1, maxdg := 1400, filter0 := 0, filter1 := 0, window := 64, leaseMs := 1000, leaseEnd := 5, next := 2, sent := 0, acked := 0, waitHdr := false, portB := false, ip6 := false, unacked := [], resent := [], gapped := 0, ackErr := 0 }, by decide⟩

theorem witness_SessionCommands_9 : ∃ (s : State) (sess : Nat) (seq : Nat) (x : Session) (ofSess : Nat) (ofGen : Nat) (ofSeq : Nat) (g :
  LedgerEntry), s.noCommands = false ∧ s.unserved = false ∧ s.session sess = some x ∧
  s.waiting.all (fun a => a.isRow sess 0x20 (leBytes 2 ofSess ++ leBytes 4 ofGen ++ leBytes 4 ofSeq)) = true ∧
  (s.waiting.map (fun a => a.seq)).getD x.nextSeq = seq ∧ seq < 2 ^ 32 ∧ s.tp.withheld = [] ∧ s.uncopied < 2048 ∧
  s.ledgerEntry ofSess ofGen ofSeq = some g :=
  ⟨{ unit [(0x110, 2)] [0, 1, 2, 4, 5] with tp := { TransportState.reset with sessions := [(3, { gen := 1, nextSeq := 7, leaseMs := 1000, leaseEnd := 5, slot := none, roles := 0, key := [], confirmed := true, confirmBy := 0, peer := ⟨9, 4, false⟩ })], banks := [⟨1, 0x10, 1, 1, 0, false, 0, 0, 0, [], []⟩] } }, 3, 7, { gen := 1, nextSeq := 7, leaseMs := 1000, leaseEnd := 5, slot := none, roles := 0, key := [], confirmed := true, confirmBy := 0, peer := ⟨9, 4, false⟩ }, 1, 1, 1, ⟨1, 0x10, 1, 1, 0, false, 0, 0, 0, [], []⟩, by decide⟩

theorem witness_SessionCommands_10 : ∃ (s : State) (sess : Nat) (seq : Nat) (x : Session), s.noCommands = false ∧ s.unserved = false ∧
  s.session sess = some x ∧ s.waiting.all (fun a => a.isRow sess 0x21 ([])) = true ∧
  (s.waiting.map (fun a => a.seq)).getD x.nextSeq = seq ∧ seq < 2 ^ 32 ∧ s.tp.withheld = [] ∧ s.uncopied < 2048 ∧ s.Settled :=
  ⟨settledUnit ({ unit [(0x110, 2)] [0, 1, 2, 4, 5] with tp := { TransportState.reset with sessions := [(3, { gen := 1, nextSeq := 7, leaseMs := 1000, leaseEnd := 5, slot := none, roles := 0, key := [], confirmed := true, confirmBy := 0, peer := ⟨9, 4, false⟩ })] } }), 3, 7, { gen := 1, nextSeq := 7, leaseMs := 1000, leaseEnd := 5, slot := none, roles := 0, key := [], confirmed := true, confirmBy := 0, peer := ⟨9, 4, false⟩ }, by decide⟩

theorem witness_SessionCommands_11 : ∃ (s : State) (sess : Nat) (seq : Nat) (x : Session), s.noCommands = false ∧ s.unserved = false ∧
  s.session sess = some x ∧ s.waiting.all (fun a => a.isRow sess 0x22 ([])) = true ∧
  (s.waiting.map (fun a => a.seq)).getD x.nextSeq = seq ∧ seq < 2 ^ 32 ∧ s.tp.withheld = [] ∧ s.uncopied < 2048 :=
  ⟨{ unit [(0x110, 2)] [0, 1, 2, 4, 5] with tp := { TransportState.reset with sessions := [(3, { gen := 1, nextSeq := 7, leaseMs := 1000, leaseEnd := 5, slot := none, roles := 0, key := [], confirmed := true, confirmBy := 0, peer := ⟨9, 4, false⟩ })], queues := [(4, { session := 3, gen := 9, cls := 5, dport := 7, flush := 1, maxdg := 1400, filter0 := 0, filter1 := 0, window := 64, leaseMs := 1000, leaseEnd := 5, next := 2, sent := 0, acked := 0, waitHdr := false, portB := false, ip6 := false, unacked := [], resent := [], gapped := 0, ackErr := 0 })] } }, 3, 7, { gen := 1, nextSeq := 7, leaseMs := 1000, leaseEnd := 5, slot := none, roles := 0, key := [], confirmed := true, confirmBy := 0, peer := ⟨9, 4, false⟩ }, by decide⟩

theorem witness_SessionCommands_12 : ∃ (s : State) (sess : Nat) (seq : Nat) (x : Session) (target : Nat) (last : Bool) (offset : Nat) (data
  : List Byte), s.noCommands = false ∧ s.unserved = false ∧ s.session sess = some x ∧
  (s.waiting.all (fun a => a.isRow sess 0x30 (leBytes 1 target ++ leBytes 1 (if last then 1 else 0) ++ leBytes 2 0 ++ leBytes 4 offset ++
  data)) = true) ∧ (s.waiting.map (fun a => a.seq)).getD x.nextSeq = seq ∧ seq < 2 ^ 32 ∧ s.tp.withheld = [] ∧ s.uncopied < 2048 ∧
  s.rolesOf x &&& 4 = 4 ∧ (target = 1 ∨ target = 2) ∧ 4 ≤ data.length ∧ data.length ≤ 8192 ∧ s.rst.image ≠ some (target - 1) :=
  ⟨{ unit [(0x110, 2)] [0, 1, 2, 4, 5] with tp := { TransportState.reset with sessions := [(3, { gen := 1, nextSeq := 7, leaseMs := 1000, leaseEnd := 5, slot := some 2, roles := 15, key := [], confirmed := true, confirmBy := 0, peer := ⟨9, 4, false⟩ })] } }, 3, 7, { gen := 1, nextSeq := 7, leaseMs := 1000, leaseEnd := 5, slot := some 2, roles := 15, key := [], confirmed := true, confirmBy := 0, peer := ⟨9, 4, false⟩ }, 1, true, 8, [1, 2, 3, 4], by decide⟩

theorem witness_SessionCommands_13 : ∃ (s : State) (sess : Nat) (seq : Nat) (x : Session) (offset : Nat) (data : List Byte), s.noCommands =
  false ∧ s.unserved = false ∧ s.session sess = some x ∧
  (s.waiting.all (fun a => a.isRow sess 0x30 (leBytes 1 0 ++ leBytes 1 (if false then 1 else 0) ++ leBytes 2 0 ++ leBytes 4 offset ++
  data)) = true) ∧ (s.waiting.map (fun a => a.seq)).getD x.nextSeq = seq ∧ seq < 2 ^ 32 ∧ s.tp.withheld = [] ∧ s.uncopied < 2048 ∧
  s.rolesOf x &&& 2 = 2 ∧ 4 ≤ data.length ∧ data.length ≤ 8192 ∧ s.recovery = false ∧ s.gradeS = true ∧ s.on 1 = true ∧ s.on 2 = true ∧
  s.activationArmed = false ∧ offset + data.length ≤ 2 ^ 20 :=
  ⟨(({ unit [(0x110, 2)] [0, 1, 2, 4, 5] with tp := { TransportState.reset with sessions := [(3, { gen := 1, nextSeq := 7, leaseMs := 1000, leaseEnd := 5, slot := some 2, roles := 15, key := [], confirmed := true, confirmBy := 0, peer := ⟨9, 4, false⟩ })] } } : State).setF (F.SYS_PART.GRADE) 2), 3, 7, { gen := 1, nextSeq := 7, leaseMs := 1000, leaseEnd := 5, slot := some 2, roles := 15, key := [], confirmed := true, confirmBy := 0, peer := ⟨9, 4, false⟩ }, 8, [1, 2, 3, 4], by decide⟩

theorem witness_SessionCommands_14 : ∃ (s : State) (sess : Nat) (seq : Nat) (x : Session) (slot : Nat), s.noCommands = false ∧
  s.unserved = false ∧ s.session sess = some x ∧ s.waiting.all (fun a => a.isRow sess 0x31 (leBytes 1 slot ++ leBytes 3 0)) = true ∧
  (s.waiting.map (fun a => a.seq)).getD x.nextSeq = seq ∧ seq < 2 ^ 32 ∧ s.tp.withheld = [] ∧ s.uncopied < 2048 ∧ s.rolesOf x &&& 4 = 4 ∧
  slot ≤ 1 :=
  ⟨{ unit [(0x110, 2)] [0, 1, 2, 4, 5] with tp := { TransportState.reset with sessions := [(3, { gen := 1, nextSeq := 7, leaseMs := 1000, leaseEnd := 5, slot := some 2, roles := 15, key := [], confirmed := true, confirmBy := 0, peer := ⟨9, 4, false⟩ })] } }, 3, 7, { gen := 1, nextSeq := 7, leaseMs := 1000, leaseEnd := 5, slot := some 2, roles := 15, key := [], confirmed := true, confirmBy := 0, peer := ⟨9, 4, false⟩ }, 1, by decide⟩

theorem witness_SessionCommands_15 : ∃ (s : State) (sess : Nat) (seq : Nat) (x : Session) (row : Nat) (data : List Byte), s.noCommands =
  false ∧ s.unserved = false ∧ s.session sess = some x ∧
  s.waiting.all (fun a => a.isRow sess 0x40 (leBytes 1 row ++ leBytes 3 0 ++ data)) = true ∧
  (s.waiting.map (fun a => a.seq)).getD x.nextSeq = seq ∧ seq < 2 ^ 32 ∧ s.tp.withheld = [] ∧ s.uncopied < 2048 ∧ s.rolesOf x &&& 8 = 8 ∧
  data.length = 60 ∧ s.dev = .provision ∧ rowClosed row = false ∧ s.inputMode = 0 ∧ s.getF F.PWM_STAT.HU_READY = 1 ∧
  rowKind (fuseRow s.rst.fuseA row) = 0 ∧ rowKind (fuseRow s.rst.fuseB row) = 0 :=
  ⟨(((({ unit [(0x110, 8)] [0, 1, 2, 4, 5] with tp := { TransportState.reset with sessions := [(3, { gen := 1, nextSeq := 7, leaseMs := 1000, leaseEnd := 5, slot := some 2, roles := 15, key := [], confirmed := true, confirmBy := 0, peer := ⟨9, 4, false⟩ })] } } : State).setF (F.PWM_STAT.HU_READY) 1) : State).setF (F.PWM_STAT.MODE) 0), 3, 7, { gen := 1, nextSeq := 7, leaseMs := 1000, leaseEnd := 5, slot := some 2, roles := 15, key := [], confirmed := true, confirmBy := 0, peer := ⟨9, 4, false⟩ }, 34, List.replicate 60 5, by decide⟩

theorem witness_SessionCommands_16 : ∃ (s : State) (sess : Nat) (seq : Nat) (x : Session) (slot : Nat) (roles : Nat) (key : List Byte),
  s.noCommands = false ∧ s.unserved = false ∧ s.session sess = some x ∧
  s.waiting.all (fun a => a.isRow sess 0x41 (leBytes 1 slot ++ leBytes 1 roles ++ leBytes 2 0 ++ key)) = true ∧
  (s.waiting.map (fun a => a.seq)).getD x.nextSeq = seq ∧ seq < 2 ^ 32 ∧ s.tp.withheld = [] ∧ s.uncopied < 2048 ∧ s.rolesOf x &&& 8 = 8 ∧
  s.dev = .provision ∧ slot ≤ 15 ∧ roles < 16 ∧ key.length = 32 :=
  ⟨{ unit [(0x110, 8)] [0, 1, 2, 4, 5] with tp := { TransportState.reset with sessions := [(3, { gen := 1, nextSeq := 7, leaseMs := 1000, leaseEnd := 5, slot := some 2, roles := 15, key := [], confirmed := true, confirmBy := 0, peer := ⟨9, 4, false⟩ })] } }, 3, 7, { gen := 1, nextSeq := 7, leaseMs := 1000, leaseEnd := 5, slot := some 2, roles := 15, key := [], confirmed := true, confirmBy := 0, peer := ⟨9, 4, false⟩ }, 15, 15, List.replicate 32 5, by decide⟩

theorem witness_SessionCommands_17 : ∃ (s : State) (sess : Nat) (seq : Nat) (x : Session) (serial : Nat), s.noCommands = false ∧
  s.unserved = false ∧ s.session sess = some x ∧ s.waiting.all (fun a => a.isRow sess 0x42 (leBytes 8 serial)) = true ∧
  (s.waiting.map (fun a => a.seq)).getD x.nextSeq = seq ∧ seq < 2 ^ 32 ∧ s.tp.withheld = [] ∧ s.uncopied < 2048 ∧ s.rolesOf x &&& 8 = 8 ∧
  (s.dev = .standby ∨ s.dev = .safe) ∧ serial = s.serialNo :=
  ⟨{ unit [(0x110, 2)] [0, 1, 2, 4, 5] with tp := { TransportState.reset with sessions := [(3, { gen := 1, nextSeq := 7, leaseMs := 1000, leaseEnd := 5, slot := some 2, roles := 15, key := [], confirmed := true, confirmBy := 0, peer := ⟨9, 4, false⟩ })] } }, 3, 7, { gen := 1, nextSeq := 7, leaseMs := 1000, leaseEnd := 5, slot := some 2, roles := 15, key := [], confirmed := true, confirmBy := 0, peer := ⟨9, 4, false⟩ }, 0, by decide⟩

theorem witness_SessionsAndMessages_1 : ∃ (s : State) (src : Endpoint) (nonce : List Byte) (lease : Nat) (i : Nat), s.on 5 = true ∧
  s.unserved = false ∧ s.coresHeld = false ∧ s.ctlRoom = true ∧ s.tp.rxq = [] ∧
  s.tp.opens.find? (fun o => o.src = src && o.nonce = padTo 16 nonce && decide (s.now < o.time + 1000000000)) = none ∧ 100 ≤ lease ∧
  lease ≤ 60000 ∧ s.tp.sessions.length < 4096 ∧ i < 4096 ∧ tabFind i s.tp.sessions = none ∧ (∀ k, k < i →
  (tabFind k s.tp.sessions).isSome = true) :=
  ⟨{ unit [(0x110, 2)] [0, 1, 2, 4, 5] with tp := { TransportState.reset with sessions := [(3, { gen := 1, nextSeq := 7, leaseMs := 1000, leaseEnd := 5, slot := none, roles := 0, key := [], confirmed := true, confirmBy := 0, peer := ⟨9, 4, false⟩ })] } }, ⟨8, 5, true⟩, List.replicate 16 1, 100, 0, by decide⟩

theorem witness_SessionsAndMessages_2 : ∃ (s : State) (sess : Nat) (t : Nat) (x : Session), s.on 5 = true ∧ s.session sess = some x ∧
  x.confirmed = false ∧ x.confirmBy ≤ max s.now t :=
  ⟨{ unit [(0x110, 2)] [0, 1, 2, 4, 5] with tp := { TransportState.reset with sessions := [(3, { gen := 1, nextSeq := 7, leaseMs := 1000, leaseEnd := 5, slot := none, roles := 0, key := [], confirmed := false, confirmBy := 0, peer := ⟨9, 4, false⟩ })] } }, 3, 5, { gen := 1, nextSeq := 7, leaseMs := 1000, leaseEnd := 5, slot := none, roles := 0, key := [], confirmed := false, confirmBy := 0, peer := ⟨9, 4, false⟩ }, by decide⟩

theorem witness_SessionsAndMessages_3 : ∃ (s : State) (sess : Nat) (t : Nat) (x : Session), s.on 5 = true ∧ s.session sess = some x ∧
  x.leaseEnd ≤ max s.now t :=
  ⟨{ unit [(0x110, 2)] [0, 1, 2, 4, 5] with tp := { TransportState.reset with sessions := [(3, { gen := 1, nextSeq := 7, leaseMs := 1000, leaseEnd := 5, slot := none, roles := 0, key := [], confirmed := true, confirmBy := 0, peer := ⟨9, 4, false⟩ })], queues := [(4, { session := 3, gen := 9, cls := 5, dport := 7, flush := 1, maxdg := 1400, filter0 := 0, filter1 := 0, window := 64, leaseMs := 1000, leaseEnd := 5, next := 2, sent := 0, acked := 0, waitHdr := false, portB := false, ip6 := false, unacked := [], resent := [], gapped := 0, ackErr := 0 })] } }, 3, 5, { gen := 1, nextSeq := 7, leaseMs := 1000, leaseEnd := 5, slot := none, roles := 0, key := [], confirmed := true, confirmBy := 0, peer := ⟨9, 4, false⟩ }, by decide⟩

theorem witness_SessionsAndMessages_4 : ∃ (s : State) (src : Endpoint) (datagram : Datagram), s.atControlPort src datagram = true ∧
  s.unserved = false ∧ headerBad datagram.bytes = true :=
  ⟨{ unit [(0x110, 2)] [0, 1, 2, 4, 5] with tp := { TransportState.reset with sessions := [(3, { gen := 1, nextSeq := 7, leaseMs := 1000, leaseEnd := 5, slot := none, roles := 0, key := [], confirmed := true, confirmBy := 0, peer := ⟨9, 4, false⟩ })] } }, ⟨8, 5, true⟩, ⟨47808, [0x49, 0x4B, 1]⟩, by decide⟩

theorem witness_SessionsAndMessages_5 : ∃ (s : State) (src : Endpoint) (datagram : Datagram) (t : Nat), s.atControlPort src datagram = true
  ∧ s.unserved = false ∧ headerBad datagram.bytes = false ∧ msgLe datagram.bytes 3 1 ≠ 0x21 ∧ (s.at t).coresHeld = true ∧
  rxBytes s.tp.rxq + datagram.bytes.length ≤ 4194304 :=
  ⟨{ unit [(0x110, 2)] [0, 1, 2, 4, 5] with tp := { TransportState.reset with sessions := [(3, { gen := 1, nextSeq := 7, leaseMs := 1000, leaseEnd := 5, slot := none, roles := 0, key := [], confirmed := true, confirmBy := 0, peer := ⟨9, 4, false⟩ })] }, rst := { RstState.reset with active := some ⟨3, true, false, false, none⟩ } }, ⟨8, 5, true⟩, ⟨47808, headerBytes 0x12 3 24 1 7 0x21 0 0 0⟩, 5, by decide⟩

theorem witness_SessionsAndMessages_6 : ∃ (s : State) (src : Endpoint) (i : Nat) (gen : Nat) (seq : Nat) (t : Nat) (p : Nat) (x : Session),
  s.atControlPort src ⟨p, (headerBytes 0x12 i 24 gen seq 0x21 0 0 0)⟩ = true ∧ s.unserved = false ∧ (s.at t).coresHeld = false ∧
  s.ctlRoom = true ∧ s.tp.rxq = [] ∧ s.noAcks = false ∧ i < 4096 ∧ gen < 2 ^ 32 ∧ seq < 2 ^ 32 ∧ s.session i = some x ∧ x.gen = gen ∧
  x.nextSeq = seq ∧ x.slot = none :=
  ⟨{ unit [(0x110, 2)] [0, 1, 2, 4, 5] with tp := { TransportState.reset with sessions := [(3, { gen := 1, nextSeq := 7, leaseMs := 1000, leaseEnd := 5, slot := none, roles := 0, key := [], confirmed := true, confirmBy := 0, peer := ⟨9, 4, false⟩ })] } }, ⟨8, 5, true⟩, 3, 1, 7, 5, 47808, { gen := 1, nextSeq := 7, leaseMs := 1000, leaseEnd := 5, slot := none, roles := 0, key := [], confirmed := true, confirmBy := 0, peer := ⟨9, 4, false⟩ }, by decide⟩

theorem witness_CommitsAndDoubt_1 : ∃ (s : State) (a : Armed), s.sys.armed = some a ∧ a.atFrame = false ∧ s.frames = false :=
  ⟨{ unit [(0x110, 2)] [0, 8, 9] with sys := { SysState.reset with armed := some ⟨false, 0, 1⟩ }, shadow := [(0x9120, 6000)] }, ⟨false, 0, 1⟩, by decide⟩

theorem witness_CommitsAndDoubt_2 : ∃ (s : State) (page : Fin 28), s.pageOn page.val = true ∧ s.sys.resetting.contains page.val = true :=
  ⟨{ unit [(0x110, 2)] [0, 8, 9] with sys := { SysState.reset with resetting := [9] } }, 9, by decide⟩

theorem witness_CommitsAndDoubt_3 : ∃ (s : State) (cause : Nat) (t : Nat), (s.dev = .boot ∨ s.dev = .standby ∨ s.dev = .spinup ∨ s.dev =
  .run ∨ s.dev = .degraded) ∧ (s.dev = .boot → (s.at t).sameCycle = false) ∧ safeCause cause = true :=
  ⟨unit [(0x110, 4)] [0, 8, 9], 0x2B, 5, by decide⟩

theorem witness_CommitsAndDoubt_4 : ∃ (s : State) (cause : Nat), s.dev = .safe ∧ safeCause cause = true ∧ entryCause cause = false :=
  ⟨unit [(0x110, 6)] [0, 8, 9], 0x20, by decide⟩

theorem witness_UnalignedIsRefused_1 : ∃ (s : State) (sess : Nat) (seq : Nat) (x : Session) (addr : Nat) (count : Nat), s.Settled ∧
  s.noCommands = false ∧ s.unserved = false ∧ s.session sess = some x ∧
  s.waiting.all (fun a => a.isRow sess 0x01 (leBytes 4 addr ++ leBytes 2 count ++ leBytes 2 0)) = true ∧
  (s.waiting.map (fun a => a.seq)).getD x.nextSeq = seq ∧ seq < 2 ^ 32 ∧ s.tp.withheld = [] ∧ s.uncopied < 2048 ∧ addr < 2 ^ 24 ∧
  1 ≤ count ∧ count ≤ 1024 ∧ addr % 4 ≠ 0 :=
  ⟨settledUnit ({ unit [(0x110, 2)] [0, 1, 2, 4, 5] with tp := { TransportState.reset with sessions := [(3, { gen := 1, nextSeq := 7, leaseMs := 1000, leaseEnd := 5, slot := none, roles := 0, key := [], confirmed := true, confirmBy := 0, peer := ⟨9, 4, false⟩ })] } }), 3, 7, { gen := 1, nextSeq := 7, leaseMs := 1000, leaseEnd := 5, slot := none, roles := 0, key := [], confirmed := true, confirmBy := 0, peer := ⟨9, 4, false⟩ }, 2 ^ 24 - 1, 1024, by decide⟩

theorem witness_UnalignedIsRefused_2 : ∃ (s : State) (sess : Nat) (seq : Nat) (x : Session) (addr : Nat) (words : List Word), s.Settled ∧
  s.noCommands = false ∧ s.unserved = false ∧ s.session sess = some x ∧
  s.waiting.all (fun a => a.isRow sess 0x02 (leBytes 4 addr ++ leBytes 2 words.length ++ leBytes 2 0 ++ (words.map (fun w => leBytes 4
  w.toNat)).flatten)) = true ∧ (s.waiting.map (fun a => a.seq)).getD x.nextSeq = seq ∧ seq < 2 ^ 32 ∧ s.tp.withheld = [] ∧
  s.uncopied < 2048 ∧ addr < 2 ^ 24 ∧ 1 ≤ words.length ∧ words.length ≤ 1024 ∧ addr % 4 ≠ 0 :=
  ⟨settledUnit ({ unit [(0x110, 2)] [0, 1, 2, 4, 5] with tp := { TransportState.reset with sessions := [(3, { gen := 1, nextSeq := 7, leaseMs := 1000, leaseEnd := 5, slot := none, roles := 0, key := [], confirmed := true, confirmBy := 0, peer := ⟨9, 4, false⟩ })] } }), 3, 7, { gen := 1, nextSeq := 7, leaseMs := 1000, leaseEnd := 5, slot := none, roles := 0, key := [], confirmed := true, confirmBy := 0, peer := ⟨9, 4, false⟩ }, 0x111, [7], by decide⟩

theorem witness_DomainOffIsRefused_1 : ∃ (s : State) (sess : Nat) (seq : Nat) (x : Session) (addr : Nat) (count : Nat) (a : Nat) (p : Nat),
  s.Settled ∧ s.noCommands = false ∧ s.unserved = false ∧ s.session sess = some x ∧
  s.waiting.all (fun a => a.isRow sess 0x01 (leBytes 4 addr ++ leBytes 2 count ++ leBytes 2 0)) = true ∧
  (s.waiting.map (fun a => a.seq)).getD x.nextSeq = seq ∧ seq < 2 ^ 32 ∧ s.tp.withheld = [] ∧ s.uncopied < 2048 ∧ addr < 2 ^ 24 ∧
  1 ≤ count ∧ count ≤ 1024 ∧ (∀ b ∈ wordAddrs addr count, b % 4 = 0 ∧ (pageOf b).isSome = true) ∧ a ∈ wordAddrs addr count ∧
  pageOf a = some p ∧ s.pageOn p = false :=
  ⟨settledUnit ({ unit [(0x110, 2)] [0, 1, 2, 4, 5] with tp := { TransportState.reset with sessions := [(3, { gen := 1, nextSeq := 7, leaseMs := 1000, leaseEnd := 5, slot := none, roles := 0, key := [], confirmed := true, confirmBy := 0, peer := ⟨9, 4, false⟩ })] } }), 3, 7, { gen := 1, nextSeq := 7, leaseMs := 1000, leaseEnd := 5, slot := none, roles := 0, key := [], confirmed := true, confirmBy := 0, peer := ⟨9, 4, false⟩ }, 0x8FFC, 2, 0x9000, 9, by decide⟩

theorem witness_DomainOffIsRefused_2 : ∃ (s : State) (sess : Nat) (seq : Nat) (x : Session) (addr : Nat) (p : Nat) (words : List Word),
  s.Settled ∧ s.noCommands = false ∧ s.unserved = false ∧ s.session sess = some x ∧
  s.waiting.all (fun a => a.isRow sess 0x02 (leBytes 4 addr ++ leBytes 2 words.length ++ leBytes 2 0 ++ (words.map (fun w => leBytes 4
  w.toNat)).flatten)) = true ∧ (s.waiting.map (fun a => a.seq)).getD x.nextSeq = seq ∧ seq < 2 ^ 32 ∧ s.tp.withheld = [] ∧
  s.uncopied < 2048 ∧ addr < 2 ^ 24 ∧ 1 ≤ words.length ∧ words.length ≤ 1024 ∧ addr % 4 = 0 ∧ pageOf addr = some p ∧ s.pageOn p = false :=
  ⟨settledUnit ({ unit [(0x110, 2)] [0, 1, 2, 4, 5] with tp := { TransportState.reset with sessions := [(3, { gen := 1, nextSeq := 7, leaseMs := 1000, leaseEnd := 5, slot := none, roles := 0, key := [], confirmed := true, confirmBy := 0, peer := ⟨9, 4, false⟩ })] } }), 3, 7, { gen := 1, nextSeq := 7, leaseMs := 1000, leaseEnd := 5, slot := none, roles := 0, key := [], confirmed := true, confirmBy := 0, peer := ⟨9, 4, false⟩ }, 0x9120, 9, [7], by decide⟩

/-! ## Witnesses of the statements about the machine as a whole -/

theorem witness_StepRunsFront_idle : ∃ s : State, s.pending = [] := ⟨State.reset, rfl⟩

theorem witness_StepKeepsSettled : ∃ s u : State, s.Settled ∧ step s = .next u :=
  ⟨settledUnit { unit [(0x110, 2)] [0] with pending := [.nop 0] }, _, by decide, rfl⟩

theorem witness_NoPulseOutsideRun : ∃ s : State, s.Settled ∧ s.dev ≠ .run ∧ s.dev ≠ .degraded :=
  ⟨settledUnit (unit [(0x110, 6)] [0]), by decide, by decide, by decide⟩

theorem witness_DarkAfterEveryCommand : ∃ (c : Instr) (s u : State), exec c s = .next u ∧ ((u.dev ≠ .run ∧ u.dev ≠ .degraded) ∨ u.rst.active.isSome) :=
  ⟨.nop 0, unit [(0x110, 6)] [0], _, rfl, by decide⟩

theorem witness_InterlockGate : ∃ (c : Instr) (s u : State), exec c s = .next u ∧ u.getF F.STE_STAT.ILK = 1 :=
  ⟨.nop 0, (unit [(0x110, 4)] [0, 9]).setF F.STE_STAT.ILK 1, _, rfl, by decide⟩

theorem witness_FrameOfNarrowCommands : ∃ (c : Instr) (s u : State), (mayChange c).length ≤ 3 ∧ exec c s = .next u :=
  ⟨.brownOut 5, unit [(0x110, 2)] [0], _, by decide, rfl⟩

theorem witness_FrameOfBroadCommands : ∃ (c : Instr) (s u : State), 3 < (mayChange c).length ∧ exec c s = .next u :=
  ⟨.safeEntry 0x2B 5, unit [(0x110, 4)] [0], _, by decide, rfl⟩

theorem witness_StoreReadsBack_canonical : ∃ s : State, s.regsWf = true := ⟨unit [(0x110, 4)] [0], by decide⟩

theorem witness_FieldReadsBack : ∃ f g : Field, f.lsb + f.width ≤ 32 ∧ (g.addr ≠ f.addr ∨ g.lsb + g.width ≤ f.lsb ∨ f.lsb + f.width ≤ g.lsb) :=
  ⟨F.SYS_STATE.STATE, F.SYS_STATE.PREV, by decide, by decide⟩

/-! ## Checks of well-formedness: a term that each refuses -/

theorem test_refuses_steering : Instr.wellFormed (.p0SlackExpiry 256 0 0 1) = false ∧ Instr.wellFormed (.p0SlackExpiry 0 65536 0 1) = false ∧
    Instr.wellFormed (.p0SlackExpiry 0 0 256 1) = false := by decide

theorem test_refuses_codes : Instr.wellFormed (.firePulse 0 0 true 0 128) = false ∧ Instr.wellFormed (.emonStop 0 ⟨true, 0⟩ 128) = false ∧
    Instr.wellFormed (.referenceLoopFire false 0 128 none) = false ∧ Instr.wellFormed (.returnPulse 0 0 128 0 0) = false ∧
    Instr.wellFormed (.returnPulse 0 0 0 0 128) = false := by decide

theorem test_refuses_tables : Instr.wellFormed (.interpolatorRefreshComplete 0 [] 1) = false ∧
    Instr.wellFormed (.samplerRefreshComplete 0 0 [] 1) = false := by decide

theorem test_refuses_i2c : Instr.wellFormed (.i2cTransactionComplete 0 8 0 [] 1) = false ∧
    Instr.wellFormed (.i2cTransactionComplete 0 0 33 [] 1) = false ∧
    Instr.wellFormed (.i2cTransactionComplete 0 0 0 (List.replicate 17 0) 1) = false ∧ Instr.wellFormed (.i2cStretchTimeout 0 33 1) = false ∧
    Instr.wellFormed (.i2cApply 16 1) = false := by decide

theorem test_refuses_frames : Instr.wellFormed (.trainDescriptor (2 ^ 32) 0 0) = false ∧
    Instr.wellFormed (.channelBRayResult 0 0 256 0 0 0 0 1) = false ∧ Instr.wellFormed (.channelBRayResult 0 0 0 65536 0 0 0 1) = false := by decide

theorem test_refuses_time : Instr.wellFormed (.ptpMessage false 256 0 (.pathDelay 0) 1) = false ∧
    Instr.wellFormed (.ptpForward false .event 65536 0 0 0 0 0 1) = false := by decide

theorem test_refuses_links : Instr.wellFormed (.linkStageComplete false false ⟨⟨2 ^ 64, 0, false, false, false, 0⟩, 0, []⟩ 1) = false ∧
    Instr.wellFormed (.standardLock false 16 0 1) = false ∧ Instr.wellFormed (.standardLock false 0 16 1) = false := by decide

theorem test_refuses_access : Instr.wellFormed (.read 4096 0 1) = false ∧ Instr.wellFormed (.read 0 (2 ^ 24) 1) = false ∧
    Instr.wellFormed (.read 0 0 65536) = false ∧ Instr.wellFormed (.write 4096 0 []) = false ∧ Instr.wellFormed (.write 0 (2 ^ 24) []) = false := by
  decide

theorem test_refuses_session_commands : Instr.wellFormed (.subscribe 0 ⟨256, 0, 0, 0, 0, 0, 0, 0⟩) = false ∧
    Instr.wellFormed (.unsubscribe 0 65536) = false ∧ Instr.wellFormed (.query 0 65536 0 0) = false ∧ Instr.wellFormed (.nop 4096) = false ∧
    Instr.wellFormed (.closeSession 4096) = false := by decide

theorem test_refuses_service_commands : Instr.wellFormed (.imageWrite 0 256 true 0 []) = false ∧ Instr.wellFormed (.slotSelect 0 256) = false ∧
    Instr.wellFormed (.fuseProgram 0 256 [] .verified .verified) = false ∧ Instr.wellFormed (.keySlotWrite 0 256 0 []) = false ∧
    Instr.wellFormed (.provisioningRequest 0 (2 ^ 64)) = false := by decide

theorem test_refuses_sessions : Instr.wellFormed (.openSession ⟨0, 0, false⟩ [] 0 0) = false ∧ Instr.wellFormed (.authConfirmTimeout 4096 1) = false ∧
    Instr.wellFormed (.sessionLeaseExpiry 4096 1) = false ∧ Instr.wellFormed (.safeEntry 256 1) = false := by decide

theorem test_refuses_sensors : Instr.wellFormed (.thermalSample [] 1) = false ∧ Instr.wellFormed (.dflOutputSet [] 0 1) = false ∧
    Instr.wellFormed (.dflOutputSet (List.replicate 12 []) 4096 1) = false ∧
    Instr.wellFormed (.chainTriggerAccept false ⟨256, false, 0, 0, 0, 0⟩ 0 0 1) = false := by decide

/-- Every check admits a command. -/
theorem test_admits : Instr.wellFormed (.read 4095 (2 ^ 24 - 4) 1) = true ∧ Instr.wellFormed (.nop 0) = true ∧
    Instr.wellFormed (.thermalSample (List.replicate 12 0) 1) = true := by decide

/-! ## Single steps; expected values from the tables of the spec -/

/-- The fields of one command's next state. -/
def after (c : Instr) (s : State) (p : State → Bool) : Bool :=
  match exec c s with
  | .next u => p u
  | _ => false

/-- R62, R63: a cause of doubt leads from `RUN` to `SAFE`; code 6, and the cause 0x2B as latched. -/
theorem test_safe_entry : after (.safeEntry 0x2B 5) (unit [(0x110, 4)] [0]) (fun u => u.getF F.SYS_STATE.STATE = 6 && u.getF F.SYS_STATE.CAUSE = 0x2B) = true := by
  set_option maxRecDepth 20000 in decide

/-- R376: the default level of a brown-out is L1, source 1. -/
theorem test_brown_out : after (.brownOut 5) (unit [(0x110, 2)] [0]) (fun u => u.getF F.RST_CAUSE.SOURCES = 2 && u.getF F.RST_CAUSE.LEVEL = 1) = true := by
  set_option maxRecDepth 20000 in decide

/-- R357: an input below 4.40 V is `WARN`, code 2 of `PWM_STAT`. -/
theorem test_input_warn : after (.inputSample 4399 0 0 5) ((unit [(0x110, 2)] [0]).setF F.PWM_STAT.MODE 0) (fun u => u.getF F.PWM_STAT.MODE = 2) = true := by
  set_option maxRecDepth 20000 in decide

/-- R43: the epoch skips 0 after its largest value. -/
theorem test_epoch_wraps : nextEpoch 0xFFFFFFFF = 1 ∧ nextEpoch 0 = 1 := by decide

/-- R33, R25: a register word keeps the canonical form: writing the reset value removes the entry. -/
theorem test_canonical : ((State.reset.poke 0x120 5).poke 0x120 0).regs = State.reset.regs := by decide

/-- No row of the table gives bits. -/
theorem test_no_table_word : decodeTableWord 32 0 = none := by decide
end

section
/-! PROOFS. Settling: what a step leaves is settled (O5), and outside `RUN` and `DEGRADED` it is dark (O6, O7). -/

namespace Sys2Proof.Machine

/-- Settling leaves a settled state: its pins are its own and no pulse is left. -/
theorem settle_settled (s : State) : s.settle.Settled := ⟨settle_pins s, settle_pulses s⟩

/-- Where no pulse waits to be tested, settling only forms the pins. -/
theorem settle_of_no_pulses {s : State} (h : s.rcd.pulses = []) : s.settle = { s with pins := s.pinsOf } := by
  have hr : State.runPulses 8 s = s := by simp [State.runPulses, h]
  simp [State.settle, hr]

/-- A command answers a settled state. -/
theorem exec_settled {c : Instr} {s u : State} (h : exec c s = .next u) : u.Settled := by
  obtain ⟨v, hv⟩ := exec_answers c s
  obtain rfl : v.settle = u := by simpa [hv] using h
  exact settle_settled v

/-- An idle step keeps a settled state settled. -/
theorem idle_settled {s : State} (h : s.Settled) : s.idle.Settled := by
  unfold State.idle
  split
  · exact h
  · exact settle_settled _

/-- The pins of a settled state are dark unless it is in `RUN` or `DEGRADED` and in no reset (R13, R16, R245). -/
theorem dark_of_settled {s : State} (h : s.Settled) (hd : (s.dev ≠ .run ∧ s.dev ≠ .degraded) ∨ s.rst.active.isSome) : s.dark = true := by
  obtain ⟨hp, -⟩ := h
  have hmay : (s.emitting && s.rst.active.isNone) = false := by
    rcases hd with ⟨hr, hg⟩ | ha
    · simp [State.emitting, hr, hg]
    · simp [Option.isNone_eq_false_iff.2 ha]
  simp [State.dark, hp, State.pinsOf, hmay]

/-- `LOCKOUT`, `SAFE` and every other state without emission: what settles there is dark. -/
theorem settle_dark {s : State} (hr : s.dev ≠ .run) (hg : s.dev ≠ .degraded) : s.settle.dark = true :=
  dark_of_settled (settle_settled s) (.inl (by simpa using ⟨hr, hg⟩))

/-- While the pins drive no `FIRE`, a fire instant passes without a pulse: nothing but the time changes. -/
theorem doFirePulse_of_no_fire {s : State} (h : s.pins.fire = false) (line : Fin 128) (k : Nat) (egate : Bool) (cycle code : Nat) :
    ∃ t, doFirePulse line k egate cycle code s = s.at t := by
  unfold doFirePulse
  dsimp only
  split
  · exact ⟨0, by simp [State.at]⟩
  · exact ⟨_, if_pos (by simp [h])⟩

/-- Settles O5: every command ends in `State.settle`, and an idle step is nothing or ends there too. -/
theorem stepKeepsSettled : Obligations.StepKeepsSettled := by
  intro s u hs h
  unfold step at h
  split at h
  · cases h
    exact idle_settled hs
  · exact exec_settled h

/-- Settles O7: what a command answers has settled, and the pins of a settled state are dark. -/
theorem darkAfterEveryCommand : Obligations.DarkAfterEveryCommand :=
  fun _ _ _ h hd => dark_of_settled (exec_settled h) hd

/-- Settles O6: the pins are those of the state, and a fire instant finds `FIRE` held. -/
theorem noPulseOutsideRun : Obligations.NoPulseOutsideRun := by
  intro s hs hr hg
  have hdark := dark_of_settled hs (.inl ⟨hr, hg⟩)
  simp only [State.dark, Bool.and_eq_true, Bool.not_eq_true'] at hdark
  obtain ⟨⟨⟨hen, hfire⟩, -⟩, -⟩ := hdark
  refine ⟨hen, hfire, fun line k egate cycle code => ?_⟩
  obtain ⟨t, ht⟩ := doFirePulse_of_no_fire hfire line k egate cycle code
  refine ⟨(s.at t).settle, by simp [exec, execFirePulse, answer, ht], ?_, by simp⟩
  rw [settle_of_no_pulses (by simpa using hs.2)]
  simp

end Sys2Proof.Machine
end

section
/-! PROOFS. Reads of fields after writes of bits, and what a report leaves beside what `State.Reports` says. -/

namespace Sys2Proof.Machine

/-! ## Bits of a field -/

/-- The value that `State.setBit` gives a field. -/
def withBit (i : Nat) (b : Bool) (v : Nat) : Nat :=
  if b then (if v.testBit i then v else v + 2 ^ i) else (if v.testBit i then v - 2 ^ i else v)

theorem setBit_eq_setF (s : State) (f : Field) (i : Nat) (b : Bool) : s.setBit f i b = s.setF f (withBit i b (s.getF f)) := rfl

theorem testBit_withBit_self (i : Nat) (b : Bool) (v : Nat) : (withBit i b v).testBit i = b := by
  unfold withBit
  cases b <;> cases hv : v.testBit i
  · simp [hv]
  · have hle : 2 ^ i ≤ v := Nat.ge_two_pow_of_testBit hv
    have hflip := Nat.testBit_two_pow_add_eq (v - 2 ^ i) i
    rw [Nat.add_sub_cancel' hle, hv] at hflip
    simpa using hflip.symm
  · have hflip := Nat.testBit_two_pow_add_eq v i
    rw [Nat.add_comm, hv] at hflip
    simpa using hflip
  · simp [hv]

/-- A bit that `setBit` has set or cleared reads so. -/
theorem testBit_getF_setBit (s : State) (f : Field) (i : Nat) (b : Bool) (hf : f.lsb + f.width ≤ 32) (hi : i < f.width) :
    ((s.setBit f i b).getF f).testBit i = b := by
  rw [setBit_eq_setF, getF_setF_self _ _ _ hf, Nat.testBit_mod_two_pow]
  simp [hi, testBit_withBit_self]

/-- A field beside the one whose bit is written keeps its value. -/
theorem getF_setBit_beside (s : State) (f g : Field) (i : Nat) (b : Bool) (hf : f.lsb + f.width ≤ 32)
    (h : g.addr ≠ f.addr ∨ g.lsb + g.width ≤ f.lsb ∨ f.lsb + f.width ≤ g.lsb) : (s.setBit f i b).getF g = s.getF g :=
  getF_setF_beside s f g _ hf h

/-- A value that fits reads back as it was put. -/
theorem getF_setF_of_lt (s : State) (f : Field) {v : Nat} (hf : f.lsb + f.width ≤ 32) (hv : v < 2 ^ f.width) : (s.setF f v).getF f = v := by
  rw [getF_setF_self _ _ _ hf, Nat.mod_eq_of_lt hv]

/-- A saturating write reads back as what it saturates to. -/
theorem getF_setF_min (s : State) (f : Field) (v : Nat) (hf : f.lsb + f.width ≤ 32) :
    (s.setF f (min v (2 ^ f.width - 1))).getF f = min v (2 ^ f.width - 1) :=
  getF_setF_of_lt s f hf (by have := Nat.two_pow_pos f.width; omega)

/-- The event bit of a page that can be reached stands once it has been raised (R48). -/
theorem raiseEvt_bit (s : State) (p bit : Nat) (hp : s.pageOn p = true) (hb : bit < 32) : ((s.raiseEvt p bit).getF (H.ISR p)).testBit bit = true := by
  unfold State.raiseEvt
  rw [if_neg (by simp [hp])]
  split
  · next h => simpa [sys_getF] using h
  · have hset := testBit_getF_setBit s (H.ISR p) bit true (Nat.le_refl 32) hb
    dsimp only
    split
    · rw [sys_getF, State.emitEvent_getF, hset]
    · exact hset

/-! ## The cycle of the last transition (R15)

Reports may name a transition of their own, so `State.Reports` says nothing of it; these reports make none. -/

theorem recPush_moved (s : State) (src : Nat) (bytes : List Byte) : (s.recPush src bytes).sys.moved = s.sys.moved := by
  unfold State.recPush
  split <;> rfl

theorem commitRecord_moved (s : State) (cls kind : Nat) (bytes : List Byte) : (s.commitRecord cls kind bytes).sys.moved = s.sys.moved := by
  unfold State.commitRecord State.commitSel
  dsimp only
  split
  · exact recPush_moved _ _ _
  · rfl

theorem recPulse_moved (s : State) (input : Nat) (instant : Int) : (s.recPulse input instant).sys.moved = s.sys.moved := by
  unfold State.recPulse
  split <;> rfl

theorem recMatch_moved (s : State) (kind page code : Nat) : (s.recMatch kind page code).sys.moved = s.sys.moved := by
  have step : ∀ (b : Bool) (s : State) (input : Nat) (instant : Int),
      (if b then s.recPulse input instant else s).sys.moved = s.sys.moved := by
    intro b s input instant
    split
    · exact recPulse_moved _ _ _
    · rfl
  exact (step _ _ _ _).trans (step _ s _ _)

theorem emitEvent_moved (s : State) (kind page code a b count : Nat) : (s.emitEvent kind page code a b count).sys.moved = s.sys.moved :=
  (commitRecord_moved _ _ _ _).trans (recMatch_moved _ _ _ _)

theorem raiseEvt_moved (s : State) (p bit : Nat) : (s.raiseEvt p bit).sys.moved = s.sys.moved := by
  unfold State.raiseEvt
  dsimp only
  split
  · rfl
  · split
    · rfl
    · split
      · exact emitEvent_moved _ _ _ _ _ _ _
      · rfl

/-- `sameCycle` looks at the clock and at the cycle of the last transition. -/
theorem sameCycle_congr {s t : State} (hn : t.now = s.now) (hm : t.sys.moved = s.sys.moved) : t.sameCycle = s.sameCycle := by
  simp [State.sameCycle, hn, hm]

@[simp] theorem raiseEvt_now (s : State) (p bit : Nat) : (s.raiseEvt p bit).now = s.now := (raiseEvt_reports s p bit).now

@[simp] theorem raiseEvt_sameCycle (s : State) (p bit : Nat) : (s.raiseEvt p bit).sameCycle = s.sameCycle :=
  sameCycle_congr (raiseEvt_now _ _ _) (raiseEvt_moved _ _ _)

@[simp] theorem setBit_sameCycle (s : State) (f : Field) (i : Nat) (b : Bool) : (s.setBit f i b).sameCycle = s.sameCycle := rfl

@[simp] theorem setF_sameCycle (s : State) (f : Field) (v : Nat) : (s.setF f v).sameCycle = s.sameCycle := rfl

end Sys2Proof.Machine
end

section
/-! PROOFS. Clock monitors (O37): what a window and a failure condition leave. -/

namespace Sys2Proof.Machine

/-! ## Addresses of instances -/

theorem inst_addr_ne (f g : Field) (i : Nat) (hg : g.addr < 0x1000000) : (f.inst i).addr ≠ g.addr := by
  simp only [Field.inst]
  omega

theorem getF_setF_inst (s : State) (f g : Field) (i v : Nat) (hg : g.addr < 0x1000000) : (s.setF (f.inst i) v).getF g = s.getF g :=
  getF_setF_other _ _ _ _ (inst_addr_ne f g i hg).symm

theorem getF_inst_setF (s : State) (f g : Field) (i v : Nat) (hg : g.addr < 0x1000000) : (s.setF g v).getF (f.inst i) = s.getF (f.inst i) :=
  getF_setF_other _ _ _ _ (inst_addr_ne f g i hg)

/-! ## The clock -/

/-- Time moves only the TAI counter and the correction still due of the time base. -/
theorem at_time (s : State) (t : Nat) : ∃ a b, (s.at t).time = { s.time with tai := a, slew := b } := by
  have run : ∀ dt, ∃ a b, (s.runTai dt).time = { s.time with tai := a, slew := b } := by
    intro dt
    unfold State.runTai
    split <;> exact ⟨_, _, rfl⟩
  have drain : ∀ (s : State) (p dt : Nat), (s.drainPort p dt).time = s.time := by
    intro s p dt
    obtain ⟨x, h⟩ := drainPort_eq s p dt
    rw [h]
  unfold State.at
  split
  · obtain ⟨a, b, h⟩ := run (t - s.now)
    exact ⟨a, b, (drain _ 1 _).trans ((drain _ 0 _).trans h)⟩
  · exact ⟨_, _, rfl⟩

@[simp] theorem at_monGood (s : State) (t : Nat) : (s.at t).time.monGood = s.time.monGood := by
  obtain ⟨a, b, h⟩ := at_time s t; rw [h]
@[simp] theorem at_stableFrom (s : State) (t : Nat) : (s.at t).time.stableFrom = s.time.stableFrom := by
  obtain ⟨a, b, h⟩ := at_time s t; rw [h]

/-! ## Domains that are `ON` -/

/-- A domain that reads `ON` is `ON` whatever the instant: only a start whose turn is to come hides behind the clock. -/
theorem domState_eq_two (s : State) (d : Nat) : s.domState d = 2 ↔ s.getF (F.PWM_DOM_STAT.STATE.inst d) = 2 := by
  unfold State.domState
  split
  · next h =>
    have h1 : s.getF (F.PWM_DOM_STAT.STATE.inst d) = 1 := by
      simp only [State.awaitsTurn, Bool.and_eq_true, decide_eq_true_eq] at h
      exact h.1
    simp [h1]
  · rfl

theorem monitored_at (s : State) (t n : Nat) : (s.at t).monitored n = s.monitored n := by
  unfold State.monitored
  simp only [domState_eq_two, State.at_getF, State.at_dev]

/-! ## A window -/

theorem monitorBand_le (n : Nat) : (monitorBand n).1 ≤ (monitorBand n).2 := by
  unfold monitorBand
  split <;> decide

/-- What a window shows before it is judged: the deviation and, for a PLL, its lock. -/
def State.showWindow (s : State) (n : Nat) (ppm : Int) (lock : Bool) : State :=
  if 1 ≤ n ∧ n ≤ 6 then (s.setI (F.CLK_MON_DEV.PPM.inst n) ppm).setBit F.CLK_PLL.LOCK (n - 1) lock else s.setI (F.CLK_MON_DEV.PPM.inst n) ppm

/-- A window of a monitored clock, locked and with edges, is judged by its deviation alone (R274). -/
theorem doClockMonitorWindow_locked {s : State} {mon : Fin 9} {ppm : Int} {t : Nat} (hm : s.monitored mon = true)
    (hb : ppm.natAbs ≤ (monitorBand mon).2) :
    doClockMonitorWindow mon ppm true true t s =
      (let w := (s.at t).showWindow mon ppm true
       if (monitorBand mon).1 < ppm.natAbs then
         if (tabFind mon.val s.time.monGood).getD 0 = 0 then w.monitorOut mon 3
         else
           let x := ((w.monitorOut mon 3).setBit F.CLK_MON_STAT.FAULT mon true).raiseEvt 4 0
           (x.mapTime (fun y => { y with warned := mon.val :: y.warned.filter (· ≠ mon.val) })).enterSafe 0x22 []
       else w.monitorGood mon) := by
  have hm' : (s.at t).monitored mon.val = true := (monitored_at s t mon).trans hm
  have hf : ¬ (monitorBand mon).2 < ppm.natAbs := Nat.not_lt.2 hb
  unfold doClockMonitorWindow State.showWindow
  by_cases hpll : 1 ≤ mon.val ∧ mon.val ≤ 6 <;> simp [hm', hpll, monitorFails, hf]

/-- A window out of band leaves the device state and the cycle of its last transition to the entry that follows it. -/
theorem showWindow_dev (s : State) (n : Nat) (ppm : Int) (lock : Bool) :
    (s.showWindow n ppm lock).dev = s.dev ∧ (s.showWindow n ppm lock).sameCycle = s.sameCycle := by
  have h : (s.setI (F.CLK_MON_DEV.PPM.inst n) ppm).dev = s.dev := congrArg DevState.ofCode (getF_setF_inst _ _ _ _ _ (by decide))
  unfold State.showWindow
  split
  · exact ⟨(congrArg DevState.ofCode (getF_setBit_beside _ _ _ _ _ (by decide) (by decide))).trans h, rfl⟩
  · exact ⟨h, rfl⟩

theorem monitorOut_getF (s : State) (n st : Nat) {f : Field} (hf : f.addr < 0x1000000) (h : f.addr ≠ 0x410C) :
    (s.monitorOut n st).getF f = s.getF f := by
  have h2 := getF_setF_inst (s.mapTime (fun x => { x with monGood := tabSet n 0 x.monGood, stableFrom := tabDel n x.stableFrom }))
    F.CLK_MON_DEV.STATE f n st hf
  exact (getF_setBit_beside _ _ _ _ _ (by decide) (.inl h)).trans h2

theorem monitorOut_dev (s : State) (n st : Nat) : (s.monitorOut n st).dev = s.dev :=
  congrArg DevState.ofCode (monitorOut_getF s n st (by decide) (by decide))

theorem monitorOut_sameCycle (s : State) (n st : Nat) : (s.monitorOut n st).sameCycle = s.sameCycle := rfl

theorem mapTime_sameCycle (s : State) (g : TimeState → TimeState) : (s.mapTime g).sameCycle = s.sameCycle := rfl

/-- The warning is entered with the device state, and the cycle, that the window found. -/
theorem warned_dev (s : State) (n : Nat) (ppm : Int) (warn : TimeState → TimeState) :
    let x := ((((s.showWindow n ppm true).monitorOut n 3).setBit F.CLK_MON_STAT.FAULT n true).raiseEvt 4 0).mapTime warn
    x.dev = s.dev ∧ x.sameCycle = s.sameCycle := by
  obtain ⟨hdev, hcyc⟩ := showWindow_dev s n ppm true
  constructor
  · have hevt := congrArg DevState.ofCode (State.raiseEvt_getF (((s.showWindow n ppm true).monitorOut n 3).setBit F.CLK_MON_STAT.FAULT n true)
      4 0 F.SYS_STATE.STATE (by decide))
    have hbit := congrArg DevState.ofCode (getF_setBit_beside ((s.showWindow n ppm true).monitorOut n 3) F.CLK_MON_STAT.FAULT F.SYS_STATE.STATE
      n true (by decide) (by decide))
    exact hevt.trans (hbit.trans ((monitorOut_dev _ _ _).trans hdev))
  · exact (mapTime_sameCycle _ _).trans ((raiseEvt_sameCycle _ _ _).trans ((setBit_sameCycle _ _ _ _).trans ((monitorOut_sameCycle _ _ _).trans hcyc)))

/-- The fourth window in band makes the monitor stable. -/
theorem monitorGood_stable (s : State) {n : Nat} (hn : n < 9) (hg : tabFind n s.time.monGood = some 3) :
    ((s.monitorGood n).getF F.CLK_MON_STAT.STABLE).testBit n = true ∧ (s.monitorGood n).getF (F.CLK_MON_DEV.STATE.inst n) = 1 ∧
      (s.monitorGood n).dev = s.dev := by
  have key : ∀ u : State, u.regs = (((s.setF (F.CLK_MON_DEV.STATE.inst n) 1).setStable n true)).regs →
      (u.getF F.CLK_MON_STAT.STABLE).testBit n = true ∧ u.getF (F.CLK_MON_DEV.STATE.inst n) = 1 ∧ u.dev = s.dev := by
    intro u hu
    have hf : ∀ f, u.getF f = ((s.setF (F.CLK_MON_DEV.STATE.inst n) 1).setBit F.CLK_MON_STAT.STABLE n true).getF f := by
      intro f
      exact getF_congr (by simp only [State.peek, hu, State.setStable])
    refine ⟨?_, ?_, ?_⟩
    · rw [hf]
      exact testBit_getF_setBit _ _ _ _ (by decide) hn
    · rw [hf, setBit_eq_setF, getF_inst_setF _ _ _ _ _ (by decide)]
      exact getF_setF_of_lt _ _ (Nat.le_of_ble_eq_true rfl) (by decide : 1 < 2 ^ 3)
    · unfold State.dev
      rw [hf, getF_setBit_beside _ _ _ _ _ (by decide) (by decide), getF_setF_inst _ _ _ _ _ (by decide)]
  unfold State.monitorGood
  simp only [hg, Option.getD_some, Nat.min_self, Nat.reduceAdd, Nat.lt_irrefl, if_false]
  split
  · exact key _ rfl
  · exact key _ rfl

/-! ## A failure condition -/

theorem bump_getF_other (s : State) (f g : Field) (n : Nat) (h : g.addr ≠ f.addr) : (s.bump f n).getF g = s.getF g :=
  getF_setF_other _ _ _ _ h

theorem rst_getF (s : State) (x : RstState) (f : Field) : ({ s with rst := x } : State).getF f = s.getF f := rfl

/-- A reset source that is raised writes its counter and `RST_CAUSE`, where it leaves MON and ORIGIN. -/
theorem raiseReset_getF (s : State) (src level : Nat) {f : Field} (hf : f.addr < 0x1000000) (h : f.addr ≠ 0x1100 ∨ 10 ≤ f.lsb) :
    (s.raiseReset src level).getF f = s.getF f := by
  have hcnt : (s.bump (F.RST_SRC_CNT.COUNT.inst src) 1).getF f = s.getF f := getF_setF_inst _ _ _ _ _ hf
  have hsrc : ∀ (u : State) (v : Nat), (u.setF F.RST_CAUSE.SOURCES v).getF f = u.getF f := fun u v =>
    getF_setF_beside _ _ _ _ (by decide) (h.imp id (fun h => .inr (Nat.le_trans (by decide) h)))
  have hlev : ∀ (u : State) (v : Nat), (u.setF F.RST_CAUSE.LEVEL v).getF f = u.getF f := fun u v =>
    getF_setF_beside _ _ _ _ (by decide) (h.imp id (fun h => .inr (Nat.le_trans (by decide) h)))
  have hbit : ∀ (u : State) (i : Nat), (u.setBit F.RST_CAUSE.SOURCES i true).getF f = u.getF f := fun u i => hsrc u _
  unfold State.raiseReset
  split
  · rfl
  · extract_lets
    split
    · split
      · exact (hbit _ _).trans ((rst_getF _ _ f).trans hcnt)
      · exact (rst_getF _ _ f).trans ((hlev _ _).trans ((hsrc _ _).trans hcnt))
    · extract_lets
      split
      · exact (hlev _ _).trans ((rst_getF _ _ f).trans ((hbit _ _).trans hcnt))
      · exact (rst_getF _ _ f).trans ((hbit _ _).trans hcnt)

/-- A clock failure writes MON of `RST_CAUSE` and what the reset writes that it raises, if any. -/
theorem clockFailure_regs (s : State) (n : Nat) :
    (s.clockFailure n).regs = (s.setF F.RST_CAUSE.MON n).regs ∨
      ∃ (u : State) (l : Nat), u.regs = ((s.setF F.RST_CAUSE.MON n).bump F.RST_GATE.CLKFAIL 1).regs ∧ s.clockFailure n = u.raiseReset 6 l := by
  unfold State.clockFailure
  extract_lets
  split
  · exact .inl rfl
  · refine .inr ⟨_, _, ?_, rfl⟩
    rfl

theorem getF_of_regs {s t : State} (h : t.regs = s.regs) (f : Field) : t.getF f = s.getF f :=
  getF_congr (by simp only [State.peek, h])

/-- A clock failure names its monitor in `RST_CAUSE`. -/
theorem clockFailure_mon (s : State) {n : Nat} (hn : n < 16) : (s.clockFailure n).getF F.RST_CAUSE.MON = n := by
  have h : (s.setF F.RST_CAUSE.MON n).getF F.RST_CAUSE.MON = n := getF_setF_of_lt _ _ (by decide) hn
  obtain hr | ⟨u, l, hu, he⟩ := clockFailure_regs s n
  · rw [getF_of_regs hr, h]
  · rw [he, raiseReset_getF _ _ _ (by decide) (by decide), getF_of_regs hu, bump_getF_other _ _ _ _ (by decide), h]

/-- A clock failure leaves the registers outside RST. -/
theorem clockFailure_getF (s : State) (n : Nat) {f : Field} (hf : f.addr < 0x1000000) (h : f.addr / 0x1000 ≠ 1) :
    (s.clockFailure n).getF f = s.getF f := by
  have h1 : f.addr ≠ 0x1100 := fun e => h (by rw [e])
  have h2 : f.addr ≠ 0x1130 := fun e => h (by rw [e])
  have hmon : (s.setF F.RST_CAUSE.MON n).getF f = s.getF f := getF_setF_other _ _ _ _ h1
  obtain hr | ⟨u, l, hu, he⟩ := clockFailure_regs s n
  · rw [getF_of_regs hr, hmon]
  · rw [he, raiseReset_getF _ _ _ hf (.inl h1), getF_of_regs hu, bump_getF_other _ _ _ _ h2, hmon]

/-- A failure condition sets the monitor's FAULT bit, clears STABLE and names it (R275, R377). -/
theorem monitorFailed_shows (s : State) {n : Nat} (hn : n < 9) :
    ((s.monitorFailed n).getF F.CLK_MON_STAT.FAULT).testBit n = true ∧ ((s.monitorFailed n).getF F.CLK_MON_STAT.STABLE).testBit n = false ∧
      (s.monitorFailed n).getF F.RST_CAUSE.MON = n := by
  refine ⟨?_, ?_, clockFailure_mon _ (by omega)⟩
  · unfold State.monitorFailed
    rw [clockFailure_getF _ _ (by decide) (by decide), State.raiseEvt_getF _ _ _ _ (by decide)]
    exact testBit_getF_setBit _ _ _ _ (by decide) hn
  · unfold State.monitorFailed
    rw [clockFailure_getF _ _ (by decide) (by decide), State.raiseEvt_getF _ _ _ _ (by decide),
      getF_setBit_beside _ _ _ _ _ (by decide) (by decide)]
    exact testBit_getF_setBit _ _ _ _ (by decide) hn

/-! ## Entry to `SAFE` as a command's end -/

/-- A command that ends with the entry to `SAFE` from a state short of it leaves `SAFE`, its cause, and every output off. -/
theorem enterSafe_settled (s : State) {c : Nat} (o : List Nat) (hc : c < 256)
    (h : s.dev = .boot ∨ s.dev = .standby ∨ s.dev = .spinup ∨ s.dev = .run ∨ s.dev = .degraded)
    (n : s.dev = .boot → s.sameCycle = false) :
    (s.enterSafe c o).settle.dev = .safe ∧ (s.enterSafe c o).settle.getF F.SYS_STATE.CAUSE = c ∧ (s.enterSafe c o).settle.dark = true := by
  obtain ⟨hdev, hcause⟩ := enterSafe_enters s c o h n
  refine ⟨by simpa using hdev, ?_, settle_dark (by simp [hdev]) (by simp [hdev])⟩
  rw [State.settle_getF _ _ (by decide), hcause]
  exact Nat.mod_eq_of_lt hc

/-- Settles O37: the fourth good window, the warning that leads to `SAFE`, and the failure condition. -/
theorem clockMonitors : Obligations.ClockMonitors := by
  refine ⟨?_, ?_, ?_⟩
  · intro s mon ppm t hm hg hb
    refine ⟨_, rfl, ?_⟩
    rw [doClockMonitorWindow_locked hm (hb.trans (monitorBand_le mon))]
    dsimp only
    rw [if_neg (Nat.not_lt.2 hb)]
    have hg' : tabFind mon.val ((s.at t).showWindow mon ppm true).time.monGood = some 3 := by
      unfold State.showWindow
      split <;> exact (congrArg _ (at_monGood s t)).trans hg
    obtain ⟨hst, hdev', hd⟩ := monitorGood_stable ((s.at t).showWindow mon ppm true) mon.isLt hg'
    refine ⟨?_, ?_, ?_⟩
    · rw [State.bitF_eq, State.settle_getF _ _ (by decide)]
      exact hst
    · rw [State.settle_getF _ _ (by simp only [Field.inst]; omega)]
      exact hdev'
    · rw [State.settle_dev, hd, (showWindow_dev _ _ _ _).1, State.at_dev]
  · intro s mon ppm t n hm hg hn hw hb hshort hcyc
    refine ⟨_, rfl, ?_⟩
    rw [doClockMonitorWindow_locked hm hb]
    dsimp only
    rw [if_pos hw, if_neg (by simpa [hg] using hn)]
    obtain ⟨hd, hc⟩ := warned_dev (s.at t) mon ppm (fun y => { y with warned := mon.val :: y.warned.filter (· ≠ mon.val) })
    rw [State.at_dev] at hd
    exact enterSafe_settled _ _ (by decide) (by rwa [hd]) (fun hboot => hc.trans (hcyc (hd ▸ hboot)))
  · intro s mon t hm
    have hdo : doClockFailureReset mon t s = (s.at t).monitorFailed mon := if_pos ((monitored_at s t mon).trans hm)
    obtain ⟨hf, hst, hmon⟩ := monitorFailed_shows (s.at t) mon.isLt
    refine ⟨_, rfl, ?_⟩
    rw [hdo]
    refine ⟨?_, ?_, ?_⟩
    · rw [State.bitF_eq, State.settle_getF _ _ (by decide)]
      exact hf
    · rw [State.bitF_eq, State.settle_getF _ _ (by decide)]
      exact hst
    · rw [State.settle_getF _ _ (by decide)]
      exact hmon

end Sys2Proof.Machine
end

section
/-! PROOFS. The spine of the state: what the datapath's own work never touches. An operation of a block leaves the spine alone, and one equation
says so; what the end of frames (R16, R136) and the entry to `SAFE` (R62) leave follows from it. -/

namespace Sys2Proof.Machine

/-! ## The spine -/

/-- The registers of SYS, RST and PWM beyond the pages' headers, and the state of domain FIR as PWM shows it. -/
abbrev mainWord (a : Nat) : Prop := a < 0x3000 ∧ 0x100 ≤ a % 0x1000 ∨ a = (F.PWM_DOM_STAT.STATE.inst 8).addr

/-- What the spine holds: the clock, the staged values, resets and power, the commit in force, the stay in `SAFE`, sessions, the ledger and its
withheld answers, and the words `mainWord` names. -/
structure Spine where
  pending : List Instr
  now : Nat
  shadow : List (Nat × Word)
  rst : RstState
  pwr : PowerState
  owner : Option Nat
  armed : Option Armed
  stay : List Nat
  sessions : List (Nat × Session)
  accepted : List Accepted
  banks : List LedgerEntry
  nor : List LedgerEntry
  marker : Bool
  withheld : List (LedgerEntry × Out)
  ackHeld : Bool
  rxq : List (Endpoint × List Byte)
  word : Nat → Option Word

def State.spine (s : State) : Spine where
  pending := s.pending
  now := s.now
  shadow := s.shadow
  rst := s.rst
  pwr := s.pwr
  owner := s.sys.owner
  armed := s.sys.armed
  stay := s.sys.stay
  sessions := s.tp.sessions
  accepted := s.tp.accepted
  banks := s.tp.banks
  nor := s.tp.nor
  marker := s.tp.marker
  withheld := s.tp.withheld
  ackHeld := s.tp.ackHeld
  rxq := s.tp.rxq
  word := fun a => if mainWord a then some (s.peek a) else none

/-- A register of the spine reads the same in states of one spine. -/
theorem getF_of_spine {s t : State} (h : t.spine = s.spine) {f : Field} (hf : mainWord f.addr) : t.getF f = s.getF f := by
  have hw := congrFun (congrArg Spine.word h) f.addr
  simp only [State.spine, if_pos hf, Option.some.injEq] at hw
  exact getF_congr hw

theorem dev_of_spine {s t : State} (h : t.spine = s.spine) : t.dev = s.dev := congrArg DevState.ofCode (getF_of_spine h (by decide))

/-- States that differ in registers outside `mainWord` have one spine. -/
theorem spine_of_peek {s t : State} (h : ({ t with regs := s.regs } : State).spine = s.spine) (hp : ∀ a, mainWord a → t.peek a = s.peek a) :
    t.spine = s.spine := by
  have hw : t.spine.word = s.spine.word := by
    funext a
    simp only [State.spine]
    split
    · next ha => rw [hp a ha]
    · rfl
  have hrest : t.spine = { ({ t with regs := s.regs } : State).spine with word := t.spine.word } := rfl
  rw [hrest, h, hw]

/-- A report leaves the spine. -/
theorem State.Reports.spine {P : Nat → Prop} {s t : State} (h : s.Reports P t) (hP : ∀ a, mainWord a → P a) : t.spine = s.spine := by
  refine spine_of_peek ?_ (fun a ha => h.kept a (hP a ha))
  rw [h.same]
  rfl

@[simp] theorem setF_spine (s : State) (f : Field) (v : Nat) (h : ¬ mainWord f.addr) : (s.setF f v).spine = s.spine :=
  (setF_reports s f v).spine (fun _ ha he => h (he ▸ ha))

/-- Registers that stand several times, on pages beyond PWM. -/
@[simp] theorem setF_idx_spine (s : State) (f : Field) (k v : Nat) (h : 0x3000 ≤ f.addr ∧ f.addr < 0x1000000) (hk : k < 0x1000) :
    (s.setF (f.idx k) v).spine = s.spine :=
  setF_spine s _ v (by simp only [mainWord, Field.idx, Field.inst]; omega)

/-- Instances of selected registers, `PWM_DOM_STAT` apart. -/
@[simp] theorem setF_inst_spine (s : State) (f : Field) (i v : Nat) (h : f.addr < 0x1000000 ∧ f.addr ≠ F.PWM_DOM_STAT.STATE.addr) :
    (s.setF (f.inst i) v).spine = s.spine :=
  setF_spine s _ v (by simp only [mainWord, Field.inst] at *; omega)

@[simp] theorem setBit_spine (s : State) (f : Field) (i : Nat) (b : Bool) (h : ¬ mainWord f.addr) : (s.setBit f i b).spine = s.spine :=
  setF_spine s f _ h

@[simp] theorem setI_spine (s : State) (f : Field) (v : Int) (h : ¬ mainWord f.addr) : (s.setI f v).spine = s.spine := setF_spine s f _ h

/-- The header of a page holds no word of the spine. -/
theorem header_not_main (p o : Nat) (ho : o < 0x100) : ¬ mainWord (p * 0x1000 + o) := by
  simp only [mainWord, Field.inst]
  omega

@[simp] theorem commitRecord_spine (s : State) (cls kind : Nat) (bytes : List Byte) : (s.commitRecord cls kind bytes).spine = s.spine :=
  (commitRecord_reports s cls kind bytes).spine (fun _ _ => trivial)
@[simp] theorem recPulse_spine (s : State) (input : Nat) (instant : Int) : (s.recPulse input instant).spine = s.spine :=
  (recPulse_reports s input instant).spine (fun _ _ => trivial)
@[simp] theorem emitEvent_spine (s : State) (kind page code a b count : Nat) : (s.emitEvent kind page code a b count).spine = s.spine :=
  (emitEvent_reports s kind page code a b count).spine (fun _ _ => trivial)
@[simp] theorem raiseEvt_spine (s : State) (p bit : Nat) : (s.raiseEvt p bit).spine = s.spine :=
  (raiseEvt_reports s p bit).spine (fun _ ha he => header_not_main p 0x10 (by decide) (he ▸ ha))
@[simp] theorem recErr_spine (s : State) (p code addr : Nat) : (s.recErr p code addr).spine = s.spine :=
  (recErr_reports s p code addr).spine (fun _ ha =>
    ⟨fun he => header_not_main p 0x10 (by decide) (he ▸ ha), fun he => header_not_main p 0x1C (by decide) (he ▸ ha),
      fun he => header_not_main p 0x20 (by decide) (he ▸ ha)⟩)
@[simp] theorem noteCauses_spine (s : State) (cs : List Nat) : (s.noteCauses cs).spine = s.spine :=
  (noteCauses_reports s cs).spine (fun _ _ => trivial)
@[simp] theorem safetyEvt_spine (s : State) (bit : Nat) : (s.safetyEvt bit).spine = s.spine := by simp [State.safetyEvt]
@[simp] theorem emit_spine (s : State) (o : Out) : (s.emit o).spine = s.spine := by cases s; rfl

/-- A loop whose every turn leaves the spine leaves it. -/
theorem foldl_spine {β : Type} (l : List β) (g : State → β → State) (hg : ∀ (s : State), ∀ b ∈ l, (g s b).spine = s.spine) (s : State) :
    (l.foldl g s).spine = s.spine := by
  induction l generalizing s with
  | nil => rfl
  | cons b l ih => exact (ih (fun s c hc => hg s c (List.mem_cons_of_mem _ hc)) _).trans (hg s b List.mem_cons_self)

/-- The same for a loop over the first `n` numbers. -/
theorem foldl_range_spine (n : Nat) (g : State → Nat → State) (hg : ∀ (s : State) (k : Nat), k < n → (g s k).spine = s.spine) (s : State) :
    ((List.range n).foldl g s).spine = s.spine :=
  foldl_spine _ _ (fun s k hk => hg s k (List.mem_range.1 hk)) s

/-! ## The state of single blocks -/

@[simp] theorem sch_spine (s : State) (x : SchedState) : ({ s with sch := x } : State).spine = s.spine := rfl
@[simp] theorem saf_spine (s : State) (x : SafetyState) : ({ s with saf := x } : State).spine = s.spine := rfl

/-! ## The end of a frame -/

@[simp] theorem mapFrame_spine (s : State) (g : FrameInfo → FrameInfo) : (s.mapFrame g).spine = s.spine := rfl
@[simp] theorem except_spine (s : State) (r : Ready) (reason delay : Nat) (skipped : Bool) : (s.except r reason delay skipped).spine = s.spine := rfl
@[simp] theorem discardOpen_spine (s : State) : s.discardOpen.spine = s.spine := rfl
@[simp] theorem dropCounts_spine (s : State) : s.dropCounts.spine = s.spine := rfl
@[simp] theorem markDark_spine (s : State) : s.markDark.spine = s.spine := rfl

@[simp] theorem publishBank_spine (s : State) (b : Nat) : (s.publishBank b).spine = s.spine := by
  simp (disch := decide) [State.publishBank]

@[simp] theorem publishGroup_spine (s : State) (g : Nat) : (s.publishGroup g).spine = s.spine := by
  simp (disch := decide) [State.publishGroup]

@[simp] theorem publishEngine_spine (s : State) (e : Nat) : (s.publishEngine e).spine = s.spine := by
  simp (disch := decide) [State.publishEngine]

/-- The per-channel window holds no word of the spine. -/
theorem setF_chan_spine (s : State) (c off lsb width v : Nat) (h : off < 40) : (s.setF (chanF c off lsb width) v).spine = s.spine :=
  setF_spine s _ v (by simp only [mainWord, chanF, Field.inst]; omega)

@[simp] theorem publishChan_spine (s : State) (c : Nat) : (s.publishChan c).spine = s.spine := by
  simp (disch := decide) [State.publishChan, setF_chan_spine]

@[simp] theorem publishCounts_spine (s : State) : s.publishCounts.spine = s.spine := by
  unfold State.publishCounts
  dsimp only
  rw [dropCounts_spine, foldl_spine _ _ (fun s e _ => publishEngine_spine s e), foldl_spine _ _ (fun s g _ => publishGroup_spine s g),
    foldl_spine _ _ (fun s c _ => publishChan_spine s c), foldl_spine _ _ (fun s b _ => publishBank_spine s b)]

@[simp] theorem publishFrame_spine (s : State) (f : Nat) : (s.publishFrame f).spine = s.spine := by
  unfold State.publishFrame
  split
  · rfl
  · simp (disch := decide)

@[simp] theorem publishPlan_spine (s : State) (f : FrameInfo) : (s.publishPlan f).spine = s.spine := by
  have counts : ∀ (s : State), ((List.range 5).foldl (fun s c =>
      (s.setSat (F.SCH_PLAN_P.COUNT.idx c) (nth 0 f.planned c)).setSat (F.SCH_START_P.COUNT.idx c) (nth 0 f.started c)) s).spine = s.spine :=
    foldl_range_spine _ _ (fun s c hc => by
      simp (disch := first | decide | omega) only [State.setSat_eq, setF_idx_spine])
  have reasons : ∀ (s : State), ((List.range 4).foldl (fun s k =>
      (s.setSat (F.SCH_REASON.EVEN.idx k) (nth 0 f.reasons (2 * k))).setSat (F.SCH_REASON.ODD.idx k) (nth 0 f.reasons (2 * k + 1))) s).spine = s.spine :=
    foldl_range_spine _ _ (fun s c hc => by
      simp (disch := first | decide | omega) only [State.setSat_eq, setF_idx_spine])
  have banks : ∀ (s : State), ((List.range 8).foldl (fun s b =>
      (s.setSat (F.SHT_BANK_STAT.DELAYED.inst b) (nth 0 f.delayed b)).setSat (F.SHT_BANK_STAT.SUPPR.inst b) (nth 0 f.suppressed b)) s).spine = s.spine :=
    foldl_range_spine _ _ (fun s b _ => by simp (disch := decide) only [State.setSat_eq, setF_inst_spine])
  unfold State.publishPlan
  extract_lets u v w x y z
  have hz : z.spine = s.spine :=
    calc z.spine = y.spine := banks y
      _ = v.spine := by simp (disch := decide) only [y, x, w, State.setSat_eq, State.setB_eq, setF_spine]
      _ = u.spine := reasons u
      _ = s.spine := counts s
  clear_value z
  split
  · exact hz
  · exact (recErr_spine _ _ _ _).trans hz

@[simp] theorem closeFrame_spine (s : State) (cut : Bool) : (s.closeFrame cut).spine = s.spine := by
  have skip : ∀ (l : List Ready) (s : State), (l.foldl (fun s r => s.except r 8 0 true) s).spine = s.spine :=
    fun l => foldl_spine l _ (fun s r _ => rfl)
  have hcut : ∀ s : State, (if cut then (s.sch.ready.foldl (fun s r => s.except r 8 0 true) s).discardOpen else s).spine = s.spine := by
    intro s
    split
    · exact (discardOpen_spine _).trans (skip _ _)
    · rfl
  unfold State.closeFrame
  extract_lets u
  split
  · rw [publishFrame_spine, publishPlan_spine, sch_spine]
    have hcounts : ∀ v, (u.publishCounts.setSat F.RXC_DARK.NS v).spine = u.spine := fun v =>
      (setF_spine _ _ _ (by decide)).trans (publishCounts_spine u)
    exact (hcounts _).trans (hcut s)
  · exact hcut s

/-! ## The end of emission -/

@[simp] theorem outputsOff_spine (s : State) (field : Bool) : (s.outputsOff field).spine = s.spine := by
  unfold State.outputsOff
  split
  · extract_lets _ u v
    have hv : v.spine = s.spine := by
      simp (disch := decide) only [v, u, recPulse_spine, safetyEvt_spine, State.bump_eq, setF_spine]
      rfl
    clear_value v
    split
    · exact (setF_spine _ _ _ (by decide)).trans hv
    · exact hv
  · rfl

@[simp] theorem closeSteering_spine (s : State) : s.closeSteering.spine = s.spine := by
  unfold State.closeSteering
  split
  · rfl
  · exact commitRecord_spine _ _ _ _

@[simp] theorem stopSteering_spine (s : State) : s.stopSteering.spine = s.spine := by
  unfold State.stopSteering
  simp (disch := decide) only [setF_spine]
  exact closeSteering_spine s

@[simp] theorem zeroLoads_spine (s : State) : s.zeroLoads.spine = s.spine := by
  refine foldl_spine _ _ (fun s c _ => ?_) s
  split <;> rfl

/-- The abrupt end of frames (R16) leaves the spine. -/
@[simp] theorem abortFrames_spine (s : State) : s.abortFrames.spine = s.spine := by
  have hmark : (s.closeFrame true).markDark.spine = s.spine := (markDark_spine _).trans (closeFrame_spine s true)
  unfold State.abortFrames
  rw [stopSteering_spine, outputsOff_spine, zeroLoads_spine]
  exact hmark

end Sys2Proof.Machine
end

section
/-! PROOFS. What transitions leave of the spine: all but the stay in `SAFE` and the word of `SYS_STATE` (R12, R62). -/

namespace Sys2Proof.Machine

/-- A spine without the stay in `SAFE` and the word of `SYS_STATE`. -/
def Spine.unstated (x : Spine) : Spine := { x with stay := [], word := fun a => if a = F.SYS_STATE.STATE.addr then none else x.word a }

theorem unstated_of_spine {s t : State} (h : t.spine = s.spine) : t.spine.unstated = s.spine.unstated := congrArg Spine.unstated h

theorem getF_of_unstated {s t : State} (h : t.spine.unstated = s.spine.unstated) {f : Field} (hf : mainWord f.addr)
    (hne : f.addr ≠ F.SYS_STATE.STATE.addr) : t.getF f = s.getF f := by
  have hw := congrFun (congrArg Spine.word h) f.addr
  simp only [Spine.unstated, State.spine, if_neg hne, if_pos hf, Option.some.injEq] at hw
  exact getF_congr hw

/-- States that differ in the stay, and in registers beside SYS_STATE outside `mainWord`. -/
theorem unstated_of_reports {s t : State} (h : s.Reports (fun a => a ≠ F.SYS_STATE.STATE.addr) t) : t.spine.unstated = s.spine.unstated := by
  have hrest : ({ t with regs := s.regs } : State).spine = s.spine := by
    rw [h.same]
    rfl
  have hw : t.spine.unstated.word = s.spine.unstated.word := by
    funext a
    simp only [Spine.unstated, State.spine]
    split
    · rfl
    · next ha =>
      split
      · rw [h.kept a ha]
      · rfl
  have e : t.spine.unstated = { ({ t with regs := s.regs } : State).spine.unstated with word := t.spine.unstated.word } := rfl
  rw [e, hrest, hw]

/-- A transition leaves the spine but for the stay and `SYS_STATE`. -/
@[simp] theorem enterState_unstated (s : State) (d : DevState) (c : Nat) (o : List Nat) : (s.enterState d c o).spine.unstated = s.spine.unstated := by
  obtain ⟨t, p, w, y, h, e⟩ := enterState_reports s d c o
  rw [e]
  refine Eq.trans (b := t.spine.unstated) ?_ (unstated_of_reports h)
  rfl

theorem markStop_stay (s : State) : s.markStop.sys.stay = s.sys.stay := by
  obtain ⟨p, h⟩ := markStop_eq s
  rw [h]

/-- The transition to `SAFE` leaves the stay as it has been laid down. -/
theorem enterState_safe_stay (s : State) (c : Nat) (o : List Nat) : (s.enterState .safe c o).sys.stay = s.sys.stay := by
  unfold State.enterState
  rw [if_pos rfl]
  extract_lets
  split
  · rw [markStop_stay, (amend_reports _ _).sys_stay]
    exact State.recMatch_sys_stay _ _ _ _
  · rw [markStop_stay, State.emitEvent_sys_stay]
    rfl

theorem stay_spine (s : State) (l : List Nat) :
    ({ s with sys := { s.sys with stay := l } } : State).spine = { s.spine with stay := l } := rfl

/-- Entry to `SAFE` from a state short of it is the end of frames, the stay laid down, and the transition. -/
theorem enterSafe_eq (s : State) (c : Nat) (o : List Nat)
    (h : s.dev = .boot ∨ s.dev = .standby ∨ s.dev = .spinup ∨ s.dev = .run ∨ s.dev = .degraded) (n : s.dev = .boot → s.sameCycle = false) :
    ∃ (u : State) (o' : List Nat) (i : Int), u.spine = { s.spine with stay := (c :: o).filter stayCause } ∧
      s.enterSafe c o = (u.enterState .safe c o').recPulse 9 i := by
  have hb : (decide (s.dev = .boot) && s.sameCycle) = false := by
    by_cases hd : s.dev = .boot
    · simp [n hd]
    · simp [hd]
  unfold State.enterSafe
  split
  · simp_all
  · simp_all
  · simp_all
  · simp_all
  · rw [if_neg (by simp [hb])]
    refine ⟨{ s.abortFrames with sys := { s.abortFrames.sys with stay := (c :: o).filter stayCause } }, _, _, ?_, rfl⟩
    rw [stay_spine, abortFrames_spine]

/-- Of `sys` only the owner and the commit in force count there. -/
theorem sys_unstated (t : State) (y : SysState) (ho : y.owner = t.sys.owner) (ha : y.armed = t.sys.armed) :
    ({ t with sys := y } : State).spine.unstated = t.spine.unstated := by
  simp only [Spine.unstated, State.spine, ho, ha]
  rfl

/-- Whatever state it is called in, the entry to `SAFE` leaves the spine but for the stay and `SYS_STATE`. -/
@[simp] theorem enterSafe_unstated (s : State) (c : Nat) (o : List Nat) : (s.enterSafe c o).spine.unstated = s.spine.unstated := by
  unfold State.enterSafe
  split
  · rfl
  · rfl
  · exact unstated_of_spine (noteCauses_spine _ _)
  · have hr := noteCauses_reports s (c :: o)
    exact (sys_unstated (s.noteCauses (c :: o)) _ hr.sys_owner.symm hr.sys_armed.symm).trans (unstated_of_spine (noteCauses_spine s (c :: o)))
  · split
    · exact unstated_of_spine (noteCauses_spine _ _)
    · extract_lets
      rw [unstated_of_spine (recPulse_spine _ _ _), enterState_unstated, stay_spine, abortFrames_spine]
      rfl

end Sys2Proof.Machine
end

section
/-! PROOFS. Retention, the ledger's copy and its banks (O43). -/

namespace Sys2Proof.Machine

/-! ## Retention (R330) -/

/-- What is kept of a class is young enough. -/
theorem keepRecords_young {cls size oldest used : Nat} {l : List JRec} :
    ∀ r ∈ keepRecords cls size oldest used l, r.cls = cls → oldest ≤ r.time := by
  induction l generalizing used with
  | nil => simp [keepRecords]
  | cons x l ih =>
    unfold keepRecords
    split
    · next hx =>
      intro r hr hc
      obtain rfl | hr := List.mem_cons.1 hr
      · exact absurd hc hx
      · exact ih r hr hc
    · split
      · exact ih
      · next hold =>
        intro r hr hc
        obtain rfl | hr := List.mem_cons.1 hr
        · simp only [Bool.or_eq_true, decide_eq_true_eq] at hold
          omega
        · exact ih r hr hc

/-- Records of other classes stay, in their order. -/
theorem filter_keepRecords {cls size oldest used : Nat} {l : List JRec} :
    (keepRecords cls size oldest used l).filter (fun r => r.cls ≠ cls) = l.filter (fun r => r.cls ≠ cls) := by
  induction l generalizing used with
  | nil => rfl
  | cons x l ih =>
    unfold keepRecords
    split
    · rw [List.filter_cons, List.filter_cons, ih]
    · next hx =>
      have hdrop : (x :: l).filter (fun r => r.cls ≠ cls) = l.filter (fun r => r.cls ≠ cls) := List.filter_cons_of_neg (by simpa using hx)
      split
      · exact ih.trans hdrop.symm
      · exact (List.filter_cons_of_neg (by simpa using hx)).trans (ih.trans hdrop.symm)

/-! ## The ledger's copy (R53, R54) -/

/-- Trimming drops copied entries only. -/
theorem filter_trimBanks (l : List LedgerEntry) : (trimBanks l).filter (fun e => !e.copied) = l.filter (fun e => !e.copied) := by
  unfold trimBanks
  rw [List.filter_append, List.filter_filter]
  simp only [Bool.and_self]
  rw [← List.filter_append, List.take_append_drop]

/-- Marking `n` entries leaves `n` fewer to be copied. -/
theorem length_uncopied_markCopied (n : Nat) (l : List LedgerEntry) :
    ((markCopied n l).filter (fun e => !e.copied)).length = (l.filter (fun e => !e.copied)).length - n := by
  induction l generalizing n with
  | nil => cases n <;> simp [markCopied]
  | cons e l ih =>
    cases n with
    | zero => simp [markCopied]
    | succ n =>
      unfold markCopied
      split
      · next he => simp [he, ih]
      · next he => simp [he, ih]

/-- The background copy of `n` entries (R53). -/
theorem copyToNor_uncopied (s : State) (n : Nat) : (s.copyToNor n).uncopied = s.uncopied - n := by
  show ((trimBanks (markCopied n s.tp.banks.reverse).reverse).filter (fun e => !e.copied)).length = _
  rw [filter_trimBanks, List.filter_reverse, List.length_reverse, length_uncopied_markCopied, List.filter_reverse, List.length_reverse]
  rfl

/-- With nothing withheld the copy only marks entries, and writes the completion marker once everything is copied for hold-up. -/
theorem doLedgerNorCopy_tp {s : State} (n t : Nat) (hw : s.tp.withheld = []) :
    (doLedgerNorCopy n t s).tp.banks = (s.copyToNor n).tp.banks ∧
      (s.tp.ackHeld = true → s.uncopied ≤ n → (doLedgerNorCopy n t s).tp.marker = true) := by
  have hb : ((s.at t).copyToNor n).tp = (s.copyToNor n).tp := by simp [State.copyToNor, State.mapTp]
  have hu : ((s.at t).copyToNor n).uncopied = s.uncopied - n := by
    simp only [State.uncopied, hb]
    exact copyToNor_uncopied s n
  have release : ∀ u : State, u.tp.withheld = [] → State.releaseWithheld u.tp.withheld.length u = u := fun u h => by
    rw [h]
    rfl
  unfold doLedgerNorCopy
  extract_lets u l0 done v _ w
  have hv : v.tp.banks = u.tp.banks ∧ v.tp.withheld = u.tp.withheld ∧ (done = true → v.tp.marker = true) := by
    show (if done then u.mapTp (fun x => { x with marker := true }) else u).tp.banks = _ ∧
      (if done then u.mapTp (fun x => { x with marker := true }) else u).tp.withheld = _ ∧
      (done = true → (if done then u.mapTp (fun x => { x with marker := true }) else u).tp.marker = true)
    cases done <;> simp [State.mapTp]
  have hwtp : w.tp = v.tp := by
    show (if (done && v.rst.lockLatch && v.rst.lockRecord.isNone) = true then _ else v).tp = _
    split
    · exact State.setF_tp _ _ _
    · rfl
  have hwh : w.tp.withheld = [] := by rw [hwtp, hv.2.1, hb, ← hw]; rfl
  rw [release w hwh, hwtp, hv.1, hb]
  refine ⟨rfl, fun hack hn => hv.2.2 ?_⟩
  have hack' : u.tp.ackHeld = true := by rw [hb, ← hack]; rfl
  have hz : u.uncopied = 0 := hu.trans (by omega)
  simp only [done, hack', hz, Bool.true_or, Bool.true_and, decide_true]

/-! ## Spare pools (R66, R355) -/

/-- A trigger of a spare pool writes CAL, its page's DEGRADED bit and the recorder's pages; it makes no transition. -/
theorem standTrigger_getF (s : State) (page cause : Nat) {f : Field} (hp : f.addr ≠ page * 0x1000 + 0xC) :
    (s.standTrigger page cause).getF f = s.getF f := by
  have hstand : (s.stand page cause).getF f = s.getF f := by
    unfold State.stand
    extract_lets
    split
    · exact getF_setF_other _ _ _ _ hp
    · exact (sys_getF _ _ f).trans (getF_setF_other _ _ _ _ hp)
  have hnote : ∀ u : State, (u.noteArisen cause).getF f = u.getF f := by
    intro u
    unfold State.noteArisen
    extract_lets
    split
    · exact (getF_congr ((noteCauses_reports _ _).kept _ trivial)).trans (sys_getF _ _ f)
    · exact sys_getF _ _ f
  exact (hnote _).trans hstand

theorem amend_sys (s : State) (g : List Byte → List Byte) : (s.amend g).sys = s.sys := by
  unfold State.amend
  split <;> rfl

theorem noteCauses_sys (s : State) (cs : List Nat) : (s.noteCauses cs).sys = s.sys := by
  unfold State.noteCauses
  split
  · exact amend_sys _ _
  · rfl

theorem standTrigger_sameCycle (s : State) (page cause : Nat) : (s.standTrigger page cause).sameCycle = s.sameCycle := by
  have hstand : (s.stand page cause).sys.moved = s.sys.moved ∧ (s.stand page cause).now = s.now := by
    unfold State.stand
    extract_lets
    split <;> exact ⟨rfl, rfl⟩
  have hnote : ∀ u : State, (u.noteArisen cause).sys.moved = u.sys.moved ∧ (u.noteArisen cause).now = u.now := by
    intro u
    unfold State.noteArisen
    extract_lets
    split
    · exact ⟨(congrArg SysState.moved (noteCauses_sys _ _)).trans (Eq.refl u.sys.moved), (noteCauses_reports _ _).now⟩
    · exact ⟨rfl, rfl⟩
  exact sameCycle_congr ((hnote _).2.trans hstand.2) ((hnote _).1.trans hstand.1)

/-- What a pool's trigger counts on the CAL page. -/
theorem poolTrigger_eq (s : State) (page cause : Nat) :
    ∃ u : State, s.poolTrigger page cause = u.standTrigger page cause ∧ u.sameCycle = s.sameCycle ∧
      ∀ f : Field, f.addr < 0x1000000 → f.addr / 0x1000 ≠ 6 → u.getF f = s.getF f := by
  have hother : ∀ (g f : Field), g.addr / 0x1000 = 6 → f.addr / 0x1000 ≠ 6 → f.addr ≠ g.addr := fun g f hg hf he => hf (he ▸ hg)
  unfold State.poolTrigger
  extract_lets u
  refine ⟨u, rfl, ?_, ?_⟩
  · show State.sameCycle (match poolKind page with | some k => _ | none => s) = _
    split
    · split
      · split
        · rfl
        · exact raiseEvt_sameCycle _ 6 2
      · rfl
    · rfl
  · intro f hf h6
    show State.getF (match poolKind page with | some k => _ | none => s) f = _
    split
    · split
      · split
        · rfl
        · rw [State.raiseEvt_getF _ 6 2 _ (fun he => h6 (by rw [he]))]
          exact getF_setF_other _ _ _ _ (hother F.CAL_EXHAUST.KINDS f rfl h6)
      · exact getF_setF_inst _ _ _ _ _ hf
    · rfl

theorem poolTrigger_getF (s : State) (page cause : Nat) {f : Field} (hf : f.addr < 0x1000000) (h6 : f.addr / 0x1000 ≠ 6)
    (hp : f.addr ≠ page * 0x1000 + 0xC) : (s.poolTrigger page cause).getF f = s.getF f := by
  obtain ⟨u, he, -, hu⟩ := poolTrigger_eq s page cause
  rw [he, standTrigger_getF _ _ _ hp, hu f hf h6]

theorem poolTrigger_sameCycle (s : State) (page cause : Nat) : (s.poolTrigger page cause).sameCycle = s.sameCycle := by
  obtain ⟨u, he, hc, -⟩ := poolTrigger_eq s page cause
  rw [he, standTrigger_sameCycle, hc]

/-! ## A ledger bank (R61, R317) -/

/-- The bit of `LDG_BANK` that names a bank's failure, and that of the other. -/
abbrev bankFail (bankB : Bool) : Field := if bankB then F.LDG_BANK.B_FAIL else F.LDG_BANK.A_FAIL
abbrev otherFail (bankB : Bool) : Field := if bankB then F.LDG_BANK.A_FAIL else F.LDG_BANK.B_FAIL

/-- The state that has noted a bank's failure in `LDG_BANK` and by an event. -/
def State.bankFailed (s : State) (bankB : Bool) : State := (s.setF (bankFail bankB) 1).raiseEvt 21 0

theorem bankFailed_getF (s : State) (bankB : Bool) :
    (s.bankFailed bankB).getF (bankFail bankB) = 1 ∧ (s.bankFailed bankB).getF (otherFail bankB) = s.getF (otherFail bankB) ∧
      (s.bankFailed bankB).dev = s.dev := by
  refine ⟨?_, ?_, ?_⟩
  · rw [State.bankFailed, State.raiseEvt_getF _ _ _ _ (by cases bankB <;> decide),
      getF_setF_self _ _ _ (by cases bankB <;> decide)]
    cases bankB <;> rfl
  · rw [State.bankFailed, State.raiseEvt_getF _ _ _ _ (by cases bankB <;> decide),
      getF_setF_beside _ _ _ _ (by cases bankB <;> decide) (by cases bankB <;> decide)]
  · rw [State.dev, State.bankFailed, State.raiseEvt_getF _ _ _ _ (by decide), getF_setF_other _ _ _ _ (by cases bankB <;> decide)]
    rfl

/-- A bank that has not failed yet: its failure, and then the loss of both or an exhausted pool. -/
theorem doLedgerBankFailure_eq {s : State} {bankB : Bool} (t : Nat) (h : s.getF (bankFail bankB) = 0) :
    doLedgerBankFailure bankB t s =
      (let u := (s.at t).bankFailed bankB
       if s.getF (otherFail bankB) = 0 then u.poolTrigger 21 0x40 else (u.poolTrigger 21 0x41).enterSafe 0x2B []) := by
  obtain ⟨hself, hother, -⟩ := bankFailed_getF (s.at t) bankB
  rw [State.at_getF] at hother
  have hnot : (s.at t).flag (bankFail bankB) = false := by simp [h]
  unfold doLedgerBankFailure
  dsimp only
  rw [if_neg (by simpa using hnot)]
  show (if (((s.at t).bankFailed bankB).flag F.LDG_BANK.A_FAIL && ((s.at t).bankFailed bankB).flag F.LDG_BANK.B_FAIL) = true then _ else _) = _
  have hboth : (((s.at t).bankFailed bankB).flag F.LDG_BANK.A_FAIL && ((s.at t).bankFailed bankB).flag F.LDG_BANK.B_FAIL)
      = (s.getF (otherFail bankB) != 0) := by
    cases bankB <;> simp_all [bankFail, otherFail]
  rw [hboth]
  by_cases h0 : s.getF (otherFail bankB) = 0
  · rw [if_neg (by simp [h0]), if_pos h0]
    rfl
  · rw [if_pos (by simpa using h0), if_neg h0]
    rfl

/-- Settles O43: retention, the copy and its marker, the failure of one bank and of both. -/
theorem journalAndLedger : Obligations.JournalAndLedger := by
  refine ⟨?_, ?_, ?_, ?_, ?_⟩
  · intro s cls t hs hon
    have hdo : doRetentionExpiry cls t s = (s.at t).mapTp (fun x => { x with
        journal := keepRecords (cls.val + 1) ((s.at t).getF (F.LDG_REGION.SIZE.inst (cls.val + 1)) * 1048576)
          ((s.at t).now - (s.at t).getF (F.LDG_REGION.MAXAGE.inst (cls.val + 1)) * 10000000) 0 x.journal }) := by
      simp [doRetentionExpiry, hon]
    refine ⟨_, rfl, ?_⟩
    rw [hdo, settle_of_no_pulses (by simpa [State.mapTp] using hs.2)]
    refine ⟨fun r hr hc => ?_, ?_⟩
    · have h := keepRecords_young r hr hc
      rwa [State.at_now, State.at_getF] at h
    · refine Eq.trans filter_keepRecords ?_
      rw [State.at_tp]
  · intro s n t hw
    refine ⟨_, rfl, ?_⟩
    have hb := (doLedgerNorCopy_tp n t hw).1
    simp only [State.uncopied, State.settle_tp_banks, hb]
    exact copyToNor_uncopied s n
  · intro s n t hw hack hn
    obtain ⟨hb, hm⟩ := doLedgerNorCopy_tp n t hw
    refine ⟨_, rfl, (State.settle_tp_marker _).trans (hm hack hn), ?_⟩
    simp only [State.uncopied, State.settle_tp_banks, hb]
    exact (copyToNor_uncopied s n).trans (by omega)
  · intro s bankB t ha hb
    have hself : s.getF (bankFail bankB) = 0 := by cases bankB <;> assumption
    have hother : s.getF (otherFail bankB) = 0 := by cases bankB <;> assumption
    obtain ⟨h1, h2, hd⟩ := bankFailed_getF (s.at t) bankB
    have pool : ∀ f : Field, f.addr = 0x15100 ∨ f.addr = 0x110 →
        ((((s.at t).bankFailed bankB).poolTrigger 21 0x40).settle).getF f = ((s.at t).bankFailed bankB).getF f := by
      intro f hf
      rw [State.settle_getF _ _ (by omega), poolTrigger_getF _ _ _ (by omega) (by omega) (by omega)]
    refine ⟨_, rfl, ?_⟩
    rw [doLedgerBankFailure_eq t hself, if_pos hother]
    refine ⟨?_, ?_, ?_⟩
    · rw [pool _ (by cases bankB <;> decide)]
      exact h1
    · rw [pool _ (by cases bankB <;> decide)]
      exact h2.trans (by rw [State.at_getF, hother])
    · rw [State.dev, pool _ (by decide)]
      exact hd.trans (State.at_dev s t)
  · intro s bankB t hshort hcyc ha hb
    obtain ⟨-, -, hd⟩ := bankFailed_getF (s.at t) bankB
    have hd' : (((s.at t).bankFailed bankB).poolTrigger 21 0x41).dev = s.dev := by
      rw [State.dev, poolTrigger_getF _ _ _ (by decide) (by decide) (by decide)]
      exact hd.trans (State.at_dev s t)
    have hc' : (((s.at t).bankFailed bankB).poolTrigger 21 0x41).sameCycle = (s.at t).sameCycle := by
      rw [poolTrigger_sameCycle, State.bankFailed, raiseEvt_sameCycle, setF_sameCycle]
    refine ⟨_, rfl, ?_⟩
    rw [doLedgerBankFailure_eq t ha, if_neg (by rw [hb]; decide)]
    exact enterSafe_settled _ _ (by decide) (by rwa [hd']) (fun h => hc'.trans (hcyc (hd' ▸ h)))

end Sys2Proof.Machine
end

section
/-! PROOFS. The commands READ and WRITE that are refused (O60): payloads, the answer, and the refusal of the access. -/

namespace Sys2Proof.Machine

/-! ## Payloads (R312) -/

@[simp] theorem length_leBytes (n v : Nat) : (leBytes n v).length = n := by
  induction n generalizing v with
  | zero => rfl
  | succ n ih => simp [leBytes, ih]

theorem ofLe_leBytes (n v : Nat) : ofLe (leBytes n v) = v % 256 ^ n := by
  induction n generalizing v with
  | zero => simp [leBytes, ofLe, Nat.mod_one]
  | succ n ih =>
    simp only [leBytes, ofLe, ih, BitVec.toNat_ofNat]
    rw [Nat.pow_succ' (n := n)]
    exact Nat.mod_mul.symm

/-- The bytes of a payload beyond a first part are those of the rest. -/
theorem msgLe_append_right (a b : List Byte) (off n : Nat) : msgLe (a ++ b) (a.length + off) n = msgLe b off n := by
  rw [msgLe, List.drop_append, List.drop_eq_nil_of_le (Nat.le_add_right _ _), List.nil_append, Nat.add_sub_cancel_left]
  rfl

/-- A field that opens a payload reads as the number it was made of. -/
theorem msgLe_leBytes (n v : Nat) (b : List Byte) : msgLe (leBytes n v ++ b) 0 n = v % 256 ^ n := by
  have h : ((leBytes n v ++ b).drop 0).take n = leBytes n v := by simp
  rw [msgLe, h, ofLe_leBytes]

/-- What an access carries: address, count, two reserved bytes, then its words. -/
def accessPayload (addr count : Nat) (data : List Byte) : List Byte := leBytes 4 addr ++ leBytes 2 count ++ leBytes 2 0 ++ data

theorem accessPayload_fields {addr count : Nat} (data : List Byte) (ha : addr < 2 ^ 24) (hc : count ≤ 1024) :
    (accessPayload addr count data).length = 8 + data.length ∧ msgLe (accessPayload addr count data) 3 1 = 0 ∧
      msgLe (accessPayload addr count data) 4 2 = count ∧ msgLe (accessPayload addr count data) 6 2 = 0 := by
  have he : accessPayload addr count data = leBytes 4 addr ++ (leBytes 2 count ++ (leBytes 2 0 ++ data)) := by simp [accessPayload]
  refine ⟨by simp [accessPayload]; omega, ?_, ?_, ?_⟩
  · rw [he, msgLe]
    simp [leBytes, ofLe]
    omega
  · have h := (msgLe_append_right (leBytes 4 addr) (leBytes 2 count ++ (leBytes 2 0 ++ data)) 0 2).trans (msgLe_leBytes 2 count _)
    rw [length_leBytes] at h
    rw [he, h, Nat.mod_eq_of_lt (by omega)]
  · have h := (msgLe_append_right (leBytes 4 addr ++ leBytes 2 count) (leBytes 2 0 ++ data) 0 2).trans (msgLe_leBytes 2 0 _)
    simp only [List.length_append, length_leBytes] at h
    rw [accessPayload, List.append_assoc, h]
    rfl

theorem read_payloadGood {addr count : Nat} (ha : addr < 2 ^ 24) (h1 : 1 ≤ count) (hc : count ≤ 1024) :
    payloadGood 0x01 (accessPayload addr count []) = true := by
  obtain ⟨hl, hz, hn, hr⟩ := accessPayload_fields [] ha hc
  simp [payloadGood, between, hl, hz, hn, hr, h1, hc]

theorem length_wordBytes (words : List Word) : ((words.map (fun w => leBytes 4 w.toNat)).flatten).length = 4 * words.length := by
  induction words with
  | nil => rfl
  | cons w l ih =>
    simp only [List.map_cons, List.flatten_cons, List.length_append, length_leBytes, ih, List.length_cons]
    omega

theorem write_payloadGood {addr : Nat} {words : List Word} (ha : addr < 2 ^ 24) (h1 : 1 ≤ words.length) (hc : words.length ≤ 1024) :
    payloadGood 0x02 (accessPayload addr words.length (words.map (fun w => leBytes 4 w.toNat)).flatten) = true := by
  obtain ⟨hl, hz, hn, hr⟩ := accessPayload_fields (words.map (fun w => leBytes 4 w.toNat)).flatten ha hc
  rw [length_wordBytes] at hl
  simp [payloadGood, between, hl, hz, hn, hr, h1, hc]

/-! ## A command that is answered -/

/-- The state that the body of a command meets: where none waits, the message renews its session's lease (R310). -/
def State.taken (s : State) (i : Nat) : State := if s.waiting.isSome then s else (s.confirmSession i).renewSession i

/-- Taking a command changes sessions only. -/
theorem taken_eq (s : State) (i : Nat) : ∃ l, s.taken i = s.mapTp (fun t => { t with sessions := l }) := by
  have hself : ∀ s : State, s = s.mapTp (fun t => { t with sessions := t.sessions }) := fun s => rfl
  have hconf : ∃ l, s.confirmSession i = s.mapTp (fun t => { t with sessions := l }) := by
    unfold State.confirmSession
    split
    · exact ⟨_, rfl⟩
    · exact ⟨_, hself s⟩
  have hren : ∀ u : State, ∃ l, u.renewSession i = u.mapTp (fun t => { t with sessions := l }) := by
    intro u
    unfold State.renewSession
    split
    · exact ⟨_, rfl⟩
    · exact ⟨_, hself u⟩
  unfold State.taken
  split
  · exact ⟨_, hself s⟩
  · obtain ⟨l, hl⟩ := hconf
    obtain ⟨l', hl'⟩ := hren (s.confirmSession i)
    exact ⟨l', by rw [hl', hl]; rfl⟩

/-- A command that its turn has come for, with a payload of its shape, is answered with what its body replies. -/
theorem command_answered {s t : State} {i op seq : Nat} {x : Session} {payload : List Byte} {body : Session → State → Option Reply × State}
    {after : State → State} {r : Reply} (hno : s.noCommands = false) (hun : s.unserved = false) (hx : s.session i = some x)
    (hw : s.waiting.all (fun a => a.isRow i op payload) = true) (hseq : (s.waiting.map (fun a => a.seq)).getD x.nextSeq = seq)
    (hlt : seq < 2 ^ 32) (hgood : payloadGood op payload = true) (hb : body x (s.taken i) = (some r, t)) :
    s.command i op payload body after = after (t.finish x ((s.waiting.map (fun a => a.src)).getD x.peer) i seq op payload r) := by
  have hany : s.waiting.any (fun a => !a.isRow i op payload) = false := by
    cases h : s.waiting with
    | none => rfl
    | some a => simpa [h] using hw
  unfold State.taken at hb
  unfold State.command
  simp only [hno, hun, Bool.or_self, Bool.false_eq_true, if_false, hx, hany, hgood, Bool.not_true, hseq, Nat.not_le.2 hlt, hb]

/-- With room in the ledger a command is recorded and its response sent: nothing else of the state changes but sessions and ports. -/
theorem finish_eq {s : State} (x : Session) (dest : Endpoint) (i seq op : Nat) (payload : List Byte) (r : Reply) (hw : s.tp.withheld = [])
    (hu : s.uncopied < 2048) :
    ∃ tp net, s.finish x dest i seq op payload r = { s with tp := tp, net := net } ∧
      tp.banks = s.entryOf i x.gen seq op payload r :: s.tp.banks ∧ tp.withheld = [] ∧
      tp.out = x.answer dest i seq op r.status 0 s.epoch r.payload :: s.tp.out := by
  obtain ⟨l, a, hc⟩ : ∃ l a, s.consume i seq = s.mapTp (fun t => { t with sessions := l, accepted := a }) := by
    unfold State.consume State.mapSession
    split <;> exact ⟨_, _, rfl⟩
  have hroom : ((s.consume i seq).tp.withheld.isEmpty && decide ((s.consume i seq).uncopied < 2048)) = true := by
    rw [hc]
    simp only [State.mapTp, hw, List.isEmpty_nil, Bool.true_and, decide_eq_true_eq]
    exact hu
  unfold State.finish State.acknowledge
  rw [if_pos hroom, hc]
  exact ⟨_, _, rfl, rfl, hw, rfl⟩

/-- A command refused without further effect: the refusal is recorded and answered, without data; no register, no memory and no pending value
changes. -/
theorem refused_answer {s : State} {i op seq st : Nat} {x : Session} {payload : List Byte} {body : Session → State → Option Reply × State}
    {after : State → State} {r : Reply} (hs : s.Settled) (hno : s.noCommands = false) (hun : s.unserved = false) (hx : s.session i = some x)
    (hw : s.waiting.all (fun a => a.isRow i op payload) = true) (hseq : (s.waiting.map (fun a => a.seq)).getD x.nextSeq = seq)
    (hlt : seq < 2 ^ 32) (hwh : s.tp.withheld = []) (hroom : s.uncopied < 2048) (hgood : payloadGood op payload = true)
    (hst : r.status = st) (h0 : st ≠ 0) (hdata : r.payload = []) (hb : body x (s.taken i) = (some r, s.taken i))
    (hafter : ∀ v : State, v.lastOk = false → after v = v) :
    ∃ u e, answer (s.command i op payload body after) = .next u ∧ u.tp.banks.head? = some e ∧ e.seq = seq ∧ e.status = st ∧
      x.answer ((s.waiting.map (fun a => a.src)).getD x.peer) i seq op st 0 s.epoch [] ∈ u.tp.out ∧ u.regs = s.regs ∧ u.ram = s.ram ∧
      u.shadow = s.shadow := by
  obtain ⟨l, ht⟩ := taken_eq s i
  obtain ⟨tp, net, hf, hbanks, hheld, hout⟩ := finish_eq (s := s.taken i) x ((s.waiting.map (fun a => a.src)).getD x.peer) i seq op payload r
    (by rw [ht]; exact hwh) (by rw [ht]; exact hroom)
  have hlast : State.lastOk { s.taken i with tp := tp, net := net } = false := by
    simp [State.lastOk, hheld, hbanks, State.entryOf, hst, h0]
  rw [command_answered hno hun hx hw hseq hlt hgood hb, hf, hafter _ hlast]
  refine ⟨_, (s.taken i).entryOf i x.gen seq op payload r, rfl, ?_⟩
  rw [settle_of_no_pulses (by rw [ht]; exact hs.2)]
  refine ⟨congrArg List.head? hbanks, rfl, hst, ?_, by rw [ht]; rfl, by rw [ht]; rfl, by rw [ht]; rfl⟩
  have hepoch : (s.taken i).epoch = s.epoch := by rw [ht]; rfl
  rw [hepoch, hdata, hst] at hout
  show _ ∈ tp.out
  simp [hout]

/-! ## The refusal of an access (R11) -/

theorem accessRefused_off {s : State} {a p : Nat} (ha : a % 4 = 0) (hp : pageOf a = some p) (hoff : s.pageOn p = false) :
    s.accessRefused a = some 8 := by
  simp [State.accessRefused, ha, hp, hoff]

/-- Of aligned and mapped words the only refusal is `DOMAIN_OFF`. -/
theorem accessRefused_mapped {s : State} {a : Nat} (h : a % 4 = 0 ∧ (pageOf a).isSome = true) :
    s.accessRefused a = none ∨ s.accessRefused a = some 8 := by
  obtain ⟨p, hp⟩ := Option.isSome_iff_exists.1 h.2
  cases hon : s.pageOn p
  · exact .inr (accessRefused_off h.1 hp hon)
  · exact .inl (by simp [State.accessRefused, h.1, hp, hon])

theorem findSome_eq_of_mem {α β : Type} {f : α → Option β} {b : β} {l : List α} (hall : ∀ x ∈ l, f x = none ∨ f x = some b)
    {a : α} (ha : a ∈ l) (hb : f a = some b) : l.findSome? f = some b := by
  induction l with
  | nil => cases ha
  | cons x l ih =>
    rw [List.findSome?_cons]
    cases hall x List.mem_cons_self with
    | inr h => rw [h]
    | inl h =>
      rw [h]
      cases List.mem_cons.1 ha with
      | inl e => rw [← e, hb] at h; cases h
      | inr hm => exact ih (fun y hy => hall y (List.mem_cons_of_mem _ hy)) hm

/-- A READ that meets a page whose domain is off is refused. -/
theorem readBody_off {s : State} {addr count a p : Nat} (x : Session)
    (hmap : ∀ b ∈ wordAddrs addr count, b % 4 = 0 ∧ (pageOf b).isSome = true) (ha : a ∈ wordAddrs addr count) (hp : pageOf a = some p)
    (hoff : s.pageOn p = false) : readBody addr count x s = (some (Reply.of 8 []), s) := by
  have h : (wordAddrs addr count).findSome? s.accessRefused = some 8 :=
    findSome_eq_of_mem (fun b hb => accessRefused_mapped (hmap b hb)) ha (accessRefused_off (hmap a ha).1 hp hoff)
  simp [readBody, h, refuse]

/-- The first word of a WRITE goes to its address. -/
theorem wordsAt_cons (addr : Nat) (w : Word) (l : List Word) : ∃ rest, wordsAt addr (w :: l) = (addr, w.toNat) :: rest := by
  have h : wordAddrs addr (w :: l).length = addr :: ((List.range l.length).map Nat.succ).map (fun i => addr + 4 * i) := by
    rw [wordAddrs, List.length_cons, List.range_succ_eq_map, List.map_cons, Nat.mul_zero, Nat.add_zero]
  rw [wordsAt, h]
  exact ⟨_, rfl⟩

/-- A WRITE that begins on such a page is refused. -/
theorem writeBody_off {s : State} {sess addr p : Nat} {words : List Word} (x : Session) (h1 : 1 ≤ words.length) (ha : addr % 4 = 0)
    (hp : pageOf addr = some p) (hoff : s.pageOn p = false) :
    writeBody sess addr words x s = (some { status := 8, payload := [], result := leBytes 4 0 }, s) := by
  obtain ⟨w, l, rfl⟩ : ∃ w l, words = w :: l := List.exists_cons_of_length_pos h1
  obtain ⟨rest, hr⟩ := wordsAt_cons addr w l
  have hcheck : ∀ wr all, State.checkWords wr all ((addr, w.toNat) :: rest) s = some (plainFail 8) := by
    intro wr all
    simp [State.checkWords, State.checkWord, accessRefused_off ha hp hoff]
  unfold writeBody
  dsimp only
  rw [hr, hcheck]
  rfl

theorem softwareReset_of_not_ok {s : State} (sess : Nat) (l : List (Nat × Nat)) (h : s.lastOk = false) :
    softwareReset sess l State.lastOk s = s := by
  simp [softwareReset, h]

/-- Taking a command turns no domain on or off. -/
theorem taken_pageOn (s : State) (i p : Nat) : (s.taken i).pageOn p = s.pageOn p := by
  obtain ⟨l, ht⟩ := taken_eq s i
  rw [ht]
  rfl

/-- Settles O60: each of the two is refused with `DOMAIN_OFF` by the body of its command. -/
theorem domainOffIsRefused : Obligations.DomainOffIsRefused := by
  constructor
  · intro s sess seq x addr count a p hs hno hun hx hw hseq hlt hwh hroom haddr h1 hc hmap ha hp hoff
    have hpay : leBytes 4 addr ++ leBytes 2 count ++ leBytes 2 0 = accessPayload addr count [] := (List.append_nil _).symm
    exact refused_answer (r := Reply.of 8 []) hs hno hun hx hw hseq hlt hwh hroom (hpay ▸ read_payloadGood haddr h1 hc) rfl (by decide) rfl
      (readBody_off x hmap ha hp ((taken_pageOn s sess p).trans hoff)) (fun v _ => rfl)
  · intro s sess seq x addr p words hs hno hun hx hw hseq hlt hwh hroom haddr h1 hc ha hp hoff
    exact refused_answer hs hno hun hx hw hseq hlt hwh hroom (write_payloadGood haddr h1 hc) rfl (by decide) rfl
      (writeBody_off x h1 ha hp ((taken_pageOn s sess p).trans hoff)) (fun v => softwareReset_of_not_ok sess _)

end Sys2Proof.Machine
end

section
/-! PROOFS. The end of a soft reset (R34, R43), and the stay in `SAFE` (R62 to R65): parts of O58. -/

namespace Sys2Proof.Machine

/-! ## What a command's pulses leave of the recorder's own page

The end of a command writes the recorder's registers and its events; the rest of its header stays. -/

/-- The words of page REC that no sequencer action writes: its header, but for `BLK_ISR`. -/
def recHeader (a : Nat) : Prop := a < 0x1A100 ∧ a ≠ 0x1A010

theorem recTrigger_header {f : Field} (hf : recHeader f.addr) (s : State) (i : Int) : (s.recTrigger i).getF f = s.getF f := by
  obtain ⟨hlt, hne⟩ := hf
  have hput : ∀ (u : State) (g : Field) (v : Nat), 0x1A100 ≤ g.addr → (u.setF g v).getF f = u.getF f := fun u g v hg =>
    getF_setF_other _ _ _ _ (by omega)
  have hevt : ∀ u : State, (u.raiseEvt 26 0).getF f = u.getF f := fun u => State.raiseEvt_getF _ _ _ _ hne
  unfold State.recTrigger
  split
  · extract_lets _ _ _ _ _ u v w
    have hw : w.getF f = s.getF f :=
      (hevt _).trans ((hput _ _ _ (by decide)).trans ((hput _ _ _ (by decide)).trans ((hput _ _ _ (by decide)).trans (hput _ _ _ (by decide)))))
    clear_value w
    split
    · exact hw
    · exact hw
  · exact hput _ _ _ (by decide)
  · exact hput _ _ _ (by decide)
  · rfl

theorem sendChainTrigger_header {f : Field} (hf : recHeader f.addr) (s : State) (i : Int) : (s.sendChainTrigger i).getF f = s.getF f := by
  have hframe : ∀ (u : State) (p : Nat) (b : List Byte), (u.sendFrame p 4 b).getF f = u.getF f := by
    intro u p b
    unfold State.sendFrame
    split <;> rfl
  unfold State.sendChainTrigger
  split
  · extract_lets _ g _ _ u
    have hne : f.addr ≠ F.REC_CHAIN.COUNT.addr := Nat.ne_of_lt (Nat.lt_of_lt_of_le hf.1 (by decide))
    exact (hframe _ _ _).trans ((hframe _ _ _).trans ((getF_setF_other u g _ _ hne).trans (Eq.refl (s.getF f))))
  · rfl

theorem seqAction_header {f : Field} (hf : recHeader f.addr) (s : State) (act : Nat) (i : Int) : (s.seqAction act i).getF f = s.getF f := by
  have hput : ∀ (u : State) (g : Field) (v : Nat), 0x1A100 ≤ g.addr → (u.setF g v).getF f = u.getF f := fun u g v hg =>
    getF_setF_other _ _ _ _ (Nat.ne_of_lt (Nat.lt_of_lt_of_le hf.1 hg))
  have hcnt : ∀ (l : List Nat) (u : State), (l.foldl (fun s k => s.setF (F.REC_CNT.VALUE.idx k) 0) u).getF f = u.getF f := by
    intro l
    induction l with
    | nil => intro u; rfl
    | cons k l ih =>
      intro u
      have hk : 0x1A100 ≤ (F.REC_CNT.VALUE.idx k).addr := by simp only [Field.idx]; omega
      rw [List.foldl_cons, ih]
      exact hput u _ 0 hk
  unfold State.seqAction
  split
  · exact recTrigger_header hf _ _
  · exact (sendChainTrigger_header hf _ _).trans (recTrigger_header hf _ _)
  · exact sendChainTrigger_header hf _ _
  · exact hput _ _ _ (by decide)
  · exact hput _ _ _ (by decide)
  · exact hput _ _ _ (by decide)
  · exact hput _ _ _ (by decide)
  · rfl
  · rfl
  · rfl
  · rfl
  · exact hcnt _ _
  · rfl
  · rfl

theorem seqStep_header {f : Field} (hf : recHeader f.addr) (s : State) : s.seqStep.getF f = s.getF f := by
  have hseq : ∀ (u : State) (v : Nat), (u.setF F.REC_STAT.SEQ v).getF f = u.getF f := fun u v =>
    getF_setF_other _ _ _ _ (Nat.ne_of_lt (Nat.lt_of_lt_of_le hf.1 (by decide)))
  unfold State.seqStep
  extract_lets
  split
  · exact (hseq _ _).trans (seqAction_header hf _ _ _)
  · split
    · exact (hseq _ _).trans (seqAction_header hf _ _ _)
    · rfl

theorem runPulses_header {f : Field} (hf : recHeader f.addr) (n : Nat) (s : State) : (State.runPulses n s).getF f = s.getF f := by
  induction n generalizing s with
  | zero => rfl
  | succ n ih =>
    unfold State.runPulses
    split
    · rfl
    · exact (ih _).trans (seqStep_header hf s)

/-- The headers of all pages outlast the end of a command, but for the recorder's `BLK_ISR`. -/
theorem settle_header {f : Field} (hf : f.addr / 0x1000 ≠ 26 ∨ recHeader f.addr) (s : State) : s.settle.getF f = s.getF f :=
  hf.elim (State.settle_getF s f) (fun h => runPulses_header h 8 s)

/-! ## The epoch (R43) -/

theorem keepEra_getF (s : State) (f : Field) : s.keepEra.getF f = s.getF f := by
  unfold State.keepEra
  split <;> rfl

theorem keepEra_sys (s : State) : s.keepEra.sys = s.sys := by
  unfold State.keepEra
  split <;> rfl

theorem peek_keepEra (s : State) (a : Nat) : s.keepEra.peek a = s.peek a := by
  unfold State.keepEra
  split <;> rfl

theorem keepEra_shadow (s : State) : s.keepEra.shadow = s.shadow := by
  unfold State.keepEra
  split <;> rfl

theorem nextEpoch_lt (s : State) : nextEpoch s.epoch < 2 ^ 32 := by
  have h : s.epoch < 2 ^ 32 := getF_lt s F.SYS_EPOCH.VALUE
  unfold nextEpoch
  split <;> omega

theorem advanceEpoch_epoch (s : State) : s.advanceEpoch.epoch = nextEpoch s.epoch := getF_setF_of_lt _ _ (by decide) (nextEpoch_lt s)

theorem advanceEpoch_getF (s : State) {f : Field} (h : f.addr ≠ F.SYS_EPOCH.VALUE.addr) : s.advanceEpoch.getF f = s.getF f :=
  (getF_setF_other _ _ _ _ h).trans (keepEra_getF s f)

/-! ## The end of a soft reset (R34) -/

/-- A soft reset in progress ends: `SRST` and `BUSY` of its page clear, and the epoch advances. -/
theorem doSoftResetComplete_shows {s : State} {page : Fin 28} (t : Nat) (hon : s.pageOn page.val = true)
    (hin : s.sys.resetting.contains page.val = true) :
    (doSoftResetComplete page t s).settle.sys.resetting.contains page.val = false ∧
      (doSoftResetComplete page t s).settle.getF (H.SRST page.val) = 0 ∧ (doSoftResetComplete page t s).settle.getF (H.BUSY page.val) = 0 ∧
      (doSoftResetComplete page t s).settle.epoch = nextEpoch s.epoch := by
  have hp := page.isLt
  unfold doSoftResetComplete
  extract_lets u p _ v
  rw [if_pos (by simp only [u, p, State.at_pageOn, State.at_sys, hon, hin, Bool.and_self])]
  have hv : ∀ f, v.getF f = s.getF f := fun f => (sys_getF _ _ f).trans (State.at_getF s t f)
  have hepoch : ((v.setF (H.SRST p) 0).setF (H.BUSY p) 0).epoch = s.epoch :=
    (getF_setF_other _ _ _ _ (by simp only [p]; omega)).trans ((getF_setF_other _ _ _ _ (by simp only [p]; omega)).trans (hv _))
  refine ⟨?_, ?_, ?_, ?_⟩
  · rw [State.settle_sys_resetting, State.raiseEvt_sys_resetting, State.advanceEpoch, State.setF_sys, keepEra_sys]
    show List.contains (List.filter (fun x => decide (x ≠ p)) u.sys.resetting) p = false
    simp
  · rw [settle_header (by simp only [recHeader]; omega), State.raiseEvt_getF _ _ _ _ (by simp only; omega),
      advanceEpoch_getF _ (by simp only; omega), getF_setF_other _ _ _ _ (by simp only [p]; omega)]
    exact getF_setF_of_lt _ _ (Nat.le_of_ble_eq_true rfl) (by decide : 0 < 2 ^ 1)
  · rw [settle_header (by simp only [recHeader]; omega), State.raiseEvt_getF _ _ _ _ (by simp only; omega),
      advanceEpoch_getF _ (by simp only; omega)]
    exact getF_setF_of_lt _ _ (Nat.le_of_ble_eq_true rfl) (by decide : 0 < 2 ^ 1)
  · rw [State.epoch, State.settle_getF _ _ (by decide), State.raiseEvt_getF _ _ _ _ (by simp only [p]; omega)]
    exact (advanceEpoch_epoch _).trans (congrArg nextEpoch hepoch)

/-! ## The stay in `SAFE` (R62) -/

/-- A cause that leads to `SAFE` and remains after the entry is one of the stay. -/
theorem enterSafe_stay (s : State) {c : Nat} (o : List Nat) (hc : stayCause c = true)
    (h : s.dev = .boot ∨ s.dev = .standby ∨ s.dev = .spinup ∨ s.dev = .run ∨ s.dev = .degraded) (n : s.dev = .boot → s.sameCycle = false) :
    (s.enterSafe c o).sys.stay.contains c = true := by
  obtain ⟨u, o', i, hu, he⟩ := enterSafe_eq s c o h n
  have hstay : (s.enterSafe c o).sys.stay = (c :: o).filter stayCause := by
    rw [he, State.recPulse_sys_stay, enterState_safe_stay]
    exact congrArg Spine.stay hu
  rw [hstay, List.filter_cons_of_pos hc]
  simp

/-- In `SAFE` a further cause joins the stay; nothing else of the stay, and no state, changes. -/
theorem enterSafe_in_safe (s : State) {c : Nat} (h : s.dev = .safe) (hc : stayCause c = true) :
    (s.enterSafe c []).sys.stay = s.sys.stay ++ (if s.sys.stay.contains c then [] else [c]) ∧
      ∀ f : Field, f.addr / 0x1000 ≠ 26 → (s.enterSafe c []).getF f = s.getF f := by
  have he : s.enterSafe c [] = { s.noteCauses [c] with sys := { s.sys with
      stay := s.sys.stay ++ [c].filter (fun c => stayCause c && !s.sys.stay.contains c) } } := by
    unfold State.enterSafe
    simp only [h]
  rw [he]
  refine ⟨?_, fun f _ => (sys_getF _ _ f).trans (getF_congr ((noteCauses_reports s [c]).kept _ trivial))⟩
  have hnew : [c].filter (fun c => stayCause c && !s.sys.stay.contains c) = if s.sys.stay.contains c then [] else [c] := by
    rw [List.filter_cons, hc]
    cases s.sys.stay.contains c <;> rfl
  exact congrArg (s.sys.stay ++ ·) hnew

end Sys2Proof.Machine
end

section
/-! PROOFS. What the blocks take up of a commit (R41) leaves the spine, but for the power of domains. -/

namespace Sys2Proof.Machine

/-! ## Branches and the blocks' own state -/

@[simp] theorem ite_spine (c : Prop) [Decidable c] (a b : State) : (if c then a else b).spine = if c then a.spine else b.spine :=
  apply_ite State.spine c a b

/-! Each block's state is no part of the spine. (The proofs take the state apart once: where `rfl` alone would be unfolded again at every
use, the kernel compares the states themselves.) -/

@[simp] theorem mapTime_spine (s : State) (g : TimeState → TimeState) : (s.mapTime g).spine = s.spine := by cases s; rfl
@[simp] theorem mapCal_spine (s : State) (g : CalState → CalState) : (s.mapCal g).spine = s.spine := by cases s; rfl
@[simp] theorem mapHka_spine (s : State) (g : HkaState → HkaState) : (s.mapHka g).spine = s.spine := by cases s; rfl
@[simp] theorem mapExc_spine (s : State) (g : ExcState → ExcState) : (s.mapExc g).spine = s.spine := by cases s; rfl
@[simp] theorem mapPort_spine (s : State) (p : Nat) (g : Port → Port) : (s.mapPort p g).spine = s.spine := by cases s; rfl
@[simp] theorem setChain_spine (s : State) (c : Nat) (k : Chain) : (s.setChain c k).spine = s.spine := by cases s; rfl
@[simp] theorem notice_spine (s : State) (p : Nat) : (s.notice p).spine = s.spine := by cases s; rfl
@[simp] theorem ste_spine (s : State) (x : SteerState) : ({ s with ste := x } : State).spine = s.spine := by cases s; rfl
@[simp] theorem emt_spine (s : State) (x : EmitState) : ({ s with emt := x } : State).spine = s.spine := by cases s; rfl
@[simp] theorem rxc_spine (s : State) (x : RxState) : ({ s with rxc := x } : State).spine = s.spine := by cases s; rfl
@[simp] theorem net_spine (s : State) (x : NetState) : ({ s with net := x } : State).spine = s.spine := by cases s; rfl

/-! ## Calibration and housekeeping -/

@[simp] theorem hkaClose_spine (s : State) : s.hkaClose.spine = s.spine := by
  unfold State.hkaClose
  split
  · rfl
  · exact commitRecord_spine _ _ _ _

@[simp] theorem calStop_spine (s : State) (st : Nat) : (s.calStop st).spine = s.spine := by
  simp (disch := decide) [State.calStop]

@[simp] theorem calAbort_spine (s : State) : s.calAbort.spine = s.spine := by
  have hclear : ∀ s : State, (s.calSpan.foldl (fun s c =>
      ((((s.setF (F.CAL_RCAL_RES.ERR.inst c) 0).setF (F.CAL_RCAL_RES.COUNT.inst c) 0).setF (F.CAL_RCAL_SPREAD.VALID.inst c) 0).setF
        (F.CAL_RCAL_SPREAD.SPREAD.inst c) 0)) s).spine = s.spine :=
    fun s => foldl_spine _ _ (fun s c _ => by simp (disch := decide) only [setF_inst_spine]) s
  unfold State.calAbort State.countValid
  rw [calStop_spine, setF_spine _ _ _ (by decide), hclear]

/-! ## Program, chains, steering -/

@[simp] theorem setProgram_spine (s : State) : s.setProgram.spine = s.spine := by
  simp (disch := decide) [State.setProgram]

@[simp] theorem setChainState_spine (s : State) (c v : Nat) (hc : c < 0x1000) : (s.setChainState c v).spine = s.spine := by
  simp (disch := first | decide | assumption) [State.setChainState]

@[simp] theorem chainsCommit_spine (s old : State) : (s.chainsCommit old).spine = s.spine := by
  refine foldl_range_spine _ _ (fun s c hc => ?_) s
  have hc : c < 0x1000 := by omega
  simp [hc]

@[simp] theorem countReserves_spine (s : State) : s.countReserves.spine = s.spine := by
  simp (disch := decide) [State.countReserves]

@[simp] theorem updateBands_spine (s : State) : s.updateBands.spine = s.spine := by
  simp (disch := decide) [State.updateBands]

@[simp] theorem updateValid_spine (s : State) : s.updateValid.spine = s.spine := by
  unfold State.updateValid
  extract_lets u v w _ x
  have hx : x.spine = s.spine := by
    calc x.spine = u.spine := setF_spine u _ _ (by decide)
      _ = s.spine := updateBands_spine s
  split
  · exact hx
  · exact hx

@[simp] theorem rebaseEdges_spine (s old : State) : (s.rebaseEdges old).spine = s.spine := by
  unfold State.rebaseEdges
  split
  · rfl
  · split
    · dsimp only
      split <;> rfl
    · rfl

@[simp] theorem refOkFromTime_spine (s : State) : s.refOkFromTime.spine = s.spine := by
  simp (disch := decide) [State.refOkFromTime]

@[simp] theorem steeringCommit_spine (s old : State) : (s.steeringCommit old).spine = s.spine := by
  unfold State.steeringCommit
  extract_lets _ u r _ w _ x
  have hr : r.spine = s.spine := by
    show (if u.flag F.STE_STAT.REF_OK = true then _ else u : State).spine = u.spine
    simp (disch := decide)
  have hw : w.spine = s.spine := by
    show (if u.getF F.STE_CTL.REFSRC = old.getF F.STE_CTL.REFSRC then u.rebaseEdges old else _ : State).spine = _
    rw [ite_spine, rebaseEdges_spine, refOkFromTime_spine]
    split
    · rfl
    · exact hr
  have hx : x.spine = s.spine := hw
  clear_value w x
  split
  · exact hw
  · simp (disch := decide) [hx]

/-! ## Time -/

@[simp] theorem gmUpdate_spine (s : State) : s.gmUpdate.spine = s.spine := by
  simp (disch := decide) [State.gmUpdate, State.sendAnnounce]

@[simp] theorem traceUpdate_spine (s : State) : s.traceUpdate.spine = s.spine := by
  simp (disch := decide) [State.traceUpdate]

@[simp] theorem setServo_spine (s : State) (st : Nat) : (s.setServo st).spine = s.spine := by
  simp (disch := decide) [State.setServo]

@[simp] theorem setSource_spine (s : State) (k : Nat) : (s.setSource k).spine = s.spine := by
  simp (disch := decide) [State.setSource]

@[simp] theorem setTrim_spine (s : State) (v : Int) : (s.setTrim v).spine = s.spine := by
  simp (disch := decide) [State.setTrim]

@[simp] theorem leaveServo_spine (s : State) : s.leaveServo.spine = s.spine := by
  simp (disch := decide) [State.leaveServo]

@[simp] theorem enterFree_spine (s : State) : s.enterFree.spine = s.spine := by
  simp [State.enterFree]

@[simp] theorem enterHoldover_spine (s : State) : s.enterHoldover.spine = s.spine := by
  simp (disch := decide) [State.enterHoldover]

@[simp] theorem dropSource_spine (s : State) : s.dropSource.spine = s.spine := by
  simp [State.dropSource]

@[simp] theorem timeCommit_spine (s : State) : s.timeCommit.spine = s.spine := by
  simp [State.timeCommit]

@[simp] theorem showDeflection_spine (s : State) : s.showDeflection.spine = s.spine := by
  simp (disch := decide) [State.showDeflection]

/-! ## Ports -/

@[simp] theorem updateIp_spine (s : State) : s.updateIp.spine = s.spine := by
  simp (disch := decide) [State.updateIp]

@[simp] theorem askDhcp_spine (s : State) : s.askDhcp.spine = s.spine := by
  simp [State.askDhcp]

@[simp] theorem ipCommit_spine (s old : State) : (s.ipCommit old).spine = s.spine := by
  simp [State.ipCommit]

/-- A register of a port, whichever of the two. -/
theorem setF_nt_spine (s : State) (p v : Nat) (f : Field) (hp : p < 2) (hf : 0x3000 ≤ f.addr ∧ f.addr < 0xF00000) :
    (s.setF (nt p f) v).spine = s.spine :=
  setF_spine s _ v (by simp only [mainWord, nt, Field.pageUp, Field.inst]; omega)

theorem linkLost_spine (s : State) {p : Nat} (from_ : Nat) (hp : p < 2) : (s.linkLost p from_).spine = s.spine := by
  have hput : ∀ (s : State) (f : Field) (v : Nat), 0x3000 ≤ f.addr ∧ f.addr < 0xF00000 → (s.setF (nt p f) v).spine = s.spine :=
    fun s f v hf => setF_nt_spine s p v f hp hf
  unfold State.linkLost
  extract_lets st u v w
  have hu : u.spine = s.spine := by simp (disch := decide) only [u, hput]
  have hv : v.spine = u.spine := by simp (disch := decide) only [v, hput]
  have hw : w.spine = v.spine := mapPort_spine _ _ _
  rw [State.bump_eq, hput _ _ _ (by decide), hw, hv, hu]

theorem linkBroken_spine (s : State) {p : Nat} (hp : p < 2) : (s.linkBroken p).spine = s.spine := by
  simp [State.linkBroken, linkLost_spine _ _ hp]

theorem portCommit_spine (s old : State) {p : Nat} (hp : p < 2) : (s.portCommit old p).spine = s.spine := by
  simp (disch := first | exact hp | decide) [State.portCommit, linkBroken_spine, setF_nt_spine]

/-! ## Images -/

@[simp] theorem showStaged_spine (s : State) : s.showStaged.spine = s.spine := by
  simp (disch := decide) [State.showStaged]

@[simp] theorem showNoImage_spine (s : State) : s.showNoImage.spine = s.spine := by
  simp (disch := decide) [State.showNoImage]

theorem showConfig_spine (s : State) {p : Nat} (i : List Byte) (hp : p < 2) : (s.showConfig p i).spine = s.spine := by
  have hnt : ∀ (s : State) (f : Field) (v : Nat), 0x3000 ≤ f.addr ∧ f.addr < 0xF00000 → (s.setF (f.pageUp p) v).spine = s.spine :=
    fun s f v => setF_nt_spine s p v f hp
  simp (disch := decide) [State.showConfig, hnt]

@[simp] theorem setCeilings_spine (s : State) (img : Option (List Byte)) : (s.setCeilings img).spine = s.spine := by
  unfold State.setCeilings
  extract_lets u
  have hu : u.spine = s.spine := foldl_spine _ _ (fun s z _ => by
    dsimp only
    split <;> simp (disch := decide) only [setF_inst_spine]) s
  refine (foldl_range_spine _ _ (fun s n hn => ?_) u).trans hu
  exact setF_idx_spine _ _ _ _ (by decide) (by omega)

@[simp] theorem workingCeilings_spine (s : State) (img : Option (List Byte)) : (s.workingCeilings img).spine = s.spine := by
  simp [State.workingCeilings]

@[simp] theorem newlyActive_spine (s : State) (i j : List Byte) : (s.newlyActive i j).spine = s.spine := by
  simp (disch := decide) [State.newlyActive, showConfig_spine]

@[simp] theorem activateImage_spine (s : State) : s.activateImage.spine = s.spine := by
  unfold State.activateImage
  extract_lets u
  have hu : u.spine = s.spine := setF_spine _ _ _ (by decide)
  split
  · rw [newlyActive_spine, showStaged_spine]
    exact hu
  · exact hu

/-! ## Excitation -/

theorem unsettle_spine (s : State) {c : Nat} (from_ : Nat) (hc : c < 0x1000) : (s.unsettle c from_).spine = s.spine := by
  have h : ∀ (s : State) (f : Field) (v : Nat), 0x3000 ≤ f.addr ∧ f.addr < 0x1000000 → (s.setF (f.idx c) v).spine = s.spine :=
    fun s f v hf => setF_idx_spine s f c v hf hc
  simp (disch := decide) [State.unsettle, State.setChFlag, chFlags, setBit_eq_setF, h]

@[simp] theorem excCommit_spine (s old : State) : (s.excCommit old).spine = s.spine := by
  refine foldl_range_spine _ _ (fun s c hc => ?_) s
  have hc : c < 0x1000 := by omega
  simp [unsettle_spine _ _ hc]

end Sys2Proof.Machine
end

section
/-! PROOFS. What the power of domains (R365 to R367) may change of the spine: the domains' own state, and pending values that go with the pages
of a domain. -/

namespace Sys2Proof.Machine

/-! ## The relation -/

/-- The words that power changes: `SYS_COMMIT_STAT`, where a discard empties the pending set, and the state of domain FIR. -/
abbrev powerWord (a : Nat) : Prop := a = F.SYS_COMMIT_STAT.STATUS.addr ∨ a = (F.PWM_DOM_STAT.STATE.inst 8).addr

/-- A spine without the pending set, the commit in force, and their register. -/
def Spine.uncommitted (x : Spine) : Spine :=
  { x with shadow := [], owner := none, armed := none, word := fun a => if a = F.SYS_COMMIT_STAT.STATUS.addr then none else x.word a }

/-- A spine without what power changes of it: of the power state only what is shed is kept. -/
def Spine.powered (x : Spine) : Spine :=
  { x.uncommitted with pwr := { PowerState.reset with shed := x.pwr.shed }
                       word := fun a => if a = (F.PWM_DOM_STAT.STATE.inst 8).addr then none else x.uncommitted.word a }

theorem getF_of_uncommitted {s t : State} (h : t.spine.uncommitted = s.spine.uncommitted) {f : Field} (hf : mainWord f.addr)
    (hne : f.addr ≠ F.SYS_COMMIT_STAT.STATUS.addr) : t.getF f = s.getF f := by
  have hw := congrFun (congrArg Spine.word h) f.addr
  simp only [Spine.uncommitted, State.spine, if_neg hne, if_pos hf, Option.some.injEq] at hw
  exact getF_congr hw

theorem powered_of_uncommitted {x y : Spine} (h : x.uncommitted = y.uncommitted) (hp : x.pwr.shed = y.pwr.shed) : x.powered = y.powered := by
  unfold Spine.powered
  rw [h, hp]

/-- What domains that stop, are held or start may do to a state. -/
structure State.Powers (s t : State) : Prop where
  same : t.spine.powered = s.spine.powered
  idle : s.shadow = [] → t.shadow = [] ∧ t.sys.armed = s.sys.armed ∧ t.getF F.SYS_COMMIT_STAT.STATUS = s.getF F.SYS_COMMIT_STAT.STATUS
  on : ∀ d, t.on d = true → s.on d = true

namespace State.Powers

theorem refl (s : State) : s.Powers s := ⟨rfl, fun h => ⟨h, rfl, rfl⟩, fun _ h => h⟩

theorem trans {s t u : State} (h : s.Powers t) (k : t.Powers u) : s.Powers u where
  same := k.same.trans h.same
  idle := fun hs => by
    obtain ⟨ht, harm, hst⟩ := h.idle hs
    obtain ⟨hu, harm', hst'⟩ := k.idle ht
    exact ⟨hu, harm'.trans harm, hst'.trans hst⟩
  on := fun d hd => h.on d (k.on d hd)

theorem of_spine {s t : State} (h : t.spine = s.spine) : s.Powers t where
  same := congrArg Spine.powered h
  idle := fun hs => ⟨(congrArg Spine.shadow h).trans hs, congrArg Spine.armed h, getF_of_spine h (by decide)⟩
  on := fun d hd => by
    have hp : t.pwr = s.pwr := congrArg Spine.pwr h
    simpa only [State.on, hp] using hd

/-- A register of the spine that power does not change. -/
theorem getF {s t : State} (h : s.Powers t) {f : Field} (hf : mainWord f.addr) (hp : ¬ powerWord f.addr) : t.getF f = s.getF f := by
  have hw := congrFun (congrArg Spine.word h.same) f.addr
  obtain ⟨hst, hfir⟩ := not_or.1 hp
  simp only [Spine.powered, Spine.uncommitted, State.spine, if_neg hst, if_neg hfir, if_pos hf, Option.some.injEq] at hw
  exact getF_congr hw

theorem dev {s t : State} (h : s.Powers t) : t.dev = s.dev := congrArg DevState.ofCode (h.getF (by decide) (by decide))

theorem shed {s t : State} (h : s.Powers t) : t.pwr.shed = s.pwr.shed := congrArg (fun x : Spine => x.pwr.shed) h.same

theorem rst {s t : State} (h : s.Powers t) : t.rst = s.rst := congrArg Spine.rst h.same

theorem stay {s t : State} (h : s.Powers t) : t.sys.stay = s.sys.stay := congrArg Spine.stay h.same

theorem ackHeld {s t : State} (h : s.Powers t) : t.tp.ackHeld = s.tp.ackHeld := congrArg Spine.ackHeld h.same

/-- What was not released is not released now. -/
theorem off {s t : State} (h : s.Powers t) {d : Nat} (hd : s.on d = false) : t.on d = false :=
  Bool.eq_false_iff.2 (fun ht => by simp [h.on d ht] at hd)

theorem foldl {β : Type} (l : List β) (g : State → β → State) (hg : ∀ (s : State), ∀ b ∈ l, s.Powers (g s b)) (s : State) :
    s.Powers (l.foldl g s) := by
  induction l generalizing s with
  | nil => exact refl s
  | cons b l ih => exact (hg s b List.mem_cons_self).trans (ih (fun s c hc => hg s c (List.mem_cons_of_mem _ hc)) _)

end State.Powers

/-! ## Single steps -/

/-- The power state changes, without a domain released or shed. -/
theorem mapPwr_powers (s : State) (g : PowerState → PowerState) (hshed : (g s.pwr).shed = s.pwr.shed)
    (hrel : ∀ d, (g s.pwr).released.contains d = true → s.pwr.released.contains d = true) : s.Powers (s.mapPwr g) where
  same := by
    have h : (s.mapPwr g).spine.powered = { s.spine.powered with pwr := { PowerState.reset with shed := (g s.pwr).shed } } := rfl
    rw [h, hshed]
    rfl
  idle := fun hs => ⟨hs, rfl, rfl⟩
  on := hrel

/-- A word of `PWM_DOM_STAT` is written. -/
theorem setDomWord_powers (s : State) (f : Field) (d v : Nat) (hf : f.addr = (F.PWM_DOM_STAT.STATE.inst d).addr) : s.Powers (s.setF f v) := by
  have hne : F.SYS_COMMIT_STAT.STATUS.addr ≠ f.addr := hf ▸ (inst_addr_ne F.PWM_DOM_STAT.STATE F.SYS_COMMIT_STAT.STATUS d (by decide)).symm
  refine ⟨?_, fun hs => ⟨hs, rfl, getF_setF_other _ _ _ _ hne⟩, fun _ h => h⟩
  have hw : (s.setF f v).spine.powered.word = s.spine.powered.word := by
    funext a
    simp only [Spine.powered, Spine.uncommitted, State.spine]
    split
    · rfl
    · next hp =>
      split
      · rfl
      · split
        · next hm =>
          rw [peek_setF_other _ _ _ (fun he => ?_)]
          rw [hf] at he
          simp only [mainWord, Field.inst] at hp hm he
          omega
        · rfl
  have e : (s.setF f v).spine.powered = { s.spine.powered with word := (s.setF f v).spine.powered.word } := rfl
  rw [e, hw]

theorem setDom_powers (s : State) (d st : Nat) : s.Powers (s.setDom d st) := setDomWord_powers s _ d st rfl

/-- The emptied pending set says so in `SYS_COMMIT_STAT`; nothing else of the spine changes. -/
theorem emptyPending_uncommitted (s : State) (v : Nat) :
    (s.emptyPending.setF F.SYS_COMMIT_STAT.STATUS v).spine.uncommitted = s.spine.uncommitted := by
  have hw : (s.emptyPending.setF F.SYS_COMMIT_STAT.STATUS v).spine.uncommitted.word = s.spine.uncommitted.word := by
    funext a
    simp only [Spine.uncommitted, State.spine]
    split
    · rfl
    · next hp =>
      rw [peek_setF_other _ _ _ hp]
      rfl
  have e : (s.emptyPending.setF F.SYS_COMMIT_STAT.STATUS v).spine.uncommitted =
      { s.spine.uncommitted with word := (s.emptyPending.setF F.SYS_COMMIT_STAT.STATUS v).spine.uncommitted.word } := rfl
  rw [e, hw]

/-- A page drops its pending values (R367). -/
theorem discardPage_powers (s : State) (p : Nat) : s.Powers (s.discardPage p) := by
  have hpend : s.shadow = [] → s.pagePending p = false := fun hs => by simp [State.pagePending, hs]
  unfold State.discardPage
  extract_lets t
  have ht : s.Powers t := ⟨rfl, fun hs => ⟨by simp [t, hs], rfl, rfl⟩, fun _ h => h⟩
  clear_value t
  split
  · next h =>
    refine ⟨(powered_of_uncommitted (emptyPending_uncommitted t 0) rfl).trans ht.same, fun hs => ?_, ht.on⟩
    simp [hpend hs] at h
  · exact ht

theorem discardPage_pwr (s : State) (p : Nat) : (s.discardPage p).pwr = s.pwr := by
  unfold State.discardPage
  dsimp only
  split <;> rfl

/-! ## A domain is dropped -/

@[simp] theorem monitorOut_spine (s : State) (n st : Nat) : (s.monitorOut n st).spine = s.spine := by
  unfold State.monitorOut State.setStable
  rw [setBit_spine _ _ _ _ (by decide), setF_inst_spine _ _ _ _ (by decide), mapTime_spine]

@[simp] theorem monitorOff_spine (s : State) (n : Nat) : (s.monitorOff n).spine = s.spine := by
  unfold State.monitorOff
  dsimp only
  split
  · exact (setBit_spine _ _ _ _ (by decide)).trans (monitorOut_spine s n 0)
  · exact monitorOut_spine s n 0

/-- The datapath's blocks, and the memories. -/
theorem blocks_spine (s : State) (sch : SchedState) (emt : EmitState) (etd : EtdState) (rxc : RxState) (ram : List (Nat × Word)) :
    ({ s with sch := sch, emt := emt, etd := etd, rxc := rxc, ram := ram } : State).spine = s.spine := by
  cases s
  rfl

theorem ite_spine_of {c : Prop} [Decidable c] {a b t : State} (ha : c → a.spine = t.spine) (hb : ¬ c → b.spine = t.spine) :
    (if c then a else b).spine = t.spine := by
  split
  · exact ha ‹_›
  · exact hb ‹_›

/-- What the blocks of a domain hold is no part of the spine. -/
@[simp] theorem resetEngine_spine (s : State) (d why : Nat) : (s.resetEngine d why).spine = s.spine := by
  unfold State.resetEngine
  refine ite_spine_of (fun _ => rfl) (fun _ => ?_)
  refine ite_spine_of (fun _ => rfl) (fun _ => ?_)
  refine ite_spine_of (fun _ => mapTime_spine _ _) (fun _ => ?_)
  refine ite_spine_of (fun _ => mapCal_spine _ _) (fun _ => ?_)
  refine ite_spine_of (fun _ => ite_spine_of (fun _ => rfl) (fun _ => rfl)) (fun _ => ?_)
  refine ite_spine_of (fun hd => ?_) (fun _ => ?_)
  · extract_lets p was _ u
    have hu : u.spine = s.spine := (mapPort_spine _ _ _).trans (setF_nt_spine _ p _ F.NTA_STAT.STAGE (by omega) (by decide))
    clear_value u
    exact ite_spine_of (fun _ => ite_spine_of (fun _ => hu) (fun _ => hu)) (fun _ => hu)
  refine ite_spine_of (fun _ => ?_) (fun _ => ?_)
  · refine (blocks_spine _ _ _ _ _ _).trans (foldl_range_spine _ _ (fun s c hc => ?_) s)
    exact setChainState_spine s c 0 (by omega)
  refine ite_spine_of (fun _ => rfl) (fun _ => ?_)
  refine ite_spine_of (fun _ => rfl) (fun _ => ?_)
  refine ite_spine_of (fun _ => rfl) (fun _ => ?_)
  refine ite_spine_of (fun _ => rfl) (fun _ => ?_)
  exact ite_spine_of (fun _ => rfl) (fun _ => rfl)

/-- The power state without a released domain. -/
def PowerState.without (x : PowerState) (d why : Nat) : PowerState :=
  { x with released := x.released.filter (· ≠ d), why := tabSet d why x.why }

/-- A domain is dropped: it is no longer released, its blocks are reset, and its pages drop what is pending. -/
theorem dropDomain_eq (s : State) (d why : Nat) :
    ∃ z : State, z.spine = (s.mapPwr (fun x => x.without d why)).spine ∧ s.dropDomain d why = (domainPages d).foldl State.discardPage z := by
  unfold State.dropDomain
  extract_lets u v w x y z
  refine ⟨z, ?_, rfl⟩
  calc z.spine = y.spine := by
        show (if _ then y.workingCeilings none else y : State).spine = _
        rw [ite_spine, workingCeilings_spine, ite_self]
    _ = x.spine := by
        show (if _ then x.showNoImage else x : State).spine = _
        rw [ite_spine, showNoImage_spine, ite_self]
    _ = w.spine := by
        show (if _ then w.showStaged else w : State).spine = _
        rw [ite_spine, showStaged_spine, ite_self]
    _ = v.spine := by
        show (if why = 9 then (monitorsOf d).foldl State.monitorOff v else v : State).spine = _
        rw [ite_spine, foldl_spine _ _ (fun s n _ => monitorOff_spine s n), ite_self]
    _ = u.spine := resetEngine_spine u d why

theorem dropDomain_powers (s : State) (d why : Nat) : s.Powers (s.dropDomain d why) := by
  obtain ⟨z, hz, he⟩ := dropDomain_eq s d why
  have hu : s.Powers (s.mapPwr (fun x => x.without d why)) := mapPwr_powers s _ rfl (fun e he => by
    simp only [PowerState.without, List.contains_iff_mem, List.mem_filter] at he ⊢
    exact he.1)
  rw [he]
  exact (hu.trans (.of_spine hz)).trans (.foldl _ _ (fun s p _ => discardPage_powers s p) z)

/-- Of what was released, only the dropped domain is not released now. -/
theorem dropDomain_pwr (s : State) (d why : Nat) : (s.dropDomain d why).pwr = s.pwr.without d why := by
  obtain ⟨z, hz, he⟩ := dropDomain_eq s d why
  have hfold : ∀ (l : List Nat) (s : State), (l.foldl State.discardPage s).pwr = s.pwr := by
    intro l
    induction l with
    | nil => exact fun s => rfl
    | cons p l ih => exact fun s => (ih _).trans (discardPage_pwr s p)
  rw [he, hfold]
  exact congrArg Spine.pwr hz

theorem dropDomain_on (s : State) (d why e : Nat) : (s.dropDomain d why).on e = (s.on e && decide (e ≠ d)) := by
  rw [State.on, State.on, dropDomain_pwr]
  simp [PowerState.without, List.contains_eq_mem, List.mem_filter]

/-! ## Domains stop, are held, start -/

theorem holdDomain_powers (s : State) (level d : Nat) : s.Powers (s.holdDomain level d) := dropDomain_powers _ _ _

theorem stopDomain_powers (s : State) (d : Nat) : s.Powers (s.stopDomain d) := by
  have hdrop := dropDomain_powers s d 9
  have hstart : ∀ u : State, u.Powers (u.mapPwr (fun x => { x with startAt := tabDel d x.startAt })) := fun u =>
    mapPwr_powers u _ rfl (fun _ he => he)
  unfold State.stopDomain
  split
  · exact ((hdrop.trans (setDom_powers _ d 0)).trans (setDomWord_powers _ (F.PWM_DOM_STAT.CYCLES.inst d) d _ rfl)).trans (hstart _)
  · split
    · exact (hdrop.trans (setDom_powers _ d 3)).trans (hstart _)
    · exact hdrop.trans (setDom_powers _ d 3)
    · exact setDom_powers s d 3
    · exact .refl s

theorem losePower_powers (s : State) (d : Nat) : s.Powers (s.losePower d) :=
  ((dropDomain_powers s d 9).trans (setDom_powers _ d 0)).trans (mapPwr_powers _ _ rfl (fun _ he => he))

theorem startDomain_powers (s : State) (d : Nat) : s.Powers (s.startDomain d) :=
  ((mapPwr_powers s _ rfl (fun _ he => he)).trans (setDom_powers _ d 1)).trans (setDomWord_powers _ (F.PWM_DOM_STAT.CYCLES.inst d) d _ rfl)

theorem wantDomain_powers (s : State) (d : Nat) : s.Powers (s.wantDomain d) := by
  unfold State.wantDomain
  split
  · exact (setDom_powers s d 4).trans (.of_spine (raiseEvt_spine _ _ _))
  · exact .refl s

theorem sequence_powers (s : State) : s.Powers s.sequence := by
  unfold State.sequence
  split
  · exact .refl s
  · refine .foldl _ _ (fun s d _ => ?_) s
    split
    · exact startDomain_powers s d
    · exact .refl s

theorem updateDomains_powers (s : State) : s.Powers s.updateDomains := by
  refine .trans (.foldl _ _ (fun s d _ => ?_) s) (sequence_powers _)
  split
  · exact .refl s
  · split
    · exact wantDomain_powers s d
    · exact stopDomain_powers s d

end Sys2Proof.Machine
end

section
/-! PROOFS. Commits, soft resets and doubt (O58). -/

namespace Sys2Proof.Machine

/-! ## What a commit applies (R41) -/

/-- A word that holds no shadowed field is as it was after the pending values have been applied. -/
theorem applyWord_peek (s : State) (e : Nat × Word) {a : Nat} (ha : shFields a = []) : (s.applyWord e).peek a = s.peek a := by
  by_cases h : a = e.1
  · subst h
    simp [State.applyWord, ha, mergeFields]
  · exact peek_poke_other s _ h

theorem applyWords_peek {a : Nat} (ha : shFields a = []) (l : List (Nat × Word)) (s : State) : (l.foldl State.applyWord s).peek a = s.peek a := by
  induction l generalizing s with
  | nil => rfl
  | cons e l ih => exact (ih _).trans (applyWord_peek s e ha)

/-- The state that a commit leaves before the blocks take it up (R41, R43). -/
theorem applyCommit_shows (s : State) {f : Nat} (hf : f < 2 ^ 32) :
    (s.applyCommit f).shadow = [] ∧ (s.applyCommit f).sys.armed = none ∧ (s.applyCommit f).epoch = nextEpoch s.epoch ∧
      (s.applyCommit f).getF F.SYS_COMMIT_STAT.STATUS = 3 ∧ (s.applyCommit f).getF F.SYS_COMMIT_AT.FRAME = f := by
  have evts : ∀ (l : List Nat) (u : State), ((l.foldl (fun u p => u.raiseEvt p 30) u).spine = u.spine) := fun l =>
    foldl_spine l _ (fun u p _ => raiseEvt_spine u p 30)
  unfold State.applyCommit
  extract_lets o pages u v w x y
  have hv : v.epoch = s.epoch := getF_congr ((applyWords_peek rfl _ u).trans (peek_keepEra s _))
  clear_value v
  have hw : w.shadow = [] ∧ w.sys.armed = none ∧ w.epoch = nextEpoch s.epoch := by
    refine ⟨keepEra_shadow v.emptyPending, congrArg SysState.armed (keepEra_sys v.emptyPending), ?_⟩
    exact (advanceEpoch_epoch v.emptyPending).trans (congrArg nextEpoch hv)
  clear_value w
  obtain ⟨hsh, harm, hep⟩ := hw
  have hx : x.shadow = [] ∧ x.sys.armed = none ∧ x.epoch = nextEpoch s.epoch ∧ x.getF F.SYS_COMMIT_STAT.STATUS = 3 ∧
      x.getF F.SYS_COMMIT_AT.FRAME = f := by
    refine ⟨hsh, harm, ?_, ?_, getF_setF_of_lt _ _ (by decide) hf⟩
    · rw [State.epoch, getF_setF_other _ _ _ _ (by decide), getF_setF_other _ _ _ _ (by decide)]
      exact hep
    · rw [getF_setF_other _ _ _ _ (by decide), getF_setF_of_lt _ _ (by decide) (by decide)]
  clear_value x
  obtain ⟨hsh, harm, hep, hst, hat⟩ := hx
  have hy : (pages.foldl (fun u p => u.raiseEvt p 30) y).spine = x.spine := (evts pages y).trans (emitEvent_spine _ _ _ _ _ _ _)
  exact ⟨(congrArg Spine.shadow hy).trans hsh, (congrArg Spine.armed hy).trans harm, (getF_of_spine hy (by decide)).trans hep,
    (getF_of_spine hy (by decide)).trans hst, (getF_of_spine hy (by decide)).trans hat⟩

/-! ## What the blocks take up -/

theorem ite_powers {c : Prop} [Decidable c] {s a b : State} (ha : c → s.Powers a) (hb : ¬ c → s.Powers b) : s.Powers (if c then a else b) := by
  split
  · exact ha ‹_›
  · exact hb ‹_›

/-! The blocks take up a commit one after another; three stretches of that, each by itself (as one chain its steps are too many to take
apart at once). -/

/-- The scheduler, the chains and steering. -/
def State.takeProgram (s old : State) : State :=
  let s := if old.shadow.any (fun e => e.1 = F.SCH_BANK.SEL.addr || e.1 = F.STE_RPM.TARGET.addr) then s.setProgram else s
  let s := if s.getF F.SCH_BANK.SEL = old.getF F.SCH_BANK.SEL then s else s.raiseEvt 8 0
  (s.chainsCommit old).steeringCommit old

/-- The receiver, the converter and the reserve diodes. -/
def State.takeChannels (s old : State) : State :=
  let enabled := fun (c : Nat) => s.flag (chanEn c) && !old.flag (chanEn c)
  let s := { s with rxc := { s.rxc with updated := s.rxc.updated.filter (fun c => !enabled c) } }
  let s := if s.getF F.RXC_I2C_CFG.APPLY_SEQ ≠ old.getF F.RXC_I2C_CFG.APPLY_SEQ && !s.rxc.applySent then
    { s with rxc := { s.rxc with applyDue := true } } else s
  let s := if old.shadow.any (fun e => e.1 / 0x1000 = 0x17) && s.getF F.HKA_CTL.TRIG = 5 then
    s.mapHka (fun h => { h with timerFrom := s.now }) else s
  if s.moved old [F.EMT_WL.ACCEPT] || (List.range 4).any (fun c => s.compat c != old.compat c) then s.countReserves else s

/-- Time, the mount, addresses and ports. -/
def State.takePorts (s old : State) : State :=
  let s := if s.moved old [F.TSY_CTL.SRC] then s.timeCommit else s
  let s := if s.changedF old [F.CRM_MOUNT.EN] then s.showDeflection else s
  let s := if s.moved old [F.NTA_IP.V4, F.NTA_IPV4_BASE.ADDR] then s.updateIp else s
  ((s.portCommit old 0).portCommit old 1).ipCommit old

theorem takeUp_eq (s old : State) :
    s.takeUp old =
      (let u := ((s.takeProgram old).takeChannels old).takePorts old
       let v := if u.moved old [F.PWM_DOM_EN0.EN, F.PWM_DOM_EN1.EN] then u.updateDomains else u
       let w := if v.getF F.SFA_IMG_SEQ.SEQ = old.getF F.SFA_IMG_SEQ.SEQ then v else v.activateImage
       (w.excCommit old).updateValid) := rfl

/-- A step that may be taken, and leaves the spine. -/
theorem may_spine {c : Prop} [Decidable c] {u v : State} (h : v.spine = u.spine) :
    (if c then v else u).spine = u.spine ∧ (if c then u else v).spine = u.spine :=
  ⟨ite_spine_of (fun _ => h) (fun _ => rfl), ite_spine_of (fun _ => rfl) (fun _ => h)⟩

theorem takeProgram_spine (s old : State) : (s.takeProgram old).spine = s.spine := by
  unfold State.takeProgram
  extract_lets u v
  have hu : u.spine = s.spine := (may_spine (setProgram_spine s)).1
  have hv : v.spine = u.spine := (may_spine (raiseEvt_spine u 8 0)).2
  rw [steeringCommit_spine, chainsCommit_spine, hv, hu]

theorem takeChannels_spine (s old : State) : (s.takeChannels old).spine = s.spine := by
  unfold State.takeChannels
  extract_lets en _ u _ v w
  have hu : u.spine = s.spine := rxc_spine s _
  have hv : v.spine = u.spine := (may_spine (rxc_spine u _)).1
  have hw : w.spine = v.spine := (may_spine (mapHka_spine v _)).1
  exact (may_spine (countReserves_spine w)).1.trans (hw.trans (hv.trans hu))

theorem takePorts_spine (s old : State) : (s.takePorts old).spine = s.spine := by
  unfold State.takePorts
  extract_lets u v w
  have hu : u.spine = s.spine := (may_spine (timeCommit_spine s)).1
  have hv : v.spine = u.spine := (may_spine (showDeflection_spine u)).1
  have hw : w.spine = v.spine := (may_spine (updateIp_spine v)).1
  rw [ipCommit_spine, portCommit_spine _ _ (by decide), portCommit_spine _ _ (by decide), hw, hv, hu]

/-- But for the power of domains the blocks leave the spine as a commit has made it. -/
theorem takeUp_powers (s old : State) : s.Powers (s.takeUp old) := by
  rw [takeUp_eq]
  extract_lets u v w
  have hu : u.spine = s.spine := by
    rw [takePorts_spine, takeChannels_spine, takeProgram_spine]
  have hv : u.Powers v := ite_powers (fun _ => updateDomains_powers u) (fun _ => .refl u)
  have hw : (State.updateValid (w.excCommit old)).spine = v.spine := by
    rw [updateValid_spine, excCommit_spine]
    exact (may_spine (activateImage_spine v)).2
  exact (State.Powers.of_spine hu).trans (hv.trans (.of_spine hw))

/-- A commit that applies in a state without frames: everything pending is in force (R40, R41). -/
theorem commitNow_shows (s : State) {f : Nat} (hf : f < 2 ^ 32) :
    (s.commitNow f).shadow = [] ∧ (s.commitNow f).sys.armed = none ∧ (s.commitNow f).epoch = nextEpoch s.epoch ∧
      (s.commitNow f).getF F.SYS_COMMIT_STAT.STATUS = 3 ∧ (s.commitNow f).getF F.SYS_COMMIT_AT.FRAME = f := by
  unfold State.commitNow
  extract_lets u v
  have hv : v.spine = s.spine :=
    calc v.spine = u.spine := ite_spine_of (fun _ => calAbort_spine u) (fun _ => rfl)
      _ = s.spine := (hkaClose_spine _).trans (closeSteering_spine s)
  obtain ⟨hsh, harm, hep, hst, hat⟩ := applyCommit_shows v hf
  have hp := takeUp_powers (v.applyCommit f) v
  obtain ⟨hsh', harm', hst'⟩ := hp.idle hsh
  refine ⟨hsh', harm'.trans harm, ?_, hst'.trans hst, (hp.getF (by decide) (by decide)).trans hat⟩
  exact (hp.getF (by decide) (by decide)).trans (hep.trans (congrArg nextEpoch (getF_of_spine hv (by decide))))

/-- Settles O58: the commit that applies without frames, the soft reset that completes, the entry to `SAFE`, and the cause that joins a stay. -/
theorem commitsAndDoubt : Obligations.CommitsAndDoubt := by
  refine ⟨?_, ?_, ?_, ?_⟩
  · intro s t a ha hat hfr
    have hfr' : (s.at t).frames = false := by
      simp only [State.frames, State.at_dev] at hfr ⊢
      exact hfr
    have hdo : doCommitApply t s = (s.at t).commitNow (s.at t).frameNo := by
      simp [doCommitApply, ha, hat, hfr']
    have hno : (s.at t).frameNo = s.frameNo := State.at_getF s t _
    have hlt : (s.at t).frameNo < 2 ^ 32 := getF_lt _ F.SYS_FRAME.VALUE
    obtain ⟨hsh, harm, hep, hst, hcf⟩ := commitNow_shows (s.at t) hlt
    refine ⟨_, rfl, ?_⟩
    rw [hdo]
    refine ⟨?_, ?_, ?_, ?_, ?_⟩
    · rw [State.settle_sys_armed, harm]
    · rw [State.settle_shadow, hsh]
    · rw [State.epoch, State.settle_getF _ _ (by decide)]
      exact hep.trans (congrArg nextEpoch (State.at_getF s t _))
    · rw [State.settle_getF _ _ (by decide), hst]
    · rw [State.settle_getF _ _ (by decide), hcf, hno]
  · intro s page t hon hin
    exact ⟨_, rfl, doSoftResetComplete_shows t hon hin⟩
  · intro s cause t hshort hcyc hc
    have hdo : doSafeEntry cause t s = (s.at t).enterSafe cause [] := if_pos hc
    have hlt : cause < 256 := by
      simp only [safeCause, between, Bool.or_eq_true, Bool.and_eq_true, decide_eq_true_eq] at hc
      omega
    have hshort' : (s.at t).dev = .boot ∨ (s.at t).dev = .standby ∨ (s.at t).dev = .spinup ∨ (s.at t).dev = .run ∨ (s.at t).dev = .degraded := by
      rwa [State.at_dev]
    have hcyc' : (s.at t).dev = .boot → (s.at t).sameCycle = false := fun h => hcyc (by rwa [State.at_dev] at h)
    refine ⟨_, rfl, ?_⟩
    rw [hdo]
    obtain ⟨hdev, hcause, hdark⟩ := enterSafe_settled (s.at t) [] hlt hshort' hcyc'
    refine ⟨hdev, hcause, fun he => ?_, hdark⟩
    rw [State.settle_sys_stay]
    exact enterSafe_stay _ _ (by simp [stayCause, hc, he]) hshort' hcyc'
  · intro s cause t hsafe hc he
    have hdo : doSafeEntry cause t s = (s.at t).enterSafe cause [] := if_pos hc
    obtain ⟨hstay, hget⟩ := enterSafe_in_safe (s.at t) ((State.at_dev s t).trans hsafe) (c := cause) (by simp [stayCause, hc, he])
    refine ⟨_, rfl, ?_⟩
    rw [hdo]
    refine ⟨?_, ?_, ?_, fun c hin => ?_⟩
    · rw [State.settle_dev, State.dev, hget _ (by decide)]
      exact (State.at_dev s t).trans hsafe
    · rw [State.settle_getF _ _ (by decide), hget _ (by decide), State.at_getF]
    · rw [State.settle_sys_stay, hstay]
      cases h : (s.at t).sys.stay.contains cause
      · simp
      · simpa using h
    · rw [State.settle_sys_stay, hstay, State.at_sys]
      simp [hin]

end Sys2Proof.Machine
end

section
/-! PROOFS. Resets take effect (O49). -/

namespace Sys2Proof.Machine

/-! ## What a reset of any level begins with: its count, what is pending cancelled, frames ended -/

theorem cancelPending_uncommitted (s : State) (c : Nat) : (s.cancelPending c).spine.uncommitted = s.spine.uncommitted := by
  unfold State.cancelPending
  split
  · rfl
  · exact (congrArg Spine.uncommitted (emitEvent_spine _ _ _ _ _ _ _)).trans (emptyPending_uncommitted s 4)

theorem cancelPending_shadow (s : State) (c : Nat) : (s.cancelPending c).shadow = [] := by
  unfold State.cancelPending
  split
  · rfl
  · exact State.emitEvent_shadow _ _ _ _ _ _ _

theorem cancelPending_sameCycle (s : State) (c : Nat) : (s.cancelPending c).sameCycle = s.sameCycle := by
  unfold State.cancelPending
  split
  · rfl
  · exact sameCycle_congr (emitEvent_reports _ _ _ _ _ _ _).now (emitEvent_moved _ _ _ _ _ _ _)

theorem cancelPending_dev (s : State) (c : Nat) : (s.cancelPending c).dev = s.dev :=
  congrArg DevState.ofCode (getF_of_uncommitted (cancelPending_uncommitted s c) (by decide) (by decide))

/-- The state in which a reset takes effect at its level. -/
def State.cleared (s : State) (level : Nat) : State :=
  let s := (s.countLevel level).cancelPending 0
  if s.frames then s.abortFrames else s

/-- What a reset of any level leaves before its own part. -/
structure State.Clears (s u : State) : Prop where
  rst : u.rst = s.rst
  pwr : u.pwr = s.pwr
  sessions : u.tp.sessions = s.tp.sessions
  nor : u.tp.nor = s.tp.nor
  shadow : u.shadow = []
  getF : ∀ f : Field, mainWord f.addr → f.addr ≠ F.SYS_COMMIT_STAT.STATUS.addr → f.addr ≠ F.RST_LVL_CNT.COUNT.addr → u.getF f = s.getF f
  cycle : s.dev = .boot → u.sameCycle = s.sameCycle

theorem State.Clears.dev {s u : State} (h : s.Clears u) : u.dev = s.dev :=
  congrArg DevState.ofCode (h.getF _ (by decide) (by decide) (by decide))

theorem cleared_clears (s : State) (level : Nat) : s.Clears (s.cleared level) := by
  unfold State.cleared
  extract_lets u
  have hu : u.spine.uncommitted = (s.countLevel level).spine.uncommitted := cancelPending_uncommitted _ _
  have hcount : ∀ f : Field, f.addr ≠ F.RST_LVL_CNT.COUNT.addr → (s.countLevel level).getF f = s.getF f := fun f hf =>
    getF_setF_other _ _ _ _ hf
  have hdev : u.dev = s.dev := (cancelPending_dev _ _).trans (congrArg DevState.ofCode (hcount _ (by decide)))
  have hshadow : u.shadow = [] := cancelPending_shadow _ _
  have hcycle : u.sameCycle = s.sameCycle := cancelPending_sameCycle _ _
  clear_value u
  have hv : (if u.frames then u.abortFrames else u : State).spine = u.spine := ite_spine_of (fun _ => abortFrames_spine u) (fun _ => rfl)
  have hun : (if u.frames then u.abortFrames else u : State).spine.uncommitted = (s.countLevel level).spine.uncommitted :=
    (congrArg Spine.uncommitted hv).trans hu
  refine ⟨congrArg Spine.rst hun, congrArg Spine.pwr hun, congrArg Spine.sessions hun, congrArg Spine.nor hun,
    (congrArg Spine.shadow hv).trans hshadow, fun f hm hst hc => (getF_of_uncommitted hun hm hst).trans (hcount f hc), fun hb => ?_⟩
  have hfr : u.frames = false := by simp [State.frames, hdev, hb]
  rw [if_neg (by simp [hfr])]
  exact hcycle

/-! ## Each level's own part -/

@[simp] theorem enterBoot_dev (s : State) (c : Nat) (o : List Nat) : (s.enterBoot c o).dev = .boot := by
  unfold State.enterBoot
  split
  · assumption
  · exact enterState_dev _ _ _ _

theorem enterBoot_unstated (s : State) (c : Nat) (o : List Nat) : (s.enterBoot c o).spine.unstated = s.spine.unstated := by
  unfold State.enterBoot
  split
  · rfl
  · exact enterState_unstated _ _ _ _

/-- A wiped device is in `BOOT` with only AON released; NOR, the fuses and the reset in progress outlast it. -/
theorem wipeToBoot_leaves (s : State) (power : Bool) (c : Nat) (o : List Nat) :
    (s.wipeToBoot power c o).dev = .boot ∧ (s.wipeToBoot power c o).rst.active = s.rst.active ∧
      (s.wipeToBoot power c o).rst.fuseA = s.rst.fuseA ∧ (s.wipeToBoot power c o).pwr.released = [0] ∧
      (s.wipeToBoot power c o).tp.sessions = [] ∧ (s.wipeToBoot power c o).shadow = [] ∧ (s.wipeToBoot power c o).tp.nor = s.tp.nor := by
  have h : (s.wipeToBoot power c o).spine.unstated = ((s.wipe power).poke 0x110 (s.peek 0x110)).spine.unstated := enterBoot_unstated _ _ _
  exact ⟨enterBoot_dev _ _ _, congrArg (fun x : Spine => x.rst.active) h, congrArg (fun x : Spine => x.rst.fuseA) h,
    congrArg (fun x : Spine => x.pwr.released) h, congrArg Spine.sessions h, congrArg Spine.shadow h, congrArg Spine.nor h⟩

theorem foldl_holdDomain_powers (level : Nat) (l : List Nat) (s : State) : s.Powers (l.foldl (fun s d => s.holdDomain level d) s) :=
  .foldl _ _ (fun s d _ => holdDomain_powers s level d) s

/-- Of the domains held none is released any more, and the others are as they were. -/
theorem foldl_holdDomain_on (level e : Nat) (l : List Nat) (s : State) :
    (l.foldl (fun s d => s.holdDomain level d) s).on e = (s.on e && decide (e ∉ l)) := by
  induction l generalizing s with
  | nil => simp
  | cons d l ih =>
    rw [List.foldl_cons, ih, State.holdDomain, dropDomain_on, Bool.and_assoc, ← Bool.decide_and]
    simp

/-- The state of level 1 before its domains are held (R378): `BOOT`, without messages. -/
def State.bootedEmpty (s : State) (o : List Nat) : State :=
  (((s.enterBoot 0x04 o).setF F.RST_PROV.ACTIVE 0).unaccept (fun _ => true)).mapTp (fun x => { x with rxq := [] })

/-! The parts of the levels, each after what all begin with. -/

theorem takeReset_zero (s : State) :
    s.takeReset 0 =
      if !s.shadow.isEmpty || s.sys.armed.isSome then
        (((s.cleared 0).wipeToBoot false 0x03 s.boundaryCauses).setF F.SYS_COMMIT_STAT.STATUS 4).emitEvent 4 0 0 0 0 0
      else (s.cleared 0).wipeToBoot false 0x03 s.boundaryCauses := by
  rw [State.takeReset]
  rfl

theorem takeReset_one (s : State) :
    s.takeReset 1 = ((levelDomains 1).foldl (fun s d => s.holdDomain 1 d) ((s.cleared 1).bootedEmpty s.boundaryCauses)).mapRst
      (fun x => { x with selfTest := none, image := none, imageDone := false }) := by
  rw [State.takeReset]
  rfl

theorem takeReset_two (s : State) :
    s.takeReset 2 = (levelDomains 2).foldl (fun s d => s.holdDomain 2 d) ((s.cleared 2).enterSafe 0x25 s.boundaryCauses) := by
  rw [State.takeReset]
  rfl

theorem takeReset_more (s : State) {level : Nat} (h : 3 ≤ level) :
    s.takeReset level = (s.cleared level).enterSafe 0x26 s.boundaryCauses := by
  rw [State.takeReset]
  · rfl
  · omega
  · omega
  · omega

/-- Level 0 leaves a device just started, with NOR and the fuses as they were. -/
theorem takeReset_zero_leaves (s : State) :
    (s.takeReset 0).dev = .boot ∧ (s.takeReset 0).rst.active = s.rst.active ∧ (s.takeReset 0).rst.fuseA = s.rst.fuseA ∧
      (s.takeReset 0).pwr.released = [0] ∧ (s.takeReset 0).tp.sessions = [] ∧ (s.takeReset 0).shadow = [] ∧
      (s.takeReset 0).tp.nor = s.tp.nor := by
  have hc := cleared_clears s 0
  obtain ⟨hdev, hact, hfuse, hrel, hses, hsh, hnor⟩ := wipeToBoot_leaves (s.cleared 0) false 0x03 s.boundaryCauses
  rw [hc.rst] at hact hfuse
  rw [hc.nor] at hnor
  rw [takeReset_zero]
  split
  · have hev : ∀ u : State, (u.emitEvent 4 0 0 0 0 0).spine = u.spine := fun u => emitEvent_spine u _ _ _ _ _ _
    generalize (s.cleared 0).wipeToBoot false 0x03 s.boundaryCauses = w at *
    have hsp := hev (w.setF F.SYS_COMMIT_STAT.STATUS 4)
    have hd : (w.setF F.SYS_COMMIT_STAT.STATUS 4).dev = w.dev := congrArg DevState.ofCode (getF_setF_other _ _ _ _ (by decide))
    exact ⟨(dev_of_spine hsp).trans (hd.trans hdev), (congrArg (fun x : Spine => x.rst.active) hsp).trans hact,
      (congrArg (fun x : Spine => x.rst.fuseA) hsp).trans hfuse, (congrArg (fun x : Spine => x.pwr.released) hsp).trans hrel,
      (congrArg Spine.sessions hsp).trans hses, (congrArg Spine.shadow hsp).trans hsh, (congrArg Spine.nor hsp).trans hnor⟩
  · exact ⟨hdev, hact, hfuse, hrel, hses, hsh, hnor⟩

theorem bootedEmpty_leaves (s : State) (o : List Nat) :
    (s.bootedEmpty o).dev = .boot ∧ (s.bootedEmpty o).rst = s.rst ∧ (s.bootedEmpty o).shadow = s.shadow := by
  have hboot := enterBoot_unstated s 0x04 o
  have hd : ((s.enterBoot 0x04 o).setF F.RST_PROV.ACTIVE 0).dev = (s.enterBoot 0x04 o).dev :=
    congrArg DevState.ofCode (getF_setF_other _ _ _ _ (by decide))
  exact ⟨hd.trans (enterBoot_dev _ _ _), congrArg Spine.rst hboot, congrArg Spine.shadow hboot⟩

/-- Level 1 leaves `BOOT`, nothing pending, and every domain but AON held. -/
theorem takeReset_one_leaves (s : State) :
    (s.takeReset 1).dev = .boot ∧ (s.takeReset 1).rst.active = s.rst.active ∧ (s.takeReset 1).shadow = [] ∧
      ∀ d, 1 ≤ d → d < 36 → (s.takeReset 1).on d = false := by
  have hc := cleared_clears s 1
  obtain ⟨hdev, hrst, hsh⟩ := bootedEmpty_leaves (s.cleared 1) s.boundaryCauses
  rw [hc.rst] at hrst
  rw [hc.shadow] at hsh
  rw [takeReset_one]
  generalize (s.cleared 1).bootedEmpty s.boundaryCauses = u at *
  have hp := foldl_holdDomain_powers 1 (levelDomains 1) u
  have hon := fun e => foldl_holdDomain_on 1 e (levelDomains 1) u
  generalize (levelDomains 1).foldl (fun s d => s.holdDomain 1 d) u = v at *
  have hact : v.rst.active = s.rst.active := congrArg RstState.active (hp.rst.trans hrst)
  refine ⟨hp.dev.trans hdev, hact, (hp.idle hsh).1, fun d h1 h2 => ?_⟩
  have hin : d ∈ levelDomains 1 := by
    simp only [levelDomains, Nat.le_refl, if_true, List.mem_map, List.mem_range]
    exact ⟨d - 1, by omega, by omega⟩
  exact (hon d).trans (by simp [hin])

/-- The part of level 2: `SAFE`, and the datapath held. -/
theorem takeReset_two_leaves (s : State) :
    (s.takeReset 2).rst.active = s.rst.active ∧ (∀ d, 8 ≤ d → d < 36 → (s.takeReset 2).on d = false) ∧
      (∀ d, d < 8 → (s.takeReset 2).on d = s.on d) := by
  have hc := cleared_clears s 2
  have hs := enterSafe_unstated (s.cleared 2) 0x25 s.boundaryCauses
  rw [takeReset_two]
  generalize (s.cleared 2).enterSafe 0x25 s.boundaryCauses = u at *
  have hmem : ∀ d, d ∈ levelDomains 2 ↔ 8 ≤ d ∧ d < 36 := by
    intro d
    simp only [levelDomains, Nat.reduceLeDiff, if_false, if_true, List.mem_map, List.mem_range]
    exact ⟨by rintro ⟨k, hk, rfl⟩; omega, fun h => ⟨d - 8, by omega, by omega⟩⟩
  have hpwr : u.pwr = s.pwr := (congrArg Spine.pwr hs).trans hc.pwr
  refine ⟨?_, fun d h1 h2 => ?_, fun d h => ?_⟩
  · rw [(foldl_holdDomain_powers 2 _ _).rst]
    exact congrArg RstState.active ((congrArg Spine.rst hs).trans hc.rst)
  · rw [foldl_holdDomain_on]
    simp [(hmem d).2 ⟨h1, h2⟩]
  · rw [foldl_holdDomain_on, State.on, hpwr]
    have hn : d ∉ levelDomains 2 := fun hin => by have := (hmem d).1 hin; omega
    simp [hn, State.on]

/-- A reset of any level leaves the reset in progress as it is. -/
theorem takeReset_active (s : State) (level : Nat) : (s.takeReset level).rst.active = s.rst.active := by
  obtain rfl | rfl | rfl | h : level = 0 ∨ level = 1 ∨ level = 2 ∨ 3 ≤ level := by omega
  · exact (takeReset_zero_leaves s).2.1
  · exact (takeReset_one_leaves s).2.1
  · exact (takeReset_two_leaves s).1
  · rw [takeReset_more s h]
    exact congrArg RstState.active ((congrArg Spine.rst (enterSafe_unstated _ _ _)).trans (cleared_clears s level).rst)

/-- Levels 2 and 3 lead to `SAFE` with their cause from a state short of it. -/
theorem takeReset_safe (s : State) {level : Nat} (h : level = 2 ∨ level = 3)
    (hs : s.dev = .boot ∨ s.dev = .standby ∨ s.dev = .spinup ∨ s.dev = .run ∨ s.dev = .degraded) (n : s.dev = .boot → s.sameCycle = false) :
    (s.takeReset level).dev = .safe ∧ (s.takeReset level).getF F.SYS_STATE.CAUSE = 0x23 + level := by
  have hc := cleared_clears s level
  have hs' : (s.cleared level).dev = .boot ∨ (s.cleared level).dev = .standby ∨ (s.cleared level).dev = .spinup ∨
      (s.cleared level).dev = .run ∨ (s.cleared level).dev = .degraded := by rwa [hc.dev]
  have n' : (s.cleared level).dev = .boot → (s.cleared level).sameCycle = false := fun hb => by
    rw [hc.dev] at hb
    rw [hc.cycle hb, n hb]
  obtain rfl | rfl := h
  · obtain ⟨hd, hca⟩ := enterSafe_enters (s.cleared 2) 0x25 s.boundaryCauses hs' n'
    rw [takeReset_two]
    have hp := foldl_holdDomain_powers 2 (levelDomains 2) ((s.cleared 2).enterSafe 0x25 s.boundaryCauses)
    exact ⟨hp.dev.trans hd, (hp.getF (by decide) (by decide)).trans hca⟩
  · rw [takeReset_more s (Nat.le_refl 3)]
    exact enterSafe_enters (s.cleared 3) 0x26 s.boundaryCauses hs' n'

/-! ## The reset takes effect -/

/-- The state in which a reset has been entered. -/
def State.entered (s : State) (r : ResetNow) : State := s.mapRst (fun x => { x with active := some { r with entered := true } })

theorem uncopied_at (s : State) (t : Nat) : (s.at t).uncopied = s.uncopied := by simp only [State.uncopied, State.at_tp]

theorem awaitsResponse_at (s : State) (t : Nat) (r : ResetNow) : (s.at t).awaitsResponse r = s.awaitsResponse r := by
  simp only [State.awaitsResponse, State.at_tp]

/-- A reset other than power-on, with nothing to wait for (R54, R382). -/
theorem doResetEntry_taken {s : State} {r : ResetNow} {level : Nat} (t : Nat) (hlevel : r.level = level) (ha : s.rst.active = some r) (he : r.entered = false) (hp : r.powerOn = false)
    (hw : s.awaitsResponse r = false) (hl : r.level ≠ 0 ∨ s.uncopied = 0 ∧ s.tp.marker = true) :
    doResetEntry t s = ((s.at t).entered r).takeReset level := by
  subst hlevel
  have hledger : (r.level = 0 && !(decide ((s.at t).uncopied = 0) && (s.at t).tp.marker)) = false := by
    rw [uncopied_at, State.at_tp]
    obtain hl | ⟨hu, hm⟩ := hl
    · simp [hl]
    · simp [hu, hm]
  have hwait : (s.at t).awaitsResponse r = false := (awaitsResponse_at s t r).trans hw
  unfold doResetEntry
  extract_lets u
  have hu : u.rst.active = some r := (congrArg RstState.active (State.at_rst s t)).trans ha
  split
  · next h => simp [hu] at h
  · next r' h =>
    obtain rfl : r' = r := Option.some.inj (h.symm.trans hu)
    rw [if_neg (by simp [he]), if_neg (by simp [hp]), if_neg (Bool.eq_false_iff.1 hledger), if_neg (Bool.eq_false_iff.1 hwait)]
    rfl

/-- A power-on of a device that is not off. -/
theorem doResetEntry_powerOn {s : State} {r : ResetNow} (t : Nat) (ha : s.rst.active = some r) (he : r.entered = false) (hp : r.powerOn = true)
    (hd : s.dev ≠ .off) :
    doResetEntry t s = ((((s.at t).entered r).wipeToBoot true ((s.at t).entered r).startCause []).setF F.RST_CAUSE.SOURCES 1).setF
      F.RST_CAUSE.LEVEL 0 := by
  have hd' : ((s.at t).entered r).dev ≠ .off := fun h => hd ((State.at_dev s t).symm.trans h)
  unfold doResetEntry
  extract_lets u
  have hu : u.rst.active = some r := (congrArg RstState.active (State.at_rst s t)).trans ha
  split
  · next h => simp [hu] at h
  · next r' h =>
    obtain rfl : r' = r := Option.some.inj (h.symm.trans hu)
    rw [if_neg (by simp [he]), if_pos hp]
    exact if_neg hd'

/-- While a reset is in progress, what settles is dark (R16). -/
theorem settle_dark_of_reset {s : State} {r : ResetNow} (h : s.rst.active = some r) : s.settle.dark = true :=
  dark_of_settled (settle_settled s) (.inr (by rw [State.settle_rst, h]; rfl))

theorem entered_cycle (s : State) (t : Nat) (r : ResetNow) :
    ((s.at t).entered r).dev = s.dev ∧ ((s.at t).entered r).sameCycle = (s.at t).sameCycle ∧
      ((s.at t).entered r).rst.active = some { r with entered := true } ∧ ((s.at t).entered r).rst.fuseA = s.rst.fuseA :=
  ⟨State.at_dev s t, rfl, rfl, (congrArg RstState.fuseA (State.at_rst s t) : (s.at t).rst.fuseA = s.rst.fuseA)⟩

/-- Settles O49: power-on, and each level by what it leaves. -/
theorem resetsTakeEffect : Obligations.ResetsTakeEffect := by
  refine ⟨?_, ?_, ?_, ?_, ?_⟩
  · intro s t r ha he hd hwait hledger
    refine ⟨_, rfl, ?_⟩
    obtain ⟨hdev, -, hact, -⟩ := entered_cycle s t r
    obtain hp | hp : r.powerOn = true ∨ r.powerOn = false := Bool.eq_false_or_eq_true _
    · rw [doResetEntry_powerOn t ha he hp hd]
      obtain ⟨hboot, hactive, -⟩ := wipeToBoot_leaves ((s.at t).entered r) true ((s.at t).entered r).startCause []
      generalize ((s.at t).entered r).wipeToBoot true ((s.at t).entered r).startCause [] = w at *
      have hout : ((w.setF F.RST_CAUSE.SOURCES 1).setF F.RST_CAUSE.LEVEL 0).rst.active = some { r with entered := true } := hactive.trans hact
      have hst : ((w.setF F.RST_CAUSE.SOURCES 1).setF F.RST_CAUSE.LEVEL 0).dev = w.dev :=
        congrArg DevState.ofCode ((getF_setF_other _ _ _ _ (by decide)).trans (getF_setF_other _ _ _ _ (by decide)))
      exact ⟨(congrArg RstState.active (State.settle_rst _)).trans hout, fun _ => (State.settle_dev _).trans (hst.trans hboot),
        settle_dark_of_reset hout⟩
    · rw [doResetEntry_taken t rfl ha he hp (hwait.resolve_left (by simp [hp])) (hledger.resolve_left (by simp [hp]))]
      have hout := (takeReset_active ((s.at t).entered r) r.level).trans hact
      refine ⟨(congrArg RstState.active (State.settle_rst _)).trans hout, fun h => ?_, settle_dark_of_reset hout⟩
      have hle : r.level ≤ 1 := h.resolve_left (by simp [hp])
      rw [State.settle_dev]
      obtain hl | hl : r.level = 0 ∨ r.level = 1 := by omega
      · rw [hl]
        exact (takeReset_zero_leaves _).1
      · rw [hl]
        exact (takeReset_one_leaves _).1
  · intro s t r ha he hp hw hl hu hm
    refine ⟨_, rfl, ?_⟩
    obtain ⟨-, -, hact, hfuse⟩ := entered_cycle s t r
    rw [doResetEntry_taken t hl ha he hp hw (.inr ⟨hu, hm⟩)]
    obtain ⟨hdev, hactive, hfuse', hrel, hses, hsh, hnor⟩ := takeReset_zero_leaves ((s.at t).entered r)
    have hout := hactive.trans hact
    have hnor' : ((s.at t).entered r).tp.nor = s.tp.nor := congrArg TransportState.nor (State.at_tp s t)
    simp only [State.settle_rst, State.settle_dev, State.settle_pwr, State.settle_tp_sessions, State.settle_shadow, State.settle_tp_nor]
    exact ⟨hout, hdev, hrel, hses, hsh, hnor.trans hnor', hfuse'.trans hfuse, settle_dark_of_reset hout⟩
  · intro s t r ha he hp hw hl
    refine ⟨_, rfl, ?_⟩
    obtain ⟨-, -, hact, -⟩ := entered_cycle s t r
    rw [doResetEntry_taken t hl ha he hp hw (.inl (by omega))]
    obtain ⟨hdev, hactive, hsh, hoff⟩ := takeReset_one_leaves ((s.at t).entered r)
    have hout := hactive.trans hact
    simp only [State.settle_rst, State.settle_dev, State.settle_shadow, State.settle_on]
    exact ⟨hout, hdev, hoff, hsh, settle_dark_of_reset hout⟩
  · intro s t r hshort hcyc ha he hp hw hl
    refine ⟨_, rfl, ?_⟩
    obtain ⟨hdev, hcycle, hact, -⟩ := entered_cycle s t r
    rw [doResetEntry_taken t hl ha he hp hw (.inl (by omega))]
    obtain ⟨hactive, hoff, hsame⟩ := takeReset_two_leaves ((s.at t).entered r)
    obtain ⟨hsafe, hcause⟩ := takeReset_safe ((s.at t).entered r) (.inl rfl) (by rwa [hdev]) (fun hb => hcycle.trans (hcyc (hdev ▸ hb)))
    have hout := hactive.trans hact
    have hon : ∀ d, ((s.at t).entered r).on d = s.on d := fun d => State.at_on s t d
    rw [State.settle_getF _ _ (by decide)]
    simp only [State.settle_rst, State.settle_dev, State.settle_on]
    exact ⟨hout, hsafe, hcause, hoff, fun d h => (hsame d h).trans (hon d), settle_dark_of_reset hout⟩
  · intro s t r hshort hcyc ha he hp hw hl
    refine ⟨_, rfl, ?_⟩
    obtain ⟨hdev, hcycle, hact, -⟩ := entered_cycle s t r
    rw [doResetEntry_taken t hl ha he hp hw (.inl (by omega))]
    obtain ⟨hsafe, hcause⟩ := takeReset_safe ((s.at t).entered r) (.inr rfl) (by rwa [hdev]) (fun hb => hcycle.trans (hcyc (hdev ▸ hb)))
    have hout := (takeReset_active ((s.at t).entered r) 3).trans hact
    have hc := cleared_clears ((s.at t).entered r) 3
    have hun := enterSafe_unstated (((s.at t).entered r).cleared 3) 0x26 ((s.at t).entered r).boundaryCauses
    rw [← takeReset_more _ (Nat.le_refl 3)] at hun
    have hrel : ((s.at t).entered r).pwr.released = s.pwr.released := congrArg PowerState.released (State.at_pwr s t)
    have hses : ((s.at t).entered r).tp.sessions = s.tp.sessions := congrArg TransportState.sessions (State.at_tp s t)
    rw [State.epoch, State.settle_getF _ _ (by decide), State.settle_getF _ _ (by decide)]
    simp only [State.settle_rst, State.settle_dev, State.settle_pwr, State.settle_tp_sessions]
    refine ⟨hout, hsafe, hcause, ?_, ?_, ?_, settle_dark_of_reset hout⟩
    · exact (congrArg (fun x : Spine => x.pwr.released) hun).trans ((congrArg PowerState.released hc.pwr).trans hrel)
    · exact (congrArg Spine.sessions hun).trans (hc.sessions.trans hses)
    · exact (getF_of_unstated hun (by decide) (by decide)).trans
        ((hc.getF _ (by decide) (by decide) (by decide)).trans (State.at_getF s t _))

end Sys2Proof.Machine
end

section
/-! PROOFS. Input modes, loss and hold-up (O47). -/

namespace Sys2Proof.Machine

/-! ## A change of mode (R357, R374) -/

/-- A change of mode writes the mode, its counter and the page's events. -/
theorem setMode_reports (s : State) (m : Nat) : s.Reports (fun a => a ≠ 0x2010 ∧ a ≠ 0x2104 ∧ a ≠ 0x2138) (s.setMode m) := by
  have evt : ∀ (u : State) (b : Nat), u.Reports (fun a => a ≠ 0x2010 ∧ a ≠ 0x2104 ∧ a ≠ 0x2138) (u.raiseEvt 2 b) := fun u b =>
    (raiseEvt_reports u 2 b).mono (fun _ h => h.1)
  unfold State.setMode
  extract_lets u v
  have hu : s.Reports (fun a => a ≠ 0x2010 ∧ a ≠ 0x2104 ∧ a ≠ 0x2138) u := by
    show s.Reports _ (if s.inputMode = 1 then s.raiseEvt 2 1 else s)
    split
    · exact evt s 1
    · exact .rfl_ s
  have hv := hu.trans ((setF_reports u F.PWM_STAT.MODE m).mono (fun _ h => h.2.1))
  split
  · exact (hv.trans ((setF_reports v F.PWM_CNT.LOWS _).mono (fun _ h => h.2.2))).trans (evt _ 0)
  · exact hv

theorem setMode_sameCycle (s : State) (m : Nat) : (s.setMode m).sameCycle = s.sameCycle := by
  unfold State.setMode
  extract_lets u v
  have hu : u.sameCycle = s.sameCycle := by
    show State.sameCycle (if s.inputMode = 1 then s.raiseEvt 2 1 else s) = _
    split
    · exact raiseEvt_sameCycle _ _ _
    · rfl
  have hv : v.sameCycle = s.sameCycle := (setF_sameCycle _ _ _).trans hu
  clear_value v
  split
  · exact (raiseEvt_sameCycle _ _ _).trans ((setF_sameCycle _ _ _).trans hv)
  · exact hv

theorem setMode_dev (s : State) (m : Nat) : (s.setMode m).dev = s.dev :=
  congrArg DevState.ofCode ((setMode_reports s m).getF (by decide))

/-- The mode it is changed to; the other bits of `PWM_STAT` stay; entries to LOW are counted. -/
theorem setMode_shows (s : State) {m : Nat} (hm : m < 8) :
    (s.setMode m).inputMode = m ∧ (∀ f : Field, f.addr = 0x2104 → 3 ≤ f.lsb → (s.setMode m).getF f = s.getF f) ∧
      (m = 1 → (s.setMode m).getF F.PWM_CNT.LOWS = min (s.getF F.PWM_CNT.LOWS + 1) (2 ^ F.PWM_CNT.LOWS.width - 1)) := by
  have evt : ∀ (u : State) (b : Nat) (f : Field), f.addr ≠ 0x2010 → (u.raiseEvt 2 b).getF f = u.getF f := fun u b f hf =>
    State.raiseEvt_getF u 2 b f hf
  unfold State.setMode
  extract_lets u v
  have hu : ∀ f : Field, f.addr ≠ 0x2010 → u.getF f = s.getF f := by
    intro f hf
    show State.getF (if s.inputMode = 1 then s.raiseEvt 2 1 else s) f = _
    split
    · exact evt s 1 f hf
    · rfl
  clear_value u
  have hvm : v.inputMode = m := getF_setF_of_lt _ _ (by decide) (by simpa using hm)
  have hvf : ∀ f : Field, f.addr = 0x2104 → 3 ≤ f.lsb → v.getF f = s.getF f := fun f ha hl =>
    (getF_setF_beside u F.PWM_STAT.MODE f m (by decide) (.inr (.inr hl))).trans (hu f (by omega))
  have hvl : v.getF F.PWM_CNT.LOWS = s.getF F.PWM_CNT.LOWS := (getF_setF_other _ _ _ _ (by decide)).trans (hu _ (by decide))
  clear_value v
  split
  · have hb : ∀ f : Field, f.addr = 0x2104 → ((v.bump F.PWM_CNT.LOWS 1).raiseEvt 2 0).getF f = v.getF f := fun f ha =>
      (evt _ 0 f (by omega)).trans (bump_getF_other _ _ _ _ (by simp only [ha]; decide))
    refine ⟨(hb _ rfl).trans hvm, fun f ha hl => (hb f ha).trans (hvf f ha hl), fun _ => ?_⟩
    rw [evt _ _ _ (by decide), State.bump_eq, getF_setF_min _ _ _ (by decide), hvl]
  · next hne => exact ⟨hvm, hvf, fun h => absurd h hne⟩

theorem beginEpisode_getF (s : State) (f : Field) : s.beginEpisode.getF f = s.getF f := rfl

theorem inputMode_settle (s : State) : s.settle.inputMode = s.inputMode := State.settle_getF s _ (by decide)

/-! ## A sample (R357, R361) -/

/-- The state that a sample is judged in. -/
theorem doInputSample_eq (s : State) (mv iin vhu t : Nat) :
    ∃ x : State, (x.dev = s.dev ∧ x.inputMode = s.inputMode ∧ x.sameCycle = (s.at t).sameCycle ∧
        x.getF F.PWM_CNT.LOWS = s.getF F.PWM_CNT.LOWS ∧ x.getF F.PWM_IN.VIN = min mv (2 ^ F.PWM_IN.VIN.width - 1)) ∧
      doInputSample mv iin vhu t s =
        (if x.dev = .off then x
         else if x.inputMode ≤ 1 && decide (mv < 4400) then ((x.setMode 2).beginEpisode.raiseEvt 2 2).enterSafe 0x28 []
         else if x.inputMode = 0 && decide (mv < 9000) then (x.setMode 1).beginEpisode
         else x) := by
  unfold doInputSample
  extract_lets u v w x
  refine ⟨x, ?_, rfl⟩
  have hu : ∀ f, u.getF f = s.getF f := State.at_getF s t
  have huc : u.sameCycle = (s.at t).sameCycle := rfl
  clear_value u
  have hv : ∀ f : Field, f.addr ≠ 0x2100 → v.getF f = s.getF f := fun f hf =>
    (getF_setF_other _ _ _ _ hf).trans ((getF_setF_other _ _ _ _ hf).trans (hu f))
  have hvin : v.getF F.PWM_IN.VIN = min mv (2 ^ F.PWM_IN.VIN.width - 1) :=
    (getF_setF_beside _ _ _ _ (by decide) (by decide)).trans (getF_setF_min _ _ _ (by decide))
  have hvc : v.sameCycle = (s.at t).sameCycle := huc
  clear_value v
  have hw : ∀ f : Field, f.addr ≠ 0x2118 → f.addr ≠ 0x2104 ∨ f.lsb + f.width ≤ 6 → w.getF f = v.getF f := fun f h1 h2 =>
    (getF_setF_beside _ _ _ _ (by decide) (h2.imp id .inl)).trans (getF_setF_other _ _ _ _ h1)
  have hwc : w.sameCycle = (s.at t).sameCycle := hvc
  clear_value w
  have hx : ∀ f, x.getF f = w.getF f := fun f => rfl
  have hxc : x.sameCycle = (s.at t).sameCycle := hwc
  clear_value x
  refine ⟨congrArg DevState.ofCode ?_, ?_, hxc, ?_, ?_⟩
  · rw [hx, hw _ (by decide) (by decide), hv _ (by decide)]
  · exact (hx _).trans ((hw _ (by decide) (by decide)).trans (hv _ (by decide)))
  · rw [hx, hw _ (by decide) (by decide), hv _ (by decide)]
  · rw [hx, hw _ (by decide) (by decide), hvin]

/-! ## A loss (R362, R55) -/

/-- A domain that is `ON` and is stopped is released no more. -/
theorem stopDomain_off {s : State} {d : Nat} (h : s.getF (F.PWM_DOM_STAT.STATE.inst d) = 2) : (s.stopDomain d).on d = false := by
  have hturn : s.awaitsTurn d = false := by simp [State.awaitsTurn, h]
  have hdom : s.domState d = 2 := (domState_eq_two s d).2 h
  unfold State.stopDomain
  rw [if_neg (by simp [hturn]), hdom]
  exact (dropDomain_on s d 9 d).trans (by simp)

/-- The datapath is shed, FIR first. -/
theorem shed_powers (s : State) : s.Powers (shedDomains.foldl State.stopDomain s) := .foldl _ _ (fun s d _ => stopDomain_powers s d) s

theorem shed_off {s : State} (h : s.getF (F.PWM_DOM_STAT.STATE.inst 8) = 2) : (shedDomains.foldl State.stopDomain s).on 8 = false := by
  have hcons : shedDomains = 8 :: shedDomains.drop 1 := rfl
  rw [hcons, List.foldl_cons]
  exact (State.Powers.foldl (shedDomains.drop 1) State.stopDomain (fun s d _ => stopDomain_powers s d) (s.stopDomain 8)).off (stopDomain_off h)

/-- A loss is noted: its mode, its episode, its count and its event. -/
def State.lossNoted (s : State) (high : Bool) : State :=
  (((s.setMode 3).setB F.PWM_STAT.OV high).beginEpisode.bump F.PWM_CNT.LOSSES 1).raiseEvt 2 3

/-- The state of a loss before the entry to `SAFE`: acknowledgements are held and what was accepted is not performed (R55). -/
def State.lossShown (s : State) (high : Bool) : State :=
  (((s.lossNoted high).setF F.PWM_STAT.ACK_HELD 1).mapTp (fun x => { x with ackHeld := true })).unaccept (fun _ => true)

theorem doLossEntry_enters {s : State} (t : Nat) (hd : s.dev ≠ .off) (hm : s.inputMode ≠ 3)
    (h : 37000 < s.getF F.PWM_IN.VIN ∨ (s.at t).heldFor s.pwr.below38 20000 = true) :
    ∃ high, doLossEntry t s =
      shedDomains.foldl State.stopDomain ((((s.at t).lossShown high).enterSafe 0x28 []).mapPwr (fun x => { x with shed := shedDomains })) := by
  refine ⟨decide (37000 < (s.at t).getF F.PWM_IN.VIN), ?_⟩
  have hm' : (s.at t).inputMode ≠ 3 := fun e => hm ((State.at_getF s t _).symm.trans e)
  have hd' : (s.at t).dev ≠ .off := by rwa [State.at_dev]
  have hcond : (decide (37000 < (s.at t).getF F.PWM_IN.VIN) || (s.at t).heldFor (s.at t).pwr.below38 20000) = true := by
    rw [State.at_getF, State.at_pwr, Bool.or_eq_true, decide_eq_true_eq]
    exact h
  unfold doLossEntry
  extract_lets u high
  rw [if_neg (by simp [hm', u]), if_pos (by simp only [high, u, hcond, Bool.and_true, Bool.and_eq_true, decide_eq_true_eq]; exact ⟨hd', hm'⟩)]
  rfl

theorem lossNoted_leaves (s : State) (high : Bool) :
    (s.lossNoted high).inputMode = 3 ∧ (s.lossNoted high).sameCycle = s.sameCycle ∧
      ∀ f : Field, f.addr ≠ 0x2010 ∧ f.addr ≠ 0x2104 ∧ f.addr ≠ 0x2138 → (s.lossNoted high).getF f = s.getF f := by
  have hb : ∀ f : Field, f.addr ≠ 0x2010 → f.addr ≠ 0x2138 → (s.lossNoted high).getF f = ((s.setMode 3).setB F.PWM_STAT.OV high).getF f :=
    fun f h1 h2 => (State.raiseEvt_getF _ 2 3 f h1).trans ((bump_getF_other _ _ _ _ h2).trans (beginEpisode_getF _ f))
  refine ⟨?_, (raiseEvt_sameCycle _ 2 3).trans (setMode_sameCycle s 3), fun f hf => ?_⟩
  · exact (hb F.PWM_STAT.MODE (by decide) (by decide)).trans
      ((getF_setF_beside _ _ _ _ (by decide) (by decide)).trans (setMode_shows s (by decide)).1)
  · exact (hb f hf.1 hf.2.2).trans ((getF_setF_other _ _ _ _ hf.2.1).trans ((setMode_reports s 3).getF hf))

theorem lossShown_leaves (s : State) (high : Bool) :
    (s.lossShown high).inputMode = 3 ∧ (s.lossShown high).getF F.PWM_STAT.ACK_HELD = 1 ∧ (s.lossShown high).tp.ackHeld = true ∧
      (s.lossShown high).dev = s.dev ∧ (s.lossShown high).sameCycle = s.sameCycle ∧
      (s.lossShown high).getF (F.PWM_DOM_STAT.STATE.inst 8) = s.getF (F.PWM_DOM_STAT.STATE.inst 8) := by
  obtain ⟨hmode, hcyc, hkeep⟩ := lossNoted_leaves s high
  unfold State.lossShown
  generalize s.lossNoted high = x at *
  have hput : ∀ f : Field, ((((x.setF F.PWM_STAT.ACK_HELD 1).mapTp (fun x => { x with ackHeld := true })).unaccept (fun _ => true))).getF f =
      (x.setF F.PWM_STAT.ACK_HELD 1).getF f := fun f => rfl
  refine ⟨?_, ?_, rfl, ?_, hcyc, ?_⟩
  · exact (hput _).trans ((getF_setF_beside _ _ _ _ (by decide) (by decide)).trans hmode)
  · exact (hput _).trans (getF_setF_of_lt _ _ (by decide) (by decide))
  · exact congrArg DevState.ofCode ((hput _).trans ((getF_setF_other _ _ _ _ (by decide)).trans (hkeep _ (by decide))))
  · exact (hput _).trans ((getF_setF_other _ _ _ _ (by decide)).trans (hkeep _ (by decide)))

end Sys2Proof.Machine
end

section
/-! PROOFS. Input modes settled (O47): recovery, the end of hold-up, and what each command leaves. -/

namespace Sys2Proof.Machine

theorem heldFor_at {s : State} {x : Option Nat} {a ns : Nat} (t : Nat) (hx : x = some a) (h : a + ns ≤ max s.now t) :
    (s.at t).heldFor x ns = true := by
  subst hx
  simp only [State.heldFor, State.at_now, decide_eq_true_eq]
  exact h

theorem inputMode_at (s : State) (t : Nat) : (s.at t).inputMode = s.inputMode := State.at_getF s t _

/-! ## Recovery (R357, R363) -/

theorem doNormalDwellExpiry_eq {s : State} {a : Nat} (t : Nat) (hd : s.dev ≠ .off) (hm : s.inputMode = 1) (ha : s.pwr.above95 = some a)
    (h : a + 100000000 ≤ max s.now t) :
    ∃ u : State, u.dev = s.dev ∧ doNormalDwellExpiry t s = (u.setMode 0).mapPwr (fun x => { x with episode := none }) := by
  have hheld := heldFor_at (ns := 100000000) t ((congrArg PowerState.above95 (State.at_pwr s t)).trans ha) h
  have hd' : (s.at t).dev ≠ .off := by rwa [State.at_dev]
  unfold doNormalDwellExpiry
  extract_lets u v
  rw [if_pos (by simp only [u, inputMode_at, hm, hheld, decide_true, Bool.and_true, decide_eq_true_eq]; exact hd')]
  refine ⟨v, ?_, rfl⟩
  have hsat : ∀ a b : Nat, ((u.setSat F.PWM_LOWLOG.DUR a).setSat F.PWM_LOWLOG.VMIN b).dev = s.dev := fun a b =>
    congrArg DevState.ofCode ((getF_setF_other _ _ _ _ (by decide)).trans ((getF_setF_other _ _ _ _ (by decide)).trans (State.at_getF s t _)))
  show State.dev (match u.pwr.episode with
    | some (from_, low) => (u.setSat F.PWM_LOWLOG.DUR ((u.now - from_) / 1000000)).setSat F.PWM_LOWLOG.VMIN low
    | none => u) = _
  split
  · exact hsat _ _
  · exact State.at_dev s t

theorem doWarnRecoveryExpiry_eq {s : State} {a : Nat} (t : Nat) (hd : s.dev ≠ .off) (hm : s.inputMode = 2) (ha : s.pwr.above46 = some a)
    (h : a + 100000000 ≤ max s.now t) : doWarnRecoveryExpiry t s = (s.at t).setMode 1 := by
  have hheld := heldFor_at (ns := 100000000) t ((congrArg PowerState.above46 (State.at_pwr s t)).trans ha) h
  have hd' : (s.at t).dev ≠ .off := by rwa [State.at_dev]
  unfold doWarnRecoveryExpiry
  extract_lets u
  exact if_pos (by simp only [u, inputMode_at, hm, hheld, decide_true, Bool.and_true, decide_eq_true_eq]; exact hd')

/-- The state of a loss that ends, before its domains start again. -/
def State.lossLeft (s : State) : State :=
  (((s.setMode 1).setF F.PWM_STAT.OV 0).raiseEvt 2 4).mapPwr (fun x => { x with shed := [] })

theorem doLossExit_eq {s : State} {a : Nat} (t : Nat) (hd : s.dev ≠ .off) (hm : s.inputMode = 3) (ha : s.pwr.inRange = some a)
    (h : a + 1000000 ≤ max s.now t) : doLossExit t s = (s.at t).lossLeft.updateDomains := by
  have hheld := heldFor_at (ns := 1000000) t ((congrArg PowerState.inRange (State.at_pwr s t)).trans ha) h
  have hd' : (s.at t).dev ≠ .off := by rwa [State.at_dev]
  unfold doLossExit
  extract_lets u v
  exact if_pos (by simp only [u, inputMode_at, hm, hheld, decide_true, Bool.and_true, decide_eq_true_eq]; exact hd')

theorem lossLeft_leaves (s : State) : s.lossLeft.inputMode = 1 ∧ s.lossLeft.getF F.PWM_STAT.OV = 0 ∧ s.lossLeft.dev = s.dev := by
  have hget : ∀ f : Field, f.addr ≠ 0x2010 → s.lossLeft.getF f = ((s.setMode 1).setF F.PWM_STAT.OV 0).getF f := fun f hf =>
    State.raiseEvt_getF _ 2 4 f hf
  refine ⟨?_, ?_, congrArg DevState.ofCode ?_⟩
  · exact (hget F.PWM_STAT.MODE (by decide)).trans
      ((getF_setF_beside _ _ _ _ (by decide) (by decide)).trans (setMode_shows s (by decide)).1)
  · exact (hget _ (by decide)).trans (getF_setF_of_lt _ _ (by decide) (by decide))
  · exact (hget _ (by decide)).trans ((getF_setF_other _ _ _ _ (by decide)).trans ((setMode_reports s 1).getF (by decide)))

/-! ## The end of hold-up (R362) -/

theorem unpowered_leaves (s : State) : s.unpowered.dev = s.dev ∧ s.unpowered.pwr.released = [] := by
  have hp : s.Powers ((List.range 36).foldl State.losePower s) := .foldl _ _ (fun s d _ => losePower_powers s d) s
  unfold State.unpowered
  generalize (List.range 36).foldl State.losePower s = u at *
  exact ⟨hp.dev, rfl⟩

theorem doHoldupEnd_eq {s : State} (t : Nat) (hd : s.dev ≠ .off) (hm : s.inputMode = 3) (hv : s.getF F.PWM_HU.VHU < 120) :
    doHoldupEnd t s = (((s.at t).cancelPending 0).abortFrames.enterState .off 0x05 (s.at t).boundaryCauses).unpowered := by
  have hd' : (s.at t).dev ≠ .off := by rwa [State.at_dev]
  unfold doHoldupEnd
  extract_lets u
  exact if_pos (by simp only [u, inputMode_at, hm, State.at_getF, hv, decide_true, Bool.and_true, decide_eq_true_eq]; exact hd')

/-! ## Acknowledgements resume (R363) -/

/-- Withheld responses that are sent leave the hold as it is. -/
theorem releaseWithheld_keeps (n : Nat) (s : State) :
    (State.releaseWithheld n s).tp.ackHeld = s.tp.ackHeld ∧
      (State.releaseWithheld n s).getF F.PWM_STAT.ACK_HELD = s.getF F.PWM_STAT.ACK_HELD := by
  have close : ∀ (u : State) (e : LedgerEntry), (u.afterAnswer e).tp.ackHeld = u.tp.ackHeld ∧
      (u.afterAnswer e).getF F.PWM_STAT.ACK_HELD = u.getF F.PWM_STAT.ACK_HELD := by
    intro u e
    unfold State.afterAnswer State.endSession
    split
    · extract_lets v
      have hv : v.tp.ackHeld = u.tp.ackHeld ∧ v.getF F.PWM_STAT.ACK_HELD = u.getF F.PWM_STAT.ACK_HELD := ⟨rfl, rfl⟩
      clear_value v
      split
      · have hc := cancelPending_uncommitted v 2
        exact ⟨(congrArg Spine.ackHeld hc).trans hv.1, (getF_of_uncommitted hc (by decide) (by decide)).trans hv.2⟩
      · exact hv
    · exact ⟨rfl, rfl⟩
  induction n generalizing s with
  | zero => exact ⟨rfl, rfl⟩
  | succ n ih =>
    unfold State.releaseWithheld
    split
    · exact ⟨rfl, rfl⟩
    · next e o l _ =>
      split
      · obtain ⟨h1, h2⟩ := ih ((((s.mapTp (fun t => { t with withheld := l })).recordEntry { e with tai := s.taiNs }).sendControl o).afterAnswer e)
        obtain ⟨h3, h4⟩ := close (((s.mapTp (fun t => { t with withheld := l })).recordEntry { e with tai := s.taiNs }).sendControl o) e
        exact ⟨h1.trans h3, h2.trans h4⟩
      · exact ⟨rfl, rfl⟩

theorem doAckResume_leaves {s : State} (t : Nat) (ha : s.tp.ackHeld = true) (hm : s.inputMode ≠ 3) (hu : s.getF F.PWM_STAT.HU_READY = 1) :
    (doAckResume t s).tp.ackHeld = false ∧ (doAckResume t s).getF F.PWM_STAT.ACK_HELD = 0 := by
  have hm' : (s.at t).inputMode ≠ 3 := fun e => hm ((inputMode_at s t).symm.trans e)
  unfold doAckResume
  extract_lets u v
  rw [if_pos (by simp [u, ha, hm', hu])]
  obtain ⟨h1, h2⟩ := releaseWithheld_keeps v.tp.withheld.length v
  have hput : v.getF F.PWM_STAT.ACK_HELD = (u.setF F.PWM_STAT.ACK_HELD 0).getF F.PWM_STAT.ACK_HELD := rfl
  exact ⟨h1, h2.trans (hput.trans (getF_setF_of_lt _ _ (by decide) (by decide)))⟩

/-! ## Hold-up energy (R361) -/

theorem doHoldupCheck_low {s : State} {energy : Nat} {late : Bool} (t : Nat) (hd : s.dev ≠ .off)
    (hl : late = (!s.pwr.huUp && !s.pwr.huLate && decide (s.pwr.bootAt + 400000000 ≤ max s.now t))) (h : energy < 500 ∨ late = true) :
    doHoldupCheck energy t s = (((s.at t).setSat F.PWM_HU.ENERGY energy).setF F.PWM_STAT.HU_LOW 1 |>.raiseEvt 2 5).mapPwr
      (fun x => { x with huLate := x.huLate || late }) := by
  have hd' : ((s.at t).setSat F.PWM_HU.ENERGY energy).dev ≠ .off := fun e =>
    hd (((congrArg DevState.ofCode ((getF_setF_other _ _ _ _ (by decide)).trans (State.at_getF s t _))).symm).trans e)
  have hlate : (!((s.at t).setSat F.PWM_HU.ENERGY energy).pwr.huUp && !((s.at t).setSat F.PWM_HU.ENERGY energy).pwr.huLate &&
      decide (((s.at t).setSat F.PWM_HU.ENERGY energy).pwr.bootAt + 400000000 ≤ ((s.at t).setSat F.PWM_HU.ENERGY energy).now)) = late := by
    simp [hl]
  unfold doHoldupCheck
  extract_lets u l
  have hll : l = late := hlate
  clear_value l
  subst hll
  refine (if_pos ?_).trans rfl
  simp only [Bool.and_eq_true, Bool.or_eq_true, decide_eq_true_eq]
  exact ⟨hd', h⟩

/-- What the report of low energy leaves. -/
theorem huLow_leaves {s : State} {energy : Nat} (late : Bool) (t : Nat) (hon : s.on 0 = true) :
    ∀ u : State, u = (((s.at t).setSat F.PWM_HU.ENERGY energy).setF F.PWM_STAT.HU_LOW 1 |>.raiseEvt 2 5).mapPwr
        (fun x => { x with huLate := x.huLate || late }) →
      u.getF F.PWM_HU.ENERGY = min energy (2 ^ F.PWM_HU.ENERGY.width - 1) ∧ u.getF F.PWM_STAT.HU_LOW = 1 ∧ u.bitF (H.ISR 2) 5 = true ∧
        u.pwr.huLate = (s.pwr.huLate || late) ∧ u.dev = s.dev := by
  rintro u rfl
  have hput : ∀ f : Field, f.addr ≠ 0x2010 →
      ((((s.at t).setSat F.PWM_HU.ENERGY energy).setF F.PWM_STAT.HU_LOW 1 |>.raiseEvt 2 5).mapPwr
        (fun x => { x with huLate := x.huLate || late })).getF f = (((s.at t).setSat F.PWM_HU.ENERGY energy).setF F.PWM_STAT.HU_LOW 1).getF f :=
    fun f hf => State.raiseEvt_getF _ 2 5 f hf
  have hpage : (((s.at t).setSat F.PWM_HU.ENERGY energy).setF F.PWM_STAT.HU_LOW 1).pageOn 2 = true := (State.at_on s t 0).trans hon
  have hpwr : ((((s.at t).setSat F.PWM_HU.ENERGY energy).setF F.PWM_STAT.HU_LOW 1).raiseEvt 2 5).pwr = s.pwr :=
    (raiseEvt_reports _ 2 5).pwr.trans (State.at_pwr s t)
  refine ⟨?_, ?_, raiseEvt_bit _ 2 5 hpage (by decide), ?_, congrArg DevState.ofCode ?_⟩
  · exact (hput _ (by decide)).trans ((getF_setF_other _ _ _ _ (by decide)).trans (getF_setF_min _ _ _ (by decide)))
  · exact (hput _ (by decide)).trans (getF_setF_of_lt _ _ (by decide) (by decide))
  · exact congrArg (fun x : PowerState => x.huLate || late) hpwr
  · exact (hput _ (by decide)).trans ((getF_setF_other _ _ _ _ (by decide)).trans
      ((getF_setF_other _ _ _ _ (by decide)).trans (State.at_getF s t _)))

/-- Settles O47: each command by the branch it takes and what that leaves. -/
theorem inputModes : Obligations.InputModes := by
  refine ⟨?_, ?_, ?_, ?_, ?_, ?_, ?_, ?_, ?_, ?_, ?_, ?_⟩
  · intro s mv iin vhu t hshort hcyc hm hv
    obtain ⟨x, ⟨hdev, hmode, hcycle, -, -⟩, he⟩ := doInputSample_eq s mv iin vhu t
    have hoff : x.dev ≠ .off := by
      rw [hdev]
      rintro h
      simp [h] at hshort
    refine ⟨_, rfl, ?_⟩
    rw [he, if_neg hoff, if_pos (by simp [hmode, hm, hv])]
    have hkeep : ∀ f : Field, f.addr ≠ 0x2010 → ((x.setMode 2).beginEpisode.raiseEvt 2 2).getF f = (x.setMode 2).getF f := fun f hf =>
      State.raiseEvt_getF _ 2 2 f hf
    have hy : ((x.setMode 2).beginEpisode.raiseEvt 2 2).dev = s.dev :=
      congrArg DevState.ofCode (hkeep _ (by decide)) |>.trans ((setMode_dev x 2).trans hdev)
    have hyc : ((x.setMode 2).beginEpisode.raiseEvt 2 2).sameCycle = (s.at t).sameCycle :=
      (raiseEvt_sameCycle _ 2 2).trans ((setMode_sameCycle x 2).trans hcycle)
    have hym : ((x.setMode 2).beginEpisode.raiseEvt 2 2).inputMode = 2 := (hkeep _ (by decide)).trans (setMode_shows x (by decide)).1
    generalize (x.setMode 2).beginEpisode.raiseEvt 2 2 = y at *
    obtain ⟨h1, h2, h3⟩ := enterSafe_settled y [] (c := 0x28) (by decide) (by rwa [hy]) (fun h => hyc.trans (hcyc (hy ▸ h)))
    refine ⟨?_, h1, h2, h3⟩
    exact (inputMode_settle _).trans ((getF_of_unstated (enterSafe_unstated y 0x28 []) (by decide) (by decide)).trans hym)
  · intro s mv iin vhu t hd hm hlo hhi
    obtain ⟨x, ⟨hdev, hmode, -, hlows, hvin⟩, he⟩ := doInputSample_eq s mv iin vhu t
    refine ⟨_, rfl, ?_⟩
    rw [he, if_neg (by rwa [hdev]), if_neg (by simp; omega), if_pos (by simp [hmode, hm, hhi])]
    obtain ⟨h1, -, h3⟩ := setMode_shows x (m := 1) (by decide)
    have hb : ∀ f, (x.setMode 1).beginEpisode.getF f = (x.setMode 1).getF f := beginEpisode_getF _
    have hv : (x.setMode 1).getF F.PWM_IN.VIN = x.getF F.PWM_IN.VIN := (setMode_reports x 1).getF (by decide)
    refine ⟨?_, ?_, ?_, ?_⟩
    · exact (inputMode_settle _).trans ((hb _).trans h1)
    · exact (State.settle_dev _).trans ((congrArg DevState.ofCode (hb _)).trans ((setMode_dev x 1).trans hdev))
    · rw [State.settle_getF _ _ (by decide), hb, h3 rfl, hlows]
    · rw [State.settle_getF _ _ (by decide), hb, hv, hvin]
      exact Nat.min_eq_left (by simp only; omega)
  · intro s t a hd hm ha h
    obtain ⟨u, hu, he⟩ := doNormalDwellExpiry_eq t hd hm ha h
    refine ⟨_, rfl, ?_⟩
    rw [he]
    refine ⟨(inputMode_settle _).trans (setMode_shows u (by decide)).1, ?_, ?_⟩
    · rw [State.settle_pwr]
      rfl
    · exact (State.settle_dev _).trans ((setMode_dev u 0).trans hu)
  · intro s t a hd hm ha h
    refine ⟨_, rfl, ?_⟩
    rw [doWarnRecoveryExpiry_eq t hd hm ha h]
    exact ⟨(inputMode_settle _).trans (setMode_shows _ (by decide)).1,
      (State.settle_dev _).trans ((setMode_dev _ 1).trans (State.at_dev s t))⟩
  · intro s t a ha h
    have hheld := heldFor_at (ns := 100000000) t ((congrArg PowerState.inRange (State.at_pwr s t)).trans ha) h
    have hdo : doInputInRangeExpiry t s = (s.at t).clearCause 0x28 := if_pos hheld
    refine ⟨_, rfl, ?_⟩
    rw [hdo]
    refine ⟨?_, (State.settle_dev _).trans (State.at_dev s t)⟩
    rw [State.settle_sys_stay]
    simp [State.clearCause]
  · intro s t hshort hcyc hm h
    have hoff : s.dev ≠ .off := by
      rintro e
      simp [e] at hshort
    obtain ⟨high, he⟩ := doLossEntry_enters t hoff hm h
    obtain ⟨hmode, hack, hheld, hdev, hcycle, hfir⟩ := lossShown_leaves (s.at t) high
    refine ⟨_, rfl, ?_⟩
    rw [he]
    generalize (s.at t).lossShown high = x at *
    rw [State.at_dev] at hdev
    rw [State.at_getF] at hfir
    obtain ⟨hsafe, -⟩ := enterSafe_enters x 0x28 [] (by rwa [hdev]) (fun hb => hcycle.trans (hcyc (hdev ▸ hb)))
    have hun := enterSafe_unstated x 0x28 []
    generalize x.enterSafe 0x28 [] = y at *
    have hym : y.inputMode = 3 := (getF_of_unstated hun (by decide) (by decide)).trans hmode
    have hya : y.getF F.PWM_STAT.ACK_HELD = 1 := (getF_of_unstated hun (by decide) (by decide)).trans hack
    have hyh : y.tp.ackHeld = true := (congrArg Spine.ackHeld hun).trans hheld
    have hyf := (getF_of_unstated hun (f := F.PWM_DOM_STAT.STATE.inst 8) (by decide) (by decide)).trans hfir
    have hp := shed_powers (y.mapPwr (fun x => { x with shed := shedDomains }))
    have hfir8 := fun h2 => shed_off (s := y.mapPwr (fun x => { x with shed := shedDomains })) h2
    generalize shedDomains.foldl State.stopDomain (y.mapPwr (fun x => { x with shed := shedDomains })) = z at *
    have hzdev : z.dev = .safe := hp.dev.trans hsafe
    refine ⟨?_, ?_, ?_, ?_, ?_, settle_dark (by simp [hzdev]) (by simp [hzdev]), fun h2 => ?_⟩
    · exact (inputMode_settle _).trans ((hp.getF (by decide) (by decide)).trans hym)
    · rw [State.settle_tp_ackHeld]
      exact hp.ackHeld.trans hyh
    · rw [State.settle_getF _ _ (by decide)]
      exact (hp.getF (by decide) (by decide)).trans hya
    · rw [State.settle_pwr]
      exact hp.shed
    · rw [State.settle_dev, hzdev]
    · rw [State.settle_on]
      exact hfir8 (hyf.trans ((domState_eq_two s 8).1 h2))
  · intro s t a hd hm ha h
    obtain ⟨h1, h2, h3⟩ := lossLeft_leaves (s.at t)
    have hp := updateDomains_powers (s.at t).lossLeft
    refine ⟨_, rfl, ?_⟩
    rw [doLossExit_eq t hd hm ha h]
    refine ⟨?_, ?_, ?_, ?_⟩
    · exact (inputMode_settle _).trans ((hp.getF (by decide) (by decide)).trans h1)
    · rw [State.settle_pwr]
      exact hp.shed
    · rw [State.settle_getF _ _ (by decide)]
      exact (hp.getF (by decide) (by decide)).trans h2
    · exact (State.settle_dev _).trans (hp.dev.trans (h3.trans (State.at_dev s t)))
  · intro s t hd hm hv
    obtain ⟨hdev, hrel⟩ := unpowered_leaves (((s.at t).cancelPending 0).abortFrames.enterState .off 0x05 (s.at t).boundaryCauses)
    have hoff := hdev.trans (enterState_dev _ _ _ _)
    refine ⟨_, rfl, ?_⟩
    rw [doHoldupEnd_eq t hd hm hv]
    refine ⟨(State.settle_dev _).trans hoff, ?_, settle_dark (by simp [hoff]) (by simp [hoff])⟩
    rw [State.settle_pwr, hrel]
  · intro s t ha hm hu
    obtain ⟨h1, h2⟩ := doAckResume_leaves t ha hm hu
    refine ⟨_, rfl, (State.settle_tp_ackHeld _).trans h1, ?_⟩
    rw [State.settle_getF _ _ (by decide), h2]
  · intro s t hd hm hv
    have hdo : doLossEntry t s = (s.at t).setF F.PWM_STAT.OV 1 := by
      unfold doLossEntry
      extract_lets u high
      exact if_pos (by
        simp only [u, high, inputMode_at, hm, State.at_getF, hv, decide_true, Bool.and_true, decide_eq_true_eq, State.at_dev]
        exact hd)
    refine ⟨_, rfl, ?_⟩
    rw [hdo]
    refine ⟨?_, ?_, ?_, ?_⟩
    · rw [State.settle_getF _ _ (by decide)]
      exact getF_setF_of_lt _ _ (by decide) (by decide)
    · exact (inputMode_settle _).trans ((getF_setF_beside _ _ _ _ (by decide) (by decide)).trans ((State.at_getF s t _).trans hm))
    · exact (State.settle_dev _).trans ((congrArg DevState.ofCode (getF_setF_other _ _ _ _ (by decide))).trans (State.at_dev s t))
    · rw [State.settle_pwr, State.setF_pwr, State.at_pwr]
  · intro s energy t hd hon he
    obtain ⟨h1, h2, h3, -, h5⟩ := huLow_leaves (energy := energy)
      (!s.pwr.huUp && !s.pwr.huLate && decide (s.pwr.bootAt + 400000000 ≤ max s.now t)) t hon _ rfl
    refine ⟨_, rfl, ?_⟩
    rw [doHoldupCheck_low t hd rfl (.inl he)]
    refine ⟨?_, ?_, ?_, (State.settle_dev _).trans h5⟩
    · rw [State.settle_getF _ _ (by decide), h1]
      exact Nat.min_eq_left (by simp only; omega)
    · rw [State.settle_getF _ _ (by decide), h2]
    · rw [State.bitF_eq, State.settle_getF _ _ (by decide)]
      exact h3
  · intro s energy t hd hon he hup hlate hboot
    obtain ⟨-, h2, h3, h4, h5⟩ := huLow_leaves (energy := energy) true t hon _ rfl
    refine ⟨_, rfl, ?_⟩
    rw [doHoldupCheck_low (late := true) t hd (by simp [hup, hlate, hboot]) (.inr rfl)]
    refine ⟨?_, ?_, ?_, (State.settle_dev _).trans h5⟩
    · rw [State.settle_getF _ _ (by decide), h2]
    · rw [State.bitF_eq, State.settle_getF _ _ (by decide)]
      exact h3
    · rw [State.settle_pwr, h4, Bool.or_true]

end Sys2Proof.Machine
end

section
/-! PROOFS. The end of start-up (O52): the self-test, the images, the destination. -/

namespace Sys2Proof.Machine

/-! ## What the clock leaves of the conditions of R388 and R389 -/

theorem domEn_at (s : State) (t d : Nat) : (s.at t).domEn d = s.domEn d := by simp only [State.domEn, State.bitF_eq, State.at_getF]

theorem railDead_at (s : State) (t d : Nat) : (s.at t).railDead d = s.railDead d := by simp only [State.railDead, State.at_getF]

theorem wanted_at (s : State) (t d : Nat) : (s.at t).wanted d = s.wanted d := by
  simp only [State.wanted, domEn_at, railDead_at, State.gradeS, State.at_getF, State.at_pwr, State.at_dev]

theorem allOn_at (s : State) (t : Nat) (l : List Nat) : (s.at t).allOn l = s.allOn l := by
  simp only [State.allOn, wanted_at, State.at_on]

theorem booting_at (s : State) (t : Nat) : (s.at t).booting = s.booting := by simp only [State.booting, State.at_dev, State.at_rst]

theorem dev_of_booting {s : State} (h : s.booting = true) : s.dev = .boot := by
  simp only [State.booting, Bool.and_eq_true, decide_eq_true_eq] at h
  exact h.1.1

/-! ## The step of R389 that `RST_BOOT` shows -/

theorem bootStep_eq (s : State) : ∃ n, s.bootStep = s ∨ s.bootStep = s.setF F.RST_BOOT.STEP n := by
  unfold State.bootStep
  split
  · exact ⟨0, .inl rfl⟩
  · exact ⟨_, .inr rfl⟩

theorem bootStep_getF (s : State) {f : Field} (h : f.addr ≠ F.RST_BOOT.STEP.addr) : s.bootStep.getF f = s.getF f := by
  obtain ⟨n, e | e⟩ := bootStep_eq s
  · rw [e]
  · rw [e, getF_setF_other _ _ _ _ h]

@[simp] theorem bootStep_rst (s : State) : s.bootStep.rst = s.rst := by obtain ⟨n, e | e⟩ := bootStep_eq s <;> rw [e]; rfl
@[simp] theorem bootStep_pwr (s : State) : s.bootStep.pwr = s.pwr := by obtain ⟨n, e | e⟩ := bootStep_eq s <;> rw [e]; rfl
@[simp] theorem bootStep_dev (s : State) : s.bootStep.dev = s.dev := congrArg DevState.ofCode (bootStep_getF s (by decide))

/-! ## The self-test (R389 step 6) -/

theorem doSelfTestComplete_takes {s : State} (pass : Bool) (t : Nat) (hb : s.booting = true) (hn : s.rst.selfTest = none)
    (h4 : s.on 4 = true) (ha : s.allOn [1, 2, 5] = true) :
    (doSelfTestComplete pass t s).settle.rst.selfTest = some pass ∧ (doSelfTestComplete pass t s).settle.dev = .boot := by
  have e : doSelfTestComplete pass t s = ((s.at t).mapRst (fun x => { x with selfTest := some pass })).bootStep := by
    unfold doSelfTestComplete
    simp [booting_at, allOn_at, hb, hn, h4, ha]
  rw [e, State.settle_rst, bootStep_rst, State.settle_dev, bootStep_dev]
  exact ⟨rfl, (State.at_dev s t).trans (dev_of_booting hb)⟩

/-! ## The images (R75) -/

theorem imageHead_at (s : State) (t k : Nat) : (s.at t).imageHead k = s.imageHead k := by
  have h : (s.at t).norByte k = s.norByte k := by funext a; simp only [State.norByte, State.at_rst]
  simp only [State.imageHead, h]

theorem norBytes_at (s : State) (t k off n : Nat) : (s.at t).norBytes k off n = s.norBytes k off n := by
  simp only [State.norBytes, State.norByte, State.at_rst]

theorem imageKey_at (s : State) (t k : Nat) : (s.at t).imageKey k = s.imageKey k := by
  simp only [State.imageKey, State.fuseBytes, State.at_rst]

theorem judgeImage_at (s : State) (t k : Nat) (b : Bool) : (s.at t).judgeImage k b = s.judgeImage k b := by
  have hgood : ∀ j, (s.at t).imageKeyGood j = s.imageKeyGood j := fun j => by simp only [State.imageKeyGood, imageKey_at, State.at_rst]
  have hsigned : ∀ h, (s.at t).imageSigned k h = s.imageSigned k h := fun h => by simp only [State.imageSigned, imageKey_at, norBytes_at]
  have hroll : (s.at t).rollback = s.rollback := by simp only [State.rollback, State.fuseBytes, State.at_rst]
  unfold State.judgeImage
  dsimp only
  rw [imageHead_at, hgood, hsigned, hroll, norBytes_at]

theorem bootSlot_at (s : State) (t : Nat) : (s.at t).bootSlot = s.bootSlot := by
  simp only [State.bootSlot, imageHead_at, State.at_rst]

/-- A verdict fits its field. -/
theorem judgeImage_lt (s : State) (k : Nat) (b : Bool) : s.judgeImage k b < 2 ^ 4 := by
  unfold State.judgeImage
  extract_lets h
  split_ifs <;> decide

/-- The field of `CPU_IMG` that shows a slot's verdict. -/
def slotField (k : Nat) : Field := if k = 0 then F.CPU_IMG.SLOT0 else F.CPU_IMG.SLOT1

theorem slotField_addr (k : Nat) : (slotField k).addr = 0x7104 := by unfold slotField; split <;> rfl
theorem slotField_lsb (k : Nat) : (slotField k).lsb = if k = 0 then 0 else 4 := by unfold slotField; split <;> rfl
theorem slotField_width (k : Nat) : (slotField k).width = 4 := by unfold slotField; split <;> rfl

theorem slotField_inside (k : Nat) : (slotField k).lsb + (slotField k).width ≤ 32 := by
  rw [slotField_lsb, slotField_width]
  split <;> decide

theorem getF_slotField_self (s : State) {k v : Nat} (hv : v < 2 ^ 4) : (s.setF (slotField k) v).getF (slotField k) = v :=
  getF_setF_of_lt _ _ (slotField_inside k) (by rwa [slotField_width])

/-- The other slot's verdict stands in a field of its own. -/
theorem getF_slotField_other (s : State) (k v : Nat) : (s.setF (slotField (1 - k)) v).getF (slotField k) = s.getF (slotField k) := by
  refine getF_setF_beside _ _ _ _ (slotField_inside _) (.inr ?_)
  simp only [slotField_lsb, slotField_width]
  split_ifs <;> omega

/-- What trial and choice of the images leave to be shown of the image booted. -/
def State.showImage (s : State) (found : Option Nat) : State :=
  match found with
  | some k => (s.setF F.CPU_IMG.BOOTED k).poke 0x10C (BitVec.ofNat 32 (k * 2 ^ 31 + (s.imageHead k).version % 2 ^ 31))
  | none => s

theorem showImage_slotField (s : State) (found : Option Nat) (k : Nat) : (s.showImage found).getF (slotField k) = s.getF (slotField k) := by
  cases found with
  | none => rfl
  | some j =>
    refine (getF_congr (peek_poke_other _ _ ?_)).trans (getF_setF_beside _ _ _ _ (by decide) (.inr ?_))
    · rw [slotField_addr]; decide
    · simp only [slotField_lsb, slotField_width]
      split_ifs <;> decide

theorem showImage_booted (s : State) (k : Nat) : (s.showImage (some k)).getF F.CPU_IMG.BOOTED = k % 2 :=
  (getF_congr (peek_poke_other _ _ (by decide))).trans (getF_setF_self _ _ _ (by decide))

/-- What `doImageVerify` does once it has tried the slots. -/
def State.takeImage (s : State) (found : Option Nat) : State :=
  ((s.mapRst (fun x => { x with imageDone := true, image := found, slotFirst := none })).showImage found).bootStep

theorem showImage_rst (s : State) (found : Option Nat) : (s.showImage found).rst = s.rst := by
  cases found with
  | none => rfl
  | some k => exact State.poke_rst _ _ _

theorem takeImage_rst (s : State) (found : Option Nat) :
    (s.takeImage found).settle.rst = { s.rst with imageDone := true, image := found, slotFirst := none } := by
  rw [State.settle_rst, State.takeImage, bootStep_rst, showImage_rst]
  rfl

theorem takeImage_dev (s : State) (found : Option Nat) : (s.takeImage found).settle.dev = s.dev := by
  rw [State.settle_dev, State.takeImage, bootStep_dev]
  cases found with
  | none => rfl
  | some k =>
    exact congrArg DevState.ofCode ((getF_congr (peek_poke_other _ _ (by decide))).trans (getF_setF_other _ _ _ _ (by decide)))

theorem takeImage_slotField (s : State) (found : Option Nat) (k : Nat) :
    (s.takeImage found).settle.getF (slotField k) = s.getF (slotField k) := by
  have h : (slotField k).addr ≠ F.RST_BOOT.STEP.addr := by rw [slotField_addr]; decide
  rw [State.settle_getF _ _ (by rw [slotField_addr]; decide), State.takeImage, bootStep_getF _ h, showImage_slotField]
  rfl

theorem takeImage_booted (s : State) (k : Nat) : (s.takeImage (some k)).settle.getF F.CPU_IMG.BOOTED = k % 2 := by
  rw [State.settle_getF _ _ (by decide), State.takeImage, bootStep_getF _ (by decide), showImage_booted]

section
variable {s : State} {formed0 formed1 : Bool} (t : Nat)

/-- The slot tried first is accepted: the other is not tried. -/
theorem doImageVerify_first (hb : s.booting = true) (hs : s.rst.selfTest.isSome = true) (hd : s.rst.imageDone = false)
    (hv : s.judgeImage s.bootSlot (if s.bootSlot = 0 then formed0 else formed1) = 1) :
    doImageVerify formed0 formed1 t s = ((s.at t).setF (slotField s.bootSlot) 1).takeImage (some s.bootSlot) := by
  have hn : s.rst.selfTest.isNone = false := by simpa using hs
  unfold doImageVerify
  simp only [booting_at, State.at_rst, hb, hn, hd, judgeImage_at, bootSlot_at, hv]
  simp [hv]
  rfl

/-- The slot tried first is refused: the other is tried, and booted where it is accepted. -/
theorem doImageVerify_second (hb : s.booting = true) (hs : s.rst.selfTest.isSome = true) (hd : s.rst.imageDone = false)
    (hv : s.judgeImage s.bootSlot (if s.bootSlot = 0 then formed0 else formed1) ≠ 1) :
    doImageVerify formed0 formed1 t s =
      (((s.at t).setF (slotField s.bootSlot) (s.judgeImage s.bootSlot (if s.bootSlot = 0 then formed0 else formed1))).setF
        (slotField (1 - s.bootSlot)) (s.judgeImage (1 - s.bootSlot) (if 1 - s.bootSlot = 0 then formed0 else formed1))).takeImage
        (if s.judgeImage (1 - s.bootSlot) (if 1 - s.bootSlot = 0 then formed0 else formed1) = 1 then some (1 - s.bootSlot) else none) := by
  have hn : s.rst.selfTest.isNone = false := by simpa using hs
  unfold doImageVerify
  simp only [booting_at, State.at_rst, hb, hn, hd, judgeImage_at, bootSlot_at, if_neg hv]
  simp [hv]
  rfl

end

end Sys2Proof.Machine
end

section
/-! PROOFS. Start-up (O52), continued: what `CPU_IMG` shows, and where `BOOT` leads. -/

namespace Sys2Proof.Machine

/-! ## `CPU_IMG` after the trial of the images (R75) -/

section
variable {s : State} {formed0 formed1 : Bool} (t : Nat)

/-- The slot tried first is accepted. -/
theorem imageVerify_accepts (hb : s.booting = true) (hs : s.rst.selfTest.isSome = true) (hd : s.rst.imageDone = false)
    (hv : s.judgeImage s.bootSlot (if s.bootSlot = 0 then formed0 else formed1) = 1) :
    let u := (doImageVerify formed0 formed1 t s).settle
    u.rst = { s.rst with imageDone := true, image := some s.bootSlot, slotFirst := none } ∧ u.dev = .boot ∧
      u.getF F.CPU_IMG.BOOTED = s.bootSlot % 2 ∧ u.getF (slotField s.bootSlot) = 1 := by
  dsimp only
  rw [doImageVerify_first t hb hs hd hv]
  refine ⟨?_, ?_, takeImage_booted _ _, ?_⟩
  · rw [takeImage_rst, State.setF_rst, State.at_rst]
  · have hdev : ((s.at t).setF (slotField s.bootSlot) 1).dev = (s.at t).dev :=
      congrArg DevState.ofCode (getF_setF_other _ _ _ _ (by rw [slotField_addr]; decide))
    rw [takeImage_dev, hdev, State.at_dev, dev_of_booting hb]
  · rw [takeImage_slotField]
    exact getF_slotField_self _ (by decide)

/-- The slot tried first is refused. -/
theorem imageVerify_refuses (hb : s.booting = true) (hs : s.rst.selfTest.isSome = true) (hd : s.rst.imageDone = false)
    (hv : s.judgeImage s.bootSlot (if s.bootSlot = 0 then formed0 else formed1) ≠ 1) :
    let u := (doImageVerify formed0 formed1 t s).settle
    let second := s.judgeImage (1 - s.bootSlot) (if 1 - s.bootSlot = 0 then formed0 else formed1)
    u.rst = { s.rst with imageDone := true, image := if second = 1 then some (1 - s.bootSlot) else none, slotFirst := none } ∧
      u.dev = .boot ∧ (second = 1 → u.getF F.CPU_IMG.BOOTED = 1 - s.bootSlot) ∧
      u.getF (slotField s.bootSlot) = s.judgeImage s.bootSlot (if s.bootSlot = 0 then formed0 else formed1) ∧
      u.getF (slotField (1 - s.bootSlot)) = second := by
  intro u second
  have hother : ∀ (x : State) (k v : Nat), (x.setF (slotField k) v).dev = x.dev := fun x k v =>
    congrArg DevState.ofCode (getF_setF_other _ _ _ _ (by rw [slotField_addr]; decide))
  simp only [u, second]
  rw [doImageVerify_second t hb hs hd hv]
  refine ⟨?_, ?_, fun h => ?_, ?_, ?_⟩
  · rw [takeImage_rst, State.setF_rst, State.setF_rst, State.at_rst]
  · rw [takeImage_dev, hother, hother, State.at_dev, dev_of_booting hb]
  · rw [if_pos h, takeImage_booted]
    omega
  · rw [takeImage_slotField, getF_slotField_other]
    exact getF_slotField_self _ (judgeImage_lt _ _ _)
  · rw [takeImage_slotField]
    exact getF_slotField_self _ (judgeImage_lt _ _ _)

end

/-! ## The destination (R390) -/

/-- What the pages show when `BOOT` ends: step 10, and the milliseconds it took. -/
def State.bootEnded (s : State) : State := (s.setF F.RST_BOOT.STEP 10).setSat F.RST_BOOT.MS ((s.now - s.rst.relAt) / 1000000)

theorem bootEnded_getF (s : State) {f : Field} (h : f.addr ≠ F.RST_BOOT.STEP.addr) : s.bootEnded.getF f = s.getF f := by
  rw [State.bootEnded, State.setSat_eq, getF_setF_other _ F.RST_BOOT.MS _ _ h, getF_setF_other _ F.RST_BOOT.STEP _ _ h]

theorem bootEnded_step (s : State) : s.bootEnded.getF F.RST_BOOT.STEP = 10 := by
  rw [State.bootEnded, State.setSat_eq, getF_setF_beside _ F.RST_BOOT.MS _ _ (by decide) (by decide)]
  exact getF_setF_of_lt _ _ (by decide) (by decide)

theorem bootEnded_rst (s : State) : s.bootEnded.rst = s.rst := by
  rw [State.bootEnded, State.setSat_eq, State.setF_rst, State.setF_rst]

theorem bootEnded_sameCycle (s : State) : s.bootEnded.sameCycle = s.sameCycle := by
  rw [State.bootEnded, State.setSat_eq, setF_sameCycle, setF_sameCycle]

theorem bootCauses_at (s : State) (t : Nat) : (s.at t).bootEnded.bootCauses = s.bootCauses := by
  have hget : ∀ f : Field, f.addr ≠ F.RST_BOOT.STEP.addr → (s.at t).bootEnded.getF f = s.getF f := fun f h =>
    (bootEnded_getF _ h).trans (State.at_getF s t f)
  simp (disch := decide) only [State.bootCauses, State.flag, State.gradeS, hget, bootEnded_rst, State.at_rst]
  rfl

/-- Every domain that is to be on is released: `BOOT` ends. -/
theorem doBootComplete_leaves {s : State} (t : Nat) (hb : s.booting = true) (hi : s.rst.imageDone = true) (hc : s.hka.calFrom = none)
    (hr : (List.range 36).all (fun d => !s.wanted d || s.on d) = true) : doBootComplete t s = (s.at t).bootEnded.leaveBoot := by
  unfold doBootComplete
  extract_lets u held ready
  have hready : ready = true := by
    refine List.all_eq_true.2 (fun d hd => ?_)
    have hd' := List.all_eq_true.1 hr d hd
    simp only [u, wanted_at, State.at_on, Bool.or_assoc]
    rw [← Bool.or_assoc, hd', Bool.true_or]
  rw [if_pos (by simp only [u, booting_at, State.at_rst, State.at_hka, hb, hi, hc, hready]; rfl)]
  rfl

section
variable {s : State} (t : Nat) (hb : s.booting = true) (hi : s.rst.imageDone = true) (hc : s.hka.calFrom = none)
  (hr : (List.range 36).all (fun d => !s.wanted d || s.on d) = true)
include hb hi hc hr

/-- Without a cause of doubt: `STANDBY`. -/
theorem bootComplete_standby (h : s.bootCauses = []) :
    let u := (doBootComplete t s).settle
    u.dev = .standby ∧ u.getF F.SYS_STATE.CAUSE = 0x10 ∧ u.getF F.RST_BOOT.STEP = 10 := by
  dsimp only
  have hleave : (s.at t).bootEnded.leaveBoot = (s.at t).bootEnded.enterState .standby 0x10 [] := by
    unfold State.leaveBoot
    rw [bootCauses_at, h]
  rw [doBootComplete_leaves t hb hi hc hr, hleave]
  refine ⟨(State.settle_dev _).trans (enterState_dev _ _ _ _), ?_, ?_⟩
  · exact (State.settle_getF _ _ (by decide)).trans (enterState_cause _ _ _ _)
  · rw [State.settle_getF _ _ (by decide), State.enterState_getF _ _ _ _ _ (by decide)]
    exact bootEnded_step _

/-- A failed self-test, with nothing that comes before it: `SAFE`. -/
theorem bootComplete_safe {l : List Nat} (h : s.bootCauses = 0x20 :: l) (hcyc : s.dev = .boot → (s.at t).sameCycle = false) :
    let u := (doBootComplete t s).settle
    u.dev = .safe ∧ u.getF F.SYS_STATE.CAUSE = 0x20 ∧ u.dark = true := by
  dsimp only
  have hleave : (s.at t).bootEnded.leaveBoot = (s.at t).bootEnded.enterSafe 0x20 l := by
    unfold State.leaveBoot
    rw [bootCauses_at, h]
    exact (if_neg (by decide)).trans (if_neg (by decide))
  have hdev : (s.at t).bootEnded.dev = .boot := by
    have hd : (s.at t).bootEnded.dev = (s.at t).dev := congrArg DevState.ofCode (bootEnded_getF _ (by decide))
    rw [hd, State.at_dev, dev_of_booting hb]
  rw [doBootComplete_leaves t hb hi hc hr, hleave]
  exact enterSafe_settled _ l (by decide) (.inl hdev) (fun _ => (bootEnded_sameCycle _).trans (hcyc (dev_of_booting hb)))

/-- A bad fuse row: `PROVISION`. -/
theorem bootComplete_provision {l : List Nat} (h : s.bootCauses = 0x60 :: l) :
    let u := (doBootComplete t s).settle
    u.dev = .provision ∧ u.getF F.SYS_STATE.CAUSE = 0x60 ∧ u.getF F.RST_PROV.CAUSE = 0x60 ∧ u.dark = true := by
  dsimp only
  have hleave : (s.at t).bootEnded.leaveBoot = (s.at t).bootEnded.enterProvision 0x60 l := by
    unfold State.leaveBoot
    rw [bootCauses_at, h]
    exact if_pos (by decide)
  have hdev : ((s.at t).bootEnded.enterProvision 0x60 l).dev = .provision := enterState_dev _ _ _ _
  rw [doBootComplete_leaves t hb hi hc hr, hleave]
  refine ⟨(State.settle_dev _).trans hdev, ?_, ?_, settle_dark (by simp [hdev]) (by simp [hdev])⟩
  · exact (State.settle_getF _ _ (by decide)).trans (enterState_cause _ _ _ _)
  · rw [State.settle_getF _ _ (by decide), State.enterProvision, State.enterState_getF _ _ _ _ _ (by decide)]
    exact getF_setF_of_lt _ _ (by decide) (by decide)

end

/-! The causes that the conditions of R390 leave. -/

theorem bootCauses_none {s : State} (hq : s.getF F.RST_PROV.REQ = 0) (hh : s.rst.clkHeld = []) (hf : s.rst.badRows = [])
    (ht : s.rst.selfTest = some true) (hi : s.rst.image.isSome = true)
    (hg : s.gradeS = false ∨ s.rst.lockRecord = none ∧ s.rst.lockLatch = false) : s.bootCauses = [] := by
  have hl : (s.gradeS && (s.rst.lockRecord.isSome || s.rst.lockLatch)) = false := by
    rcases hg with hg | ⟨hr, hl⟩
    · simp [hg]
    · simp [hr, hl]
  simp [State.bootCauses, State.flag, hq, hh, hf, ht, hi, hl]

theorem bootCauses_selfTest {s : State} (hq : s.getF F.RST_PROV.REQ = 0) (hf : s.rst.badRows = []) (ht : s.rst.selfTest ≠ some true) :
    ∃ l, s.bootCauses = 0x20 :: l := by
  have hflag : s.flag F.RST_PROV.REQ = false := by rw [State.flag, hq]; rfl
  have hrows : s.rst.badRows.isEmpty = true := by rw [hf]; rfl
  unfold State.bootCauses
  rw [if_pos hrows, if_neg (by rw [hflag]; decide), if_neg ht]
  simp only [List.nil_append, List.cons_append, List.append_assoc]
  exact ⟨_, rfl⟩

theorem bootCauses_badRow {s : State} (hf : s.rst.badRows ≠ []) : ∃ l, s.bootCauses = 0x60 :: l := by
  unfold State.bootCauses
  rw [if_neg (by simpa using hf)]
  simp only [List.cons_append, List.append_assoc]
  exact ⟨_, rfl⟩

end Sys2Proof.Machine
end

section
/-! PROOFS. Start-up (O52), continued: clocks that do not become stable, and the safety image verified again. -/

namespace Sys2Proof.Machine

theorem rst_of_spine {s u : State} (h : u.spine = s.spine) : u.rst = s.rst := congrArg Spine.rst h

theorem pwr_of_spine {s u : State} (h : u.spine = s.spine) : u.pwr = s.pwr := congrArg Spine.pwr h

/-! ## A clock that is not stable in time (R388) -/

theorem domainWaits_iff (s : State) (d n : Nat) :
    s.domainWaits d n = true ↔ s.getF (F.PWM_DOM_STAT.STATE.inst d) = 2 ∧ s.on d = false ∧ domainMonitor d = some n := by
  simp only [State.domainWaits, Bool.and_eq_true, decide_eq_true_eq, domState_eq_two, Bool.not_eq_true', and_assoc]

/-- What the failure of a monitor shows before its reset is decided. -/
def State.showFailed (s : State) (n : Nat) : State := ((s.monitorOut n 4).setBit F.CLK_MON_STAT.FAULT n true).raiseEvt 4 1

theorem monitorFailed_eq (s : State) (n : Nat) : s.monitorFailed n = (s.showFailed n).clockFailure n := rfl

theorem monitorOut_rst (s : State) (n st : Nat) : (s.monitorOut n st).rst = s.rst := rst_of_spine (monitorOut_spine s n st)

theorem showFailed_rst (s : State) (n : Nat) : (s.showFailed n).rst = s.rst := by
  rw [State.showFailed, State.raiseEvt_rst, State.setBit_rst, monitorOut_rst]

theorem showFailed_getF (s : State) (n : Nat) {f : Field} (hf : f.addr < 0x1000000) (h : f.addr / 0x1000 ≠ 4) :
    (s.showFailed n).getF f = s.getF f := by
  have hpage : f.addr ≠ 0x410C ∧ f.addr ≠ 4 * 0x1000 + 0x10 := by omega
  rw [State.showFailed, State.raiseEvt_getF _ _ _ _ hpage.2, getF_setBit_beside _ _ _ _ _ (by decide) (.inl hpage.1),
    monitorOut_getF _ _ _ hf hpage.1]

/-- The state words of domains lie beside the registers of a monitor. -/
theorem dom_addr_ne (d n : Nat) {f : Field} (hf : f.addr < 0x1000000) (h : f.addr ≠ 0x2128) :
    (F.PWM_DOM_STAT.STATE.inst d).addr ≠ (f.inst n).addr := by
  show 0x2128 + (d + 1) * 0x1000000 ≠ f.addr + (n + 1) * 0x1000000
  omega

theorem showFailed_dom (s : State) (n d : Nat) :
    (s.showFailed n).getF (F.PWM_DOM_STAT.STATE.inst d) = s.getF (F.PWM_DOM_STAT.STATE.inst d) := by
  have hne : ∀ a, a < 0x1000000 → (F.PWM_DOM_STAT.STATE.inst d).addr ≠ a := by
    intro a ha
    simp only [Field.inst]
    omega
  have hout : (s.monitorOut n 4).getF (F.PWM_DOM_STAT.STATE.inst d) = s.getF (F.PWM_DOM_STAT.STATE.inst d) := by
    rw [State.monitorOut, State.setStable, getF_setBit_beside _ F.CLK_MON_STAT.STABLE _ _ _ (by decide) (.inl (hne _ (by decide))),
      getF_setF_other _ _ _ _ (dom_addr_ne d n (by decide) (by decide))]
    rfl
  rw [State.showFailed, State.raiseEvt_getF _ _ _ _ (hne _ (by decide)),
    getF_setBit_beside _ F.CLK_MON_STAT.FAULT _ _ _ (by decide) (.inl (hne _ (by decide))), hout]

theorem showFailed_on (s : State) (n d : Nat) : (s.showFailed n).on d = s.on d := by
  have hout : (s.monitorOut n 4).pwr = s.pwr := pwr_of_spine (monitorOut_spine s n 4)
  rw [State.showFailed, State.raiseEvt_on, State.setBit_on, State.on, hout, State.on]

/-- A source that is raised in no reset and no load begins one. -/
theorem raiseReset_active {s : State} (src level : Nat) (ha : s.rst.active = none) (hl : s.rst.loading = false) (hd : s.dev ≠ .off) :
    (s.raiseReset src level).rst.active.isSome = true ∧ (s.raiseReset src level).rst.clkFails = s.rst.clkFails := by
  have hcount : (s.bump (F.RST_SRC_CNT.COUNT.inst src) 1).rst = s.rst := State.setF_rst _ _ _
  unfold State.raiseReset
  rw [if_neg (by simp [hd])]
  extract_lets level' u v r w
  rw [hcount, ha, hl]
  exact ⟨rfl, rfl⟩

/-- A clock that a domain waits for fails: one failure more, and for SMP and ANA the third holds the domain instead of a reset. -/
theorem clockFailure_waits {s : State} {n : Nat} {d : Fin 36} (hw : s.domainWaits d.val n = true) (ha : s.rst.active = none)
    (hl : s.rst.loading = false) (hd : s.dev ≠ .off) :
    countAt n (s.clockFailure n).rst.clkFails = countAt n s.rst.clkFails + 1 ∧
      (if (n = 1 ∨ n = 4) ∧ 2 ≤ countAt n s.rst.clkFails then
        (s.clockFailure n).rst.clkHeld.contains n = true ∧ (s.clockFailure n).rst.active = none
      else (s.clockFailure n).rst.active.isSome = true) := by
  obtain ⟨hst, hoff, hmon⟩ := (domainWaits_iff s d.val n).1 hw
  unfold State.clockFailure
  extract_lets u waits fails _ v
  have hwaits : waits = true := by
    refine List.any_eq_true.2 ⟨d.val, List.mem_range.2 d.isLt, (domainWaits_iff _ _ _).2 ⟨?_, hoff, hmon⟩⟩
    exact (getF_inst_setF _ _ _ _ _ (by decide)).trans hst
  have hfails : fails = countAt n s.rst.clkFails + 1 := by
    show countAt n s.rst.clkFails + (if waits = true then 1 else 0) = _
    rw [if_pos hwaits]
  have hcount : countAt n (tabSet n fails s.rst.clkFails) = countAt n s.rst.clkFails + 1 := by
    rw [countAt, tabFind_tabSet_self, hfails]
    rfl
  have hv : v.rst = { s.rst with clkFails := tabSet n fails s.rst.clkFails } := rfl
  have hvdev : v.dev ≠ .off := by
    have : v.dev = s.dev := congrArg DevState.ofCode (getF_setF_other s F.RST_CAUSE.MON F.SYS_STATE.STATE n (by decide))
    rwa [this]
  clear_value v waits fails
  subst hwaits hfails
  by_cases hheld : (n = 1 ∨ n = 4) ∧ 2 ≤ countAt n s.rst.clkFails
  · rw [if_pos (by simpa [and_comm] using hheld), if_pos hheld]
    refine ⟨?_, by simp, ?_⟩
    · exact (congrArg (fun x : RstState => countAt n x.clkFails) hv).trans hcount
    · exact (congrArg RstState.active hv).trans ha
  · rw [if_neg (by simpa [and_comm] using hheld), if_neg hheld]
    have hb : (v.bump F.RST_GATE.CLKFAIL 1).rst = v.rst := State.setF_rst _ _ _
    have hbdev : (v.bump F.RST_GATE.CLKFAIL 1).dev = v.dev := congrArg DevState.ofCode (getF_setF_other _ _ _ _ (by decide))
    obtain ⟨hact, hfail⟩ := raiseReset_active (s := v.bump F.RST_GATE.CLKFAIL 1) 6
      (min (v.sourceLevel 6) (clockLevel n)) (by rw [hb, hv]; exact ha) (by rw [hb, hv]; exact hl) (by rwa [hbdev])
    refine ⟨?_, hact⟩
    rw [hfail, hb, hv]
    exact hcount

theorem domainMonitor_le {d n : Nat} (h : domainMonitor d = some n) : n ≤ 6 := by
  unfold domainMonitor at h
  split_ifs at h <;> simp only [Option.some.injEq] at h <;> omega

/-- The monitor of a domain that waits is neither stable nor failed in time (R388). -/
theorem releaseClockTimeout_fails {s : State} {dom : Fin 36} {n : Nat} (t : Nat) (hmon : domainMonitor dom.val = some n)
    (hw : s.domainWaits dom.val n = true) (ha : s.rst.active = none) (hl : s.rst.loading = false) (hd : s.dev ≠ .off)
    (hst : s.monStable n = false) (hh : s.rst.clkHeld.contains n = false)
    (ht : max s.rst.relAt ((tabFind dom.val s.pwr.onAt).getD 0) + 20000000 ≤ max s.now t) :
    let u := (doReleaseClockTimeout dom t s).settle
    countAt n u.rst.clkFails = countAt n s.rst.clkFails + 1 ∧ u.getF F.RST_CAUSE.MON = n ∧
      (if (n = 1 ∨ n = 4) ∧ 2 ≤ countAt n s.rst.clkFails then u.rst.clkHeld.contains n = true ∧ u.rst.active = none
      else u.rst.active.isSome = true) := by
  dsimp only
  obtain ⟨hon, hoff, -⟩ := (domainWaits_iff _ _ _).1 hw
  have hwait : (s.at t).domainWaits dom.val n = true :=
    (domainWaits_iff _ _ _).2 ⟨(State.at_getF s t _).trans hon, (State.at_on s t _).trans hoff, hmon⟩
  have e : doReleaseClockTimeout dom t s = (((s.at t).setBit F.RST_GATE.WAIT n true).raiseEvt 1 3).monitorFailed n := by
    have hst' : (s.at t).monStable n = false := by simpa only [State.monStable, at_stableFrom] using hst
    unfold doReleaseClockTimeout
    simp only [hmon, hwait, State.at_rst, State.at_pwr, State.at_dev, State.at_now, ha, hl, hst', hh]
    exact if_pos (by simpa [hd] using ht)
  rw [e, State.settle_rst, State.settle_getF _ _ (by decide), monitorFailed_eq]
  generalize hx : ((s.at t).setBit F.RST_GATE.WAIT n true).raiseEvt 1 3 = x
  have hxrst : x.rst = s.rst := by rw [← hx, State.raiseEvt_rst, State.setBit_rst, State.at_rst]
  have hxon : ∀ d, x.on d = s.on d := fun d => by rw [← hx, State.raiseEvt_on, State.setBit_on, State.at_on]
  have hxget : ∀ f : Field, f.addr ≠ 0x1130 → f.addr ≠ 0x1010 → x.getF f = s.getF f := fun f h h' => by
    rw [← hx, State.raiseEvt_getF _ _ _ _ h', getF_setBit_beside _ F.RST_GATE.WAIT _ _ _ (by decide) (.inl h), State.at_getF]
  have hfrst : (x.showFailed n).rst = s.rst := (showFailed_rst x n).trans hxrst
  have hwf : (x.showFailed n).domainWaits dom.val n = true := by
    refine (domainWaits_iff _ _ _).2 ⟨?_, ?_, hmon⟩
    · rw [showFailed_dom, hxget _ (by simp only [Field.inst]; omega) (by simp only [Field.inst]; omega), hon]
    · rw [showFailed_on, hxon, hoff]
  have hdev : (x.showFailed n).dev = s.dev :=
    congrArg DevState.ofCode ((showFailed_getF _ _ (by decide) (by decide)).trans (hxget _ (by decide) (by decide)))
  obtain ⟨hcount, hact⟩ := clockFailure_waits hwf (by rw [hfrst, ha]) (by rw [hfrst, hl]) (by rwa [hdev])
  rw [hfrst] at hcount hact
  have hn := domainMonitor_le hmon
  exact ⟨hcount, clockFailure_mon _ (by omega), hact⟩

/-- Domains held for their clock are tried again once it has been stable for 1 s (R388). -/
theorem releaseRetry_tries {s : State} {retry : Retry} (t : Nat) (hh : s.rst.clkHeld.contains retry.mon.val = true)
    (hst : (s.at t).stableLong retry.mon.val = true) :
    let u := (doReleaseRetry retry t s).settle
    u.rst.clkHeld.contains retry.mon.val = false ∧ countAt retry.mon.val u.rst.clkFails = 0 ∧
      u.getF F.RST_GATE.CLKFAIL = min (s.getF F.RST_GATE.CLKFAIL + 1) (2 ^ F.RST_GATE.CLKFAIL.width - 1) := by
  dsimp only
  have e : doReleaseRetry retry t s = ((s.at t).mapRst (fun x => { x with
      clkHeld := x.clkHeld.filter (· ≠ retry.mon.val), clkFails := tabDel retry.mon.val x.clkFails })).bump F.RST_GATE.CLKFAIL 1 := by
    unfold doReleaseRetry
    extract_lets u n
    rw [if_pos (by simpa only [u, n, State.at_rst] using hh), if_pos hst]
  rw [e, State.settle_rst, State.settle_getF _ _ (by decide), State.bump_eq, State.setF_rst, getF_setF_min _ _ _ (by decide)]
  refine ⟨?_, ?_, ?_⟩
  · show List.contains (List.filter (· ≠ retry.mon.val) (s.at t).rst.clkHeld) _ = false
    simp
  · show (tabFind retry.mon.val (tabDel retry.mon.val (s.at t).rst.clkFails)).getD 0 = 0
    rw [tabFind_tabDel_self]
    rfl
  · exact congrArg (fun v => min (v + 1) _) (State.at_getF s t _)

/-! ## The safety image verified again (R379) -/

/-- A part of the state that every step of a fold leaves is left by the fold. -/
theorem foldl_keeps {α β : Type} (get : State → α) (l : List β) (g : State → β → State) (hg : ∀ (s : State), ∀ b ∈ l, get (g s b) = get s)
    (s : State) : get (l.foldl g s) = get s := by
  induction l generalizing s with
  | nil => rfl
  | cons b l ih =>
    rw [List.foldl_cons, ih (fun s b hb => hg s b (List.mem_cons_of_mem _ hb)), hg s b List.mem_cons_self]

/-- A write to a register leaves what the safety channels hold. (The state is taken apart once, for the kernel.) -/
theorem setF_keepsSaf (s : State) (f : Field) (v : Nat) : (s.setF f v).saf = s.saf := by cases s; rfl

theorem showNoImage_saf (s : State) : s.showNoImage.saf = s.saf := by
  unfold State.showNoImage
  exact foldl_keeps State.saf _ _ (fun s p _ => by simp only [setF_keepsSaf]) _

theorem setCeilings_saf (s : State) (img : Option (List Byte)) : (s.setCeilings img).saf = s.saf := by
  unfold State.setCeilings
  extract_lets u
  have hu : u.saf = s.saf := foldl_keeps State.saf _ _ (fun s z _ => by
    dsimp only
    split <;> simp only [setF_keepsSaf]) s
  exact (foldl_keeps State.saf _ _ (fun s n _ => setF_keepsSaf _ _ _) u).trans hu

theorem workingCeilings_saf (s : State) (img : Option (List Byte)) : (s.workingCeilings img).saf = s.saf := by
  unfold State.workingCeilings
  extract_lets u
  split
  · exact setCeilings_saf s img
  · exact (State.raiseEvt_saf _ _ _).trans (setCeilings_saf s img)

theorem outputsOff_off (s : State) (field : Bool) : (s.outputsOff field).saf.outputsOn = false := by
  unfold State.outputsOff
  split
  · extract_lets _ u v
    have hv : v.saf.outputsOn = false := by
      simp only [v, State.recPulse_saf, State.safetyEvt, State.raiseEvt_saf, State.bump_eq, setF_keepsSaf]
      rfl
    clear_value v
    split
    · exact hv
    · exact hv
  · next h => simpa using h

theorem showConfig_saf (s : State) (p : Nat) (i : List Byte) : (s.showConfig p i).saf = s.saf := by
  simp only [State.showConfig, State.setB, setF_keepsSaf]

/-- A newly active image is that of both channels, and the outputs are off. -/
theorem newlyActive_saf (s : State) (i j : List Byte) :
    (s.newlyActive i j).saf = { (s.outputsOff false).saf with activeA := some i, activeB := some j, counts := [], raised := [], clearRun := 0 } := by
  unfold State.newlyActive
  extract_lets u _ v w x y z
  have hw : w.saf = v.saf := by simp only [w, setF_keepsSaf]
  have hx : x.saf = w.saf := by simp only [x, showConfig_saf]
  have hy : y.saf = x.saf := by simp only [y, setF_keepsSaf]
  have hz : z.saf = y.saf := by simp only [z, setF_keepsSaf]
  have hv : v.saf = { u.saf with activeA := some i, activeB := some j, counts := [], raised := [], clearRun := 0 } := rfl
  clear_value z y x w v
  rw [State.safetyEvt, State.raiseEvt_saf, State.raiseEvt_saf, workingCeilings_saf, hz, hy, hx, hw, hv]

/-- The image is active in neither channel, and the fused ceilings work alone. -/
def State.dropImage (s : State) : State :=
  let s := State.showNoImage { s with saf := { s.saf with activeA := none, activeB := none } }
  if s.on 8 then s.workingCeilings none else s

theorem dropImage_leaves (s : State) : s.dropImage.rst = s.rst ∧ s.dropImage.saf.activeA = none ∧ s.dropImage.saf.activeB = none := by
  unfold State.dropImage
  extract_lets _ w
  have hwsaf : w.saf = { s.saf with activeA := none, activeB := none } := showNoImage_saf _
  have hwrst : w.rst = s.rst := rst_of_spine ((showNoImage_spine _).trans (saf_spine _ _))
  clear_value w
  split
  · rw [rst_of_spine (workingCeilings_spine _ _), workingCeilings_saf, hwsaf, hwrst]
    exact ⟨rfl, rfl, rfl⟩
  · rw [hwsaf, hwrst]
    exact ⟨rfl, rfl, rfl⟩

/-- An image that does not verify again in both channels is active no more. -/
theorem safetyImageReverify_fails {s : State} {passA passB : Bool} (t : Nat) (hr : s.rst.reverify = true) (h1 : s.on 1 = true)
    (h2 : s.on 2 = true) (hp : passA = false ∨ passB = false) :
    let u := (doSafetyImageReverify passA passB t s).settle
    u.rst.reverify = false ∧ u.saf.activeA = none ∧ u.saf.activeB = none := by
  dsimp only
  have hpass : (passA && passB) = false := by rcases hp with hp | hp <;> simp [hp]
  have e : doSafetyImageReverify passA passB t s = ((s.at t).mapRst (fun x => { x with reverify := false })).dropImage := by
    unfold doSafetyImageReverify
    rw [if_neg (by simp only [State.at_rst, State.at_on, hr, h1, h2]; decide), hpass]
    rfl
  obtain ⟨hrst, hA, hB⟩ := dropImage_leaves ((s.at t).mapRst (fun x => { x with reverify := false }))
  rw [e, State.settle_rst, State.settle_saf, hrst]
  exact ⟨rfl, hA, hB⟩

/-- An image that verifies again in both channels stays active, as newly activated. -/
theorem safetyImageReverify_passes {s : State} {i j : List Byte} (t : Nat) (hr : s.rst.reverify = true) (h1 : s.on 1 = true)
    (h2 : s.on 2 = true) (hi : s.saf.activeA = some i) (hj : s.saf.activeB = some j) :
    let u := (doSafetyImageReverify true true t s).settle
    u.rst.reverify = false ∧ u.saf.activeA = some i ∧ u.saf.activeB = some j ∧ u.saf.outputsOn = false := by
  dsimp only
  rw [State.settle_rst, State.settle_saf]
  have e : doSafetyImageReverify true true t s = ((s.at t).mapRst (fun x => { x with reverify := false })).newlyActive i j := by
    have hv : ((s.at t).mapRst (fun x => { x with reverify := false })).saf = s.saf := State.at_saf s t
    unfold doSafetyImageReverify
    extract_lets u v
    rw [if_neg (by simp only [u, State.at_rst, State.at_on, hr, h1, h2]; decide), hv, hi, hj]
    rfl
  rw [e, newlyActive_saf, rst_of_spine (newlyActive_spine _ _ _)]
  exact ⟨rfl, rfl, rfl, outputsOff_off _ _⟩

end Sys2Proof.Machine
end

section
/-! PROOFS. Start-up (O52), continued: the release of a domain changes the power state by that release alone. What its blocks take up (fused
values, the retirement record, their own start) leaves the power state. -/

namespace Sys2Proof.Machine

/-! ## Writes -/

/-! The state is taken apart once in each of these, for the kernel. -/

theorem setF_keepsPwr (s : State) (f : Field) (v : Nat) : (s.setF f v).pwr = s.pwr := by cases s; rfl
theorem poke_keepsPwr (s : State) (a : Nat) (w : Word) : (s.poke a w).pwr = s.pwr := by cases s; rfl
theorem setBit_keepsPwr (s : State) (f : Field) (i : Nat) (b : Bool) : (s.setBit f i b).pwr = s.pwr := setF_keepsPwr s f _
theorem setB_keepsPwr (s : State) (f : Field) (b : Bool) : (s.setB f b).pwr = s.pwr := setF_keepsPwr s f _
theorem bump_keepsPwr (s : State) (f : Field) (n : Nat) : (s.bump f n).pwr = s.pwr := setF_keepsPwr s f _
theorem mapRst_keepsPwr (s : State) (g : RstState → RstState) : (s.mapRst g).pwr = s.pwr := by cases s; rfl
theorem mapCal_keepsPwr (s : State) (g : CalState → CalState) : (s.mapCal g).pwr = s.pwr := by cases s; rfl
theorem mapTp_keepsPwr (s : State) (g : TransportState → TransportState) : (s.mapTp g).pwr = s.pwr := by cases s; rfl

theorem resetPages_keepsPwr (s : State) (d why : Nat) : (s.resetPages d why).pwr = s.pwr := by cases s; rfl

/-! ## Fused values (R386) -/

theorem applyFuses_keepsPwr (s : State) (d : Nat) : (s.applyFuses d).pwr = s.pwr := by
  have hceil : ∀ u : State, (u.setCeilings u.image).pwr = u.pwr := fun u => pwr_of_spine (setCeilings_spine _ _)
  have hzone : (((List.range 16).foldl (fun s z =>
      (s.setF (F.EMT_ZONE_FUSED.SHORT.inst z) (s.fusedCeil z 0)).setF (F.EMT_ZONE_FUSED.LONG.inst z) (s.fusedCeil z 1)) s : State)).pwr = s.pwr :=
    foldl_keeps State.pwr _ _ (fun s z _ => by simp only [setF_keepsPwr]) s
  unfold State.applyFuses
  split
  · simp only [setF_keepsPwr]
  split
  · simp only [setF_keepsPwr]
  split
  · simp only [setF_keepsPwr]
  split
  · exact (hceil _).trans hzone
  split
  · exact setF_keepsPwr _ _ _
  · rfl

/-! ## The retirement record (R354) -/

theorem fusedMaps_keepsPwr (s : State) (owned : Nat → Bool) : (s.fusedMaps owned).pwr = s.pwr := by
  refine foldl_keeps State.pwr _ _ (fun s e _ => ?_) s
  split
  · exact poke_keepsPwr _ _ _
  · rfl

theorem restoreTaps_keepsPwr (s : State) (d : Nat) : (s.restoreTaps d).pwr = s.pwr := by cases s; rfl

theorem stand_keepsPwr (s : State) (page cause : Nat) : (s.stand page cause).pwr = s.pwr := by
  unfold State.stand
  extract_lets u
  have hu : u.pwr = s.pwr := setF_keepsPwr _ _ _
  split
  · exact hu
  · exact hu

theorem restorePools_keepsPwr (s : State) (d : Nat) (lost : Bool) : (s.restorePools d lost).pwr = s.pwr := by
  unfold State.restorePools
  extract_lets mine _ u
  have hu : u.pwr = s.pwr := by
    show State.pwr (if lost = true then _ else s) = _
    split <;> rfl
  exact (foldl_keeps State.pwr _ _ (fun s e _ => stand_keepsPwr s _ _) u).trans hu

theorem applyRecord_keepsPwr (s : State) (d : Nat) (copyA copyB : Bool) : (s.applyRecord d copyA copyB).pwr = s.pwr := by
  unfold State.applyRecord
  extract_lets owned u put lost v w x y
  have hu : u.pwr = s.pwr := fusedMaps_keepsPwr s owned
  have hv : v.pwr = u.pwr := by
    show State.pwr (if lost = true then _ else u) = _
    split
    · exact mapCal_keepsPwr _ _
    · rfl
  have hput : ∀ (s : State) (e : Nat × Word), (put s e).pwr = s.pwr := fun s e => by
    show State.pwr (if owned e.1 = true then _ else s) = _
    split
    · exact poke_keepsPwr _ _ _
    · rfl
  have hw : w.pwr = v.pwr := by
    simp only [w, restorePools_keepsPwr, restoreTaps_keepsPwr]
    exact foldl_keeps State.pwr _ _ (fun s e _ => hput s e) v
  have hy : y.pwr = w.pwr := by simp only [y, x, setB_keepsPwr, mapCal_keepsPwr]
  clear_value y x w v u
  rw [hv, hu] at hw
  split
  · exact hw
  split
  · exact (State.raiseEvt_pwr _ _ _).trans (hy.trans hw)
  split
  · exact hy.trans hw
  · exact hy.trans hw

end Sys2Proof.Machine
end

section
/-! PROOFS. Start-up (O52), continued: what the blocks of a domain start with leaves the power state, and the domain is released. -/

namespace Sys2Proof.Machine

/-! ## Tiles of a GRN engine (R202 to R204) -/

theorem standTrigger_keepsPwr (s : State) (page cause : Nat) : (s.standTrigger page cause).pwr = s.pwr := by
  have hstand : ((s.stand page cause).recordDue).pwr = s.pwr := stand_keepsPwr s page cause
  unfold State.standTrigger State.noteArisen
  extract_lets _ u
  have hu : u.pwr = s.pwr := hstand
  clear_value u
  split
  · exact (pwr_of_spine (noteCauses_spine _ _)).trans hu
  · exact hu

theorem poolTrigger_keepsPwr (s : State) (page cause : Nat) : (s.poolTrigger page cause).pwr = s.pwr := by
  unfold State.poolTrigger
  extract_lets u
  have hu : u.pwr = s.pwr := by
    simp only [u]
    split
    · split
      · split
        · rfl
        · exact (State.raiseEvt_pwr _ _ _).trans (setBit_keepsPwr _ _ _ _)
      · exact bump_keepsPwr _ _ _
    · rfl
  exact (standTrigger_keepsPwr u page cause).trans hu

theorem remapTile_keepsPwr (s : State) (e i : Nat) : (s.remapTile e i).pwr = s.pwr := by
  have hdue : ∀ u : State, u.recordDue.pwr = u.pwr := fun u => by cases u; rfl
  unfold State.remapTile
  extract_lets p map spare failed u v w first x y z
  have hu : u.pwr = s.pwr := setBit_keepsPwr _ _ _ _
  have hv : v.pwr = u.pwr := setBit_keepsPwr _ _ _ _
  have hw : w.pwr = v.pwr := setF_keepsPwr _ _ _
  have hx : x.pwr = w.pwr := (bump_keepsPwr _ _ _).trans (setBit_keepsPwr _ _ _ _)
  have hy : y.pwr = x.pwr := setF_keepsPwr _ _ _
  have hz : z.pwr = v.pwr := setF_keepsPwr _ _ _
  clear_value z y x w v u
  split
  · exact (setF_keepsPwr _ _ _).trans hu
  split
  · rw [poolTrigger_keepsPwr, State.raiseEvt_pwr, State.spareTaken, State.partTaken, hdue, State.raiseEvt_pwr, State.raiseEvt_pwr,
      State.raiseEvt_pwr, hy, hx, hw, hv, hu]
  · rw [poolTrigger_keepsPwr, hdue, State.raiseEvt_pwr, setBit_keepsPwr, hz, hv, hu]

theorem releaseEngine_keepsPwr (s : State) (e : Nat) : (s.releaseEngine e).pwr = s.pwr := by
  have hdrain : (s.setF (F.GRN_ENG_TSTAT.DRAIN.inst e) 0).pwr = s.pwr := setF_keepsPwr _ _ _
  unfold State.releaseEngine
  refine (foldl_keeps State.pwr _ _ (fun s i _ => ?_) _).trans hdrain
  dsimp only
  split
  · split
    · exact remapTile_keepsPwr _ _ _
    · exact setBit_keepsPwr _ _ _ _
  · rfl

/-! ## Time and clocks -/

theorem timeRelease_keepsPwr (s : State) : s.timeRelease.pwr = s.pwr := by
  have hage : (s.setI F.CLK_AGE.AGE s.time.age).pwr = s.pwr := setF_keepsPwr _ _ _
  have htick : ∀ u : State, u.tick.pwr = u.pwr := fun u => by cases u; rfl
  have hmap : ∀ (u : State) (g : TimeState → TimeState), (u.mapTime g).pwr = u.pwr := fun u g => by cases u; rfl
  unfold State.timeRelease
  extract_lets u v
  have hv : v.pwr = s.pwr := by
    simp only [v, u, hmap]
    exact (pwr_of_spine (setTrim_spine _ _)).trans hage
  clear_value v
  split
  · extract_lets bound err w x
    have hw : w.pwr = s.pwr := by simp only [w, hmap, htick, hv]
    clear_value w
    split
    · refine (pwr_of_spine (setServo_spine _ _)).trans ((bump_keepsPwr _ _ _).trans ?_)
      exact (hmap w _).trans hw
    · exact hw
  · exact (hmap v _).trans hv

theorem showMonitors_keepsPwr (s : State) : s.showMonitors.pwr = s.pwr := by
  refine foldl_keeps State.pwr _ _ (fun s n _ => ?_) s
  split
  · extract_lets u
    have hu : u.pwr = s.pwr := (setF_keepsPwr _ _ _).trans (setBit_keepsPwr _ _ _ _)
    clear_value u
    split
    · exact (setBit_keepsPwr _ _ _ _).trans hu
    · exact hu
  · rfl

/-! ## Ledger, recorder, regions -/

theorem restoreLedger_keepsPwr (s : State) : s.restoreLedger.pwr = s.pwr := by
  unfold State.restoreLedger
  extract_lets u
  have hu : u.pwr = s.pwr := by
    simp only [u]
    split <;> exact mapTp_keepsPwr _ _
  exact (setF_keepsPwr _ _ _).trans ((setB_keepsPwr _ _ _).trans hu)

theorem releaseRecorder_keepsPwr (s : State) : s.releaseRecorder.pwr = s.pwr := by
  unfold State.releaseRecorder
  extract_lets st _ u
  have hu : u.pwr = s.pwr := rfl
  clear_value u
  split
  · exact hu
  · exact (setB_keepsPwr _ _ _).trans ((setF_keepsPwr _ _ _).trans hu)

theorem takeSizes_keepsPwr (s : State) : s.takeSizes.pwr = s.pwr := by
  unfold State.takeSizes
  extract_lets req total fits
  split
  · exact (State.raiseEvt_pwr _ _ _).trans (State.recErr_pwr _ _ _ _)
  · exact (setF_keepsPwr _ _ _).trans (foldl_keeps State.pwr _ _ (fun s c _ => setF_keepsPwr _ _ _) s)

theorem showHostSide_keepsPwr (s : State) : s.showHostSide.pwr = s.pwr := by
  simp only [State.showHostSide, setF_keepsPwr, setB_keepsPwr]

/-! ## The blocks of each domain -/

theorem startBlocks_keepsPwr (s : State) (d : Nat) (cold : Bool) : (s.startBlocks d cold).pwr = s.pwr := by
  have hport : ∀ (p : Nat) (g : Port → Port), ((s.mapPort p g).showHostSide).pwr = s.pwr := fun p g =>
    (showHostSide_keepsPwr _).trans (pwr_of_spine (mapPort_spine s p g))
  have hdiode : ((List.range 128).foldl State.chooseDiode s).pwr = s.pwr :=
    foldl_keeps State.pwr _ _ (fun s l _ => setBit_keepsPwr _ _ _ _) s
  unfold State.startBlocks
  split
  · simp only [State.showLockout, setF_keepsPwr, setB_keepsPwr]
  · exact (showMonitors_keepsPwr _).trans (timeRelease_keepsPwr s)
  · exact setF_keepsPwr _ _ _
  · refine (takeSizes_keepsPwr _).trans ?_
    split
    · exact restoreLedger_keepsPwr s
    · exact releaseRecorder_keepsPwr s
  · exact hport 0 _
  · exact hport 1 _
  · exact (pwr_of_spine (countReserves_spine _)).trans hdiode
  · exact pwr_of_spine (refOkFromTime_spine s)
  · extract_lets u v w
    have hu : u.pwr = s.pwr := foldl_keeps State.pwr _ _ (fun s g _ => poke_keepsPwr _ _ _) s
    have hv : v.pwr = u.pwr := foldl_keeps State.pwr _ _ (fun s c _ => by
      split
      · exact (setBit_keepsPwr _ _ _ _).trans (setF_keepsPwr _ _ _)
      · rfl) u
    have hw : w.pwr = v.pwr := setF_keepsPwr _ _ _
    exact hw.trans (hv.trans hu)
  · split
    · rfl
    split
    · exact releaseEngine_keepsPwr s _
    · rfl

/-! ## The release (R388) -/

theorem keepEra_pwr (s : State) : s.keepEra.pwr = s.pwr := by
  unfold State.keepEra
  split <;> rfl

theorem advanceEpoch_pwr (s : State) : s.advanceEpoch.pwr = s.pwr := (setF_keepsPwr _ _ _).trans (keepEra_pwr s)

/-- The power state with a domain released. -/
def PowerState.withReleased (x : PowerState) (d : Nat) : PowerState := { x with released := x.released ++ [d], why := tabDel d x.why }

theorem releaseDomain_pwr (s : State) (d : Nat) (copyA copyB : Bool) : (s.releaseDomain d copyA copyB).pwr = s.pwr.withReleased d := by
  have hreset : ∀ o : Option Nat, State.pwr (match o with | some w => s.resetPages d w | none => s) = s.pwr := by
    intro o
    cases o with
    | none => rfl
    | some w => exact resetPages_keepsPwr s d w
  unfold State.releaseDomain
  extract_lets old why cold u v w x y z a
  have hu : u.pwr = s.pwr := hreset why
  have hv : v.pwr = s.pwr.withReleased d := congrArg (fun x => PowerState.withReleased x d) hu
  have hw : w.pwr = v.pwr := by
    simp only [w]
    split
    · exact (setBit_keepsPwr _ _ _ _).trans (mapRst_keepsPwr _ _)
    · rfl
  have hx : x.pwr = w.pwr := (applyRecord_keepsPwr _ _ _ _).trans (applyFuses_keepsPwr w d)
  have hy : y.pwr = x.pwr := by
    simp only [y]
    split
    · exact applyRecord_keepsPwr _ _ _ _
    · rfl
  have hz : z.pwr = y.pwr := startBlocks_keepsPwr _ _ _
  have ha : a.pwr = z.pwr := foldl_keeps State.pwr _ _ (fun s p _ => State.raiseEvt_pwr s p 30) z
  have hb : a.pwr = s.pwr.withReleased d := ha.trans (hz.trans (hy.trans (hx.trans (hw.trans hv))))
  rw [bootStep_pwr]
  split
  · exact (advanceEpoch_pwr a).trans hb
  · exact hb

theorem mayRelease_at (s : State) (t d : Nat) : (s.at t).mayRelease d = s.mayRelease d := by
  have hstate : decide ((s.at t).domState d = 2) = decide (s.domState d = 2) := by
    simp only [domState_eq_two, State.at_getF]
  simp only [State.mayRelease, hstate, State.monStable, State.bootTurn, State.at_on, State.at_rst, State.at_dev, at_stableFrom]

/-- A domain that may be released is. -/
theorem domainRelease_releases {s : State} {dom : Fin 36} (copyA copyB : Bool) (t : Nat) (h : s.mayRelease dom.val = true) :
    let u := (doDomainRelease dom copyA copyB t s).settle
    u.on dom.val = true ∧ u.pwr.released = s.pwr.released ++ [dom.val] ∧ tabFind dom.val u.pwr.why = none := by
  dsimp only
  have e : doDomainRelease dom copyA copyB t s = (s.at t).releaseDomain dom.val copyA copyB := if_pos ((mayRelease_at s t _).trans h)
  have hp : (doDomainRelease dom copyA copyB t s).settle.pwr = s.pwr.withReleased dom.val := by
    rw [State.settle_pwr, e, releaseDomain_pwr, State.at_pwr]
  rw [State.on, hp]
  refine ⟨?_, rfl, tabFind_tabDel_self _ _⟩
  simp [PowerState.withReleased]

/-! ## The obligation -/

/-- Settles O52: each command of start-up, by what its own lemma says it leaves. -/
theorem bootToItsDestination : Obligations.BootToItsDestination := by
  refine ⟨?_, ?_, ?_, ?_, ?_, ?_, ?_, ?_, ?_, ?_⟩
  · intro s dom copyA copyB t h
    exact ⟨_, rfl, domainRelease_releases copyA copyB t h⟩
  · intro s dom t n hmon hw ha hl hd hst hh ht
    exact ⟨_, rfl, releaseClockTimeout_fails t hmon hw ha hl hd hst hh ht⟩
  · intro s retry t hh hst
    exact ⟨_, rfl, releaseRetry_tries t hh hst⟩
  · intro s passA passB t hr h1 h2 hp
    exact ⟨_, rfl, safetyImageReverify_fails t hr h1 h2 hp⟩
  · intro s t i j hr h1 h2 hi hj
    exact ⟨_, rfl, safetyImageReverify_passes t hr h1 h2 hi hj⟩
  · intro s pass t hb hn h4 ha
    exact ⟨_, rfl, doSelfTestComplete_takes pass t hb hn h4 ha⟩
  · intro s formed0 formed1 t hb hs hd
    refine ⟨_, rfl, ?_⟩
    dsimp only
    by_cases hv : s.judgeImage s.bootSlot (if s.bootSlot = 0 then formed0 else formed1) = 1
    · obtain ⟨hrst, hdev, hbooted, hslot⟩ := imageVerify_accepts (formed0 := formed0) (formed1 := formed1) t hb hs hd hv
      rw [hrst, if_pos hv]
      exact ⟨⟨⟨rfl, hbooted⟩, hslot.trans hv.symm, fun h => absurd hv h⟩, rfl, rfl, hdev⟩
    · obtain ⟨hrst, hdev, hbooted, hslot, hother⟩ := imageVerify_refuses (formed0 := formed0) (formed1 := formed1) t hb hs hd hv
      rw [hrst, if_neg hv]
      refine ⟨⟨?_, hslot, fun _ => hother⟩, rfl, rfl, hdev⟩
      by_cases h : s.judgeImage (1 - s.bootSlot) (if 1 - s.bootSlot = 0 then formed0 else formed1) = 1
      · rw [if_pos h]
        exact ⟨if_pos h, hbooted h⟩
      · rw [if_neg h]
        exact if_neg h
  · intro s t hb hi hc hr hq hh hf hst him hg
    exact ⟨_, rfl, bootComplete_standby t hb hi hc hr (bootCauses_none hq hh hf hst him hg)⟩
  · intro s t hb hi hc hr hq hcyc hf hst
    obtain ⟨l, hl⟩ := bootCauses_selfTest hq hf hst
    exact ⟨_, rfl, bootComplete_safe t hb hi hc hr hl hcyc⟩
  · intro s t hb hi hc hr hq hf
    obtain ⟨l, hl⟩ := bootCauses_badRow hf
    exact ⟨_, rfl, bootComplete_provision t hb hi hc hr hl⟩

end Sys2Proof.Machine
end

section
/-! PROOFS. The register store reads back (R25; O11, O12). -/

namespace Sys2Proof.Machine

/-- Settles O11: a store reads as written at the word and as before elsewhere, and a write keeps its canonical form. -/
theorem storeReadsBack : Obligations.StoreReadsBack := by
  intro s a b w
  refine ⟨?_, cellsWf_cellPut resetWord a w s.regs⟩
  by_cases h : b = a
  · rw [if_pos h, h, peek_poke_self]
  · rw [if_neg h, peek_poke_other s w h]

/-- Settles O12: by what a field reads after it has been set, and after another has. -/
theorem fieldReadsBack : Obligations.FieldReadsBack :=
  fun s f g v hf => ⟨getF_setF_self s f v hf, getF_setF_beside s f g v hf⟩

end Sys2Proof.Machine
end

section
/-! PROOFS. An access to an unaligned address is refused with `ADDR_ERROR` (R24; O59). The refusal itself, once its status is known, is that
of O60: `refused_answer`. -/

namespace Sys2Proof.Machine

theorem accessRefused_unaligned (s : State) {a : Nat} (h : a % 4 ≠ 0) : s.accessRefused a = some 1 := if_pos h

/-- The first word of a READ stands at its address. -/
theorem wordAddrs_succ (addr n : Nat) : wordAddrs addr (n + 1) = addr :: ((List.range n).map Nat.succ).map (fun i => addr + 4 * i) := by
  rw [wordAddrs, List.range_succ_eq_map, List.map_cons, Nat.mul_zero, Nat.add_zero]

/-- A READ at an unaligned address is refused by its first word. -/
theorem readBody_unaligned (s : State) {addr count : Nat} (x : Session) (h1 : 1 ≤ count) (ha : addr % 4 ≠ 0) :
    readBody addr count x s = (some (Reply.of 1 []), s) := by
  obtain ⟨n, rfl⟩ := Nat.exists_eq_add_of_le' h1
  simp [readBody, wordAddrs_succ, accessRefused_unaligned s ha, refuse]

/-- A WRITE at an unaligned address is refused by its first word, before any is performed. -/
theorem writeBody_unaligned (s : State) {sess addr : Nat} {words : List Word} (x : Session) (h1 : 1 ≤ words.length) (ha : addr % 4 ≠ 0) :
    writeBody sess addr words x s = (some { status := 1, payload := [], result := leBytes 4 0 }, s) := by
  obtain ⟨w, l, rfl⟩ : ∃ w l, words = w :: l := List.exists_cons_of_length_pos h1
  obtain ⟨rest, hr⟩ := wordsAt_cons addr w l
  have hcheck : ∀ wr all, State.checkWords wr all ((addr, w.toNat) :: rest) s = some (plainFail 1) := by
    intro wr all
    simp [State.checkWords, State.checkWord, accessRefused_unaligned s ha]
  unfold writeBody
  dsimp only
  rw [hr, hcheck]
  rfl

/-- Settles O59: each of the two is refused with `ADDR_ERROR` by the body of its command. -/
theorem unalignedIsRefused : Obligations.UnalignedIsRefused := by
  constructor
  · intro s sess seq x addr count hs hno hun hx hw hseq hlt hwh hroom haddr h1 hc ha
    have hpay : leBytes 4 addr ++ leBytes 2 count ++ leBytes 2 0 = accessPayload addr count [] := (List.append_nil _).symm
    exact refused_answer (r := Reply.of 1 []) hs hno hun hx hw hseq hlt hwh hroom (hpay ▸ read_payloadGood haddr h1 hc) rfl (by decide) rfl
      (readBody_unaligned _ x h1 ha) (fun v _ => rfl)
  · intro s sess seq x addr words hs hno hun hx hw hseq hlt hwh hroom haddr h1 hc ha
    exact refused_answer hs hno hun hx hw hseq hlt hwh hroom (write_payloadGood haddr h1 hc) rfl (by decide) rfl
      (writeBody_unaligned _ x h1 ha) (fun v => softwareReset_of_not_ok sess _)

end Sys2Proof.Machine
end

section
/-! PROOFS. The parts of the state (`Part`), each as one value: what an update of the state leaves of them. -/

namespace Sys2Proof.Machine

/-- What a part of the state holds. -/
abbrev Part.Val : Part → Type
  | .queue => List Instr
  | .staged | .banks | .frozen => List (Nat × Word)
  | .memory => MemState
  | .resets => RstState
  | .power => PowerState
  | .thermal => ThermalState
  | .scheduler => SchedState
  | .steering => SteerState
  | .emitters => EmitState
  | .timing => EtdState
  | .receivers => RxState
  | .histograms => GrindState
  | .crema => CremaState
  | .safety => SafetyState
  | .calibration => CalState
  | .converter => HkaState
  | .mounts => ExcState
  | .fuses => List (Nat × List Byte) × List (Nat × List Byte)
  | .images => List (Nat × Byte) × List (Nat × Byte)
  | .keys => List (Nat × KeySlot)

/-- A part of the state. -/
def State.part (s : State) : (p : Part) → p.Val
  | .queue => s.pending
  | .staged => s.shadow
  | .banks => s.ram
  | .frozen => s.frozen
  | .memory => s.mem
  | .resets => s.rst
  | .power => s.pwr
  | .thermal => s.thm
  | .scheduler => s.sch
  | .steering => s.ste
  | .emitters => s.emt
  | .timing => s.etd
  | .receivers => s.rxc
  | .histograms => s.grn
  | .crema => s.crm
  | .safety => s.saf
  | .calibration => s.cal
  | .converter => s.hka
  | .mounts => s.exc
  | .fuses => (s.rst.fuseA, s.rst.fuseB)
  | .images => (s.rst.nor0, s.rst.nor1)
  | .keys => s.rst.keySlots

/-- A part is the same exactly where its values are equal. -/
theorem same_iff_part (p : Part) (s u : State) : p.Same s u ↔ u.part p = s.part p := by
  cases p <;> simp [Part.Same, State.part, Prod.ext_iff]

/-- The parts that the end of a frame empties. -/
abbrev frameParts : List Part := [.scheduler, .steering, .emitters, .timing, .receivers, .histograms, .safety]

/-- The parts that the loss of a power domain empties. -/
abbrev domainParts : List Part := [.staged, .banks, .memory, .power, .crema, .calibration, .converter, .mounts] ++ frameParts

/-! `π` is the part looked at. What an operation may change is a list of parts, and `π` is none of them. -/

variable {π : Part}

theorem outside {l m : List Part} (hlm : l ⊆ m) (h : π ∉ m) : π ∉ l := fun hp => h (hlm hp)

theorem part_ite (c : Prop) [Decidable c] (a b : State) : (if c then a else b).part π = if c then a.part π else b.part π :=
  apply_ite (fun s => s.part π) c a b

theorem part_ite_of {c : Prop} [Decidable c] {a b s : State} (ha : a.part π = s.part π) (hb : b.part π = s.part π) :
    (if c then a else b).part π = s.part π := by
  rw [part_ite, ha, hb, ite_self]

theorem part_then {c : Prop} [Decidable c] {a b : State} (ha : a.part π = b.part π) : (if c then a else b).part π = b.part π :=
  part_ite_of ha rfl

theorem part_else {c : Prop} [Decidable c] {a b : State} (hb : b.part π = a.part π) : (if c then a else b).part π = a.part π :=
  part_ite_of rfl hb

/-- A loop whose every turn leaves a part leaves it. -/
theorem part_foldl {β : Type} {g : State → β → State} (hg : ∀ s b, (g s b).part π = s.part π) (l : List β) (s : State) :
    (l.foldl g s).part π = s.part π := by
  induction l generalizing s with
  | nil => rfl
  | cons b l ih => exact (ih (g s b)).trans (hg s b)

/-! ## A part written

Registers, clock and reports, which are no parts, may be written beside it. -/

section
variable (s : State) (now free : Nat) (regs : List (Nat × Word)) (sys : SysState) (tp : TransportState) (time : TimeState) (net : NetState)
  (rcd : RecState) (pins : Pins)

theorem part_reports :
    ({ s with now := now, free := free, regs := regs, sys := sys, tp := tp, time := time, net := net, rcd := rcd, pins := pins } : State).part π =
      s.part π := by
  cases π <;> rfl

theorem part_shadow (h : π ∉ [.staged]) (x : List (Nat × Word)) :
    ({ s with shadow := x, now := now, free := free, regs := regs, sys := sys, tp := tp, time := time, net := net, rcd := rcd, pins := pins } :
      State).part π = s.part π := by
  cases π with
  | staged => exact absurd (List.mem_singleton_self _) h
  | _ => rfl

theorem part_ram (h : π ∉ [.banks]) (x : List (Nat × Word)) :
    ({ s with ram := x, now := now, free := free, regs := regs, sys := sys, tp := tp, time := time, net := net, rcd := rcd, pins := pins } :
      State).part π = s.part π := by
  cases π with
  | banks => exact absurd (List.mem_singleton_self _) h
  | _ => rfl

theorem part_frozen (h : π ∉ [.frozen]) (x : List (Nat × Word)) :
    ({ s with frozen := x, now := now, free := free, regs := regs, sys := sys, tp := tp, time := time, net := net, rcd := rcd, pins := pins } :
      State).part π = s.part π := by
  cases π with
  | frozen => exact absurd (List.mem_singleton_self _) h
  | _ => rfl

theorem part_mem (h : π ∉ [.memory]) (x : MemState) :
    ({ s with mem := x, now := now, free := free, regs := regs, sys := sys, tp := tp, time := time, net := net, rcd := rcd, pins := pins } :
      State).part π = s.part π := by
  cases π with
  | memory => exact absurd (List.mem_singleton_self _) h
  | _ => rfl

theorem part_pwr (h : π ∉ [.power]) (x : PowerState) :
    ({ s with pwr := x, now := now, free := free, regs := regs, sys := sys, tp := tp, time := time, net := net, rcd := rcd, pins := pins } :
      State).part π = s.part π := by
  cases π with
  | power => exact absurd (List.mem_singleton_self _) h
  | _ => rfl

theorem part_thm (h : π ∉ [.thermal]) (x : ThermalState) :
    ({ s with thm := x, now := now, free := free, regs := regs, sys := sys, tp := tp, time := time, net := net, rcd := rcd, pins := pins } :
      State).part π = s.part π := by
  cases π with
  | thermal => exact absurd (List.mem_singleton_self _) h
  | _ => rfl

theorem part_sch (h : π ∉ [.scheduler]) (x : SchedState) :
    ({ s with sch := x, now := now, free := free, regs := regs, sys := sys, tp := tp, time := time, net := net, rcd := rcd, pins := pins } :
      State).part π = s.part π := by
  cases π with
  | scheduler => exact absurd (List.mem_singleton_self _) h
  | _ => rfl

theorem part_ste (h : π ∉ [.steering]) (x : SteerState) :
    ({ s with ste := x, now := now, free := free, regs := regs, sys := sys, tp := tp, time := time, net := net, rcd := rcd, pins := pins } :
      State).part π = s.part π := by
  cases π with
  | steering => exact absurd (List.mem_singleton_self _) h
  | _ => rfl

theorem part_emt (h : π ∉ [.emitters]) (x : EmitState) :
    ({ s with emt := x, now := now, free := free, regs := regs, sys := sys, tp := tp, time := time, net := net, rcd := rcd, pins := pins } :
      State).part π = s.part π := by
  cases π with
  | emitters => exact absurd (List.mem_singleton_self _) h
  | _ => rfl

theorem part_etd (h : π ∉ [.timing]) (x : EtdState) :
    ({ s with etd := x, now := now, free := free, regs := regs, sys := sys, tp := tp, time := time, net := net, rcd := rcd, pins := pins } :
      State).part π = s.part π := by
  cases π with
  | timing => exact absurd (List.mem_singleton_self _) h
  | _ => rfl

theorem part_rxc (h : π ∉ [.receivers]) (x : RxState) :
    ({ s with rxc := x, now := now, free := free, regs := regs, sys := sys, tp := tp, time := time, net := net, rcd := rcd, pins := pins } :
      State).part π = s.part π := by
  cases π with
  | receivers => exact absurd (List.mem_singleton_self _) h
  | _ => rfl

theorem part_grn (h : π ∉ [.histograms]) (x : GrindState) :
    ({ s with grn := x, now := now, free := free, regs := regs, sys := sys, tp := tp, time := time, net := net, rcd := rcd, pins := pins } :
      State).part π = s.part π := by
  cases π with
  | histograms => exact absurd (List.mem_singleton_self _) h
  | _ => rfl

theorem part_crm (h : π ∉ [.crema]) (x : CremaState) :
    ({ s with crm := x, now := now, free := free, regs := regs, sys := sys, tp := tp, time := time, net := net, rcd := rcd, pins := pins } :
      State).part π = s.part π := by
  cases π with
  | crema => exact absurd (List.mem_singleton_self _) h
  | _ => rfl

theorem part_saf (h : π ∉ [.safety]) (x : SafetyState) :
    ({ s with saf := x, now := now, free := free, regs := regs, sys := sys, tp := tp, time := time, net := net, rcd := rcd, pins := pins } :
      State).part π = s.part π := by
  cases π with
  | safety => exact absurd (List.mem_singleton_self _) h
  | _ => rfl

theorem part_cal (h : π ∉ [.calibration]) (x : CalState) :
    ({ s with cal := x, now := now, free := free, regs := regs, sys := sys, tp := tp, time := time, net := net, rcd := rcd, pins := pins } :
      State).part π = s.part π := by
  cases π with
  | calibration => exact absurd (List.mem_singleton_self _) h
  | _ => rfl

theorem part_hka (h : π ∉ [.converter]) (x : HkaState) :
    ({ s with hka := x, now := now, free := free, regs := regs, sys := sys, tp := tp, time := time, net := net, rcd := rcd, pins := pins } :
      State).part π = s.part π := by
  cases π with
  | converter => exact absurd (List.mem_singleton_self _) h
  | _ => rfl

theorem part_exc (h : π ∉ [.mounts]) (x : ExcState) :
    ({ s with exc := x, now := now, free := free, regs := regs, sys := sys, tp := tp, time := time, net := net, rcd := rcd, pins := pins } :
      State).part π = s.part π := by
  cases π with
  | mounts => exact absurd (List.mem_singleton_self _) h
  | _ => rfl

/-- What of the state of resets outlasts every reset: fuses, images and key slots. -/
abbrev RstState.kept (x : RstState) :
    (List (Nat × List Byte) × List (Nat × List Byte)) × (List (Nat × Byte) × List (Nat × Byte)) × List (Nat × KeySlot) :=
  ((x.fuseA, x.fuseB), (x.nor0, x.nor1), x.keySlots)

theorem part_rst (h : π ∉ [.resets]) (x : RstState) (hx : x.kept = s.rst.kept) :
    ({ s with rst := x, now := now, free := free, regs := regs, sys := sys, tp := tp, time := time, net := net, rcd := rcd, pins := pins } :
      State).part π = s.part π := by
  simp only [Prod.mk.injEq] at hx
  cases π with
  | resets => exact absurd (List.mem_singleton_self _) h
  | fuses | images | keys => simp only [State.part, hx]
  | _ => rfl

end

theorem mapRst_part (h : π ∉ [.resets]) (s : State) (f : RstState → RstState) (hf : (f s.rst).kept = s.rst.kept) : (s.mapRst f).part π = s.part π :=
  part_rst (h := h) (hx := hf) ..

end Sys2Proof.Machine
end

section
/-! PROOFS. What each operation leaves of the parts of the state: registers, events, the pending set and transitions. -/

namespace Sys2Proof.Machine

variable {π : Part}

theorem poke_part (s : State) (a : Nat) (w : Word) : (s.poke a w).part π = s.part π := by
  simp only [State.poke, part_reports]

theorem setF_part (s : State) (f : Field) (v : Nat) : (s.setF f v).part π = s.part π := by
  simp only [State.setF, poke_part]

theorem setI_part (s : State) (f : Field) (v : Int) : (s.setI f v).part π = s.part π := by
  simp only [State.setI, setF_part]

theorem setSat_part (s : State) (f : Field) (v : Nat) : (s.setSat f v).part π = s.part π := by
  simp only [State.setSat, setF_part]

theorem bump_part (s : State) (f : Field) (n : Nat) : (s.bump f n).part π = s.part π := by
  simp only [State.bump, setSat_part]

theorem setB_part (s : State) (f : Field) (b : Bool) : (s.setB f b).part π = s.part π := by
  simp only [State.setB, setF_part]

theorem setBit_part (s : State) (f : Field) (i : Nat) (b : Bool) : (s.setBit f i b).part π = s.part π := by
  simp only [State.setBit, setF_part]

theorem ramPut_part (h : π ∉ [.banks]) (s : State) (a : Nat) (w : Word) : (s.ramPut a w).part π = s.part π := by
  simp (disch := refine outside ?_ h; decide) only [State.ramPut, part_ram]

theorem tick_part (s : State) : s.tick.part π = s.part π := by
  simp only [State.tick, part_reports]

theorem recPush_part (s : State) (src : Nat) (bytes : List Byte) : (s.recPush src bytes).part π = s.part π := by
  simp only [State.recPush, part_ite, part_reports, ite_self]

theorem commitSel_part (s : State) (cls kind : Nat) (bytes : List Byte) (sel : Queue → Bool) : (s.commitSel cls kind bytes sel).part π =
    s.part π := by
  simp only [State.commitSel]
  split <;> simp only [recPush_part, part_reports]

theorem commitRecord_part (s : State) (cls kind : Nat) (bytes : List Byte) : (s.commitRecord cls kind bytes).part π = s.part π := by
  simp only [State.commitRecord, commitSel_part]

theorem commitHeader_part (s : State) (bytes : List Byte) : (s.commitHeader bytes).part π = s.part π := by
  simp only [State.commitHeader, commitRecord_part, part_reports]

theorem recPulse_part (s : State) (input : Nat) (instant : Int) : (s.recPulse input instant).part π = s.part π := by
  simp only [State.recPulse, part_ite, part_reports, ite_self]

theorem recMatch_part (s : State) (kind page code : Nat) : (s.recMatch kind page code).part π = s.part π := by
  unfold State.recMatch
  refine part_foldl (fun s b => ?_) _ _
  simp only [part_ite, recPulse_part, ite_self]

theorem emitEvent_part (s : State) (kind page code a b count : Nat) : (s.emitEvent kind page code a b count).part π = s.part π := by
  simp only [State.emitEvent, commitRecord_part, recMatch_part]

theorem raiseEvt_part (s : State) (p bit : Nat) : (s.raiseEvt p bit).part π = s.part π := by
  simp only [State.raiseEvt, part_ite, part_reports, emitEvent_part, setBit_part, ite_self]

theorem safetyEvt_part (s : State) (bit : Nat) : (s.safetyEvt bit).part π = s.part π := by
  simp only [State.safetyEvt, raiseEvt_part]

theorem recErr_part (s : State) (p code addr : Nat) : (s.recErr p code addr).part π = s.part π := by
  simp only [State.recErr, part_ite, raiseEvt_part, bump_part, setF_part, ite_self]

theorem clearErr_part (s : State) (p : Nat) : (s.clearErr p).part π = s.part π := by
  simp only [State.clearErr, setF_part]

theorem emptyPending_part (h : π ∉ [.staged]) (s : State) : s.emptyPending.part π = s.part π := by
  simp (disch := refine outside ?_ h; decide) only [State.emptyPending, part_shadow]

theorem discardPage_part (h : π ∉ [.staged]) (s : State) (p : Nat) : (s.discardPage p).part π = s.part π := by
  simp (disch := refine outside ?_ h; decide) only [State.discardPage, part_ite, setF_part, emptyPending_part, part_shadow, ite_self]

theorem cancelPending_part (h : π ∉ [.staged]) (s : State) (code : Nat) : (s.cancelPending code).part π = s.part π := by
  simp (disch := refine outside ?_ h; decide) only [State.cancelPending, part_ite, emptyPending_part, emitEvent_part, setF_part, ite_self]

theorem keepEra_part (h : π ∉ [.histograms]) (s : State) : s.keepEra.part π = s.part π := by
  simp (disch := refine outside ?_ h; decide) only [State.keepEra, part_ite, part_grn, ite_self]

theorem advanceEpoch_part (h : π ∉ [.histograms]) (s : State) : s.advanceEpoch.part π = s.part π := by
  simp (disch := refine outside ?_ h; decide) only [State.advanceEpoch, setF_part, keepEra_part]

theorem applyWord_part (s : State) (e : Nat × Word) : (s.applyWord e).part π = s.part π := by
  simp only [State.applyWord, poke_part]

theorem applyCommit_part (h : π ∉ [.staged, .histograms]) (s : State) (f : Nat) : (s.applyCommit f).part π = s.part π := by
  simp only [State.applyCommit]
  refine (part_foldl (fun s b => ?_) _ _).trans ?_
  · simp only [raiseEvt_part]
  · simp (disch := refine outside ?_ h; decide) only [emitEvent_part, setF_part, advanceEpoch_part, emptyPending_part]
    refine (part_foldl (fun s b => ?_) _ _).trans ?_
    · simp only [applyWord_part]
    · simp (disch := refine outside ?_ h; decide) only [keepEra_part]

theorem amend_part (s : State) (f : List Byte → List Byte) : (s.amend f).part π = s.part π := by
  unfold State.amend
  split <;> simp only [part_reports]

theorem noteCauses_part (s : State) (cs : List Nat) : (s.noteCauses cs).part π = s.part π := by
  simp only [State.noteCauses, part_ite, amend_part, ite_self]

theorem markStop_part (h : π ∉ [.scheduler]) (s : State) : s.markStop.part π = s.part π := by
  unfold State.markStop
  split <;> simp (disch := refine outside ?_ h; decide) only [part_ite, part_sch, ite_self]

theorem endStay_part (s : State) : s.endStay.part π = s.part π := by
  simp only [State.endStay, part_reports]

theorem noteArisen_part (s : State) (cause : Nat) : (s.noteArisen cause).part π = s.part π := by
  simp only [State.noteArisen, part_ite, noteCauses_part, part_reports, ite_self]

theorem enterState_part (h : π ∉ [.scheduler]) (s : State) (d : DevState) (cause : Nat) (others : List Nat) :
    (s.enterState d cause others).part π = s.part π := by
  simp (disch := refine outside ?_ h; decide) only [State.enterState, part_ite, markStop_part, amend_part, setF_part, recMatch_part,
    endStay_part, ite_self, emitEvent_part, part_sch]

end Sys2Proof.Machine
end

section
/-! PROOFS. What each operation leaves of the parts of the state: the passage of time, spare pools, triggers. -/

namespace Sys2Proof.Machine

variable {π : Part}

theorem emit_part (s : State) (o : Out) : (s.emit o).part π = s.part π := by
  simp only [State.emit, part_reports]

theorem mapPort_part (s : State) (p : Nat) (f : Port → Port) : (s.mapPort p f).part π = s.part π := by
  simp only [State.mapPort, part_reports]

theorem drainPort_part (s : State) (p dt : Nat) : (s.drainPort p dt).part π = s.part π := by
  simp only [State.drainPort, part_ite, mapPort_part, ite_self]

theorem runTai_part (s : State) (dt : Nat) : (s.runTai dt).part π = s.part π := by
  simp only [State.runTai, part_ite, part_reports, ite_self]

theorem at_part (s : State) (t : Nat) : (s.at t).part π = s.part π := by
  simp only [State.at, part_ite, part_reports, drainPort_part, runTai_part, ite_self]

theorem recordDue_part (h : π ∉ [.calibration]) (s : State) : s.recordDue.part π = s.part π := by
  simp (disch := refine outside ?_ h; decide) only [State.recordDue, part_cal]

theorem stand_part (s : State) (page cause : Nat) : (s.stand page cause).part π = s.part π := by
  simp only [State.stand, part_ite, setF_part, part_reports, ite_self]

theorem standTrigger_part (h : π ∉ [.calibration]) (s : State) (page cause : Nat) : (s.standTrigger page cause).part π = s.part π := by
  simp (disch := refine outside ?_ h; decide) only [State.standTrigger, noteArisen_part, recordDue_part, stand_part]

theorem unstand_part (s : State) (page cause : Nat) : (s.unstand page cause).part π = s.part π := by
  simp only [State.unstand, part_ite, part_reports, setF_part, ite_self]

theorem poolTrigger_part (h : π ∉ [.calibration]) (s : State) (page cause : Nat) : (s.poolTrigger page cause).part π = s.part π := by
  simp (disch := refine outside ?_ h; decide) only [State.poolTrigger, standTrigger_part]
  split <;> simp only [part_ite, raiseEvt_part, setBit_part, ite_self, bump_part]

theorem partTaken_part (h : π ∉ [.calibration]) (s : State) : s.partTaken.part π = s.part π := by
  simp (disch := refine outside ?_ h; decide) only [State.partTaken, recordDue_part, raiseEvt_part]

theorem spareTaken_part (h : π ∉ [.calibration]) (s : State) (p : Nat) : (s.spareTaken p).part π = s.part π := by
  simp (disch := refine outside ?_ h; decide) only [State.spareTaken, partTaken_part, raiseEvt_part]

theorem mapHka_part (h : π ∉ [.converter]) (s : State) (f : HkaState → HkaState) : (s.mapHka f).part π = s.part π := by
  simp (disch := refine outside ?_ h; decide) only [State.mapHka, part_hka]

theorem hkaInsert_part (h : π ∉ [.converter]) (s : State) : s.hkaInsert.part π = s.part π := by
  unfold State.hkaInsert
  split
  · rfl
  · dsimp only
    split <;> simp (disch := refine outside ?_ h; decide) only [bump_part, mapHka_part]

theorem recTrigger_part (s : State) (instant : Int) : (s.recTrigger instant).part π = s.part π := by
  unfold State.recTrigger
  split <;> simp only [part_ite, emit_part, raiseEvt_part, setF_part, setB_part, part_reports, ite_self, bump_part]

theorem sendFrame_part (s : State) (p kind : Nat) (payload : List Byte) : (s.sendFrame p kind payload).part π = s.part π := by
  simp only [State.sendFrame, part_ite, emit_part, mapPort_part, ite_self]

theorem sendChainTrigger_part (s : State) (instant : Int) : (s.sendChainTrigger instant).part π = s.part π := by
  simp only [State.sendChainTrigger, part_ite, sendFrame_part, setF_part, part_reports, ite_self]

theorem startTimer_part (s : State) (k : Nat) : (s.startTimer k).part π = s.part π := by
  simp only [State.startTimer, part_reports]

theorem seqAction_part (s : State) (act : Nat) (instant : Int) : (s.seqAction act instant).part π = s.part π := by
  unfold State.seqAction
  split
  · simp only [recTrigger_part]
  · simp only [sendChainTrigger_part, recTrigger_part]
  · simp only [sendChainTrigger_part]
  · simp only [bump_part]
  · simp only [bump_part]
  · simp only [bump_part]
  · simp only [bump_part]
  · simp only [startTimer_part]
  · simp only [startTimer_part]
  · simp only [startTimer_part]
  · simp only [startTimer_part]
  · refine part_foldl (fun s b => ?_) _ _
    simp only [setF_part]
  · simp only [part_reports]
  · rfl

theorem seqStep_part (s : State) : s.seqStep.part π = s.part π := by
  simp only [State.seqStep, part_ite, setF_part, seqAction_part, ite_self]

theorem runPulses_part (a : Nat) (s : State) : (State.runPulses a s).part π = s.part π := by
  induction a generalizing s with
  | zero => exact part_reports ..
  | succ a ih =>
    unfold State.runPulses
    split
    · rfl
    · simp only [ih, part_reports, seqStep_part]

theorem settle_part (s : State) : s.settle.part π = s.part π := by
  simp only [State.settle, part_reports, runPulses_part]

end Sys2Proof.Machine
end

section
/-! PROOFS. What each operation leaves of the parts of the state: chain loads and lines. -/

namespace Sys2Proof.Machine

variable {π : Part}

theorem setChain_part (h : π ∉ [.emitters]) (s : State) (c : Nat) (k : Chain) : (s.setChain c k).part π = s.part π := by
  simp (disch := refine outside ?_ h; decide) only [State.setChain, part_emt]

theorem setChainState_part (s : State) (c v : Nat) : (s.setChainState c v).part π = s.part π := by
  simp only [State.setChainState, part_ite, raiseEvt_part, setF_part, ite_self]

theorem emitLoad_part (s : State) (c : Nat) (k : ChainLoad) : (s.emitLoad c k).part π = s.part π := by
  simp only [State.emitLoad, part_ite, emit_part, ite_self]

theorem latchLoad_part (h : π ∉ [.emitters]) (s : State) (c : Nat) (k : ChainLoad) : (s.latchLoad c k).part π = s.part π := by
  simp (disch := refine outside ?_ h; decide) only [State.latchLoad, bump_part, setChain_part, emitLoad_part]

theorem startLoad_part (h : π ∉ [.emitters]) (s : State) (c : Nat) : (s.startLoad c).part π = s.part π := by
  simp (disch := refine outside ?_ h; decide) only [State.startLoad, part_ite, setChain_part, ite_self]

theorem reloadChains_part (h : π ∉ [.emitters]) (s : State) (predicted : Option Nat) : (s.reloadChains predicted).part π = s.part π := by
  unfold State.reloadChains
  split
  · refine part_foldl (fun s b => ?_) _ _
    simp (disch := refine outside ?_ h; decide) only [part_ite, startLoad_part, ite_self]
  · rfl

theorem zeroLoads_part (h : π ∉ [.emitters]) (s : State) : s.zeroLoads.part π = s.part π := by
  unfold State.zeroLoads
  refine part_foldl (fun s b => ?_) _ _
  simp (disch := refine outside ?_ h; decide) only [part_ite, setChain_part, ite_self]

end Sys2Proof.Machine
end

section
/-! PROOFS. What each operation leaves of the parts of the state: the end of a frame, `SAFE`, `LOCKOUT`, reset sources. -/

namespace Sys2Proof.Machine

variable {π : Part}

theorem mapFrame_part (h : π ∉ [.scheduler]) (s : State) (f : FrameInfo → FrameInfo) : (s.mapFrame f).part π = s.part π := by
  simp (disch := refine outside ?_ h; decide) only [State.mapFrame, part_sch]

theorem except_part (h : π ∉ [.scheduler]) (s : State) (r : Ready) (reason delay : Nat) (skipped : Bool) :
    (s.except r reason delay skipped).part π = s.part π := by
  simp (disch := refine outside ?_ h; decide) only [State.except, mapFrame_part]

theorem publishPlan_part (s : State) (f : FrameInfo) : (s.publishPlan f).part π = s.part π := by
  simp only [State.publishPlan, part_ite, recErr_part, ite_self]
  refine (part_foldl (fun s b => ?_) _ _).trans ?_
  · simp only [setSat_part]
  · simp only [setSat_part, setB_part]
    refine (part_foldl (fun s b => ?_) _ _).trans ?_
    · simp only [setSat_part]
    · refine part_foldl (fun s b => ?_) _ _
      simp only [setSat_part]

theorem markDark_part (h : π ∉ [.receivers]) (s : State) : s.markDark.part π = s.part π := by
  simp (disch := refine outside ?_ h; decide) only [State.markDark, part_rxc]

theorem pulseLight_part (h : π ∉ [.receivers]) (s : State) (t : Nat) : (s.pulseLight t).part π = s.part π := by
  simp (disch := refine outside ?_ h; decide) only [State.pulseLight, part_rxc, markDark_part]

theorem publishBank_part (s : State) (b : Nat) : (s.publishBank b).part π = s.part π := by
  simp only [State.publishBank, setSat_part]

theorem publishChan_part (s : State) (c : Nat) : (s.publishChan c).part π = s.part π := by
  simp only [State.publishChan, setSat_part]

theorem publishGroup_part (s : State) (g : Nat) : (s.publishGroup g).part π = s.part π := by
  simp only [State.publishGroup, setSat_part]

theorem publishEngine_part (s : State) (e : Nat) : (s.publishEngine e).part π = s.part π := by
  simp only [State.publishEngine, setSat_part]

theorem dropCounts_part (h : π ∉ [.timing, .receivers, .histograms]) (s : State) : s.dropCounts.part π = s.part π := by
  cases π with
  | timing | receivers | histograms => exact absurd (by decide) h
  | _ => rfl

theorem publishCounts_part (h : π ∉ [.timing, .receivers, .histograms]) (s : State) : s.publishCounts.part π = s.part π := by
  simp (disch := refine outside ?_ h; decide) only [State.publishCounts, dropCounts_part]
  refine (part_foldl (fun s b => ?_) _ _).trans ?_
  · simp only [publishEngine_part]
  · refine (part_foldl (fun s b => ?_) _ _).trans ?_
    · simp only [publishGroup_part]
    · refine (part_foldl (fun s b => ?_) _ _).trans ?_
      · simp only [publishChan_part]
      · refine part_foldl (fun s b => ?_) _ _
        simp only [publishBank_part]

theorem publishFrame_part (s : State) (f : Nat) : (s.publishFrame f).part π = s.part π := by
  simp only [State.publishFrame, part_ite, setSat_part, ite_self]

theorem discardOpen_part (h : π ∉ [.histograms]) (s : State) : s.discardOpen.part π = s.part π := by
  simp (disch := refine outside ?_ h; decide) only [State.discardOpen, part_grn]

theorem closeFrame_part (h : π ∉ [.scheduler, .timing, .receivers, .histograms]) (s : State) (cut : Bool) : (s.closeFrame cut).part π =
    s.part π := by
  simp only [State.closeFrame]
  split
  · simp (disch := refine outside ?_ h; decide) only [publishFrame_part, publishPlan_part, part_sch, setSat_part, publishCounts_part, part_ite,
      discardOpen_part]
    split
    · refine part_foldl (fun s b => ?_) _ _
      simp (disch := refine outside ?_ h; decide) only [except_part]
    · rfl
  · simp (disch := refine outside ?_ h; decide) only [part_ite, discardOpen_part]
    split
    · refine part_foldl (fun s b => ?_) _ _
      simp (disch := refine outside ?_ h; decide) only [except_part]
    · rfl

theorem outputsOff_part (h : π ∉ [.safety]) (s : State) (field : Bool) : (s.outputsOff field).part π = s.part π := by
  simp (disch := refine outside ?_ h; decide) only [State.outputsOff, part_ite, setF_part, recPulse_part, safetyEvt_part, bump_part, part_saf,
    ite_self]

theorem closeSteering_part (h : π ∉ [.steering]) (s : State) : s.closeSteering.part π = s.part π := by
  unfold State.closeSteering
  split <;> simp (disch := refine outside ?_ h; decide) only [part_ste, commitRecord_part]

theorem stopSteering_part (h : π ∉ [.steering, .timing]) (s : State) : s.stopSteering.part π = s.part π := by
  simp only [State.stopSteering, setF_part]
  refine Eq.trans ?_ (closeSteering_part (outside (by decide) h) s)
  cases π with
  | steering | timing => exact absurd (by decide) h
  | _ => rfl

theorem abortFrames_part (h : π ∉ frameParts) (s : State) : s.abortFrames.part π = s.part π := by
  simp (disch := refine outside ?_ h; decide) only [State.abortFrames, stopSteering_part, outputsOff_part, zeroLoads_part]
  refine Eq.trans ?_ ((markDark_part (outside (by decide) h) (s.closeFrame true)).trans (closeFrame_part (outside (by decide) h) s true))
  cases π with
  | scheduler | timing | receivers | safety => exact absurd (by decide) h
  | _ => rfl

theorem enterSafe_part (h : π ∉ frameParts) (s : State) (cause : Nat) (others : List Nat) : (s.enterSafe cause others).part π = s.part π := by
  unfold State.enterSafe
  split <;> simp (disch := refine outside ?_ h; decide) only [noteCauses_part, part_sch, part_ite, recPulse_part, enterState_part,
    abortFrames_part, ite_self]

theorem clearCause_part (s : State) (cause : Nat) : (s.clearCause cause).part π = s.part π := by
  simp only [State.clearCause, part_reports]

theorem enterLockout_part (h : π ∉ .resets :: frameParts) (s : State) (cause : Nat) : (s.enterLockout cause).part π = s.part π := by
  simp (disch := first | rfl | (refine outside ?_ h; decide)) only [State.enterLockout, part_ite, noteCauses_part, recPulse_part,
    enterState_part, setF_part, part_rst, abortFrames_part, ite_self]

theorem raiseReset_part (h : π ∉ [.resets]) (s : State) (src level : Nat) : (s.raiseReset src level).part π = s.part π := by
  unfold State.raiseReset
  split
  · rfl
  · dsimp only
    split <;> simp (disch := first | rfl | (refine outside ?_ h; decide)) only [part_ite, setBit_part, part_rst, bump_part, setF_part, ite_self]

theorem clockFailure_part (h : π ∉ [.resets]) (s : State) (n : Nat) : (s.clockFailure n).part π = s.part π := by
  simp (disch := first | rfl | (refine outside ?_ h; decide)) only [State.clockFailure, part_ite, part_rst, setF_part, raiseReset_part,
    bump_part, ite_self]

end Sys2Proof.Machine
end

section
/-! PROOFS. What each operation leaves of the parts of the state: chains, fire signalling, the energy guard. -/

namespace Sys2Proof.Machine

variable {π : Part}

theorem countEnergy_part (h : π ∉ [.emitters]) (s : State) (zone t e : Nat) : (s.countEnergy zone t e).part π = s.part π := by
  simp (disch := refine outside ?_ h; decide) only [State.countEnergy, part_emt]

theorem calTemp_part (h : π ∉ [.calibration]) (s : State) (v : Int) : (s.calTemp v).part π = s.part π := by
  simp (disch := refine outside ?_ h; decide) only [State.calTemp, part_ite, part_cal, ite_self]

theorem doChainLoadStart_part (h : π ∉ [.emitters, .calibration]) (c : Fin 4) (t : Nat) (s : State) : (doChainLoadStart c t s).part π =
    s.part π := by
  simp (disch := refine outside ?_ h; decide) only [doChainLoadStart, part_ite, at_part, startLoad_part, ite_self]
  split
  · rfl
  · split <;> simp (disch := refine outside ?_ h; decide) only [calTemp_part, setF_part, setI_part, setChain_part, at_part, part_ite,
      raiseEvt_part, ite_self]

theorem doChainOffTimeExpiry_part (h : π ∉ [.emitters]) (c : Fin 4) (t : Nat) (s : State) : (doChainOffTimeExpiry c t s).part π = s.part π := by
  simp (disch := refine outside ?_ h; decide) only [doChainOffTimeExpiry, part_ite, setChainState_part, setChain_part, at_part, ite_self]

theorem chainOn_part (h : π ∉ [.emitters]) (s : State) (c : Nat) : (s.chainOn c).part π = s.part π := by
  simp only [State.chainOn]
  refine (part_foldl (fun s b => ?_) _ _).trans ?_
  · simp (disch := refine outside ?_ h; decide) only [part_ite, setChain_part, ite_self]
  · simp (disch := refine outside ?_ h; decide) only [setChainState_part, setChain_part]

theorem doChainZeroLoadLatched_part (h : π ∉ [.emitters]) (c : Fin 4) (t : Nat) (s : State) : (doChainZeroLoadLatched c t s).part π =
    s.part π := by
  simp only [doChainZeroLoadLatched]
  split <;> simp (disch := refine outside ?_ h; decide) only [part_ite, chainOn_part, latchLoad_part, at_part, setChainState_part, setChain_part,
    ite_self]

theorem doChainStopRequest_part (h : π ∉ [.emitters]) (c : Fin 4) (t : Nat) (s : State) : (doChainStopRequest c t s).part π = s.part π := by
  simp (disch := refine outside ?_ h; decide) only [doChainStopRequest, part_ite, setChainState_part, setChain_part, at_part, ite_self]

theorem countReserves_part (s : State) : s.countReserves.part π = s.part π := by
  simp only [State.countReserves, setF_part]

theorem flipSel_part (h : π ∉ [.emitters]) (s : State) (l : Nat) : (s.flipSel l).part π = s.part π := by
  simp (disch := refine outside ?_ h; decide) only [State.flipSel, part_emt, part_ite, setBit_part, setChain_part, ite_self]

theorem switched_part (h : π ∉ [.emitters, .calibration]) (s : State) (l : Nat) : (s.switched l).part π = s.part π := by
  simp (disch := refine outside ?_ h; decide) only [State.switched, part_ite, poolTrigger_part, spareTaken_part, raiseEvt_part,
    countReserves_part, flipSel_part, setF_part, ite_self]

theorem carrySwitches_part (h : π ∉ [.emitters, .calibration]) (s : State) (c accept : Nat) : (s.carrySwitches c accept).part π = s.part π := by
  unfold State.carrySwitches
  refine part_foldl (fun s b => ?_) _ _
  dsimp only
  split <;> simp (disch := refine outside ?_ h; decide) only [part_ite, setChain_part, switched_part, ite_self]

theorem doDiodeSwitchLatch_part (h : π ∉ [.emitters, .calibration]) (line : Fin 128) (t : Nat) (s : State) :
    (doDiodeSwitchLatch line t s).part π = s.part π := by
  simp (disch := refine outside ?_ h; decide) only [doDiodeSwitchLatch, part_ite, switched_part, at_part, emit_part, bump_part, ite_self]

theorem pulseTaken_part (h : π ∉ [.scheduler]) (s : State) (ord frame line : Nat) : (s.pulseTaken ord frame line).part π = s.part π := by
  simp (disch := refine outside ?_ h; decide) only [State.pulseTaken, part_sch]

theorem pulseResult_part (h : π ∉ [.timing]) (s : State) (frame ord line : Nat) (r : PulseResult) : (s.pulseResult frame ord line r).part π =
    s.part π := by
  simp (disch := refine outside ?_ h; decide) only [State.pulseResult, part_etd]

theorem fireNow_part (h : π ∉ [.scheduler, .emitters, .timing, .receivers, .safety]) (s : State) (tr : Train) (line k at_ nominal : Nat)
    (egate : Bool) (edge : Nat) : (s.fireNow tr line k at_ nominal egate edge).part π = s.part π := by
  have hp : ∀ z n f, (((s.countEnergy z at_ n).pulseLight at_).mapFrame f).part π = s.part π := fun z n f => by
    simp (disch := refine outside ?_ h; decide) only [mapFrame_part, pulseLight_part, countEnergy_part]
  refine Eq.trans ?_ (hp (s.zoneOf line) (s.pulseEnergy line) (fun f => { f with
    pulses := f.pulses + 1, delayed := if nominal < at_ then bankAdd f.delayed (line / 16) else f.delayed }))
  cases π with
  | scheduler | timing | safety => exact absurd (by decide) h
  | _ => rfl

theorem setTapLine_part (h : π ∉ [.timing]) (s : State) (n : Nat) (l : TapLine) : (s.setTapLine n l).part π = s.part π := by
  simp (disch := refine outside ?_ h; decide) only [State.setTapLine, part_etd]

theorem latchEnded_part (h : π ∉ [.emitters, .calibration]) (s : State) : s.latchEnded.part π = s.part π := by
  unfold State.latchEnded
  refine part_foldl (fun s b => ?_) _ _
  dsimp only
  split <;> simp (disch := refine outside ?_ h; decide) only [part_ite, latchLoad_part, carrySwitches_part, ite_self]

theorem doFirePulse_part (h : π ∉ [.scheduler, .emitters, .timing, .receivers, .safety, .calibration]) (line : Fin 128) (k : Nat) (egate : Bool)
    (cycle code : Nat) (s : State) : (doFirePulse line k egate cycle code s).part π = s.part π := by
  simp only [doFirePulse]
  split <;> simp (disch := refine outside ?_ h; decide) only [part_ite, at_part, pulseResult_part, pulseTaken_part, latchEnded_part,
    raiseEvt_part, mapFrame_part, bump_part, fireNow_part, ite_self]

end Sys2Proof.Machine
end

section
/-! PROOFS. What each operation leaves of the parts of the state: the timing interpolators. -/

namespace Sys2Proof.Machine

variable {π : Part}

theorem dripEmon_part (h : π ∉ [.safety]) (s : State) (b cycle : Nat) : (s.dripEmon b cycle).part π = s.part π := by
  simp (disch := refine outside ?_ h; decide) only [State.dripEmon, part_saf]

theorem doEmonStop_part (h : π ∉ [.timing, .safety]) (bank : Fin 9) (rising : Bool) (cycle code : Nat) (s : State) :
    (doEmonStop bank rising cycle code s).part π = s.part π := by
  simp (disch := refine outside ?_ h; decide) only [doEmonStop, part_ite, at_part, dripEmon_part]
  split
  · rfl
  · split
    · rfl
    · split <;> simp (disch := refine outside ?_ h; decide) only [part_ite, part_etd, dripEmon_part, at_part, ite_self]

theorem lineStats_part (h : π ∉ [.timing]) (s : State) (line : Nat) (delta lat : Int) : (s.lineStats line delta lat).part π = s.part π := by
  simp (disch := refine outside ?_ h; decide) only [State.lineStats, setSat_part, setF_part, part_etd]

theorem noteMiss_part (h : π ∉ [.timing]) (s : State) (line : Nat) (miss measured : Bool) : (s.noteMiss line miss measured).part π =
    s.part π := by
  simp (disch := refine outside ?_ h; decide) only [State.noteMiss, part_etd]

theorem settlePulse_part (h : π ∉ [.timing]) (s : State) (p : PulseStart) : (s.settlePulse p).part π = s.part π := by
  simp (disch := refine outside ?_ h; decide) only [State.settlePulse, part_ite, pulseResult_part, noteMiss_part, part_etd]
  split
  · rfl
  · split <;> simp (disch := refine outside ?_ h; decide) only [pulseResult_part, lineStats_part, noteMiss_part, part_etd]

theorem doPulseSettle_part (h : π ∉ [.timing]) (bank : Fin 8) (t : Nat) (s : State) : (doPulseSettle bank t s).part π = s.part π := by
  simp only [doPulseSettle]
  split <;> simp (disch := refine outside ?_ h; decide) only [part_ite, settlePulse_part, part_etd, at_part, ite_self]

theorem noteTapPool_part (s : State) (n : Nat) : (s.noteTapPool n).part π = s.part π := by
  simp only [State.noteTapPool, part_ite, raiseEvt_part, setBit_part, ite_self]

theorem staysWorn_part (s : State) (kind : Nat) : (s.staysWorn kind).part π = s.part π := by
  simp only [State.staysWorn, setF_part]

theorem noInterpolator_part (h : π ∉ [.calibration]) (s : State) : s.noInterpolator.part π = s.part π := by
  simp (disch := refine outside ?_ h; decide) only [State.noInterpolator, poolTrigger_part, raiseEvt_part]

theorem wantSpare_part (h : π ∉ [.timing, .calibration]) (s : State) (n : Nat) : (s.wantSpare n).part π = s.part π := by
  simp (disch := refine outside ?_ h; decide) only [State.wantSpare, part_ite, noInterpolator_part, part_etd, staysWorn_part, ite_self]

theorem loseSpare_part (h : π ∉ [.timing, .calibration]) (s : State) : s.loseSpare.part π = s.part π := by
  simp (disch := refine outside ?_ h; decide) only [State.loseSpare, poolTrigger_part, recordDue_part, raiseEvt_part, setBit_part, setF_part]
  refine (part_foldl (fun s b => ?_) _ _).trans ?_
  · simp (disch := refine outside ?_ h; decide) only [part_ite, noInterpolator_part, staysWorn_part, ite_self]
  · simp (disch := refine outside ?_ h; decide) only [part_etd]

theorem failInterpolator_part (h : π ∉ [.timing, .calibration]) (s : State) (n : Nat) : (s.failInterpolator n).part π = s.part π := by
  simp (disch := refine outside ?_ h; decide) only [State.failInterpolator, part_ite, noInterpolator_part, part_etd, recordDue_part, setBit_part,
    wantSpare_part, ite_self, loseSpare_part]

theorem injectHits_part (h : π ∉ [.timing]) (s : State) (slot slots : Nat) : (s.injectHits slot slots).part π = s.part π := by
  unfold State.injectHits
  split <;> simp (disch := refine outside ?_ h; decide) only [part_etd]

theorem doInterpolatorRefreshComplete_part (h : π ∉ [.timing, .calibration]) (etd : Fin 9) (hits : List Nat) (t : Nat) (s : State) :
    (doInterpolatorRefreshComplete etd hits t s).part π = s.part π := by
  simp only [doInterpolatorRefreshComplete, part_ite, at_part]
  split
  · rfl
  · split <;> simp (disch := refine outside ?_ h; decide) only [setF_part, setTapLine_part, part_etd, setSat_part, at_part, part_ite,
      failInterpolator_part, ite_self]

theorem doInterpolatorFailure_part (h : π ∉ [.timing, .calibration]) (etd : Fin 9) (t : Nat) (s : State) :
    (doInterpolatorFailure etd t s).part π = s.part π := by
  simp (disch := refine outside ?_ h; decide) only [doInterpolatorFailure, part_ite, at_part, failInterpolator_part, raiseEvt_part, setBit_part,
    ite_self]

theorem doConversionTimeout_part (h : π ∉ [.timing, .calibration]) (etd : Fin 9) (t : Nat) (s : State) : (doConversionTimeout etd t s).part π =
    s.part π := by
  simp (disch := refine outside ?_ h; decide) only [doConversionTimeout, part_ite, at_part, failInterpolator_part, ite_self]

theorem applyTap_part (h : π ∉ [.timing, .calibration]) (s : State) (n : Nat) (places : List Nat) : (s.applyTap n places).part π = s.part π := by
  simp (disch := refine outside ?_ h; decide) only [State.applyTap, noteTapPool_part, partTaken_part, raiseEvt_part, setF_part, bump_part,
    setBit_part, part_etd, setTapLine_part]

theorem applySpare_part (h : π ∉ [.timing, .calibration]) (s : State) (n : Nat) : (s.applySpare n).part π = s.part π := by
  simp (disch := refine outside ?_ h; decide) only [State.applySpare, part_ite, poolTrigger_part, spareTaken_part, raiseEvt_part, setBit_part,
    bump_part, setF_part, part_etd, ite_self]

theorem applyDue_part (h : π ∉ [.timing, .calibration]) (s : State) (due : Nat → Nat → Bool) (n : Nat) : (s.applyDue due n).part π =
    s.part π := by
  unfold State.applyDue
  split <;> simp (disch := refine outside ?_ h; decide) only [part_ite, applySpare_part, ite_self, applyTap_part]

theorem doSubstitutionApply_part (h : π ∉ [.timing, .calibration]) (etd : Fin 9) (t : Nat) (s : State) : (doSubstitutionApply etd t s).part π =
    s.part π := by
  simp (disch := refine outside ?_ h; decide) only [doSubstitutionApply, applyDue_part, at_part]

theorem doDllLock_part (h : π ∉ [.timing]) (etd : Fin 9) (t : Nat) (s : State) : (doDllLock etd t s).part π = s.part π := by
  simp (disch := refine outside ?_ h; decide) only [doDllLock, part_ite, at_part, setBit_part, part_etd, ite_self]

theorem doReferenceLoopFire_part (egate : Bool) (cycle code : Nat) (stop : Option (Bool × Nat × Nat)) (s : State) :
    (doReferenceLoopFire egate cycle code stop s).part π = s.part π := by
  simp only [doReferenceLoopFire, part_ite, at_part]
  split
  · split <;> simp only [part_ite, setF_part, part_reports, at_part, ite_self]
  · rfl

theorem activateTable_part (h : π ∉ [.timing]) (s : State) (n : Nat) : (s.activateTable n).part π = s.part π := by
  simp only [State.activateTable]
  split <;> simp (disch := refine outside ?_ h; decide) only [raiseEvt_part, setF_part, setTapLine_part]

theorem etdBoundary_part (h : π ∉ [.timing, .calibration]) (s : State) : s.etdBoundary.part π = s.part π := by
  unfold State.etdBoundary
  refine (part_foldl (fun s b => ?_) _ _).trans ?_
  · simp (disch := refine outside ?_ h; decide) only [activateTable_part]
  · refine part_foldl (fun s b => ?_) _ _
    simp (disch := refine outside ?_ h; decide) only [applyDue_part]

end Sys2Proof.Machine
end

section
/-! PROOFS. What each operation leaves of the parts of the state: the return channels. -/

namespace Sys2Proof.Machine

variable {π : Part}

theorem chanCount_part (h : π ∉ [.receivers]) (s : State) (c kind : Nat) : (s.chanCount c kind).part π = s.part π := by
  simp (disch := refine outside ?_ h; decide) only [State.chanCount, part_rxc]

theorem setMeas_part (h : π ∉ [.histograms]) (s : State) (slot : Nat) (m : Meas) : (s.setMeas slot m).part π = s.part π := by
  simp (disch := refine outside ?_ h; decide) only [State.setMeas, part_grn]

theorem frameCount_part (h : π ∉ [.histograms]) (s : State) (frame kind n : Nat) : (s.frameCount frame kind n).part π = s.part π := by
  simp (disch := refine outside ?_ h; decide) only [State.frameCount, part_grn]

theorem loseEvent_part (h : π ∉ [.receivers, .histograms, .crema]) (s : State) (e : Event) : (s.loseEvent e).part π = s.part π := by
  have hp : ∀ (s : State) g l, ({ s with rxc := { s.rxc with groups := g }, crm := { s.crm with lost := l } } : State).part π = s.part π := by
    intro s g l
    cases π with
    | receivers | crema => exact absurd (by decide) h
    | _ => rfl
  simp only [State.loseEvent]
  split <;> simp (disch := refine outside ?_ h; decide) only [setMeas_part, frameCount_part, hp, chanCount_part]

theorem forward_part (h : π ∉ [.receivers, .histograms, .crema]) (s : State) (e : Event) : (s.forward e).part π = s.part π := by
  simp (disch := refine outside ?_ h; decide) only [State.forward, part_ite, part_rxc, chanCount_part, loseEvent_part, ite_self]

theorem drip_part (h : π ∉ [.safety]) (s : State) (c cycle level : Nat) (tr : Train) : (s.drip c cycle level tr).part π = s.part π := by
  simp (disch := refine outside ?_ h; decide) only [State.drip, part_ite, part_saf, ite_self]

theorem collect_part (h : π ∉ [.receivers]) (s : State) (c k : Nat) : (s.collect c k).part π = s.part π := by
  simp (disch := refine outside ?_ h; decide) only [State.collect, part_rxc]

theorem injectEdges_part (h : π ∉ [.receivers]) (s : State) (slot slots : Nat) : (s.injectEdges slot slots).part π = s.part π := by
  unfold State.injectEdges
  split
  · rfl
  · dsimp only
    refine part_foldl (fun s b => ?_) _ _
    simp (disch := refine outside ?_ h; decide) only [part_ite, part_rxc, ite_self]

theorem decoded_part (h : π ∉ [.receivers, .histograms, .crema, .safety]) (s : State) (c k cycle : Nat) (lead : Int) (level : Nat) :
    (s.decoded c k cycle lead level).part π = s.part π := by
  simp only [State.decoded]
  split <;> simp (disch := refine outside ?_ h; decide) only [part_ite, drip_part, collect_part, part_rxc, chanCount_part, ite_self, forward_part]

theorem doReturnPulse_part (h : π ∉ [.receivers, .histograms, .crema, .safety]) (ch : Fin 1024) (leadCycle leadCode trailCycle trailCode : Nat)
    (s : State) : (doReturnPulse ch leadCycle leadCode trailCycle trailCode s).part π = s.part π := by
  unfold doReturnPulse
  extract_lets +onlyGivenNames c g z
  split
  · exact at_part ..
  · split
    · exact at_part ..
    · extract_lets +onlyGivenNames ws lead trail early _ trailed
      split
      · simp (disch := refine outside ?_ h; decide) only [z, chanCount_part, at_part]
      · split
        extract_lets +onlyGivenNames counted
        have hc : counted.part π = s.part π := by
          simp only [counted]
          split <;> simp (disch := refine outside ?_ h; decide) only [trailed, z, chanCount_part, part_rxc, at_part]
        split <;> simp (disch := refine outside ?_ h; decide) only [decoded_part, hc]

theorem doChannelStuck_part (ch : Fin 1024) (t : Nat) (s : State) : (doChannelStuck ch t s).part π = s.part π := by
  simp only [doChannelStuck, part_ite, raiseEvt_part, setF_part, at_part, ite_self]

theorem doChannelUnstuck_part (ch : Fin 1024) (t : Nat) (s : State) : (doChannelUnstuck ch t s).part π = s.part π := by
  simp only [doChannelUnstuck, part_ite, setF_part, at_part, ite_self]

theorem setSpareByte_part (s : State) (g i v : Nat) : (s.setSpareByte g i v).part π = s.part π := by
  simp only [State.setSpareByte, setF_part]

theorem releaseSampler_part (s : State) (g k : Nat) : (s.releaseSampler g k).part π = s.part π := by
  simp only [State.releaseSampler, part_ite, setF_part, raiseEvt_part, setSpareByte_part, ite_self]

theorem switchChannel_part (h : π ∉ [.receivers]) (s : State) (c dest : Nat) : (s.switchChannel c dest).part π = s.part π := by
  simp only [State.switchChannel, setF_part]
  split <;> simp (disch := refine outside ?_ h; decide) only [releaseSampler_part, part_rxc]

theorem faultChannel_part (h : π ∉ [.histograms]) (s : State) (c : Nat) : (s.faultChannel c).part π = s.part π := by
  unfold State.faultChannel
  refine part_foldl (fun s b => ?_) _ _
  simp (disch := refine outside ?_ h; decide) only [raiseEvt_part, frameCount_part, setMeas_part]

theorem noSampler_part (h : π ∉ [.receivers, .histograms, .calibration]) (s : State) (c : Nat) : (s.noSampler c).part π = s.part π := by
  simp (disch := refine outside ?_ h; decide) only [State.noSampler, poolTrigger_part, switchChannel_part, faultChannel_part]

theorem checkPool_part (h : π ∉ [.calibration]) (s : State) (g : Nat) : (s.checkPool g).part π = s.part π := by
  simp (disch := refine outside ?_ h; decide) only [State.checkPool, part_ite, poolTrigger_part, raiseEvt_part, setBit_part, ite_self]

theorem assignSpare_part (h : π ∉ [.receivers, .histograms, .calibration]) (s : State) (c : Nat) : (s.assignSpare c).part π = s.part π := by
  unfold State.assignSpare
  split <;> simp (disch := refine outside ?_ h; decide) only [part_rxc, noSampler_part]

theorem claimSpare_part (h : π ∉ [.receivers, .histograms, .calibration]) (s : State) (c : Nat) : (s.claimSpare c).part π = s.part π := by
  simp only [State.claimSpare]
  refine (part_foldl (fun s b => ?_) _ _).trans ?_
  · simp (disch := refine outside ?_ h; decide) only [assignSpare_part]
  · simp (disch := refine outside ?_ h; decide) only [part_rxc]

theorem dropClaim_part (h : π ∉ [.receivers, .histograms, .calibration]) (s : State) (g i : Nat) : (s.dropClaim g i).part π = s.part π := by
  simp only [State.dropClaim]
  refine (part_foldl (fun s b => ?_) _ _).trans ?_
  · simp (disch := refine outside ?_ h; decide) only [assignSpare_part]
  · simp (disch := refine outside ?_ h; decide) only [part_rxc]

theorem failSampler_part (h : π ∉ [.receivers, .histograms, .calibration]) (s : State) (g k : Nat) : (s.failSampler g k).part π = s.part π := by
  simp (disch := refine outside ?_ h; decide) only [State.failSampler, part_ite, claimSpare_part, faultChannel_part, setSpareByte_part,
    raiseEvt_part, bump_part, recordDue_part, setF_part, ite_self, dropClaim_part, checkPool_part]

theorem doSamplerRefreshComplete_part (h : π ∉ [.timing, .receivers, .histograms, .calibration]) (group : Fin 16) (sampler : Fin 68) (hits :
    List Nat) (t : Nat) (s : State) : (doSamplerRefreshComplete group sampler hits t s).part π = s.part π := by
  simp (disch := refine outside ?_ h; decide) only [doSamplerRefreshComplete, part_ite, at_part, failSampler_part, part_rxc, setSat_part]
  split
  · rfl
  · split
    · rfl
    · split <;> simp (disch := refine outside ?_ h; decide) only [setF_part, setTapLine_part, part_rxc, setSat_part, at_part, part_ite,
        failSampler_part, ite_self]

theorem applySamplerMap_part (h : π ∉ [.timing, .receivers, .calibration]) (s : State) (g k : Nat) (places : List Nat) :
    (s.applySamplerMap g k places).part π = s.part π := by
  simp (disch := refine outside ?_ h; decide) only [State.applySamplerMap, noteTapPool_part, partTaken_part, raiseEvt_part, bump_part, setF_part,
    tick_part]
  refine Eq.trans ?_ (setTapLine_part (outside (by decide) h) s (samplerLine g k)
    ((s.tapLine (samplerLine g k)).substituted (samplerLine g k) places))
  cases π with
  | timing | receivers => exact absurd (by decide) h
  | _ => rfl

theorem applyMapDue_part (h : π ∉ [.timing, .receivers, .calibration]) (s : State) (due : Nat → Nat → Bool) (n : Nat) :
    (s.applyMapDue due n).part π = s.part π := by
  simp only [State.applyMapDue]
  split <;> simp (disch := refine outside ?_ h; decide) only [part_ite, applySamplerMap_part, ite_self]

theorem doSamplerTapMapApply_part (h : π ∉ [.timing, .receivers, .calibration]) (group : Fin 16) (sampler : Fin 68) (t : Nat) (s : State) :
    (doSamplerTapMapApply group sampler t s).part π = s.part π := by
  simp (disch := refine outside ?_ h; decide) only [doSamplerTapMapApply, applyMapDue_part, at_part]

theorem doSamplerFailure_part (h : π ∉ [.receivers, .histograms, .calibration]) (group : Fin 16) (sampler : Fin 68) (t : Nat) (s : State) :
    (doSamplerFailure group sampler t s).part π = s.part π := by
  simp (disch := refine outside ?_ h; decide) only [doSamplerFailure, part_ite, failSampler_part, at_part, ite_self]

theorem useSpare_part (h : π ∉ [.receivers, .calibration]) (s : State) (c i : Nat) : (s.useSpare c i).part π = s.part π := by
  simp (disch := refine outside ?_ h; decide) only [State.useSpare, checkPool_part, spareTaken_part, raiseEvt_part, setF_part, bump_part,
    setSpareByte_part, switchChannel_part]

theorem retireSampler_part (s : State) (g k : Nat) : (s.retireSampler g k).part π = s.part π := by
  simp only [State.retireSampler, part_ite, setSpareByte_part, bump_part, setF_part, ite_self]

theorem doSamplerSubstitution_part (h : π ∉ [.receivers, .histograms, .calibration]) (ch : Fin 1024) (t : Nat) (s : State) :
    (doSamplerSubstitution ch t s).part π = s.part π := by
  simp only [doSamplerSubstitution, part_ite, at_part]
  split
  · split <;> simp (disch := refine outside ?_ h; decide) only [part_ite, useSpare_part, part_rxc, at_part, retireSampler_part, ite_self,
      noSampler_part, setF_part]
  · rfl

theorem putRead_part (s : State) (bus : Nat) (data : List Byte) : (s.putRead bus data).part π = s.part π := by
  unfold State.putRead
  refine part_foldl (fun s b => ?_) _ _
  simp only [part_ite, setF_part, ite_self]

theorem endI2c_part (s : State) (bus result done : Nat) (data : List Byte) : (s.endI2c bus result done data).part π = s.part π := by
  simp only [State.endI2c, raiseEvt_part, putRead_part, setSat_part, setF_part]

theorem doI2cTransactionComplete_part (bus : Fin 4) (result done : Nat) (data : List Byte) (t : Nat) (s : State) :
    (doI2cTransactionComplete bus result done data t s).part π = s.part π := by
  simp only [doI2cTransactionComplete, part_ite, endI2c_part, at_part, ite_self]

theorem doI2cStretchTimeout_part (bus : Fin 4) (done t : Nat) (s : State) : (doI2cStretchTimeout bus done t s).part π = s.part π := by
  simp only [doI2cStretchTimeout, part_ite, endI2c_part, at_part, ite_self]

theorem doI2cApply_part (h : π ∉ [.receivers]) (ack t : Nat) (s : State) : (doI2cApply ack t s).part π = s.part π := by
  simp (disch := refine outside ?_ h; decide) only [doI2cApply, part_ite, setF_part, part_rxc, at_part, recErr_part, raiseEvt_part, ite_self]

theorem rateUpdate_part (h : π ∉ [.receivers]) (s : State) (d c : Nat) : (s.rateUpdate d c).part π = s.part π := by
  simp (disch := refine outside ?_ h; decide) only [State.rateUpdate, part_ite, setF_part, part_rxc, ite_self]

theorem showAmbient_part (s : State) (c : Nat) : (s.showAmbient c).part π = s.part π := by
  simp only [State.showAmbient, setSat_part]

theorem ambientUpdate_part (h : π ∉ [.receivers]) (s : State) (ended : Bool) (d c : Nat) : (s.ambientUpdate ended d c).part π = s.part π := by
  simp (disch := refine outside ?_ h; decide) only [State.ambientUpdate, part_ite, showAmbient_part, rateUpdate_part, ite_self]

theorem activateSampler_part (h : π ∉ [.timing]) (s : State) (n : Nat) : (s.activateSampler n).part π = s.part π := by
  simp only [State.activateSampler]
  split <;> simp (disch := refine outside ?_ h; decide) only [raiseEvt_part, setF_part, setTapLine_part]

theorem rxcBoundary_part (h : π ∉ [.timing, .receivers, .calibration]) (s : State) (ended : Bool) : (s.rxcBoundary ended).part π = s.part π := by
  simp (disch := refine outside ?_ h; decide) only [State.rxcBoundary, part_rxc, part_ite, raiseEvt_part, ite_self]
  refine (part_foldl (fun s b => ?_) _ _).trans ?_
  · simp (disch := refine outside ?_ h; decide) only [ambientUpdate_part]
  · refine (part_foldl (fun s b => ?_) _ _).trans ?_
    · simp (disch := refine outside ?_ h; decide) only [activateSampler_part]
    · refine part_foldl (fun s b => ?_) _ _
      simp (disch := refine outside ?_ h; decide) only [applyMapDue_part]

end Sys2Proof.Machine
end

section
/-! PROOFS. What each operation leaves of the parts of the state: the histogram engines. -/

namespace Sys2Proof.Machine

variable {π : Part}

theorem openLine_part (h : π ∉ [.histograms]) (s : State) (tr : Train) (x : TrainLine) : (s.openLine tr x).part π = s.part π := by
  unfold State.openLine
  refine part_foldl (fun s b => ?_) _ _
  dsimp only
  split <;> simp (disch := refine outside ?_ h; decide) only [part_ite, raiseEvt_part, frameCount_part, setMeas_part, ite_self]

theorem placeEvent_part (h : π ∉ [.histograms]) (s : State) (slot : Nat) (m : Meas) (e : Event) : (s.placeEvent slot m e).part π = s.part π := by
  unfold State.placeEvent
  split <;> simp (disch := refine outside ?_ h; decide) only [frameCount_part, part_ite, setMeas_part, ite_self]

theorem binEvent_part (h : π ∉ [.histograms]) (s : State) (e : Event) : (s.binEvent e).part π = s.part π := by
  unfold State.binEvent
  split <;> simp (disch := refine outside ?_ h; decide) only [frameCount_part, part_ite, placeEvent_part, setMeas_part, ite_self]

theorem binWaiting_part (h : π ∉ [.histograms]) (s : State) (slot : Nat) : (s.binWaiting slot).part π = s.part π := by
  unfold State.binWaiting
  split
  · refine (part_foldl (fun s b => ?_) _ _).trans ?_
    · simp (disch := refine outside ?_ h; decide) only [binEvent_part]
    · simp (disch := refine outside ?_ h; decide) only [setMeas_part]
  · rfl

theorem doTrainDescriptor_part (h : π ∉ [.timing, .histograms]) (frame train : Nat) (line : Fin 128) (s : State) :
    (doTrainDescriptor frame train line s).part π = s.part π := by
  simp only [doTrainDescriptor, part_ite]
  split
  · rfl
  · refine (part_foldl (fun s b => ?_) _ _).trans ?_
    · simp (disch := refine outside ?_ h; decide) only [binWaiting_part, setMeas_part]
    · simp (disch := refine outside ?_ h; decide) only [part_etd]

theorem takeUpdate_part (h : π ∉ [.histograms]) (s : State) (e : Nat) : (s.takeUpdate e).part π = s.part π := by
  simp (disch := refine outside ?_ h; decide) only [State.takeUpdate, part_ite, raiseEvt_part, part_grn, ite_self]

theorem refillQueue_part (h : π ∉ [.receivers]) (s : State) (g : Nat) : (s.refillQueue g).part π = s.part π := by
  unfold State.refillQueue
  split <;> simp (disch := refine outside ?_ h; decide) only [part_rxc]

theorem countCorrected_part (h : π ∉ [.histograms]) (s : State) (e n : Nat) : (s.countCorrected e n).part π = s.part π := by
  simp (disch := refine outside ?_ h; decide) only [State.countCorrected, part_ite, recErr_part, part_grn, ite_self]

theorem doHistogramUpdate_part (h : π ∉ [.receivers, .histograms]) (group : Fin 16) (corrected t : Nat) (s : State) :
    (doHistogramUpdate group corrected t s).part π = s.part π := by
  simp only [doHistogramUpdate]
  split <;> simp (disch := refine outside ?_ h; decide) only [at_part, part_ite, binEvent_part, countCorrected_part, takeUpdate_part,
    refillQueue_part, part_rxc, ite_self]

theorem doCandidateSearch_part (h : π ∉ [.histograms]) (slot : Fin 4096) (t : Nat) (s : State) : (doCandidateSearch slot t s).part π =
    s.part π := by
  simp only [doCandidateSearch]
  split <;> simp (disch := refine outside ?_ h; decide) only [part_ite, frameCount_part, setMeas_part, at_part, ite_self]

theorem noteBacklog_part (h : π ∉ [.crema]) (s : State) (f : Nat) : (s.noteBacklog f).part π = s.part π := by
  simp (disch := refine outside ?_ h; decide) only [State.noteBacklog, part_ite, raiseEvt_part, part_crm, ite_self]

theorem doMeasurementClose_part (h : π ∉ [.histograms, .crema]) (slot : Fin 4096) (t : Nat) (s : State) : (doMeasurementClose slot t s).part π =
    s.part π := by
  simp only [doMeasurementClose]
  split <;> simp (disch := refine outside ?_ h; decide) only [part_ite, noteBacklog_part, publishFrame_part, frameCount_part, setMeas_part,
    at_part, ite_self]

theorem doSlotCleared_part (h : π ∉ [.histograms]) (slot : Fin 4096) (t : Nat) (s : State) : (doSlotCleared slot t s).part π = s.part π := by
  simp only [doSlotCleared]
  split <;> simp (disch := refine outside ?_ h; decide) only [part_ite, part_grn, at_part, ite_self]

theorem beginDrain_part (s : State) (e p : Nat) : (s.beginDrain e p).part π = s.part π := by
  simp only [State.beginDrain, raiseEvt_part, setBit_part]

theorem remapTile_part (h : π ∉ [.calibration]) (s : State) (e i : Nat) : (s.remapTile e i).part π = s.part π := by
  simp (disch := refine outside ?_ h; decide) only [State.remapTile, part_ite, staysWorn_part, setBit_part, poolTrigger_part, raiseEvt_part,
    spareTaken_part, setF_part, bump_part, recordDue_part, ite_self]

theorem doTileRemap_part (h : π ∉ [.calibration]) (engine tile : Fin 8) (t : Nat) (s : State) : (doTileRemap engine tile t s).part π =
    s.part π := by
  simp (disch := refine outside ?_ h; decide) only [doTileRemap, part_ite, remapTile_part, at_part, ite_self]

theorem releaseEngine_part (h : π ∉ [.calibration]) (s : State) (e : Nat) : (s.releaseEngine e).part π = s.part π := by
  simp only [State.releaseEngine]
  refine (part_foldl (fun s b => ?_) _ _).trans ?_
  · simp (disch := refine outside ?_ h; decide) only [part_ite, remapTile_part, setBit_part, ite_self]
  · simp only [setF_part]

theorem faultTile_part (h : π ∉ [.histograms]) (s : State) (e i : Nat) : (s.faultTile e i).part π = s.part π := by
  simp only [State.faultTile, part_ite, raiseEvt_part, ite_self]
  refine (part_foldl (fun s b => ?_) _ _).trans ?_
  · simp (disch := refine outside ?_ h; decide) only [frameCount_part]
  · simp (disch := refine outside ?_ h; decide) only [part_grn]

theorem doCarafeUncorrectable_part (h : π ∉ [.histograms, .calibration]) (slot : Fin 4096) (zoom : Bool) (t : Nat) (s : State) :
    (doCarafeUncorrectable slot zoom t s).part π = s.part π := by
  simp (disch := refine outside ?_ h; decide) only [doCarafeUncorrectable, part_ite, at_part, recErr_part, raiseEvt_part, bump_part,
    beginDrain_part, faultTile_part, setBit_part, poolTrigger_part, ite_self]
  split
  · rfl
  · split
    · split <;> simp (disch := refine outside ?_ h; decide) only [part_ite, bump_part, at_part, setMeas_part, ite_self]
    · rfl

theorem grnBoundary_part (h : π ∉ [.histograms]) (s : State) (p0Slots : Nat) : (s.grnBoundary p0Slots).part π = s.part π := by
  simp (disch := refine outside ?_ h; decide) only [State.grnBoundary, part_grn, setF_part]

end Sys2Proof.Machine
end

section
/-! PROOFS. What each operation leaves of the parts of the state: the protective field and the safety outputs. -/

namespace Sys2Proof.Machine

variable {π : Part}

theorem dropPermits_part (h : π ∉ [.safety]) (s : State) : s.dropPermits.part π = s.part π := by
  simp (disch := refine outside ?_ h; decide) only [State.dropPermits, outputsOff_part, setF_part]

theorem outputsOnIf_part (h : π ∉ [.safety]) (s : State) : s.outputsOnIf.part π = s.part π := by
  simp (disch := refine outside ?_ h; decide) only [State.outputsOnIf, part_ite, safetyEvt_part, part_saf, ite_self]

theorem armRestart_part (h : π ∉ [.safety]) (s : State) : s.armRestart.part π = s.part π := by
  simp (disch := refine outside ?_ h; decide) only [State.armRestart, part_ite, setF_part, outputsOff_part, ite_self]

theorem raiseCounts_part (h : π ∉ [.safety]) (s : State) (i : List Byte) (r : RayResult) : (s.raiseCounts i r).part π = s.part π := by
  unfold State.raiseCounts
  split
  · rfl
  · dsimp only
    refine part_foldl (fun s b => ?_) _ _
    simp (disch := refine outside ?_ h; decide) only [part_ite, dropPermits_part, part_saf, ite_self]

theorem doP0Descriptor_part (h : π ∉ [.safety]) (t : Nat) (s : State) : (doP0Descriptor t s).part π = s.part π := by
  simp only [doP0Descriptor]
  split
  · simp only [at_part]
  · split <;> simp (disch := refine outside ?_ h; decide) only [part_saf, at_part, raiseCounts_part]

theorem doChannelBRayResult_part (h : π ∉ [.safety]) (frame train pass step pos : Nat) (slot off : Fin 8) (t : Nat) (s : State) :
    (doChannelBRayResult frame train pass step pos slot off t s).part π = s.part π := by
  simp only [doChannelBRayResult]
  split
  · simp only [at_part]
  · split <;> simp (disch := refine outside ?_ h; decide) only [at_part, part_ite, raiseCounts_part, part_saf, ite_self]

theorem runsEnd_part (h : π ∉ .resets :: frameParts) (s : State) (ms : Nat) : (s.runsEnd ms).part π = s.part π := by
  simp (disch := refine outside ?_ h; decide) only [State.runsEnd, part_ite, enterLockout_part, part_saf, ite_self]

theorem expireRuns_part (h : π ∉ .resets :: frameParts) (s : State) : s.expireRuns.part π = s.part π := by
  simp (disch := refine outside ?_ h; decide) only [State.expireRuns, runsEnd_part]

theorem evaluate_part (h : π ∉ .resets :: frameParts) (s : State) (i j : List Byte) (d : FrameDue) : (s.evaluate i j d).part π = s.part π := by
  unfold State.evaluate
  extract_lets +onlyGivenNames z ra rb pairs res differ runs newRun prot clear notev ahead counts allClear field _ z1 z2 held z3 z4 z5 z6
  simp (disch := refine outside ?_ h; decide) only [commitRecord_part, z6, setSat_part, setF_part, z5, outputsOnIf_part, z4, part_ite,
    dropPermits_part, bump_part, ite_self, z3, z2, safetyEvt_part, z1, part_saf, z, expireRuns_part]

theorem doEvaluationInstant_part (h : π ∉ .resets :: frameParts) (t : Nat) (s : State) : (doEvaluationInstant t s).part π = s.part π := by
  simp only [doEvaluationInstant]
  split
  · simp only [at_part]
  · simp (disch := refine outside ?_ h; decide) only [part_ite, at_part, part_saf]
    split
    · rfl
    · split <;> simp (disch := refine outside ?_ h; decide) only [evaluate_part, at_part, commitRecord_part]

theorem doDiscrepancyExpiry_part (h : π ∉ .resets :: frameParts) (t : Nat) (s : State) : (doDiscrepancyExpiry t s).part π = s.part π := by
  simp (disch := refine outside ?_ h; decide) only [doDiscrepancyExpiry, part_ite, runsEnd_part, at_part, ite_self]

theorem doOssdOffPulse_part (h : π ∉ [.safety]) (channelB : Bool) (t : Nat) (s : State) : (doOssdOffPulse channelB t s).part π = s.part π := by
  simp only [doOssdOffPulse]
  split <;> simp (disch := refine outside ?_ h; decide) only [at_part, part_ite, part_saf, ite_self]

theorem doOssdReadbackFault_part (h : π ∉ .resets :: frameParts) (fbA fbB : Bool) (t : Nat) (s : State) :
    (doOssdReadbackFault fbA fbB t s).part π = s.part π := by
  simp (disch := refine outside ?_ h; decide) only [doOssdReadbackFault, part_ite, at_part, part_saf, enterLockout_part, ite_self]

theorem doClockCrossCheck_part (h : π ∉ .resets :: frameParts) (dev : Int) (t : Nat) (s : State) : (doClockCrossCheck dev t s).part π =
    s.part π := by
  simp (disch := refine outside ?_ h; decide) only [doClockCrossCheck, part_ite, at_part, enterLockout_part, part_saf, setB_part, setI_part,
    ite_self]

theorem doChannelBGapTest_part (h : π ∉ .resets :: frameParts) (pass crc : Bool) (t : Nat) (s : State) :
    (doChannelBGapTest pass crc t s).part π = s.part π := by
  simp (disch := refine outside ?_ h; decide) only [doChannelBGapTest, part_ite, at_part, setB_part, bump_part, enterLockout_part, ite_self]

theorem doLockoutEntry_part (h : π ∉ .resets :: frameParts) (cause : Fin 3) (t : Nat) (s : State) : (doLockoutEntry cause t s).part π =
    s.part π := by
  simp (disch := refine outside ?_ h; decide) only [doLockoutEntry, enterLockout_part, at_part]

theorem doLockoutRecordWritten_part (h : π ∉ [.resets]) (t : Nat) (s : State) : (doLockoutRecordWritten t s).part π = s.part π := by
  simp (disch := first | rfl | (refine outside ?_ h; decide)) only [doLockoutRecordWritten, part_ite, setF_part, part_rst, at_part, ite_self]

theorem doLockoutSelfTest_part (h : π ∉ [.safety]) (passA passB crc fbOff : Bool) (t : Nat) (s : State) :
    (doLockoutSelfTest passA passB crc fbOff t s).part π = s.part π := by
  simp (disch := refine outside ?_ h; decide) only [doLockoutSelfTest, part_ite, at_part, setB_part, part_saf, bump_part, ite_self]

theorem disarmClear_part (h : π ∉ [.safety]) (s : State) : s.disarmClear.part π = s.part π := by
  simp (disch := refine outside ?_ h; decide) only [State.disarmClear, setF_part, part_saf]

theorem doClearWindowClose_part (h : π ∉ [.safety]) (t : Nat) (s : State) : (doClearWindowClose t s).part π = s.part π := by
  simp only [doClearWindowClose]
  split <;> simp (disch := refine outside ?_ h; decide) only [part_ite, disarmClear_part, at_part, ite_self]

theorem clearLockout_part (h : π ∉ [.resets, .scheduler, .safety]) (s : State) : s.clearLockout.part π = s.part π := by
  simp (disch := first | rfl | (refine outside ?_ h; decide)) only [State.clearLockout, enterState_part, disarmClear_part, setF_part, part_rst]

theorem doRestartPulse_part (h : π ∉ [.resets, .scheduler, .safety]) (t usA usB : Nat) (s : State) : (doRestartPulse t usA usB s).part π =
    s.part π := by
  simp (disch := refine outside ?_ h; decide) only [doRestartPulse, part_ite, at_part, clearLockout_part, setSat_part, outputsOnIf_part,
    setF_part, safetyEvt_part, bump_part, ite_self]

theorem showConfig_part (s : State) (p : Nat) (i : List Byte) : (s.showConfig p i).part π = s.part π := by
  simp only [State.showConfig, setB_part, setF_part]

theorem showNoImage_part (s : State) : s.showNoImage.part π = s.part π := by
  simp only [State.showNoImage]
  refine (part_foldl (fun s b => ?_) _ _).trans ?_
  · simp only [setF_part]
  · simp only [setF_part]

theorem showStaged_part (s : State) : s.showStaged.part π = s.part π := by
  simp only [State.showStaged, setF_part, setB_part]

theorem setCeilings_part (s : State) (img : Option (List Byte)) : (s.setCeilings img).part π = s.part π := by
  simp only [State.setCeilings]
  refine (part_foldl (fun s b => ?_) _ _).trans ?_
  · simp only [setF_part]
  · refine part_foldl (fun s b => ?_) _ _
    simp only [setF_part]

theorem workingCeilings_part (s : State) (img : Option (List Byte)) : (s.workingCeilings img).part π = s.part π := by
  simp only [State.workingCeilings, part_ite, setCeilings_part, raiseEvt_part, ite_self]

theorem newlyActive_part (h : π ∉ [.safety]) (s : State) (i j : List Byte) : (s.newlyActive i j).part π = s.part π := by
  simp (disch := refine outside ?_ h; decide) only [State.newlyActive, safetyEvt_part, workingCeilings_part, setF_part, showConfig_part,
    part_saf, outputsOff_part]

theorem activateImage_part (h : π ∉ [.safety]) (s : State) : s.activateImage.part π = s.part π := by
  simp only [State.activateImage]
  split <;> simp (disch := refine outside ?_ h; decide) only [newlyActive_part, showStaged_part, part_saf, setF_part]

theorem applyFieldSet_part (s : State) : s.applyFieldSet.part π = s.part π := by
  simp only [State.applyFieldSet, part_ite, safetyEvt_part, setF_part, ite_self]

end Sys2Proof.Machine
end

section
/-! PROOFS. What each operation leaves of the parts of the state: beam steering. -/

namespace Sys2Proof.Machine

variable {π : Part}

theorem setCond_part (h : π ∉ [.steering]) (s : State) (cause : Nat) (holds : Bool) : (s.setCond cause holds).part π = s.part π := by
  simp (disch := refine outside ?_ h; decide) only [State.setCond, part_ite, raiseEvt_part, setF_part, setB_part, part_ste, ite_self]

theorem speedConds_part (h : π ∉ [.steering]) (s : State) : s.speedConds.part π = s.part π := by
  unfold State.speedConds
  split <;> simp (disch := refine outside ?_ h; decide) only [setCond_part]

theorem tripIlk_part (h : π ∉ frameParts) (s : State) (cause : Nat) : (s.tripIlk cause).part π = s.part π := by
  simp (disch := refine outside ?_ h; decide) only [State.tripIlk, enterSafe_part, raiseEvt_part, bump_part, setF_part]

theorem armIlk_part (h : π ∉ frameParts) (s : State) : s.armIlk.part π = s.part π := by
  unfold State.armIlk
  split <;> simp (disch := refine outside ?_ h; decide) only [part_ite, tripIlk_part, ite_self]

theorem judgeIlk_part (h : π ∉ frameParts) (s : State) : s.judgeIlk.part π = s.part π := by
  simp (disch := refine outside ?_ h; decide) only [State.judgeIlk, armIlk_part, setCond_part, speedConds_part]

theorem updateBands_part (s : State) : s.updateBands.part π = s.part π := by
  simp only [State.updateBands, setB_part]

theorem updateValid_part (h : π ∉ [.scheduler, .steering]) (s : State) : s.updateValid.part π = s.part π := by
  unfold State.updateValid
  dsimp only
  refine Eq.trans ?_ ((setB_part _ F.STE_STAT.VALID s.updateBands.steeringValid).trans (updateBands_part s))
  split
  · exact part_ste (h := outside (by decide) h) ..
  · cases π with
    | scheduler | steering => exact absurd (by decide) h
    | _ => rfl

theorem setTilt_part (h : π ∉ [.scheduler, .steering]) (s : State) (tilt : Int) : (s.setTilt tilt).part π = s.part π := by
  simp (disch := refine outside ?_ h; decide) only [State.setTilt, updateValid_part, part_ste]

theorem doPolyEncoderEdge_part (h : π ∉ frameParts) (t : Nat) (s : State) : (doPolyEncoderEdge t s).part π = s.part π := by
  simp (disch := refine outside ?_ h; decide) only [doPolyEncoderEdge, part_ite, at_part, updateValid_part, judgeIlk_part, setSat_part, part_ste,
    ite_self]

theorem doIndexMark_part (h : π ∉ frameParts) (t : Nat) (s : State) : (doIndexMark t s).part π = s.part π := by
  simp (disch := refine outside ?_ h; decide) only [doIndexMark, part_ite, at_part, updateValid_part, judgeIlk_part, setI_part, part_ste,
    updateBands_part, ite_self]

theorem doFsyncEdge_part (h : π ∉ [.scheduler, .steering]) (t : Nat) (s : State) : (doFsyncEdge t s).part π = s.part π := by
  simp only [doFsyncEdge, part_ite, at_part]
  split
  · rfl
  · split <;> simp (disch := refine outside ?_ h; decide) only [updateValid_part, bump_part, setF_part, part_ste, at_part, part_ite, ite_self]

theorem missEdges_part (h : π ∉ [.steering]) (s : State) (n : Nat) : (s.missEdges n).part π = s.part π := by
  simp (disch := refine outside ?_ h; decide) only [State.missEdges, part_ite, raiseEvt_part, setF_part, part_ste, bump_part, ite_self]

theorem doFsyncHoldover_part (h : π ∉ [.steering]) (t : Nat) (s : State) : (doFsyncHoldover t s).part π = s.part π := by
  simp (disch := refine outside ?_ h; decide) only [doFsyncHoldover, part_ite, missEdges_part, at_part, ite_self]

theorem rebaseEdges_part (h : π ∉ [.steering]) (s old : State) : (s.rebaseEdges old).part π = s.part π := by
  unfold State.rebaseEdges
  split
  · rfl
  · dsimp only
    split <;> simp (disch := refine outside ?_ h; decide) only [part_ite, part_ste, ite_self]

theorem doFramePulse_part (h : π ∉ [.steering]) (t : Nat) (s : State) : (doFramePulse t s).part π = s.part π := by
  simp (disch := refine outside ?_ h; decide) only [doFramePulse, part_ite, part_ste, at_part, ite_self]

theorem stickySat_part (s : State) (f : Field) (v : Nat) : (s.stickySat f v).part π = s.part π := by
  simp only [State.stickySat, part_ite, raiseEvt_part, setF_part, ite_self]

theorem capture_part (h : π ∉ [.steering]) (s : State) (n loop : Nat) (set fb err out : Int) (sat : Bool) :
    (s.capture n loop set fb err out sat).part π = s.part π := by
  simp (disch := refine outside ?_ h; decide) only [State.capture, part_ste]

theorem loopEntry_part (h : π ∉ [.steering]) (s : State) (test : Option Nat) (loop : Nat) (set fb err out : Int) (sat : Bool) :
    (s.loopEntry test loop set fb err out sat).part π = s.part π := by
  unfold State.loopEntry
  split
  · dsimp only
    split <;> simp (disch := refine outside ?_ h; decide) only [recPush_part, capture_part]
  · simp only [tick_part, recPush_part]

theorem doPolygonLoopSample_part (h : π ∉ frameParts) (t : Nat) (s : State) : (doPolygonLoopSample t s).part π = s.part π := by
  unfold doPolygonLoopSample
  extract_lets +onlyGivenNames z
  split
  · exact at_part ..
  · extract_lets +onlyGivenNames z1 ref there
    split
    extract_lets +onlyGivenNames changed _ z2 z3 z4 z5 test add atSet set
    have h5 : z5.part π = s.part π := by
      simp (disch := refine outside ?_ h; decide) only [z5, part_ite, setF_part, setI_part, z4, raiseEvt_part, z3, setB_part, z2, part_ste, z1,
        missEdges_part, z, at_part, ite_self]
    split
    split
    split <;> simp (disch := refine outside ?_ h; decide) only [updateValid_part, judgeIlk_part, loopEntry_part, part_ite, stickySat_part,
      part_ste, ite_self, h5]

theorem doGalvoLoopSample_part (h : π ∉ .converter :: frameParts) (t : Nat) (raw : Int) (s : State) : (doGalvoLoopSample t raw s).part π =
    s.part π := by
  simp (disch := refine outside ?_ h; decide) only [doGalvoLoopSample, part_ite, at_part, updateValid_part, judgeIlk_part, hkaInsert_part,
    loopEntry_part, stickySat_part, setI_part, part_ste, ite_self]

theorem interlockCause_part (h : π ∉ frameParts) (s : State) (cause : Nat) : (s.interlockCause cause).part π = s.part π := by
  simp (disch := refine outside ?_ h; decide) only [State.interlockCause, part_ite, tripIlk_part, setCond_part, updateValid_part, ite_self]

theorem doInterlockTrip_part (h : π ∉ frameParts) (cause : Fin 5) (t : Nat) (s : State) : (doInterlockTrip cause t s).part π = s.part π := by
  simp (disch := refine outside ?_ h; decide) only [doInterlockTrip, part_ite, at_part, interlockCause_part, ite_self]

theorem doGalvoStallExpiry_part (h : π ∉ frameParts) (t : Nat) (s : State) : (doGalvoStallExpiry t s).part π = s.part π := by
  simp only [doGalvoStallExpiry]
  split <;> simp (disch := refine outside ?_ h; decide) only [part_ite, interlockCause_part, at_part, ite_self]

theorem doSpinupTimeout_part (h : π ∉ frameParts) (t : Nat) (s : State) : (doSpinupTimeout t s).part π = s.part π := by
  simp (disch := refine outside ?_ h; decide) only [doSpinupTimeout, part_ite, enterSafe_part, at_part, ite_self]

theorem doTransitionTimeout_part (h : π ∉ frameParts) (t : Nat) (s : State) : (doTransitionTimeout t s).part π = s.part π := by
  simp only [doTransitionTimeout]
  split <;> simp (disch := refine outside ?_ h; decide) only [part_ite, enterSafe_part, at_part, ite_self]

theorem doSteeringRecordClose_part (h : π ∉ [.steering]) (t : Nat) (s : State) : (doSteeringRecordClose t s).part π = s.part π := by
  simp only [doSteeringRecordClose]
  split <;> simp (disch := refine outside ?_ h; decide) only [at_part, part_ite, closeSteering_part, ite_self]

theorem doSteeringTestComplete_part (h : π ∉ [.steering]) (t : Nat) (s : State) : (doSteeringTestComplete t s).part π = s.part π := by
  simp only [doSteeringTestComplete]
  split <;> simp (disch := refine outside ?_ h; decide) only [part_ite, raiseEvt_part, setF_part, part_ste, closeSteering_part, at_part, ite_self]

end Sys2Proof.Machine
end

section
/-! PROOFS. What each operation leaves of the parts of the state: return extraction and point output. -/

namespace Sys2Proof.Machine

variable {π : Part}

theorem commitHeld_part (h : π ∉ [.histograms]) (s : State) (r : HeldRec) : (s.commitHeld r).part π = s.part π := by
  simp only [State.commitHeld]
  split
  · split
    · simp (disch := refine outside ?_ h; decide) only [part_ite, setMeas_part, commitSel_part, ite_self]
    · exact commitSel_part ..
  · exact commitSel_part ..

theorem putRecord_part (h : π ∉ [.histograms, .crema]) (s : State) (r : HeldRec) : (s.putRecord r).part π = s.part π := by
  simp (disch := refine outside ?_ h; decide) only [State.putRecord, part_ite, commitHeld_part, part_crm, ite_self]

theorem cremaCount_part (h : π ∉ [.crema]) (s : State) (frame kind n : Nat) : (s.cremaCount frame kind n).part π = s.part π := by
  simp (disch := refine outside ?_ h; decide) only [State.cremaCount, part_crm]

theorem putReturn_part (h : π ∉ [.histograms, .crema]) (s : State) (m : Meas) (r : Return) (idx : Nat) : (s.putReturn m r idx).part π =
    s.part π := by
  simp (disch := refine outside ?_ h; decide) only [State.putReturn, part_ite, raiseEvt_part, cremaCount_part, putRecord_part, ite_self]

theorem putDescriptor_part (h : π ∉ [.safety]) (s : State) (m : Meas) (rs : List Return) : (s.putDescriptor m rs).part π = s.part π := by
  simp (disch := refine outside ?_ h; decide) only [State.putDescriptor, part_ite, part_saf, ite_self]

theorem putHist_part (h : π ∉ [.histograms, .crema]) (s : State) (slot : Nat) (m : Meas) : (s.putHist slot m).part π = s.part π := by
  simp (disch := refine outside ?_ h; decide) only [State.putHist, part_ite, putRecord_part, setMeas_part, ite_self]

theorem calSample_part (h : π ∉ [.calibration]) (s : State) (m : Meas) (rs : List Return) : (s.calSample m rs).part π = s.part π := by
  unfold State.calSample
  split
  · rfl
  · dsimp only
    split <;> simp (disch := refine outside ?_ h; decide) only [part_ite, part_cal, ite_self]

theorem noteEcho_part (h : π ∉ [.calibration]) (s : State) (m : Meas) (rs : List Return) : (s.noteEcho m rs).part π = s.part π := by
  simp (disch := refine outside ?_ h; decide) only [State.noteEcho, part_ite, part_cal, ite_self]

theorem extractOne_part (h : π ∉ [.histograms, .crema, .safety, .calibration]) (s : State) (all : List (Nat × Meas × List Return)) (x :
    Nat × Meas × List Return) : (s.extractOne all x).part π = s.part π := by
  unfold State.extractOne
  split
  · simp (disch := refine outside ?_ h; decide) only [part_crm, putHist_part, noteEcho_part, calSample_part, putDescriptor_part]
    refine part_foldl (fun s b => ?_) _ _
    simp (disch := refine outside ?_ h; decide) only [putReturn_part]

theorem doExtract_part (h : π ∉ [.histograms, .crema, .safety, .calibration]) (line : Fin 128) (t : Nat) (s : State) :
    (doExtract line t s).part π = s.part π := by
  simp only [doExtract]
  split
  · simp (disch := refine outside ?_ h; decide) only [part_ite, part_grn, at_part]
    split
    · refine (part_foldl (fun s b => ?_) _ _).trans ?_
      · simp (disch := refine outside ?_ h; decide) only [extractOne_part]
      · simp only [at_part]
    · rfl
  · simp only [at_part]

theorem updFrame_part (h : π ∉ [.scheduler]) (s : State) (num : Nat) (f : FrameInfo → FrameInfo) : (s.updFrame num f).part π = s.part π := by
  simp (disch := refine outside ?_ h; decide) only [State.updFrame, part_sch]

theorem forgetFrames_part (h : π ∉ [.scheduler, .histograms, .crema]) (s : State) : s.forgetFrames.part π = s.part π := by
  cases π with
  | scheduler | histograms | crema => exact absurd (by decide) h
  | _ => rfl

theorem publishCrema_part (s : State) (f : Nat) : (s.publishCrema f).part π = s.part π := by
  simp only [State.publishCrema, setSat_part]
  refine (part_foldl (fun s b => ?_) _ _).trans ?_
  · simp only [setSat_part]
  · simp only [setSat_part]

theorem flushHeld_part (h : π ∉ [.histograms, .crema]) (s : State) (f : Nat) : (s.flushHeld f).part π = s.part π := by
  simp only [State.flushHeld]
  refine (part_foldl (fun s b => ?_) _ _).trans ?_
  · simp (disch := refine outside ?_ h; decide) only [commitHeld_part]
  · simp (disch := refine outside ?_ h; decide) only [part_crm]

theorem doFrameHeaderCommit_part (h : π ∉ [.scheduler, .histograms, .crema]) (t : Nat) (s : State) : (doFrameHeaderCommit t s).part π =
    s.part π := by
  simp only [doFrameHeaderCommit]
  split
  · simp only [at_part]
  · simp (disch := refine outside ?_ h; decide) only [part_ite, forgetFrames_part, updFrame_part, publishCrema_part, commitHeader_part, at_part,
      ite_self, flushHeld_part]
    split
    · rfl
    · split
      · simp (disch := refine outside ?_ h; decide) only [updFrame_part, commitHeader_part, at_part, ite_self]
      · split
        · split <;> simp (disch := refine outside ?_ h; decide) only [updFrame_part, publishCrema_part, commitHeader_part, at_part]
        · rfl

theorem doStatsCommit_part (h : π ∉ [.scheduler, .histograms, .crema]) (t : Nat) (s : State) : (doStatsCommit t s).part π = s.part π := by
  simp only [doStatsCommit]
  split
  · simp (disch := refine outside ?_ h; decide) only [part_ite, at_part, forgetFrames_part, updFrame_part]
    split
    · rfl
    · refine (part_foldl (fun s b => ?_) _ _).trans ?_
      · simp only [commitRecord_part]
      · simp only [at_part]
  · simp only [at_part]

theorem showDeflection_part (s : State) : s.showDeflection.part π = s.part π := by
  simp only [State.showDeflection, setF_part, setI_part]

theorem doMountStale_part (t : Nat) (s : State) : (doMountStale t s).part π = s.part π := by
  simp only [doMountStale, part_ite, raiseEvt_part, setF_part, at_part, ite_self]

end Sys2Proof.Machine
end

section
/-! PROOFS. What each operation leaves of the parts of the state: the time base. -/

namespace Sys2Proof.Machine

variable {π : Part}

theorem mapTime_part (s : State) (f : TimeState → TimeState) : (s.mapTime f).part π = s.part π := by
  simp only [State.mapTime, part_reports]

theorem setTrim_part (s : State) (v : Int) : (s.setTrim v).part π = s.part π := by
  simp only [State.setTrim, mapTime_part, setI_part]

theorem pullTrim_part (s : State) : s.pullTrim.part π = s.part π := by
  simp only [State.pullTrim, setTrim_part, tick_part]

theorem sendAnnounce_part (s : State) : s.sendAnnounce.part π = s.part π := by
  simp only [State.sendAnnounce, emit_part, mapPort_part]

theorem gmUpdate_part (s : State) : s.gmUpdate.part π = s.part π := by
  simp only [State.gmUpdate, part_ite, sendAnnounce_part, setB_part, ite_self]

theorem refOkFromTime_part (h : π ∉ [.scheduler, .steering]) (s : State) : s.refOkFromTime.part π = s.part π := by
  simp (disch := refine outside ?_ h; decide) only [State.refOkFromTime, part_ite, updateValid_part, setB_part, ite_self]

theorem traceUpdate_part (s : State) : s.traceUpdate.part π = s.part π := by
  simp only [State.traceUpdate, part_ite, raiseEvt_part, setF_part, ite_self]

theorem setServo_part (h : π ∉ [.scheduler, .steering]) (s : State) (st : Nat) : (s.setServo st).part π = s.part π := by
  simp (disch := refine outside ?_ h; decide) only [State.setServo, part_ite, traceUpdate_part, gmUpdate_part, refOkFromTime_part, raiseEvt_part,
    setF_part, ite_self]

theorem setSource_part (s : State) (k : Nat) : (s.setSource k).part π = s.part π := by
  simp only [State.setSource, part_ite, raiseEvt_part, setF_part, ite_self]

theorem enterHoldover_part (h : π ∉ [.scheduler, .steering]) (s : State) : s.enterHoldover.part π = s.part π := by
  simp (disch := refine outside ?_ h; decide) only [State.enterHoldover, setServo_part, setF_part, bump_part, mapTime_part, setTrim_part]

theorem leaveServo_part (s : State) : s.leaveServo.part π = s.part π := by
  simp only [State.leaveServo, mapTime_part, part_ite, setSat_part, ite_self]

theorem enterFree_part (h : π ∉ [.scheduler, .steering]) (s : State) : s.enterFree.part π = s.part π := by
  simp (disch := refine outside ?_ h; decide) only [State.enterFree, setServo_part, mapTime_part, leaveServo_part]

theorem enterAcquire_part (h : π ∉ [.scheduler, .steering]) (s : State) : s.enterAcquire.part π = s.part π := by
  simp (disch := refine outside ?_ h; decide) only [State.enterAcquire, setServo_part, leaveServo_part]

theorem enterLocked_part (h : π ∉ [.scheduler, .steering]) (s : State) : s.enterLocked.part π = s.part π := by
  simp (disch := refine outside ?_ h; decide) only [State.enterLocked, setServo_part, mapTime_part]

theorem acceptSource_part (s : State) (k : Nat) : (s.acceptSource k).part π = s.part π := by
  simp only [State.acceptSource, mapTime_part]

theorem dropSource_part (h : π ∉ [.scheduler, .steering]) (s : State) : s.dropSource.part π = s.part π := by
  simp (disch := refine outside ?_ h; decide) only [State.dropSource, setSource_part, part_ite, enterHoldover_part, enterFree_part, ite_self]

theorem loseSource_part (h : π ∉ [.scheduler, .steering]) (s : State) (k : Nat) : (s.loseSource k).part π = s.part π := by
  simp (disch := refine outside ?_ h; decide) only [State.loseSource, part_ite, dropSource_part, mapTime_part, ite_self]

theorem takeSource_part (h : π ∉ [.scheduler, .steering]) (s : State) (k : Nat) : (s.takeSource k).1.part π = s.part π := by
  simp only [State.takeSource]
  split <;> simp (disch := refine outside ?_ h; decide) only [part_ite, enterAcquire_part, setSource_part, ite_self]

theorem stepCounter_part (s : State) (d : Int) : (s.stepCounter d).part π = s.part π := by
  simp only [State.stepCounter, mapTime_part, raiseEvt_part, setI_part, bump_part]

theorem correctPhase_part (s : State) (e : Int) : (s.correctPhase e).part π = s.part π := by
  simp only [State.correctPhase, part_ite, stepCounter_part, mapTime_part, ite_self]

theorem measurePhase_part (h : π ∉ [.scheduler, .steering]) (s : State) (e : Int) : (s.measurePhase e).part π = s.part π := by
  simp (disch := refine outside ?_ h; decide) only [State.measurePhase, part_ite, enterLocked_part, correctPhase_part, mapTime_part, setI_part,
    pullTrim_part, ite_self]

theorem loadTime_part (s : State) : s.loadTime.part π = s.part π := by
  simp only [State.loadTime, gmUpdate_part, setF_part, stepCounter_part]

theorem timeCommit_part (h : π ∉ [.scheduler, .steering]) (s : State) : s.timeCommit.part π = s.part π := by
  simp (disch := refine outside ?_ h; decide) only [State.timeCommit, gmUpdate_part, refOkFromTime_part, part_ite, setTrim_part, setSource_part,
    enterFree_part, dropSource_part, ite_self]

theorem loseMaster_part (h : π ∉ [.scheduler, .steering]) (s : State) : s.loseMaster.part π = s.part π := by
  simp (disch := refine outside ?_ h; decide) only [State.loseMaster, gmUpdate_part, loseSource_part, mapTime_part]

theorem takeAnnounce_part (h : π ∉ [.scheduler, .steering]) (s : State) (gm priority1 clockClass : Nat) (utc : Int) (utcValid leap59 leap61 :
    Bool) (logInterval : Int) (best : Bool) : (s.takeAnnounce gm priority1 clockClass utc utcValid leap59 leap61 logInterval best).part π =
    s.part π := by
  simp (disch := refine outside ?_ h; decide) only [State.takeAnnounce, part_ite, loseMaster_part, gmUpdate_part, ite_self, raiseEvt_part,
    setB_part, setI_part, setF_part, mapTime_part]

theorem takeSync_part (h : π ∉ [.scheduler, .steering]) (s : State) (origin received correction logInterval : Int) :
    (s.takeSync origin received correction logInterval).part π = s.part π := by
  simp (disch := refine outside ?_ h; decide) only [State.takeSync, part_ite, setF_part, measurePhase_part, takeSource_part, acceptSource_part,
    mapTime_part, ite_self]

theorem doPtpMessage_part (h : π ∉ [.scheduler, .steering]) (portB : Bool) (domain transport : Nat) (msg : PtpMessage) (t : Nat) (s : State) :
    (doPtpMessage portB domain transport msg t s).part π = s.part π := by
  simp only [doPtpMessage, part_ite, at_part]
  split
  · rfl
  · split <;> simp (disch := refine outside ?_ h; decide) only [takeAnnounce_part, at_part, takeSync_part, setI_part, mapTime_part]

theorem doPtpForward_part (fromB : Bool) (kind : PtpKind) (seq : Nat) (correction ingress egress linkDelay ratio : Int) (t : Nat) (s : State) :
    (doPtpForward fromB kind seq correction ingress egress linkDelay ratio t s).part π = s.part π := by
  simp only [doPtpForward, part_ite, at_part]
  split
  · split
    · rfl
    · split <;> simp only [bump_part, emit_part, mapPort_part, mapTime_part, at_part]
  · split
    · rfl
    · split <;> simp only [bump_part, emit_part, mapPort_part, mapTime_part, at_part]

theorem doPpsEdge_part (h : π ∉ [.scheduler, .steering]) (t : Nat) (s : State) : (doPpsEdge t s).part π = s.part π := by
  simp (disch := refine outside ?_ h; decide) only [doPpsEdge, part_ite, at_part, mapTime_part, raiseEvt_part, bump_part, ite_self,
    loadTime_part, takeSource_part, setI_part, acceptSource_part, measurePhase_part]

theorem doTimeSourceLost_part (h : π ∉ [.scheduler, .steering]) (src : Fin 3) (t : Nat) (s : State) : (doTimeSourceLost src t s).part π =
    s.part π := by
  simp (disch := refine outside ?_ h; decide) only [doTimeSourceLost, part_ite, at_part, loseMaster_part, loseSource_part, mapTime_part, ite_self]

theorem doRef10mWindow_part (h : π ∉ [.scheduler, .steering]) (dev : Int) (missing : Bool) (t : Nat) (s : State) :
    (doRef10mWindow dev missing t s).part π = s.part π := by
  simp (disch := refine outside ?_ h; decide) only [doRef10mWindow, part_ite, at_part, loseSource_part, pullTrim_part, takeSource_part,
    acceptSource_part, ite_self]
  split
  · rfl
  · split
    · rfl
    · split
      · rfl
      · split <;> simp (disch := refine outside ?_ h; decide) only [part_ite, enterLocked_part, mapTime_part, pullTrim_part, takeSource_part,
          acceptSource_part, at_part, ite_self]

theorem doAgeingWrite_part (t : Nat) (s : State) : (doAgeingWrite t s).part π = s.part π := by
  simp only [doAgeingWrite, part_ite, raiseEvt_part, setI_part, mapTime_part, at_part, ite_self]

theorem doTsyFramePulse_part (h : π ∉ [.steering]) (t : Nat) (s : State) : (doTsyFramePulse t s).part π = s.part π := by
  simp (disch := refine outside ?_ h; decide) only [doTsyFramePulse, part_ite, part_ste, mapTime_part, at_part, ite_self]

theorem setStable_part (s : State) (n : Nat) (b : Bool) : (s.setStable n b).part π = s.part π := by
  simp only [State.setStable, setBit_part]

theorem monitorGood_part (s : State) (n : Nat) : (s.monitorGood n).part π = s.part π := by
  simp only [State.monitorGood, part_ite, setF_part, mapTime_part, setStable_part, ite_self]

theorem monitorOut_part (s : State) (n st : Nat) : (s.monitorOut n st).part π = s.part π := by
  simp only [State.monitorOut, setStable_part, setF_part, mapTime_part]

theorem monitorOff_part (s : State) (n : Nat) : (s.monitorOff n).part π = s.part π := by
  simp only [State.monitorOff, part_ite, setBit_part, monitorOut_part, ite_self]

theorem monitorFailed_part (h : π ∉ [.resets]) (s : State) (n : Nat) : (s.monitorFailed n).part π = s.part π := by
  simp (disch := refine outside ?_ h; decide) only [State.monitorFailed, clockFailure_part, raiseEvt_part, setBit_part, monitorOut_part]

theorem doClockMonitorWindow_part (h : π ∉ .resets :: frameParts) (mon : Fin 9) (ppm : Int) (lock edge : Bool) (t : Nat) (s : State) :
    (doClockMonitorWindow mon ppm lock edge t s).part π = s.part π := by
  simp (disch := refine outside ?_ h; decide) only [doClockMonitorWindow, part_ite, at_part, monitorFailed_part, raiseEvt_part, bump_part,
    setBit_part, setI_part, ite_self, monitorOut_part, enterSafe_part, mapTime_part, monitorGood_part]

theorem doClockFailureReset_part (h : π ∉ [.resets]) (mon : Fin 9) (t : Nat) (s : State) : (doClockFailureReset mon t s).part π = s.part π := by
  simp (disch := refine outside ?_ h; decide) only [doClockFailureReset, part_ite, monitorFailed_part, at_part, ite_self]

theorem timeRelease_part (h : π ∉ [.scheduler, .steering]) (s : State) : s.timeRelease.part π = s.part π := by
  simp only [State.timeRelease]
  split <;> simp (disch := refine outside ?_ h; decide) only [part_ite, setServo_part, bump_part, mapTime_part, tick_part, setTrim_part,
    setI_part, ite_self]

end Sys2Proof.Machine
end

section
/-! PROOFS. What each operation leaves of the parts of the state: the Ethernet ports. -/

namespace Sys2Proof.Machine

variable {π : Part}

theorem updateIp_part (s : State) : s.updateIp.part π = s.part π := by
  simp only [State.updateIp, setF_part]

theorem showHostSide_part (s : State) : s.showHostSide.part π = s.part π := by
  simp only [State.showHostSide, setF_part, setB_part]

theorem setHostSide_part (s : State) (p : Nat) : (s.setHostSide p).part π = s.part π := by
  simp only [State.setHostSide, showHostSide_part, part_reports, part_ite, raiseEvt_part, ite_self]

theorem reacquire_part (h : π ∉ [.scheduler, .steering]) (s : State) : s.reacquire.part π = s.part π := by
  simp (disch := refine outside ?_ h; decide) only [State.reacquire, part_ite, enterAcquire_part, mapTime_part, ite_self]

theorem notice_part (s : State) (p : Nat) : (s.notice p).part π = s.part π := by
  simp only [State.notice, part_reports]

theorem copyDone_part (s : State) (f : CensusFrame) : (s.copyDone f).part π = s.part π := by
  simp only [State.copyDone, setB_part, setF_part]

theorem chainEnd_part (s : State) (f : CensusFrame) : (s.chainEnd f).part π = s.part π := by
  simp only [State.chainEnd, sendFrame_part, copyDone_part, setF_part]

theorem passCensus_part (s : State) (f : CensusFrame) (out : Nat) : (s.passCensus f out).part π = s.part π := by
  simp only [State.passCensus, part_ite, sendFrame_part, part_reports, setF_part, chainEnd_part, ite_self]

theorem releaseCensus_part (s : State) (p : Nat) : (s.releaseCensus p).part π = s.part π := by
  unfold State.releaseCensus
  split <;> simp only [part_ite, passCensus_part, part_reports, ite_self]

theorem takeAddress_part (s : State) (f : CensusFrame) : (s.takeAddress f).1.part π = s.part π := by
  simp only [State.takeAddress]
  split
  · rfl
  · split
    · rfl
    · split <;> simp only [raiseEvt_part, updateIp_part, setF_part, part_reports]

theorem doCensus_part (h : π ∉ [.scheduler, .steering]) (portB : Bool) (frame : CensusFrame) (t : Nat) (s : State) :
    (doCensus portB frame t s).part π = s.part π := by
  simp (disch := refine outside ?_ h; decide) only [doCensus, part_ite, at_part, passCensus_part, takeAddress_part, raiseEvt_part,
    reacquire_part, part_sch, setHostSide_part, ite_self]

theorem doCensusHoldExpiry_part (t : Nat) (s : State) : (doCensusHoldExpiry t s).part π = s.part π := by
  simp only [doCensusHoldExpiry]
  split <;> simp only [part_ite, chainEnd_part, part_reports, at_part, ite_self]

theorem doCensusDone_part (portB : Bool) (frame : CensusFrame) (t : Nat) (s : State) : (doCensusDone portB frame t s).part π = s.part π := by
  simp only [doCensusDone, part_ite, at_part, sendFrame_part, copyDone_part, ite_self]

theorem doReverseCensus_part (portB : Bool) (frame : CensusFrame) (t : Nat) (s : State) : (doReverseCensus portB frame t s).part π =
    s.part π := by
  simp only [doReverseCensus, part_ite, at_part, sendFrame_part, setF_part, raiseEvt_part, ite_self]

theorem doLinkNotice_part (portB : Bool) (t : Nat) (s : State) : (doLinkNotice portB t s).part π = s.part π := by
  simp only [doLinkNotice, part_ite, sendFrame_part, part_reports, at_part, ite_self]

theorem doRingFailover_part (h : π ∉ [.scheduler, .steering]) (t : Nat) (s : State) : (doRingFailover t s).part π = s.part π := by
  simp (disch := refine outside ?_ h; decide) only [doRingFailover, part_ite, sendFrame_part, reacquire_part, setHostSide_part, at_part,
    notice_part, ite_self]

theorem setLatency_part (s : State) (p rate : Nat) : (s.setLatency p rate).part π = s.part π := by
  exact (setF_part ..).trans (setF_part ..)

theorem askDhcp_part (s : State) : s.askDhcp.part π = s.part π := by
  simp only [State.askDhcp, part_ite, emit_part, mapPort_part, ite_self]

theorem linkUp_part (s : State) (p rate : Nat) (chain : Bool) (lanes txPre rxPre : Nat) : (s.linkUp p rate chain lanes txPre rxPre).part π =
    s.part π := by
  simp only [State.linkUp, part_ite, askDhcp_part, releaseCensus_part, raiseEvt_part, notice_part, mapPort_part, setF_part, setLatency_part,
    setB_part, ite_self]

theorem linkLost_part (s : State) (p from_ : Nat) : (s.linkLost p from_).part π = s.part π := by
  simp only [State.linkLost, bump_part, mapPort_part, setF_part]

theorem linkBroken_part (s : State) (p : Nat) : (s.linkBroken p).part π = s.part π := by
  simp only [State.linkBroken, notice_part, raiseEvt_part, mapPort_part, linkLost_part]

theorem ipCommit_part (s old : State) : (s.ipCommit old).part π = s.part π := by
  simp only [State.ipCommit, part_ite, askDhcp_part, ite_self]

theorem portCommit_part (s old : State) (p : Nat) : (s.portCommit old p).part π = s.part π := by
  simp only [State.portCommit, part_ite, linkBroken_part, ite_self, setF_part, mapPort_part]

theorem doModuleReady_part (report : ModuleReport) (t : Nat) (s : State) : (doModuleReady report t s).part π = s.part π := by
  simp only [doModuleReady, part_ite, mapPort_part, at_part, setF_part, ite_self]

theorem trainLanes_part (s : State) (p : Nat) (four : Bool) : (s.trainLanes p four).part π = s.part π := by
  simp only [State.trainLanes, part_ite, raiseEvt_part, setF_part, ite_self]

theorem fallBack_part (h : π ∉ [.calibration]) (s : State) (p : Nat) : (s.fallBack p).part π = s.part π := by
  simp (disch := refine outside ?_ h; decide) only [State.fallBack, poolTrigger_part, trainLanes_part, mapPort_part]

theorem doLinkStageComplete_part (h : π ∉ [.calibration]) (portB lane4 : Bool) (caps : CapsExchange) (t : Nat) (s : State) :
    (doLinkStageComplete portB lane4 caps t s).part π = s.part π := by
  simp (disch := refine outside ?_ h; decide) only [doLinkStageComplete, part_ite, at_part, fallBack_part, linkLost_part, emit_part, linkUp_part,
    trainLanes_part, mapPort_part, ite_self, setF_part]

theorem doLinkStageTimeout_part (portB : Bool) (t : Nat) (s : State) : (doLinkStageTimeout portB t s).part π = s.part π := by
  simp only [doLinkStageTimeout]
  split <;> simp only [part_ite, linkLost_part, at_part, ite_self]

theorem doLinkDown_part (portB : Bool) (t : Nat) (s : State) : (doLinkDown portB t s).part π = s.part π := by
  simp only [doLinkDown, part_ite, linkBroken_part, at_part, ite_self]

theorem doStandardLock_part (portB : Bool) (txPre rxPre t : Nat) (s : State) : (doStandardLock portB txPre rxPre t s).part π = s.part π := by
  simp only [doStandardLock, part_ite, linkUp_part, at_part, ite_self]

theorem doCapabilityFrame_part (portB : Bool) (t : Nat) (s : State) : (doCapabilityFrame portB t s).part π = s.part π := by
  simp only [doCapabilityFrame, part_ite, linkBroken_part, at_part, ite_self]

theorem takeLane_part (h : π ∉ [.calibration]) (s : State) (p : Nat) (tx : Bool) (lane : Nat) : (s.takeLane p tx lane).part π = s.part π := by
  simp (disch := refine outside ?_ h; decide) only [State.takeLane, poolTrigger_part, spareTaken_part, raiseEvt_part, part_ite, setBit_part,
    setF_part, bump_part, ite_self]

theorem wakeDir_part (s : State) (p : Nat) (tx : Bool) : (s.wakeDir p tx).part π = s.part π := by
  simp only [State.wakeDir, part_ite, mapPort_part, setF_part, ite_self]

theorem doLaneSwap_part (h : π ∉ [.calibration]) (portB tx : Bool) (lane : Fin 4) (t : Nat) (s : State) : (doLaneSwap portB tx lane t s).part π =
    s.part π := by
  simp (disch := refine outside ?_ h; decide) only [doLaneSwap, part_ite, takeLane_part, wakeDir_part, at_part, ite_self]

theorem doLaneFailure_part (h : π ∉ [.calibration]) (portB tx : Bool) (lane : Fin 4) (t : Nat) (s : State) :
    (doLaneFailure portB tx lane t s).part π = s.part π := by
  simp (disch := refine outside ?_ h; decide) only [doLaneFailure, part_ite, at_part, takeLane_part, wakeDir_part, fallBack_part,
    linkBroken_part, ite_self]

theorem doSleep_part (portB tx : Bool) (t : Nat) (s : State) : (doSleep portB tx t s).part π = s.part π := by
  simp only [doSleep, part_ite, at_part, setF_part, mapPort_part, ite_self]

theorem doWake_part (portB tx : Bool) (t : Nat) (s : State) : (doWake portB tx t s).part π = s.part π := by
  simp only [doWake, part_ite, at_part, wakeDir_part, mapPort_part, ite_self]

theorem doRefreshBurst_part (portB : Bool) (t : Nat) (s : State) : (doRefreshBurst portB t s).part π = s.part π := by
  simp only [doRefreshBurst, part_ite, wakeDir_part, mapPort_part, at_part, ite_self]

theorem forwardFrame_part (s : State) (out bytes : Nat) : (s.forwardFrame out bytes).part π = s.part π := by
  simp only [State.forwardFrame, part_ite, raiseEvt_part, recErr_part, bump_part, mapPort_part, ite_self]

theorem noteFec_part (s : State) (p corrected uncorrectable : Nat) : (s.noteFec p corrected uncorrectable).part π = s.part π := by
  simp only [State.noteFec, mapPort_part]

theorem doFrameReceive_part (portB : Bool) (frame : EthFrame) (t : Nat) (s : State) : (doFrameReceive portB frame t s).part π = s.part π := by
  simp only [doFrameReceive, part_ite, at_part, bump_part, noteFec_part]
  split
  · rfl
  · split
    · rfl
    · split
      · rfl
      · split <;> simp only [part_ite, noteFec_part, at_part, forwardFrame_part, ite_self, updateIp_part, part_reports]

end Sys2Proof.Machine
end

section
/-! PROOFS. What each operation leaves of the parts of the state: streams, the ledger and LP-DRAM. -/

namespace Sys2Proof.Machine

variable {π : Part}

theorem mapTp_part (s : State) (f : TransportState → TransportState) : (s.mapTp f).part π = s.part π := by
  simp only [State.mapTp, part_reports]

theorem setQueue_part (s : State) (q : Nat) (x : Queue) : (s.setQueue q x).part π = s.part π := by
  simp only [State.setQueue, mapTp_part]

theorem mapQueue_part (s : State) (q : Nat) (f : Queue → Queue) : (s.mapQueue q f).part π = s.part π := by
  unfold State.mapQueue
  split <;> simp only [setQueue_part]

theorem sendControl_part (s : State) (o : Out) : (s.sendControl o).part π = s.part π := by
  simp only [State.sendControl, emit_part, mapPort_part]

theorem countGaps_part (s : State) (l : List Item) : (s.countGaps l).part π = s.part π := by
  simp only [State.countGaps, part_ite, raiseEvt_part, bump_part, ite_self]

theorem putDatagram_part (s : State) (q : Nat) (x : Queue) (first flags : Nat) (l : List Item) : (s.putDatagram q x first flags l).part π =
    s.part π := by
  simp only [State.putDatagram, countGaps_part, tick_part, emit_part, mapTp_part, mapPort_part]

theorem doDatagramSend_part (queue : Fin 16384) (t : Nat) (s : State) : (doDatagramSend queue t s).part π = s.part π := by
  simp only [doDatagramSend]
  split <;> simp only [at_part, part_ite, mapQueue_part, putDatagram_part, ite_self]

theorem resend_part (s : State) (q : Nat) (d : Sent) : (s.resend q d).part π = s.part π := by
  unfold State.resend
  split <;> simp only [part_ite, bump_part, mapQueue_part, putDatagram_part, ite_self]

theorem doRetransmissionTimeout_part (queue : Fin 16384) (t : Nat) (s : State) : (doRetransmissionTimeout queue t s).part π = s.part π := by
  simp only [doRetransmissionTimeout]
  split
  · simp only [at_part]
  · split <;> simp only [part_ite, resend_part, at_part, ite_self]

theorem ackError_part (s : State) (dest : Endpoint) (q qgen reason cum : Nat) (x : Option Queue) : (s.ackError dest q qgen reason cum x).part π =
    s.part π := by
  unfold State.ackError
  split
  · simp only [raiseEvt_part, part_ite, bump_part, ite_self]
    split <;> simp only [setQueue_part, sendControl_part]

theorem confirmSession_part (s : State) (i : Nat) : (s.confirmSession i).part π = s.part π := by
  unfold State.confirmSession
  split <;> simp only [mapTp_part]

theorem renewSession_part (s : State) (i : Nat) : (s.renewSession i).part π = s.part π := by
  unfold State.renewSession
  split <;> simp only [mapTp_part]

theorem renewQueue_part (s : State) (q : Nat) : (s.renewQueue q).part π = s.part π := by
  unfold State.renewQueue
  split <;> simp only [renewSession_part, setQueue_part]

theorem doAck_part (arrival : AckArrival) (t : Nat) (s : State) : (doAck arrival t s).part π = s.part π := by
  unfold doAck
  extract_lets +onlyGivenNames z src datagram
  split
  · exact at_part ..
  · split
    · exact (bump_part ..).trans (at_part ..)
    · extract_lets +onlyGivenNames fl q qgen sess cum current
      split
      · exact (ackError_part ..).trans (at_part ..)
      · extract_lets +onlyGivenNames good
        split
        · exact (ackError_part ..).trans (at_part ..)
        · extract_lets +onlyGivenNames z1
          have h1 : z1.part π = s.part π := (confirmSession_part ..).trans (at_part ..)
          clear_value current
          split
          · exact (ackError_part ..).trans h1
          · split
            · exact (ackError_part ..).trans h1
            · split
              · exact (ackError_part ..).trans h1
              · extract_lets +onlyGivenNames z2 z3
                have h3 : z3.part π = s.part π := by
                  simp only [z3, renewQueue_part, z2, part_ite, setQueue_part, h1, ite_self]
                split
                · split
                  · exact (part_foldl (fun s d => resend_part ..) _ _).trans h3
                  · exact h3
                · exact h3

theorem dropQueue_part (s : State) (q : Nat) : (s.dropQueue q).part π = s.part π := by
  simp only [State.dropQueue, mapTp_part]

theorem doQueueLeaseExpiry_part (queue : Fin 16384) (t : Nat) (s : State) : (doQueueLeaseExpiry queue t s).part π = s.part π := by
  simp only [doQueueLeaseExpiry]
  split <;> simp only [part_ite, raiseEvt_part, dropQueue_part, at_part, ite_self]

theorem doRetentionExpiry_part (cls : Fin 8) (t : Nat) (s : State) : (doRetentionExpiry cls t s).part π = s.part π := by
  simp only [doRetentionExpiry, part_ite, at_part, mapTp_part, ite_self]

theorem recordEntry_part (s : State) (e : LedgerEntry) : (s.recordEntry e).part π = s.part π := by
  simp only [State.recordEntry, mapTp_part]

theorem copyToNor_part (s : State) (n : Nat) : (s.copyToNor n).part π = s.part π := by
  simp only [State.copyToNor, mapTp_part]

theorem endSession_part (h : π ∉ [.staged]) (s : State) (i : Nat) : (s.endSession i).part π = s.part π := by
  simp (disch := refine outside ?_ h; decide) only [State.endSession, part_ite, cancelPending_part, mapTp_part, ite_self]

theorem afterAnswer_part (h : π ∉ [.staged]) (s : State) (e : LedgerEntry) : (s.afterAnswer e).part π = s.part π := by
  simp (disch := refine outside ?_ h; decide) only [State.afterAnswer, part_ite, endSession_part, ite_self]

theorem releaseWithheld_part (h : π ∉ [.staged]) (a : Nat) (s : State) : (State.releaseWithheld a s).part π = s.part π := by
  induction a generalizing s with
  | zero => rfl
  | succ a ih =>
    unfold State.releaseWithheld
    split
    · rfl
    · simp (disch := refine outside ?_ h; decide) only [part_ite, ih, afterAnswer_part, sendControl_part, recordEntry_part, mapTp_part, ite_self]

theorem doLedgerNorCopy_part (h : π ∉ [.staged, .resets]) (n t : Nat) (s : State) : (doLedgerNorCopy n t s).part π = s.part π := by
  simp (disch := first | rfl | (refine outside ?_ h; decide)) only [doLedgerNorCopy, releaseWithheld_part, part_ite, setF_part, part_rst,
    mapTp_part, copyToNor_part, at_part, ite_self]

theorem doLedgerBankFailure_part (h : π ∉ .calibration :: frameParts) (bankB : Bool) (t : Nat) (s : State) :
    (doLedgerBankFailure bankB t s).part π = s.part π := by
  simp (disch := refine outside ?_ h; decide) only [doLedgerBankFailure, part_ite, at_part, enterSafe_part, poolTrigger_part, raiseEvt_part,
    setF_part, ite_self]

theorem setRebuild_part (h : π ∉ [.memory]) (s : State) (a b : Option Rebuild) : (s.setRebuild a b).part π = s.part π := by
  simp (disch := refine outside ?_ h; decide) only [State.setRebuild, part_mem]

theorem setRebuilds_part (h : π ∉ [.memory]) (s : State) (l : List Rebuild) : (s.setRebuilds l).part π = s.part π := by
  simp (disch := refine outside ?_ h; decide) only [State.setRebuilds, setRebuild_part]

theorem showRebuild_part (s : State) : s.showRebuild.part π = s.part π := by
  unfold State.showRebuild
  split <;> simp only [setF_part]

theorem takeSpareChannel_part (h : π ∉ [.memory, .calibration]) (s : State) (source into : Nat) (planned : Bool) :
    (s.takeSpareChannel source into planned).part π = s.part π := by
  simp (disch := refine outside ?_ h; decide) only [State.takeSpareChannel, part_ite, poolTrigger_part, showRebuild_part, setRebuilds_part,
    raiseEvt_part, spareTaken_part, setBit_part, setF_part, bump_part, ite_self]

theorem dropIdleChannel_part (h : π ∉ [.calibration]) (s : State) : s.dropIdleChannel.part π = s.part π := by
  simp (disch := refine outside ?_ h; decide) only [State.dropIdleChannel, part_ite, poolTrigger_part, setF_part, ite_self]

theorem loseStripes_part (s : State) (start n : Nat) : (s.loseStripes start n).part π = s.part π := by
  simp only [State.loseStripes, raiseEvt_part, part_reports, mapTp_part]

theorem spareChannelFails_part (h : π ∉ [.memory, .calibration]) (s : State) (c : Nat) : (s.spareChannelFails c).part π = s.part π := by
  simp only [State.spareChannelFails]
  split
  · split <;> simp (disch := refine outside ?_ h; decide) only [takeSpareChannel_part, showRebuild_part, setBit_part, setRebuilds_part,
      setF_part, raiseEvt_part]
  · simp (disch := refine outside ?_ h; decide) only [dropIdleChannel_part, raiseEvt_part]

theorem doDramChannelFailure_part (h : π ∉ [.memory, .calibration]) (chan : Fin 10) (errors t : Nat) (s : State) :
    (doDramChannelFailure chan errors t s).part π = s.part π := by
  unfold doDramChannelFailure
  extract_lets +onlyGivenNames z c z1 was
  have h1 : z1.part π = s.part π := by simp only [z1, part_ite, bump_part, z, at_part, ite_self]
  split
  · exact h1
  · extract_lets +onlyGivenNames z2 z3
    have h3 : z3.part π = s.part π := by simp only [z3, setBit_part, z2, raiseEvt_part, h1]
    split
    · exact (spareChannelFails_part (outside (by decide) h) ..).trans h3
    · extract_lets +onlyGivenNames copy copied lose
      have hl : lose.part π = s.part π := by
        simp only [lose]
        split
        · simp only [raiseEvt_part, mapTp_part, h3]
        · split
          · simp (disch := refine outside ?_ h; decide) only [standTrigger_part, loseStripes_part, h3]
          · exact h3
      clear_value copy lose
      split
      · simp (disch := refine outside ?_ h; decide) only [showRebuild_part, setRebuilds_part, setBit_part, hl]
      · split
        · simp (disch := refine outside ?_ h; decide) only [poolTrigger_part, raiseEvt_part, part_mem, hl]
        · exact (takeSpareChannel_part (outside (by decide) h) ..).trans hl

theorem doDramRebuildComplete_part (h : π ∉ [.memory, .calibration]) (t : Nat) (s : State) : (doDramRebuildComplete t s).part π = s.part π := by
  simp only [doDramRebuildComplete]
  split <;> simp (disch := refine outside ?_ h; decide) only [at_part, part_ite, raiseEvt_part, showRebuild_part, setRebuild_part,
    recordDue_part, setBit_part, ite_self]

end Sys2Proof.Machine
end

section
/-! PROOFS. What each operation leaves of the parts of the state: control messages. -/

namespace Sys2Proof.Machine

variable {π : Part}

theorem mapSession_part (s : State) (i : Nat) (f : Session → Session) : (s.mapSession i f).part π = s.part π := by
  unfold State.mapSession
  split <;> simp only [mapTp_part]

theorem reject_part (s : State) (dest : Endpoint) (i gen seq op status : Nat) (x : Option Session) :
    (s.reject dest i gen seq op status x).part π = s.part π := by
  unfold State.reject
  split
  · rfl
  · split <;> simp only [sendControl_part]

theorem replay_part (s : State) (src : Endpoint) (x : Session) (i seq op : Nat) (payload : List Byte) :
    (s.replay src x i seq op payload).part π = s.part π := by
  simp only [State.replay, part_ite]
  split
  · rfl
  · split <;> simp only [sendControl_part, part_ite, ite_self]

theorem openAnswer_part (s : State) (src : Endpoint) (nonce : List Byte) (reply : Out) : (s.openAnswer src nonce reply).part π = s.part π := by
  simp only [State.openAnswer, sendControl_part, mapTp_part]

theorem openAs_part (s : State) (src : Endpoint) (nonce : List Byte) (lease slot op i : Nat) : (s.openAs src nonce lease slot op i).part π =
    s.part π := by
  simp only [State.openAs, openAnswer_part, raiseEvt_part, setF_part, mapTp_part, tick_part]

theorem openFrom_part (s : State) (src : Endpoint) (nonce : List Byte) (lease slot op : Nat) : (s.openFrom src nonce lease slot op).part π =
    s.part π := by
  unfold State.openFrom
  split
  · simp only [sendControl_part]
  · dsimp only
    split
    · simp only [openAnswer_part, part_ite, raiseEvt_part, ite_self]
    · split <;> simp only [openAs_part]

theorem receiveOpen_part (s : State) (src : Endpoint) (m : List Byte) : (s.receiveOpen src m).part π = s.part π := by
  simp only [State.receiveOpen, part_ite, sendControl_part, openFrom_part, ite_self]

theorem acceptCommand_part (s : State) (src : Endpoint) (i seq op : Nat) (payload : List Byte) : (s.acceptCommand src i seq op payload).part π =
    s.part π := by
  simp only [State.acceptCommand, mapTp_part]

theorem receiveCommand_part (s : State) (src : Endpoint) (m : List Byte) : (s.receiveCommand src m).part π = s.part π := by
  simp only [State.receiveCommand, part_ite, reject_part, confirmSession_part, ite_self]
  split
  · rfl
  · split <;> simp only [reject_part, part_ite, confirmSession_part, ite_self, bump_part, replay_part, renewSession_part, mapSession_part,
      acceptCommand_part]

theorem receive_part (s : State) (src : Endpoint) (m : List Byte) : (s.receive src m).part π = s.part π := by
  simp only [State.receive, part_ite, receiveOpen_part, receiveCommand_part, ite_self]

theorem bufferMessage_part (s : State) (src : Endpoint) (m : List Byte) : (s.bufferMessage src m).part π = s.part π := by
  simp only [State.bufferMessage, part_ite, raiseEvt_part, recErr_part, bump_part, mapTp_part, ite_self]

theorem takeMessage_part (s : State) (src : Endpoint) (m : List Byte) : (s.takeMessage src m).part π = s.part π := by
  simp only [State.takeMessage, part_ite, bufferMessage_part, receive_part, ite_self]

theorem drainMessages_part (s : State) : s.drainMessages.part π = s.part π := by
  unfold State.drainMessages
  split
  · rfl
  · refine (part_foldl (fun s b => ?_) _ _).trans ?_
    · simp only [takeMessage_part]
    · simp only [mapTp_part]

theorem unaccept_part (s : State) (lost : Accepted → Bool) : (s.unaccept lost).part π = s.part π := by
  simp only [State.unaccept, mapTp_part]

end Sys2Proof.Machine
end

section
/-! PROOFS. What each operation leaves of the parts of the state: calibration and spares. -/

namespace Sys2Proof.Machine

variable {π : Part}

theorem mapCal_part (h : π ∉ [.calibration]) (s : State) (f : CalState → CalState) : (s.mapCal f).part π = s.part π := by
  simp (disch := refine outside ?_ h; decide) only [State.mapCal, part_cal]

theorem calChannel_part (s : State) (c : Nat) : (s.calChannel c).part π = s.part π := by
  simp only [State.calChannel, tick_part, setF_part, setB_part, setI_part]

theorem countValid_part (s : State) : s.countValid.part π = s.part π := by
  simp only [State.countValid, setF_part]

theorem calStop_part (h : π ∉ [.calibration]) (s : State) (st : Nat) : (s.calStop st).part π = s.part π := by
  simp (disch := refine outside ?_ h; decide) only [State.calStop, raiseEvt_part, setF_part, mapCal_part]

theorem calDone_part (h : π ∉ [.calibration]) (s : State) : s.calDone.part π = s.part π := by
  simp (disch := refine outside ?_ h; decide) only [State.calDone, bump_part, calStop_part, tick_part, setI_part, countValid_part]
  refine part_foldl (fun s b => ?_) _ _
  simp only [calChannel_part]

theorem calAbort_part (h : π ∉ [.calibration]) (s : State) : s.calAbort.part π = s.part π := by
  simp (disch := refine outside ?_ h; decide) only [State.calAbort, calStop_part, countValid_part]
  refine part_foldl (fun s b => ?_) _ _
  simp only [setF_part]

theorem doRangeCalibrationEnd_part (h : π ∉ [.calibration]) (t : Nat) (s : State) : (doRangeCalibrationEnd t s).part π = s.part π := by
  simp only [doRangeCalibrationEnd]
  split <;> simp (disch := refine outside ?_ h; decide) only [part_ite, calDone_part, at_part, ite_self]

theorem calBoundary_part (h : π ∉ [.calibration]) (s : State) (changed : Bool) : (s.calBoundary changed).part π = s.part π := by
  simp (disch := refine outside ?_ h; decide) only [State.calBoundary, part_ite, mapCal_part, calAbort_part, ite_self]

theorem switchDiode_part (h : π ∉ [.emitters]) (s : State) (l : Nat) : (s.switchDiode l).part π = s.part π := by
  simp (disch := refine outside ?_ h; decide) only [State.switchDiode, part_ite, part_emt, ite_self]

theorem updateLines_part (h : π ∉ [.emitters, .calibration]) (s : State) : s.updateLines.part π = s.part π := by
  simp only [State.updateLines, part_ite, unstand_part, setSat_part, ite_self]
  refine (part_foldl (fun s b => ?_) _ _).trans ?_
  · simp (disch := refine outside ?_ h; decide) only [poolTrigger_part, raiseEvt_part]
  · simp (disch := refine outside ?_ h; decide) only [part_emt]
    refine part_foldl (fun s b => ?_) _ _
    simp (disch := refine outside ?_ h; decide) only [part_ite, switchDiode_part, ite_self]

theorem chooseDiode_part (s : State) (l : Nat) : (s.chooseDiode l).part π = s.part π := by
  simp only [State.chooseDiode, setBit_part]

theorem trackCreep_part (h : π ∉ [.calibration]) (s : State) (l : Nat) : (s.trackCreep l).part π = s.part π := by
  simp (disch := refine outside ?_ h; decide) only [State.trackCreep, part_ite, setF_part, recordDue_part, mapCal_part]
  split
  · rfl
  · split
    · rfl
    · split <;> simp only [setF_part, part_ite, setSat_part, ite_self, setI_part]

theorem noteWorn_part (h : π ∉ [.calibration]) (s : State) (e : Nat) : (s.noteWorn e).part π = s.part π := by
  simp (disch := refine outside ?_ h; decide) only [State.noteWorn, part_ite, recordDue_part, raiseEvt_part, setF_part, ite_self]

theorem creepBoundary_part (h : π ∉ [.calibration]) (s : State) : s.creepBoundary.part π = s.part π := by
  simp (disch := refine outside ?_ h; decide) only [State.creepBoundary, mapCal_part, part_ite]
  split
  · refine part_foldl (fun s b => ?_) _ _
    simp (disch := refine outside ?_ h; decide) only [noteWorn_part, trackCreep_part]
  · rfl

theorem doDiodeFailure_part (h : π ∉ [.emitters, .timing, .calibration]) (line : Fin 128) (t : Nat) (s : State) :
    (doDiodeFailure line t s).part π = s.part π := by
  simp (disch := refine outside ?_ h; decide) only [doDiodeFailure, part_ite, countReserves_part, switchDiode_part, part_etd, recordDue_part,
    setF_part, at_part, ite_self]

theorem failCore_part (h : π ∉ [.resets, .calibration]) (s : State) (c : Nat) : (s.failCore c).part π = s.part π := by
  unfold State.failCore
  split
  · rfl
  · extract_lets +onlyGivenNames was z spare
    have hz : z.part π = s.part π := by simp only [z, setBit_part]
    clear_value was spare
    split
    · extract_lets +onlyGivenNames _ _ z1
      have h1 : z1.part π = z.part π := by
        cases π with
        | resets => exact absurd (by decide) h
        | _ => rfl
      simp (disch := refine outside ?_ h; decide) only [poolTrigger_part, spareTaken_part, raiseEvt_part, setBit_part, h1, hz]
    · simp (disch := refine outside ?_ h; decide) only [poolTrigger_part, recordDue_part, hz]
    · simp (disch := refine outside ?_ h; decide) only [poolTrigger_part, recordDue_part, hz]

theorem doCoreFailure_part (h : π ∉ [.resets, .calibration]) (core : Fin 5) (t : Nat) (s : State) : (doCoreFailure core t s).part π =
    s.part π := by
  simp (disch := refine outside ?_ h; decide) only [doCoreFailure, failCore_part, at_part]

theorem planTap_part (h : π ∉ [.timing]) (s : State) (n pos : Nat) : (s.planTap n pos).part π = s.part π := by
  simp (disch := refine outside ?_ h; decide) only [State.planTap, part_ite, staysWorn_part, setTapLine_part, ite_self]

theorem planSampler_part (h : π ∉ [.receivers, .histograms, .calibration]) (s : State) (g k : Nat) : (s.planSampler g k).part π = s.part π := by
  simp (disch := refine outside ?_ h; decide) only [State.planSampler, part_ite, failSampler_part, staysWorn_part, part_rxc, ite_self]

theorem planInterpolator_part (h : π ∉ [.timing, .calibration]) (s : State) (n : Nat) : (s.planInterpolator n).part π = s.part π := by
  simp (disch := refine outside ?_ h; decide) only [State.planInterpolator, part_ite, staysWorn_part, failInterpolator_part, ite_self, part_etd]

theorem planTile_part (s : State) (e i : Nat) : (s.planTile e i).part π = s.part π := by
  simp only [State.planTile, part_ite, staysWorn_part, beginDrain_part, ite_self]

theorem planDram_part (h : π ∉ [.memory, .calibration]) (s : State) (c : Nat) : (s.planDram c).part π = s.part π := by
  unfold State.planDram
  split
  · rfl
  · split <;> simp (disch := refine outside ?_ h; decide) only [takeSpareChannel_part, staysWorn_part]

theorem planPhase_part (h : π ∉ [.power]) (s : State) (r : Nat) : (s.planPhase r).part π = s.part π := by
  simp (disch := refine outside ?_ h; decide) only [State.planPhase, part_ite, staysWorn_part, part_pwr, ite_self]

theorem planDiode_part (h : π ∉ [.emitters, .calibration]) (s : State) (e : Nat) : (s.planDiode e).part π = s.part π := by
  simp (disch := refine outside ?_ h; decide) only [State.planDiode, part_ite, switchDiode_part, noteWorn_part, staysWorn_part, ite_self]

theorem noteWear_part (h : π ∉ [.memory]) (s : State) (a : WornPart) : (s.noteWear a).part π = s.part π := by
  unfold State.noteWear
  split <;> simp (disch := refine outside ?_ h; decide) only [part_mem, mapPort_part]

theorem doPlannedSubstitution_part (h : π ∉ [.memory, .power, .emitters, .timing, .receivers, .histograms, .calibration]) (part : WornPart) (t :
    Nat) (s : State) : (doPlannedSubstitution part t s).part π = s.part π := by
  simp (disch := refine outside ?_ h; decide) only [doPlannedSubstitution, part_ite, noteWear_part, at_part]
  split
  · rfl
  · split <;> simp (disch := refine outside ?_ h; decide) only [planTap_part, raiseEvt_part, noteWear_part, at_part, planSampler_part,
      planInterpolator_part, planTile_part, planDram_part, part_ite, takeLane_part, wakeDir_part, staysWorn_part, ite_self, planPhase_part,
      planDiode_part]

theorem doRetirementRecordWrite_part (h : π ∉ [.calibration]) (t : Nat) (s : State) : (doRetirementRecordWrite t s).part π = s.part π := by
  simp (disch := refine outside ?_ h; decide) only [doRetirementRecordWrite, part_ite, setF_part, bump_part, mapCal_part, at_part, ite_self]

theorem fusedMaps_part (s : State) (owned : Nat → Bool) : (s.fusedMaps owned).part π = s.part π := by
  unfold State.fusedMaps
  refine part_foldl (fun s b => ?_) _ _
  simp only [part_ite, poke_part, ite_self]

theorem restoreTaps_part (h : π ∉ [.timing]) (s : State) (d : Nat) : (s.restoreTaps d).part π = s.part π := by
  simp (disch := refine outside ?_ h; decide) only [State.restoreTaps, part_etd]

theorem restorePools_part (s : State) (d : Nat) (lost : Bool) : (s.restorePools d lost).part π = s.part π := by
  simp only [State.restorePools]
  refine (part_foldl (fun s b => ?_) _ _).trans ?_
  · simp only [stand_part]
  · simp only [part_ite, part_reports, ite_self]

theorem applyRecord_part (h : π ∉ [.timing, .calibration]) (s : State) (d : Nat) (copyA copyB : Bool) : (s.applyRecord d copyA copyB).part π =
    s.part π := by
  simp (disch := refine outside ?_ h; decide) only [State.applyRecord, part_ite, restorePools_part, restoreTaps_part, raiseEvt_part, setB_part,
    mapCal_part, recordDue_part, ite_self]
  refine (part_foldl (fun s b => ?_) _ _).trans ?_
  · simp only [part_ite, poke_part, ite_self]
  · simp (disch := refine outside ?_ h; decide) only [part_ite, mapCal_part, fusedMaps_part, ite_self]

theorem doFenceViolation_part (h : π ∉ frameParts) (fence : Fin 7) (core : Fin 5) (addr t : Nat) (s : State) :
    (doFenceViolation fence core addr t s).part π = s.part π := by
  simp (disch := refine outside ?_ h; decide) only [doFenceViolation, part_ite, at_part, enterSafe_part, raiseEvt_part, recErr_part, bump_part,
    setBit_part, setF_part, ite_self]

theorem doWatchdogWarning_part (t : Nat) (s : State) : (doWatchdogWarning t s).part π = s.part π := by
  simp only [doWatchdogWarning, part_ite, raiseEvt_part, at_part, ite_self]

end Sys2Proof.Machine
end

section
/-! PROOFS. What each operation leaves of the parts of the state: power and thermal management. -/

namespace Sys2Proof.Machine

variable {π : Part}

theorem mapPwr_part (h : π ∉ [.power]) (s : State) (f : PowerState → PowerState) : (s.mapPwr f).part π = s.part π := by
  simp (disch := refine outside ?_ h; decide) only [State.mapPwr, part_pwr]

theorem setDom_part (s : State) (d st : Nat) : (s.setDom d st).part π = s.part π := by
  simp only [State.setDom, setF_part]

theorem startDomain_part (h : π ∉ [.power]) (s : State) (d : Nat) : (s.startDomain d).part π = s.part π := by
  simp (disch := refine outside ?_ h; decide) only [State.startDomain, bump_part, setDom_part, mapPwr_part]

theorem sequence_part (h : π ∉ [.power]) (s : State) : s.sequence.part π = s.part π := by
  unfold State.sequence
  split
  · rfl
  · refine part_foldl (fun s b => ?_) _ _
    simp (disch := refine outside ?_ h; decide) only [part_ite, startDomain_part, ite_self]

theorem resetEngine_part (h : π ∉ .banks :: .memory :: .crema :: .calibration :: .converter :: .mounts :: frameParts) (s : State) (d why : Nat) :
    (s.resetEngine d why).part π = s.part π := by
  have hsaf : ∀ x : SafetyState, ({ s with saf := x } : State).part π = s.part π := fun x => part_saf (h := outside (by decide) h) ..
  have hchains : ((List.range 4).foldl (fun s c => s.setChainState c 0) s).part π = s.part π :=
    part_foldl (fun s c => setChainState_part ..) _ _
  delta State.resetEngine
  extract_lets +onlyGivenNames bankAddr coefAddr
  refine part_ite_of (hsaf _) (part_ite_of (hsaf _) (part_ite_of (mapTime_part ..) (part_ite_of (mapCal_part (outside (by decide) h) ..)
    (part_ite_of (part_ite_of rfl (part_mem (h := outside (by decide) h) ..)) (part_ite_of ?ports (part_ite_of ?engine
    (part_ite_of (part_ste (h := outside (by decide) h) ..) (part_ite_of ?converter (part_ite_of (part_crm (h := outside (by decide) h) ..)
    (part_ite_of rfl (part_ite_of (part_grn (h := outside (by decide) h) ..) ?group)))))))))))
  case ports => simp only [part_ite, notice_part, mapPort_part, setF_part, part_reports, ite_self]
  case engine =>
    refine Eq.trans ?_ hchains
    cases π with
    | banks | scheduler | emitters | timing | receivers => exact absurd (by decide) h
    | _ => rfl
  case converter =>
    cases π with
    | banks | converter | mounts => exact absurd (by decide) h
    | _ => rfl
  case group =>
    cases π with
    | timing | receivers => exact absurd (by decide) h
    | _ => rfl

theorem dropDomain_part (h : π ∉ domainParts) (s : State) (d why : Nat) : (s.dropDomain d why).part π = s.part π := by
  simp only [State.dropDomain]
  refine (part_foldl (fun s b => ?_) _ _).trans ?_
  · simp (disch := refine outside ?_ h; decide) only [discardPage_part]
  · simp (disch := refine outside ?_ h; decide) only [part_ite, workingCeilings_part, showNoImage_part, showStaged_part, resetEngine_part,
      mapPwr_part, ite_self]
    split
    · refine (part_foldl (fun s b => ?_) _ _).trans ?_
      · simp only [monitorOff_part]
      · simp (disch := refine outside ?_ h; decide) only [resetEngine_part, mapPwr_part]
    · rfl

theorem stopDomain_part (h : π ∉ domainParts) (s : State) (d : Nat) : (s.stopDomain d).part π = s.part π := by
  unfold State.stopDomain
  split
  · simp (disch := refine outside ?_ h; decide) only [mapPwr_part, setF_part, setDom_part, dropDomain_part]
  · split <;> simp (disch := refine outside ?_ h; decide) only [mapPwr_part, setDom_part, dropDomain_part]

theorem losePower_part (h : π ∉ domainParts) (s : State) (d : Nat) : (s.losePower d).part π = s.part π := by
  simp (disch := refine outside ?_ h; decide) only [State.losePower, mapPwr_part, setDom_part, dropDomain_part]

theorem wantDomain_part (s : State) (d : Nat) : (s.wantDomain d).part π = s.part π := by
  simp only [State.wantDomain, part_ite, raiseEvt_part, setDom_part, ite_self]

theorem updateDomains_part (h : π ∉ domainParts) (s : State) : s.updateDomains.part π = s.part π := by
  simp (disch := refine outside ?_ h; decide) only [State.updateDomains, sequence_part]
  refine part_foldl (fun s b => ?_) _ _
  simp (disch := refine outside ?_ h; decide) only [part_ite, wantDomain_part, stopDomain_part, ite_self]

theorem doDomainStarted_part (h : π ∉ [.power]) (dom : Fin 36) (t : Nat) (s : State) : (doDomainStarted dom t s).part π = s.part π := by
  simp (disch := refine outside ?_ h; decide) only [doDomainStarted, part_ite, sequence_part, mapPwr_part, setDom_part, at_part, ite_self]

theorem doDomainStopped_part (h : π ∉ [.power]) (dom : Fin 36) (t : Nat) (s : State) : (doDomainStopped dom t s).part π = s.part π := by
  simp (disch := refine outside ?_ h; decide) only [doDomainStopped, part_ite, mapPwr_part, setDom_part, at_part, ite_self]

theorem doDomainOffTimeExpiry_part (h : π ∉ [.power]) (dom : Fin 36) (t : Nat) (s : State) : (doDomainOffTimeExpiry dom t s).part π =
    s.part π := by
  simp (disch := refine outside ?_ h; decide) only [doDomainOffTimeExpiry, part_ite, startDomain_part, at_part, ite_self]

theorem setMode_part (s : State) (m : Nat) : (s.setMode m).part π = s.part π := by
  simp only [State.setMode, part_ite, raiseEvt_part, bump_part, setF_part, ite_self]

theorem beginEpisode_part (h : π ∉ [.power]) (s : State) : s.beginEpisode.part π = s.part π := by
  simp (disch := refine outside ?_ h; decide) only [State.beginEpisode, mapPwr_part]

theorem doInputSample_part (h : π ∉ .power :: frameParts) (mv iin vhu t : Nat) (s : State) : (doInputSample mv iin vhu t s).part π =
    s.part π := by
  simp (disch := refine outside ?_ h; decide) only [doInputSample, part_ite, mapPwr_part, setB_part, setSat_part, at_part, enterSafe_part,
    raiseEvt_part, beginEpisode_part, setMode_part, ite_self]

theorem doNormalDwellExpiry_part (h : π ∉ [.power]) (t : Nat) (s : State) : (doNormalDwellExpiry t s).part π = s.part π := by
  simp (disch := refine outside ?_ h; decide) only [doNormalDwellExpiry, part_ite, mapPwr_part, setMode_part, at_part]
  split
  · split <;> simp only [setSat_part, at_part]
  · rfl

theorem doWarnRecoveryExpiry_part (t : Nat) (s : State) : (doWarnRecoveryExpiry t s).part π = s.part π := by
  simp only [doWarnRecoveryExpiry, part_ite, setMode_part, at_part, ite_self]

theorem doInputInRangeExpiry_part (t : Nat) (s : State) : (doInputInRangeExpiry t s).part π = s.part π := by
  simp only [doInputInRangeExpiry, part_ite, clearCause_part, at_part, ite_self]

theorem doLossEntry_part (h : π ∉ domainParts) (t : Nat) (s : State) : (doLossEntry t s).part π = s.part π := by
  simp only [doLossEntry, part_ite, setF_part, at_part]
  split
  · rfl
  · split
    · refine (part_foldl (fun s b => ?_) _ _).trans ?_
      · simp (disch := refine outside ?_ h; decide) only [stopDomain_part]
      · simp (disch := refine outside ?_ h; decide) only [mapPwr_part, enterSafe_part, unaccept_part, mapTp_part, setF_part, raiseEvt_part,
          bump_part, beginEpisode_part, setB_part, setMode_part, at_part]
    · rfl

theorem doLossExit_part (h : π ∉ domainParts) (t : Nat) (s : State) : (doLossExit t s).part π = s.part π := by
  simp (disch := refine outside ?_ h; decide) only [doLossExit, part_ite, updateDomains_part, mapPwr_part, raiseEvt_part, setF_part,
    setMode_part, at_part, ite_self]

theorem unpowered_part (h : π ∉ .resets :: domainParts) (s : State) : s.unpowered.part π = s.part π := by
  have hz : ∀ z : State, ({ z.emptyPending with
      rst := { z.rst with active := none, scan := false }, sys := { z.emptyPending.sys with stay := [] } } : State).part π = z.part π := fun z => by
    cases π with
    | queue | frozen | thermal | fuses | images | keys => rfl
    | _ => exact absurd (by decide) h
  exact (hz _).trans ((mapPwr_part (outside (by decide) h) ..).trans (part_foldl (fun s d => losePower_part (outside (by decide) h) s d) _ _))

theorem doHoldupEnd_part (h : π ∉ .resets :: domainParts) (t : Nat) (s : State) : (doHoldupEnd t s).part π = s.part π := by
  simp (disch := refine outside ?_ h; decide) only [doHoldupEnd, part_ite, unpowered_part, enterState_part, abortFrames_part, cancelPending_part,
    at_part, ite_self]

theorem doAckResume_part (h : π ∉ [.staged]) (t : Nat) (s : State) : (doAckResume t s).part π = s.part π := by
  simp (disch := refine outside ?_ h; decide) only [doAckResume, part_ite, releaseWithheld_part, mapTp_part, setF_part, at_part, ite_self]

theorem doHoldupCheck_part (h : π ∉ [.power]) (energy t : Nat) (s : State) : (doHoldupCheck energy t s).part π = s.part π := by
  simp (disch := refine outside ?_ h; decide) only [doHoldupCheck, part_ite, mapPwr_part, raiseEvt_part, setF_part, setSat_part, at_part,
    ite_self]

theorem doPowerCapUpdate_part (h : π ∉ [.power]) (pin t : Nat) (s : State) : (doPowerCapUpdate pin t s).part π = s.part π := by
  simp (disch := refine outside ?_ h; decide) only [doPowerCapUpdate, part_ite, at_part, setF_part, setSat_part, tick_part, mapPwr_part, ite_self]

theorem doPhaseFailure_part (h : π ∉ .resets :: domainParts) (rail : Fin 8) (t : Nat) (s : State) : (doPhaseFailure rail t s).part π =
    s.part π := by
  simp (disch := refine outside ?_ h; decide) only [doPhaseFailure, part_ite, at_part, losePower_part, recordDue_part, bump_part, setF_part,
    unpowered_part, enterState_part, abortFrames_part, mapPwr_part, poolTrigger_part, raiseEvt_part, ite_self]

theorem doSparePhaseInService_part (h : π ∉ [.power, .calibration]) (rail : Fin 5) (t : Nat) (s : State) :
    (doSparePhaseInService rail t s).part π = s.part π := by
  simp only [doSparePhaseInService]
  split <;> simp (disch := refine outside ?_ h; decide) only [poolTrigger_part, raiseEvt_part, spareTaken_part, setF_part, bump_part,
    setBit_part, part_ite, mapPwr_part, at_part, ite_self]

theorem judgeSensor_part (h : π ∉ [.thermal]) (s : State) (bad valid : Nat → Bool) (i : Nat) : (s.judgeSensor bad valid i).part π = s.part π := by
  simp (disch := refine outside ?_ h; decide) only [State.judgeSensor, part_ite, raiseEvt_part, bump_part, setBit_part, part_thm, ite_self]

theorem heat_part (h : π ∉ .power :: frameParts) (s : State) (hot : Rat) (few : Bool) : (s.heat hot few).part π = s.part π := by
  unfold State.heat
  extract_lets +onlyGivenNames lim span f f' z was z1 z2 z3
  simp (disch := refine outside ?_ h; decide) only [part_ite, clearCause_part, ite_self, z3, enterSafe_part, raiseEvt_part, z2, setI_part, z1,
    setSat_part, mapPwr_part, z]

theorem doThermalSample_part (h : π ∉ .power :: .thermal :: frameParts) (reads : List Int) (t : Nat) (s : State) :
    (doThermalSample reads t s).part π = s.part π := by
  unfold doThermalSample
  extract_lets +onlyGivenNames z
  split
  · exact at_part ..
  · extract_lets +onlyGivenNames pin pf rise valid read case_ pred tol bad _ z1 z2 z3 z4 few z5 z6 temp
    have h3 : z3.part π = s.part π := by
      refine (part_foldl (fun s i => judgeSensor_part (outside (by decide) h) ..) _ _).trans ((part_foldl (fun s i => ?_) _ _).trans ?_)
      · simp only [setI_part]
      · simp (disch := refine outside ?_ h; decide) only [z1, part_thm, z, at_part]
    simp (disch := refine outside ?_ h; decide) only [heat_part, z6, setB_part, z5, part_ite, raiseEvt_part, ite_self, z4, setI_part, h3]

end Sys2Proof.Machine
end

section
/-! PROOFS. What each operation leaves of the parts of the state: resets, fuses and start-up. -/

namespace Sys2Proof.Machine

variable {π : Part}

theorem resetPages_part (h : π ∉ [.frozen]) (s : State) (d why : Nat) : (s.resetPages d why).part π = s.part π := by
  simp (disch := refine outside ?_ h; decide) only [State.resetPages, part_frozen]

theorem applyFuses_part (s : State) (d : Nat) : (s.applyFuses d).part π = s.part π := by
  unfold State.applyFuses
  split
  · simp only [setF_part]
  · simp only [part_ite, setF_part, setCeilings_part, ite_self]
    split
    · rfl
    · split
      · rfl
      · split
        · refine part_foldl (fun s b => ?_) _ _
          simp only [setF_part]
        · rfl

theorem beginLoad_part (h : π ∉ [.resets, .power]) (s : State) : s.beginLoad.part π = s.part π := by
  simp (disch := first | rfl | (refine outside ?_ h; decide)) only [State.beginLoad, mapRst_part, mapPwr_part, setF_part, bump_part, part_ite,
    part_rst, ite_self]

theorem doFuseLoadComplete_part (h : π ∉ .resets :: domainParts) (t : Nat) (s : State) : (doFuseLoadComplete t s).part π = s.part π := by
  simp (disch := refine outside ?_ h; decide) only [doFuseLoadComplete, part_ite, at_part, updateDomains_part, setF_part, applyFuses_part]
  split
  · rfl
  · refine (part_foldl (fun s b => ?_) _ _).trans ?_
    · simp only [raiseEvt_part]
    · simp (disch := first | rfl | (refine outside ?_ h; decide)) only [setF_part, setB_part, mapRst_part, at_part]

theorem enterBoot_part (h : π ∉ [.scheduler]) (s : State) (cause : Nat) (others : List Nat) : (s.enterBoot cause others).part π = s.part π := by
  simp (disch := refine outside ?_ h; decide) only [State.enterBoot, part_ite, enterState_part, ite_self]

/-- What outlasts a wipe of the whole device, `POWER_ON` included. -/
theorem wipe_part (h : π ∉ .frozen :: .thermal :: .resets :: domainParts) (s : State) (power : Bool) : (s.wipe power).part π = s.part π := by
  cases π with
  | queue | fuses | images | keys => rfl
  | _ => exact absurd (by decide) h

theorem wipeToBoot_part (h : π ∉ .frozen :: .thermal :: .resets :: domainParts) (s : State) (power : Bool) (cause : Nat) (others : List Nat) :
    (s.wipeToBoot power cause others).part π = s.part π := by
  simp (disch := refine outside ?_ h; decide) only [State.wipeToBoot, enterBoot_part, poke_part, wipe_part]

theorem holdDomain_part (h : π ∉ domainParts) (s : State) (level d : Nat) : (s.holdDomain level d).part π = s.part π := by
  simp (disch := refine outside ?_ h; decide) only [State.holdDomain, dropDomain_part]

theorem countLevel_part (s : State) (level : Nat) : (s.countLevel level).part π = s.part π := by
  simp only [State.countLevel, bump_part]

theorem takeReset_part (h : π ∉ .frozen :: .resets :: .thermal :: domainParts) (s : State) (level : Nat) : (s.takeReset level).part π =
    s.part π := by
  simp only [State.takeReset]
  split
  · simp (disch := refine outside ?_ h; decide) only [part_ite, emitEvent_part, setF_part, wipeToBoot_part, abortFrames_part, cancelPending_part,
      countLevel_part, ite_self]
  · simp (disch := first | rfl | (refine outside ?_ h; decide)) only [mapRst_part]
    refine (part_foldl (fun s b => ?_) _ _).trans ?_
    · simp (disch := refine outside ?_ h; decide) only [holdDomain_part]
    · simp (disch := refine outside ?_ h; decide) only [mapTp_part, unaccept_part, setF_part, enterBoot_part, part_ite, abortFrames_part,
        cancelPending_part, countLevel_part, ite_self]
  · refine (part_foldl (fun s b => ?_) _ _).trans ?_
    · simp (disch := refine outside ?_ h; decide) only [holdDomain_part]
    · simp (disch := refine outside ?_ h; decide) only [enterSafe_part, part_ite, abortFrames_part, cancelPending_part, countLevel_part, ite_self]
  · simp (disch := refine outside ?_ h; decide) only [enterSafe_part, part_ite, abortFrames_part, cancelPending_part, countLevel_part, ite_self]

theorem doResetEntry_part (h : π ∉ .frozen :: .resets :: .thermal :: domainParts) (t : Nat) (s : State) : (doResetEntry t s).part π =
    s.part π := by
  simp only [doResetEntry]
  split <;> simp (disch := first | rfl | (refine outside ?_ h; decide)) only [at_part, part_ite, mapRst_part, setF_part, wipeToBoot_part,
    ite_self, takeReset_part]

theorem restartLeases_part (s : State) : s.restartLeases.part π = s.part π := by
  simp only [State.restartLeases, mapTp_part]

theorem reportStuck_part (s : State) : s.reportStuck.part π = s.part π := by
  simp only [State.reportStuck, emitEvent_part, setBit_part]

theorem releaseReset_part (h : π ∉ .resets :: domainParts) (s : State) (r : ResetNow) : (s.releaseReset r).part π = s.part π := by
  simp only [State.releaseReset]
  split <;> simp (disch := first | rfl | (refine outside ?_ h; decide)) only [beginLoad_part, part_ite, raiseEvt_part, setF_part,
    reportStuck_part, mapRst_part, ite_self, updateDomains_part, advanceEpoch_part, restartLeases_part, applyFuses_part, clearCause_part,
    drainMessages_part]

theorem escalate_part (h : π ∉ [.resets]) (s : State) (r : ResetNow) : (s.escalate r).part π = s.part π := by
  simp (disch := first | rfl | (refine outside ?_ h; decide)) only [State.escalate, setF_part, mapRst_part]

theorem doResetRelease_part (h : π ∉ .resets :: domainParts) (shadow : Bool) (t : Nat) (s : State) : (doResetRelease shadow t s).part π =
    s.part π := by
  simp only [doResetRelease]
  split <;> simp (disch := refine outside ?_ h; decide) only [at_part, part_ite, escalate_part, releaseReset_part, ite_self]

theorem doPowerOn_part (h : π ∉ [.resets]) (t : Nat) (s : State) : (doPowerOn t s).part π = s.part π := by
  simp (disch := refine outside ?_ h; decide) only [doPowerOn, raiseReset_part, at_part]

theorem doBrownOut_part (h : π ∉ [.resets]) (t : Nat) (s : State) : (doBrownOut t s).part π = s.part π := by
  simp (disch := refine outside ?_ h; decide) only [doBrownOut, raiseReset_part, at_part]

theorem doNrstAssert_part (h : π ∉ [.resets]) (t : Nat) (s : State) : (doNrstAssert t s).part π = s.part π := by
  simp (disch := first | rfl | (refine outside ?_ h; decide)) only [doNrstAssert, part_ite, at_part, raiseReset_part, mapRst_part, ite_self]

theorem showHeld_part (s : State) : s.showHeld.part π = s.part π := by
  unfold State.showHeld
  split <;> simp only [setSat_part]

theorem doNrstRelease_part (h : π ∉ [.resets]) (t : Nat) (s : State) : (doNrstRelease t s).part π = s.part π := by
  simp (disch := first | rfl | (refine outside ?_ h; decide)) only [doNrstRelease, part_ite, at_part, mapRst_part, showHeld_part, ite_self]

theorem doNrstStuck_part (t : Nat) (s : State) : (doNrstStuck t s).part π = s.part π := by
  simp only [doNrstStuck, part_ite, at_part]
  split
  · split <;> simp only [part_ite, raiseEvt_part, setF_part, showHeld_part, at_part, ite_self]
  · rfl

theorem doWatchdogExpiry_part (h : π ∉ [.resets, .calibration]) (wdt : WatchdogEnd) (s : State) : (doWatchdogExpiry wdt s).part π = s.part π := by
  simp (disch := first | rfl | (refine outside ?_ h; decide)) only [doWatchdogExpiry, part_ite, at_part, raiseReset_part, failCore_part,
    mapRst_part, ite_self]

theorem doDebugReset_part (h : π ∉ [.resets]) (scan : Bool) (t : Nat) (s : State) : (doDebugReset scan t s).part π = s.part π := by
  simp (disch := first | rfl | (refine outside ?_ h; decide)) only [doDebugReset, part_ite, at_part, raiseReset_part, mapRst_part, ite_self]

theorem doLockupReset_part (h : π ∉ [.resets]) (bus : Bool) (t : Nat) (s : State) : (doLockupReset bus t s).part π = s.part π := by
  simp (disch := refine outside ?_ h; decide) only [doLockupReset, part_ite, raiseReset_part, recErr_part, at_part, ite_self]

theorem doProvisioningReset_part (h : π ∉ [.resets]) (t : Nat) (s : State) : (doProvisioningReset t s).part π = s.part π := by
  simp only [doProvisioningReset]
  split <;> simp (disch := first | rfl | (refine outside ?_ h; decide)) only [part_ite, mapRst_part, setF_part, at_part, ite_self]

theorem doInputStartThreshold_part (h : π ∉ .frozen :: .resets :: .thermal :: domainParts) (t : Nat) (s : State) :
    (doInputStartThreshold t s).part π = s.part π := by
  simp (disch := first | rfl | (refine outside ?_ h; decide)) only [doInputStartThreshold, part_ite, raiseReset_part, beginLoad_part, setF_part,
    mapRst_part, wipeToBoot_part, at_part, ite_self]

theorem bootStep_part (s : State) : s.bootStep.part π = s.part π := by
  simp only [State.bootStep, part_ite, setF_part, ite_self]

theorem showMonitors_part (s : State) : s.showMonitors.part π = s.part π := by
  unfold State.showMonitors
  refine part_foldl (fun s b => ?_) _ _
  simp only [part_ite, setBit_part, setF_part, setStable_part, ite_self]

theorem takeSizes_part (s : State) : s.takeSizes.part π = s.part π := by
  simp only [State.takeSizes, part_ite, raiseEvt_part, recErr_part, setF_part]
  split
  · rfl
  · refine part_foldl (fun s b => ?_) _ _
    simp only [setF_part]

theorem restoreLedger_part (s : State) : s.restoreLedger.part π = s.part π := by
  simp only [State.restoreLedger, setF_part, setB_part, part_ite, mapTp_part, ite_self]

theorem releaseRecorder_part (s : State) : s.releaseRecorder.part π = s.part π := by
  simp only [State.releaseRecorder, part_ite, part_reports, setB_part, setF_part, ite_self]

theorem showLockout_part (s : State) : s.showLockout.part π = s.part π := by
  simp only [State.showLockout, setB_part, setF_part]

theorem startBlocks_part (h : π ∉ [.scheduler, .steering, .receivers, .calibration, .converter, .mounts]) (s : State) (d : Nat) (cold : Bool) :
    (s.startBlocks d cold).part π = s.part π := by
  unfold State.startBlocks
  split
  · exact showLockout_part ..
  · exact (showMonitors_part ..).trans (timeRelease_part (outside (by decide) h) ..)
  · exact setF_part ..
  · simp (disch := refine outside ?_ h; decide) only [takeSizes_part, part_ite, restoreLedger_part, releaseRecorder_part, ite_self]
  · simp only [showHostSide_part, mapPort_part]
  · simp only [showHostSide_part, mapPort_part]
  · exact (countReserves_part ..).trans (part_foldl (fun s n => chooseDiode_part ..) _ _)
  · exact refOkFromTime_part (outside (by decide) h) ..
  · extract_lets +onlyGivenNames z z1 z2
    have h1 : z1.part π = s.part π := by
      refine (part_foldl (fun s c => ?_) _ _).trans (part_foldl (fun s g => poke_part ..) _ _)
      simp only [part_ite, setBit_part, setF_part, ite_self]
    have h2 : z2.part π = s.part π := (setF_part ..).trans h1
    clear_value z2
    refine Eq.trans ?_ h2
    cases π with
    | converter | mounts => exact absurd (by decide) h
    | _ => rfl
  · simp (disch := refine outside ?_ h; decide) only [part_ite, releaseEngine_part, part_rxc, ite_self]

theorem releaseDomain_part (h :
    π ∉ [.frozen, .resets, .power, .scheduler, .steering, .timing, .receivers, .histograms, .calibration, .converter, .mounts]) (s : State) (d :
    Nat) (copyA copyB : Bool) : (s.releaseDomain d copyA copyB).part π = s.part π := by
  simp (disch := refine outside ?_ h; decide) only [State.releaseDomain, bootStep_part, part_ite, advanceEpoch_part, ite_self]
  refine (part_foldl (fun s b => ?_) _ _).trans ?_
  · simp only [raiseEvt_part]
  · simp (disch := refine outside ?_ h; decide) only [startBlocks_part, part_ite, applyRecord_part, applyFuses_part, ite_self]
    split
    · simp (disch := first | rfl | (refine outside ?_ h; decide)) only [setBit_part, mapRst_part, mapPwr_part]
      split <;> simp (disch := refine outside ?_ h; decide) only [resetPages_part]
    · simp (disch := refine outside ?_ h; decide) only [mapPwr_part]
      split <;> simp (disch := refine outside ?_ h; decide) only [resetPages_part]

theorem doDomainRelease_part (h :
    π ∉ [.frozen, .resets, .power, .scheduler, .steering, .timing, .receivers, .histograms, .calibration, .converter, .mounts]) (dom : Fin 36)
    (copyA copyB : Bool) (t : Nat) (s : State) : (doDomainRelease dom copyA copyB t s).part π = s.part π := by
  simp (disch := refine outside ?_ h; decide) only [doDomainRelease, part_ite, releaseDomain_part, at_part, ite_self]

theorem doReleaseClockTimeout_part (h : π ∉ [.resets]) (dom : Fin 36) (t : Nat) (s : State) : (doReleaseClockTimeout dom t s).part π =
    s.part π := by
  simp only [doReleaseClockTimeout]
  split <;> simp (disch := refine outside ?_ h; decide) only [part_ite, monitorFailed_part, raiseEvt_part, setBit_part, at_part, ite_self]

theorem doReleaseRetry_part (h : π ∉ .resets :: domainParts) (retry : Retry) (t : Nat) (s : State) : (doReleaseRetry retry t s).part π =
    s.part π := by
  simp (disch := first | rfl | (refine outside ?_ h; decide)) only [doReleaseRetry, part_ite, bump_part, mapRst_part, at_part, ite_self]
  split
  · rfl
  · split <;> simp (disch := refine outside ?_ h; decide) only [part_ite, escalate_part, bump_part, at_part, releaseReset_part, ite_self]

theorem doSafetyImageReverify_part (h : π ∉ [.resets, .safety]) (passA passB : Bool) (t : Nat) (s : State) :
    (doSafetyImageReverify passA passB t s).part π = s.part π := by
  simp only [doSafetyImageReverify, part_ite, at_part]
  split
  · rfl
  · split <;> simp (disch := first | rfl | (refine outside ?_ h; decide)) only [newlyActive_part, mapRst_part, at_part, part_ite,
      workingCeilings_part, showNoImage_part, part_saf, ite_self]

theorem doSelfTestComplete_part (h : π ∉ [.resets]) (pass : Bool) (t : Nat) (s : State) : (doSelfTestComplete pass t s).part π = s.part π := by
  simp (disch := first | rfl | (refine outside ?_ h; decide)) only [doSelfTestComplete, part_ite, bootStep_part, mapRst_part, at_part, ite_self]

theorem doImageVerify_part (h : π ∉ [.resets]) (formed0 formed1 : Bool) (t : Nat) (s : State) : (doImageVerify formed0 formed1 t s).part π =
    s.part π := by
  simp only [doImageVerify, part_ite, at_part, bootStep_part]
  split
  · rfl
  · split
    · simp (disch := first | rfl | (refine outside ?_ h; decide)) only [poke_part, setF_part, mapRst_part]
      refine (part_foldl (fun s b => ?_) _ _).trans ?_
      · simp only [setF_part]
      · simp only [at_part]
    · simp (disch := first | rfl | (refine outside ?_ h; decide)) only [mapRst_part]
      refine (part_foldl (fun s b => ?_) _ _).trans ?_
      · simp only [setF_part]
      · simp only [at_part]

theorem enterProvision_part (h : π ∉ [.scheduler]) (s : State) (cause : Nat) (others : List Nat) : (s.enterProvision cause others).part π =
    s.part π := by
  simp (disch := refine outside ?_ h; decide) only [State.enterProvision, enterState_part, setF_part]

theorem lockoutAtBoot_part (h : π ∉ [.resets, .scheduler]) (s : State) (others : List Nat) : (s.lockoutAtBoot others).part π = s.part π := by
  simp (disch := first | rfl | (refine outside ?_ h; decide)) only [State.lockoutAtBoot, recPulse_part, enterState_part, showLockout_part,
    mapRst_part]

theorem leaveBoot_part (h : π ∉ .resets :: frameParts) (s : State) : s.leaveBoot.part π = s.part π := by
  unfold State.leaveBoot
  split <;> simp (disch := refine outside ?_ h; decide) only [enterState_part, part_ite, enterProvision_part, lockoutAtBoot_part, enterSafe_part,
    ite_self]

theorem doBootComplete_part (h : π ∉ .resets :: frameParts) (t : Nat) (s : State) : (doBootComplete t s).part π = s.part π := by
  simp (disch := refine outside ?_ h; decide) only [doBootComplete, part_ite, leaveBoot_part, setSat_part, setF_part, at_part, ite_self]

end Sys2Proof.Machine
end

section
/-! PROOFS. What each operation leaves of the parts of the state: the housekeeping converter. -/

namespace Sys2Proof.Machine

variable {π : Part}

theorem hkaStart_part (h : π ∉ [.converter]) (s : State) (delay : Nat) : (s.hkaStart delay).part π = s.part π := by
  simp (disch := refine outside ?_ h; decide) only [State.hkaStart, part_ite, raiseEvt_part, bump_part, mapHka_part, ite_self]

theorem hkaStartIn_part (h : π ∉ [.converter]) (s : State) (lo hi : Nat) : (s.hkaStartIn lo hi).part π = s.part π := by
  simp (disch := refine outside ?_ h; decide) only [State.hkaStartIn, hkaStart_part, tick_part]

theorem doHkaTrigger_part (h : π ∉ [.converter]) (software : Bool) (t : Nat) (s : State) : (doHkaTrigger software t s).part π = s.part π := by
  simp (disch := refine outside ?_ h; decide) only [doHkaTrigger, part_ite, hkaStart_part, at_part, hkaStartIn_part, ite_self]

theorem hkaBoundary_part (h : π ∉ [.converter]) (s : State) : s.hkaBoundary.part π = s.part π := by
  simp (disch := refine outside ?_ h; decide) only [State.hkaBoundary, part_ite, hkaStartIn_part, ite_self]

theorem doHkaTimerExpiry_part (h : π ∉ [.converter]) (t : Nat) (s : State) : (doHkaTimerExpiry t s).part π = s.part π := by
  simp (disch := refine outside ?_ h; decide) only [doHkaTimerExpiry, part_ite, hkaStart_part, mapHka_part, at_part, ite_self]

theorem doHkaTrgEdge_part (h : π ∉ [.converter]) (rising : Bool) (t : Nat) (s : State) : (doHkaTrgEdge rising t s).part π = s.part π := by
  simp (disch := refine outside ?_ h; decide) only [doHkaTrgEdge, part_ite, hkaStartIn_part, setB_part, at_part, ite_self]

theorem judgeWindow_part (h : π ∉ [.converter]) (s : State) (n e w : Nat) (code : Int) : (s.judgeWindow n e w code).part π = s.part π := by
  simp (disch := refine outside ?_ h; decide) only [State.judgeWindow, part_ite, mapHka_part, setBit_part, setF_part, ite_self, recPulse_part,
    raiseEvt_part]

theorem putResult_part (s : State) (valid ovr value : Field) (v : Nat) : (s.putResult valid ovr value v).part π = s.part π := by
  simp only [State.putResult, part_ite, raiseEvt_part, bump_part, setB_part, setF_part, ite_self]

theorem deliver_part (s : State) (n e : Nat) (dest : Bool) (v : Nat) : (s.deliver n e dest v).part π = s.part π := by
  simp only [State.deliver, part_ite, setF_part, putResult_part, ite_self]

theorem hkaClose_part (h : π ∉ [.converter]) (s : State) : s.hkaClose.part π = s.part π := by
  unfold State.hkaClose
  split <;> simp (disch := refine outside ?_ h; decide) only [commitRecord_part, mapHka_part]

theorem hkaRecord_part (h : π ∉ [.converter]) (s : State) (n v flags : Nat) (at2 : Int) (seqStart tai : Nat) :
    (s.hkaRecord n v flags at2 seqStart tai).part π = s.part π := by
  simp (disch := refine outside ?_ h; decide) only [State.hkaRecord, part_ite, hkaClose_part, mapHka_part, ite_self]

theorem hkaFinish_part (h : π ∉ [.converter]) (s : State) (n e w raw : Nat) (dest stream galvo first : Bool) (at2 : Int) (seqStart tai : Nat) :
    (s.hkaFinish n e w raw dest stream galvo first at2 seqStart tai).part π = s.part π := by
  simp (disch := refine outside ?_ h; decide) only [State.hkaFinish, part_ite, hkaRecord_part, deliver_part, judgeWindow_part, mapHka_part,
    ite_self]

theorem hkaNext_part (h : π ∉ [.converter]) (s : State) (raw : Nat) : (s.hkaNext raw).part π = s.part π := by
  unfold State.hkaNext
  split <;> simp (disch := refine outside ?_ h; decide) only [part_ite, raiseEvt_part, bump_part, hkaFinish_part, mapHka_part, ite_self]

theorem hkaGalvo_part (h : π ∉ .converter :: frameParts) (s : State) (raw : Nat) : (s.hkaGalvo raw).part π = s.part π := by
  unfold State.hkaGalvo
  split <;> simp (disch := refine outside ?_ h; decide) only [part_ite, judgeIlk_part, hkaFinish_part, mapHka_part, ite_self]

theorem doHkaConversion_part (h : π ∉ .converter :: frameParts) (galvo : Bool) (raw t : Nat) (s : State) :
    (doHkaConversion galvo raw t s).part π = s.part π := by
  simp (disch := refine outside ?_ h; decide) only [doHkaConversion, part_ite, at_part, hkaGalvo_part, hkaNext_part, ite_self]

theorem doHkaRecordClose_part (h : π ∉ [.converter]) (t : Nat) (s : State) : (doHkaRecordClose t s).part π = s.part π := by
  simp only [doHkaRecordClose]
  split <;> simp (disch := refine outside ?_ h; decide) only [part_ite, hkaClose_part, at_part, ite_self]

theorem doHkaCalibrationComplete_part (h : π ∉ [.converter]) (factors : List (Int × Nat)) (t : Nat) (s : State) :
    (doHkaCalibrationComplete factors t s).part π = s.part π := by
  simp only [doHkaCalibrationComplete]
  split
  · simp (disch := refine outside ?_ h; decide) only [part_ite, at_part, raiseEvt_part, setF_part, recErr_part, mapHka_part]
    split
    · rfl
    · split
      · refine (part_foldl (fun s b => ?_) _ _).trans ?_
        · simp only [setF_part, setI_part]
        · simp (disch := refine outside ?_ h; decide) only [setF_part, mapHka_part, at_part]
      · rfl
  · simp only [at_part]

end Sys2Proof.Machine
end

section
/-! PROOFS. What each operation leaves of the parts of the state: mount sensing. -/

namespace Sys2Proof.Machine

variable {π : Part}

theorem mapExc_part (h : π ∉ [.mounts]) (s : State) (f : ExcState → ExcState) : (s.mapExc f).part π = s.part π := by
  simp (disch := refine outside ?_ h; decide) only [State.mapExc, part_exc]

theorem feedChannel_part (h : π ∉ [.mounts]) (s : State) (c : Nat) (xs : List LandSample) : (s.feedChannel c xs).part π = s.part π := by
  simp (disch := refine outside ?_ h; decide) only [State.feedChannel, mapExc_part]

theorem setChFlag_part (s : State) (c k : Nat) (b : Bool) : (s.setChFlag c k b).part π = s.part π := by
  simp only [State.setChFlag, setBit_part]

theorem unsettle_part (h : π ∉ [.mounts]) (s : State) (c from_ : Nat) : (s.unsettle c from_).part π = s.part π := by
  simp (disch := refine outside ?_ h; decide) only [State.unsettle, mapExc_part, setChFlag_part, setF_part]

theorem excCommit_part (h : π ∉ [.mounts]) (s old : State) : (s.excCommit old).part π = s.part π := by
  unfold State.excCommit
  refine part_foldl (fun s b => ?_) _ _
  simp (disch := refine outside ?_ h; decide) only [part_ite, unsettle_part, ite_self]

theorem dflUpdate_part (h : π ∉ [.mounts]) (s : State) : s.dflUpdate.part π = s.part π := by
  unfold State.dflUpdate
  split
  · simp (disch := refine outside ?_ h; decide) only [part_ite, setF_part, mapExc_part, raiseEvt_part, ite_self]
    split
    · rfl
    · split
      · rfl
      · refine (part_foldl (fun s b => ?_) _ _).trans ?_
        · simp (disch := refine outside ?_ h; decide) only [part_ite, unsettle_part, ite_self]
        · simp (disch := refine outside ?_ h; decide) only [raiseEvt_part, mapExc_part, part_ite, setF_part, ite_self]

theorem clearOvr_part (s : State) (c : Nat) : (s.clearOvr c).part π = s.part π := by
  simp only [State.clearOvr, part_ite, raiseEvt_part, setChFlag_part, ite_self]

theorem tripOvr_part (h : π ∉ [.mounts]) (s : State) (c : Nat) : (s.tripOvr c).part π = s.part π := by
  simp (disch := refine outside ?_ h; decide) only [State.tripOvr, part_ite, mapExc_part, raiseEvt_part, setChFlag_part, ite_self]

theorem doOverRange_part (h : π ∉ [.mounts]) (ch : Fin 12) (t : Nat) (s : State) : (doOverRange ch t s).part π = s.part π := by
  simp (disch := refine outside ?_ h; decide) only [doOverRange, part_ite, at_part, tripOvr_part, ite_self]

theorem doExcitationOpen_part (h : π ∉ [.mounts]) (ch : Fin 12) (t : Nat) (s : State) : (doExcitationOpen ch t s).part π = s.part π := by
  simp (disch := refine outside ?_ h; decide) only [doExcitationOpen, part_ite, at_part, mapExc_part, raiseEvt_part, setChFlag_part, ite_self]

theorem clearFaults_part (h : π ∉ [.mounts]) (s : State) (c : Nat) : (s.clearFaults c).part π = s.part π := by
  simp (disch := refine outside ?_ h; decide) only [State.clearFaults, part_ite, clearOvr_part, unsettle_part, raiseEvt_part, setChFlag_part,
    ite_self]

theorem judgeCheck_part (h : π ∉ [.mounts]) (s : State) (c mag : Nat) : (s.judgeCheck c mag).part π = s.part π := by
  simp (disch := refine outside ?_ h; decide) only [State.judgeCheck, part_ite, mapExc_part, raiseEvt_part, bump_part, setChFlag_part, ite_self,
    clearFaults_part]

theorem doImpedanceCheck_part (h : π ∉ [.mounts]) (ch : Fin 12) (mag : Nat) (phase : Int) (t : Nat) (s : State) :
    (doImpedanceCheck ch mag phase t s).part π = s.part π := by
  simp (disch := refine outside ?_ h; decide) only [doImpedanceCheck, part_ite, at_part, emit_part, judgeCheck_part, setI_part, setF_part,
    ite_self]

theorem result_part (h : π ∉ [.mounts]) (s : State) (c : Nat) (raw : Int) (trip : Bool) : (s.result c raw trip).part π = s.part π := by
  simp (disch := refine outside ?_ h; decide) only [State.result, part_ite, mapExc_part, setI_part, setB_part, bump_part, tick_part,
    setChFlag_part, setF_part, clearOvr_part, ite_self]

theorem calStep_part (h : π ∉ [.mounts]) (s : State) (c : Nat) (raw : Int) : (s.calStep c raw).part π = s.part π := by
  unfold State.calStep
  split <;> simp (disch := refine outside ?_ h; decide) only [part_ite, mapExc_part, ite_self, setF_part]

theorem calEnd_part (h : π ∉ [.mounts]) (s : State) (ok : Bool) : (s.calEnd ok).part π = s.part π := by
  simp (disch := refine outside ?_ h; decide) only [State.calEnd, part_ite, raiseEvt_part, setF_part, tick_part, mapExc_part, recErr_part,
    ite_self]

theorem doSystemCalibrationEnd_part (h : π ∉ [.mounts]) (t : Nat) (s : State) : (doSystemCalibrationEnd t s).part π = s.part π := by
  simp only [doSystemCalibrationEnd]
  split <;> simp (disch := refine outside ?_ h; decide) only [at_part, part_ite, calEnd_part, ite_self, mapExc_part, setI_part, setSat_part]

theorem mountTriple_part (h : π ∉ [.crema, .mounts]) (s : State) (time : Nat) : (s.mountTriple time).part π = s.part π := by
  simp (disch := refine outside ?_ h; decide) only [State.mountTriple, part_ite, setF_part, bump_part, mapExc_part, ite_self, setI_part, part_crm]

theorem dflRecord_part (s : State) (tai : Nat) : (s.dflRecord tai).part π = s.part π := by
  simp only [State.dflRecord, part_ite, commitRecord_part, ite_self]

theorem channelSet_part (h : π ∉ [.mounts]) (s : State) (raws : List (List LandSample)) (trips : List Nat) (c : Nat) :
    (s.channelSet raws trips c).part π = s.part π := by
  simp (disch := refine outside ?_ h; decide) only [State.channelSet, part_ite, calStep_part, result_part, tick_part, feedChannel_part,
    tripOvr_part, ite_self]

theorem doDflOutputSet_part (h : π ∉ [.crema, .mounts]) (raws : List (List LandSample)) (tripped t : Nat) (s : State) :
    (doDflOutputSet raws tripped t s).part π = s.part π := by
  simp (disch := refine outside ?_ h; decide) only [doDflOutputSet, part_ite, at_part, dflRecord_part, mountTriple_part, mapExc_part]
  split
  · rfl
  · refine (part_foldl (fun s b => ?_) _ _).trans ?_
    · simp (disch := refine outside ?_ h; decide) only [channelSet_part]
    · simp (disch := refine outside ?_ h; decide) only [setF_part, dflUpdate_part, at_part]

end Sys2Proof.Machine
end

section
/-! PROOFS. What each operation leaves of the parts of the state: the event recorder. -/

namespace Sys2Proof.Machine

variable {π : Part}

theorem mapRec_part (s : State) (f : RecState → RecState) : (s.mapRec f).part π = s.part π := by
  simp only [State.mapRec, part_reports]

theorem writeEntry_part (s : State) (e : RecEntry) : (s.writeEntry e).part π = s.part π := by
  simp only [State.writeEntry, setSat_part, mapRec_part]

theorem doRecorderEntry_part (excess : Bool) (t : Nat) (s : State) : (doRecorderEntry excess t s).part π = s.part π := by
  simp only [doRecorderEntry]
  split <;> simp only [at_part, part_ite, mapRec_part, raiseEvt_part, setF_part, bump_part, writeEntry_part, ite_self]

theorem recDone_part (s : State) : s.recDone.part π = s.part π := by
  simp only [State.recDone, raiseEvt_part, setF_part, mapRec_part]

theorem doPostComplete_part (t : Nat) (s : State) : (doPostComplete t s).part π = s.part π := by
  simp only [doPostComplete, part_ite, recDone_part, at_part, ite_self]

theorem recArm_part (s : State) : s.recArm.part π = s.part π := by
  simp only [State.recArm, setF_part]
  refine (part_foldl (fun s b => ?_) _ _).trans ?_
  · simp only [setF_part]
  · simp only [mapRec_part]

theorem recDisarm_part (s : State) : s.recDisarm.part π = s.part π := by
  simp only [State.recDisarm, part_ite, recDone_part, ite_self]

theorem recReadout_part (s : State) : s.recReadout.part π = s.part π := by
  simp only [State.recReadout, setF_part, mapRec_part]

theorem readOut_part (a : Nat) (s : State) : (State.readOut a s).part π = s.part π := by
  induction a generalizing s with
  | zero => rfl
  | succ a ih =>
    unfold State.readOut
    simp only [part_ite, ih, mapRec_part, commitRecord_part, ite_self]

theorem doReadoutComplete_part (t : Nat) (s : State) : (doReadoutComplete t s).part π = s.part π := by
  simp only [doReadoutComplete, part_ite, at_part, raiseEvt_part, setF_part, readOut_part, ite_self]

theorem doSequencerTransition_part (t : Nat) (s : State) : (doSequencerTransition t s).part π = s.part π := by
  simp only [doSequencerTransition, part_ite, seqStep_part, at_part, ite_self]

theorem doSequencerTimerExpiry_part (timer : Fin 4) (t : Nat) (s : State) : (doSequencerTimerExpiry timer t s).part π = s.part π := by
  simp only [doSequencerTimerExpiry]
  split <;> simp only [part_ite, mapRec_part, at_part, ite_self]

theorem doTrigIoEdge_part (rising : Bool) (t : Nat) (s : State) : (doTrigIoEdge rising t s).part π = s.part π := by
  simp only [doTrigIoEdge, part_ite, recPulse_part, setB_part, at_part, ite_self]

theorem forwardTrigger_part (s : State) (out : Nat) (x : ChainTrigger) (add : Nat) : (s.forwardTrigger out x add).part π = s.part π := by
  simp only [State.forwardTrigger, sendFrame_part]

theorem doChainTriggerAccept_part (portB : Bool) (trigger : ChainTrigger) (linkDelay residence t : Nat) (s : State) :
    (doChainTriggerAccept portB trigger linkDelay residence t s).part π = s.part π := by
  simp only [doChainTriggerAccept, part_ite, at_part, forwardTrigger_part, recPulse_part, raiseEvt_part, setF_part, mapRec_part, ite_self]

end Sys2Proof.Machine
end

section
/-! PROOFS. What each operation leaves of the parts of the state: Barista. -/

namespace Sys2Proof.Machine

variable {π : Part}

theorem mapSch_part (h : π ∉ [.scheduler]) (s : State) (f : SchedState → SchedState) : (s.mapSch f).part π = s.part π := by
  simp (disch := refine outside ?_ h; decide) only [State.mapSch, part_sch]

theorem coolAll_part (h : π ∉ [.scheduler]) (s : State) (slots : Nat) : (s.coolAll slots).part π = s.part π := by
  simp (disch := refine outside ?_ h; decide) only [State.coolAll, mapSch_part]

theorem plan_part (h : π ∉ [.scheduler]) (s : State) (f : FrameInfo) (p i : Nat) (x : Nat × Nat) : (s.plan f p i x).part π = s.part π := by
  simp (disch := refine outside ?_ h; decide) only [State.plan, part_ite, mapSch_part, mapFrame_part, ite_self]

theorem reach_part (h : π ∉ [.scheduler, .steering]) (pos : Int) (a : Nat) (s : State) : (State.reach pos a s).part π = s.part π := by
  induction a generalizing s with
  | zero => rfl
  | succ a ih =>
    unfold State.reach
    split
    · extract_lets +onlyGivenNames n
      refine part_ite_of rfl ?_
      extract_lets +onlyGivenNames e
      refine part_ite_of (part_ite_of ?step rfl) (part_ite_of ?pass rfl)
      case step =>
        extract_lets +onlyGivenNames i z
        have hz : z.part π = s.part π := part_ite_of (part_foldl (fun s x => plan_part (outside (by decide) h) ..) _ _) rfl
        simp (disch := refine outside ?_ h; decide) only [ih, mapSch_part, hz]
      case pass => simp (disch := refine outside ?_ h; decide) only [ih, setTilt_part, mapSch_part]
    · rfl

theorem admitAll_part (h : π ∉ [.scheduler]) (s : State) (r : Ready) (ls : List (Nat × Nat)) : (s.admitAll r ls).1.part π = s.part π := by
  simp only [State.admitAll]
  split <;> simp (disch := refine outside ?_ h; decide) only [mapSch_part]

theorem throttle_part (h : π ∉ [.scheduler]) (s : State) : s.throttle.part π = s.part π := by
  simp (disch := refine outside ?_ h; decide) only [State.throttle, part_ite, raiseEvt_part, mapSch_part, ite_self]

theorem checks_part (h : π ∉ [.scheduler]) (s : State) (f : FrameInfo) (pos : Int) (r : Ready) : (s.checks f pos r).1.part π = s.part π := by
  have ha : (s.admitAll r (s.members (s.readyEntry r))).1.part π = s.part π := admitAll_part (outside (by decide) h) ..
  unfold State.checks
  extract_lets +onlyGivenNames g ls
  simp only [apply_ite Prod.fst, part_ite, raiseEvt_part, ls, g, ha, ite_self]

theorem startGroup_part (h : π ∉ [.scheduler, .histograms]) (s : State) (f : FrameInfo) (r : Ready) : (s.startGroup f r).part π = s.part π := by
  simp only [State.startGroup]
  refine (part_foldl (fun s b => ?_) _ _).trans ?_
  · simp (disch := refine outside ?_ h; decide) only [openLine_part]
  · simp (disch := refine outside ?_ h; decide) only [mapSch_part, mapFrame_part]
    split <;> simp (disch := refine outside ?_ h; decide) only [part_ite, except_part, ite_self]

theorem p0Fails_part (h : π ∉ frameParts) (s : State) (exempt : Bool) (fail : Option Nat) : (s.p0Fails exempt fail).part π = s.part π := by
  simp (disch := refine outside ?_ h; decide) only [State.p0Fails, part_ite, enterSafe_part, ite_self]

theorem readySlack_part (h : π ∉ frameParts) (s : State) (f : FrameInfo) (r : Ready) : (s.readySlack f r).part π = s.part π := by
  simp (disch := refine outside ?_ h; decide) only [State.readySlack, part_ite, p0Fails_part, raiseEvt_part, mapSch_part, ite_self]

theorem owedSlack_part (h : π ∉ frameParts) (s : State) (o : OwedP0) : (s.owedSlack o).part π = s.part π := by
  simp (disch := refine outside ?_ h; decide) only [State.owedSlack, p0Fails_part, raiseEvt_part, mapSch_part]

theorem slackOver_part (h : π ∉ frameParts) (s : State) : s.slackOver.part π = s.part π := by
  simp only [State.slackOver]
  split
  · refine (part_foldl (fun s b => ?_) _ _).trans ?_
    · simp (disch := refine outside ?_ h; decide) only [readySlack_part]
    · refine part_foldl (fun s b => ?_) _ _
      simp (disch := refine outside ?_ h; decide) only [owedSlack_part]
  · refine part_foldl (fun s b => ?_) _ _
    simp (disch := refine outside ?_ h; decide) only [owedSlack_part]

theorem skipP0_part (h : π ∉ frameParts) (s : State) (f : FrameInfo) (r : Ready) (due : Nat) : (s.skipP0 f r due).part π = s.part π := by
  simp (disch := refine outside ?_ h; decide) only [State.skipP0, part_ite, mapSch_part, p0Fails_part, ite_self]

theorem arbitrate_part (h : π ∉ [.scheduler, .histograms]) (f : FrameInfo) (pos : Int) (a : List Ready) (s : State) :
    (State.arbitrate f pos a s).part π = s.part π := by
  induction a generalizing s with
  | nil => rfl
  | cons r rest ih =>
    have hc : (s.checks f pos r).1.part π = s.part π := checks_part (outside (by decide) h) ..
    unfold State.arbitrate
    split
    · split
      all_goals rename_i heq; rw [heq] at hc
      · exact (startGroup_part (outside (by decide) h) ..).trans hc
      · simp (disch := refine outside ?_ h; decide) only [ih, mapSch_part, hc]
    · exact ih s

theorem skipLeft_part (h : π ∉ frameParts) (s : State) (f : FrameInfo) (pos : Int) : (s.skipLeft f pos).part π = s.part π := by
  simp only [State.skipLeft]
  refine (part_foldl (fun s b => ?_) _ _).trans ?_
  · simp (disch := refine outside ?_ h; decide) only [skipP0_part]
  · simp (disch := refine outside ?_ h; decide) only [mapSch_part]
    refine part_foldl (fun s b => ?_) _ _
    simp (disch := refine outside ?_ h; decide) only [except_part]

theorem forgetOld_part (h : π ∉ [.scheduler, .receivers]) (s : State) : s.forgetOld.part π = s.part π := by
  simp (disch := refine outside ?_ h; decide) only [State.forgetOld, mapSch_part, markDark_part]

theorem trackSlot_part (h : π ∉ [.scheduler]) (s : State) : s.trackSlot.part π = s.part π := by
  simp (disch := refine outside ?_ h; decide) only [State.trackSlot, mapSch_part]

theorem doBaristaSlot_part (h : π ∉ .calibration :: frameParts) (t : Nat) (s : State) : (doBaristaSlot t s).part π = s.part π := by
  simp (disch := refine outside ?_ h; decide) only [doBaristaSlot, part_ite, at_part, injectHits_part, injectEdges_part, trackSlot_part,
    latchEnded_part, throttle_part, forgetOld_part, mapSch_part, coolAll_part]
  split
  · rfl
  · split
    · rfl
    · split
      · simp (disch := refine outside ?_ h; decide) only [injectHits_part, injectEdges_part, trackSlot_part, latchEnded_part, throttle_part,
          forgetOld_part, mapSch_part, coolAll_part, at_part]
      · split <;> simp (disch := refine outside ?_ h; decide) only [reach_part, injectHits_part, injectEdges_part, trackSlot_part,
          latchEnded_part, throttle_part, forgetOld_part, mapSch_part, coolAll_part, at_part, part_ite, arbitrate_part, skipLeft_part,
          slackOver_part, ite_self]

theorem doP0SlackExpiry_part (h : π ∉ frameParts) (pass step pos t : Nat) (s : State) : (doP0SlackExpiry pass step pos t s).part π =
    s.part π := by
  simp only [doP0SlackExpiry]
  split <;> simp (disch := refine outside ?_ h; decide) only [owedSlack_part, at_part, part_ite, readySlack_part, ite_self]

end Sys2Proof.Machine
end

section
/-! PROOFS. What each operation leaves of the parts of the state: frame boundaries and commits. -/

namespace Sys2Proof.Machine

variable {π : Part}

theorem setProgram_part (s : State) : s.setProgram.part π = s.part π := by
  simp only [State.setProgram, setSat_part, setF_part]

theorem chainsCommit_part (h : π ∉ [.emitters]) (s old : State) : (s.chainsCommit old).part π = s.part π := by
  unfold State.chainsCommit
  refine part_foldl (fun s b => ?_) _ _
  simp (disch := refine outside ?_ h; decide) only [part_ite, setChainState_part, setChain_part, ite_self]

theorem steeringCommit_part (h : π ∉ [.scheduler, .steering]) (s old : State) : (s.steeringCommit old).part π = s.part π := by
  simp (disch := refine outside ?_ h; decide) only [State.steeringCommit, part_ite, rebaseEdges_part, part_ste, refOkFromTime_part,
    raiseEvt_part, setF_part, ite_self]

theorem takeUp_part (h : π ∉ domainParts) (s old : State) : (s.takeUp old).part π = s.part π := by
  unfold State.takeUp
  refine (updateValid_part (outside (by decide) h) _).trans ((excCommit_part (outside (by decide) h) _ old).trans ?_)
  refine (part_else (activateImage_part (outside (by decide) h) _)).trans ((part_then (updateDomains_part (outside (by decide) h) _)).trans ?_)
  refine (ipCommit_part _ old).trans ((portCommit_part _ old 1).trans ((portCommit_part _ old 0).trans ?_))
  refine (part_then (updateIp_part _)).trans ((part_then (showDeflection_part _)).trans ?_)
  refine (part_then (timeCommit_part (outside (by decide) h) _)).trans ((part_then (countReserves_part _)).trans ?_)
  refine (part_then (mapHka_part (outside (by decide) h) ..)).trans ?_
  refine (part_then (part_rxc (h := outside (by decide) h) ..)).trans ?_
  refine (part_rxc (h := outside (by decide) h) ..).trans ?_
  refine (steeringCommit_part (outside (by decide) h) _ old).trans ((chainsCommit_part (outside (by decide) h) _ old).trans ?_)
  exact (part_else (raiseEvt_part _ 8 0)).trans (part_then (setProgram_part ..))

theorem commitNow_part (h : π ∉ domainParts) (s : State) (f : Nat) : (s.commitNow f).part π = s.part π := by
  simp (disch := refine outside ?_ h; decide) only [State.commitNow, takeUp_part, applyCommit_part, part_ite, calAbort_part, hkaClose_part,
    closeSteering_part, ite_self]

theorem doCommitApply_part (h : π ∉ domainParts) (t : Nat) (s : State) : (doCommitApply t s).part π = s.part π := by
  simp only [doCommitApply]
  split <;> simp (disch := refine outside ?_ h; decide) only [part_ite, at_part, commitNow_part, ite_self]

theorem endFrame_part (h : π ∉ frameParts) (s : State) : s.endFrame.part π = s.part π := by
  unfold State.endFrame
  split
  · rfl
  · dsimp only
    refine (part_foldl (fun s b => ?_) _ _).trans ?_
    · simp (disch := refine outside ?_ h; decide) only [skipP0_part]
    · simp (disch := refine outside ?_ h; decide) only [part_ite, part_saf, closeFrame_part, setF_part, mapSch_part, ite_self]
      refine part_foldl (fun s b => ?_) _ _
      simp (disch := refine outside ?_ h; decide) only [except_part]

theorem cutTrains_part (h : π ∉ [.scheduler, .timing, .receivers]) (s : State) : s.cutTrains.part π = s.part π := by
  simp (disch := refine outside ?_ h; decide) only [State.cutTrains, mapSch_part, markDark_part]
  refine part_foldl (fun s b => ?_) _ _
  simp (disch := refine outside ?_ h; decide) only [pulseResult_part]

theorem stopFrames_part (h : π ∉ [.scheduler, .steering, .emitters, .timing, .receivers, .safety]) (s : State) (others : List Nat) :
    (s.stopFrames others).part π = s.part π := by
  simp (disch := refine outside ?_ h; decide) only [State.stopFrames, enterState_part, part_rxc, stopSteering_part, outputsOff_part,
    zeroLoads_part, cutTrains_part]

theorem showBudget_part (s : State) : s.showBudget.part π = s.part π := by
  simp only [State.showBudget, part_ite, setF_part, ite_self]

theorem toDegraded_part (h : π ∉ [.scheduler]) (s : State) : s.toDegraded.part π = s.part π := by
  unfold State.toDegraded
  split <;> simp (disch := refine outside ?_ h; decide) only [enterState_part, showBudget_part]

theorem nextState_part (h : π ∉ [.scheduler, .safety]) (s : State) : s.nextState.part π = s.part π := by
  unfold State.nextState
  split <;> simp (disch := refine outside ?_ h; decide) only [part_ite, toDegraded_part, armRestart_part, enterState_part, ite_self, setF_part,
    showBudget_part]

theorem beginFrame_part (h : π ∉ [.scheduler, .steering, .timing, .receivers, .histograms, .converter]) (s : State) (f : Nat) (prev :
    Option FrameInfo) (trans : Bool) : (s.beginFrame f prev trans).part π = s.part π := by
  simp (disch := refine outside ?_ h; decide) only [State.beginFrame, recPulse_part, hkaBoundary_part, part_ite, raiseEvt_part, setTilt_part,
    part_ste, mapSch_part, dropCounts_part, ite_self]

theorem latchLoads_part (h : π ∉ [.emitters, .calibration]) (s : State) : s.latchLoads.part π = s.part π := by
  unfold State.latchLoads
  refine part_foldl (fun s b => ?_) _ _
  dsimp only
  split <;> simp (disch := refine outside ?_ h; decide) only [part_ite, setChain_part, latchLoad_part, carrySwitches_part, ite_self]

theorem blocksBoundary_part (h : π ∉ [.emitters, .timing, .receivers, .histograms, .calibration]) (s : State) (changed ended : Bool) :
    (s.blocksBoundary changed ended).part π = s.part π := by
  simp (disch := refine outside ?_ h; decide) only [State.blocksBoundary, part_ite, setF_part, applyFieldSet_part, calBoundary_part,
    updateLines_part, creepBoundary_part, grnBoundary_part, rxcBoundary_part, etdBoundary_part, ite_self]

theorem doFrameBoundary_part (h : π ∉ domainParts) (t : Nat) (s : State) : (doFrameBoundary t s).part π = s.part π := by
  simp (disch := refine outside ?_ h; decide) only [doFrameBoundary, part_ite, at_part, noteCauses_part, endFrame_part, part_ste,
    stopFrames_part, recPulse_part, hkaBoundary_part, blocksBoundary_part, armIlk_part, beginFrame_part, nextState_part, commitNow_part,
    latchLoads_part, setF_part, ite_self]

theorem doSafeEntry_part (h : π ∉ frameParts) (cause t : Nat) (s : State) : (doSafeEntry cause t s).part π = s.part π := by
  simp (disch := refine outside ?_ h; decide) only [doSafeEntry, part_ite, enterSafe_part, at_part, ite_self]

end Sys2Proof.Machine
end

section
/-! PROOFS. What each operation leaves of the parts of the state: reads. -/

namespace Sys2Proof.Machine

variable {π : Part}

theorem afterRead_part (s : State) (a : Nat) : (s.afterRead a).part π = s.part π := by
  simp only [State.afterRead, part_ite, tick_part, poke_part, ite_self]

theorem readWords_part (a b : Nat) (s : State) : (State.readWords a b s).2.part π = s.part π := by
  induction a generalizing b s with
  | zero => rfl
  | succ a ih => exact (ih ..).trans (afterRead_part ..)

theorem freezePage_part (h : π ∉ [.frozen]) (s : State) (p : Nat) : (s.freezePage p).part π = s.part π := by
  simp only [State.freezePage]
  refine part_foldl (fun s b => ?_) _ _
  simp (disch := refine outside ?_ h; decide) only [part_frozen, tick_part]

theorem thawPage_part (h : π ∉ [.frozen]) (s : State) (p : Nat) : (s.thawPage p).part π = s.part π := by
  simp (disch := refine outside ?_ h; decide) only [State.thawPage, part_frozen]

end Sys2Proof.Machine
end

section
/-! PROOFS. What each operation leaves of the parts of the state: writes. -/

namespace Sys2Proof.Machine

variable {π : Part}

theorem noteFail_part (s : State) (f : WordFail) : (s.noteFail f).part π = s.part π := by
  simp only [State.noteFail, part_ite, setF_part, ite_self]
  split <;> simp only [part_ite, safetyEvt_part, recErr_part, ite_self, raiseEvt_part]

theorem shWrite_part (h : π ∉ [.staged]) (s : State) (sess a w : Nat) : (s.shWrite sess a w).part π = s.part π := by
  simp (disch := refine outside ?_ h; decide) only [State.shWrite, setF_part, part_shadow]

theorem abortCommit_part (h : π ∉ [.staged, .emitters]) (s : State) : s.abortCommit.part π = s.part π := by
  simp (disch := refine outside ?_ h; decide) only [State.abortCommit, part_ite, reloadChains_part, emitEvent_part, setF_part, emptyPending_part,
    part_shadow, ite_self]

theorem armCommit_part (h : π ∉ [.emitters, .receivers]) (s : State) (sess mode : Nat) : (s.armCommit sess mode).part π = s.part π := by
  simp (disch := refine outside ?_ h; decide) only [State.armCommit, reloadChains_part, setF_part, part_rxc]

theorem lockWrite_part (s : State) (p h w : Nat) : (s.lockWrite p h w).part π = s.part π := by
  simp only [State.lockWrite, part_ite, recErr_part, poke_part, ite_self, raiseEvt_part]

theorem plainWrite_part (s : State) (h w : Nat) : (s.plainWrite h w).part π = s.part π := by
  simp only [State.plainWrite, part_ite, poke_part, ite_self]

theorem softEngine_part (h : π ∉ [.emitters, .receivers, .converter]) (s : State) (p : Nat) : (s.softEngine p).part π = s.part π := by
  unfold State.softEngine
  split
  · simp (disch := refine outside ?_ h; decide) only [countReserves_part, part_emt]
  · simp (disch := refine outside ?_ h; decide) only [part_ite, part_rxc]
    split
    · rfl
    · split
      · refine (part_foldl (fun s b => ?_) _ _).trans ?_
        · simp only [poke_part]
        · simp (disch := refine outside ?_ h; decide) only [part_hka]
      · rfl

theorem softReset_part (h : π ∉ [.staged, .frozen, .emitters, .receivers, .histograms, .converter]) (s : State) (p : Nat) :
    (s.softReset p).part π = s.part π := by
  simp (disch := refine outside ?_ h; decide) only [State.softReset, part_ite, setF_part, softEngine_part, part_frozen, discardPage_part,
    keepEra_part, ite_self]

theorem headerWrite_part (h : π ∉ [.staged, .frozen, .emitters, .receivers, .histograms, .converter]) (s old : State) (p o w : Nat) :
    (s.headerWrite old p o w).part π = s.part π := by
  unfold State.headerWrite
  split
  · simp (disch := refine outside ?_ h; decide) only [part_ite, softReset_part, freezePage_part, thawPage_part, ite_self]
  · simp (disch := refine outside ?_ h; decide) only [part_ite, clearErr_part, ite_self, discardPage_part]
    split
    · rfl
    · split
      · refine part_foldl (fun s b => ?_) _ _
        simp only [raiseEvt_part]
      · rfl

theorem calWrite_part (h : π ∉ [.calibration]) (s : State) (w : Nat) : (s.calWrite w).part π = s.part π := by
  simp (disch := refine outside ?_ h; decide) only [State.calWrite, part_ite, setF_part, mapCal_part, calAbort_part, ite_self]

theorem i2cStart_part (s : State) (n : Nat) : (s.i2cStart n).part π = s.part π := by
  simp only [State.i2cStart, emit_part, setF_part]

theorem scalStart_part (h : π ∉ [.mounts]) (s : State) : s.scalStart.part π = s.part π := by
  simp (disch := refine outside ?_ h; decide) only [State.scalStart, setF_part, mapExc_part]

theorem recWrite_part (s : State) (w : Nat) : (s.recWrite w).part π = s.part π := by
  simp only [State.recWrite, part_ite, recReadout_part, recPulse_part, recArm_part, recDisarm_part, ite_self]

theorem specialWrite_part (h : π ∉ [.staged, .emitters, .receivers, .safety, .calibration, .converter, .mounts]) (s : State) (sess a w : Nat) :
    (s.specialWrite sess a w).part π = s.part π := by
  delta State.specialWrite
  refine part_ite_of ?commit (part_ite_of (part_ite_of rfl (recErr_part ..)) (part_ite_of ?set (part_ite_of (calWrite_part (outside (by decide) h) ..)
    (part_ite_of ?test (part_ite_of (part_ite_of (i2cStart_part ..) rfl) (part_ite_of ?select
    (part_ite_of ?clear (part_ite_of (part_ite_of (hkaStart_part (outside (by decide) h) ..) rfl) (part_ite_of ?cal
    (part_ite_of (part_ite_of (scalStart_part (outside (by decide) h) ..) rfl) (part_ite_of (recWrite_part ..) rfl)))))))))))
  case commit => simp (disch := refine outside ?_ h; decide) only [part_ite, armCommit_part, abortCommit_part, ite_self]
  case set => simp only [part_ite, setF_part, loadTime_part, ite_self]
  case test => simp only [part_ite, setF_part, ite_self]
  case select => simp (disch := refine outside ?_ h; decide) only [part_saf, setF_part]
  case clear => simp (disch := refine outside ?_ h; decide) only [part_ite, safetyEvt_part, setF_part, part_saf, ite_self]
  case cal => simp (disch := refine outside ?_ h; decide) only [part_ite, setF_part, mapHka_part, ite_self]

theorem trimWrite_part (h : π ∉ [.calibration]) (s : State) (e a w : Nat) : (s.trimWrite e a w).part π = s.part π := by
  simp (disch := refine outside ?_ h; decide) only [State.trimWrite, countReserves_part, mapCal_part, plainWrite_part]

theorem doWord_part (h : π ∉ [.staged, .banks, .frozen, .emitters, .receivers, .histograms, .safety, .calibration, .converter, .mounts]) (s :
    State) (sess a w : Nat) : (s.doWord sess a w).part π = s.part π := by
  unfold State.doWord
  split
  · simp (disch := refine outside ?_ h; decide) only [ramPut_part]
  · simp (disch := refine outside ?_ h; decide) only [ramPut_part]
  · simp (disch := refine outside ?_ h; decide) only [trimWrite_part]
  · dsimp only
    split
    · rfl
    · split <;> simp (disch := refine outside ?_ h; decide) only [part_ite, headerWrite_part, lockWrite_part, plainWrite_part, shWrite_part,
        ite_self, specialWrite_part]

theorem doWords_part (h : π ∉ [.staged, .banks, .frozen, .emitters, .receivers, .histograms, .safety, .calibration, .converter, .mounts]) (s :
    State) (sess : Nat) (l : List (Nat × Nat)) : (s.doWords sess l).part π = s.part π := by
  unfold State.doWords
  refine part_foldl (fun s b => ?_) _ _
  simp (disch := refine outside ?_ h; decide) only [doWord_part]

theorem startFrames_part (h : π ∉ [.scheduler, .steering, .emitters]) (s : State) : s.startFrames.part π = s.part π := by
  refine (enterState_part (outside (by decide) h) ..).trans ?_
  cases π with
  | steering | emitters => exact absurd (by decide) h
  | _ => rfl

theorem doRequest_part (h : π ∉ [.scheduler, .steering, .emitters]) (s : State) (req : Nat) : (s.doRequest req).part π = s.part π := by
  unfold State.doRequest
  split <;> simp (disch := refine outside ?_ h; decide) only [startFrames_part, part_sch, enterState_part]

end Sys2Proof.Machine
end

section
/-! PROOFS. What each operation leaves of the parts of the state: the commands of sessions. -/

namespace Sys2Proof.Machine

variable {π : Part}

theorem consume_part (s : State) (i seq : Nat) : (s.consume i seq).part π = s.part π := by
  simp only [State.consume, mapSession_part, mapTp_part]

theorem acknowledge_part (s : State) (e : LedgerEntry) (o : Out) : (s.acknowledge e o).part π = s.part π := by
  simp only [State.acknowledge, part_ite, sendControl_part, recordEntry_part, raiseEvt_part, mapTp_part, ite_self]

theorem finish_part (s : State) (x : Session) (dest : Endpoint) (i seq op : Nat) (payload : List Byte) (r : Reply) :
    (s.finish x dest i seq op payload r).part π = s.part π := by
  simp only [State.finish, acknowledge_part, consume_part]

theorem refuse_part (status : Nat) (s : State) : (refuse status s).2.part π = s.part π := by
  simp only [refuse]

theorem readBody_part (addr count : Nat) (x0 : Session) (s : State) : (readBody addr count x0 s).2.part π = s.part π := by
  simp only [readBody]
  split <;> simp only [refuse_part, readWords_part]

/-- A command of a session leaves what its body, and what follows its answer, leave. -/
theorem command_part {body : Session → State → Option Reply × State} {after : State → State} (hb : ∀ x s, (body x s).2.part π = s.part π)
    (ha : ∀ s, (after s).part π = s.part π) (s : State) (i op : Nat) (payload : List Byte) :
    (s.command i op payload body after).part π = s.part π := by
  unfold State.command
  split
  · rfl
  · split
    · exact reject_part ..
    · rename_i x _
      extract_lets +onlyGivenNames w
      split
      · rfl
      · extract_lets +onlyGivenNames seq dest
        split
        · exact reject_part ..
        · split
          · rfl
          · extract_lets +onlyGivenNames z
            have hz : (body x z).2.part π = s.part π :=
              (hb x z).trans (part_else ((renewSession_part ..).trans (confirmSession_part ..)))
            split
            all_goals rename_i heq; rw [heq] at hz
            · exact (ha _).trans ((finish_part ..).trans hz)
            · exact (unaccept_part ..).trans hz

theorem withRole_part {body : Session → State → Option Reply × State} (hb : ∀ x s, (body x s).2.part π = s.part π) (role : Nat) (x : Session)
    (s : State) : (withRole role body x s).2.part π = s.part π := by
  unfold withRole
  split
  · exact hb x s
  · rfl

theorem doRead_part (sess addr count : Nat) (s : State) : (doRead sess addr count s).part π = s.part π :=
  command_part (fun x s => readBody_part addr count x s) (fun _ => rfl) ..

theorem writeBody_part (h :
    π ∉ [.staged, .banks, .frozen, .scheduler, .steering, .emitters, .receivers, .histograms, .safety, .calibration, .converter, .mounts])
    (sess addr : Nat) (words : List Word) (x : Session) (s : State) : (writeBody sess addr words x s).2.part π = s.part π := by
  simp only [writeBody]
  split
  · simp only [noteFail_part]
  · split <;> simp (disch := refine outside ?_ h; decide) only [noteCauses_part, noteFail_part, doWords_part, doRequest_part]

theorem softwareReset_part (h : π ∉ [.resets]) (sess : Nat) (l : List (Nat × Nat)) (accepted : State → Bool) (s : State) :
    (softwareReset sess l accepted s).part π = s.part π := by
  simp (disch := first | rfl | (refine outside ?_ h; decide)) only [softwareReset, part_ite, raiseReset_part, setF_part, mapRst_part, ite_self]

theorem doWrite_part
    (h : π ∉ [.staged, .banks, .frozen, .resets, .scheduler, .steering, .emitters, .receivers, .histograms, .safety, .calibration, .converter,
      .mounts])
    (sess addr : Nat) (words : List Word) (s : State) : (doWrite sess addr words s).part π = s.part π :=
  command_part (fun x s => writeBody_part (outside (by decide) h) sess addr words x s) (fun s => softwareReset_part (outside (by decide) h) ..) ..

theorem subscribeBody_part (sess : Nat) (sub : Subscription) (x : Session) (s : State) : (subscribeBody sess sub x s).2.part π = s.part π := by
  simp only [subscribeBody]
  split
  · simp only [refuse_part]
  · split
    · simp only [refuse_part, raiseEvt_part]
    · split <;> simp only [refuse_part, raiseEvt_part, mapTp_part]

theorem doSubscribe_part (sess : Nat) (sub : Subscription) (s : State) : (doSubscribe sess sub s).part π = s.part π :=
  command_part (fun x s => subscribeBody_part sess sub x s) (fun _ => rfl) ..

theorem unsubscribeBody_part (sess queue : Nat) (x : Session) (s : State) : (unsubscribeBody sess queue x s).2.part π = s.part π := by
  simp only [unsubscribeBody]
  split
  · simp only [refuse_part]
  · split
    · simp only [refuse_part]
    · split <;> simp only [refuse_part, dropQueue_part]

theorem doUnsubscribe_part (sess queue : Nat) (s : State) : (doUnsubscribe sess queue s).part π = s.part π :=
  command_part (fun x s => unsubscribeBody_part sess queue x s) (fun _ => rfl) ..

theorem queryBody_part (ofSess ofGen ofSeq : Nat) (x0 : Session) (s : State) : (queryBody ofSess ofGen ofSeq x0 s).2.part π = s.part π := by
  simp only [queryBody]
  split <;> simp only [refuse_part]

theorem doQuery_part (sess ofSess ofGen ofSeq : Nat) (s : State) : (doQuery sess ofSess ofGen ofSeq s).part π = s.part π :=
  command_part (fun x s => queryBody_part ofSess ofGen ofSeq x s) (fun _ => rfl) ..

theorem okBody_part (x0 : Session) (s : State) : (okBody x0 s).2.part π = s.part π := by
  simp only [okBody]

theorem doNop_part (sess : Nat) (s : State) : (doNop sess s).part π = s.part π :=
  command_part (fun x s => okBody_part x s) (fun _ => rfl) ..

theorem doClose_part (h : π ∉ [.staged]) (sess : Nat) (s : State) : (doClose sess s).part π = s.part π :=
  command_part (fun x s => okBody_part x s) (fun _ => part_then (endSession_part (outside (by decide) h) _ sess)) ..

theorem clearStaging_part (h : π ∉ [.safety]) (s : State) : s.clearStaging.part π = s.part π := by
  simp (disch := refine outside ?_ h; decide) only [State.clearStaging, showStaged_part, part_saf]

theorem judgeStaging_part (h : π ∉ [.safety]) (s : State) : s.judgeStaging.2.part π = s.part π := by
  simp only [State.judgeStaging]
  split <;> simp (disch := refine outside ?_ h; decide) only [safetyEvt_part, showStaged_part, part_saf, refuse_part, recErr_part,
    clearStaging_part]

theorem stagingBody_part (h : π ∉ [.safety]) (last : Bool) (offset : Nat) (data : List Byte) (x0 : Session) (s : State) :
    (stagingBody last offset data x0 s).2.part π = s.part π := by
  simp only [stagingBody]
  split
  · simp only [refuse_part, recErr_part]
  · split
    · simp only [refuse_part]
    · split
      · simp only [refuse_part]
      · split
        · simp only [refuse_part]
        · split <;> simp (disch := refine outside ?_ h; decide) only [judgeStaging_part, part_saf, part_ite, clearStaging_part, ite_self]

theorem norBody_part (h : π ∉ [.resets, .images]) (target offset : Nat) (data : List Byte) (x0 : Session) (s : State) :
    (norBody target offset data x0 s).2.part π = s.part π := by
  unfold norBody
  split
  · exact refuse_part ..
  · split
    · exact refuse_part ..
    · cases π with
      | resets | images => exact absurd (by decide) h
      | fuses | keys => split <;> rfl
      | _ => rfl

theorem doImageWrite_part (h : π ∉ [.resets, .safety, .images]) (sess target : Nat) (last : Bool) (offset : Nat) (data : List Byte) (s : State) :
    (doImageWrite sess target last offset data s).part π = s.part π := by
  refine command_part (fun x s => withRole_part (fun x s => ?_) _ x s) (fun _ => rfl) ..
  split
  · exact stagingBody_part (outside (by decide) h) ..
  · exact norBody_part (outside (by decide) h) ..

theorem slotSelectBody_part (h : π ∉ [.resets]) (slot : Nat) (x0 : Session) (s : State) : (slotSelectBody slot x0 s).2.part π = s.part π := by
  simp only [slotSelectBody]
  split <;> simp (disch := first | rfl | (refine outside ?_ h; decide)) only [refuse_part, mapRst_part]

theorem doSlotSelect_part (h : π ∉ [.resets]) (sess slot : Nat) (s : State) : (doSlotSelect sess slot s).part π = s.part π :=
  command_part (fun x s => withRole_part (fun x s => slotSelectBody_part (outside (by decide) h) slot x s) 4 x s) (fun _ => rfl) ..

theorem showProgram_part (s : State) (row copies result : Nat) : (s.showProgram row copies result).part π = s.part π := by
  simp only [State.showProgram, setF_part]

theorem programRefused_part (s : State) (row status : Nat) : (s.programRefused row status).2.part π = s.part π := by
  simp only [State.programRefused, refuse_part, showProgram_part]

/-- The rows of the fuses are in a part of their own. -/
theorem programmed_part (h : π ∉ [.resets, .fuses]) (s : State) (a b : List (Nat × List Byte)) :
    (s.mapRst (fun x => { x with fuseA := a, fuseB := b })).part π = s.part π := by
  cases π with
  | resets | fuses => exact absurd (by decide) h
  | _ => rfl

theorem fuseBody_part (h : π ∉ [.resets, .fuses]) (row : Nat) (data : List Byte) (endA endB : FuseEnd) (x0 : Session) (s : State) :
    (fuseBody row data endA endB x0 s).2.part π = s.part π := by
  have hA : ∀ s : State, (s.mapRst (fun x => { x with fuseA := programCopy x.fuseA row data endA })).part π = s.part π := fun s =>
    programmed_part h s (programCopy s.rst.fuseA row data endA) s.rst.fuseB
  have hB : ∀ s : State, (s.mapRst (fun x => { x with fuseB := programCopy x.fuseB row data endB })).part π = s.part π := fun s =>
    programmed_part h s s.rst.fuseA (programCopy s.rst.fuseB row data endB)
  simp only [fuseBody, apply_ite Prod.snd, part_ite, refuse_part, programRefused_part, recErr_part, showProgram_part, tick_part, raiseEvt_part,
    hA, hB, ite_self]

theorem doFuseProgram_part (h : π ∉ [.resets, .fuses]) (sess row : Nat) (data : List Byte) (endA endB : FuseEnd) (s : State) :
    (doFuseProgram sess row data endA endB s).part π = s.part π :=
  command_part (fun x s => withRole_part (fun x s => fuseBody_part (outside (by decide) h) row data endA endB x s) 8 x s) (fun _ => rfl) ..

theorem keySlotBody_part (h : π ∉ [.resets, .keys]) (slot roles : Nat) (key : List Byte) (x0 : Session) (s : State) :
    (keySlotBody slot roles key x0 s).2.part π = s.part π := by
  unfold keySlotBody
  split
  · exact refuse_part ..
  · split
    · exact refuse_part ..
    · refine (setF_part ..).trans ?_
      cases π with
      | resets | keys => exact absurd (by decide) h
      | _ => rfl

theorem doKeySlotWrite_part (h : π ∉ [.resets, .keys]) (sess slot roles : Nat) (key : List Byte) (s : State) :
    (doKeySlotWrite sess slot roles key s).part π = s.part π :=
  command_part (fun x s => withRole_part (fun x s => keySlotBody_part (outside (by decide) h) slot roles key x s) 8 x s) (fun _ => rfl) ..

theorem provisioningBody_part (h : π ∉ [.resets]) (serial : Nat) (x0 : Session) (s : State) : (provisioningBody serial x0 s).2.part π =
    s.part π := by
  simp only [provisioningBody]
  split
  · simp only [refuse_part]
  · split <;> simp (disch := first | rfl | (refine outside ?_ h; decide)) only [refuse_part, raiseEvt_part, mapRst_part, setF_part]

theorem doProvisioningRequest_part (h : π ∉ [.resets]) (sess serial : Nat) (s : State) : (doProvisioningRequest sess serial s).part π = s.part π :=
  command_part (fun x s => withRole_part (fun x s => provisioningBody_part (outside (by decide) h) serial x s) 8 x s) (fun _ => rfl) ..

theorem doOpenSession_part (src : Endpoint) (nonce : List Byte) (lease slot : Nat) (s : State) : (doOpenSession src nonce lease slot s).part π =
    s.part π := by
  simp only [doOpenSession, part_ite, bufferMessage_part, drainMessages_part, openFrom_part, ite_self]

theorem doAuthConfirmTimeout_part (h : π ∉ [.staged]) (sess t : Nat) (s : State) : (doAuthConfirmTimeout sess t s).part π = s.part π := by
  simp only [doAuthConfirmTimeout]
  split <;> simp (disch := refine outside ?_ h; decide) only [part_ite, endSession_part, at_part, ite_self]

theorem doSessionLeaseExpiry_part (h : π ∉ [.staged]) (sess t : Nat) (s : State) : (doSessionLeaseExpiry sess t s).part π = s.part π := by
  simp only [doSessionLeaseExpiry]
  split <;> simp (disch := refine outside ?_ h; decide) only [part_ite, raiseEvt_part, endSession_part, at_part, ite_self]

theorem doControlMessageReceive_part (t : Nat) (src : Endpoint) (datagram : Datagram) (s : State) :
    (doControlMessageReceive t src datagram s).part π = s.part π := by
  simp only [doControlMessageReceive, part_ite, at_part, bump_part, doAck_part, takeMessage_part, drainMessages_part, ite_self]

theorem doSoftResetComplete_part (h : π ∉ [.histograms]) (page : Fin 28) (t : Nat) (s : State) : (doSoftResetComplete page t s).part π =
    s.part π := by
  simp (disch := refine outside ?_ h; decide) only [doSoftResetComplete, part_ite, raiseEvt_part, advanceEpoch_part, setF_part, part_grn,
    at_part, ite_self]

end Sys2Proof.Machine
end

section
/-! PROOFS. The frame of every command (O9, O10). -/

namespace Sys2Proof.Machine

variable {π : Part}

theorem answer_part {s z u : State} (hz : z.part π = s.part π) (h : answer z = .next u) : u.part π = s.part π := by
  cases h
  exact (settle_part z).trans hz

/-- A command leaves every part that `mayChange` does not name. -/
theorem exec_part {c : Instr} {s u : State} (hp : π ∉ mayChange c) (h : exec c s = .next u) : u.part π = s.part π := by
  cases c with
  | frameBoundary => exact answer_part (doFrameBoundary_part (outside (by dsimp only [mayChange]; decide) hp) ..) h
  | framePulse => exact answer_part (doFramePulse_part hp ..) h
  | baristaSlot => exact answer_part (doBaristaSlot_part (outside (by dsimp only [mayChange]; decide) hp) ..) h
  | p0SlackExpiry => exact answer_part (doP0SlackExpiry_part hp ..) h
  | polyEncoderEdge => exact answer_part (doPolyEncoderEdge_part hp ..) h
  | indexMark => exact answer_part (doIndexMark_part hp ..) h
  | polygonLoopSample => exact answer_part (doPolygonLoopSample_part hp ..) h
  | galvoLoopSample => exact answer_part (doGalvoLoopSample_part (outside (by dsimp only [mayChange]; decide) hp) ..) h
  | fsyncEdge => exact answer_part (doFsyncEdge_part hp ..) h
  | fsyncHoldover => exact answer_part (doFsyncHoldover_part hp ..) h
  | interlockTrip => exact answer_part (doInterlockTrip_part hp ..) h
  | galvoStallExpiry => exact answer_part (doGalvoStallExpiry_part hp ..) h
  | spinupTimeout => exact answer_part (doSpinupTimeout_part hp ..) h
  | transitionTimeout => exact answer_part (doTransitionTimeout_part hp ..) h
  | steeringTestComplete => exact answer_part (doSteeringTestComplete_part hp ..) h
  | steeringRecordClose => exact answer_part (doSteeringRecordClose_part hp ..) h
  | chainLoadStart => exact answer_part (doChainLoadStart_part hp ..) h
  | chainOffTimeExpiry => exact answer_part (doChainOffTimeExpiry_part hp ..) h
  | chainZeroLoadLatched => exact answer_part (doChainZeroLoadLatched_part hp ..) h
  | chainStopRequest => exact answer_part (doChainStopRequest_part hp ..) h
  | diodeSwitchLatch => exact answer_part (doDiodeSwitchLatch_part hp ..) h
  | firePulse => exact answer_part (doFirePulse_part (outside (by dsimp only [mayChange]; decide) hp) ..) h
  | emonStop => exact answer_part (doEmonStop_part hp ..) h
  | pulseSettle => exact answer_part (doPulseSettle_part hp ..) h
  | interpolatorRefreshComplete => exact answer_part (doInterpolatorRefreshComplete_part hp ..) h
  | interpolatorFailure => exact answer_part (doInterpolatorFailure_part hp ..) h
  | conversionTimeout => exact answer_part (doConversionTimeout_part hp ..) h
  | substitutionApply => exact answer_part (doSubstitutionApply_part hp ..) h
  | dllLock => exact answer_part (doDllLock_part hp ..) h
  | referenceLoopFire => exact answer_part (doReferenceLoopFire_part ..) h
  | returnPulse => exact answer_part (doReturnPulse_part hp ..) h
  | channelStuck => exact answer_part (doChannelStuck_part ..) h
  | channelUnstuck => exact answer_part (doChannelUnstuck_part ..) h
  | samplerRefreshComplete => exact answer_part (doSamplerRefreshComplete_part (outside (by dsimp only [mayChange]; decide) hp) ..) h
  | samplerTapMapApply => exact answer_part (doSamplerTapMapApply_part hp ..) h
  | samplerFailure => exact answer_part (doSamplerFailure_part (outside (by dsimp only [mayChange]; decide) hp) ..) h
  | samplerSubstitution => exact answer_part (doSamplerSubstitution_part (outside (by dsimp only [mayChange]; decide) hp) ..) h
  | i2cTransactionComplete => exact answer_part (doI2cTransactionComplete_part ..) h
  | i2cStretchTimeout => exact answer_part (doI2cStretchTimeout_part ..) h
  | i2cApply => exact answer_part (doI2cApply_part (outside (by dsimp only [mayChange]; decide) hp) ..) h
  | trainDescriptor => exact answer_part (doTrainDescriptor_part hp ..) h
  | histogramUpdate => exact answer_part (doHistogramUpdate_part hp ..) h
  | candidateSearch => exact answer_part (doCandidateSearch_part hp ..) h
  | measurementClose => exact answer_part (doMeasurementClose_part hp ..) h
  | slotCleared => exact answer_part (doSlotCleared_part hp ..) h
  | tileRemap => exact answer_part (doTileRemap_part hp ..) h
  | carafeUncorrectable => exact answer_part (doCarafeUncorrectable_part hp ..) h
  | extract => exact answer_part (doExtract_part hp ..) h
  | frameHeaderCommit => exact answer_part (doFrameHeaderCommit_part hp ..) h
  | statsCommit => exact answer_part (doStatsCommit_part hp ..) h
  | mountStale => exact answer_part (doMountStale_part ..) h
  | p0Descriptor => exact answer_part (doP0Descriptor_part hp ..) h
  | channelBRayResult => exact answer_part (doChannelBRayResult_part hp ..) h
  | evaluationInstant => exact answer_part (doEvaluationInstant_part hp ..) h
  | discrepancyExpiry => exact answer_part (doDiscrepancyExpiry_part hp ..) h
  | ossdOffPulse => exact answer_part (doOssdOffPulse_part hp ..) h
  | ossdReadbackFault => exact answer_part (doOssdReadbackFault_part hp ..) h
  | clockCrossCheck => exact answer_part (doClockCrossCheck_part hp ..) h
  | channelBGapTest => exact answer_part (doChannelBGapTest_part hp ..) h
  | lockoutEntry => exact answer_part (doLockoutEntry_part hp ..) h
  | lockoutRecordWritten => exact answer_part (doLockoutRecordWritten_part hp ..) h
  | lockoutSelfTest => exact answer_part (doLockoutSelfTest_part hp ..) h
  | clearWindowClose => exact answer_part (doClearWindowClose_part hp ..) h
  | restartPulse => exact answer_part (doRestartPulse_part hp ..) h
  | ptpMessage => exact answer_part (doPtpMessage_part hp ..) h
  | ptpForward => exact answer_part (doPtpForward_part ..) h
  | ppsEdge => exact answer_part (doPpsEdge_part hp ..) h
  | timeSourceLost => exact answer_part (doTimeSourceLost_part hp ..) h
  | ageingWrite => exact answer_part (doAgeingWrite_part ..) h
  | tsyFramePulse => exact answer_part (doTsyFramePulse_part hp ..) h
  | clockMonitorWindow => exact answer_part (doClockMonitorWindow_part hp ..) h
  | ref10mWindow => exact answer_part (doRef10mWindow_part hp ..) h
  | moduleReady => exact answer_part (doModuleReady_part ..) h
  | linkStageComplete => exact answer_part (doLinkStageComplete_part hp ..) h
  | linkStageTimeout => exact answer_part (doLinkStageTimeout_part ..) h
  | linkDown => exact answer_part (doLinkDown_part ..) h
  | standardLock => exact answer_part (doStandardLock_part ..) h
  | capabilityFrame => exact answer_part (doCapabilityFrame_part ..) h
  | laneSwap => exact answer_part (doLaneSwap_part hp ..) h
  | laneFailure => exact answer_part (doLaneFailure_part hp ..) h
  | sleep => exact answer_part (doSleep_part ..) h
  | wake => exact answer_part (doWake_part ..) h
  | frameReceive => exact answer_part (doFrameReceive_part ..) h
  | census => exact answer_part (doCensus_part hp ..) h
  | censusHoldExpiry => exact answer_part (doCensusHoldExpiry_part ..) h
  | censusDone => exact answer_part (doCensusDone_part ..) h
  | reverseCensus => exact answer_part (doReverseCensus_part ..) h
  | linkNotice => exact answer_part (doLinkNotice_part ..) h
  | ringFailover => exact answer_part (doRingFailover_part hp ..) h
  | refreshBurst => exact answer_part (doRefreshBurst_part ..) h
  | read => exact answer_part (doRead_part ..) h
  | write => exact answer_part (doWrite_part hp ..) h
  | subscribe => exact answer_part (doSubscribe_part ..) h
  | unsubscribe => exact answer_part (doUnsubscribe_part ..) h
  | query => exact answer_part (doQuery_part ..) h
  | nop => exact answer_part (doNop_part ..) h
  | closeSession => exact answer_part (doClose_part hp ..) h
  | imageWrite => exact answer_part (doImageWrite_part (outside (by dsimp only [mayChange]; decide) hp) ..) h
  | slotSelect => exact answer_part (doSlotSelect_part hp ..) h
  | fuseProgram => exact answer_part (doFuseProgram_part hp ..) h
  | keySlotWrite => exact answer_part (doKeySlotWrite_part hp ..) h
  | provisioningRequest => exact answer_part (doProvisioningRequest_part hp ..) h
  | provisioningReset => exact answer_part (doProvisioningReset_part hp ..) h
  | openSession => exact answer_part (doOpenSession_part ..) h
  | authConfirmTimeout => exact answer_part (doAuthConfirmTimeout_part hp ..) h
  | controlMessageReceive => exact answer_part (doControlMessageReceive_part ..) h
  | sessionLeaseExpiry => exact answer_part (doSessionLeaseExpiry_part hp ..) h
  | commitApply => exact answer_part (doCommitApply_part (outside (by dsimp only [mayChange]; decide) hp) ..) h
  | softResetComplete => exact answer_part (doSoftResetComplete_part hp ..) h
  | safeEntry => exact answer_part (doSafeEntry_part hp ..) h
  | datagramSend => exact answer_part (doDatagramSend_part ..) h
  | retransmissionTimeout => exact answer_part (doRetransmissionTimeout_part ..) h
  | ack => exact answer_part (doAck_part ..) h
  | queueLeaseExpiry => exact answer_part (doQueueLeaseExpiry_part ..) h
  | retentionExpiry => exact answer_part (doRetentionExpiry_part ..) h
  | ledgerNorCopy => exact answer_part (doLedgerNorCopy_part hp ..) h
  | ledgerBankFailure => exact answer_part (doLedgerBankFailure_part (outside (by dsimp only [mayChange]; decide) hp) ..) h
  | dramChannelFailure => exact answer_part (doDramChannelFailure_part hp ..) h
  | dramRebuildComplete => exact answer_part (doDramRebuildComplete_part hp ..) h
  | rangeCalibrationEnd => exact answer_part (doRangeCalibrationEnd_part hp ..) h
  | diodeFailure => exact answer_part (doDiodeFailure_part hp ..) h
  | coreFailure => exact answer_part (doCoreFailure_part hp ..) h
  | plannedSubstitution => exact answer_part (doPlannedSubstitution_part hp ..) h
  | retirementRecordWrite => exact answer_part (doRetirementRecordWrite_part hp ..) h
  | fenceViolation => exact answer_part (doFenceViolation_part hp ..) h
  | watchdogWarning => exact answer_part (doWatchdogWarning_part ..) h
  | inputSample => exact answer_part (doInputSample_part hp ..) h
  | inputStartThreshold => exact answer_part (doInputStartThreshold_part (outside (by dsimp only [mayChange]; decide) hp) ..) h
  | normalDwellExpiry => exact answer_part (doNormalDwellExpiry_part hp ..) h
  | warnRecoveryExpiry => exact answer_part (doWarnRecoveryExpiry_part ..) h
  | inputInRangeExpiry => exact answer_part (doInputInRangeExpiry_part ..) h
  | lossEntry => exact answer_part (doLossEntry_part (outside (by dsimp only [mayChange]; decide) hp) ..) h
  | lossExit => exact answer_part (doLossExit_part (outside (by dsimp only [mayChange]; decide) hp) ..) h
  | holdupEnd => exact answer_part (doHoldupEnd_part (outside (by dsimp only [mayChange]; decide) hp) ..) h
  | ackResume => exact answer_part (doAckResume_part hp ..) h
  | holdupCheck => exact answer_part (doHoldupCheck_part hp ..) h
  | powerCapUpdate => exact answer_part (doPowerCapUpdate_part hp ..) h
  | domainStarted => exact answer_part (doDomainStarted_part hp ..) h
  | domainStopped => exact answer_part (doDomainStopped_part hp ..) h
  | domainOffTimeExpiry => exact answer_part (doDomainOffTimeExpiry_part hp ..) h
  | domainRelease => exact answer_part (doDomainRelease_part hp ..) h
  | releaseClockTimeout => exact answer_part (doReleaseClockTimeout_part hp ..) h
  | releaseRetry => exact answer_part (doReleaseRetry_part (outside (by dsimp only [mayChange]; decide) hp) ..) h
  | phaseFailure => exact answer_part (doPhaseFailure_part (outside (by dsimp only [mayChange]; decide) hp) ..) h
  | sparePhaseInService => exact answer_part (doSparePhaseInService_part hp ..) h
  | thermalSample => exact answer_part (doThermalSample_part hp ..) h
  | powerOn => exact answer_part (doPowerOn_part hp ..) h
  | brownOut => exact answer_part (doBrownOut_part hp ..) h
  | nrstAssert => exact answer_part (doNrstAssert_part hp ..) h
  | nrstRelease => exact answer_part (doNrstRelease_part hp ..) h
  | nrstStuck => exact answer_part (doNrstStuck_part ..) h
  | watchdogExpiry => exact answer_part (doWatchdogExpiry_part hp ..) h
  | debugReset => exact answer_part (doDebugReset_part hp ..) h
  | clockFailureReset => exact answer_part (doClockFailureReset_part hp ..) h
  | lockupReset => exact answer_part (doLockupReset_part hp ..) h
  | resetEntry => exact answer_part (doResetEntry_part (outside (by dsimp only [mayChange]; decide) hp) ..) h
  | resetRelease => exact answer_part (doResetRelease_part (outside (by dsimp only [mayChange]; decide) hp) ..) h
  | fuseLoadComplete => exact answer_part (doFuseLoadComplete_part (outside (by dsimp only [mayChange]; decide) hp) ..) h
  | safetyImageReverify => exact answer_part (doSafetyImageReverify_part hp ..) h
  | selfTestComplete => exact answer_part (doSelfTestComplete_part hp ..) h
  | imageVerify => exact answer_part (doImageVerify_part hp ..) h
  | bootComplete => exact answer_part (doBootComplete_part hp ..) h
  | hkaTrigger => exact answer_part (doHkaTrigger_part hp ..) h
  | hkaTimerExpiry => exact answer_part (doHkaTimerExpiry_part hp ..) h
  | hkaTrgEdge => exact answer_part (doHkaTrgEdge_part hp ..) h
  | hkaConversion => exact answer_part (doHkaConversion_part (outside (by dsimp only [mayChange]; decide) hp) ..) h
  | hkaRecordClose => exact answer_part (doHkaRecordClose_part hp ..) h
  | hkaCalibrationComplete => exact answer_part (doHkaCalibrationComplete_part hp ..) h
  | dflOutputSet => exact answer_part (doDflOutputSet_part hp ..) h
  | overRange => exact answer_part (doOverRange_part hp ..) h
  | excitationOpen => exact answer_part (doExcitationOpen_part hp ..) h
  | impedanceCheck => exact answer_part (doImpedanceCheck_part hp ..) h
  | systemCalibrationEnd => exact answer_part (doSystemCalibrationEnd_part hp ..) h
  | readoutComplete => exact answer_part (doReadoutComplete_part ..) h
  | recorderEntry => exact answer_part (doRecorderEntry_part ..) h
  | sequencerTransition => exact answer_part (doSequencerTransition_part ..) h
  | sequencerTimerExpiry => exact answer_part (doSequencerTimerExpiry_part ..) h
  | trigIoEdge => exact answer_part (doTrigIoEdge_part ..) h
  | postComplete => exact answer_part (doPostComplete_part ..) h
  | chainTriggerAccept => exact answer_part (doChainTriggerAccept_part ..) h

theorem exec_frame {c : Instr} {s u : State} (h : exec c s = .next u) : Frame c s u :=
  fun p hp => (same_iff_part p s u).mpr (exec_part hp h)

/-- Settles O9, by the frame of each command. -/
theorem frameOfNarrowCommands : Obligations.FrameOfNarrowCommands :=
  fun _ _ _ _ h => exec_frame h

/-- Settles O10, by the frame of each command. -/
theorem frameOfBroadCommands : Obligations.FrameOfBroadCommands :=
  fun _ _ _ _ h => exec_frame h

end Sys2Proof.Machine
end

section
/-! PROOFS. Resets are released (O50): what the device does at every level, each level's own part, and a shadow that fails its CRC. -/

namespace Sys2Proof.Machine

/-! ## What is left of a reset at any level -/

/-- A state without its reset, before the level's own part: a stuck `NRST` (R383) and a scan over JTAG are reported. -/
def State.unheld (s : State) : State :=
  let stuck := s.flag F.RST_NRST.STUCK && s.bitF F.RST_CAUSE.SOURCES 2
  let scan := s.rst.scan
  let s := s.mapRst (fun x => { x with active := none, relAt := s.now, scan := false })
  let s := if stuck then s.reportStuck else s
  if scan then (s.setF F.GIO_JTAG.SEEN 1).raiseEvt 27 0 else s

theorem reportStuck_spine (s : State) : s.reportStuck.spine = s.spine :=
  (emitEvent_spine _ _ _ _ _ _ _).trans (setBit_spine s _ _ _ (by decide))

theorem unheld_spine (s : State) :
    s.unheld.spine = (s.mapRst (fun x => { x with active := none, relAt := s.now, scan := false })).spine := by
  unfold State.unheld
  extract_lets stuck scan u v
  have hv : v.spine = u.spine := ite_spine_of (fun _ => reportStuck_spine u) (fun _ => rfl)
  exact ite_spine_of (fun _ => (raiseEvt_spine _ _ _).trans ((setF_spine v _ _ (by decide)).trans hv)) (fun _ => hv)

theorem unheld_active (s : State) : s.unheld.rst.active = none := congrArg (fun x : Spine => x.rst.active) (unheld_spine s)

theorem unheld_rxq (s : State) : s.unheld.tp.rxq = s.tp.rxq := congrArg Spine.rxq (unheld_spine s)

theorem unheld_epoch (s : State) : s.unheld.epoch = s.epoch := getF_of_spine (unheld_spine s) (by decide)

/-! ## The part of each level -/

/-- Level 1 before the epoch advances: what the fuses hold of AON, and the leases anew (R338). -/
def State.restarted (s : State) : State :=
  let s := (s.applyFuses 0).setF F.RST_BOOT.STEP 2
  s.restartLeases.mapRst (fun x => { x with reverify := s.saf.activeA.isSome || s.saf.activeB.isSome })

theorem releaseReset_zero (s : State) {r : ResetNow} (h : r.level = 0) : s.releaseReset r = s.unheld.beginLoad := by
  unfold State.releaseReset
  rw [h]
  rfl

theorem releaseReset_one (s : State) {r : ResetNow} (h : r.level = 1) : s.releaseReset r = s.unheld.restarted.advanceEpoch.updateDomains := by
  unfold State.releaseReset
  rw [h]
  rfl

theorem releaseReset_two (s : State) {r : ResetNow} (h : r.level = 2) :
    s.releaseReset r = (((s.unheld.clearCause 0x25).clearCause 0x26).clearCause 0x29).advanceEpoch.updateDomains := by
  unfold State.releaseReset
  rw [h]
  rfl

theorem releaseReset_three (s : State) {r : ResetNow} (h : r.level = 3) :
    s.releaseReset r = ((s.unheld.clearCause 0x26).clearCause 0x29).drainMessages := by
  unfold State.releaseReset
  rw [h]
  rfl

/-- A fuse load that begins (R385). -/
theorem beginLoad_loads (s : State) :
    s.beginLoad.rst.active = s.rst.active ∧ s.beginLoad.rst.loading = true ∧ s.beginLoad.getF F.RST_BOOT.STEP = 1 ∧
      s.beginLoad.pwr.released = [0] := by
  unfold State.beginLoad
  extract_lets +onlyGivenNames _ _ u v w
  have hu : u.rst = s.rst := by
    simp only [u]
    split <;> rfl
  have hw : w.rst = u.rst :=
    (mapPwr_part (π := .resets) (by decide) ..).trans ((setF_part ..).trans ((setF_part ..).trans (bump_part ..)))
  have hstep : w.getF F.RST_BOOT.STEP = 1 := by
    simp only [w, State.mapPwr_getF]
    exact getF_setF_of_lt _ _ (by decide) (by decide)
  have hact : w.rst.active = s.rst.active := congrArg RstState.active (hw.trans hu)
  have hrel : w.pwr.released = [0] := by simp only [w, State.mapPwr_pwr]
  clear_value w
  exact ⟨hact, rfl, hstep, hrel⟩

theorem applyFuses_zero_getF (s : State) {f : Field} (h : f.addr ∉ [F.SYS_PART.GRADE.addr, F.SYS_SERIAL_LO.SERIAL.addr, F.SYS_SERIAL_HI.SERIAL.addr,
    F.RST_MAP.LEVELS.addr, F.RST_PINMAP.FIELDS.addr]) : (s.applyFuses 0).getF f = s.getF f := by
  simp only [List.mem_cons, not_or] at h
  obtain ⟨hpart, hlo, hhi, hmap, hpin, -⟩ := h
  unfold State.applyFuses
  rw [if_pos rfl]
  exact (getF_setF_other _ _ _ _ hpin).trans ((getF_setF_other _ _ _ _ hmap).trans ((getF_setF_other _ _ _ _ hhi).trans
    ((getF_setF_other _ _ _ _ hlo).trans ((getF_setF_other _ F.SYS_PART.DIE_REV _ _ hpart).trans (getF_setF_other _ _ _ _ hpart)))))

theorem restarted_getF (s : State) (f : Field) : s.restarted.getF f = ((s.applyFuses 0).setF F.RST_BOOT.STEP 2).getF f := by
  unfold State.restarted State.restartLeases
  rw [State.mapRst_getF, State.mapTp_getF]

theorem restarted_epoch (s : State) : s.restarted.epoch = s.epoch := by
  unfold State.epoch
  rw [restarted_getF, getF_setF_other _ _ _ _ (by decide), applyFuses_zero_getF s (by decide)]

theorem restarted_step (s : State) : s.restarted.getF F.RST_BOOT.STEP = 2 := by
  rw [restarted_getF, getF_setF_of_lt _ _ (by decide) (by decide)]

theorem restarted_active (s : State) : s.restarted.rst.active = s.rst.active := by
  have h : ((s.applyFuses 0).setF F.RST_BOOT.STEP 2).rst = s.rst := (setF_part (π := .resets) ..).trans (applyFuses_part s 0)
  have hactive := congrArg RstState.active h
  exact hactive

/-- The epoch advances (R43), and the domains follow. -/
theorem epochDomains_leaves (s : State) :
    s.advanceEpoch.updateDomains.rst = s.rst ∧ s.advanceEpoch.updateDomains.epoch = nextEpoch s.epoch ∧
      s.advanceEpoch.updateDomains.sys.stay = s.sys.stay ∧
      s.advanceEpoch.updateDomains.getF F.RST_BOOT.STEP = s.getF F.RST_BOOT.STEP := by
  have hp := updateDomains_powers s.advanceEpoch
  refine ⟨hp.rst.trans (advanceEpoch_part (π := .resets) (by decide) s), ?_, ?_, ?_⟩
  · exact (hp.getF (by decide) (by decide)).trans (advanceEpoch_epoch s)
  · exact hp.stay.trans (congrArg SysState.stay (keepEra_sys s))
  · exact (hp.getF (by decide) (by decide)).trans (advanceEpoch_getF s (by decide))

theorem clearCause_stay (s : State) (c : Nat) : c ∉ (s.clearCause c).sys.stay := by
  simp [State.clearCause]

theorem clearCause_stays_out {s : State} {c : Nat} (h : c ∉ s.sys.stay) (d : Nat) : c ∉ (s.clearCause d).sys.stay :=
  fun hm => h (List.mem_of_mem_filter hm)

/-- Messages that wait are taken once the cores run; with none waiting nothing happens. -/
theorem drainMessages_of_empty {s : State} (h : s.tp.rxq = []) : s.drainMessages.sys = s.sys ∧ s.drainMessages.epoch = s.epoch := by
  unfold State.drainMessages
  rw [h]
  split <;> exact ⟨rfl, rfl⟩

/-! ## What a released reset leaves -/

/-- Of the reset in progress no level leaves anything. -/
theorem releaseReset_active (s : State) {r : ResetNow} (h : r.level ≤ 3) : (s.releaseReset r).rst.active = none := by
  have hu := unheld_active s
  obtain hl | hl | hl | hl : r.level = 0 ∨ r.level = 1 ∨ r.level = 2 ∨ r.level = 3 := by omega
  · rw [releaseReset_zero s hl]
    exact (beginLoad_loads _).1.trans hu
  · rw [releaseReset_one s hl, (epochDomains_leaves _).1]
    exact (restarted_active _).trans hu
  · rw [releaseReset_two s hl, (epochDomains_leaves _).1]
    exact hu
  · rw [releaseReset_three s hl]
    exact (congrArg RstState.active (drainMessages_part (π := .resets) _)).trans hu

theorem releaseReset_zero_loads (s : State) {r : ResetNow} (h : r.level = 0) :
    (s.releaseReset r).rst.loading = true ∧ (s.releaseReset r).getF F.RST_BOOT.STEP = 1 ∧ (s.releaseReset r).pwr.released = [0] := by
  rw [releaseReset_zero s h]
  exact (beginLoad_loads _).2

theorem releaseReset_one_leaves (s : State) {r : ResetNow} (h : r.level = 1) :
    (s.releaseReset r).epoch = nextEpoch s.epoch ∧ (s.releaseReset r).getF F.RST_BOOT.STEP = 2 := by
  obtain ⟨-, hepoch, -, hstep⟩ := epochDomains_leaves s.unheld.restarted
  rw [releaseReset_one s h, hepoch, hstep, restarted_epoch, unheld_epoch]
  exact ⟨rfl, restarted_step _⟩

theorem releaseReset_two_leaves (s : State) {r : ResetNow} (h : r.level = 2) :
    (s.releaseReset r).epoch = nextEpoch s.epoch ∧ 0x25 ∉ (s.releaseReset r).sys.stay := by
  obtain ⟨-, hepoch, hstay, -⟩ := epochDomains_leaves (((s.unheld.clearCause 0x25).clearCause 0x26).clearCause 0x29)
  rw [releaseReset_two s h, hepoch, hstay]
  exact ⟨congrArg nextEpoch (unheld_epoch s), clearCause_stays_out (clearCause_stays_out (clearCause_stay _ _) _) _⟩

theorem releaseReset_three_leaves (s : State) {r : ResetNow} (h : r.level = 3) (hq : s.tp.rxq = []) :
    (s.releaseReset r).epoch = s.epoch ∧ 0x26 ∉ (s.releaseReset r).sys.stay := by
  obtain ⟨hsys, hepoch⟩ := drainMessages_of_empty (s := (s.unheld.clearCause 0x26).clearCause 0x29) ((unheld_rxq s).trans hq)
  rw [releaseReset_three s h, hsys, hepoch]
  exact ⟨unheld_epoch s, clearCause_stays_out (clearCause_stay _ _) _⟩

/-! ## The release -/

/-- A reset in progress is released once nothing holds it. -/
theorem doResetRelease_eq {s : State} {r : ResetNow} {shadow : Bool} (t : Nat) (ha : s.rst.active = some r) (he : r.entered = true)
    (hn : r.pin = false ∨ s.rst.nrstLow = none) (hc : s.clockKeeps = false) (hd : s.dev ≠ .off) :
    doResetRelease shadow t s = if r.level ≠ 0 && !shadow then (s.at t).escalate r else (s.at t).releaseReset r := by
  have hpin : (r.pin && (s.at t).rst.nrstLow.isSome) = false := by
    rw [State.at_rst]
    obtain hn | hn := hn <;> simp [hn]
  have hclock : (s.at t).clockKeeps = false := by
    rw [State.clockKeeps, State.at_rst]
    exact hc
  have hkept : ¬ (!r.entered || (r.pin && (s.at t).rst.nrstLow.isSome) || (s.at t).clockKeeps || (s.at t).dev = .off) = true := by
    rw [he, hpin, hclock, State.at_dev]
    simpa using hd
  unfold doResetRelease
  extract_lets u
  have hu : u.rst.active = some r := (congrArg RstState.active (State.at_rst s t)).trans ha
  split
  · next h => simp [hu] at h
  · next r' h =>
    obtain rfl : r' = r := Option.some.inj (h.symm.trans hu)
    exact if_neg hkept

theorem epoch_at (s : State) (t : Nat) : (s.at t).epoch = s.epoch := State.at_getF s t _

theorem settle_epoch (s : State) : s.settle.epoch = s.epoch := State.settle_getF _ _ (by decide)

/-- The command settles what is released. -/
theorem execResetRelease_released {s : State} {r : ResetNow} {shadow : Bool} (t : Nat) (ha : s.rst.active = some r) (he : r.entered = true)
    (hn : r.pin = false ∨ s.rst.nrstLow = none) (hc : s.clockKeeps = false) (hd : s.dev ≠ .off) (hsh : shadow = true ∨ r.level = 0) :
    exec (.resetRelease ⟨shadow, t⟩) s = .next ((s.at t).releaseReset r).settle := by
  have hdo : doResetRelease shadow t s = (s.at t).releaseReset r := by
    rw [doResetRelease_eq t ha he hn hc hd]
    refine if_neg ?_
    obtain hsh | hsh := hsh <;> simp [hsh]
  exact congrArg answer hdo

/-- A fuse shadow that fails its CRC makes a reset above level 0 one of level 0 (R386). -/
theorem execResetRelease_escalates {s : State} {r : ResetNow} (t : Nat) (ha : s.rst.active = some r) (he : r.entered = true)
    (hn : r.pin = false ∨ s.rst.nrstLow = none) (hc : s.clockKeeps = false) (hd : s.dev ≠ .off) (hl : r.level ≠ 0) :
    exec (.resetRelease ⟨false, t⟩) s = .next ((s.at t).escalate r).settle := by
  have hdo : doResetRelease false t s = (s.at t).escalate r := by
    rw [doResetRelease_eq t ha he hn hc hd]
    exact if_pos (by simp [hl])
  exact congrArg answer hdo

/-- Settles O50: the reset is released, and its level decides what follows; with a bad fuse shadow the level is 0 instead. -/
theorem resetsAreReleased : Obligations.ResetsAreReleased := by
  refine ⟨?_, ?_, ?_, ?_, ?_⟩
  · intro s shadow t r ha he hn hc hd hsh hl
    refine ⟨_, execResetRelease_released t ha he hn hc hd hsh, ?_⟩
    rw [settle_epoch, State.settle_rst, State.settle_sys_stay]
    refine ⟨releaseReset_active _ hl, fun h => (releaseReset_zero_loads _ h).1, fun h => ?_, fun h hq => ?_⟩
    · rw [← epoch_at s t]
      exact h.elim (fun h => (releaseReset_one_leaves _ h).1) (fun h => (releaseReset_two_leaves _ h).1)
    · rw [← epoch_at s t]
      exact releaseReset_three_leaves _ h ((congrArg TransportState.rxq (State.at_tp s t)).trans hq)
  · intro s shadow t r ha he hn hc hd hl
    refine ⟨_, execResetRelease_released t ha he hn hc hd (.inr hl), ?_⟩
    rw [State.settle_rst, State.settle_pwr, State.settle_getF _ _ (by decide)]
    exact ⟨releaseReset_active _ (by omega), releaseReset_zero_loads _ hl⟩
  · intro s t r ha he hn hc hd hl
    refine ⟨_, execResetRelease_released t ha he hn hc hd (.inl rfl), ?_⟩
    rw [settle_epoch, State.settle_rst, State.settle_getF _ _ (by decide), ← epoch_at s t]
    exact ⟨releaseReset_active _ (by omega), releaseReset_one_leaves _ hl⟩
  · intro s t r ha he hn hc hd hl
    refine ⟨_, execResetRelease_released t ha he hn hc hd (.inl rfl), ?_⟩
    rw [settle_epoch, State.settle_rst, State.settle_sys_stay, ← epoch_at s t]
    exact ⟨releaseReset_active _ (by omega), releaseReset_two_leaves _ hl⟩
  · intro s t r ha he hn hc hd hl
    refine ⟨_, execResetRelease_escalates t ha he hn hc hd hl, ?_⟩
    rw [State.settle_rst, State.settle_getF _ _ (by decide), State.settle_dev]
    refine ⟨rfl, getF_setF_of_lt _ _ (by decide) (by decide), ?_⟩
    exact (congrArg DevState.ofCode (getF_setF_other _ _ _ _ (by decide))).trans (State.at_dev s t)

end Sys2Proof.Machine
end

section
/-! PROOFS. What leads to `LOCKOUT` (O32), and the way out of it (O34). -/

namespace Sys2Proof.Machine

/-! ## Entry to `LOCKOUT` (R69) -/

/-- The states from which a safety-channel fault leads to `LOCKOUT`. -/
abbrev State.mayLock (s : State) : Prop := s.dev = .standby ∨ s.dev = .spinup ∨ s.dev = .run ∨ s.dev = .degraded ∨ s.dev = .safe

/-- Entry to `LOCKOUT` sets the latch in AON. -/
theorem enterLockout_latch (s : State) (c : Nat) (g : s.gradeS = true) (h : s.mayLock) : (s.enterLockout c).rst.lockLatch = true := by
  unfold State.enterLockout
  rw [if_neg (by rcases h with h | h | h | h | h <;> simp [h, g]), if_neg (by rcases h with h | h | h | h | h <;> simp [h])]
  simp

/-- What the entry to `LOCKOUT` leaves, and a command that ends with it keeps: the state, its cause, the latch, and every output off. -/
theorem lockout_settled {s : State} {c : Nat} (hd : s.dev = .lockout) (hc : s.getF F.SYS_STATE.CAUSE = c) (hl : s.rst.lockLatch = true) :
    s.settle.dev = .lockout ∧ s.settle.getF F.SYS_STATE.CAUSE = c ∧ s.settle.rst.lockLatch = true ∧ s.settle.dark = true := by
  refine ⟨by rw [State.settle_dev, hd], by rw [State.settle_getF _ _ (by decide), hc], by rw [State.settle_rst, hl], ?_⟩
  exact settle_dark (by simp [hd]) (by simp [hd])

theorem enterLockout_settled {s : State} {c : Nat} (g : s.gradeS = true) (h : s.mayLock) (hc : c < 256) :
    (s.enterLockout c).settle.dev = .lockout ∧ (s.enterLockout c).settle.getF F.SYS_STATE.CAUSE = c ∧
      (s.enterLockout c).settle.rst.lockLatch = true ∧ (s.enterLockout c).settle.dark = true := by
  obtain ⟨hdev, hcause⟩ := enterLockout_enters s c g h
  exact lockout_settled hdev (hcause.trans (Nat.mod_eq_of_lt hc)) (enterLockout_latch s c g h)

theorem gradeS_at (s : State) (t : Nat) : (s.at t).gradeS = s.gradeS := by simp only [State.gradeS, State.at_getF]

/-! ## Checks of the safety channels that fail -/

/-- A run of disagreement that has lasted locks the device out (R248). -/
theorem runsEnd_expired {s : State} {k b ms : Nat} (hr : s.saf.runs = [(k, b)]) (hb : b + s.getF F.SFA_CFG.TD * ms ≤ s.now) :
    s.runsEnd ms = State.enterLockout { s with saf := { s.saf with runs := [] } } 0x50 := by
  simp [State.runsEnd, hr, hb]

/-- The window of the clock check as `SFB_CLK` shows it (R242). -/
def State.showClock (s : State) (dev : Int) (ok : Bool) : State := (s.setI F.SFB_CLK.DEV dev).setB F.SFB_CLK.REF_OK ok

theorem showClock_getF (s : State) (dev : Int) (ok : Bool) {f : Field} (h : f.addr ≠ 0x1114C) : (s.showClock dev ok).getF f = s.getF f :=
  (getF_setF_other _ _ _ _ h).trans (getF_setF_other _ _ _ _ h)

/-- Channel B's test in a frame gap as `SFB_TEST` shows it (R242). -/
def State.showGapTest (s : State) (pass crc : Bool) : State := ((s.bump F.SFB_TEST.RUNS 1).setB F.SFB_TEST.PASS pass).setB F.SFB_TEST.CRC_OK crc

theorem showGapTest_getF (s : State) (pass crc : Bool) {f : Field} (h : f.addr ≠ 0x11150) :
    (s.showGapTest pass crc).getF f = s.getF f :=
  (getF_setF_other _ _ _ _ h).trans ((getF_setF_other _ _ _ _ h).trans (bump_getF_other _ _ _ _ h))

theorem saf_getF (s : State) (x : SafetyState) (f : Field) : ({ s with saf := x } : State).getF f = s.getF f := rfl

/-- Grade and device state are read from two registers of SYS. -/
theorem mayLock_congr {s u : State} (hg : u.getF F.SYS_PART.GRADE = s.getF F.SYS_PART.GRADE)
    (hs : u.getF F.SYS_STATE.STATE = s.getF F.SYS_STATE.STATE) (g : s.gradeS = true) (h : s.mayLock) : u.gradeS = true ∧ u.mayLock := by
  have hd : u.dev = s.dev := congrArg DevState.ofCode hs
  exact ⟨by simpa [State.gradeS, hg] using g, by simpa only [State.mayLock, hd] using h⟩

/-- A window beyond 5 % after two others locks the device out. -/
theorem doClockCrossCheck_third {s : State} {dev : Int} (t : Nat) (g : s.gradeS = true) (hon : s.on 2 = true) (hd : 500 < dev.natAbs)
    (hb : 2 ≤ s.saf.clkBad) :
    doClockCrossCheck dev t s =
      State.enterLockout { (s.at t).showClock dev false with saf := { s.saf with clkBad := s.saf.clkBad + 1, clkGood := 0 } } 0x52 := by
  have hok : ¬ dev.natAbs ≤ 500 := Nat.not_le.2 hd
  have h3 : 3 ≤ s.saf.clkBad + 1 := by omega
  simp [doClockCrossCheck, gradeS_at, g, hon, hok, h3, State.showClock]

/-- A failed test or CRC locks the device out. -/
theorem doChannelBGapTest_fails {s : State} {pass crc : Bool} (t : Nat) (g : s.gradeS = true) (hon : s.on 2 = true)
    (hf : pass = false ∨ crc = false) : doChannelBGapTest pass crc t s = ((s.at t).showGapTest pass crc).enterLockout 0x52 := by
  have hno : (pass && crc) = false := by simpa [← Bool.not_eq_true, imp_iff_not_or] using hf
  simp only [doChannelBGapTest, gradeS_at, g, State.at_on, hon, hno, Bool.not_true, Bool.or_self, Bool.false_eq_true, if_false,
    State.showGapTest]

/-- Settles O32: each of the commands ends with the entry to `LOCKOUT`, of a state of the grade and device state it found. -/
theorem lockoutEntries : Obligations.LockoutEntries := by
  refine ⟨?_, ?_, ?_, ?_, ?_⟩
  · intro s t k b g h ha hr hb
    refine ⟨_, rfl, ?_⟩
    have hdo : doDiscrepancyExpiry t s = State.enterLockout { s.at t with saf := { (s.at t).saf with runs := [] } } 0x50 := by
      rw [doDiscrepancyExpiry, if_pos (by simpa using ha)]
      exact runsEnd_expired (by simpa using hr) (by simpa using hb)
    rw [hdo]
    obtain ⟨g', h'⟩ := mayLock_congr (u := { s.at t with saf := { (s.at t).saf with runs := [] } })
      ((saf_getF _ _ _).trans (State.at_getF s t _)) ((saf_getF _ _ _).trans (State.at_getF s t _)) g h
    exact enterLockout_settled g' h' (by decide)
  · intro s fbA fbB t g h hbad
    refine ⟨_, rfl, ?_⟩
    obtain ⟨g', h'⟩ := mayLock_congr (u := s.at t) (State.at_getF s t _) (State.at_getF s t _) g h
    obtain ⟨hdev, hcause⟩ := enterLockout_enters (s.at t) 0x51 g' h'
    have hlatch := enterLockout_latch (s.at t) 0x51 g' h'
    simp only [doOssdReadbackFault, g', hbad, Bool.not_true, Bool.false_eq_true, if_false, if_true]
    exact lockout_settled hdev hcause hlatch
  · intro s dev t g h hon hd hb
    refine ⟨_, rfl, ?_⟩
    rw [doClockCrossCheck_third t g hon hd hb]
    obtain ⟨g', h'⟩ := mayLock_congr
      (u := { (s.at t).showClock dev false with saf := { s.saf with clkBad := s.saf.clkBad + 1, clkGood := 0 } })
      ((saf_getF _ _ _).trans ((showClock_getF _ _ _ (by decide)).trans (State.at_getF s t _)))
      ((saf_getF _ _ _).trans ((showClock_getF _ _ _ (by decide)).trans (State.at_getF s t _))) g h
    exact enterLockout_settled g' h' (by decide)
  · intro s pass crc t g h hon hf
    refine ⟨_, rfl, ?_⟩
    rw [doChannelBGapTest_fails t g hon hf]
    obtain ⟨g', h'⟩ := mayLock_congr (u := (s.at t).showGapTest pass crc)
      ((showGapTest_getF _ _ _ (by decide)).trans (State.at_getF s t _)) ((showGapTest_getF _ _ _ (by decide)).trans (State.at_getF s t _)) g h
    exact enterLockout_settled g' h' (by decide)
  · intro s cause t g h
    refine ⟨_, rfl, ?_⟩
    obtain ⟨g', h'⟩ := mayLock_congr (u := s.at t) (State.at_getF s t _) (State.at_getF s t _) g h
    exact enterLockout_settled g' h' (by omega)

end Sys2Proof.Machine
end

section
/-! PROOFS. The way out of `LOCKOUT`, and the restart interlock (O34). -/

namespace Sys2Proof.Machine

/-! ## The record, the self-tests and the clear window -/

theorem doLockoutRecordWritten_writes {s : State} (t : Nat) (hl : s.rst.lockLatch = true) (hr : s.rst.lockRecord = none) :
    doLockoutRecordWritten t s =
      State.setF { s.at t with rst := { s.rst with lockRecord := some ⟨s.rst.lockCause, (s.at t).taiNs⟩ } } F.SFA_LOCK.RECORD 1 := by
  simp [doLockoutRecordWritten, hl, hr]

/-- The self-tests judge a lock-out of cause 0x50 by both channels, one of cause 0x51 by the feedback inputs too (R254). -/
theorem faultGone_eq {s : State} (passA passB crc fbOff : Bool) (hc : s.getF F.SFA_LOCK.CAUSE = 0x50 ∨ s.getF F.SFA_LOCK.CAUSE = 0x51) :
    s.faultGone passA passB crc fbOff = decide (passA ∧ passB ∧ (s.getF F.SFA_LOCK.CAUSE = 0x50 ∨ fbOff)) := by
  rcases hc with h | h
  · simp [State.faultGone, h]
  · simp only [State.faultGone, h, Nat.reduceEqDiff, if_false, if_true, false_or]
    cases passA <;> cases passB <;> cases fbOff <;> rfl

theorem doLockoutSelfTest_judges {s : State} (passA passB crc fbOff : Bool) (t : Nat) (hd : s.dev = .lockout) :
    ∃ x, doLockoutSelfTest passA passB crc fbOff t s =
      (let u : State := { (s.at t).showGapTest passB crc with saf := x }
       u.setB F.SFA_LOCK.GONE (u.faultGone passA passB crc fbOff)) := by
  unfold doLockoutSelfTest
  rw [if_neg (by simp [hd])]
  split
  · exact ⟨_, rfl⟩
  · exact ⟨((s.at t).showGapTest passB crc).saf, rfl⟩

theorem doClearWindowClose_closes {s : State} {a : Nat} (t : Nat) (ha : s.saf.clearAt = some a) (hlate : a + 10000000000 ≤ max s.now t) :
    doClearWindowClose t s = (s.at t).disarmClear := by
  simp [doClearWindowClose, ha, hlate]

/-! ## A `RESTART` pulse (R252, R253, R255) -/

/-- The pulse as both channels have measured it. -/
def State.showRestart (s : State) (usA usB : Nat) : State :=
  (s.setSat F.SFA_RESTART.LAST_MS (usA / 1000)).setSat (F.SFA_RESTART.LAST_MS.pageUp 1) (usB / 1000)

theorem showRestart_getF (s : State) (usA usB : Nat) {f : Field} (hA : f.addr ≠ 0x10148) (hB : f.addr ≠ 0x11148) :
    (s.showRestart usA usB).getF f = s.getF f :=
  (getF_setF_other _ _ _ _ hB).trans (getF_setF_other _ _ _ _ hA)

/-- The length of a `RESTART` pulse that both channels take for valid. -/
abbrev restartLength (us : Nat) : Prop := 150000 ≤ us ∧ us ≤ 2000000

/-- A pulse of `us` µs, ended at `t`, lies in the clear window. -/
def State.inClearWindow (s : State) (t us : Nat) : Bool :=
  match s.saf.clearAt with
  | some a => decide (a + us * 1000 ≤ t) && decide (t ≤ a + 10000000000)
  | none => false

/-- Where a pulse of valid length leads. -/
theorem doRestartPulse_valid {s : State} {usA usB : Nat} (t : Nat) (g : s.gradeS = true) (hA : restartLength usA) (hB : restartLength usB) :
    doRestartPulse t usA usB s =
      (let u := (s.at t).showRestart usA usB
       if decide (u.dev = .lockout) && u.inClearWindow t usA then u.clearLockout
       else if u.flag F.SFA_OSSD.IL_WAIT && u.outputsReady then (u.setF F.SFA_OSSD.IL_WAIT 0).outputsOnIf
       else (u.bump F.SFA_RESTART.REJECTED 1).safetyEvt 7) := by
  obtain ⟨hA1, hA2⟩ := hA
  obtain ⟨hB1, hB2⟩ := hB
  have hvalid : (between 150000 2000000 usA && between 150000 2000000 usB) = true := by simp [between, hA1, hA2, hB1, hB2]
  have hlong : ¬ usA < 5000 := by omega
  unfold doRestartPulse
  rw [if_neg (by simp [gradeS_at, g, hlong]), hvalid]
  rfl

/-- Clearing leaves `STANDBY` and its cause; record, latch and window are done with. -/
theorem clearLockout_leaves (s : State) :
    s.clearLockout.dev = .standby ∧ s.clearLockout.getF F.SYS_STATE.CAUSE = 0x15 ∧ s.clearLockout.rst.lockLatch = false ∧
      s.clearLockout.rst.lockRecord = none ∧ s.clearLockout.saf.clearAt = none := by
  unfold State.clearLockout
  simp [State.disarmClear]

theorem doRestartPulse_clears {s : State} {t usA usB a : Nat} (g : s.gradeS = true) (hd : s.dev = .lockout) (hc : s.saf.clearAt = some a)
    (hA : restartLength usA) (hB : restartLength usB) (hfrom : a + usA * 1000 ≤ t) (hto : t ≤ a + 10000000000) :
    doRestartPulse t usA usB s = ((s.at t).showRestart usA usB).clearLockout := by
  have hdev : ((s.at t).showRestart usA usB).dev = .lockout :=
    (congrArg DevState.ofCode ((showRestart_getF _ _ _ (by decide) (by decide)).trans (State.at_getF s t _))).trans hd
  have hclear : ((s.at t).showRestart usA usB).saf.clearAt = some a := (congrArg SafetyState.clearAt (State.at_saf s t)).trans hc
  rw [doRestartPulse_valid t g hA hB]
  exact if_pos (by simp [hdev, State.inClearWindow, hclear, hfrom, hto])

/-- The conditions of R245 hold in a state that emits, its outputs permitted by both channels. -/
theorem outputsReady_iff (s : State) : s.outputsReady = true ↔
    ∃ i j, s.saf.activeA = some i ∧ s.saf.activeB = some j ∧ s.emitting = true ∧ s.gradeS = true ∧ imgOnFrames i ≤ s.saf.clearRun ∧
      s.flag F.SFA_OSSD.PERMIT_A = true ∧ s.flag F.SFA_OSSD.PERMIT_B = true := by
  unfold State.outputsReady
  split
  · next i j hi hj => simp [hi, hj, and_assoc]
  · next h => 
    simp only [Bool.false_eq_true, false_iff]
    rintro ⟨i, j, hi, hj, -⟩
    exact h i j hi hj

/-- They are read from the safety channels' own state and from three words. -/
theorem outputsReady_congr {s u : State} (hsaf : u.saf = s.saf) (hstate : u.getF F.SYS_STATE.STATE = s.getF F.SYS_STATE.STATE)
    (hgrade : u.getF F.SYS_PART.GRADE = s.getF F.SYS_PART.GRADE) (hA : u.getF F.SFA_OSSD.PERMIT_A = s.getF F.SFA_OSSD.PERMIT_A)
    (hB : u.getF F.SFA_OSSD.PERMIT_B = s.getF F.SFA_OSSD.PERMIT_B) : u.outputsReady = s.outputsReady := by
  have hemits : u.emitting = s.emitting := by rw [State.emitting, show u.dev = s.dev from congrArg DevState.ofCode hstate, State.emitting]
  have hg : u.gradeS = s.gradeS := by rw [State.gradeS, hgrade, State.gradeS]
  rw [Bool.eq_iff_iff, outputsReady_iff, outputsReady_iff]
  simp only [hemits, hg, State.flag_eq, hsaf, hA, hB]

theorem outputsReady_emits {s : State} (h : s.outputsReady = true) : s.dev ≠ .lockout := by
  obtain ⟨i, j, -, -, he, -⟩ := (outputsReady_iff s).1 h
  intro hd
  simp [State.emitting, hd] at he

/-- Outputs that are ready, and held off by nothing, are on. -/
theorem outputsOnIf_on {s : State} (h : s.outputsReady = true) (hw : s.getF F.SFA_OSSD.IL_WAIT = 0) : s.outputsOnIf.saf.outputsOn = true := by
  unfold State.outputsOnIf
  cases hon : s.saf.outputsOn <;> simp [h, hw, hon, State.safetyEvt]

theorem outputsOnIf_getF (s : State) {f : Field} (hA : f.addr ≠ 0x10010) (hB : f.addr ≠ 0x11010) : s.outputsOnIf.getF f = s.getF f := by
  unfold State.outputsOnIf
  split
  · exact (State.raiseEvt_getF _ _ _ _ hB).trans (State.raiseEvt_getF _ _ _ _ hA)
  · rfl

/-- A one-bit field that is set reads 1. -/
theorem getF_of_flag {s : State} {f : Field} (hw : f.width = 1) (h : s.flag f = true) : s.getF f = 1 := by
  have hlt := getF_lt s f
  have hne : s.getF f ≠ 0 := by simpa [State.flag_eq] using h
  rw [hw] at hlt
  omega

/-- A valid pulse that meets the interlock, outside `LOCKOUT`, with the outputs ready turns them on. -/
theorem doRestartPulse_restarts {s : State} {usA usB : Nat} (t : Nat) (g : s.gradeS = true) (hr : s.outputsReady = true)
    (hw : s.getF F.SFA_OSSD.IL_WAIT = 1) (hA : restartLength usA) (hB : restartLength usB) :
    doRestartPulse t usA usB s = (((s.at t).showRestart usA usB).setF F.SFA_OSSD.IL_WAIT 0).outputsOnIf ∧
      (((s.at t).showRestart usA usB).setF F.SFA_OSSD.IL_WAIT 0).outputsReady = true := by
  have hf : ∀ {f : Field}, f.addr ≠ 0x10148 → f.addr ≠ 0x11148 → ((s.at t).showRestart usA usB).getF f = s.getF f :=
    fun h1 h2 => (showRestart_getF _ _ _ h1 h2).trans (State.at_getF s t _)
  have hready : ((s.at t).showRestart usA usB).outputsReady = true :=
    (outputsReady_congr (u := (s.at t).showRestart usA usB) (State.at_saf s t) (hf (by decide) (by decide)) (hf (by decide) (by decide)) (hf (by decide) (by decide))
      (hf (by decide) (by decide))).trans hr
  constructor
  · rw [doRestartPulse_valid t g hA hB]
    dsimp only
    rw [if_neg (by simp [outputsReady_emits hready]),
      if_pos (by rw [hready, State.flag_eq, hf (by decide) (by decide), hw]; rfl)]
  · refine Eq.trans ?_ hready
    refine outputsReady_congr rfl ?_ ?_ ?_ ?_
    · exact getF_setF_other _ _ _ _ (by decide)
    · exact getF_setF_other _ _ _ _ (by decide)
    · exact getF_setF_beside _ _ _ _ (by decide) (by decide)
    · exact getF_setF_beside _ _ _ _ (by decide) (by decide)

/-- Settles O34: each of the commands by what it leaves. -/
theorem lockoutIsCleared : Obligations.LockoutIsCleared := by
  refine ⟨?_, ?_, ?_, ?_, ?_⟩
  · intro s t hl hr
    refine ⟨_, rfl, ?_⟩
    rw [doLockoutRecordWritten_writes t hl hr, State.settle_rst, State.settle_getF _ _ (by decide)]
    exact ⟨rfl, getF_setF_of_lt _ _ (by decide) (by decide)⟩
  · intro s passA passB crc fbOff t hd hc
    refine ⟨_, rfl, ?_⟩
    obtain ⟨x, hdo⟩ := doLockoutSelfTest_judges passA passB crc fbOff t hd
    have hf : ∀ {f : Field}, f.addr ≠ 0x11150 →
        State.getF { (s.at t).showGapTest passB crc with saf := x } f = s.getF f :=
      fun h => (saf_getF _ _ _).trans ((showGapTest_getF _ _ _ h).trans (State.at_getF s t _))
    have hcause := hf (f := F.SFA_LOCK.CAUSE) (by decide)
    rw [hdo, State.settle_getF _ _ (by decide), State.settle_dev]
    dsimp only
    rw [faultGone_eq _ _ _ _ (by rwa [hcause]), hcause]
    constructor
    · rw [State.setB_eq, getF_setF_of_lt _ _ (by decide) (by split <;> decide)]
      simp only [decide_eq_true_eq]
    · exact (congrArg DevState.ofCode ((getF_setF_other _ _ _ _ (by decide)).trans (hf (by decide)))).trans hd
  · intro s t a ha hlate
    refine ⟨_, rfl, ?_⟩
    rw [doClearWindowClose_closes t ha hlate, State.settle_saf, State.settle_getF _ _ (by decide)]
    exact ⟨rfl, getF_setF_of_lt _ _ (by decide) (by decide)⟩
  · intro s t usA usB a g hd hc hA1 hA2 hB1 hB2 hfrom hto
    refine ⟨_, rfl, ?_⟩
    rw [doRestartPulse_clears g hd hc ⟨hA1, hA2⟩ ⟨hB1, hB2⟩ hfrom hto, State.settle_dev, State.settle_getF _ _ (by decide), State.settle_rst,
      State.settle_saf]
    exact clearLockout_leaves _
  · intro s t usA usB g hr hw hA1 hA2 hB1 hB2
    refine ⟨_, rfl, ?_⟩
    obtain ⟨hdo, hready⟩ := doRestartPulse_restarts t g hr hw ⟨hA1, hA2⟩ ⟨hB1, hB2⟩
    have hwait : (((s.at t).showRestart usA usB).setF F.SFA_OSSD.IL_WAIT 0).getF F.SFA_OSSD.IL_WAIT = 0 :=
      getF_setF_of_lt _ _ (by decide) (by decide)
    obtain ⟨i, j, -, -, -, -, -, hpA, hpB⟩ := (outputsReady_iff _).1 hready
    rw [hdo, State.settle_saf, State.settle_getF _ _ (by decide), State.settle_getF _ _ (by decide), State.settle_getF _ _ (by decide),
      outputsOnIf_getF _ (by decide) (by decide), outputsOnIf_getF _ (by decide) (by decide), outputsOnIf_getF _ (by decide) (by decide)]
    exact ⟨hwait, outputsOnIf_on hready hwait, getF_of_flag rfl hpA, getF_of_flag rfl hpB⟩

end Sys2Proof.Machine
end

section
/-! PROOFS. What the end of a command tells: outputs come before those there are, and queues at most take numbers. -/

namespace Sys2Proof.Machine

/-! ## The record of outputs and the queues -/

/-- A queue apart from the number its next record takes. -/
def Queue.unnumbered (q : Queue) : Queue := { q with next := 0 }

/-- The queues apart from the numbers their next records take. -/
def State.openQueues (s : State) : List (Nat × Queue) := s.tp.queues.map (fun e => (e.1, e.2.unnumbered))

/-- `t` is `s` after reports: outputs stand before those of `s`, and the queues are those of `s` but for the numbers they have given. -/
structure State.Tells (s t : State) : Prop where
  out : s.tp.out <:+ t.tp.out
  queues : t.openQueues = s.openQueues

namespace State.Tells

variable {s t u : State}

theorem refl (s : State) : s.Tells s := ⟨List.suffix_rfl, rfl⟩

theorem trans (h : s.Tells t) (k : t.Tells u) : s.Tells u := ⟨h.out.trans k.out, k.queues.trans h.queues⟩

theorem of_tp (h : t.tp = s.tp) : s.Tells t := ⟨by rw [h], by rw [State.openQueues, h, State.openQueues]⟩

/-- A report made of a state with the same transport. -/
theorem before (k : t.Tells u) (h : t.tp = s.tp) : s.Tells u := (of_tp h).trans k

theorem ite {c : Prop} [Decidable c] {a b : State} (ha : s.Tells a) (hb : s.Tells b) : s.Tells (if c then a else b) := by
  split
  · exact ha
  · exact hb

theorem foldl {β : Type} (l : List β) (g : State → β → State) (hg : ∀ (s : State) b, s.Tells (g s b)) (s : State) : s.Tells (l.foldl g s) := by
  induction l generalizing s with
  | nil => exact refl s
  | cons b l ih => exact (hg s b).trans (ih _)

end State.Tells

theorem emit_tells (s : State) (o : Out) : s.Tells (s.emit o) := ⟨List.suffix_cons _ _, rfl⟩

theorem setF_tells (s : State) (f : Field) (v : Nat) : s.Tells (s.setF f v) := .of_tp rfl

theorem recPush_tells (s : State) (src : Nat) (bytes : List Byte) : s.Tells (s.recPush src bytes) := by
  unfold State.recPush
  exact .ite (.of_tp rfl) (.refl s)

/-- A committed record takes a number in the queues that select it. -/
theorem commitRecord_tells (s : State) (cls kind : Nat) (bytes : List Byte) : s.Tells (s.commitRecord cls kind bytes) := by
  have hnum : ∀ (sel : Queue → Bool) (u : State),
      u.tp.queues = s.tp.queues.map (fun e => if e.2.selects cls sel then (e.1, { e.2 with next := e.2.next + 1 }) else e) →
      u.tp.out = s.tp.out → s.Tells u := by
    intro sel u hq ho
    refine ⟨by rw [ho], ?_⟩
    rw [State.openQueues, hq, List.map_map, State.openQueues]
    refine List.map_congr_left (fun e _ => ?_)
    simp only [Function.comp_apply]
    split <;> rfl
  unfold State.commitRecord State.commitSel
  dsimp only
  split
  · refine State.Tells.trans ?_ (recPush_tells _ _ _)
    exact hnum (fun _ => true) _ rfl rfl
  · exact hnum (fun _ => true) _ rfl rfl

theorem recPulse_tells (s : State) (input : Nat) (instant : Int) : s.Tells (s.recPulse input instant) := by
  unfold State.recPulse
  exact .ite (.of_tp rfl) (.refl s)

theorem emitEvent_tells (s : State) (kind page code a b count : Nat) : s.Tells (s.emitEvent kind page code a b count) := by
  have hmatch : s.Tells (s.recMatch kind page code) := by
    unfold State.recMatch
    exact .foldl _ _ (fun s k => .ite (recPulse_tells _ _ _) (.refl s)) s
  exact hmatch.trans (commitRecord_tells _ _ _ _)

theorem raiseEvt_tells (s : State) (p bit : Nat) : s.Tells (s.raiseEvt p bit) := by
  unfold State.raiseEvt
  refine .ite (.refl s) (.ite (.of_tp rfl) (.ite ?_ (.of_tp rfl)))
  exact ((setF_tells s (H.ISR p) _).trans (emitEvent_tells _ _ _ _ _ _ _)).trans (.of_tp rfl)

/-! ## The sequencer (R432) -/

theorem recTrigger_tells (s : State) (i : Int) : s.Tells (s.recTrigger i) := by
  unfold State.recTrigger
  split
  · refine .ite (.trans ?_ (emit_tells _ _)) ?_
    all_goals exact (raiseEvt_tells _ _ _).before rfl
  · exact setF_tells _ _ _
  · exact setF_tells _ _ _
  · exact .refl s

theorem sendFrame_tells (s : State) (p kind : Nat) (body : List Byte) : s.Tells (s.sendFrame p kind body) := by
  unfold State.sendFrame
  exact .ite ((emit_tells _ _).before rfl) (.refl s)

theorem sendChainTrigger_tells (s : State) (i : Int) : s.Tells (s.sendChainTrigger i) := by
  unfold State.sendChainTrigger
  refine .ite (.trans (.trans ?_ (sendFrame_tells _ _ _ _)) (sendFrame_tells _ _ _ _)) (.refl s)
  exact .of_tp rfl

theorem seqAction_tells (s : State) (act : Nat) (i : Int) : s.Tells (s.seqAction act i) := by
  unfold State.seqAction
  split
  · exact recTrigger_tells s i
  · exact (recTrigger_tells s i).trans (sendChainTrigger_tells _ i)
  · exact sendChainTrigger_tells s i
  all_goals exact .of_tp rfl

theorem seqStep_tells (s : State) : s.Tells s.seqStep := by
  unfold State.seqStep
  exact .ite ((seqAction_tells _ _ _).trans (setF_tells _ _ _)) (.ite ((seqAction_tells _ _ _).trans (setF_tells _ _ _)) (.refl s))

theorem runPulses_tells (n : Nat) (s : State) : s.Tells (State.runPulses n s) := by
  induction n generalizing s with
  | zero => exact .of_tp rfl
  | succ n ih =>
    unfold State.runPulses
    exact .ite (.refl s) ((seqStep_tells s).trans ((ih _).before rfl))

theorem settle_tells (s : State) : s.Tells s.settle := (runPulses_tells 8 s).trans (.of_tp rfl)

/-! ## What follows for an output and for a queue -/

theorem State.Tells.mem_out {s t : State} (h : s.Tells t) {o : Out} (ho : o ∈ s.tp.out) : o ∈ t.tp.out := h.out.subset ho

theorem tabFind_map {α β : Type} (f : α → β) (k : Nat) (l : List (Nat × α)) : tabFind k (l.map (fun e => (e.1, f e.2))) = (tabFind k l).map f := by
  induction l with
  | nil => rfl
  | cons e l ih =>
    rw [List.map_cons, tabFind_cons, ih, tabFind_cons]
    split <;> rfl

/-- A queue that is open stays open, as it was opened. -/
theorem State.Tells.queue {s t : State} (h : s.Tells t) (n : Nat) : (t.queue n).map Queue.unnumbered = (s.queue n).map Queue.unnumbered := by
  have hq := congrArg (tabFind n) h.queues
  rwa [State.openQueues, State.openQueues, tabFind_map, tabFind_map] at hq

/-- The sessions that queues belong to stay. -/
theorem State.Tells.session_of_mem {s t : State} (h : s.Tells t) {q : Nat × Queue} (hq : q ∈ t.tp.queues) :
    ∃ r ∈ s.tp.queues, r.2.session = q.2.session := by
  have hm : (q.1, q.2.unnumbered) ∈ s.openQueues := h.queues ▸ List.mem_map_of_mem hq
  obtain ⟨r, hr, he⟩ := List.mem_map.1 hm
  obtain ⟨-, hs⟩ := Prod.mk.inj he
  have hsess : r.2.unnumbered.session = q.2.unnumbered.session := by rw [hs]
  exact ⟨r, hr, hsess⟩

end Sys2Proof.Machine
end

section
/-! PROOFS. What a READ and a WRITE leave of the sessions, the ledger and its withheld answers: all of it. -/

namespace Sys2Proof.Machine

/-- The sessions, the command ledger and its withheld answers. -/
def State.ledger (s : State) : List (Nat × Session) × List LedgerEntry × List (LedgerEntry × Out) := (s.tp.sessions, s.tp.banks, s.tp.withheld)

theorem ledger_ite (c : Prop) [Decidable c] (a b : State) : (if c then a else b).ledger = if c then a.ledger else b.ledger :=
  apply_ite State.ledger c a b

theorem ledger_foldl {β : Type} {g : State → β → State} (hg : ∀ s b, (g s b).ledger = s.ledger) (l : List β) (s : State) :
    (l.foldl g s).ledger = s.ledger := by
  induction l generalizing s with
  | nil => rfl
  | cons b l ih => exact (ih (g s b)).trans (hg s b)

theorem ledger_of_tp {s t : State} (h : t.tp = s.tp) : t.ledger = s.ledger := by rw [State.ledger, h, State.ledger]

theorem ledger_of_spine {s t : State} (h : t.spine = s.spine) : t.ledger = s.ledger :=
  congrArg (fun x : Spine => (x.sessions, x.banks, x.withheld)) h

theorem ledger_of_reports {P : Nat → Prop} {s t : State} (h : s.Reports P t) : t.ledger = s.ledger := by
  rw [State.ledger, h.tp_sessions, h.tp_banks, h.tp_withheld, State.ledger]

theorem ledger_of_sends {P : Nat → Prop} {s t : State} (h : s.Sends P t) : t.ledger = s.ledger := by
  rw [State.ledger, h.tp_sessions, h.tp_banks, h.tp_withheld, State.ledger]

/-! ## Operations of every block -/

theorem poke_ledger (s : State) (a : Nat) (w : Word) : (s.poke a w).ledger = s.ledger := ledger_of_tp rfl
theorem setF_ledger (s : State) (f : Field) (v : Nat) : (s.setF f v).ledger = s.ledger := ledger_of_tp rfl
theorem setI_ledger (s : State) (f : Field) (v : Int) : (s.setI f v).ledger = s.ledger := ledger_of_tp rfl
theorem bump_ledger (s : State) (f : Field) (n : Nat) : (s.bump f n).ledger = s.ledger := ledger_of_tp rfl
theorem ramPut_ledger (s : State) (a : Nat) (w : Word) : (s.ramPut a w).ledger = s.ledger := ledger_of_tp rfl
theorem tick_ledger (s : State) : s.tick.ledger = s.ledger := ledger_of_tp rfl
theorem emit_ledger (s : State) (o : Out) : (s.emit o).ledger = s.ledger := by cases s; rfl
theorem mapCal_ledger (s : State) (g : CalState → CalState) : (s.mapCal g).ledger = s.ledger := ledger_of_tp rfl
theorem mapHka_ledger (s : State) (g : HkaState → HkaState) : (s.mapHka g).ledger = s.ledger := ledger_of_tp rfl
theorem mapExc_ledger (s : State) (g : ExcState → ExcState) : (s.mapExc g).ledger = s.ledger := ledger_of_tp rfl
theorem mapRec_ledger (s : State) (g : RecState → RecState) : (s.mapRec g).ledger = s.ledger := ledger_of_tp rfl
theorem mapTime_ledger (s : State) (g : TimeState → TimeState) : (s.mapTime g).ledger = s.ledger := ledger_of_tp rfl
theorem raiseEvt_ledger (s : State) (p bit : Nat) : (s.raiseEvt p bit).ledger = s.ledger := ledger_of_reports (raiseEvt_reports s p bit)
theorem recErr_ledger (s : State) (p code addr : Nat) : (s.recErr p code addr).ledger = s.ledger :=
  ledger_of_reports (recErr_reports s p code addr)
theorem saf_ledger (s : State) (x : SafetyState) : ({ s with saf := x } : State).ledger = s.ledger := ledger_of_tp rfl
theorem safetyEvt_ledger (s : State) (bit : Nat) : (s.safetyEvt bit).ledger = s.ledger := (raiseEvt_ledger _ _ _).trans (raiseEvt_ledger _ _ _)
theorem emitEvent_ledger (s : State) (kind page code a b count : Nat) : (s.emitEvent kind page code a b count).ledger = s.ledger :=
  ledger_of_reports (emitEvent_reports s kind page code a b count)
theorem recPulse_ledger (s : State) (input : Nat) (instant : Int) : (s.recPulse input instant).ledger = s.ledger :=
  ledger_of_reports (recPulse_reports s input instant)

theorem settle_ledger (s : State) : s.settle.ledger = s.ledger := by
  rw [State.ledger, State.settle_tp_sessions, State.settle_tp_banks, State.settle_tp_withheld, State.ledger]

theorem enterState_ledger (s : State) (d : DevState) (c : Nat) (o : List Nat) : (s.enterState d c o).ledger = s.ledger := by
  rw [State.ledger, State.enterState_tp_sessions, State.enterState_tp_banks, State.enterState_tp_withheld, State.ledger]

theorem ledger_ite_of {c : Prop} [Decidable c] {a b s : State} (ha : a.ledger = s.ledger) (hb : b.ledger = s.ledger) :
    (if c then a else b).ledger = s.ledger := by
  rw [ledger_ite, ha, hb, ite_self]

theorem keepEra_ledger (s : State) : s.keepEra.ledger = s.ledger := ledger_ite_of (ledger_of_tp rfl) rfl

theorem emptyPending_ledger (s : State) : s.emptyPending.ledger = s.ledger := ledger_of_tp rfl

theorem discardPage_ledger (s : State) (p : Nat) : (s.discardPage p).ledger = s.ledger := by
  unfold State.discardPage
  exact ledger_ite_of (ledger_of_tp rfl) (ledger_of_tp rfl)

theorem reloadChains_ledger (s : State) (predicted : Option Nat) : (s.reloadChains predicted).ledger = s.ledger := by
  have hload : ∀ (s : State) (c : Nat), (s.startLoad c).ledger = s.ledger := by
    intro s c
    unfold State.startLoad
    exact ledger_ite_of (ledger_of_tp rfl) (ledger_of_tp rfl)
  rw [State.reloadChains, ledger_ite, ledger_foldl (fun s c => by rw [ledger_ite, hload, ite_self]), ite_self]

/-! ## What a written word starts -/

theorem abortCommit_ledger (s : State) : s.abortCommit.ledger = s.ledger := by
  unfold State.abortCommit
  refine ledger_ite_of rfl ((reloadChains_ledger _ _).trans ((emitEvent_ledger _ _ _ _ _ _ _).trans (ledger_ite_of ?_ ?_)))
  · exact ledger_of_tp rfl
  · exact ledger_of_tp rfl

theorem armCommit_ledger (s : State) (sess mode : Nat) : (s.armCommit sess mode).ledger = s.ledger := by
  simp only [State.armCommit, reloadChains_ledger, setF_ledger]
  exact ledger_of_tp rfl

theorem loadTime_ledger (s : State) : s.loadTime.ledger = s.ledger := by
  rw [State.loadTime, ledger_of_spine (gmUpdate_spine _)]
  simp only [setF_ledger, State.stepCounter, mapTime_ledger, raiseEvt_ledger, setI_ledger, bump_ledger]

theorem calWrite_ledger (s : State) (w : Nat) : (s.calWrite w).ledger = s.ledger := by
  simp only [State.calWrite, ledger_ite, setF_ledger, mapCal_ledger, ledger_of_spine (calAbort_spine _), ite_self]

theorem i2cStart_ledger (s : State) (n : Nat) : (s.i2cStart n).ledger = s.ledger := by
  simp only [State.i2cStart, emit_ledger, setF_ledger]

theorem hkaStart_ledger (s : State) (delay : Nat) : (s.hkaStart delay).ledger = s.ledger := by
  simp only [State.hkaStart, ledger_ite, raiseEvt_ledger, bump_ledger, mapHka_ledger, ite_self]

theorem scalStart_ledger (s : State) : s.scalStart.ledger = s.ledger := by
  simp only [State.scalStart, setF_ledger, mapExc_ledger]

theorem recWrite_ledger (s : State) (w : Nat) : (s.recWrite w).ledger = s.ledger := by
  have harm : ∀ s : State, s.recArm.ledger = s.ledger := by
    intro s
    simp only [State.recArm, setF_ledger]
    rw [ledger_foldl (fun s k => setF_ledger s _ _), mapRec_ledger]
  have hdone : ∀ s : State, s.recDisarm.ledger = s.ledger := by
    intro s
    simp only [State.recDisarm, State.recDone, ledger_ite, raiseEvt_ledger, setF_ledger, mapRec_ledger, ite_self]
  simp only [State.recWrite, State.recReadout, ledger_ite, setF_ledger, mapRec_ledger, recPulse_ledger, harm, hdone, ite_self]

theorem specialWrite_ledger (s : State) (sess a w : Nat) : (s.specialWrite sess a w).ledger = s.ledger := by
  delta State.specialWrite
  refine ledger_ite_of ?commit (ledger_ite_of (ledger_ite_of rfl (recErr_ledger ..)) (ledger_ite_of ?set (ledger_ite_of (calWrite_ledger ..)
    (ledger_ite_of ?test (ledger_ite_of (ledger_ite_of (i2cStart_ledger ..) rfl) (ledger_ite_of ?select (ledger_ite_of ?clear
    (ledger_ite_of (ledger_ite_of (hkaStart_ledger ..) rfl) (ledger_ite_of ?cal (ledger_ite_of (ledger_ite_of (scalStart_ledger _) rfl)
    (ledger_ite_of (recWrite_ledger ..) rfl)))))))))))
  case commit => simp only [ledger_ite, armCommit_ledger, abortCommit_ledger, ite_self]
  case set => exact ledger_ite_of rfl (ledger_ite_of (setF_ledger ..) (loadTime_ledger _))
  case test => exact ledger_ite_of (ledger_of_tp rfl) rfl
  case select => exact (saf_ledger _ _).trans (by simp only [setF_ledger])
  case clear => exact ledger_ite_of ((safetyEvt_ledger _ _).trans (ledger_of_tp rfl)) rfl
  case cal => exact ledger_ite_of (ledger_of_tp rfl) rfl

/-! ## The words of a page -/

theorem plainWrite_ledger (s : State) (h w : Nat) : (s.plainWrite h w).ledger = s.ledger := by
  simp only [State.plainWrite, ledger_ite, poke_ledger, ite_self]

theorem lockWrite_ledger (s : State) (p h w : Nat) : (s.lockWrite p h w).ledger = s.ledger := by
  simp only [State.lockWrite, ledger_ite, recErr_ledger, poke_ledger, raiseEvt_ledger, ite_self]

theorem freezePage_ledger (s : State) (p : Nat) : (s.freezePage p).ledger = s.ledger := by
  unfold State.freezePage
  refine ledger_foldl (fun s h => ?_) _ _
  exact ledger_of_tp rfl

theorem thawPage_ledger (s : State) (p : Nat) : (s.thawPage p).ledger = s.ledger := ledger_of_tp rfl

theorem softEngine_ledger (s : State) (p : Nat) : (s.softEngine p).ledger = s.ledger := by
  unfold State.softEngine
  refine ledger_ite_of (ledger_of_spine (countReserves_spine _)) (ledger_ite_of (ledger_of_tp rfl) (ledger_ite_of ?_ rfl))
  rw [ledger_foldl (fun s k => poke_ledger s _ _)]
  exact ledger_of_tp rfl

theorem softReset_ledger (s : State) (p : Nat) : (s.softReset p).ledger = s.ledger := by
  unfold State.softReset
  refine ledger_ite_of rfl ?_
  simp only [setF_ledger, softEngine_ledger]
  exact (ledger_of_tp rfl).trans ((discardPage_ledger _ p).trans (keepEra_ledger s))

theorem headerWrite_ledger (s old : State) (p o w : Nat) : (s.headerWrite old p o w).ledger = s.ledger := by
  unfold State.headerWrite
  refine ledger_ite_of ?_ (ledger_ite_of (ledger_ite_of (ledger_of_tp rfl) rfl) (ledger_ite_of (ledger_foldl (fun s b => raiseEvt_ledger s p b) _ _)
    (ledger_ite_of (discardPage_ledger _ _) rfl)))
  simp only [ledger_ite, softReset_ledger, freezePage_ledger, thawPage_ledger, ite_self]

theorem trimWrite_ledger (s : State) (e a w : Nat) : (s.trimWrite e a w).ledger = s.ledger := by
  rw [State.trimWrite, ledger_of_spine (countReserves_spine _), mapCal_ledger, plainWrite_ledger]

theorem doWord_ledger (s : State) (sess a w : Nat) : (s.doWord sess a w).ledger = s.ledger := by
  have hsh : ∀ h, (if s.isShWrite h w then s.shWrite sess h w else s).ledger = s.ledger := fun h => ledger_ite_of (ledger_of_tp rfl) rfl
  unfold State.doWord
  split
  · exact ramPut_ledger _ _ _
  · exact ramPut_ledger _ _ _
  · exact trimWrite_ledger _ _ _ _
  · dsimp only
    split
    · rfl
    · next h _ =>
      split
      · simp only [ledger_ite, headerWrite_ledger, specialWrite_ledger, lockWrite_ledger, plainWrite_ledger, ite_self]
        simpa only [ledger_ite] using hsh h
      · exact hsh h

theorem doWords_ledger (s : State) (sess : Nat) (l : List (Nat × Nat)) : (s.doWords sess l).ledger = s.ledger := by
  rw [State.doWords]
  exact ledger_foldl (fun s e => doWord_ledger s sess e.1 e.2) l s

theorem doRequest_ledger (s : State) (req : Nat) : (s.doRequest req).ledger = s.ledger := by
  unfold State.doRequest
  split
  · exact (enterState_ledger _ _ _ _).trans (ledger_of_tp rfl)
  · exact ledger_of_tp rfl
  · exact enterState_ledger _ _ _ _
  · rfl

/-! ## Words that are read -/

theorem afterRead_ledger (s : State) (a : Nat) : (s.afterRead a).ledger = s.ledger := by
  simp only [State.afterRead, ledger_ite, tick_ledger, poke_ledger, ite_self]

theorem readWords_ledger (n a : Nat) (s : State) : (State.readWords n a s).2.ledger = s.ledger := by
  induction n generalizing a s with
  | zero => rfl
  | succ n ih => exact (ih _ _).trans (afterRead_ledger s a)

/-- A READ changes registers of the housekeeping converter only. -/
theorem afterRead_getF (s : State) (a : Nat) {f : Field} (h : f.addr < 0x17000) : (s.afterRead a).getF f = s.getF f := by
  have hpoke : ∀ w, (0x17188 ≤ a ∧ a < 0x171C8) ∨ a = 0x171C8 → (s.poke a w).getF f = s.getF f :=
    fun w ha => getF_congr (peek_poke_other s w (by omega))
  unfold State.afterRead
  split
  · next ha =>
    split
    · exact (State.tick_getF _ f).trans (hpoke _ ha)
    · exact hpoke _ ha
  · split
    · exact State.tick_getF s f
    · rfl

theorem readWords_getF (n a : Nat) (s : State) {f : Field} (h : f.addr < 0x17000) : (State.readWords n a s).2.getF f = s.getF f := by
  induction n generalizing a s with
  | zero => rfl
  | succ n ih => exact (ih _ _).trans (afterRead_getF s a h)

end Sys2Proof.Machine
end

section
/-! PROOFS. A command of a session that is performed (O56): its entry, its number, its answer. -/

namespace Sys2Proof.Machine

/-! ## What taking a command leaves -/

section
variable (s : State) (i : Nat)

@[simp] theorem taken_getF (f : Field) : (s.taken i).getF f = s.getF f := by obtain ⟨l, h⟩ := taken_eq s i; rw [h]; rfl
@[simp] theorem taken_peek (a : Nat) : (s.taken i).peek a = s.peek a := by obtain ⟨l, h⟩ := taken_eq s i; rw [h]; rfl
@[simp] theorem taken_ramAt (a : Nat) : (s.taken i).ramAt a = s.ramAt a := by obtain ⟨l, h⟩ := taken_eq s i; rw [h]; rfl
@[simp] theorem taken_on (d : Nat) : (s.taken i).on d = s.on d := by obtain ⟨l, h⟩ := taken_eq s i; rw [h]; rfl
@[simp] theorem taken_dev : (s.taken i).dev = s.dev := congrArg DevState.ofCode (taken_getF s i _)
@[simp] theorem taken_epoch : (s.taken i).epoch = s.epoch := taken_getF s i _
@[simp] theorem taken_now : (s.taken i).now = s.now := by obtain ⟨l, h⟩ := taken_eq s i; rw [h]; rfl
@[simp] theorem taken_regs : (s.taken i).regs = s.regs := by obtain ⟨l, h⟩ := taken_eq s i; rw [h]; rfl
@[simp] theorem taken_ram : (s.taken i).ram = s.ram := by obtain ⟨l, h⟩ := taken_eq s i; rw [h]; rfl
@[simp] theorem taken_shadow : (s.taken i).shadow = s.shadow := by obtain ⟨l, h⟩ := taken_eq s i; rw [h]; rfl
@[simp] theorem taken_sys : (s.taken i).sys = s.sys := by obtain ⟨l, h⟩ := taken_eq s i; rw [h]; rfl
@[simp] theorem taken_rst : (s.taken i).rst = s.rst := by obtain ⟨l, h⟩ := taken_eq s i; rw [h]; rfl
@[simp] theorem taken_saf : (s.taken i).saf = s.saf := by obtain ⟨l, h⟩ := taken_eq s i; rw [h]; rfl
@[simp] theorem taken_rcd : (s.taken i).rcd = s.rcd := by obtain ⟨l, h⟩ := taken_eq s i; rw [h]; rfl
@[simp] theorem taken_queues : (s.taken i).tp.queues = s.tp.queues := by obtain ⟨l, h⟩ := taken_eq s i; rw [h]; rfl
@[simp] theorem taken_rolesOf (x : Session) : (s.taken i).rolesOf x = s.rolesOf x := by simp [State.rolesOf]
@[simp] theorem taken_accessRefused (a : Nat) : (s.taken i).accessRefused a = s.accessRefused a := by
  simp only [State.accessRefused, taken_pageOn]

end

/-- The session keeps its number. -/
theorem taken_session {s : State} {i : Nat} {x : Session} (hx : s.session i = some x) :
    ∃ y, (s.taken i).session i = some y ∧ y.nextSeq = x.nextSeq := by
  have hconf : ∃ y, (s.confirmSession i).session i = some y ∧ y.nextSeq = x.nextSeq := by
    unfold State.confirmSession
    rw [show tabFind i s.tp.sessions = some x from hx]
    exact ⟨_, tabFind_tabSet_self _ _ _, rfl⟩
  obtain ⟨y, hy, hn⟩ := hconf
  unfold State.taken
  split
  · exact ⟨x, hx, rfl⟩
  · unfold State.renewSession
    rw [show tabFind i (s.confirmSession i).tp.sessions = some y from hy]
    exact ⟨_, tabFind_tabSet_self _ _ _, hn⟩

/-- Taking a command leaves what the ledger holds and withholds. -/
theorem taken_ledger (s : State) (i : Nat) : (s.taken i).ledger.2 = s.ledger.2 := by obtain ⟨l, h⟩ := taken_eq s i; rw [h]; rfl

/-! ## The answer -/

/-- A command that is recorded and answered leaves the queues, and its session expects the number after it. -/
theorem finish_transport {s : State} {y : Session} (x : Session) (dest : Endpoint) (i seq op : Nat) (payload : List Byte) (r : Reply)
    (hw : s.tp.withheld = []) (hu : s.uncopied < 2048) (hy : s.session i = some y) :
    (s.finish x dest i seq op payload r).tp.queues = s.tp.queues ∧
      (s.finish x dest i seq op payload r).session i = some { y with nextSeq := max y.nextSeq (seq + 1) } := by
  have hc : s.consume i seq = s.mapTp (fun t => { t with
      accepted := t.accepted.filter (fun a => !(a.session = i && a.seq = seq))
      sessions := tabSet i { y with nextSeq := max y.nextSeq (seq + 1) } t.sessions }) := by
    unfold State.consume State.mapSession
    rw [show (s.mapTp (fun t => { t with accepted := t.accepted.filter (fun a => !(a.session = i && a.seq = seq)) })).session i = some y from hy]
    rfl
  have hroom : ((s.consume i seq).tp.withheld.isEmpty && decide ((s.consume i seq).uncopied < 2048)) = true := by
    rw [hc]
    simp only [State.mapTp, hw, List.isEmpty_nil, Bool.true_and, decide_eq_true_eq]
    exact hu
  unfold State.finish State.acknowledge
  rw [if_pos hroom, hc]
  exact ⟨rfl, tabFind_tabSet_self _ _ _⟩

/-- A command's turn has come: commands are performed and none is withheld, and where commands wait it is the first of them. -/
structure Turn (s : State) (i op seq : Nat) (x : Session) (payload : List Byte) : Prop where
  performs : s.noCommands = false
  served : s.unserved = false
  session : s.session i = some x
  first : s.waiting.all (fun a => a.isRow i op payload) = true
  number : (s.waiting.map (fun a => a.seq)).getD x.nextSeq = seq
  small : seq < 2 ^ 32
  answers : s.tp.withheld = []
  room : s.uncopied < 2048

/-- To whom a command is answered. -/
abbrev State.answersTo (s : State) (x : Session) : Endpoint := (s.waiting.map (fun a => a.src)).getD x.peer

/-- A command has been performed: its entry, of status 0, is the ledger's newest, and its answer is among the outputs. -/
structure Performed (i op seq : Nat) (x : Session) (reply : Out) (u : State) : Prop where
  entry : ∃ e, u.tp.banks.head? = some e ∧ e.session = i ∧ e.opcode = op ∧ e.gen = x.gen ∧ e.seq = seq ∧ e.status = 0
  answered : reply ∈ u.tp.out

/-- Reports keep it so. -/
theorem Performed.mono {i op seq : Nat} {x : Session} {reply : Out} {s u : State} (h : Performed i op seq x reply s)
    (hb : u.tp.banks = s.tp.banks) (ht : s.Tells u) : Performed i op seq x reply u :=
  ⟨by rw [hb]; exact h.entry, ht.mem_out h.answered⟩

/-- What a command leaves whose body replies with status 0 and leaves sessions and ledger alone: what its body leaves, with the answer on its
way. -/
theorem command_finishes {s t : State} {i op seq : Nat} {x : Session} {payload : List Byte} {body : Session → State → Option Reply × State}
    {r : Reply} (after : State → State) (h : Turn s i op seq x payload) (hgood : payloadGood op payload = true)
    (hb : body x (s.taken i) = (some r, t)) (hl : t.ledger = (s.taken i).ledger) (h0 : r.status = 0) :
    ∃ tp net, s.command i op payload body after = after { t with tp := tp, net := net } ∧ tp.queues = t.tp.queues ∧ tp.withheld = [] ∧
      (tabFind i tp.sessions).map (fun y => y.nextSeq) = some (max x.nextSeq (seq + 1)) ∧
      Performed i op seq x (x.answer (s.answersTo x) i seq op 0 0 t.epoch r.payload) { t with tp := tp, net := net } := by
  have hlt : t.ledger.2 = s.ledger.2 := (congrArg Prod.snd hl).trans (taken_ledger s i)
  obtain ⟨hbanks, hheld⟩ := Prod.ext_iff.1 hlt
  obtain ⟨y, hy, hn⟩ := taken_session h.session
  have hty : t.session i = some y := (congrArg (fun z => tabFind i (Prod.fst z)) hl).trans hy
  have hw : t.tp.withheld = [] := hheld.trans h.answers
  have hu : t.uncopied < 2048 := by
    rw [State.uncopied, show t.tp.banks = s.tp.banks from hbanks]
    exact h.room
  obtain ⟨tp, net, hf, hb', hw', ho⟩ := finish_eq x (s.answersTo x) i seq op payload r hw hu
  obtain ⟨hq, hsess⟩ := finish_transport x (s.answersTo x) i seq op payload r hw hu hty
  rw [hf] at hq hsess
  refine ⟨tp, net, ?_, hq, hw', ?_, ⟨_, congrArg List.head? hb', rfl, rfl, rfl, rfl, h0⟩, ?_⟩
  · rw [command_answered h.performs h.served h.session h.first h.number h.small hgood hb, hf]
  · rw [show tabFind i tp.sessions = _ from hsess, Option.map_some, hn]
  · show _ ∈ tp.out
    rw [ho, h0]
    exact List.mem_cons_self

/-- The same at the command's end, where nothing follows the answer. -/
theorem command_performed {s t : State} {i op seq : Nat} {x : Session} {payload : List Byte} {body : Session → State → Option Reply × State}
    {r : Reply} {after : State → State} (h : Turn s i op seq x payload) (hgood : payloadGood op payload = true)
    (hb : body x (s.taken i) = (some r, t)) (hl : t.ledger = (s.taken i).ledger) (h0 : r.status = 0) (hafter : ∀ u, after u = u) :
    ∃ tp net, answer (s.command i op payload body after) = .next (State.settle { t with tp := tp, net := net }) ∧ tp.queues = t.tp.queues ∧
      ((State.settle { t with tp := tp, net := net }).session i).map (fun y => y.nextSeq) = some (max x.nextSeq (seq + 1)) ∧
      Performed i op seq x (x.answer (s.answersTo x) i seq op 0 0 t.epoch r.payload) (State.settle { t with tp := tp, net := net }) := by
  obtain ⟨tp, net, hc, hq, -, hn, hp⟩ := command_finishes after h hgood hb hl h0
  refine ⟨tp, net, by rw [hc, hafter]; rfl, hq, ?_, hp.mono (State.settle_tp_banks _) (settle_tells _)⟩
  rw [State.session, State.settle_tp_sessions]
  exact hn

end Sys2Proof.Machine
end

section
/-! PROOFS. The commands of a session on itself, its queues and the ledger (O56): SUBSCRIBE, UNSUBSCRIBE, QUERY, NOP, CLOSE. -/

namespace Sys2Proof.Machine

/-! ## A command acknowledged -/

/-- A command of session `i` has been performed and its number used up. -/
structure Acknowledged (s : State) (i op seq : Nat) (x : Session) (payload : List Byte) (u : State) : Prop where
  done : Performed i op seq x (x.answer (s.answersTo x) i seq op 0 0 s.epoch payload) u
  number : (u.session i).map (fun y => y.nextSeq) = some (max x.nextSeq (seq + 1))

/-- A command whose body keeps sessions, ledger and epoch, and nothing follows, leaves what its body leaves and is acknowledged. -/
theorem command_acknowledged {s t : State} {i op seq : Nat} {x : Session} {payload : List Byte} {body : Session → State → Option Reply × State}
    {answered : List Byte} (h : Turn s i op seq x payload) (hgood : payloadGood op payload = true)
    (hb : body x (s.taken i) = (some (Reply.of 0 answered), t)) (hl : t.ledger = (s.taken i).ledger) (he : t.epoch = s.epoch) :
    ∃ tp net, answer (s.command i op payload body id) = .next (State.settle { t with tp := tp, net := net }) ∧ tp.queues = t.tp.queues ∧
      Acknowledged s i op seq x answered (State.settle { t with tp := tp, net := net }) := by
  obtain ⟨tp, net, hu, hq, hn, hp⟩ := command_performed (after := id) h hgood hb hl rfl (fun _ => rfl)
  exact ⟨tp, net, hu, hq, he ▸ hp, hn⟩

/-- Under `CPU_AUTH.REQUIRE` only an authenticated session may change what is served to it (R78). -/
theorem authenticated_or_free {s : State} {x : Session} (h : x.slot.isSome = true ∨ s.getF F.CPU_AUTH.REQUIRE = 0) :
    (x.slot.isNone && s.flag F.CPU_AUTH.REQUIRE) = false := by
  obtain h | h := h
  · obtain ⟨k, hk⟩ := Option.isSome_iff_exists.1 h
    rw [hk]
    rfl
  · rw [State.flag, h]
    exact Bool.and_false _

/-! ## NOP and QUERY -/

/-- NOP has no effect. -/
theorem nop_acknowledged {s : State} {i seq : Nat} {x : Session} (h : Turn s i 0x21 seq x []) (hs : s.Settled) :
    ∃ u, exec (.nop i) s = .next u ∧ Acknowledged s i 0x21 seq x [] u ∧ u.regs = s.regs ∧ u.ram = s.ram ∧ u.shadow = s.shadow := by
  obtain ⟨tp, net, hu, -, ha⟩ := command_acknowledged (body := okBody) h rfl rfl rfl (taken_epoch s i)
  refine ⟨_, hu, ha, ?_⟩
  rw [settle_of_no_pulses (by simpa using hs.2)]
  exact ⟨taken_regs s i, taken_ram s i, taken_shadow s i⟩

/-- The ledger answers alike while a command is taken. -/
theorem taken_ledgerEntry (s : State) (i sess gen seq : Nat) : (s.taken i).ledgerEntry sess gen seq = s.ledgerEntry sess gen seq := by
  obtain ⟨l, h⟩ := taken_eq s i
  rw [h]
  rfl

theorem query_payloadGood (i g n : Nat) : payloadGood 0x20 (leBytes 2 i ++ leBytes 4 g ++ leBytes 4 n) = true := by
  simp [payloadGood]

/-- QUERY answers the entry asked for (R315). -/
theorem query_acknowledged {s : State} {i seq ofSess ofGen ofSeq : Nat} {x : Session} {g : LedgerEntry}
    (h : Turn s i 0x20 seq x (leBytes 2 ofSess ++ leBytes 4 ofGen ++ leBytes 4 ofSeq)) (hg : s.ledgerEntry ofSess ofGen ofSeq = some g) :
    ∃ u, exec (.query i ofSess ofGen ofSeq) s = .next u ∧ Acknowledged s i 0x20 seq x (entryBytes64 g) u := by
  have hb : queryBody ofSess ofGen ofSeq x (s.taken i) = (some (Reply.of 0 (entryBytes64 g)), s.taken i) := by
    rw [queryBody, taken_ledgerEntry, hg]
  obtain ⟨tp, net, hu, -, ha⟩ := command_acknowledged h (query_payloadGood _ _ _) hb rfl (taken_epoch s i)
  exact ⟨_, hu, ha⟩

/-! ## UNSUBSCRIBE -/

theorem unsubscribe_payloadGood (q : Nat) : payloadGood 0x11 (leBytes 2 q ++ leBytes 2 0) = true := by
  simp [payloadGood, msgLe, leBytes, ofLe]

/-- UNSUBSCRIBE releases a queue of the session (R320). -/
theorem unsubscribe_acknowledged {s : State} {i seq queue : Nat} {x : Session} {q : Queue} (h : Turn s i 0x11 seq x (leBytes 2 queue ++ leBytes 2 0))
    (hq : s.queue queue = some q) (hown : q.session = i) (hmay : x.slot.isSome = true ∨ s.getF F.CPU_AUTH.REQUIRE = 0) :
    ∃ u, exec (.unsubscribe i queue) s = .next u ∧ Acknowledged s i 0x11 seq x [] u ∧ u.queue queue = none := by
  have hb : unsubscribeBody i queue x (s.taken i) = (some (Reply.of 0 []), (s.taken i).dropQueue queue) := by
    have hqt : (s.taken i).queue queue = some q := (congrArg (tabFind queue) (taken_queues s i)).trans hq
    have hfree : (x.slot.isNone && (s.taken i).flag F.CPU_AUTH.REQUIRE) = false := by
      rw [State.flag, taken_getF]
      exact authenticated_or_free hmay
    rw [unsubscribeBody, hfree, hqt]
    simp [hown]
  obtain ⟨tp, net, hu, hqs, ha⟩ := command_acknowledged h (unsubscribe_payloadGood queue) hb rfl (taken_epoch s i)
  refine ⟨_, hu, ha, ?_⟩
  have hgone : State.queue { (s.taken i).dropQueue queue with tp := tp, net := net } queue = none :=
    (congrArg (tabFind queue) hqs).trans (tabFind_tabDel_self _ _)
  have hk := (settle_tells { (s.taken i).dropQueue queue with tp := tp, net := net }).queue queue
  rwa [hgone, Option.map_none, Option.map_eq_none_iff] at hk

/-! ## SUBSCRIBE -/

/-- The free index is the first that is not taken. -/
theorem tabFree_of_first {β : Type} {m n : Nat} {l : List (Nat × β)} (hn : n < m) (hfree : tabFind n l = none)
    (htaken : ∀ k, k < n → (tabFind k l).isSome = true) : tabFree m l = some n := by
  rw [tabFree, List.find?_range_eq_some]
  refine ⟨by simp [hfree], List.mem_range.2 hn, fun k hk => ?_⟩
  simp [htaken k hk]

/-- SUBSCRIBE opens a queue of its class under the first free index (R318, R322). -/
theorem subscribe_acknowledged {s : State} {i seq n : Nat} {x : Session} {sub : Subscription} (h : Turn s i 0x10 seq x (subscribeBytes sub))
    (hgood : payloadGood 0x10 (subscribeBytes sub) = true) (hsub : subscriptionGood (s.withDefaults sub) x.peer.ip6 = true)
    (hroom : s.tp.queues.length < 16384) (hn : n < 16384) (hfree : tabFind n s.tp.queues = none)
    (htaken : ∀ k, k < n → (tabFind k s.tp.queues).isSome = true) :
    ∃ u y, exec (.subscribe i sub) s = .next u ∧ Acknowledged s i 0x10 seq x (leBytes 2 n ++ leBytes 4 y.gen ++ leBytes 8 1) u ∧
      u.queue n = some y ∧ y.session = i ∧ y.cls = sub.cls ∧ y.sent = 0 ∧ y.acked = 0 := by
  let v := s.taken i
  have hdef : v.withDefaults sub = s.withDefaults sub := by simp only [State.withDefaults, v, taken_getF]
  let y := v.newQueue i x (s.withDefaults sub) n
  let t := v.mapTp (fun t => { t with queues := tabSet n y t.queues, qgens := tabSet n (countAt n t.qgens + 1) t.qgens })
  have hb : subscribeBody i sub x v = (some (Reply.of 0 (leBytes 2 n ++ leBytes 4 y.gen ++ leBytes 8 1)), t) := by
    have hq : v.tp.queues = s.tp.queues := taken_queues s i
    simp only [subscribeBody, hdef, hsub, hq, tabFree_of_first hn hfree htaken, Nat.not_le.2 hroom]
    rfl
  obtain ⟨tp, net, hu, hqs, ha⟩ := command_acknowledged h hgood hb rfl (taken_epoch s i)
  have hnew : State.queue { t with tp := tp, net := net } n = some y := (congrArg (tabFind n) hqs).trans (tabFind_tabSet_self _ _ _)
  have hk := (settle_tells { t with tp := tp, net := net }).queue n
  rw [hnew, Option.map_some, Option.map_eq_some_iff] at hk
  obtain ⟨z, hz, hzy⟩ := hk
  have hgen : z.unnumbered.gen = y.unnumbered.gen := congrArg Queue.gen hzy
  refine ⟨_, z, hu, (show z.gen = y.gen from hgen) ▸ ha, hz, ?_, ?_, ?_, ?_⟩
  · exact congrArg Queue.session hzy
  · exact congrArg Queue.cls hzy
  · exact congrArg Queue.sent hzy
  · exact congrArg Queue.acked hzy

/-! ## CLOSE -/

/-- A cancelled pending set is reported, and no more. -/
theorem cancelPending_tells (s : State) (code : Nat) : s.Tells (s.cancelPending code) := by
  unfold State.cancelPending
  refine .ite (.of_tp rfl) ?_
  exact (emitEvent_tells _ _ _ _ _ _ _).before rfl

theorem cancelPending_ledger (s : State) (code : Nat) : (s.cancelPending code).ledger = s.ledger := by
  unfold State.cancelPending
  refine ledger_ite_of (emptyPending_ledger s) ?_
  rw [emitEvent_ledger, setF_ledger, emptyPending_ledger]

/-- The transport of a session that ends: the session, its waiting commands and its queues are gone. -/
def State.withoutSession (s : State) (i : Nat) : State :=
  s.mapTp (fun t => { t with
    sessions := tabDel i t.sessions
    accepted := t.accepted.filter (fun a => a.session ≠ i)
    queues := t.queues.filter (fun e => e.2.session ≠ i) })

theorem endSession_tells (s : State) (i : Nat) : (s.withoutSession i).Tells (s.endSession i) :=
  .ite (cancelPending_tells _ 2) (.refl _)

theorem endSession_ledger (s : State) (i : Nat) : (s.endSession i).ledger = (s.withoutSession i).ledger :=
  ledger_ite_of (cancelPending_ledger _ 2) rfl

/-- CLOSE ends the session with its queues (R310). -/
theorem close_performed {s : State} {i seq : Nat} {x : Session} (h : Turn s i 0x22 seq x []) :
    ∃ u, exec (.closeSession i) s = .next u ∧ Performed i 0x22 seq x (x.answer (s.answersTo x) i seq 0x22 0 0 s.epoch []) u ∧
      u.session i = none ∧ ∀ q ∈ u.tp.queues, q.2.session ≠ i := by
  obtain ⟨tp, net, hc, -, hw, -, hp⟩ :=
    command_finishes (body := okBody) (fun t => if t.tp.withheld.isEmpty then t.endSession i else t) h rfl rfl rfl rfl
  let f : State := { s.taken i with tp := tp, net := net }
  have hend : s.command i 0x22 [] okBody (fun t => if t.tp.withheld.isEmpty then t.endSession i else t) = f.endSession i :=
    hc.trans (if_pos (by rw [show f.tp.withheld = [] from hw]; rfl))
  have htells : (f.withoutSession i).Tells (f.endSession i).settle := (endSession_tells f i).trans (settle_tells _)
  have hledger : (f.endSession i).settle.ledger = (f.withoutSession i).ledger := (settle_ledger _).trans (endSession_ledger f i)
  refine ⟨(f.endSession i).settle, congrArg answer hend, ?_, ?_, fun q hq => ?_⟩
  · rw [← taken_epoch s i]
    have hf : Performed i 0x22 seq x (x.answer (s.answersTo x) i seq 0x22 0 0 (s.taken i).epoch []) (f.withoutSession i) := ⟨hp.entry, hp.answered⟩
    exact hf.mono (congrArg (fun z => z.2.1) hledger) htells
  · have hs : (f.endSession i).settle.tp.sessions = tabDel i f.tp.sessions := congrArg Prod.fst hledger
    rw [State.session, hs, tabFind_tabDel_self]
  · obtain ⟨r, hr, hrq⟩ := htells.session_of_mem hq
    have hkept : r ∈ f.tp.queues.filter (fun e => e.2.session ≠ i) := hr
    rw [← hrq]
    simpa using (List.mem_filter.1 hkept).2

end Sys2Proof.Machine
end

section
/-! PROOFS. The commands of a session that service and provision the device (O56): IMAGE_WRITE, SLOT_SELECT, FUSE_PROGRAM, KEY_SLOT,
PROVISION. -/

namespace Sys2Proof.Machine

/-- A session with the role a command calls for. -/
theorem withRole_of_role {s : State} {i role : Nat} {x : Session} (body : Session → State → Option Reply × State) (h : s.rolesOf x &&& role = role) :
    withRole role body x (s.taken i) = body x (s.taken i) := by
  rw [withRole, taken_rolesOf, if_pos h]

/-! ## Images (R75, R235) -/

theorem imageWrite_payloadGood (target offset : Nat) (last : Bool) {data : List Byte} (h4 : 4 ≤ data.length) (h8 : data.length ≤ 8192) :
    payloadGood 0x30 (leBytes 1 target ++ leBytes 1 (if last then 1 else 0) ++ leBytes 2 0 ++ leBytes 4 offset ++ data) = true := by
  cases last <;> simp [payloadGood, msgLe, leBytes, ofLe, between] <;> omega

/-- The NOR image slots with the data in the slot that `target` names. -/
def RstState.imagePut (r : RstState) (target offset : Nat) (data : List Byte) : RstState :=
  if target = 1 then { r with nor0 := putBytes offset data r.nor0 } else { r with nor1 := putBytes offset data r.nor1 }

/-- A NOR slot calls for FIRMWARE, in the recovery service too. -/
theorem exec_norWrite (s : State) (i : Nat) {target : Nat} (last : Bool) (offset : Nat) (data : List Byte) (h : target ≠ 0) :
    exec (.imageWrite i target last offset data) s = answer (s.command i 0x30
      (leBytes 1 target ++ leBytes 1 (if last then 1 else 0) ++ leBytes 2 0 ++ leBytes 4 offset ++ data) (withRole 4 (norBody target offset data))
      id) := by
  have hrole : (if target = 0 then 2 else 4) ||| (if s.recovery then 4 else 0) = 4 := by
    rw [if_neg h]
    cases s.recovery <;> rfl
  show answer (doImageWrite i target last offset data s) = _
  rw [doImageWrite, hrole, if_neg h]

/-- The staging slots call for SAFETY outside the recovery service. -/
theorem exec_stagingWrite {s : State} (i : Nat) (last : Bool) (offset : Nat) (data : List Byte) (h : s.recovery = false) :
    exec (.imageWrite i 0 last offset data) s = answer (s.command i 0x30
      (leBytes 1 0 ++ leBytes 1 (if last then 1 else 0) ++ leBytes 2 0 ++ leBytes 4 offset ++ data) (withRole 2 (stagingBody last offset data))
      id) := by
  show answer (doImageWrite i 0 last offset data s) = _
  rw [doImageWrite, h]
  rfl

/-- IMAGE_WRITE stores its data in a NOR slot that was not booted. -/
theorem norWrite_acknowledged {s : State} {i seq target offset : Nat} {x : Session} {last : Bool} {data : List Byte}
    (h : Turn s i 0x30 seq x (leBytes 1 target ++ leBytes 1 (if last then 1 else 0) ++ leBytes 2 0 ++ leBytes 4 offset ++ data))
    (hrole : s.rolesOf x &&& 4 = 4) (ht : target = 1 ∨ target = 2) (h4 : 4 ≤ data.length) (h8 : data.length ≤ 8192)
    (himg : s.rst.image ≠ some (target - 1)) :
    ∃ u, exec (.imageWrite i target last offset data) s = .next u ∧ Acknowledged s i 0x30 seq x [] u ∧ u.rst = s.rst.imagePut target offset data := by
  have hbody : norBody target offset data x (s.taken i) =
      (some (Reply.of 0 []), (s.taken i).mapRst (fun r => r.imagePut target offset data)) := by
    rw [norBody, if_neg (by omega), taken_rst, if_neg himg]
    rfl
  obtain ⟨tp, net, hu, -, ha⟩ :=
    command_acknowledged h (imageWrite_payloadGood target offset last h4 h8) ((withRole_of_role _ hrole).trans hbody) rfl (taken_epoch s i)
  refine ⟨_, (exec_norWrite s i last offset data (by omega)).trans hu, ha, ?_⟩
  rw [State.settle_rst]
  exact congrArg (fun r => RstState.imagePut r target offset data) (taken_rst s i)

/-- Clearing the staging slots changes pages of the safety channels only. -/
theorem clearStaging_spine (s : State) : s.clearStaging.spine = s.spine := showStaged_spine _

theorem clearStaging_saf (s : State) : s.clearStaging.saf = { s.saf with staging := [], stagingB := [], staged := none, stagedB := none } := rfl

/-- The state whose staging slots take data: where both are empty, what was staged before is dropped. -/
def State.stagingReady (s : State) : State := if s.saf.staging.isEmpty && s.saf.stagingB.isEmpty then s.clearStaging else s

theorem stagingReady_spine (s : State) : s.stagingReady.spine = s.spine := by
  unfold State.stagingReady
  split
  · exact clearStaging_spine s
  · rfl

theorem stagingReady_saf (s : State) : s.stagingReady.saf.staging = s.saf.staging ∧ s.stagingReady.saf.stagingB = s.saf.stagingB := by
  unfold State.stagingReady
  split
  · next h =>
    obtain ⟨ha, hb⟩ := Bool.and_eq_true_iff.1 h
    rw [clearStaging_saf, List.isEmpty_iff.1 ha, List.isEmpty_iff.1 hb]
    exact ⟨rfl, rfl⟩
  · exact ⟨rfl, rfl⟩

/-- IMAGE_WRITE stores its data in the staging slots of both channels. -/
theorem stagingWrite_acknowledged {s : State} {i seq offset : Nat} {x : Session} {data : List Byte}
    (h : Turn s i 0x30 seq x (leBytes 1 0 ++ leBytes 1 (if false then 1 else 0) ++ leBytes 2 0 ++ leBytes 4 offset ++ data))
    (hrole : s.rolesOf x &&& 2 = 2) (h4 : 4 ≤ data.length) (h8 : data.length ≤ 8192) (hrec : s.recovery = false) (hgrade : s.gradeS = true)
    (h1 : s.on 1 = true) (h2 : s.on 2 = true) (harm : s.activationArmed = false) (hroom : offset + data.length ≤ 2 ^ 20) :
    ∃ u, exec (.imageWrite i 0 false offset data) s = .next u ∧ Acknowledged s i 0x30 seq x [] u ∧
      u.saf.staging = putBytes offset data s.saf.staging ∧ u.saf.stagingB = putBytes offset data s.saf.stagingB := by
  let v := s.taken i
  let r := v.stagingReady
  let t : State := { r with saf := { r.saf with staging := putBytes offset data r.saf.staging, stagingB := putBytes offset data r.saf.stagingB } }
  have hbody : stagingBody false offset data x v = (some (Reply.of 0 []), t) := by
    have hg : v.gradeS = true := by rw [← hgrade]; simp only [State.gradeS, v, taken_getF]
    have ha : v.activationArmed = false := by
      rw [← harm]
      simp only [State.activationArmed, State.pendF, State.current, State.pendingAt, v, taken_sys, taken_shadow, taken_peek, taken_getF]
    have hv1 : v.on 1 = true := (taken_on s i 1).trans h1
    have hv2 : v.on 2 = true := (taken_on s i 2).trans h2
    rw [stagingBody, hg, hv1, hv2, ha]
    simp only [Bool.not_true, Bool.or_false, Bool.false_eq_true, if_false, if_neg (Nat.not_lt.2 hroom)]
    rfl
  have hspine : t.spine = v.spine := stagingReady_spine v
  have hepoch : t.epoch = s.epoch := (getF_of_spine hspine (by decide)).trans (taken_epoch s i)
  obtain ⟨tp, net, hu, -, ha⟩ := command_acknowledged h (imageWrite_payloadGood 0 offset false h4 h8) ((withRole_of_role _ hrole).trans hbody)
    (ledger_of_spine hspine) hepoch
  obtain ⟨hA, hB⟩ := stagingReady_saf v
  refine ⟨_, (exec_stagingWrite i false offset data hrec).trans hu, ha, ?_, ?_⟩
  · rw [State.settle_saf]
    show putBytes offset data r.saf.staging = _
    rw [show r.saf.staging = v.saf.staging from hA, taken_saf]
  · rw [State.settle_saf]
    show putBytes offset data r.saf.stagingB = _
    rw [show r.saf.stagingB = v.saf.stagingB from hB, taken_saf]

theorem slotSelect_payloadGood (slot : Nat) : payloadGood 0x31 (leBytes 1 slot ++ leBytes 3 0) = true := by
  simp [payloadGood, msgLe, leBytes, ofLe]

/-- SLOT_SELECT names the slot booted first (R76). -/
theorem slotSelect_acknowledged {s : State} {i seq slot : Nat} {x : Session} (h : Turn s i 0x31 seq x (leBytes 1 slot ++ leBytes 3 0))
    (hrole : s.rolesOf x &&& 4 = 4) (hs : slot ≤ 1) :
    ∃ u, exec (.slotSelect i slot) s = .next u ∧ Acknowledged s i 0x31 seq x [] u ∧ u.rst.slotFirst = some slot := by
  have hbody : slotSelectBody slot x (s.taken i) = (some (Reply.of 0 []), (s.taken i).mapRst (fun r => { r with slotFirst := some slot })) :=
    if_neg (Nat.not_lt.2 hs)
  obtain ⟨tp, net, hu, -, ha⟩ :=
    command_acknowledged h (slotSelect_payloadGood slot) ((withRole_of_role _ hrole).trans hbody) rfl (taken_epoch s i)
  exact ⟨_, hu, ha, by rw [State.settle_rst]; rfl⟩

/-! ## Fuse rows (R394) -/

theorem fuse_payloadGood (row : Nat) {data : List Byte} (h : data.length = 60) : payloadGood 0x40 (leBytes 1 row ++ leBytes 3 0 ++ data) = true := by
  simp [payloadGood, msgLe, leBytes, ofLe, h]

theorem showProgram_getF (s : State) (row copies result : Nat) {f : Field} (h : f.addr ≠ 0x1128) : (s.showProgram row copies result).getF f = s.getF f := by
  rw [State.showProgram, getF_setF_other _ _ _ _ h, getF_setF_other _ _ _ _ h, getF_setF_other _ _ _ _ h]

theorem showProgram_shows (s : State) (row : Nat) {copies result : Nat} (hc : copies < 4) (hr : result < 8) :
    (s.showProgram row copies result).getF F.RST_PROG.RESULT = result ∧ (s.showProgram row copies result).getF F.RST_PROG.COPIES = copies := by
  constructor
  · exact getF_setF_of_lt _ _ (by decide) hr
  · rw [State.showProgram, getF_setF_beside _ _ _ _ (by decide) (by decide)]
    exact getF_setF_of_lt _ _ (by decide) hc

theorem showProgram_ledger (s : State) (row copies result : Nat) : (s.showProgram row copies result).ledger = s.ledger := by
  rw [State.showProgram, setF_ledger, setF_ledger, setF_ledger]

/-- Both fuse copies with a row programmed. -/
def State.rowProgrammed (s : State) (row : Nat) (data : List Byte) : State :=
  s.mapRst (fun r => { r with fuseA := tabSet row (fuseRowOf data) r.fuseA, fuseB := tabSet row (fuseRowOf data) r.fuseB })

/-- An unprogrammed copy takes the row. -/
theorem programCopy_verified {copy : List (Nat × List Byte)} {row : Nat} (data : List Byte) (h : rowKind (fuseRow copy row) = 0) :
    programCopy copy row data .verified = tabSet row (fuseRowOf data) copy := by
  rw [programCopy, if_neg (not_not.2 h), if_pos rfl]

/-- A row that is unprogrammed in both copies, and verifies in both, is programmed. -/
theorem fuseBody_programs {s : State} {row : Nat} (data : List Byte) (x : Session) (hdev : s.dev = .provision) (hrow : rowClosed row = false)
    (hmode : s.inputMode = 0) (hready : s.getF F.PWM_STAT.HU_READY = 1) (hA : rowKind (fuseRow s.rst.fuseA row) = 0)
    (hB : rowKind (fuseRow s.rst.fuseB row) = 0) :
    fuseBody row data .verified .verified x s =
      (some (Reply.of 0 [1, 3, 0, 0]), ((s.rowProgrammed row data).showProgram row 3 1).raiseEvt 1 2) := by
  have hput : (s.mapRst (fun r => { r with fuseA := programCopy r.fuseA row data .verified })).mapRst
      (fun r => { r with fuseB := programCopy r.fuseB row data .verified }) = s.rowProgrammed row data := by
    simp only [State.rowProgrammed, State.mapRst, programCopy_verified data hA, programCopy_verified data hB]
  simp only [fuseBody, hdev, hrow, hmode, State.flag, hready, hA, hB]
  rw [← hput]
  rfl

/-- FUSE_PROGRAM programs both copies of a row. -/
theorem fuseProgram_acknowledged {s : State} {i seq row : Nat} {x : Session} {data : List Byte}
    (h : Turn s i 0x40 seq x (leBytes 1 row ++ leBytes 3 0 ++ data)) (hrole : s.rolesOf x &&& 8 = 8) (hlen : data.length = 60)
    (hdev : s.dev = .provision) (hrow : rowClosed row = false) (hmode : s.inputMode = 0) (hready : s.getF F.PWM_STAT.HU_READY = 1)
    (hA : rowKind (fuseRow s.rst.fuseA row) = 0) (hB : rowKind (fuseRow s.rst.fuseB row) = 0) :
    ∃ u, exec (.fuseProgram i row data .verified .verified) s = .next u ∧ Acknowledged s i 0x40 seq x [1, 3, 0, 0] u ∧
      u.rst.fuseA = tabSet row (fuseRowOf data) s.rst.fuseA ∧ u.rst.fuseB = tabSet row (fuseRowOf data) s.rst.fuseB ∧
      u.getF F.RST_PROG.RESULT = 1 ∧ u.getF F.RST_PROG.COPIES = 3 := by
  let v := s.taken i
  let p := (v.rowProgrammed row data).showProgram row 3 1
  let t := p.raiseEvt 1 2
  have hbody : fuseBody row data .verified .verified x v = (some (Reply.of 0 [1, 3, 0, 0]), t) :=
    fuseBody_programs data x ((taken_dev s i).trans hdev) hrow ((taken_getF s i _).trans hmode) ((taken_getF s i _).trans hready)
      (by rw [taken_rst]; exact hA) (by rw [taken_rst]; exact hB)
  have hgetF : ∀ f : Field, f.addr ≠ 0x1010 → t.getF f = p.getF f := fun f hf => State.raiseEvt_getF p 1 2 f hf
  have hepoch : t.epoch = s.epoch :=
    (hgetF _ (by decide)).trans ((showProgram_getF (v.rowProgrammed row data) row 3 1 (by decide)).trans (taken_epoch s i))
  have hledger : t.ledger = v.ledger := (raiseEvt_ledger p 1 2).trans (showProgram_ledger (v.rowProgrammed row data) row 3 1)
  have hrst : t.rst = { s.rst with fuseA := tabSet row (fuseRowOf data) s.rst.fuseA, fuseB := tabSet row (fuseRowOf data) s.rst.fuseB } := by
    refine (State.raiseEvt_rst p 1 2).trans ?_
    show (v.rowProgrammed row data).rst = _
    rw [← taken_rst s i]
    rfl
  obtain ⟨hresult, hcopies⟩ := showProgram_shows (v.rowProgrammed row data) row (copies := 3) (result := 1) (by decide) (by decide)
  obtain ⟨tp, net, hu, -, ha⟩ := command_acknowledged h (fuse_payloadGood row hlen) ((withRole_of_role _ hrole).trans hbody) hledger hepoch
  have hshows : ∀ f : Field, f.addr = 0x1128 → (State.settle { t with tp := tp, net := net }).getF f = p.getF f := fun f hf =>
    (State.settle_getF _ f (by rw [hf]; decide)).trans (hgetF f (by rw [hf]; decide))
  refine ⟨_, hu, ha, ?_, ?_, (hshows _ rfl).trans hresult, (hshows _ rfl).trans hcopies⟩
  · rw [State.settle_rst]
    exact congrArg RstState.fuseA hrst
  · rw [State.settle_rst]
    exact congrArg RstState.fuseB hrst

/-! ## Key slots and the restart for provisioning (R391, R392) -/

theorem keySlot_payloadGood (slot : Nat) {roles : Nat} {key : List Byte} (hr : roles < 16) (hk : key.length = 32) :
    payloadGood 0x41 (leBytes 1 slot ++ leBytes 1 roles ++ leBytes 2 0 ++ key) = true := by
  simp [payloadGood, msgLe, leBytes, ofLe, hk]
  omega

/-- KEY_SLOT writes a key, or empties the slot with a key of zeros. -/
theorem keySlotWrite_acknowledged {s : State} {i seq slot roles : Nat} {x : Session} {key : List Byte}
    (h : Turn s i 0x41 seq x (leBytes 1 slot ++ leBytes 1 roles ++ leBytes 2 0 ++ key)) (hrole : s.rolesOf x &&& 8 = 8)
    (hdev : s.dev = .provision) (hslot : slot ≤ 15) (hr : roles < 16) (hk : key.length = 32) :
    ∃ u, exec (.keySlotWrite i slot roles key) s = .next u ∧ Acknowledged s i 0x41 seq x [] u ∧
      u.rst.keySlots = if key.all (· = 0) then tabDel slot s.rst.keySlots else tabSet slot ⟨key, roles, true⟩ s.rst.keySlots := by
  let v := s.taken i
  let t := v.mapRst (fun r => { r with
    keySlots := if key.all (· = 0) then tabDel slot r.keySlots else tabSet slot { key := key, roles := roles, sealed := true } r.keySlots })
  have hbody : keySlotBody slot roles key x v = (some (Reply.of 0 []), t.setF F.CPU_AUTH.SLOTS t.slotsGood) := by
    rw [keySlotBody, if_neg (not_not.2 ((taken_dev s i).trans hdev)), if_neg (Nat.not_lt.2 hslot)]
  have hepoch : (t.setF F.CPU_AUTH.SLOTS t.slotsGood).epoch = s.epoch :=
    (getF_setF_other _ _ _ _ (by decide)).trans (taken_epoch s i)
  obtain ⟨tp, net, hu, -, ha⟩ :=
    command_acknowledged h (keySlot_payloadGood slot hr hk) ((withRole_of_role _ hrole).trans hbody) (setF_ledger t _ _) hepoch
  refine ⟨_, hu, ha, ?_⟩
  rw [State.settle_rst, ← taken_rst s i]
  rfl

theorem provision_payloadGood (serial : Nat) : payloadGood 0x42 (leBytes 8 serial) = true := by
  simp [payloadGood]

/-- PROVISION asks for the restart into PROVISION. -/
theorem provisioning_acknowledged {s : State} {i seq serial : Nat} {x : Session} (h : Turn s i 0x42 seq x (leBytes 8 serial))
    (hrole : s.rolesOf x &&& 8 = 8) (hdev : s.dev = .standby ∨ s.dev = .safe) (hserial : serial = s.serialNo) :
    ∃ u, exec (.provisioningRequest i serial) s = .next u ∧ Acknowledged s i 0x42 seq x [] u ∧ u.getF F.RST_PROV.REQ = 1 ∧
      u.rst.provAt = some s.now := by
  let v := s.taken i
  let p := (v.setF F.RST_PROV.REQ 1).mapRst (fun r => { r with provAt := some v.now })
  let t := p.raiseEvt 1 4
  have hbody : provisioningBody serial x v = (some (Reply.of 0 []), t) := by
    have hd : ¬ (v.dev ≠ .standby && v.dev ≠ .safe) = true := by
      rw [show v.dev = s.dev from taken_dev s i]
      obtain hd | hd := hdev <;> simp [hd]
    have hn : serial = v.serialNo := by rw [hserial]; simp only [State.serialNo, v, taken_getF]
    rw [provisioningBody, if_neg hd, if_neg (not_not.2 hn)]
  have hgetF : ∀ f : Field, f.addr ≠ 0x1010 → t.getF f = (v.setF F.RST_PROV.REQ 1).getF f := fun f hf => State.raiseEvt_getF p 1 4 f hf
  have hepoch : t.epoch = s.epoch :=
    (hgetF _ (by decide)).trans ((getF_setF_other _ _ _ _ (by decide)).trans (taken_epoch s i))
  have hledger : t.ledger = v.ledger := (raiseEvt_ledger p 1 4).trans (ledger_of_tp rfl)
  obtain ⟨tp, net, hu, -, ha⟩ := command_acknowledged h (provision_payloadGood serial) ((withRole_of_role _ hrole).trans hbody) hledger hepoch
  refine ⟨_, hu, ha, ?_, ?_⟩
  · rw [State.settle_getF _ _ (by decide)]
    exact (hgetF _ (by decide)).trans (getF_setF_of_lt _ _ (by decide) (by decide))
  · rw [State.settle_rst, ← taken_now s i]
    exact congrArg RstState.provAt (State.raiseEvt_rst p 1 4)

end Sys2Proof.Machine
end

section
/-! PROOFS. A READ of a session that is performed (O56). -/

namespace Sys2Proof.Machine

/-- A READ whose words are all mapped and powered reads them. -/
theorem readBody_reads {s : State} {addr count : Nat} (x : Session) (h : ∀ a ∈ wordAddrs addr count, s.accessRefused a = none) :
    readBody addr count x s =
      (some (Reply.of 0 ((State.readWords count addr s).1.map (leBytes 4)).flatten), (State.readWords count addr s).2) := by
  rw [readBody, List.findSome?_eq_none_iff.2 h]

/-- READ answers the words in order, each as the register space then reads (R312). -/
theorem read_acknowledged {s : State} {i seq addr count : Nat} {x : Session} (h : Turn s i 0x01 seq x (leBytes 4 addr ++ leBytes 2 count ++ leBytes 2 0))
    (ha : addr < 2 ^ 24) (h1 : 1 ≤ count) (hc : count ≤ 1024) (hok : ∀ a ∈ wordAddrs addr count, s.accessRefused a = none) :
    ∃ u, exec (.read i addr count) s = .next u ∧
      Acknowledged s i 0x01 seq x ((State.readWords count addr (s.taken i)).1.map (leBytes 4)).flatten u := by
  have hpay : leBytes 4 addr ++ leBytes 2 count ++ leBytes 2 0 = accessPayload addr count [] := (List.append_nil _).symm
  have hb := readBody_reads (s := s.taken i) (addr := addr) (count := count) x (fun a hm => (taken_accessRefused s i a).trans (hok a hm))
  have he : (State.readWords count addr (s.taken i)).2.epoch = s.epoch := (readWords_getF _ _ _ (by decide)).trans (taken_epoch s i)
  obtain ⟨tp, net, hu, -, hdone⟩ :=
    command_acknowledged h (hpay ▸ read_payloadGood ha h1 hc) hb (readWords_ledger count addr (s.taken i)) he
  exact ⟨_, hu, hdone⟩

/-! ## Program banks -/

theorem regionOf_bank {a : Nat} (h : 0x400000 ≤ a) (h' : a < 0x600000) : regionOf a = .bank ((a - 0x400000) / 0x100000) (a % 0x100000) := by
  rw [regionOf, if_neg (by omega), if_neg (by omega), if_neg (by omega), if_pos ⟨h, h'⟩]

/-- Reading a word of a program bank changes nothing. -/
theorem afterRead_bank (s : State) {a : Nat} (h : 0x400000 ≤ a) : s.afterRead a = s := by
  have hhka : ¬ ((0x17188 ≤ a ∧ a < 0x171C8) ∨ a = 0x171C8) := by omega
  have hopen : ¬ [0x2130, 0x1012C, 0x1112C, 0x1210C, 0x1310C, 0x12118, 0x13118, 0x1610C, 0x16110, 0x1B100].contains a = true := by
    simp
    omega
  rw [State.afterRead, if_neg hhka, if_neg hopen]

/-- The words of a program bank read as stored. -/
theorem readWords_bank (s : State) (n a : Nat) (h : 0x400000 ≤ a) (h' : a + 4 * n ≤ 0x600000) :
    State.readWords n a s = ((wordAddrs a n).map (fun b => (s.ramAt b).toNat), s) := by
  induction n generalizing a with
  | zero => rfl
  | succ n ih =>
    have hword : s.readWord a % 2 ^ 32 = (s.ramAt a).toNat := by
      rw [State.readWord, regionOf_bank h (by omega)]
      exact Nat.mod_eq_of_lt (s.ramAt a).isLt
    have hrest : wordAddrs a (n + 1) = a :: wordAddrs (a + 4) n := by
      rw [wordAddrs_succ, List.map_map, wordAddrs]
      refine congrArg (a :: ·) (List.map_congr_left (fun k _ => ?_))
      simp only [Function.comp_apply]
      omega
    rw [State.readWords, afterRead_bank s h, ih (a + 4) (by omega) (by omega), hword, hrest]
    rfl

/-- READ of a program bank answers its words as stored. -/
theorem readBank_acknowledged {s : State} {i seq addr count : Nat} {x : Session}
    (h : Turn s i 0x01 seq x (leBytes 4 addr ++ leBytes 2 count ++ leBytes 2 0)) (ha : addr < 2 ^ 24) (h1 : 1 ≤ count) (hc : count ≤ 1024)
    (hlo : 0x400000 ≤ addr) (hhi : addr + 4 * count ≤ 0x600000) (hok : ∀ a ∈ wordAddrs addr count, s.accessRefused a = none) :
    ∃ u, exec (.read i addr count) s = .next u ∧
      Acknowledged s i 0x01 seq x ((wordAddrs addr count).map (fun a => leBytes 4 (s.ramAt a).toNat)).flatten u := by
  obtain ⟨u, hu, hdone⟩ := read_acknowledged h ha h1 hc hok
  refine ⟨u, hu, ?_⟩
  have hwords : ((State.readWords count addr (s.taken i)).1.map (leBytes 4)) = (wordAddrs addr count).map (fun a => leBytes 4 (s.ramAt a).toNat) := by
    rw [readWords_bank _ _ _ hlo hhi, List.map_map]
    refine List.map_congr_left (fun a _ => ?_)
    rw [Function.comp_apply, taken_ramAt]
  rwa [hwords] at hdone

end Sys2Proof.Machine
end

section
/-! PROOFS. A WRITE of a session that is performed (O56): its words, a program bank, `BLK_IER`, a new speed. -/

namespace Sys2Proof.Machine

/-! ## A WRITE that every check passes (R28, R312) -/

/-- A session as the writer of words. -/
abbrev State.writer (s : State) (i : Nat) (x : Session) : Writer :=
  { sess := i, roles := s.rolesOf x, may := x.slot.isSome || !s.flag F.CPU_AUTH.REQUIRE }

/-- What the request and the words of a WRITE leave. -/
abbrev State.written (s : State) (i : Nat) (l : List (Nat × Nat)) : State := (s.doRequest (requestOf l)).doWords i l

/-- What a WRITE carries. -/
abbrev writePayload (addr : Nat) (words : List Word) : List Byte :=
  leBytes 4 addr ++ leBytes 2 words.length ++ leBytes 2 0 ++ (words.map (fun w => leBytes 4 w.toNat)).flatten

/-- A WRITE that every check passes performs its request, then its words in order. -/
theorem writeBody_performs {s : State} {i addr : Nat} {words : List Word} {x : Session}
    (hcheck : State.checkWords (s.writer i x) (wordsAt addr words) (wordsAt addr words) (s.taken i) = none)
    (hreq : (s.taken i).requestFail (requestOf (wordsAt addr words)) = none) :
    ∃ result, writeBody i addr words x (s.taken i) =
      (some ⟨0, if setsGo (wordsAt addr words) then ((s.taken i).written i (wordsAt addr words)).goAnswer else [], result⟩,
        (s.taken i).written i (wordsAt addr words)) := by
  have hwr : ({ sess := i, roles := (s.taken i).rolesOf x, may := x.slot.isSome || !(s.taken i).flag F.CPU_AUTH.REQUIRE } : Writer) = s.writer i x := by
    rw [State.writer, taken_rolesOf, State.flag, taken_getF, State.flag]
  rw [writeBody]
  simp only [hwr, hcheck, hreq]
  exact ⟨_, rfl⟩

/-- A WRITE that asks for no reset leaves what its words leave, and is acknowledged. -/
theorem write_performed {s : State} {i seq addr : Nat} {words : List Word} {x : Session} (h : Turn s i 0x02 seq x (writePayload addr words))
    (ha : addr < 2 ^ 24) (h1 : 1 ≤ words.length) (hc : words.length ≤ 1024)
    (hcheck : State.checkWords (s.writer i x) (wordsAt addr words) (wordsAt addr words) (s.taken i) = none)
    (hreq : (s.taken i).requestFail (requestOf (wordsAt addr words)) = none) (hreset : asksReset (wordsAt addr words) = false) :
    ∃ tp net, exec (.write i addr words) s =
        .next (State.settle { (s.taken i).written i (wordsAt addr words) with tp := tp, net := net }) ∧
      ((State.settle { (s.taken i).written i (wordsAt addr words) with tp := tp, net := net }).session i).map (fun y => y.nextSeq) =
        some (max x.nextSeq (seq + 1)) ∧
      Performed i 0x02 seq x (x.answer (s.answersTo x) i seq 0x02 0 0 ((s.taken i).written i (wordsAt addr words)).epoch
          (if setsGo (wordsAt addr words) then ((s.taken i).written i (wordsAt addr words)).goAnswer else []))
        (State.settle { (s.taken i).written i (wordsAt addr words) with tp := tp, net := net }) := by
  obtain ⟨result, hb⟩ := writeBody_performs hcheck hreq
  have hl : ((s.taken i).written i (wordsAt addr words)).ledger = (s.taken i).ledger := (doWords_ledger _ _ _).trans (doRequest_ledger _ _)
  obtain ⟨tp, net, hu, -, hn, hp⟩ := command_performed (after := softwareReset i (wordsAt addr words) State.lastOk) h
    (write_payloadGood ha h1 hc) hb hl rfl (fun u => by rw [softwareReset, hreset]; rfl)
  exact ⟨tp, net, hu, hn, hp⟩

/-- Words outside the page of the recorder. -/
theorem page_ne_of_pageOf {a : Nat} (h : pageOf (a % 0x1000000) ≠ some 26) : a / 0x1000 ≠ 26 := by
  intro ha
  refine h ?_
  have hr : regionOf (a % 0x1000000) = .page 26 (a % 0x1000) := by
    rw [regionOf, if_pos (by omega), Region.page.injEq]
    omega
  rw [pageOf, hr]

/-! ## A WRITE of one word -/

/-- A WRITE of one word that its check passes, and that is neither a request nor a commit nor a reset, does that word. -/
theorem writeWord_acknowledged {s : State} {i seq a : Nat} {w : Word} {x : Session}
    (h : Turn s i 0x02 seq x (leBytes 4 a ++ leBytes 2 1 ++ leBytes 2 0 ++ leBytes 4 w.toNat)) (ha : a < 2 ^ 24)
    (hplain : a ≠ 0x114 ∧ a ≠ 0x120 ∧ a ≠ 0x1114) (hcheck : (s.taken i).checkWord (s.writer i x) [(a, w.toNat)] a w.toNat = none)
    (he : ((s.taken i).doWord i a w.toNat).epoch = s.epoch) :
    ∃ tp net, exec (.write i a [w]) s = .next (State.settle { (s.taken i).doWord i a w.toNat with tp := tp, net := net }) ∧
      Acknowledged s i 0x02 seq x [] (State.settle { (s.taken i).doWord i a w.toNat with tp := tp, net := net }) := by
  obtain ⟨hrequest, hcommit, hreset⟩ := hplain
  have hl : wordsAt a [w] = [(a, w.toNat)] := by simp [wordsAt, wordAddrs]
  have hpay : writePayload a [w] = leBytes 4 a ++ leBytes 2 1 ++ leBytes 2 0 ++ leBytes 4 w.toNat := by simp [writePayload]
  have hreq : requestOf (wordsAt a [w]) = 0 := by simp [hl, requestOf, hrequest]
  have hwritten : (s.taken i).written i (wordsAt a [w]) = (s.taken i).doWord i a w.toNat := by
    rw [State.written, hreq, hl]
    rfl
  have hgo : setsGo (wordsAt a [w]) = false := by simp [hl, setsGo, hcommit]
  have hall : State.checkWords (s.writer i x) (wordsAt a [w]) (wordsAt a [w]) (s.taken i) = none := by
    rw [hl, State.checkWords, hcheck]
    rfl
  obtain ⟨tp, net, hu, hn, hp⟩ := write_performed (words := [w]) (hpay ▸ h) ha (le_refl 1) (by simp) hall
    (by rw [hreq]; rfl) (by simp [hl, asksReset, hreset])
  rw [hwritten] at hu hn hp
  rw [hgo, he] at hp
  exact ⟨tp, net, hu, hp, hn⟩

/-! ## A word of a program bank (R85, R86) -/

/-- A word of a program bank reaches no register. -/
theorem writeHome_bank (s : State) {a b o : Nat} (h : regionOf a = .bank b o) : s.writeHome a = none := by rw [State.writeHome, h]

theorem bounds_of_bank {a b o : Nat} (h : regionOf a = .bank b o) : 0x400000 ≤ a ∧ a < 0x600000 := by
  by_contra hout
  simp only [regionOf] at h
  rw [if_neg hout] at h
  split_ifs at h

/-- A word of a program bank that no commit uses and none holds is not refused. -/
theorem checkWord_bank {s : State} {wr : Writer} {all : List (Nat × Nat)} {a b o : Nat} (w : Nat) (hr : regionOf a = .bank b o)
    (hacc : s.accessRefused a = none) (huse : s.bankInUse b = false) (hheld : s.bankHeld b = false) (hmay : wr.may = true) :
    s.checkWord wr all a w = none := by
  obtain ⟨hlo, hhi⟩ := bounds_of_bank hr
  have hrole : s.wordRole a w = 0 := by
    have hsafety : (between 0x10114 0x1012B a || a = 0x1010C) = false := by simp [between]; omega
    have hconfig : ((s.writeHome a).any (fun h => s.isShWrite h w) || a = 0x120 || a = 0x114 || a = 0x1114 ||
        (decide (a < 0x1C000) && a % 0x1000 = 0x028 && w.testBit 1)) = false := by
      rw [writeHome_bank s hr]
      simp
      omega
    rw [State.wordRole, hsafety, hconfig]
    rfl
  rw [State.checkWord, hacc]
  simp [hrole, hmay, hr, huse, hheld, refuseIf]

theorem doWord_bank (s : State) (i w : Nat) {a b o : Nat} (h : regionOf a = .bank b o) : s.doWord i a w = s.ramPut a (BitVec.ofNat 32 w) := by
  rw [State.doWord, h]

/-- Any session may write where authentication is not required; an authenticated one always. -/
theorem writer_may {s : State} {i : Nat} {x : Session} (h : x.slot.isSome = true ∨ s.getF F.CPU_AUTH.REQUIRE = 0) : (s.writer i x).may = true := by
  have hfree := authenticated_or_free h
  show (x.slot.isSome || !s.flag F.CPU_AUTH.REQUIRE) = true
  cases hx : x.slot <;> simp_all

theorem taken_bankInUse (s : State) (i b : Nat) : (s.taken i).bankInUse b = s.bankInUse b := by obtain ⟨l, h⟩ := taken_eq s i; rw [h]; rfl
theorem taken_bankHeld (s : State) (i b : Nat) : (s.taken i).bankHeld b = s.bankHeld b := by obtain ⟨l, h⟩ := taken_eq s i; rw [h]; rfl

/-- A word of a program bank is stored. -/
theorem writeBank_acknowledged {s : State} {i seq a b o : Nat} {w : Word} {x : Session}
    (h : Turn s i 0x02 seq x (leBytes 4 a ++ leBytes 2 1 ++ leBytes 2 0 ++ leBytes 4 w.toNat)) (hr : regionOf a = .bank b o)
    (hacc : s.accessRefused a = none) (huse : s.bankInUse b = false) (hheld : s.bankHeld b = false)
    (hmay : x.slot.isSome = true ∨ s.getF F.CPU_AUTH.REQUIRE = 0) :
    ∃ u, exec (.write i a [w]) s = .next u ∧ Acknowledged s i 0x02 seq x [] u ∧ u.ramAt a = w ∧
      (∀ c : Nat, c ≠ a → u.ramAt c = s.ramAt c) ∧ u.shadow = s.shadow := by
  obtain ⟨hlo, hhi⟩ := bounds_of_bank hr
  have hdo : (s.taken i).doWord i a w.toNat = (s.taken i).ramPut a w := by
    rw [doWord_bank _ _ _ hr, BitVec.ofNat_toNat, BitVec.setWidth_eq]
  have hcheck := checkWord_bank (wr := s.writer i x) (all := [(a, w.toNat)]) w.toNat hr ((taken_accessRefused s i a).trans hacc)
    ((taken_bankInUse s i b).trans huse) ((taken_bankHeld s i b).trans hheld) (writer_may hmay)
  obtain ⟨tp, net, hu, hdone⟩ := writeWord_acknowledged h (by omega) (by omega) hcheck (by rw [hdo]; exact taken_epoch s i)
  rw [hdo] at hu hdone
  refine ⟨_, hu, hdone, ?_, fun c hc => ?_, ?_⟩
  · rw [State.ramAt, State.settle_ram]
    exact cellGet_cellPut_self _ _ _ _
  · rw [State.ramAt, State.settle_ram, ← taken_ramAt s i c]
    exact cellGet_cellPut_other _ _ _ _ hc
  · rw [State.settle_shadow]
    exact taken_shadow s i

/-! ## Words without a rule of their own -/

/-- The words that a rule of their own checks, or that start something. -/
def ruledWords : List Nat :=
  [0x114, 0x120, 0x1114, 0x5118, 0x611C, 0x9180, 0xD140, 0xD170, 0xD1A0, 0xD1D0, 0x10114, 0x10128, 0x17100, 0x171D8, 0x18168, 0x1A100]

theorem checkSpecial_of_unruled (s : State) (wr : Writer) {p a : Nat} (w : Nat) (h : a ∉ ruledWords) (h8 : a % 0x1000 ≠ 0x008)
    (h28 : a % 0x1000 ≠ 0x028) : s.checkSpecial wr p a w = none := by
  simp only [ruledWords, List.mem_cons, List.not_mem_nil, or_false, not_or] at h
  simp [State.checkSpecial, h, h8, h28]

theorem specialWrite_of_unruled (s : State) (i : Nat) {a : Nat} (w : Nat) (h : a ∉ ruledWords) : s.specialWrite i a w = s := by
  simp only [ruledWords, List.mem_cons, List.not_mem_nil, or_false, not_or] at h
  simp [State.specialWrite, h]

/-- The check of a word of a page that no rule of its own refuses. -/
theorem checkWord_page {s : State} {wr : Writer} {all : List (Nat × Nat)} {p o a h : Nat} (w : Nat) (hr : regionOf a = .page p o)
    (hacc : s.accessRefused a = none) (hhome : s.writeHome a = some h) (hmay : wr.may = true)
    (hrole : wr.roles &&& s.wordRole a w = s.wordRole a w)
    (hstage : s.isShWrite h w = true → s.sys.armed = none ∧ s.ownedByOther wr.sess = false) (hrule : ∀ q, s.checkSpecial wr q a w = none) :
    s.checkWord wr all a w = none := by
  have hbusy : (s.isShWrite h w && (s.sys.armed.isSome || s.ownedByOther wr.sess)) = false := by
    cases hsh : s.isShWrite h w
    · rfl
    · obtain ⟨ha, ho⟩ := hstage hsh
      rw [ha, ho]
      rfl
  rw [State.checkWord, hacc]
  simp [hmay, hrole, hr, hhome, hbusy, hrule]

/-- A word without LK fields. -/
theorem lockWrite_of_no_lk (s : State) (p : Nat) {h : Nat} (w : Nat) (hf : (fieldsAt h).filter (fun f => f.acc = .lk) = []) :
    s.lockWrite p h w = s := by
  unfold State.lockWrite
  simp [hf]

/-! ## `BLK_IER` -/

theorem ier_fields : ∀ p : Fin 28, fieldsAt (p.val * 0x1000 + 0x14) = [RegTable.rw 0 32 0] := by decide

theorem ier_unselected : ∀ p : Fin 28, selectedBy (p.val * 0x1000 + 0x14) = none := by decide

theorem ier_region (p : Fin 28) : regionOf (p.val * 0x1000 + 0x14) = .page p.val 0x14 := by
  have := p.isLt
  rw [regionOf, if_pos (by omega), Region.page.injEq]
  omega

theorem accessRefused_ier {s : State} {p : Fin 28} (h : s.pageOn p.val = true) : s.accessRefused (p.val * 0x1000 + 0x14) = none := by
  rw [State.accessRefused, if_neg (by omega), pageOf, ier_region]
  exact if_pos h

theorem writeHome_ier (s : State) {p : Fin 28} (h : p.val ≠ 17) : s.writeHome (p.val * 0x1000 + 0x14) = some (p.val * 0x1000 + 0x14) := by
  rw [State.writeHome, ier_region]
  show (if _ then _ else _) = _
  rw [if_neg (by omega), State.homeOf, ier_unselected]

/-- `BLK_IER` stages nothing. -/
theorem isShWrite_ier (s : State) (p : Fin 28) (w : Nat) : s.isShWrite (p.val * 0x1000 + 0x14) w = false := by
  rw [State.isShWrite, shFields, ier_fields]
  rfl

theorem ier_unruled (p : Fin 28) : p.val * 0x1000 + 0x14 ∉ ruledWords := by
  simp [ruledWords]
  omega

theorem wordRole_ier (s : State) (p : Fin 28) (w : Nat) : s.wordRole (p.val * 0x1000 + 0x14) w = 0 := by
  have hsh : (s.writeHome (p.val * 0x1000 + 0x14)).any (fun h => s.isShWrite h w) = false := by
    rw [State.writeHome, ier_region]
    show Option.any _ (if _ then _ else _) = _
    rw [State.homeOf, ier_unselected]
    split
    · rfl
    · exact isShWrite_ier s p w
  have hsafety : (between 0x10114 0x1012B (p.val * 0x1000 + 0x14) || p.val * 0x1000 + 0x14 = 0x1010C) = false := by
    simp [between]
    omega
  simp only [State.wordRole, hsh, hsafety]
  simp
  omega

/-- A word of one RW field takes what is written. -/
theorem plainWrite_rw_word (s : State) {h : Nat} (w : Word) (hf : fieldsAt h = [RegTable.rw 0 32 0]) (hh : h % 0x1000 ≠ 0x02C) :
    s.plainWrite h w.toNat = if w.toNat = (s.peek h).toNat then s else s.poke h w := by
  have hw := w.isLt
  have hset : withField 0 32 (s.peek h).toNat (fieldOf 0 32 w.toNat) = w.toNat := by
    have := (s.peek h).isLt
    simp only [withField, fieldOf]
    omega
  simp only [State.plainWrite, hf, RegTable.rw, hh]
  simp [mergeFields, hset]

/-- What a word of `BLK_IER` leaves: the word, and all the rest. -/
theorem doWord_ier (s : State) (i : Nat) {p : Fin 28} (w : Word) (hp : p.val ≠ 17) :
    s.doWord i (p.val * 0x1000 + 0x14) w.toNat =
      if w.toNat = (s.peek (p.val * 0x1000 + 0x14)).toNat then s else s.poke (p.val * 0x1000 + 0x14) w := by
  have hlk : (fieldsAt (p.val * 0x1000 + 0x14)).filter (fun f => f.acc = .lk) = [] := by rw [ier_fields]; rfl
  have hheader : ∀ t : State, t.headerWrite s p.val 0x14 w.toNat = t := fun t => rfl
  rw [State.doWord, ier_region]
  simp only [writeHome_ier s hp, isShWrite_ier, Bool.false_eq_true, if_false, lockWrite_of_no_lk _ _ _ hlk, hheader]
  exact plainWrite_rw_word s w (ier_fields p) (by omega)

/-- A word of `BLK_IER` replaces it. -/
theorem writeIer_acknowledged {s : State} {i seq : Nat} {p : Fin 28} {w : Word} {x : Session}
    (h : Turn s i 0x02 seq x (leBytes 4 (p.val * 0x1000 + 0x14) ++ leBytes 2 1 ++ leBytes 2 0 ++ leBytes 4 w.toNat)) (hp : p.val ≠ 17)
    (h26 : p.val ≠ 26) (hon : s.pageOn p.val = true) (hmay : x.slot.isSome = true ∨ s.getF F.CPU_AUTH.REQUIRE = 0) :
    ∃ u, exec (.write i (p.val * 0x1000 + 0x14) [w]) s = .next u ∧ Acknowledged s i 0x02 seq x [] u ∧ u.getF (H.IER p.val) = w.toNat ∧
      u.shadow = s.shadow ∧ u.ram = s.ram := by
  let a := p.val * 0x1000 + 0x14
  let t := (s.taken i).doWord i a w.toNat
  have hleft : t.peek a = w ∧ (∀ c, c ≠ a → t.peek c = s.peek c) ∧ t.shadow = s.shadow ∧ t.ram = s.ram := by
    simp only [t, a, doWord_ier _ i w hp]
    split
    · next hsame => exact ⟨(BitVec.eq_of_toNat_eq hsame).symm, fun c _ => taken_peek s i c, taken_shadow s i, taken_ram s i⟩
    · exact ⟨peek_poke_self _ _ _, fun c hc => (peek_poke_other _ _ hc).trans (taken_peek s i c), taken_shadow s i, taken_ram s i⟩
  obtain ⟨hword, hrest, hshadow, hram⟩ := hleft
  have hcheck := checkWord_page (s := s.taken i) (wr := s.writer i x) (all := [(a, w.toNat)]) w.toNat (ier_region p)
    ((taken_accessRefused s i a).trans (accessRefused_ier hon)) (writeHome_ier _ hp) (writer_may hmay)
    (by rw [wordRole_ier]; exact Nat.and_zero _) (fun hsh => by rw [isShWrite_ier] at hsh; cases hsh)
    (fun q => checkSpecial_of_unruled _ _ _ (ier_unruled p) (by omega) (by omega))
  have hlt := p.isLt
  obtain ⟨tp, net, hu, hdone⟩ := writeWord_acknowledged h (by omega) (by omega) hcheck (getF_congr (hrest 0x11C (by simp only [a]; omega)))
  refine ⟨_, hu, hdone, ?_, ?_, ?_⟩
  · rw [State.settle_getF _ _ (by show (p.val * 0x1000 + 0x14) / 0x1000 ≠ 26; omega)]
    show fieldOf 0 32 (t.peek a).toNat = w.toNat
    rw [hword, fieldOf, pow_zero, Nat.div_one]
    exact Nat.mod_eq_of_lt w.isLt
  · rw [State.settle_shadow]
    exact hshadow
  · rw [State.settle_ram]
    exact hram

/-! ## A new speed (R36, R87) -/

theorem rpm_fields : fieldsAt 0x9104 = [RegTable.sh 16 16 0x1f4, RegTable.sh 0 16 0] := by decide

/-- Every word of STE_RPM is an SH write (R87). -/
theorem isShWrite_rpm (s : State) (w : Nat) : s.isShWrite 0x9104 w = true := by
  rw [State.isShWrite, shFields, rpm_fields]
  rfl

theorem writeHome_rpm (s : State) : s.writeHome 0x9104 = some 0x9104 := rfl

theorem rpm_unruled : 0x9104 ∉ ruledWords := by decide

theorem doWord_rpm (s : State) (i : Nat) (w : Nat) : s.doWord i 0x9104 w = s.shWrite i 0x9104 w := by
  have hplain : ∀ t : State, t.plainWrite 0x9104 w = t := by
    intro t
    unfold State.plainWrite
    rw [rpm_fields]
    exact if_pos rfl
  have hlk : (fieldsAt 0x9104).filter (fun f => f.acc = .lk) = [] := by rw [rpm_fields]; rfl
  rw [State.doWord, show regionOf 0x9104 = .page 9 0x104 from rfl]
  simp only [writeHome_rpm, isShWrite_rpm, if_true, hplain, lockWrite_of_no_lk _ _ _ hlk, specialWrite_of_unruled _ _ _ rpm_unruled]
  rfl

/-- The check of a new speed passes where the session may write, holds CONFIG and stages alone. -/
theorem checkWord_rpm {s : State} {wr : Writer} {all : List (Nat × Nat)} (w : Nat) (hon : s.on 9 = true) (hmay : wr.may = true)
    (hrole : wr.roles &&& 1 = 1) (harm : s.sys.armed = none) (hown : s.sys.owner.getD wr.sess = wr.sess) : s.checkWord wr all 0x9104 w = none := by
  have hone : s.wordRole 0x9104 w = 1 := by
    have hsh : (s.writeHome 0x9104).any (fun h => s.isShWrite h w) = true := by rw [writeHome_rpm]; exact isShWrite_rpm s w
    simp only [State.wordRole, hsh]
    rfl
  have halone : s.ownedByOther wr.sess = false := by
    unfold State.ownedByOther
    cases ho : s.sys.owner with
    | none => rfl
    | some o =>
      rw [ho, Option.getD_some] at hown
      simp [hown]
  exact checkWord_page w (p := 9) (o := 0x104) rfl (if_pos hon) (writeHome_rpm s) hmay (by rw [hone]; exact hrole) (fun _ => ⟨harm, halone⟩)
    (fun q => checkSpecial_of_unruled s wr w rpm_unruled (by decide) (by decide))

/-- The pending word of STE_RPM. -/
def State.rpmStaged (s : State) (w : Nat) : Word := BitVec.ofNat 32 (mergeFields (shFields 0x9104) (s.current 0x9104).toNat (maskWord 0x9104 w))

/-- A staged word of STE_RPM holds the new speed. -/
theorem rpmStaged_target (s : State) (w : Nat) : fieldOf 0 16 (s.rpmStaged w).toNat = fieldOf 0 16 w := by
  have hramp : withField 16 16 (s.current 0x9104).toNat (fieldOf 16 16 w) < 2 ^ 32 := withField_lt _ (s.current 0x9104).isLt (by decide)
  have hword : (s.rpmStaged w).toNat = withField 0 16 (withField 16 16 (s.current 0x9104).toNat (fieldOf 16 16 w)) (fieldOf 0 16 w) := by
    rw [State.rpmStaged, shFields, rpm_fields, BitVec.toNat_ofNat]
    exact Nat.mod_eq_of_lt (withField_lt _ hramp (by decide))
  rw [hword, fieldOf_withField_self]
  exact Nat.mod_mod _ _

/-- What staging a speed leaves: the pending word, the owner and STATUS; no other register. -/
theorem shWrite_rpm (s : State) (i w : Nat) :
    (s.shWrite i 0x9104 w).pendingAt 0x9104 = some (s.rpmStaged w) ∧ (s.shWrite i 0x9104 w).sys.owner = some (s.sys.owner.getD i) ∧
      (s.shWrite i 0x9104 w).getF F.SYS_COMMIT_STAT.STATUS = 1 ∧ ∀ f : Field, f.addr ≠ 0x128 → (s.shWrite i 0x9104 w).getF f = s.getF f := by
  refine ⟨tabFind_tabSet_self _ _ _, rfl, getF_setF_of_lt _ _ (by decide) (by decide), fun f hf => ?_⟩
  rw [State.shWrite, getF_setF_other _ _ _ _ hf, getF_setF_other _ _ _ _ hf]
  rfl

/-- A new speed waits as a pending value of the session while the active one stays. -/
theorem writeRpm_acknowledged {s : State} {i seq : Nat} {w : Word} {x : Session}
    (h : Turn s i 0x02 seq x (leBytes 4 0x9104 ++ leBytes 2 1 ++ leBytes 2 0 ++ leBytes 4 w.toNat)) (hon : s.on 9 = true)
    (harm : s.sys.armed = none) (hown : s.sys.owner.getD i = i) (hrole : s.rolesOf x &&& 1 = 1)
    (hmay : x.slot.isSome = true ∨ s.getF F.CPU_AUTH.REQUIRE = 0) :
    ∃ u, exec (.write i 0x9104 [w]) s = .next u ∧ Acknowledged s i 0x02 seq x [] u ∧
      u.pendF F.STE_RPM.TARGET = fieldOf F.STE_RPM.TARGET.lsb F.STE_RPM.TARGET.width w.toNat ∧
      u.getF F.STE_RPM.TARGET = s.getF F.STE_RPM.TARGET ∧ u.sys.owner = some i ∧ u.getF F.SYS_COMMIT_STAT.STATUS = 1 := by
  have hsys : (s.taken i).sys = s.sys := taken_sys s i
  have hcheck := checkWord_rpm (s := s.taken i) (wr := s.writer i x) (all := [(0x9104, w.toNat)]) w.toNat ((taken_on s i 9).trans hon)
    (writer_may hmay) hrole (by rw [hsys]; exact harm) (by rw [hsys]; exact hown)
  obtain ⟨hpend, howner, hstatus, hrest⟩ := shWrite_rpm (s.taken i) i w.toNat
  have hdo := doWord_rpm (s.taken i) i w.toNat
  obtain ⟨tp, net, hu, hdone⟩ := writeWord_acknowledged h (by decide) (by decide) hcheck
    (by rw [hdo]; exact (hrest _ (by decide)).trans (taken_epoch s i))
  rw [hdo] at hu hdone
  refine ⟨_, hu, hdone, ?_, ?_, ?_, ?_⟩
  · have hu' : State.pendingAt (State.settle { (s.taken i).shWrite i 0x9104 w.toNat with tp := tp, net := net }) 0x9104 =
        some ((s.taken i).rpmStaged w.toNat) := by
      rw [State.pendingAt, State.settle_shadow]
      exact hpend
    rw [State.pendF, State.current, hu', Option.getD_some]
    exact rpmStaged_target _ _
  · rw [State.settle_getF _ _ (by decide), ← taken_getF s i F.STE_RPM.TARGET]
    exact hrest F.STE_RPM.TARGET (by decide)
  · rw [State.settle_sys_owner]
    exact howner.trans (by rw [hsys, hown])
  · rw [State.settle_getF _ _ (by decide)]
    exact hstatus

end Sys2Proof.Machine
end

section
/-! PROOFS. What the commands of a session do (O56). -/

namespace Sys2Proof.Machine

/-- A WRITE performs its request, then its words in order (R28, R312). -/
theorem write_leaves {s : State} {i seq addr : Nat} {words : List Word} {x : Session} (h : Turn s i 0x02 seq x (writePayload addr words))
    (ha : addr < 2 ^ 24) (h1 : 1 ≤ words.length) (hc : words.length ≤ 1024)
    (hcheck : State.checkWords (s.writer i x) (wordsAt addr words) (wordsAt addr words) (s.taken i) = none)
    (hreq : (s.taken i).requestFail (requestOf (wordsAt addr words)) = none) (hreset : asksReset (wordsAt addr words) = false) :
    ∃ u, exec (.write i addr words) s = .next u ∧ (u.session i).map (fun y => y.nextSeq) = some (max x.nextSeq (seq + 1)) ∧
      Performed i 0x02 seq x (x.answer (s.answersTo x) i seq 0x02 0 0 u.epoch
        (if setsGo (wordsAt addr words) then ((s.taken i).written i (wordsAt addr words)).goAnswer else [])) u ∧
      (∀ a, pageOf (a % 0x1000000) ≠ some 26 → u.peek a = ((s.taken i).written i (wordsAt addr words)).peek a) ∧
      u.shadow = ((s.taken i).written i (wordsAt addr words)).shadow ∧ u.ram = ((s.taken i).written i (wordsAt addr words)).ram := by
  obtain ⟨tp, net, hu, hn, hp⟩ := write_performed h ha h1 hc hcheck hreq hreset
  let t : State := { (s.taken i).written i (wordsAt addr words) with tp := tp, net := net }
  have hepoch : t.settle.epoch = ((s.taken i).written i (wordsAt addr words)).epoch := settle_epoch t
  refine ⟨t.settle, hu, hn, hepoch ▸ hp, fun a ha => ?_, State.settle_shadow t, State.settle_ram t⟩
  exact State.settle_peek t a (page_ne_of_pageOf ha)

/-- Settles O56: a command whose turn has come has the effect of its body, and its entry, its answer and the session's next number follow
(`command_performed`). -/
theorem sessionCommands : Obligations.SessionCommands := by
  refine ⟨?read, ?readBank, ?write, ?writeBank, ?writeIer, ?writeRpm, ?subscribe, ?unsubscribe, ?query, ?nop, ?close, ?norImage, ?staging,
    ?slotSelect, ?fuse, ?keySlot, ?provision⟩
  case read =>
    intro s i seq x addr count hno hun hx hw hseq hlt hwh hroom ha h1 hc hok
    obtain ⟨u, hu, ⟨⟨⟨e, hb, hi, ho, hg, hq, h0⟩, hans⟩, hn⟩⟩ := read_acknowledged ⟨hno, hun, hx, hw, hseq, hlt, hwh, hroom⟩ ha h1 hc hok
    exact ⟨u, e, hu, hb, hi, ho, hg, hq, h0, hn, hans⟩
  case readBank =>
    intro s i seq x addr count hno hun hx hw hseq hlt hwh hroom ha h1 hc hlo hhi hok
    obtain ⟨u, hu, ⟨⟨⟨e, hb, hi, ho, hg, hq, h0⟩, hans⟩, hn⟩⟩ :=
      readBank_acknowledged ⟨hno, hun, hx, hw, hseq, hlt, hwh, hroom⟩ ha h1 hc hlo hhi hok
    exact ⟨u, e, hu, hb, hi, ho, hg, hq, h0, hn, hans⟩
  case write =>
    intro s i seq x addr words v hno hun hx hw hseq hlt hwh hroom ha h1 hc hv hcheck hreq hreset
    subst hv
    obtain ⟨u, hu, hn, ⟨⟨e, hb, hi, ho, hg, hq, h0⟩, hans⟩, hpeek, hshadow, hram⟩ :=
      write_leaves ⟨hno, hun, hx, hw, hseq, hlt, hwh, hroom⟩ ha h1 hc hcheck hreq hreset
    exact ⟨u, e, hu, hb, hi, ho, hg, hq, h0, hpeek, hshadow, hram, hn, hans⟩
  case writeBank =>
    intro s i seq x addr b o w hno hun hx hw hseq hlt hwh hroom hr hacc huse hheld hmay
    obtain ⟨u, hu, ⟨⟨⟨e, hb, hi, ho, hg, hq, h0⟩, hans⟩, hn⟩, hword, hrest, hshadow⟩ :=
      writeBank_acknowledged ⟨hno, hun, hx, hw, hseq, hlt, hwh, hroom⟩ hr hacc huse hheld hmay
    exact ⟨u, e, hu, hb, hi, ho, hg, hq, h0, hword, hrest, hshadow, hn, hans⟩
  case writeIer =>
    intro s i seq x p w hno hun hx hw hseq hlt hwh hroom hp h26 hon hmay
    obtain ⟨u, hu, ⟨⟨⟨e, hb, hi, ho, hg, hq, h0⟩, hans⟩, hn⟩, hword, hshadow, hram⟩ :=
      writeIer_acknowledged ⟨hno, hun, hx, hw, hseq, hlt, hwh, hroom⟩ hp h26 hon hmay
    exact ⟨u, e, hu, hb, hi, ho, hg, hq, h0, hword, hshadow, hram, hn, hans⟩
  case writeRpm =>
    intro s i seq x w hno hun hx hw hseq hlt hwh hroom hon harm hown hrole hmay
    obtain ⟨u, hu, ⟨⟨⟨e, hb, hi, ho, hg, hq, h0⟩, hans⟩, hn⟩, hpend, hactive, howner, hstatus⟩ :=
      writeRpm_acknowledged ⟨hno, hun, hx, hw, hseq, hlt, hwh, hroom⟩ hon harm hown hrole hmay
    exact ⟨u, e, hu, hb, hi, ho, hg, hq, h0, hpend, hactive, howner, hstatus, hn, hans⟩
  case subscribe =>
    intro s i seq x sub n hno hun hx hw hseq hlt hwh hroom hgood hsub hqueues hn16 hfree htaken
    obtain ⟨u, y, hu, ⟨⟨⟨e, hb, hi, ho, hg, hq, h0⟩, hans⟩, hn⟩, hy, hown, hcls, hsent, hacked⟩ :=
      subscribe_acknowledged ⟨hno, hun, hx, hw, hseq, hlt, hwh, hroom⟩ hgood hsub hqueues hn16 hfree htaken
    exact ⟨u, e, y, hu, hb, hi, ho, hg, hq, h0, hy, hown, hcls, hsent, hacked, hn, hans⟩
  case unsubscribe =>
    intro s i seq x queue q hno hun hx hw hseq hlt hwh hroom hqueue hown hmay
    obtain ⟨u, hu, ⟨⟨⟨e, hb, hi, ho, hg, hq, h0⟩, hans⟩, hn⟩, hgone⟩ :=
      unsubscribe_acknowledged ⟨hno, hun, hx, hw, hseq, hlt, hwh, hroom⟩ hqueue hown hmay
    exact ⟨u, e, hu, hb, hi, ho, hg, hq, h0, hgone, hn, hans⟩
  case query =>
    intro s i seq x ofSess ofGen ofSeq g hno hun hx hw hseq hlt hwh hroom hentry
    obtain ⟨u, hu, ⟨⟨⟨e, hb, hi, ho, hg, hq, h0⟩, hans⟩, hn⟩⟩ := query_acknowledged ⟨hno, hun, hx, hw, hseq, hlt, hwh, hroom⟩ hentry
    exact ⟨u, e, hu, hb, hi, ho, hg, hq, h0, hn, hans⟩
  case nop =>
    intro s i seq x hno hun hx hw hseq hlt hwh hroom hs
    obtain ⟨u, hu, ⟨⟨⟨e, hb, hi, ho, hg, hq, h0⟩, hans⟩, hn⟩, hregs, hram, hshadow⟩ :=
      nop_acknowledged ⟨hno, hun, hx, hw, hseq, hlt, hwh, hroom⟩ hs
    exact ⟨u, e, hu, hb, hi, ho, hg, hq, h0, hn, hans, hregs, hram, hshadow⟩
  case close =>
    intro s i seq x hno hun hx hw hseq hlt hwh hroom
    obtain ⟨u, hu, ⟨⟨e, hb, hi, ho, hg, hq, h0⟩, hans⟩, hgone, hqueues⟩ := close_performed ⟨hno, hun, hx, hw, hseq, hlt, hwh, hroom⟩
    exact ⟨u, e, hu, hb, hi, ho, hg, hq, h0, hgone, hqueues, hans⟩
  case norImage =>
    intro s i seq x target last offset data hno hun hx hw hseq hlt hwh hroom hrole ht h4 h8 himg
    obtain ⟨u, hu, ⟨⟨⟨e, hb, hi, ho, hg, hq, h0⟩, hans⟩, hn⟩, hrst⟩ :=
      norWrite_acknowledged ⟨hno, hun, hx, hw, hseq, hlt, hwh, hroom⟩ hrole ht h4 h8 himg
    refine ⟨u, e, hu, hb, hi, ho, hg, hq, h0, ?_, hn, hans⟩
    obtain rfl | rfl := ht <;> simp [hrst, RstState.imagePut]
  case staging =>
    intro s i seq x offset data hno hun hx hw hseq hlt hwh hroom hrole h4 h8 hrec hgrade hon1 hon2 harm hfits
    obtain ⟨u, hu, ⟨⟨⟨e, hb, hi, ho, hg, hq, h0⟩, hans⟩, hn⟩, hA, hB⟩ :=
      stagingWrite_acknowledged ⟨hno, hun, hx, hw, hseq, hlt, hwh, hroom⟩ hrole h4 h8 hrec hgrade hon1 hon2 harm hfits
    exact ⟨u, e, hu, hb, hi, ho, hg, hq, h0, hA, hB, hn, hans⟩
  case slotSelect =>
    intro s i seq x slot hno hun hx hw hseq hlt hwh hroom hrole hslot
    obtain ⟨u, hu, ⟨⟨⟨e, hb, hi, ho, hg, hq, h0⟩, hans⟩, hn⟩, hfirst⟩ :=
      slotSelect_acknowledged ⟨hno, hun, hx, hw, hseq, hlt, hwh, hroom⟩ hrole hslot
    exact ⟨u, e, hu, hb, hi, ho, hg, hq, h0, hfirst, hn, hans⟩
  case fuse =>
    intro s i seq x row data hno hun hx hw hseq hlt hwh hroom hrole hlen hdev hrow hmode hready hkA hkB
    obtain ⟨u, hu, ⟨⟨⟨e, hb, hi, ho, hg, hq, h0⟩, hans⟩, hn⟩, hA, hB, hresult, hcopies⟩ :=
      fuseProgram_acknowledged ⟨hno, hun, hx, hw, hseq, hlt, hwh, hroom⟩ hrole hlen hdev hrow hmode hready hkA hkB
    exact ⟨u, e, hu, hb, hi, ho, hg, hq, h0, hA, hB, hresult, hcopies, hn, hans⟩
  case keySlot =>
    intro s i seq x slot roles key hno hun hx hw hseq hlt hwh hroom hrole hdev hslot hroles hkey
    obtain ⟨u, hu, ⟨⟨⟨e, hb, hi, ho, hg, hq, h0⟩, hans⟩, hn⟩, hslots⟩ :=
      keySlotWrite_acknowledged ⟨hno, hun, hx, hw, hseq, hlt, hwh, hroom⟩ hrole hdev hslot hroles hkey
    exact ⟨u, e, hu, hb, hi, ho, hg, hq, h0, hslots, hn, hans⟩
  case provision =>
    intro s i seq x serial hno hun hx hw hseq hlt hwh hroom hrole hdev hserial
    obtain ⟨u, hu, ⟨⟨⟨e, hb, hi, ho, hg, hq, h0⟩, hans⟩, hn⟩, hreq, hat⟩ :=
      provisioning_acknowledged ⟨hno, hun, hx, hw, hseq, hlt, hwh, hroom⟩ hrole hdev hserial
    exact ⟨u, e, hu, hb, hi, ho, hg, hq, h0, hreq, hat, hn, hans⟩

end Sys2Proof.Machine
end

section
/-! PROOFS. A P0 group that cannot be served (O19). -/

namespace Sys2Proof.Machine

theorem emitting_iff (s : State) : s.emitting = true ↔ s.dev = .run ∨ s.dev = .degraded := by
  simp [State.emitting]

/-- The slot that a group waits for does not depend on the clock. -/
theorem firstSlot_at (s : State) (t : Nat) (r : Ready) : (s.at t).firstSlot r = s.firstSlot r := by
  obtain ⟨x, y, h⟩ := at_eq s t
  rw [h]
  rfl

/-- A P0 group fails where R91 spares nothing: a command that ends with it leaves `SAFE`, its cause, and every output off. -/
theorem p0Fails_settled {s : State} (fail : Option Nat) (h : s.dev = .run ∨ s.dev = .degraded) :
    (s.p0Fails false fail).settle.dev = .safe ∧
      (s.p0Fails false fail).settle.getF F.SYS_STATE.CAUSE = (if fail = some 1 then 0x27 else 0x23) ∧
      (s.p0Fails false fail).settle.dark = true := by
  have hshort : s.dev = .boot ∨ s.dev = .standby ∨ s.dev = .spinup ∨ s.dev = .run ∨ s.dev = .degraded := by tauto
  have hboot : s.dev = .boot → s.sameCycle = false := fun hb => by rcases h with h | h <;> simp [h] at hb
  exact enterSafe_settled s [] (by split <;> decide) hshort hboot

/-- The slack of the ready P0 group runs out while the device emits: its event, and the group fails. -/
theorem doP0SlackExpiry_ready {s : State} {f : FrameInfo} {r : Ready} {pass step pos : Nat} (t : Nat)
    (h : s.dev = .run ∨ s.dev = .degraded) (hf : s.sch.frame = some f) (hr : s.sch.ready = [r]) (ho : s.sch.owed = []) (hc : r.cls = 0)
    (hs : r.slack = false) (hat : r.isAt pass step pos = true) (hend : s.slackEnd r ≤ s.sch.slot) :
    ∃ v : State, v.dev = s.dev ∧ doP0SlackExpiry pass step pos t s = v.p0Fails f.transition r.fail := by
  have hend' : (s.at t).slackEnd r ≤ s.sch.slot := by simpa [State.slackEnd, firstSlot_at] using hend
  have hem : (s.at t).emitting = true := (emitting_iff _).2 (by simpa using h)
  refine ⟨State.raiseEvt ((s.at t).mapSch (fun c =>
    { c with ready := c.ready.map (fun q => if q.same r then { q with slack := true } else q) })) 8 2, ?_, ?_⟩
  · exact (dev_of_spine (raiseEvt_spine _ 8 2)).trans (State.at_dev s t)
  · simp [doP0SlackExpiry, ho, hf, hr, hc, hat, hem, hend', State.readySlack, hs]

/-- The slack of the P0 group that is owed runs out: its event, and the group fails. -/
theorem doP0SlackExpiry_owed {s : State} {o : OwedP0} (t : Nat) (ho : s.sch.owed = [o]) (hd : o.due ≤ s.sch.slot) :
    ∃ v : State, v.dev = s.dev ∧ doP0SlackExpiry o.pass o.step o.pos t s = v.p0Fails o.exempt o.fail := by
  refine ⟨State.raiseEvt ((s.at t).mapSch (fun c => { c with owed := c.owed.filter (fun q => q ≠ o) })) 8 2, ?_, ?_⟩
  · exact (dev_of_spine (raiseEvt_spine _ 8 2)).trans (State.at_dev s t)
  · simp [doP0SlackExpiry, ho, hd, State.owedSlack]

/-- Settles O19: the command ends with the failure of the group, ready or owed, in a state that emits. -/
theorem p0CannotBeServed : Obligations.P0CannotBeServed := by
  refine ⟨?_, ?_⟩
  · intro s pass step pos t f r h hf htr hr ho hc hs hpass hstep hpos hend
    have hat : r.isAt pass step pos = true := by simp [Ready.isAt, hpass, hstep, hpos]
    obtain ⟨v, hv, hdo⟩ := doP0SlackExpiry_ready t h hf hr ho hc hs hat hend
    refine ⟨_, rfl, ?_⟩
    rw [hdo, htr]
    exact p0Fails_settled r.fail (hv ▸ h)
  · intro s pass step pos t o h ho hpass hstep hpos hex hd
    subst hpass hstep hpos
    obtain ⟨v, hv, hdo⟩ := doP0SlackExpiry_owed t ho hd
    refine ⟨_, rfl, ?_⟩
    rw [hdo, hex]
    exact p0Fails_settled o.fail (hv ▸ h)

end Sys2Proof.Machine
end

section
/-! PROOFS. The conditions of the interlock (R116): a commit that applies at a boundary (R41) adds none. Of the blocks only steering holds them,
and of the domains only that of steering takes them with it. -/

namespace Sys2Proof.Machine

/-- No condition of the interlock holds. -/
abbrev State.quiet (s : State) : Prop := s.ste.conds = []

theorem quiet_of_part {s t : State} (h : t.part .steering = s.part .steering) (q : s.quiet) : t.quiet :=
  (congrArg SteerState.conds h).trans q

theorem quiet_ite {c : Prop} [Decidable c] {a b : State} (ha : a.quiet) (hb : b.quiet) : (if c then a else b).quiet := by
  split
  · exact ha
  · exact hb

theorem foldl_quiet {β : Type} (l : List β) (g : State → β → State) (hg : ∀ (s : State) (b : β), s.quiet → (g s b).quiet) {s : State}
    (q : s.quiet) : (l.foldl g s).quiet := by
  induction l generalizing s with
  | nil => exact q
  | cons b l ih => exact ih (hg s b q)

/-- Quiet or not, an interlock without a condition does not trip. -/
theorem armIlk_of_quiet {s : State} (q : s.quiet) : s.armIlk = s := by
  unfold State.armIlk
  rw [q]

/-! ## Steering -/

/-- Validity marks the open frame, and leaves the rest of the scheduler (R115). -/
theorem updateValid_sch (s : State) :
    ∃ v : Bool, s.updateValid.sch = { s.sch with frame := s.sch.frame.map (fun f => { f with validAll := f.validAll && v }) } := by
  have hsame : s.sch.frame.map (fun f => { f with validAll := f.validAll && true }) = s.sch.frame := by
    cases s.sch.frame <;> simp
  unfold State.updateValid
  dsimp only
  split
  · exact ⟨true, by rw [hsame]; rfl⟩
  · exact ⟨false, by simp only [Bool.and_false]; rfl⟩

theorem updateValid_quiet {s : State} (q : s.quiet) : s.updateValid.quiet := by
  unfold State.updateValid
  exact quiet_ite q q

theorem setTilt_quiet {s : State} (tilt : Int) (q : s.quiet) : (s.setTilt tilt).quiet := updateValid_quiet q

theorem closeSteering_quiet {s : State} (q : s.quiet) : s.closeSteering.quiet := by
  unfold State.closeSteering
  split
  · exact q
  · exact q

theorem refOkFromTime_quiet {s : State} (q : s.quiet) : s.refOkFromTime.quiet := quiet_ite (updateValid_quiet q) q

theorem rebaseEdges_quiet {s : State} (old : State) (q : s.quiet) : (s.rebaseEdges old).quiet := by
  unfold State.rebaseEdges
  refine quiet_ite q ?_
  split
  · exact quiet_ite q q
  · exact q

theorem steeringCommit_quiet {s : State} (old : State) (q : s.quiet) : (s.steeringCommit old).quiet := by
  unfold State.steeringCommit
  extract_lets _ u lost _ v
  have hlost : lost.quiet := quiet_ite (quiet_of_part (raiseEvt_part _ 9 2) q) q
  have hv : v.quiet := quiet_ite (rebaseEdges_quiet old q) (refOkFromTime_quiet hlost)
  clear_value v
  exact quiet_ite hv (quiet_ite (quiet_of_part (raiseEvt_part _ 9 1) hv) hv)

/-! ## Time -/

theorem setServo_quiet {s : State} (st : Nat) (q : s.quiet) : (s.setServo st).quiet := by
  unfold State.setServo
  refine quiet_ite q (quiet_of_part (traceUpdate_part _) (quiet_of_part (gmUpdate_part _) (refOkFromTime_quiet ?_)))
  exact quiet_of_part (raiseEvt_part _ 5 0) q

theorem enterFree_quiet {s : State} (q : s.quiet) : s.enterFree.quiet :=
  setServo_quiet 0 (quiet_of_part (mapTime_part _ _) (quiet_of_part (leaveServo_part s) q))

theorem enterHoldover_quiet {s : State} (q : s.quiet) : s.enterHoldover.quiet := setServo_quiet 3 q

theorem dropSource_quiet {s : State} (q : s.quiet) : s.dropSource.quiet :=
  quiet_of_part (setSource_part _ 4) (quiet_ite (enterHoldover_quiet q) (quiet_ite (enterFree_quiet q) q))

theorem timeCommit_quiet {s : State} (q : s.quiet) : s.timeCommit.quiet := by
  have hfree : ((s.enterFree.setSource 4).setTrim (s.getI F.CLK_AGE.AGE)).quiet :=
    quiet_of_part (setTrim_part _ _) (quiet_of_part (setSource_part _ 4) (enterFree_quiet q))
  exact quiet_of_part (gmUpdate_part _) (refOkFromTime_quiet (quiet_ite hfree (quiet_ite (dropSource_quiet q) q)))

/-! ## The power of domains -/

/-- Of the blocks of a domain only steering's hold conditions, and a reset leaves them none. -/
theorem resetEngine_quiet {s : State} (d why : Nat) (q : s.quiet) : (s.resetEngine d why).quiet := by
  have hchains : ((List.range 4).foldl (fun s c => s.setChainState c 0) s).quiet :=
    foldl_quiet _ _ (fun s c q => quiet_of_part (setChainState_part ..) q) q
  unfold State.resetEngine
  refine quiet_ite q (quiet_ite q (quiet_ite q (quiet_ite q (quiet_ite (quiet_ite q q) (quiet_ite ?_ (quiet_ite hchains (quiet_ite rfl
    (quiet_ite q (quiet_ite q (quiet_ite q (quiet_ite q q)))))))))))
  exact quiet_ite (quiet_ite q q) q

theorem dropDomain_quiet {s : State} (d why : Nat) (q : s.quiet) : (s.dropDomain d why).quiet := by
  unfold State.dropDomain
  extract_lets u v w x y z
  have hv : v.quiet := resetEngine_quiet d why (quiet_of_part (mapPwr_part (by decide) s _) q)
  have hw : w.quiet := quiet_ite (foldl_quiet _ _ (fun s n q => quiet_of_part (monitorOff_part s n) q) hv) hv
  have hx : x.quiet := quiet_ite (quiet_of_part (showStaged_part w) hw) hw
  have hy : y.quiet := quiet_ite (quiet_of_part (showNoImage_part x) hx) hx
  have hz : z.quiet := quiet_ite (quiet_of_part (workingCeilings_part y none) hy) hy
  exact foldl_quiet _ _ (fun s p q => quiet_of_part (discardPage_part (by decide) s p) q) hz

theorem stopDomain_quiet {s : State} (d : Nat) (q : s.quiet) : (s.stopDomain d).quiet := by
  have hdrop := dropDomain_quiet d 9 q
  unfold State.stopDomain
  refine quiet_ite hdrop ?_
  split
  · exact hdrop
  · exact hdrop
  · exact q
  · exact q

theorem updateDomains_quiet {s : State} (q : s.quiet) : s.updateDomains.quiet := by
  refine quiet_of_part (sequence_part (by decide) _) (foldl_quiet _ _ (fun s d q => ?_) q)
  exact quiet_ite q (quiet_ite (quiet_of_part (wantDomain_part s d) q) (stopDomain_quiet d q))

/-! ## The commit -/

theorem takeProgram_quiet {s : State} (old : State) (q : s.quiet) : (s.takeProgram old).quiet := by
  unfold State.takeProgram
  extract_lets u v
  have hu : u.quiet := quiet_ite (quiet_of_part (setProgram_part s) q) q
  have hv : v.quiet := quiet_ite hu (quiet_of_part (raiseEvt_part u 8 0) hu)
  exact steeringCommit_quiet old (quiet_of_part (chainsCommit_part (by decide) v old) hv)

theorem takeChannels_quiet {s : State} (old : State) (q : s.quiet) : (s.takeChannels old).quiet := by
  unfold State.takeChannels
  extract_lets en _ u _ v w
  have hv : v.quiet := quiet_ite q q
  have hw : w.quiet := quiet_ite (quiet_of_part (mapHka_part (by decide) v _) hv) hv
  exact quiet_ite (quiet_of_part (countReserves_part w) hw) hw

theorem takePorts_quiet {s : State} (old : State) (q : s.quiet) : (s.takePorts old).quiet := by
  unfold State.takePorts
  extract_lets u v w
  have hu : u.quiet := quiet_ite (timeCommit_quiet q) q
  have hv : v.quiet := quiet_ite (quiet_of_part (showDeflection_part u) hu) hu
  have hw : w.quiet := quiet_ite (quiet_of_part (updateIp_part v) hv) hv
  exact quiet_of_part (ipCommit_part _ old) (quiet_of_part (portCommit_part _ old 1) (quiet_of_part (portCommit_part _ old 0) hw))

theorem takeUp_quiet {s : State} (old : State) (q : s.quiet) : (s.takeUp old).quiet := by
  rw [takeUp_eq]
  extract_lets u v w
  have hu : u.quiet := takePorts_quiet old (takeChannels_quiet old (takeProgram_quiet old q))
  have hv : v.quiet := quiet_ite (updateDomains_quiet hu) hu
  have hw : w.quiet := quiet_ite hv (quiet_of_part (activateImage_part (by decide) v) hv)
  exact updateValid_quiet (quiet_of_part (excCommit_part (by decide) w old) hw)

theorem commitNow_quiet {s : State} (f : Nat) (q : s.quiet) : (s.commitNow f).quiet := by
  unfold State.commitNow
  extract_lets u v
  have hu : u.quiet := quiet_of_part (hkaClose_part (by decide) _) (closeSteering_quiet q)
  have hv : v.quiet := quiet_ite (quiet_of_part (calAbort_part (by decide) u) hu) hu
  exact takeUp_quiet v (quiet_of_part (applyCommit_part (by decide) v f) hv)

end Sys2Proof.Machine
end

section
/-! PROOFS. Frame pulses (R107) and frame boundaries (R80, R88): O14. -/

namespace Sys2Proof.Machine

/-- What stands of a frame as it begins: its number, and nothing started, excepted or cut. -/
abbrev FrameInfo.fresh (x : FrameInfo) (num : Nat) : Prop :=
  x.num = num ∧ x.started = [0, 0, 0, 0, 0] ∧ x.excs = [] ∧ x.truncated = false

theorem setTilt_sch (s : State) (tilt : Int) :
    ∃ v : Bool, (s.setTilt tilt).sch = { s.sch with frame := s.sch.frame.map (fun f => { f with validAll := f.validAll && v }) } :=
  updateValid_sch _

/-- A frame that begins is open at pass 0, step 0. -/
theorem beginFrame_opens (s : State) (f : Nat) (prev : Option FrameInfo) (trans : Bool) :
    ∃ x, (s.beginFrame f prev trans).sch.frame = some x ∧ (s.beginFrame f prev trans).sch.at_ = some (0, 0) ∧ x.fresh f := by
  unfold State.beginFrame
  extract_lets b x u _ v w y
  have hx : x.fresh f := ⟨rfl, rfl, rfl, rfl⟩
  have hv : ∃ ok : Bool, v.sch.frame = some { x with validAll := x.validAll && ok } ∧ v.sch.at_ = some (0, 0) := by
    obtain ⟨ok, h⟩ := setTilt_sch { u with ste := { u.ste with transition := trans } } (u.passEntry b 0).tilt
    exact ⟨ok, congrArg SchedState.frame h, congrArg SchedState.at_ h⟩
  have hw : w.sch = v.sch := part_then (π := .scheduler) (raiseEvt_part v 8 3)
  have hy : y.sch = w.sch := part_then (π := .scheduler) (raiseEvt_part w 11 1)
  have hend : (y.hkaBoundary.recPulse 8 y.taiNs).sch = v.sch := by
    rw [State.recPulse_sch, ← hw, ← hy]
    exact hkaBoundary_part (π := .scheduler) (by decide) y
  obtain ⟨ok, hfr, hat⟩ := hv
  rw [hend]
  exact ⟨_, hfr, hat, hx⟩

theorem beginFrame_quiet {s : State} (f : Nat) (prev : Option FrameInfo) (trans : Bool) (q : s.quiet) : (s.beginFrame f prev trans).quiet := by
  unfold State.beginFrame
  extract_lets b x u _ v w y
  have hu : u.quiet := quiet_of_part (mapSch_part (by decide) _ _) (quiet_ite (quiet_of_part (dropCounts_part (by decide) s) q) q)
  have hv : v.quiet := setTilt_quiet _ hu
  have hw : w.quiet := quiet_ite (quiet_of_part (raiseEvt_part v 8 3) hv) hv
  have hy : y.quiet := quiet_ite (quiet_of_part (raiseEvt_part w 11 1) hw) hw
  exact quiet_of_part (recPulse_part _ 8 y.taiNs) (quiet_of_part (hkaBoundary_part (by decide) y) hy)

/-- The boundary that falls with its pulse, with no frame open before it, no stop waiting and no reset in progress, begins the next frame in a
state of no more conditions than it found, and arms the interlock. -/
theorem doFrameBoundary_first {s : State} {t : Nat} (hfr : s.frames = true) (hdue : s.ste.pulseDue = true)
    (hp : s.ste.pulse = some (max s.now t)) (hrst : s.rst.active = none) (hf : s.sch.frame = none) (hstop : s.sys.stopReq = false)
    (q : s.quiet) : ∃ (z : State) (trans : Bool), z.quiet ∧ doFrameBoundary t s = (z.beginFrame ((s.frameNo + 1) % 2 ^ 32) none trans).armIlk := by
  have hfr' : (s.at t).frames = true := by simpa [State.frames] using hfr
  unfold doFrameBoundary
  extract_lets a due _ b prev c f d commit target e changed trans
  rw [if_neg (by simp [a, hfr', hdue, hp, hrst])]
  have hc : c = b := by
    have hopen : b.sch.frame = none := (congrArg SchedState.frame (State.at_sch s t)).trans hf
    show b.endFrame = b
    unfold State.endFrame
    rw [hopen]
  have hprev : prev = none := (congrArg SchedState.frame (State.at_sch s t)).trans hf
  have hnum : f = (s.frameNo + 1) % 2 ^ 32 := by
    have hno : b.frameNo = s.frameNo := State.at_getF s t F.SYS_FRAME.VALUE
    rw [← hno, ← hc]
  have hrun : c.frames = true := hc ▸ hfr'
  have hgo : c.sys.stopReq = false := by rw [hc, ← hstop, ← State.at_sys s t]
  rw [if_neg (by simp [hrun]), if_neg (by simp [hgo]), ← hnum, ← hprev]
  refine ⟨_, trans, ?_, rfl⟩
  have hcq : c.quiet := by rw [hc]; exact (congrArg SteerState.conds (State.at_ste s t)).trans q
  have hdq : d.quiet := quiet_of_part (latchLoads_part (by decide) _) (quiet_of_part (setF_part c F.SYS_FRAME.VALUE f) hcq)
  have heq : e.quiet := quiet_ite (commitNow_quiet f hdq) hdq
  exact quiet_of_part (nextState_part (by decide) _) (quiet_of_part (blocksBoundary_part (by decide) e commit prev.isSome) heq)

/-- Settles O14: the pulse by its reference, and the boundary by the frame it begins. -/
theorem framesFollowPulses : Obligations.FramesFollowPulses := by
  refine ⟨?_, ?_⟩
  · intro s t hfr hon href hidx hat hrev
    have hfr' : (s.at t).frames = true := by simpa [State.frames] using hfr
    have hfits : (s.at t).pulseFits t = true := by
      simpa [State.pulseFits, href, hidx, hat] using hrev
    refine ⟨_, rfl, ?_⟩
    rw [State.settle_ste, doFramePulse, if_pos (by simp [hfr', hon, hfits])]
    exact ⟨rfl, rfl, rfl⟩
  · intro s t hfr hdue hp hrst hf hstop q
    obtain ⟨z, trans, hz, hdo⟩ := doFrameBoundary_first hfr hdue hp hrst hf hstop q
    obtain ⟨x, hx, hat, hnum, hstart, hexc, htrunc⟩ := beginFrame_opens z ((s.frameNo + 1) % 2 ^ 32) none trans
    rw [armIlk_of_quiet (beginFrame_quiet _ _ _ hz)] at hdo
    refine ⟨_, x, rfl, ?_⟩
    rw [State.settle_sch, hdo]
    exact ⟨hx, hat, hnum, hstart, hexc, htrunc⟩

end Sys2Proof.Machine
end

section
/-! PROOFS. Barista's slots (R92 to R96): what a late load's latch leaves of the spine (R132, R134). -/

namespace Sys2Proof.Machine

theorem setF_trimRetired_spine (s : State) (e v : Nat) : (s.setF (trimRetired e) v).spine = s.spine :=
  setF_spine s _ v (by simp only [mainWord, trimRetired, trimF, Field.inst]; omega)

/-! ## Spare pools -/

theorem stand_spine (s : State) (page cause : Nat) : (s.stand page cause).spine = s.spine := by
  unfold State.stand
  extract_lets u
  have hu : u.spine = s.spine := setF_spine s _ _ (header_not_main page 0xC (by decide))
  split
  · exact hu
  · exact hu

theorem noteArisen_spine (s : State) (cause : Nat) : (s.noteArisen cause).spine = s.spine := by
  unfold State.noteArisen
  extract_lets _ u
  have hu : u.spine = s.spine := rfl
  split
  · exact (noteCauses_spine u [cause]).trans hu
  · exact hu

theorem standTrigger_spine (s : State) (page cause : Nat) : (s.standTrigger page cause).spine = s.spine :=
  (noteArisen_spine _ cause).trans (stand_spine s page cause)

theorem poolTrigger_spine (s : State) (page cause : Nat) : (s.poolTrigger page cause).spine = s.spine := by
  unfold State.poolTrigger
  extract_lets u
  have hu : u.spine = s.spine := by
    simp only [u]
    split
    · split
      · split
        · rfl
        · exact (raiseEvt_spine _ 6 2).trans (setBit_spine _ _ _ _ (by decide))
      · exact setF_inst_spine _ _ _ _ (by decide)
    · rfl
  exact (standTrigger_spine u page cause).trans hu

theorem spareTaken_spine (s : State) (p : Nat) : (s.spareTaken p).spine = s.spine :=
  (raiseEvt_spine _ 6 0).trans (raiseEvt_spine s p 29)

/-! ## Switches and loads -/

theorem flipSel_spine (s : State) {l : Nat} (hl : l < 128) : (s.flipSel l).spine = s.spine := by
  unfold State.flipSel
  extract_lets c u ch w w' v
  have hu : u.spine = s.spine := setF_idx_spine s F.EMT_RSV.SEL c _ (by decide) (by omega)
  have hv : v.spine = u.spine := (may_spine (setChain_spine u c _)).2
  exact (emt_spine v _).trans (hv.trans hu)

theorem switched_spine (s : State) {l : Nat} (hl : l < 128) : (s.switched l).spine = s.spine := by
  unfold State.switched
  extract_lets e u v
  have hu : u.spine = s.spine := (may_spine (setF_trimRetired_spine s e 1)).1
  have hv : v.spine = u.spine := by
    simp only [v, spareTaken_spine, raiseEvt_spine, countReserves_spine, flipSel_spine _ hl]
  exact (may_spine (poolTrigger_spine v 10 0x40)).1.trans (hv.trans hu)

theorem carrySwitches_spine (s : State) {c : Nat} (accept : Nat) (hc : c < 4) : (s.carrySwitches c accept).spine = s.spine := by
  refine foldl_range_spine _ _ (fun s p hp => ?_) s
  dsimp only
  split
  · exact ite_spine_of (fun _ => (setChain_spine _ _ _).trans (switched_spine s (by omega))) (fun _ => rfl)
  · rfl

theorem latchLoad_spine (s : State) {c : Nat} (k : ChainLoad) (hc : c < 4) : (s.latchLoad c k).spine = s.spine := by
  have hsent : (s.emitLoad c k).spine = s.spine := (may_spine (emit_spine s _)).2
  exact (setF_idx_spine _ F.EMT_CHAIN_STAT.LOADS c _ (by decide) (by omega)).trans ((setChain_spine _ c _).trans hsent)

theorem latchEnded_spine (s : State) : s.latchEnded.spine = s.spine := by
  refine foldl_range_spine _ _ (fun s c hc => ?_) s
  split
  · exact ite_spine_of (fun _ => (latchLoad_spine _ _ hc).trans (carrySwitches_spine s _ hc)) (fun _ => rfl)
  · rfl

end Sys2Proof.Machine
end

section
/-! PROOFS. Barista's slots (R92 to R96), continued: how a slot begins, and that nothing it does afterwards moves its clocks (O18). -/

namespace Sys2Proof.Machine

/-! ## The two parts of a slot -/

/-- The emitters have cooled since the last slot (R96), and what has ended is forgotten. -/
def State.cooled (s : State) (t : Nat) : State :=
  ((s.coolAll (t / 1000 - s.sch.slot)).mapSch (fun c => { c with slot := t / 1000 })).forgetOld

/-- A slot begins, in any device state. -/
def State.slotBegun (s : State) (t : Nat) : State :=
  let n := t / 1000 - s.sch.slot
  ((s.cooled t).throttle.latchEnded.trackSlot.injectEdges (t / 1000) n).injectHits (t / 1000) n

/-- What frames add to a slot: steps are entered, P0 groups run out of slack, and while the device emits groups start. -/
def State.slotServed (s : State) (t : Nat) : State :=
  if !s.frames || s.rst.active.isSome then s
  else match s.framePos t with
    | none => s
    | some pos =>
      let s := State.reach pos 700000 s
      match s.sch.frame with
      | none => s
      | some f =>
        if s.emitting then
          let s := s.slackOver.skipLeft f pos
          if s.emitting then State.arbitrate f pos (sortBy (s.before f) s.sch.ready) s else s
        else s

theorem doBaristaSlot_eq {s : State} {t : Nat} (hon : s.on 8 = true) (hnow : s.now ≤ t) (ht : t % 1000 = 0) (hslot : s.sch.slot < t / 1000) :
    doBaristaSlot t s = ((s.at t).slotBegun t).slotServed t := by
  unfold doBaristaSlot
  extract_lets a
  have hslot' : a.sch.slot < t / 1000 := by rw [State.at_sch]; exact hslot
  rw [if_neg (by simp [a, hon, ht, Nat.max_eq_right hnow, hslot])]
  rfl

/-- The scheduler as slot `slot` begins at `now`: the heat of R96, and what has ended is gone. -/
def SchedState.begun (c : SchedState) (tau slot now : Nat) : SchedState :=
  { c with
    heat := (c.heat.map (fun e => (e.1, coolDown tau (slot - c.slot) e.2))).filter (fun e => e.2 ≠ 0)
    slot := slot
    trains := c.trains.filter (fun tr => decide (now < tr.endOf + 10000))
    placed := c.placed.filter (fun x => decide (now < x.1 + 100000))
    starts := c.starts.filter (fun x => decide (slot < x.1 + 100)) }

theorem cooled_sch (s : State) (t : Nat) :
    (s.cooled t).sch = s.sch.begun (max 1 (s.getF F.SCH_THERM_TAU.VALUE)) (t / 1000) s.now := rfl

theorem throttle_sch (s : State) : ∃ hot : Bool, s.throttle.sch = { s.sch with hot := hot } := by
  unfold State.throttle
  extract_lets hot u
  refine ⟨hot, ?_⟩
  split
  · exact State.raiseEvt_sch u 8 4
  · rfl

/-- Beyond the throttle's mark and the azimuth track a slot begins as `SchedState.begun` says. -/
theorem slotBegun_sch (s : State) (t : Nat) : ∃ (hot : Bool) (track : List (Nat × Int × Nat)),
    (s.slotBegun t).sch = { s.sch.begun (max 1 (s.getF F.SCH_THERM_TAU.VALUE)) (t / 1000) s.now with hot := hot, track := track } := by
  obtain ⟨hot, hhot⟩ := throttle_sch (s.cooled t)
  have hlatch : (s.cooled t).throttle.latchEnded.sch = { s.sch.begun (max 1 (s.getF F.SCH_THERM_TAU.VALUE)) (t / 1000) s.now with hot := hot } :=
    (latchEnded_part (π := .scheduler) (by decide) _).trans (by rw [← cooled_sch]; exact hhot)
  refine ⟨hot, (s.cooled t).throttle.latchEnded.trackSlot.sch.track, ?_⟩
  calc (s.slotBegun t).sch
      = (s.cooled t).throttle.latchEnded.trackSlot.sch :=
        (injectHits_part (π := .scheduler) (by decide) _ _ _).trans (injectEdges_part (π := .scheduler) (by decide) _ _ _)
    _ = { (s.cooled t).throttle.latchEnded.sch with track := (s.cooled t).throttle.latchEnded.trackSlot.sch.track } := rfl
    _ = _ := by rw [hlatch]

theorem injectEdges_spine (s : State) (slot slots : Nat) : (s.injectEdges slot slots).spine = s.spine :=
  ite_spine_of (fun _ => rfl) (fun _ => foldl_range_spine _ _ (fun s _ _ => ite_spine_of (fun _ => rxc_spine s _) (fun _ => rfl)) s)

theorem injectHits_spine (s : State) (slot slots : Nat) : (s.injectHits slot slots).spine = s.spine := by
  unfold State.injectHits
  split
  · exact blocks_spine s s.sch s.emt _ s.rxc s.ram
  · rfl

theorem throttle_spine (s : State) : s.throttle.spine = s.spine := by
  unfold State.throttle
  exact ite_spine_of (fun _ => (raiseEvt_spine _ 8 4).trans (sch_spine s _)) (fun _ => sch_spine s _)

theorem cooled_spine (s : State) (t : Nat) : (s.cooled t).spine = s.spine :=
  (sch_spine _ _).trans ((markDark_spine _).trans ((sch_spine _ _).trans (sch_spine s _)))

theorem slotBegun_spine (s : State) (t : Nat) : (s.slotBegun t).spine = s.spine := by
  unfold State.slotBegun
  extract_lets n
  rw [injectHits_spine, injectEdges_spine]
  exact (sch_spine _ _).trans ((latchEnded_spine _).trans ((throttle_spine _).trans (cooled_spine s t)))

/-! ## The clocks -/

/-- The instant and the current slot. -/
def State.clocks (s : State) : Nat × Nat := (s.now, s.sch.slot)

theorem ite_clocks_of {c : Prop} [Decidable c] {a b s : State} (ha : a.clocks = s.clocks) (hb : b.clocks = s.clocks) :
    (if c then a else b).clocks = s.clocks := by
  split
  · exact ha
  · exact hb

theorem foldl_clocks {β : Type} (l : List β) (g : State → β → State) (hg : ∀ (s : State) (b : β), (g s b).clocks = s.clocks) (s : State) :
    (l.foldl g s).clocks = s.clocks := by
  induction l generalizing s with
  | nil => rfl
  | cons b l ih => exact (ih (g s b)).trans (hg s b)

/-- An operation that leaves the spine and the scheduler leaves the clocks. -/
theorem clocks_of_spine {s t : State} (h : t.spine = s.spine) (hs : t.sch.slot = s.sch.slot) : t.clocks = s.clocks :=
  Prod.ext (congrArg Spine.now h) hs

theorem raiseEvt_clocks (s : State) (p bit : Nat) : (s.raiseEvt p bit).clocks = s.clocks :=
  clocks_of_spine (raiseEvt_spine s p bit) (congrArg SchedState.slot (State.raiseEvt_sch s p bit))

theorem setTilt_clocks (s : State) (tilt : Int) : (s.setTilt tilt).clocks = s.clocks := by
  obtain ⟨v, hv⟩ := setTilt_sch s tilt
  exact clocks_of_spine ((updateValid_spine _).trans (ste_spine s _)) (by rw [hv])

theorem plan_clocks (s : State) (f : FrameInfo) (p i : Nat) (x : Nat × Nat) : (s.plan f p i x).clocks = s.clocks := by
  unfold State.plan
  exact ite_clocks_of rfl rfl

theorem reach_clocks (pos : Int) (fuel : Nat) (s : State) : (State.reach pos fuel s).clocks = s.clocks := by
  induction fuel generalizing s with
  | zero => rfl
  | succ fuel ih =>
    unfold State.reach
    split
    · extract_lets n e i u _ next
      have hu : u.clocks = s.clocks := ite_clocks_of (foldl_clocks _ _ (fun s x => plan_clocks s _ _ i x) s) rfl
      refine ite_clocks_of rfl (ite_clocks_of (ite_clocks_of ?_ rfl) (ite_clocks_of ?_ rfl))
      · exact (ih _).trans hu
      · exact (ih _).trans (setTilt_clocks _ next)
    · rfl

/-! ## The end of frames -/

theorem closeFrame_slot (s : State) (cut : Bool) : (s.closeFrame cut).sch.slot = s.sch.slot := by
  unfold State.closeFrame
  extract_lets u
  have hu : u.sch.slot = s.sch.slot := by
    have hskip := foldl_clocks s.sch.ready (fun s r => s.except r 8 0 true) (fun _ _ => rfl) s
    simp only [u]
    split
    · exact congrArg Prod.snd hskip
    · rfl
  clear_value u
  split
  · extract_lets f v
    have hv : v.sch = u.sch :=
      (setSat_part (π := .scheduler) u.publishCounts _ _).trans (publishCounts_part (π := .scheduler) (by decide) u)
    have hpub : ∀ w : State, ((w.publishPlan f).publishFrame f.num).sch = w.sch := fun w =>
      (publishFrame_part (π := .scheduler) _ f.num).trans (publishPlan_part (π := .scheduler) w f)
    clear_value v
    rw [hpub]
    exact (congrArg SchedState.slot hv).trans hu
  · exact hu

theorem abortFrames_slot (s : State) : s.abortFrames.sch.slot = s.sch.slot := by
  unfold State.abortFrames
  extract_lets u _ _ _ _ v
  have hstop : ((v.zeroLoads.outputsOff false).stopSteering).sch = v.sch :=
    (stopSteering_part (π := .scheduler) (by decide) _).trans ((outputsOff_part (π := .scheduler) (by decide) _ _).trans
      (zeroLoads_part (π := .scheduler) (by decide) v))
  exact (congrArg SchedState.slot hstop).trans (closeFrame_slot s true)

theorem enterSafe_slot (s : State) (cause : Nat) (others : List Nat) : (s.enterSafe cause others).sch.slot = s.sch.slot := by
  have hnote : (s.noteCauses (cause :: others)).sch.slot = s.sch.slot :=
    congrArg SchedState.slot (noteCauses_part (π := .scheduler) s _)
  unfold State.enterSafe
  split
  · rfl
  · rfl
  · exact hnote
  · exact hnote
  · split
    · exact hnote
    · extract_lets
      rw [State.recPulse_sch, State.enterState_sch_slot]
      exact abortFrames_slot s

theorem enterSafe_clocks (s : State) (cause : Nat) (others : List Nat) : (s.enterSafe cause others).clocks = s.clocks :=
  Prod.ext (congrArg Spine.now (enterSafe_unstated s cause others)) (enterSafe_slot s cause others)

/-! ## P0 that cannot be served -/

theorem p0Fails_clocks (s : State) (exempt : Bool) (fail : Option Nat) : (s.p0Fails exempt fail).clocks = s.clocks :=
  ite_clocks_of rfl (enterSafe_clocks s _ [])

theorem readySlack_clocks (s : State) (f : FrameInfo) (r : Ready) : (s.readySlack f r).clocks = s.clocks :=
  ite_clocks_of rfl ((p0Fails_clocks _ _ _).trans (raiseEvt_clocks _ 8 2))

theorem owedSlack_clocks (s : State) (o : OwedP0) : (s.owedSlack o).clocks = s.clocks :=
  (p0Fails_clocks _ _ _).trans (raiseEvt_clocks _ 8 2)

theorem slackOver_clocks (s : State) : s.slackOver.clocks = s.clocks := by
  unfold State.slackOver
  extract_lets u
  have hu : u.clocks = s.clocks := foldl_clocks _ _ owedSlack_clocks s
  split
  · exact (foldl_clocks _ _ (fun s r => readySlack_clocks s _ r) u).trans hu
  · exact hu

theorem skipP0_clocks (s : State) (f : FrameInfo) (r : Ready) (due : Nat) : (s.skipP0 f r due).clocks = s.clocks :=
  ite_clocks_of rfl (p0Fails_clocks _ _ _)

theorem skipLeft_clocks (s : State) (f : FrameInfo) (pos : Int) : (s.skipLeft f pos).clocks = s.clocks := by
  unfold State.skipLeft
  extract_lets gone u v
  have hu : u.clocks = s.clocks := foldl_clocks gone (fun s r => s.except r (r.fail.getD 0) 0 true) (fun _ _ => rfl) s
  exact (foldl_clocks _ _ (fun s r => skipP0_clocks s f r _) v).trans hu

/-! ## The start of a group -/

theorem admitAll_clocks (s : State) (r : Ready) (ls : List (Nat × Nat)) : (s.admitAll r ls).1.clocks = s.clocks := by
  unfold State.admitAll
  split
  · rfl
  · rfl

theorem checks_clocks (s : State) (f : FrameInfo) (pos : Int) (r : Ready) : (s.checks f pos r).1.clocks = s.clocks := by
  have hadmit := admitAll_clocks s r (s.members (s.readyEntry r))
  have hevt : ∀ bit, ((s.admitAll r (s.members (s.readyEntry r))).1.raiseEvt 8 bit).clocks = s.clocks :=
    fun bit => (raiseEvt_clocks _ 8 bit).trans hadmit
  unfold State.checks
  extract_lets +onlyGivenNames g ls
  simp only [apply_ite Prod.fst]
  refine ite_clocks_of rfl (ite_clocks_of rfl (ite_clocks_of rfl (ite_clocks_of rfl (ite_clocks_of rfl ?_))))
  exact ite_clocks_of hadmit (ite_clocks_of (hevt 6) (ite_clocks_of (hevt 5) (ite_clocks_of hadmit hadmit)))

theorem openLine_clocks (s : State) (tr : Train) (x : TrainLine) : (s.openLine tr x).clocks = s.clocks := by
  refine foldl_clocks _ _ (fun s i => ?_) s
  dsimp only
  split
  · rfl
  · exact ite_clocks_of (raiseEvt_clocks _ 14 6) rfl

theorem startGroup_clocks (s : State) (f : FrameInfo) (r : Ready) : (s.startGroup f r).clocks = s.clocks := by
  unfold State.startGroup
  extract_lets tr first u v marks w
  have hu : u.clocks = s.clocks := by
    simp only [u]
    split
    · exact ite_clocks_of rfl rfl
    · rfl
  exact (foldl_clocks _ _ (fun s x => openLine_clocks s tr x) w).trans hu

theorem arbitrate_clocks (f : FrameInfo) (pos : Int) (l : List Ready) (s : State) : (State.arbitrate f pos l s).clocks = s.clocks := by
  induction l generalizing s with
  | nil => rfl
  | cons r rest ih =>
    have hc := checks_clocks s f pos r
    unfold State.arbitrate
    split
    · split
      all_goals rename_i heq; rw [heq] at hc
      · exact (startGroup_clocks _ f _).trans hc
      · exact (ih _).trans hc
    · exact ih s

theorem slotServed_clocks (s : State) (t : Nat) : (s.slotServed t).clocks = s.clocks := by
  unfold State.slotServed
  refine ite_clocks_of rfl ?_
  split
  · rfl
  · extract_lets u
    have hu : u.clocks = s.clocks := reach_clocks _ 700000 s
    split
    · exact hu
    · extract_lets v
      have hv : v.clocks = s.clocks := (skipLeft_clocks _ _ _).trans ((slackOver_clocks u).trans hu)
      exact ite_clocks_of (ite_clocks_of ((arbitrate_clocks _ _ _ v).trans hv) hv) hu

/-! ## Nothing to serve -/

/-- With every step planned the estimate enters none. -/
theorem reach_of_planned (pos : Int) (fuel : Nat) {s : State} (h : s.sch.at_ = none) : State.reach pos fuel s = s := by
  cases fuel with
  | zero => rfl
  | succ fuel =>
    unfold State.reach
    split
    · rename_i hat
      rw [h] at hat
      cases hat
    · rfl

/-- Where no P0 group is ready or owed, no slack ends. -/
theorem slackOver_of_no_p0 {s : State} (ho : s.sch.owed = []) (hr : ∀ r ∈ s.sch.ready, r.cls ≠ 0) : s.slackOver = s := by
  have hnone : s.sch.ready.filter (fun r => r.cls = 0 && decide (s.slackEnd r < s.sch.slot)) = [] :=
    List.filter_eq_nil_iff.2 (fun r h => by simp [hr r h])
  unfold State.slackOver
  rw [ho]
  dsimp only [List.filter_nil, List.foldl_nil]
  split
  · rw [hnone]
    rfl
  · rfl

theorem skipLeft_of_no_ready {s : State} (f : FrameInfo) (pos : Int) (hr : s.sch.ready = []) : s.skipLeft f pos = s := by
  unfold State.skipLeft
  rw [hr]
  show ({ s with sch := { s.sch with ready := s.sch.ready.filter _ } } : State) = s
  rw [hr, List.filter_nil, ← hr]

/-- A slot with every step planned and no group ready or owed serves nothing. -/
theorem slotServed_of_no_ready {s : State} (t : Nat) (hat : s.sch.at_ = none) (hr : s.sch.ready = []) (ho : s.sch.owed = []) :
    s.slotServed t = s := by
  unfold State.slotServed
  split
  · rfl
  · split
    · rfl
    · rw [reach_of_planned _ _ hat]
      dsimp only
      split
      · rfl
      · rw [slackOver_of_no_p0 ho (by simp [hr]), skipLeft_of_no_ready _ _ hr, hr]
        show (if _ then (if _ then s else s) else s) = s
        rw [ite_self, ite_self]

/-- Settles O18: a slot begins as `slotBegun` says, and what it serves moves neither clock. -/
theorem everySlotCompletes : Obligations.EverySlotCompletes := by
  have hbegun : ∀ (s : State) (t : Nat), s.now ≤ t → ((s.at t).slotBegun t).clocks = (t, t / 1000) := by
    intro s t hnow
    obtain ⟨hot, track, hsch⟩ := slotBegun_sch (s.at t) t
    refine Prod.ext ((congrArg Spine.now (slotBegun_spine _ t)).trans ?_) (by simp [State.clocks, hsch, SchedState.begun])
    exact (State.at_now s t).trans (Nat.max_eq_right hnow)
  refine ⟨?_, ?_⟩
  · intro s t hon hnow ht hslot
    have hclocks := (slotServed_clocks ((s.at t).slotBegun t) t).trans (hbegun s t hnow)
    refine ⟨_, rfl, ?_⟩
    rw [State.settle_sch, State.settle_now, doBaristaSlot_eq hon hnow ht hslot]
    exact ⟨congrArg Prod.snd hclocks, congrArg Prod.fst hclocks⟩
  · intro s t hon hnow ht hslot hat hr ho
    obtain ⟨hot, track, hsch⟩ := slotBegun_sch (s.at t) t
    have hserved : ((s.at t).slotBegun t).slotServed t = (s.at t).slotBegun t :=
      slotServed_of_no_ready t (by simp [hsch, SchedState.begun, hat]) (by simp [hsch, SchedState.begun, hr])
        (by simp [hsch, SchedState.begun, ho])
    refine ⟨_, rfl, ?_⟩
    rw [State.settle_sch, State.settle_dev, doBaristaSlot_eq hon hnow ht hslot, hserved, hsch]
    refine ⟨rfl, ?_, ?_, ?_⟩
    · simp [SchedState.begun, Nat.max_eq_right hnow]
    · simp [SchedState.begun, hr]
    · exact (dev_of_spine (slotBegun_spine _ t)).trans (State.at_dev s t)

end Sys2Proof.Machine
end

section
/-! PROOFS. Barista's slots (O17): a late load that latches as the slot begins (R132) can move a facet's trim, where the frame counts more facets
than there are trims. -/

namespace Sys2Proof.Machine

theorem Ready.same_self (r : Ready) : r.same r = true := by simp [Ready.same, Ready.isAt]

/-- The only ready group, not of P0, is skipped once its step is left (R94). -/
theorem skipLeft_of_left {s : State} {f : FrameInfo} {pos : Int} {r : Ready} (hr : s.sch.ready = [r]) (hc : r.cls ≠ 0)
    (hend : s.stepEnd f r.pass r.step ≤ pos) : (s.skipLeft f pos).sch.ready = [] := by
  have hgone : [r].filter (fun r => decide (s.stepEnd f r.pass r.step ≤ pos)) = [r] := by simp [hend]
  have hp0 : [r].filter (fun r => decide (r.cls = 0)) = [] := by simp [hc]
  unfold State.skipLeft
  rw [hr, hgone]
  dsimp only
  rw [hp0]
  show s.sch.ready.filter (fun q => !([r].any (fun g => g.same q))) = []
  rw [hr]
  simp [Ready.same_self]

/-- So it does not start in the slot, and is ready no more. -/
theorem slotServed_of_left {s : State} {t : Nat} {f : FrameInfo} {pos : Int} {r : Ready} (hem : s.emitting = true) (hrst : s.rst.active = none)
    (hpos : s.framePos t = some pos) (hf : s.sch.frame = some f) (hat : s.sch.at_ = none) (hr : s.sch.ready = [r]) (ho : s.sch.owed = [])
    (hc : r.cls ≠ 0) (hend : s.stepEnd f r.pass r.step ≤ pos) : (s.slotServed t).sch.ready = [] := by
  have hfr : s.frames = true := by
    simp only [State.emitting, decide_eq_true_eq] at hem
    simp [State.frames, hem]
  have hskip := skipLeft_of_left hr hc hend
  unfold State.slotServed
  rw [if_neg (by simp [hfr, hrst]), hpos]
  dsimp only
  rw [reach_of_planned _ _ hat, hf]
  dsimp only
  rw [if_pos hem, slackOver_of_no_p0 ho (by simp [hr, hc]), hskip]
  show (State.sch (if _ then s.skipLeft f pos else s.skipLeft f pos)).ready = []
  rw [ite_self, hskip]

/-! ## The unit of the counterexample -/

/-- A frame that counts 2⁴⁰ facets: the trim of facet 1012 would stand where chain 0 counts its loads. -/
def manyFacets : FrameInfo :=
  { num := 1, epoch := 0, tai := 0, bank := 0, planned := [0, 0, 0, 0, 0], started := [0, 0, 0, 0, 0], reasons := List.replicate 9 0, excs := [],
    excLost := 0, transition := false, degraded := false, holdover := false, truncated := false, state := 4, facets := 2 ^ 40, revs := 1,
    rpm := 3000, trains := 0, pulses := 0, delayed := [], suppressed := [], validAll := true, start := 0, dark := 0, first := true,
    opened := false, headerDone := false, statsDone := false, stop := none }

/-- A group of class P1 in pass 1012. -/
def farGroup : Ready :=
  { pass := 1012, step := 0, pos := 0, group := 0, cls := 1, readySlot := 0, fail := none, thermal := none, slack := false }

/-- A load that its boundary found still shifting. -/
def lateLoad : ChainLoad := { words := [], energies := [], zero := false, start := 0, late := true }

/-- In `RUN`, steering not valid: chain 0 has counted 127 loads, and one more has ended its shift. -/
def slipUnit : State :=
  { State.reset with
    regs := [(0x110, 4), (0x9114, 1024), (0xA100, 0), (0xA110, 0x007F0000)]
    pwr := { PowerState.reset with released := [0, 8] }
    rst := { RstState.reset with loading := false }
    sch := { SchedState.reset with frame := some manyFacets, ready := [farGroup] }
    ste := { SteerState.reset with edges := [500, 400, 300, 200, 100], indexed := true }
    emt := { EmitState.reset with chains := [{ Chain.reset with load := some lateLoad }] } }

theorem slipUnit_ahead : slipUnit.stepEnd manyFacets 1012 0 = 8323072 := by decide

/-- In the slot the chain's count wraps the trim of facet 1012 to its least value, and the group's step is left. -/
theorem slipUnit_left : ((slipUnit.at 1000).slotBegun 1000).stepEnd manyFacets 1012 0 = -8388608 := by
  set_option maxRecDepth 20000 in decide

theorem slipUnit_place : ((slipUnit.at 1000).slotBegun 1000).framePos 1000 = some 40960 := by
  set_option maxRecDepth 20000 in decide

/-- Where that group should keep reason 1, it is ready no more. -/
theorem slipUnit_skips : (doBaristaSlot 1000 slipUnit).sch.ready = [] := by
  obtain ⟨hot, track, hsch⟩ := slotBegun_sch (slipUnit.at 1000) 1000
  have hspine := slotBegun_spine (slipUnit.at 1000) 1000
  have hem : ((slipUnit.at 1000).slotBegun 1000).emitting = true :=
    (emitting_iff _).2 (.inl ((dev_of_spine hspine).trans (by decide)))
  have hrst : ((slipUnit.at 1000).slotBegun 1000).rst = (slipUnit.at 1000).rst := rst_of_spine hspine
  rw [doBaristaSlot_eq (by decide) (by decide) (by decide) (by decide)]
  refine slotServed_of_left (f := manyFacets) (r := farGroup) hem ((congrArg RstState.active hrst).trans (by decide)) slipUnit_place ?_ ?_ ?_ ?_
    (by decide) (slipUnit_left.trans_le (by decide))
  all_goals rw [hsch]; rfl

/-- Refutes O17: its third clause takes the step's end before the slot. In `slipUnit` that end is read through the trim of facet 1012 of a frame
with 2⁴⁰ facets, which is the word where chain 0 counts its loads; the late load that latches as the slot begins (R132) moves it behind the
estimate, and the group is skipped (R94) before steering's validity is looked at. -/
theorem not_baristaSlots : ¬ Obligations.BaristaSlots := by
  intro h
  obtain ⟨-, -, hwaits, -⟩ := h
  obtain ⟨u, hu, hready, -⟩ := hwaits slipUnit 1000 40960 manyFacets farGroup (by decide) (by decide) (by decide) (by decide) (by decide)
    (by decide) (by decide) (by decide) rfl rfl rfl rfl (by decide) (slipUnit_ahead.symm ▸ (by decide))
  have hstep : u = (doBaristaSlot 1000 slipUnit).settle := (Host.Outcome.next.inj hu).symm
  rw [hstep, State.settle_sch, slipUnit_skips] at hready
  cases hready

end Sys2Proof.Machine
end

section
/-! PROOFS. The interlock's gate (O8). -/

namespace Sys2Proof.Machine

/-- Pins that follow the state hold `EMIT_EN` low while the interlock has tripped. -/
theorem emitEn_of_ilk {s : State} (h : s.Settled) (hilk : s.getF F.STE_STAT.ILK = 1) : s.pins.emitEn = false := by
  obtain ⟨hpins, -⟩ := h
  simp [hpins, State.pinsOf, hilk]

/-- Settles O8: what a command answers has settled, and the interlock is a gate of its own in the pins of a settled state. -/
theorem interlockGate : Obligations.InterlockGate :=
  fun _ _ _ h hilk => emitEn_of_ilk (exec_settled h) hilk

end Sys2Proof.Machine
end

section
/-! PROOFS. What steering brings into `SAFE` (O16): the interlock's trip (R116, R117), and the timeouts (R118, R119). -/

namespace Sys2Proof.Machine

/-- In `SAFE` for a doubt of steering, with every output off. -/
abbrev State.doubtsSteering (u : State) : Prop := u.dev = .safe ∧ u.getF F.SYS_STATE.CAUSE = 0x27 ∧ u.dark = true

theorem frames_iff (s : State) : s.frames = true ↔ s.dev = .spinup ∨ s.dev = .run ∨ s.dev = .degraded := by
  simp [State.frames]

theorem frames_of_emitting {s : State} (h : s.dev = .run ∨ s.dev = .degraded) : s.frames = true := (frames_iff s).2 (.inr h)

/-- A command that ends with steering's cause of doubt, in a state with frames. -/
theorem enterSafe_doubts {s : State} (h : s.frames = true) : (s.enterSafe 0x27 []).settle.doubtsSteering := by
  rw [frames_iff] at h
  have hboot : s.dev = .boot → s.sameCycle = false := fun hb => by rcases h with h | h | h <;> simp [h] at hb
  exact enterSafe_settled s [] (by decide) (.inr (.inr h)) hboot

theorem setCond_spine (s : State) (cause : Nat) (holds : Bool) : (s.setCond cause holds).spine = s.spine := by
  unfold State.setCond
  extract_lets had conds _ u v
  have hv : v.spine = s.spine := (setF_spine _ F.STE_ILK_STAT.COND _ (by decide)).trans (setF_spine u F.STE_STAT.ILK_COND _ (by decide))
  split
  · exact (raiseEvt_spine v 9 5).trans hv
  · exact hv

/-- A trip while the device emits ends in `SAFE` (R117). -/
theorem tripIlk_doubts {s : State} (cause : Nat) (h : s.dev = .run ∨ s.dev = .degraded) : (s.tripIlk cause).settle.doubtsSteering := by
  unfold State.tripIlk
  extract_lets u
  have hu : u.spine = s.spine := by
    simp (disch := decide) only [u, State.bump_eq, setF_spine]
  have hdev : (u.raiseEvt 9 0).dev = s.dev := dev_of_spine ((raiseEvt_spine u 9 0).trans hu)
  exact enterSafe_doubts (frames_of_emitting (hdev ▸ h))

/-- So does a cause of the interlock, which is armed then. -/
theorem interlockCause_doubts {s : State} (cause : Nat) (h : s.dev = .run ∨ s.dev = .degraded) :
    (s.interlockCause cause).settle.doubtsSteering := by
  have hdev : (s.setCond cause true).dev = s.dev := dev_of_spine (setCond_spine s cause true)
  unfold State.interlockCause
  extract_lets u
  rw [if_pos ((emitting_iff u).2 (hdev ▸ h))]
  exact tripIlk_doubts cause (hdev ▸ h)

theorem frames_at (s : State) (t : Nat) : (s.at t).frames = s.frames := by simp only [State.frames, State.at_dev]

theorem emitting_at (s : State) (t : Nat) : (s.at t).emitting = s.emitting := by simp only [State.emitting, State.at_dev]

theorem doInterlockTrip_doubts {s : State} (cause : Fin 5) (t : Nat) (h : s.dev = .run ∨ s.dev = .degraded) (hon : s.on 9 = true) :
    (doInterlockTrip cause t s).settle.doubtsSteering := by
  unfold doInterlockTrip
  extract_lets u
  rw [if_neg (by simp [u, frames_at, frames_of_emitting h, hon])]
  exact interlockCause_doubts _ (by simpa [u] using h)

theorem doGalvoStallExpiry_doubts {s : State} {t since : Nat} (h : s.dev = .run ∨ s.dev = .degraded) (hon : s.on 9 = true)
    (hs : s.ste.stall = some since) (ht : s.now ≤ t) (hlong : since + s.getF F.STE_ILK.STALL * 1000000 ≤ t) :
    (doGalvoStallExpiry t s).settle.doubtsSteering := by
  have hdo : doGalvoStallExpiry t s = (s.at t).interlockCause 4 := by
    simp [doGalvoStallExpiry, hs, frames_at, frames_of_emitting h, hon, hlong, ht]
  rw [hdo]
  exact interlockCause_doubts 4 (by simpa using h)

theorem doSpinupTimeout_doubts {s : State} {t : Nat} (h : s.dev = .spinup) (ht : s.now ≤ t)
    (hlong : s.ste.spinAt + s.getF F.STE_TMO.SPIN * 10000000 ≤ t) : (doSpinupTimeout t s).settle.doubtsSteering := by
  have hdo : doSpinupTimeout t s = (s.at t).enterSafe 0x27 [] := by simp [doSpinupTimeout, h, hlong, ht]
  rw [hdo]
  exact enterSafe_doubts (by simp [frames_iff, h])

theorem doTransitionTimeout_doubts {s : State} {t r : Nat} (h : s.dev = .run ∨ s.dev = .degraded) (htr : s.ste.transition = true)
    (hr : s.ste.rampedAt = some r) (ht : s.now ≤ t) (hlong : r + s.getF F.STE_TMO.TRANS * 10000000 ≤ t) :
    (doTransitionTimeout t s).settle.doubtsSteering := by
  have hdo : doTransitionTimeout t s = (s.at t).enterSafe 0x27 [] := by
    simp [doTransitionTimeout, hr, emitting_at, (emitting_iff s).2 h, htr, hlong, ht]
  rw [hdo]
  exact enterSafe_doubts (by rw [frames_at]; exact frames_of_emitting h)

/-- Settles O16: each of the commands by the doubt it ends with. -/
theorem steeringDoubt : Obligations.SteeringDoubt := by
  refine ⟨?_, ?_, ?_, ?_⟩
  · exact fun s cause t h hon => ⟨_, rfl, doInterlockTrip_doubts cause t h hon⟩
  · exact fun s t since h hon hs ht hlong => ⟨_, rfl, doGalvoStallExpiry_doubts h hon hs ht hlong⟩
  · exact fun s t h ht hlong => ⟨_, rfl, doSpinupTimeout_doubts h ht hlong⟩
  · exact fun s t r h htr hr ht hlong => ⟨_, rfl, doTransitionTimeout_doubts h htr hr ht hlong⟩

end Sys2Proof.Machine
end

section
/-! PROOFS. Holdover of the reference on `FSYNC` (O13, R106). -/

namespace Sys2Proof.Machine

/-- The command counts as missed what is overdue as it comes, whatever was counted before. -/
theorem doFsyncHoldover_missed {s : State} {t : Nat} (hon : s.on 9 = true) (href : s.getF F.STE_CTL.REFSRC = 1)
    (hh : s.ste.holdover = false) (hn : 3 ≤ (s.at t).overdueEdges) : (doFsyncHoldover t s).ste.missed = (s.at t).overdueEdges := by
  have hdo : doFsyncHoldover t s = (s.at t).missEdges (s.at t).overdueEdges := by
    simp [doFsyncHoldover, hon, href, hh, hn]
  rw [hdo]
  simp [State.missEdges, hn, hh]

/-- Frames of 10 ms referenced on `FSYNC`, whose edge fell at 0, with ten edges counted missed before holdover. -/
def overcounted : State :=
  { ((State.reset.setF F.STE_CTL.REFSRC 1).setF F.SCH_PROG.REVS 1).setF F.SCH_PROG.RPM 6000 with
    pwr := { PowerState.reset with released := [0, 9] }
    ste := { SteerState.reset with fsync := some 0, missed := 10 } }

theorem overcounted_overdue : (overcounted.at 40000000).overdueEdges = 3 := by decide

/-- Refutes O13: outside holdover its last clause leaves the larger of the edges counted and the edges overdue, in every state. `overcounted` has
ten counted and three overdue, and `FSYNC_HOLDOVER` leaves the three. -/
theorem not_encoderCommands : ¬ Obligations.EncoderCommands := by
  intro h
  obtain ⟨-, -, -, hhold⟩ := h
  obtain ⟨u, hu, -, -, -, hmissed⟩ := hhold overcounted 40000000 3 (by decide) (by decide) rfl overcounted_overdue.symm (by decide)
  have hstep : u = (doFsyncHoldover 40000000 overcounted).settle := (Host.Outcome.next.inj hu).symm
  have hthree : u.ste.missed = 3 := by
    rw [hstep, State.settle_ste, doFsyncHoldover_missed (by decide) (by decide) rfl (by rw [overcounted_overdue]), overcounted_overdue]
  exact absurd (hthree.symm.trans hmissed) (by decide)

end Sys2Proof.Machine
end

section
/-! PROOFS. What the loops of steering follow: the ramped reference and the galvo's last position outlast whatever ends a sample, the trip of
the interlock included (R117). -/

namespace Sys2Proof.Machine

/-- The polygon's ramped reference (R118) and the galvo's last measured position (R113). -/
def State.followed (s : State) : Int × Int := (s.ste.refRpm, s.ste.gvMeas)

theorem followed_of_part {s t : State} (h : t.part .steering = s.part .steering) : t.followed = s.followed :=
  congrArg (fun x : SteerState => (x.refRpm, x.gvMeas)) h

theorem followed_ite {c : Prop} [Decidable c] {a b s : State} (ha : a.followed = s.followed) (hb : b.followed = s.followed) :
    (if c then a else b).followed = s.followed := by
  split
  · exact ha
  · exact hb

theorem raiseEvt_followed (s : State) (p bit : Nat) : (s.raiseEvt p bit).followed = s.followed := followed_of_part (raiseEvt_part s p bit)

theorem setF_followed (s : State) (f : Field) (v : Nat) : (s.setF f v).followed = s.followed := rfl

theorem updateValid_followed (s : State) : s.updateValid.followed = s.followed := by
  unfold State.updateValid
  exact followed_ite rfl rfl

theorem closeSteering_followed (s : State) : s.closeSteering.followed = s.followed := by
  unfold State.closeSteering
  split
  · rfl
  · extract_lets _ u
    exact followed_of_part (t := u) (commitRecord_part s _ _ _)

theorem stopSteering_followed (s : State) : s.stopSteering.followed = s.followed := by
  unfold State.stopSteering
  extract_lets u
  have hu : u.followed = s.followed := closeSteering_followed s
  clear_value u
  simp only [setF_followed]
  exact hu

theorem abortFrames_followed (s : State) : s.abortFrames.followed = s.followed := by
  unfold State.abortFrames
  extract_lets u
  have hu : u.followed = s.followed := followed_of_part ((markDark_part (by decide) _).trans (closeFrame_part (by decide) s true))
  clear_value u
  rw [stopSteering_followed, followed_of_part (outputsOff_part (by decide) _ _), followed_of_part (zeroLoads_part (by decide) _)]
  exact hu

theorem enterSafe_followed (s : State) (c : Nat) (o : List Nat) : (s.enterSafe c o).followed = s.followed := by
  have hnote : (s.noteCauses (c :: o)).followed = s.followed := followed_of_part (noteCauses_part s _)
  unfold State.enterSafe
  split
  · rfl
  · rfl
  · exact hnote
  · exact hnote
  · refine followed_ite hnote ?_
    extract_lets _ u
    have hu : u.followed = s.followed := abortFrames_followed s
    clear_value u
    rw [followed_of_part (recPulse_part _ _ _), followed_of_part (enterState_part (by decide) _ _ _ _)]
    exact hu

theorem setCond_followed (s : State) (cause : Nat) (holds : Bool) : (s.setCond cause holds).followed = s.followed := by
  unfold State.setCond
  extract_lets had conds _ u v
  have hv : v.followed = s.followed := rfl
  clear_value v
  exact followed_ite ((raiseEvt_followed v 9 5).trans hv) hv

theorem speedConds_followed (s : State) : s.speedConds.followed = s.followed := by
  unfold State.speedConds
  split
  · exact (setCond_followed _ _ _).trans (setCond_followed s _ _)
  · rfl

theorem tripIlk_followed (s : State) (cause : Nat) : (s.tripIlk cause).followed = s.followed := by
  unfold State.tripIlk
  extract_lets u
  have hu : u.followed = s.followed := rfl
  clear_value u
  rw [enterSafe_followed, raiseEvt_followed, hu]

theorem armIlk_followed (s : State) : s.armIlk.followed = s.followed := by
  unfold State.armIlk
  split
  · exact followed_ite (tripIlk_followed s _) rfl
  · rfl

theorem judgeIlk_followed (s : State) : s.judgeIlk.followed = s.followed := by
  simp only [State.judgeIlk, armIlk_followed, setCond_followed, speedConds_followed]

theorem stickySat_followed (s : State) (f : Field) (v : Nat) : (s.stickySat f v).followed = s.followed :=
  followed_of_part (stickySat_part s f v)

theorem loopEntry_followed (s : State) (test : Option Nat) (loop : Nat) (set fb err out : Int) (sat : Bool) :
    (s.loopEntry test loop set fb err out sat).followed = s.followed := by
  unfold State.loopEntry
  split
  · extract_lets u
    have hu : u.followed = s.followed := rfl
    clear_value u
    split
    · rw [followed_of_part (recPush_part _ _ _), hu]
    · exact hu
  · exact followed_of_part ((tick_part _).trans (recPush_part s _ _))

theorem missEdges_followed (s : State) (n : Nat) : (s.missEdges n).followed = s.followed := by
  unfold State.missEdges
  extract_lets u _ v
  have hv : v.followed = s.followed := rfl
  clear_value v
  refine followed_ite ?_ hv
  exact (raiseEvt_followed _ 9 2).trans hv

/-- Missed edges are counted in `STE_REF_STAT` and reported in `STE_STAT` and the page's events, and nowhere else. -/
theorem missEdges_getF (s : State) (n : Nat) (f : Field)
    (h : f.addr ≠ F.STE_REF_STAT.MISSED.addr ∧ f.addr ≠ F.STE_STAT.REF_OK.addr ∧ f.addr ≠ (H.ISR 9).addr) : (s.missEdges n).getF f = s.getF f := by
  obtain ⟨hmissed, hok, hisr⟩ := h
  unfold State.missEdges
  extract_lets u _ v
  have hv : v.getF f = s.getF f := getF_setF_other s F.STE_REF_STAT.MISSED f _ hmissed
  clear_value v
  split
  · rw [State.raiseEvt_getF _ _ _ _ hisr, getF_setF_other _ _ _ _ hok]
    exact hv
  · exact hv

end Sys2Proof.Machine
end

section
/-! PROOFS. Samples of the loops, steering records, the end of a steering test (O15). -/

namespace Sys2Proof.Machine

/-! ## Polygon (R118) -/

/-- The next reference depends on the last one and on STE_RPM. -/
theorem ramped_congr {s t : State} (hr : t.followed = s.followed) (ht : t.getF F.STE_RPM.TARGET = s.getF F.STE_RPM.TARGET)
    (hramp : t.getF F.STE_RPM.RAMP = s.getF F.STE_RPM.RAMP) : t.ramped = s.ramped := by
  have href : t.ste.refRpm = s.ste.refRpm := congrArg Prod.fst hr
  simp only [State.ramped, href, ht, hramp]

theorem ramped_at (s : State) (t : Nat) : (s.at t).ramped = s.ramped :=
  ramped_congr (followed_of_part (at_part s t)) (State.at_getF s t _) (State.at_getF s t _)

theorem ramped_missEdges (s : State) (n : Nat) : (s.missEdges n).ramped = s.ramped :=
  ramped_congr (missEdges_followed s n) (missEdges_getF s n _ (by decide)) (missEdges_getF s n _ (by decide))

/-- A sample of the polygon loop moves the reference one step of its ramp. -/
theorem doPolygonLoopSample_refRpm {s : State} (t : Nat) (hfr : s.frames = true) (hon : s.on 9 = true) :
    (doPolygonLoopSample t s).ste.refRpm = s.ramped := by
  unfold doPolygonLoopSample
  extract_lets +onlyGivenNames z
  rw [if_neg (by simp [z, frames_at, hfr, hon])]
  extract_lets +onlyGivenNames z1 ref there
  have href : ref = s.ramped := by
    have hz1 : z1.ramped = z.ramped := by
      simp only [z1, apply_ite State.ramped, ramped_missEdges, ite_self]
    exact hz1.trans (ramped_at s t)
  clear_value ref
  split
  extract_lets +onlyGivenNames changed _ z2 z3 z4 z5 test add atSet set
  have h2 : z2.followed = (ref, z1.ste.gvMeas) := rfl
  clear_value z2
  have h3 : z3.followed = z2.followed := rfl
  have h4 : z4.followed = z2.followed := followed_ite ((raiseEvt_followed z3 9 1).trans h3) h3
  have h5 : z5.followed = z2.followed := followed_ite h4 (followed_ite h4 h4)
  clear_value z5
  split
  split
  extract_lets +onlyGivenNames olim o _ z6 z7 z8 z9
  have h6 : z6.followed = z2.followed := h5
  clear_value z6
  have h8 : z8.followed = z2.followed :=
    followed_ite ((stickySat_followed z7 _ _).trans ((stickySat_followed z6 _ _).trans h6)) ((stickySat_followed z6 _ _).trans h6)
  have hend : z9.judgeIlk.updateValid.followed = (ref, z1.ste.gvMeas) := by
    rw [updateValid_followed, judgeIlk_followed, loopEntry_followed, h8, h2]
  exact (congrArg Prod.fst hend).trans href

theorem ramped_eq (s : State) :
    s.ramped = (if s.ste.refRpm < ((s.getF F.STE_RPM.TARGET * 2560000 : Nat) : Int) then
      min ((s.getF F.STE_RPM.TARGET * 2560000 : Nat) : Int) (s.ste.refRpm + ((s.getF F.STE_RPM.RAMP * 256 : Nat) : Int))
    else max ((s.getF F.STE_RPM.TARGET * 2560000 : Nat) : Int) (s.ste.refRpm - ((s.getF F.STE_RPM.RAMP * 256 : Nat) : Int))) := by
  have htarget : (s.getF F.STE_RPM.TARGET : Int) * 256 * 10000 = ((s.getF F.STE_RPM.TARGET * 2560000 : Nat) : Int) := by push_cast; ring
  simp only [State.ramped, htarget, Nat.cast_mul, Nat.cast_ofNat]

/-! ## Galvo (R113) -/

/-- What the galvo's loop takes for feedback: the encoder's count, or with GV_FB the result of the housekeeping entry. -/
def State.galvoFeedback (s : State) (raw : Int) : Int :=
  if s.getF F.STE_CTL.GV_FB = 0 then raw else s.hkaResult (s.getF F.STE_CTL.GV_HKA)

theorem tiltUnits_at (s : State) (t : Nat) (raw : Int) : (s.at t).tiltUnits raw = s.tiltUnits raw := by
  simp only [State.tiltUnits, State.getI, State.at_getF]

theorem galvoFeedback_at (s : State) (t : Nat) (raw : Int) : (s.at t).galvoFeedback raw = s.galvoFeedback raw := by
  simp only [State.galvoFeedback, State.hkaResult, State.at_getF, State.at_hka]

/-- A sample of the galvo loop measures its feedback in tilt units. -/
theorem doGalvoLoopSample_gvMeas {s : State} (t : Nat) (raw : Int) (hfr : s.frames = true) (hon : s.on 9 = true) :
    (doGalvoLoopSample t raw s).ste.gvMeas = s.tiltUnits (s.galvoFeedback raw) := by
  unfold doGalvoLoopSample
  extract_lets +onlyGivenNames z
  rw [if_neg (by simp [z, frames_at, hfr, hon])]
  extract_lets +onlyGivenNames pos
  have hpos : pos = s.tiltUnits (s.galvoFeedback raw) := by
    rw [← galvoFeedback_at s t, ← tiltUnits_at s t]
    show z.tiltUnits _ = z.tiltUnits (z.galvoFeedback raw)
    congr 1
    simp only [State.galvoFeedback, State.flag_eq, bne_iff_ne, ne_eq, ite_not]
  clear_value pos
  extract_lets +onlyGivenNames test add atSet sp set
  split
  extract_lets +onlyGivenNames olim ilim d o quiet settled far _ z2 z3 z4 z5 z6
  have h2 : z2.followed = (z.ste.refRpm, pos) := rfl
  clear_value z2
  have h3 : z3.followed = z2.followed := rfl
  clear_value z3
  have h4 : z4.followed = z2.followed := (stickySat_followed z3 _ _).trans h3
  have h5 : z5.followed = z2.followed := followed_ite ((stickySat_followed z4 _ _).trans h4) h4
  have hend : z6.hkaInsert.judgeIlk.updateValid.followed = (z.ste.refRpm, pos) := by
    rw [updateValid_followed, judgeIlk_followed, followed_of_part (hkaInsert_part (by decide) z6), loopEntry_followed, h5, h2]
  exact (congrArg Prod.snd hend).trans hpos

/-! ## Steering records (R121) -/

/-- A record that is no source of the recorder leaves it, and stands first in the journal. -/
theorem commitRecord_unsourced {s : State} {cls kind : Nat} {bytes : List Byte} (h : s.recSource cls kind bytes = none) :
    (s.commitRecord cls kind bytes).rcd = s.rcd ∧ ∃ r, (s.commitRecord cls kind bytes).tp.journal = r :: s.tp.journal ∧ r.cls = cls := by
  unfold State.commitRecord State.commitSel
  extract_lets nums queues r _ u
  have hu : u.recSource cls kind bytes = none := h
  rw [hu]
  exact ⟨rfl, r, rfl, rfl⟩

/-- The recorder takes steering entries sample by sample, not their records (R427). -/
theorem recSource_steering (s : State) (kind count frame epoch tai : Nat) (l : List Byte) :
    s.recSource 8 kind (hkHeader 3 count frame epoch tai ++ l) = none := by
  simp [State.recSource, hkHeader, leBytes]

/-- The record that closes takes the first 64 entries and stands first in the journal; the recorder is left alone. -/
theorem closeSteering_closes {s : State} {e : SteerEntry} {l : List SteerEntry} (h : s.ste.entries = e :: l) :
    s.closeSteering.ste.entries = (e :: l).drop 64 ∧ s.closeSteering.rcd = s.rcd ∧
      ∃ r, s.closeSteering.tp.journal = r :: s.tp.journal ∧ r.cls = 8 := by
  unfold State.closeSteering
  rw [h]
  dsimp only
  generalize List.flatten _ = entries
  have hrecord := commitRecord_unsourced (recSource_steering s 9 ((e :: l).take 64).length e.frame e.epoch e.tai entries)
  refine ⟨?_, hrecord⟩
  rw [(commitRecord_reports s 8 9 _).ste, h]

theorem doSteeringRecordClose_due {s : State} {t : Nat} {e : SteerEntry} {l : List SteerEntry} (h : s.ste.entries = e :: l) (ht : s.now ≤ t)
    (hdue : 64 ≤ (e :: l).length ∨ e.time + 10000000 ≤ t) : doSteeringRecordClose t s = (s.at t).closeSteering := by
  unfold doSteeringRecordClose
  extract_lets u
  have hnow : u.now = t := (State.at_now s t).trans (max_eq_right ht)
  have hu : u.ste.entries = e :: l := (congrArg SteerState.entries (State.at_ste s t)).trans h
  rw [hu]
  exact if_pos (by simpa [hnow] using hdue)

/-! ## The end of a test (R120) -/

theorem doSteeringTestComplete_due {s : State} {t n : Nat} (hd : s.ste.testDone = some n) (harm : s.getF F.STE_TEST.ARM = 1)
    (hlen : s.getF F.STE_TEST_LEN.SAMPLES ≤ n) : ∃ u : State, u.ste.testDone = none ∧
      doSteeringTestComplete t s = ((u.setF F.STE_TEST.ARM 0).setF F.STE_STAT.TEST 0).raiseEvt 9 4 := by
  have hd' : (s.at t).ste.testDone = some n := (congrArg SteerState.testDone (State.at_ste s t)).trans hd
  refine ⟨{ (s.at t).closeSteering with ste := { (s.at t).closeSteering.ste with testDone := none } }, rfl, ?_⟩
  unfold doSteeringTestComplete
  extract_lets u
  rw [show u.ste.testDone = some n from hd']
  exact if_pos (by simp [u, harm, hlen])

/-- What the end of a test leaves of its two marks (R120). -/
theorem testEnded_reads (u : State) : (((u.setF F.STE_TEST.ARM 0).setF F.STE_STAT.TEST 0).raiseEvt 9 4).settle.getF F.STE_TEST.ARM = 0 ∧
    (((u.setF F.STE_TEST.ARM 0).setF F.STE_STAT.TEST 0).raiseEvt 9 4).settle.getF F.STE_STAT.TEST = 0 := by
  refine ⟨?_, ?_⟩
  · rw [State.settle_getF _ _ (by decide), State.raiseEvt_getF _ _ _ _ (by decide), getF_setF_other _ _ _ _ (by decide),
      getF_setF_self _ _ _ (by decide)]
    rfl
  · rw [State.settle_getF _ _ (by decide), State.raiseEvt_getF _ _ _ _ (by decide), getF_setF_self _ _ _ (by decide)]
    rfl

/-- Settles O15: each of the commands by what it leaves of steering. -/
theorem loopSamples : Obligations.LoopSamples := by
  refine ⟨?_, ?_, ?_, ?_⟩
  · intro s t hfr hon
    refine ⟨_, rfl, ?_⟩
    rw [State.settle_ste, doPolygonLoopSample_refRpm t hfr hon]
    exact ramped_eq s
  · intro s t raw hfr hon
    refine ⟨_, rfl, ?_⟩
    rw [State.settle_ste, doGalvoLoopSample_gvMeas t raw hfr hon]
    rfl
  · intro s t e l hs he ht hdue
    obtain ⟨-, hpulses⟩ := hs
    obtain ⟨hentries, hrcd, r, hjournal, hcls⟩ := closeSteering_closes (s := s.at t) (by rw [State.at_ste, he])
    have hnone : (s.at t).closeSteering.rcd.pulses = [] := by rw [hrcd, State.at_rcd, hpulses]
    refine ⟨_, r, rfl, ?_⟩
    rw [doSteeringRecordClose_due he ht hdue, settle_of_no_pulses hnone]
    exact ⟨hentries, hjournal.trans (by rw [State.at_tp]), hcls⟩
  · intro s t n hd harm hlen
    obtain ⟨u, hu, hdo⟩ := doSteeringTestComplete_due (t := t) hd harm hlen
    refine ⟨_, rfl, ?_⟩
    rw [hdo]
    refine ⟨?_, testEnded_reads u⟩
    rw [State.settle_ste, (raiseEvt_reports _ 9 4).ste]
    exact hu

end Sys2Proof.Machine
end

section
/-! PROOFS. Emitter chains (O20): their loads, and the states that loads lead to. -/

namespace Sys2Proof.Machine

/-! ## The registers of emission

Beyond its header the page of emission is written by no event, no spare pool and no end of a command. -/

def emtWord (a : Nat) : Prop := 0xA100 ≤ a ∧ a < 0xB000

/-- Each chain has its own word of a register that stands four times. -/
theorem emtWord_idx {f : Field} {c : Nat} (hc : c < 4) (hf : 0xA100 ≤ f.addr ∧ f.addr < 0xAF00) : emtWord (f.idx c).addr := by
  simp only [emtWord, Field.idx]
  omega

theorem raiseEvt_getF_emt (s : State) (p bit : Nat) {f : Field} (hf : emtWord f.addr) : (s.raiseEvt p bit).getF f = s.getF f :=
  State.raiseEvt_getF s p bit f (by unfold emtWord at hf; omega)

theorem settle_getF_emt (s : State) {f : Field} (hf : emtWord f.addr) : s.settle.getF f = s.getF f :=
  State.settle_getF s f (by unfold emtWord at hf; omega)

theorem settle_chainState (s : State) {c : Nat} (hc : c < 4) : s.settle.chainState c = s.chainState c :=
  settle_getF_emt s (emtWord_idx hc (by decide))

theorem at_chainState (s : State) (t c : Nat) : (s.at t).chainState c = s.chainState c := State.at_getF s t _

theorem chainEn_congr {s t : State} {c : Nat} (h : t.getF (F.EMT_CHAIN_CTL.EN.idx c) = s.getF (F.EMT_CHAIN_CTL.EN.idx c)) :
    t.chainEn c = s.chainEn c := by
  simp only [State.chainEn, State.flag_eq, h]

theorem at_chainEn (s : State) (t c : Nat) : (s.at t).chainEn c = s.chainEn c := chainEn_congr (State.at_getF s t _)

/-- A chain reads as the state it has been given. -/
theorem setChainState_chainState (s : State) {c v : Nat} (hc : c < 4) (hv : v < 8) : (s.setChainState c v).chainState c = v := by
  unfold State.setChainState
  split
  · assumption
  · exact (raiseEvt_getF_emt _ 10 1 (emtWord_idx hc (by decide))).trans (getF_setF_of_lt s _ (Nat.le_add_left 3 29) hv)

theorem setChainState_emt (s : State) (c v : Nat) : (s.setChainState c v).emt = s.emt := setChainState_part (π := .emitters) s c v

theorem setChainState_chainEn (s : State) (c v : Nat) {d : Nat} (hd : d < 4) : (s.setChainState c v).chainEn d = s.chainEn d := by
  unfold State.setChainState
  split
  · rfl
  · exact chainEn_congr ((raiseEvt_getF_emt _ 10 1 (emtWord_idx hd (by decide))).trans
      (getF_setF_other s _ _ v (by simp only [Field.idx]; omega)))

/-! ## A chain -/

/-- Chains are part of the state of emission. -/
theorem chain_congr {s t : State} (h : t.emt = s.emt) (c : Nat) : t.chain c = s.chain c := by
  simp only [State.chain, h]

theorem setChain_chain_self (s : State) {c : Nat} (k : Chain) (hc : c < s.emt.chains.length) : (s.setChain c k).chain c = k := by
  simp [State.chain, State.setChain, nth, setNth, List.getD, hc]

theorem setChain_chain_other (s : State) {c d : Nat} (k : Chain) (h : d ≠ c) : (s.setChain c k).chain d = s.chain d := by
  simp [State.chain, State.setChain, nth, setNth, List.getD, h.symm]

theorem setChain_length (s : State) (c : Nat) (k : Chain) : (s.setChain c k).emt.chains.length = s.emt.chains.length :=
  List.length_set

/-! ## A load starts (R127, R132) -/

/-- The temperature of a chain, sampled as its load starts (R127). -/
def State.chainSampled (s : State) (c : Nat) : State :=
  match s.excTemp (s.getF (F.EMT_CHAIN_CTL.TSRC.idx c)) with
  | some v => (((s.setChain c { s.chain c with temp := some v }).setI (F.EMT_TEMP.T.idx c) v).setF (F.EMT_CHAIN_STAT.TSTALE.idx c) 0).calTemp v
  | none => if s.flag (F.EMT_CHAIN_STAT.TSTALE.idx c) then s else (s.setF (F.EMT_CHAIN_STAT.TSTALE.idx c) 1).raiseEvt 10 2

theorem calTemp_getF (s : State) (v : Int) (f : Field) : (s.calTemp v).getF f = s.getF f := by
  unfold State.calTemp
  split <;> rfl

/-- TSTALE stands beside STATE. -/
theorem setF_tstale_getF (s : State) {c v : Nat} {f : Field} (h : f.addr ≠ 0xA110 + 4 * c ∨ f.lsb + f.width ≤ 3) :
    (s.setF (F.EMT_CHAIN_STAT.TSTALE.idx c) v).getF f = s.getF f :=
  getF_setF_beside s _ f v (Nat.le_add_left 4 28) (h.imp_right .inl)

/-- What a sample writes is the temperature, in a word of its own, and TSTALE. -/
theorem chainSampled_getF (s : State) {c : Nat} {f : Field} (hf : emtWord f.addr) (hT : f.addr ≠ 0xA120 + 4 * c)
    (h : f.addr ≠ 0xA110 + 4 * c ∨ f.lsb + f.width ≤ 3) : (s.chainSampled c).getF f = s.getF f := by
  unfold State.chainSampled
  split
  · rw [calTemp_getF, setF_tstale_getF _ h]
    exact getF_setF_other _ (F.EMT_TEMP.T.idx c) f _ hT
  · split
    · rfl
    · rw [raiseEvt_getF_emt _ _ _ hf, setF_tstale_getF _ h]

/-- Of the chain itself a sample changes the temperature alone. -/
theorem chainSampled_chain (s : State) {c : Nat} (hc : c < s.emt.chains.length) :
    ∃ temp, (s.chainSampled c).chain c = { s.chain c with temp := temp } := by
  unfold State.chainSampled
  split
  · next v _ =>
    refine ⟨some v, (chain_congr (calTemp_part (π := .emitters) (by decide) _ v) c).trans ?_⟩
    exact setChain_chain_self s _ hc
  · split
    · exact ⟨_, rfl⟩
    · exact ⟨_, chain_congr (State.raiseEvt_emt _ 10 2) c⟩

theorem chainSampled_length (s : State) (c : Nat) : (s.chainSampled c).emt.chains.length = s.emt.chains.length := by
  unfold State.chainSampled
  split
  · exact (congrArg (fun e : EmitState => e.chains.length) (calTemp_part (π := .emitters) (by decide) _ _)).trans (setChain_length s c _)
  · split
    · rfl
    · exact congrArg (fun e : EmitState => e.chains.length) (State.raiseEvt_emt _ 10 2)

/-- With a full load due a working load of all 32 positions starts. -/
theorem startLoad_of_fullDue {s : State} {c : Nat} (h : (s.chain c).fullDue = true) :
    ∃ k : ChainLoad, k.zero = false ∧ k.words.length = 32 ∧ s.startLoad c = s.setChain c { s.chain c with load := some k } := by
  unfold State.startLoad
  extract_lets ch ds ws
  exact ⟨⟨ws, ds.map (·.2), false, s.now, false⟩, rfl, by simp [ws, State.chainWords], if_pos (by simp [ch, h])⟩

theorem chainSampled_chainState (s : State) {c : Nat} (hc : c < 4) : (s.chainSampled c).chainState c = s.chainState c :=
  chainSampled_getF s (emtWord_idx hc (by decide)) (by simp only [Field.idx]; omega) (.inr (Nat.le_refl 3))

theorem chainSampled_chainEn (s : State) {c : Nat} (hc : c < 4) : (s.chainSampled c).chainEn c = s.chainEn c :=
  chainEn_congr (chainSampled_getF s (emtWord_idx hc (by decide)) (by simp only [Field.idx]; omega) (.inl (by simp only [Field.idx]; omega)))

/-- An enabled chain in `ON` samples and starts its load. -/
theorem doChainLoadStart_on {s : State} {c : Fin 4} (t : Nat) (hfr : s.frames = true) (hon : s.on 8 = true) (hst : s.chainState c = 2)
    (hen : s.chainEn c = true) : doChainLoadStart c t s = ((s.at t).chainSampled c).startLoad c := by
  unfold doChainLoadStart
  extract_lets a ch b
  rw [if_neg (by simp [a, frames_at, hfr, hon])]
  have hst' : b.chainState c = 2 := ((chainSampled_chainState a c.isLt).trans (at_chainState s t c)).trans hst
  have hen' : b.chainEn c = true := ((chainSampled_chainEn a c.isLt).trans (at_chainEn s t c)).trans hen
  exact if_pos (by simp [hst', hen'])

/-! ## Zero loads (R135, R136) -/

/-- The zero load of a chain starts, and the chain enters state `v`. -/
def State.zeroStarted (s : State) (c v : Nat) : State :=
  (s.setChain c { s.chain c with load := some (s.zeroLoadOf c), stopped := false }).setChainState c v

theorem zeroStarted_chainState (s : State) {c v : Nat} (hc : c < 4) (hv : v < 8) : (s.zeroStarted c v).chainState c = v :=
  setChainState_chainState _ hc hv

theorem zeroStarted_load (s : State) {c : Nat} (v : Nat) (hc : c < s.emt.chains.length) :
    ((s.zeroStarted c v).chain c).load = some (s.zeroLoadOf c) :=
  congrArg Chain.load ((chain_congr (setChainState_emt _ c v) c).trans (setChain_chain_self s _ hc))

/-- Once settled the chain shows the state, and the load in progress is a zero load. -/
theorem zeroStarted_settled (s : State) {c v : Nat} (h4 : c < 4) (hv : v < 8) (hc : c < s.emt.chains.length) :
    (s.zeroStarted c v).settle.chainState c = v ∧ ((s.zeroStarted c v).settle.chain c).load.map ChainLoad.zero = some true := by
  rw [settle_chainState _ h4, zeroStarted_chainState s h4 hv, chain_congr (State.settle_emt _), zeroStarted_load s v hc]
  exact ⟨rfl, rfl⟩

theorem doChainOffTimeExpiry_off {s : State} {c : Fin 4} {t : Nat} (hon : s.on 8 = true) (hst : s.chainState c = 0) (hen : s.chainEn c = true)
    (ht : s.now ≤ t) (hoff : (s.chain c).offAt + s.getF (F.EMT_CHAIN_CTL.TOFF.idx c) * 100000 ≤ t) :
    doChainOffTimeExpiry c t s = (s.at t).zeroStarted c 1 := by
  have hidle : (s.at t).chainIdle c = true := by simp [State.chainIdle, at_chainState, hst]
  have hchain : (s.at t).chain c = s.chain c := chain_congr (State.at_emt s t) c
  exact if_pos (by simp [hon, hidle, at_chainEn, hen, hchain, ht, hoff])

theorem doChainStopRequest_idle {s : State} {c : Fin 4} (t : Nat) (hst : s.chainState c = 2) (hen : s.chainEn c = false)
    (htr : s.sch.trains = []) : doChainStopRequest c t s = (s.at t).zeroStarted c 3 := by
  have hbusy : (s.at t).chainBusy c = false := by simp [State.chainBusy, htr]
  exact if_pos (by simp [at_chainState, hst, at_chainEn, hen, hbusy])

/-! ## A load latches (R132, R135, R136) -/

theorem emitLoad_emt (s : State) (c : Nat) (k : ChainLoad) : (s.emitLoad c k).emt = s.emt := emitLoad_part (π := .emitters) s c k

theorem emitLoad_getF (s : State) (c : Nat) (k : ChainLoad) (f : Field) : (s.emitLoad c k).getF f = s.getF f := by
  unfold State.emitLoad
  split <;> rfl

theorem latchLoad_now (s : State) (c : Nat) (k : ChainLoad) : (s.latchLoad c k).now = s.now := by
  show (s.emitLoad c k).now = s.now
  unfold State.emitLoad
  split <;> rfl

/-- LOADS stands beside STATE. -/
theorem latchLoad_chainState (s : State) (c : Nat) (k : ChainLoad) : (s.latchLoad c k).chainState c = s.chainState c :=
  (getF_setF_beside _ (F.EMT_CHAIN_STAT.LOADS.idx c) (F.EMT_CHAIN_STAT.STATE.idx c) _ (Nat.le_refl 32)
    (.inr (.inl (by simp only [Field.idx]; omega)))).trans (emitLoad_getF s c k _)

theorem latchLoad_chainEn (s : State) (c : Nat) (k : ChainLoad) {d : Nat} (hd : d < 4) : (s.latchLoad c k).chainEn d = s.chainEn d :=
  chainEn_congr ((getF_setF_other _ (F.EMT_CHAIN_STAT.LOADS.idx c) (F.EMT_CHAIN_CTL.EN.idx d) _ (by simp only [Field.idx]; omega)).trans
    (emitLoad_getF s c k _))

theorem latchLoad_length (s : State) (c : Nat) (k : ChainLoad) : (s.latchLoad c k).emt.chains.length = s.emt.chains.length :=
  (setChain_length _ c _).trans (congrArg (fun e : EmitState => e.chains.length) (emitLoad_emt s c k))

/-- A zero load that latches stands at the positions; a full load that was due is due still. -/
theorem latchLoad_zero (s : State) {c : Nat} {k : ChainLoad} (hz : k.zero = true) (hc : c < s.emt.chains.length) :
    ((s.latchLoad c k).chain c).load = none ∧ ((s.latchLoad c k).chain c).last = k.words ∧
      ((s.latchLoad c k).chain c).fullDue = (s.chain c).fullDue := by
  have hchain : (s.latchLoad c k).chain c = _ :=
    setChain_chain_self (s.emitLoad c k) _ (by rw [emitLoad_emt]; exact hc)
  rw [hchain]
  exact ⟨rfl, rfl, by simp [hz]⟩

/-- One turn of what a chain that enters `ON` does: chain `k`, if enabled, is loaded in full at the next boundary. -/
def State.dueFull (s : State) (k : Nat) : State :=
  if s.chainEn k then s.setChain k { s.chain k with fullDue := true } else s

theorem dueFull_getF (s : State) (k : Nat) (f : Field) : (s.dueFull k).getF f = s.getF f := by
  unfold State.dueFull
  split <;> rfl

theorem dueFull_length (s : State) (k : Nat) : (s.dueFull k).emt.chains.length = s.emt.chains.length := by
  unfold State.dueFull
  split
  · exact setChain_length s k _
  · rfl

theorem dueFull_chain (s : State) {c : Nat} (k : Nat) (hc : c < s.emt.chains.length) :
    (s.dueFull k).chain c = { s.chain c with fullDue := (c = k && s.chainEn c) || (s.chain c).fullDue } := by
  unfold State.dueFull
  by_cases hk : c = k
  · subst hk
    split
    · next hen => simpa [hen] using setChain_chain_self s _ hc
    · next hen => simp [hen]
  · have hother : (if s.chainEn k then s.setChain k { s.chain k with fullDue := true } else s).chain c = s.chain c := by
      split
      · exact setChain_chain_other s _ hk
      · rfl
    simpa [hk] using hother

theorem foldl_dueFull_getF (l : List Nat) (s : State) (f : Field) : (l.foldl State.dueFull s).getF f = s.getF f := by
  induction l generalizing s with
  | nil => rfl
  | cons k l ih => exact (ih _).trans (dueFull_getF s k f)

theorem foldl_dueFull_chain (l : List Nat) (s : State) {c : Nat} (hc : c < s.emt.chains.length) :
    (l.foldl State.dueFull s).chain c = { s.chain c with fullDue := (c ∈ l && s.chainEn c) || (s.chain c).fullDue } := by
  induction l generalizing s with
  | nil => simp
  | cons k l ih =>
    have hen : (s.dueFull k).chainEn c = s.chainEn c := chainEn_congr (dueFull_getF s k _)
    rw [List.foldl_cons, ih (s.dueFull k) (by rw [dueFull_length]; exact hc), dueFull_chain s k hc, hen]
    by_cases hk : c = k <;> by_cases hl : c ∈ l <;> cases s.chainEn c <;> simp [hk, hl]

theorem chainOn_eq (s : State) (c : Nat) :
    s.chainOn c = (List.range 4).foldl State.dueFull ((s.setChain c { s.chain c with loaded := false }).setChainState c 2) := rfl

theorem chainOn_chainState (s : State) {c : Nat} (hc : c < 4) : (s.chainOn c).chainState c = 2 := by
  rw [chainOn_eq, State.chainState, foldl_dueFull_getF]
  exact setChainState_chainState _ hc (by decide)

/-- A chain that enters `ON` has its first working load due, like every enabled one (R132). -/
theorem chainOn_chain (s : State) {c : Nat} (h4 : c < 4) (hc : c < s.emt.chains.length) :
    (s.chainOn c).chain c = { s.chain c with loaded := false, fullDue := s.chainEn c || (s.chain c).fullDue } := by
  have hlen : c < ((s.setChain c { s.chain c with loaded := false }).setChainState c 2).emt.chains.length := by
    rw [setChainState_emt, setChain_length]
    exact hc
  rw [chainOn_eq, foldl_dueFull_chain _ _ hlen, setChainState_chainEn _ c 2 h4, chain_congr (setChainState_emt _ c 2),
    setChain_chain_self s _ hc]
  simp [h4, State.chainEn]

/-! ## A zero load latches -/

/-- The zero load has latched in a chain: its state is what the one before leads to, and outside `STARTING` t_OFF runs from now on. -/
def State.zeroLatched (s : State) (c : Nat) : State :=
  if s.chainState c = 1 then s.chainOn c
  else if s.chainState c = 3 then (s.setChain c { s.chain c with offAt := s.now, loaded := false }).setChainState c 0
  else s.setChain c { s.chain c with offAt := s.now, loaded := false, stopped := true }

theorem doChainZeroLoadLatched_zero {s : State} {c : Fin 4} (t : Nat) {k : ChainLoad} (hk : (s.chain c).load = some k) (hz : k.zero = true)
    (hst : s.chainState c = 1 ∨ s.chainState c = 3 ∨ s.chainState c = 4) :
    doChainZeroLoadLatched c t s = ((s.at t).latchLoad c k).zeroLatched c := by
  have hk' : ((s.at t).chain c).load = some k := (congrArg Chain.load (chain_congr (State.at_emt s t) c)).trans hk
  unfold doChainZeroLoadLatched
  extract_lets a st
  have hst' : st = s.chainState c := at_chainState s t c
  rw [hk']
  dsimp only
  rw [if_pos hz, State.zeroLatched, latchLoad_chainState, at_chainState, hst']
  rcases hst with h | h | h <;> simp only [h] <;> rfl

/-- `STARTING` leads to `ON`, `STOPPING` to `OFF`; `PENDING_ON` stays (R135). -/
theorem zeroLatched_chainState (s : State) {c : Nat} (hc : c < 4) (hst : s.chainState c = 1 ∨ s.chainState c = 3 ∨ s.chainState c = 4) :
    (s.zeroLatched c).chainState c = if s.chainState c = 1 then 2 else if s.chainState c = 3 then 0 else 4 := by
  unfold State.zeroLatched
  rcases hst with h | h | h
  · simpa [h] using chainOn_chainState s hc
  · simpa [h] using setChainState_chainState _ hc (by decide)
  · simp only [h]
    exact h

/-- What the chain keeps of its latch, and what the state it was in adds. -/
theorem zeroLatched_chain (s : State) {c : Nat} (h4 : c < 4) (hc : c < s.emt.chains.length) :
    (s.zeroLatched c).chain c =
      if s.chainState c = 1 then { s.chain c with loaded := false, fullDue := s.chainEn c || (s.chain c).fullDue }
      else if s.chainState c = 3 then { s.chain c with offAt := s.now, loaded := false }
      else { s.chain c with offAt := s.now, loaded := false, stopped := true } := by
  unfold State.zeroLatched
  split
  · exact chainOn_chain s h4 hc
  · split
    · exact (chain_congr (setChainState_emt _ c 0) c).trans (setChain_chain_self s _ hc)
    · exact setChain_chain_self s _ hc

end Sys2Proof.Machine
end

section
/-! PROOFS. Primary and reserve diodes (O20): the switch of a line changes SEL of that line (R134); the states of chains settled. -/

namespace Sys2Proof.Machine

/-! ## SEL (R134) -/

/-- Writing a bit is writing a field one bit wide. -/
theorem withBit_eq_withField (i : Nat) (b : Bool) (v : Nat) : withBit i b v = withField i 1 v b.toNat := by
  have hbit : fieldOf i 1 v = (v.testBit i).toNat := (Nat.toNat_testBit v i).symm
  unfold withBit withField
  rw [hbit]
  cases hv : v.testBit i
  · cases b <;> simp
  · have hle : 2 ^ i ≤ v := Nat.ge_two_pow_of_testBit hv
    cases b <;> simp [hle]

/-- A bit beside the one that is written. -/
theorem testBit_withBit_other {i j : Nat} (b : Bool) (v : Nat) (h : j ≠ i) : (withBit i b v).testBit j = v.testBit j := by
  have hread : ∀ w : Nat, w.testBit j = decide (fieldOf j 1 w = 1) := fun w => Nat.testBit_eq_decide_div_mod_eq
  rw [hread, hread, withBit_eq_withField]
  rcases Nat.lt_or_gt_of_ne h with hlt | hgt
  · rw [fieldOf_withField_below _ _ hlt]
  · rw [fieldOf_withField_above _ _ hgt]

/-- SEL of line `l` changes, and of no other line: the bits of the four words of SEL after a bit of one is written. -/
theorem setBit_sel (s : State) (l m : Fin 128) (b : Bool) :
    (s.setBit (F.EMT_RSV.SEL.idx (m / 32)) (m % 32) b).bitF (F.EMT_RSV.SEL.idx (l / 32)) (l % 32) =
      if l = m then b else s.bitF (F.EMT_RSV.SEL.idx (l / 32)) (l % 32) := by
  simp only [State.bitF_eq]
  split
  · next h =>
    subst h
    exact testBit_getF_setBit s _ _ b (Nat.le_refl 32) (Nat.mod_lt _ (by decide))
  · next h =>
    by_cases hw : l.val / 32 = m.val / 32
    · have hbit : l.val % 32 ≠ m.val % 32 := fun he => h (by omega)
      rw [hw, setBit_eq_setF, getF_setF_self s (F.EMT_RSV.SEL.idx (m / 32)) _ (Nat.le_refl 32), Nat.testBit_mod_two_pow,
        testBit_withBit_other _ _ hbit]
      simp [Field.idx, Nat.mod_lt]
    · rw [setBit_eq_setF, getF_setF_other _ _ _ _ (by simp only [Field.idx]; omega)]

theorem countReserves_getF (s : State) {f : Field} (hf : emtWord f.addr) : s.countReserves.getF f = s.getF f := by
  have hne : f.addr ≠ 0xA024 := by
    unfold emtWord at hf
    omega
  unfold State.countReserves
  extract_lets accept used left
  exact (getF_setF_other _ (H.SPARE_LEFT 10) f left hne).trans (getF_setF_other s (H.SPARE_USED 10) f used hne)

theorem spareTaken_getF (s : State) (p : Nat) {f : Field} (hf : emtWord f.addr) : (s.spareTaken p).getF f = s.getF f :=
  (raiseEvt_getF_emt (s.raiseEvt p 29) 6 0 hf).trans (raiseEvt_getF_emt s p 29 hf)

theorem poolTrigger_getF_emt (s : State) (cause : Nat) {f : Field} (hf : emtWord f.addr) : (s.poolTrigger 10 cause).getF f = s.getF f := by
  unfold emtWord at hf
  exact poolTrigger_getF s 10 cause (by omega) (by omega) (by omega)

theorem poolTrigger_emt (s : State) (page cause : Nat) : (s.poolTrigger page cause).emt = s.emt :=
  poolTrigger_part (π := .emitters) (by decide) s page cause

theorem flipSel_getF (s : State) (l : Nat) (f : Field) :
    (s.flipSel l).getF f = (s.setBit (F.EMT_RSV.SEL.idx (l / 32)) (l % 32) (!s.bitF (F.EMT_RSV.SEL.idx (l / 32)) (l % 32))).getF f := by
  unfold State.flipSel
  extract_lets c a ch w w' v
  have hv : v.getF f = a.getF f := by
    simp only [v]
    split <;> rfl
  exact hv

theorem flipSel_switches (s : State) (l : Nat) : (s.flipSel l).emt.switches = s.emt.switches.filter (· ≠ l) := by
  unfold State.flipSel
  extract_lets c a ch w w' v
  have hv : v.emt.switches = s.emt.switches := by
    simp only [v]
    split <;> rfl
  exact congrArg (List.filter _) hv

/-- Of the state of emission a switch changes what `flipSel` does, after the mark of a worn diode (R351): counts, events and the spare pool
stand elsewhere. -/
theorem switched_flips (s : State) (l : Nat) :
    ∃ u : State, u.emt = s.emt ∧ (∀ f : Field, emtWord f.addr → u.getF f = s.getF f) ∧ (s.switched l).emt = (u.flipSel l).emt ∧
      ∀ f : Field, emtWord f.addr → (s.switched l).getF f = (u.flipSel l).getF f := by
  unfold State.switched
  extract_lets e u v
  have hv : v.emt = (u.flipSel l).emt :=
    (spareTaken_part (π := .emitters) (by decide) _ 10).trans ((State.raiseEvt_emt _ 10 3).trans (countReserves_part (π := .emitters) _))
  have hvf : ∀ f : Field, emtWord f.addr → v.getF f = (u.flipSel l).getF f := fun f hf =>
    (spareTaken_getF _ 10 hf).trans ((raiseEvt_getF_emt _ 10 3 hf).trans (countReserves_getF _ hf))
  refine ⟨u, ?_, fun f hf => ?_, ?_, fun f hf => ?_⟩
  · simp only [u]
    split
    · exact State.setF_emt s _ 1
    · rfl
  · have htrim : f.addr ≠ (trimRetired e).addr := by
      simp only [trimRetired, trimF]
      unfold emtWord at hf
      omega
    simp only [u]
    split
    · exact getF_setF_other s _ f 1 htrim
    · rfl
  · split
    · exact (poolTrigger_emt v 10 0x40).trans hv
    · exact hv
  · split
    · exact (poolTrigger_getF_emt v 0x40 hf).trans (hvf f hf)
    · exact hvf f hf

theorem switched_sel (s : State) (l m : Fin 128) :
    (s.switched m).bitF (F.EMT_RSV.SEL.idx (l / 32)) (l % 32) =
      if l = m then !s.bitF (F.EMT_RSV.SEL.idx (l / 32)) (l % 32) else s.bitF (F.EMT_RSV.SEL.idx (l / 32)) (l % 32) := by
  obtain ⟨u, -, hu, -, hget⟩ := switched_flips s m
  have hword : ∀ n : Fin 128, emtWord (F.EMT_RSV.SEL.idx (n / 32)).addr := fun n => emtWord_idx (by omega) (by decide)
  have hbit : ∀ n : Fin 128, u.bitF (F.EMT_RSV.SEL.idx (n / 32)) (n % 32) = s.bitF (F.EMT_RSV.SEL.idx (n / 32)) (n % 32) := fun n => by
    simp only [State.bitF_eq, hu _ (hword n)]
  rw [State.bitF_eq, hget _ (hword l), flipSel_getF, ← State.bitF_eq, setBit_sel, hbit, hbit]
  split
  · next h => rw [h]
  · rfl

theorem switched_compat (s : State) (l : Nat) {c : Nat} (hc : c < 4) : (s.switched l).compat c = s.compat c := by
  obtain ⟨u, -, hu, -, hget⟩ := switched_flips s l
  have hword : emtWord (F.EMT_CHAIN_CTL.COMPAT.idx c).addr := emtWord_idx hc (by decide)
  have hne : (F.EMT_CHAIN_CTL.COMPAT.idx c).addr ≠ (F.EMT_RSV.SEL.idx (l / 32)).addr := by
    simp only [Field.idx]
    omega
  simp only [State.compat, State.flag_eq]
  rw [hget _ hword, flipSel_getF, setBit_eq_setF, getF_setF_other _ _ _ _ hne, hu _ hword]

theorem switched_switches (s : State) (l : Nat) : (s.switched l).emt.switches = s.emt.switches.filter (· ≠ l) := by
  obtain ⟨u, hemt, -, hswitched, -⟩ := switched_flips s l
  rw [hswitched, flipSel_switches, hemt]

/-- The words last latched are sent again, and counted: beside the switch only LOADS changes. -/
theorem doDiodeSwitchLatch_switches {s : State} {line : Fin 128} (t : Nat) (hw : s.emt.switches.contains line.val = true)
    (htr : s.sch.trains = []) (hload : (s.chain (line.val / 32)).load = none) :
    (doDiodeSwitchLatch line t s).emt = ((s.at t).switched line).emt ∧
      ∀ f : Field, (∀ c < 4, f.addr ≠ (F.EMT_CHAIN_STAT.LOADS.idx c).addr) →
        (doDiodeSwitchLatch line t s).getF f = ((s.at t).switched line).getF f := by
  have hruns : (s.at t).lineRuns line = false := by simp [State.lineRuns, htr]
  have hchain : ((s.at t).chain (line.val / 32)).load = none := (congrArg Chain.load (chain_congr (State.at_emt s t) _)).trans hload
  unfold doDiodeSwitchLatch
  extract_lets a l c u
  rw [if_pos (by simpa [a, l, c, hruns, hchain] using hw)]
  split
  · exact ⟨rfl, fun _ _ => rfl⟩
  · exact ⟨rfl, fun f hf => getF_setF_other u _ f _ (hf c (by omega))⟩

/-- SEL of the line changes, and of no other line. -/
theorem doDiodeSwitchLatch_sel {s : State} {line : Fin 128} (l : Fin 128) (t : Nat) (hw : s.emt.switches.contains line.val = true)
    (htr : s.sch.trains = []) (hload : (s.chain (line.val / 32)).load = none) :
    (doDiodeSwitchLatch line t s).settle.bitF (F.EMT_RSV.SEL.idx (l / 32)) (l % 32) =
      if l = line then !s.bitF (F.EMT_RSV.SEL.idx (l / 32)) (l % 32) else s.bitF (F.EMT_RSV.SEL.idx (l / 32)) (l % 32) := by
  obtain ⟨-, hget⟩ := doDiodeSwitchLatch_switches t hw htr hload
  have hat : (s.at t).bitF (F.EMT_RSV.SEL.idx (l / 32)) (l % 32) = s.bitF (F.EMT_RSV.SEL.idx (l / 32)) (l % 32) := by
    simp only [State.bitF_eq, State.at_getF]
  rw [← hat, ← switched_sel, State.bitF_eq, State.bitF_eq, settle_getF_emt _ (emtWord_idx (by omega) (by decide)),
    hget _ (fun c hc => by simp only [Field.idx]; omega)]

theorem doDiodeSwitchLatch_compat {s : State} {line : Fin 128} {c : Nat} (t : Nat) (hc : c < 4)
    (hw : s.emt.switches.contains line.val = true) (htr : s.sch.trains = []) (hload : (s.chain (line.val / 32)).load = none) :
    (doDiodeSwitchLatch line t s).settle.compat c = s.compat c := by
  obtain ⟨-, hget⟩ := doDiodeSwitchLatch_switches t hw htr hload
  have hat : (s.at t).compat c = s.compat c := by simp only [State.compat, State.flag_eq, State.at_getF]
  rw [← hat, ← switched_compat (s.at t) line hc]
  simp only [State.compat, State.flag_eq]
  rw [settle_getF_emt _ (emtWord_idx hc (by decide)), hget _ (fun d hd => by simp only [Field.idx]; omega)]

/-- Settles O20: each of the commands by what it leaves of its chain, or of the line that is switched. -/
theorem chainStates : Obligations.ChainStates := by
  refine ⟨?_, ?_, ?_, ?_, ?_⟩
  · intro s c t hfr hon hc hst hen hdue
    have hlen : c.val < ((s.at t).chainSampled c).emt.chains.length := by rw [chainSampled_length, State.at_emt]; exact hc
    obtain ⟨temp, htemp⟩ := chainSampled_chain (s.at t) (c := c) (by rw [State.at_emt]; exact hc)
    have hdue' : (((s.at t).chainSampled c).chain c).fullDue = true := by
      rw [htemp, chain_congr (State.at_emt s t)]
      exact hdue
    obtain ⟨k, hz, hwords, hstart⟩ := startLoad_of_fullDue hdue'
    refine ⟨_, k, rfl, ?_, hz, hwords, ?_⟩
    · rw [doChainLoadStart_on t hfr hon hst hen, hstart, chain_congr (State.settle_emt _), setChain_chain_self _ _ hlen]
    · rw [doChainLoadStart_on t hfr hon hst hen, hstart, settle_chainState _ c.isLt]
      exact ((chainSampled_chainState _ c.isLt).trans (at_chainState s t c)).trans hst
  · intro s c t hon hc hst hen ht hoff
    refine ⟨_, rfl, ?_⟩
    rw [doChainOffTimeExpiry_off hon hst hen ht hoff]
    exact zeroStarted_settled _ c.isLt (by decide) (by rw [State.at_emt]; exact hc)
  · intro s c t k hc hk hz hst
    have hlen : c.val < ((s.at t).latchLoad c k).emt.chains.length := by rw [latchLoad_length, State.at_emt]; exact hc
    have hstate : ((s.at t).latchLoad c k).chainState c = s.chainState c := (latchLoad_chainState _ c k).trans (at_chainState s t c)
    have hen : ((s.at t).latchLoad c k).chainEn c = s.chainEn c := (latchLoad_chainEn _ c k c.isLt).trans (at_chainEn s t c)
    have hnow : ((s.at t).latchLoad c k).now = max s.now t := (latchLoad_now _ c k).trans (State.at_now s t)
    obtain ⟨hload, hlast, hdue⟩ := latchLoad_zero (s.at t) hz (by rw [State.at_emt]; exact hc)
    rw [chain_congr (State.at_emt s t)] at hdue
    refine ⟨_, rfl, ?_⟩
    rw [doChainZeroLoadLatched_zero t hk hz hst, settle_chainState _ c.isLt, zeroLatched_chainState _ c.isLt (by rwa [hstate]),
      chain_congr (State.settle_emt _), zeroLatched_chain _ c.isLt hlen, hstate, hen, hnow]
    rcases hst with h | h | h <;> simp [h, hload, hlast, hdue]
  · intro s c t hc hst hen htr
    refine ⟨_, rfl, ?_⟩
    rw [doChainStopRequest_idle t hst hen htr]
    exact zeroStarted_settled _ c.isLt (by decide) (by rw [State.at_emt]; exact hc)
  · intro s line l t hw htr hload
    have hsel := doDiodeSwitchLatch_sel l t hw htr hload
    obtain ⟨hemt, -⟩ := doDiodeSwitchLatch_switches t hw htr hload
    refine ⟨_, rfl, hsel, fun hnative => ?_, ?_⟩
    · simp only [State.reserveIn, hsel, doDiodeSwitchLatch_compat t (show l.val / 32 < 4 by omega) hw htr hload, hnative, Bool.not_false,
        Bool.and_true]
    · rw [State.settle_emt, hemt, switched_switches, State.at_emt]

end Sys2Proof.Machine
end

section
/-! PROOFS. Fire pulses (O21): a pulse at its instant is fired, suppressed or absent (R128, R138 to R144). -/

namespace Sys2Proof.Machine

/-! ## What the clock leaves of a line -/

theorem reserveIn_at (s : State) (t l : Nat) : (s.at t).reserveIn l = s.reserveIn l := by
  simp only [State.reserveIn, State.compat, State.bitF_eq, State.flag_eq, State.at_getF]

theorem emitterOf_at (s : State) (t l : Nat) : (s.at t).emitterOf l = s.emitterOf l := by simp only [State.emitterOf, reserveIn_at]

theorem lineDead_at (s : State) (t l : Nat) : (s.at t).lineDead l = s.lineDead l := by
  simp only [State.lineDead, State.ineligible, emitterOf_at, State.flag_eq, State.at_getF]

theorem zoneOf_at (s : State) (t l : Nat) : (s.at t).zoneOf l = s.zoneOf l := by simp only [State.zoneOf, State.at_getF]

theorem pulseEnergy_at (s : State) (t l : Nat) : (s.at t).pulseEnergy l = s.pulseEnergy l := by
  simp only [State.pulseEnergy, State.ratedNj, emitterOf_at, State.at_getF, State.chain, State.at_emt]

theorem shortUse_at (s : State) (t zone n : Nat) : (s.at t).shortUse zone n = s.shortUse zone n := by simp only [State.shortUse, State.at_emt]

theorem longUse_at (s : State) (t zone n : Nat) : (s.at t).longUse zone n = s.longUse zone n := by simp only [State.longUse, State.at_emt]

theorem shortCeil_at (s : State) (t zone : Nat) : (s.at t).shortCeil zone = s.shortCeil zone := by simp only [State.shortCeil, State.at_getF]

theorem longCeil_at (s : State) (t zone : Nat) : (s.at t).longCeil zone = s.longCeil zone := by simp only [State.longCeil, State.at_getF]

/-! ## The pulse at its instant -/

/-- Chains without a load in progress have none to latch. -/
theorem latchEnded_of_no_load {s : State} (h : ∀ c : Fin 4, (s.chain c).load = none) : s.latchEnded = s := by
  refine List.foldlRecOn (motive := fun u => u = s) (List.range 4) _ rfl (fun u hu c hc => ?_)
  have hnone : (u.chain c).load = none := hu ▸ h ⟨c, List.mem_range.1 hc⟩
  rw [hnone]
  exact hu

/-- Pulse `k` of `line` is the next of the only train, on its only line; the `FIRE` pins are driven and no chain has a load in progress. -/
structure State.SolePulse (s : State) (line : Fin 128) (k : Nat) (tr : Train) (x : TrainLine) : Prop where
  fire : s.pins.fire = true
  noLoad : ∀ c : Fin 4, (s.chain c).load = none
  trains : s.sch.trains = [tr]
  lines : tr.lines = [x]
  line_eq : x.line = line.val
  done : x.done = k
  within : k < tr.pulses

/-- The result of pulse `k` of line `l`, of nominal time `n`, when it is not fired: marked absent (R144). -/
def State.absentPulse (s : State) (l k n : Nat) : PulseResult :=
  { k := k, status := 2, instant := (n * 128 + s.getF (F.ETD_LINE.LAT.inst l) : Nat), energy := nth 0 (s.chain (l / 32)).energies (l % 32) }

/-- The pulse is taken and not fired. -/
def State.pulseAbsent (s : State) (tr : Train) (l k n : Nat) : State :=
  (s.pulseTaken tr.ord tr.frame l).pulseResult tr.frame tr.ord l (s.absentPulse l k n)

/-- What becomes of a pulse of nominal time `n` at the instant `at_` that R138 gives it: a dead line's is absent (R128), one too late is
suppressed, and so is one for which a window of its zone has no room (R143); any other is fired. -/
def State.pulseJudged (s : State) (tr : Train) (l k n at_ : Nat) (egate : Bool) (cycle code : Nat) : State :=
  if s.lineDead l then s.pulseAbsent tr l k n
  else if n + 144 < at_ then
    ((s.pulseAbsent tr l k n).mapFrame (fun f => { f with suppressed := bankAdd f.suppressed (l / 16) })).raiseEvt 11 0
  else
    let u := s.pulseTaken tr.ord tr.frame l
    let zone := s.zoneOf l
    let nj := s.pulseEnergy l
    if u.shortCeil zone < u.shortUse zone at_ + nj || u.longCeil zone < u.longUse zone at_ + nj then
      ((s.pulseAbsent tr l k n).bump F.EMT_GUARD.SUPPR 1).raiseEvt 10 0
    else u.fireNow tr l k at_ n egate (edgeTime (u.tapLine (u.etdOf (l / 16))).widths cycle code)

theorem doFirePulse_sole {s : State} {line : Fin 128} {k : Nat} {tr : Train} {x : TrainLine} (h : s.SolePulse line k tr x)
    (egate : Bool) (cycle code : Nat) {n at_ : Nat} (hn : n = tr.nominal x.rank k) (hat : at_ = s.fireAt (line / 16) n) :
    doFirePulse line k egate cycle code s = (s.at (min at_ (n + 144))).pulseJudged tr line k n at_ egate cycle code := by
  obtain ⟨hfire, hload, htrains, hlines, hline, hdone, hwithin⟩ := h
  have hfind : s.sch.trains.find? (fun tr => tr.lines.any (fun x => x.line = line.val && x.done = k) && decide (k < tr.pulses)) = some tr := by
    simp [htrains, hlines, hline, hdone, hwithin]
  have hrank : ((tr.lines.find? (fun x => x.line = line.val)).map TrainLine.rank).getD 0 = x.rank := by simp [hlines, hline]
  have hnext : ∀ t, (s.at t).comesNext line n = true := fun t => by
    simp [State.comesNext, State.nextPulses, htrains, hlines, hline, hdone, hwithin]
  have hlatch : ∀ t, (s.at t).latchEnded = s.at t := fun t =>
    latchEnded_of_no_load (fun c => by rw [chain_congr (State.at_emt s t)]; exact hload c)
  unfold doFirePulse
  dsimp only
  rw [hfind]
  dsimp only
  rw [hrank, ← hn, ← hat, if_neg (by simp [hfire, hnext]), hlatch]
  rfl

/-- With no earlier edge on its bank a pulse keeps its nominal instant (R138, R140). -/
theorem doFirePulse_nominal {s : State} {line : Fin 128} {k : Nat} {tr : Train} {x : TrainLine} (h : s.SolePulse line k tr x)
    (egate : Bool) (cycle code : Nat) {n : Nat} (hn : n = tr.nominal x.rank k) (hlast : tabFind (line / 16) s.sch.lastFire = none) :
    doFirePulse line k egate cycle code s = (s.at n).pulseJudged tr line k n n egate cycle code := by
  have hat : n = s.fireAt (line / 16) n := by simp [State.fireAt, hlast]
  rw [doFirePulse_sole h egate cycle code hn hat, Nat.min_eq_left (Nat.le_add_right n 144)]

/-! ## What becomes of it -/

/-- A pulse of a dead line is absent (R128). -/
theorem pulseJudged_dead {s : State} {l : Nat} (h : s.lineDead l = true) (tr : Train) (k n at_ : Nat) (egate : Bool) (cycle code : Nat) :
    s.pulseJudged tr l k n at_ egate cycle code = s.pulseAbsent tr l k n := if_pos h

/-- With no room in the short window the pulse is suppressed (R143). -/
theorem pulseJudged_short {s : State} {l n : Nat} (h : s.lineDead l = false)
    (hshort : s.shortCeil (s.zoneOf l) < s.shortUse (s.zoneOf l) n + s.pulseEnergy l) (tr : Train) (k : Nat) (egate : Bool) (cycle code : Nat) :
    s.pulseJudged tr l k n n egate cycle code = ((s.pulseAbsent tr l k n).bump F.EMT_GUARD.SUPPR 1).raiseEvt 10 0 := by
  unfold State.pulseJudged
  rw [if_neg (by simp [h]), if_neg (by omega)]
  exact if_pos (Bool.or_eq_true_iff.2 (.inl (decide_eq_true hshort)))

/-- With room in both windows it is fired (R142). -/
theorem pulseJudged_room {s : State} {l n : Nat} (h : s.lineDead l = false)
    (hshort : s.shortUse (s.zoneOf l) n + s.pulseEnergy l ≤ s.shortCeil (s.zoneOf l))
    (hlong : s.longUse (s.zoneOf l) n + s.pulseEnergy l ≤ s.longCeil (s.zoneOf l)) (tr : Train) (k : Nat) (egate : Bool) (cycle code : Nat) :
    ∃ edge, s.pulseJudged tr l k n n egate cycle code = (s.pulseTaken tr.ord tr.frame l).fireNow tr l k n n egate edge := by
  have hfull : ¬(decide (s.shortCeil (s.zoneOf l) < s.shortUse (s.zoneOf l) n + s.pulseEnergy l) ||
      decide (s.longCeil (s.zoneOf l) < s.longUse (s.zoneOf l) n + s.pulseEnergy l)) = true := by
    simp [hshort, hlong]
  unfold State.pulseJudged
  rw [if_neg (by simp [h]), if_neg (by omega)]
  exact ⟨_, if_neg hfull⟩

/-- A pulse that is not fired leaves its mark in the results; emission, the last edges, outputs and the recorder stay. -/
theorem pulseAbsent_marks (s : State) (tr : Train) (l k n : Nat) :
    (s.pulseAbsent tr l k n).etd.results = s.etd.results ++ [((tr.frame, tr.ord, l), s.absentPulse l k n)] ∧
      (s.pulseAbsent tr l k n).emt = s.emt ∧ (s.pulseAbsent tr l k n).sch.lastFire = s.sch.lastFire ∧
      (s.pulseAbsent tr l k n).tp = s.tp ∧ (s.pulseAbsent tr l k n).rcd = s.rcd := ⟨rfl, rfl, rfl, rfl, rfl⟩

/-- A suppressed pulse is counted as SUPPR saturates. -/
theorem suppressed_count (s : State) (tr : Train) (l k n : Nat) :
    (((s.pulseAbsent tr l k n).bump F.EMT_GUARD.SUPPR 1).raiseEvt 10 0).settle.getF F.EMT_GUARD.SUPPR =
      min (s.getF F.EMT_GUARD.SUPPR + 1) (2 ^ 32 - 1) := by
  have hword : emtWord F.EMT_GUARD.SUPPR.addr := ⟨by decide, by decide⟩
  rw [settle_getF_emt _ hword, raiseEvt_getF_emt _ _ _ hword, State.bump_eq, getF_setF_min _ _ _ (by decide)]
  rfl

/-- A pulse that is fired leaves by its bank's pin at its instant, and its bank's last edge stands there; it raises no event. -/
theorem fireNow_fires (s : State) (tr : Train) (line k at_ nominal : Nat) (egate : Bool) (edge : Nat) :
    (s.fireNow tr line k at_ nominal egate edge).tp.out = .fire (line / 16) line at_ :: s.tp.out ∧
      (s.fireNow tr line k at_ nominal egate edge).sch.lastFire = tabSet (line / 16) at_ s.sch.lastFire ∧
      (s.fireNow tr line k at_ nominal egate edge).rcd = s.rcd := by
  unfold State.fireNow
  extract_lets b zone nj e em x u st w
  have hw : w.tp = s.tp ∧ w.sch.lastFire = s.sch.lastFire ∧ w.rcd = s.rcd := ⟨rfl, rfl, rfl⟩
  obtain ⟨htp, hlast, hrcd⟩ := hw
  clear_value w
  exact ⟨congrArg (fun p : TransportState => Out.fire b line at_ :: p.out) htp, congrArg (tabSet b at_) hlast, hrcd⟩

/-! ## The command -/

/-- With room in both windows of its zone a pulse is fired at its nominal instant. -/
theorem doFirePulse_room {s : State} {line : Fin 128} {k n : Nat} {tr : Train} {x : TrainLine} (h : s.SolePulse line k tr x)
    (hdead : s.lineDead line = false) (hlast : tabFind (line / 16) s.sch.lastFire = none) (hn : n = tr.nominal x.rank k)
    (hshort : s.shortUse (s.zoneOf line) n + s.pulseEnergy line ≤ s.shortCeil (s.zoneOf line))
    (hlong : s.longUse (s.zoneOf line) n + s.pulseEnergy line ≤ s.longCeil (s.zoneOf line)) (egate : Bool) (cycle code : Nat) :
    ∃ edge, doFirePulse line k egate cycle code s = ((s.at n).pulseTaken tr.ord tr.frame line).fireNow tr line k n n egate edge := by
  rw [doFirePulse_nominal h egate cycle code hn hlast]
  refine pulseJudged_room ?_ ?_ ?_ tr k egate cycle code
  · rw [lineDead_at, hdead]
  · rw [zoneOf_at, shortUse_at, pulseEnergy_at, shortCeil_at]
    exact hshort
  · rw [zoneOf_at, longUse_at, pulseEnergy_at, longCeil_at]
    exact hlong

/-- With the short window full it is suppressed. -/
theorem doFirePulse_short {s : State} {line : Fin 128} {k n : Nat} {tr : Train} {x : TrainLine} (h : s.SolePulse line k tr x)
    (hdead : s.lineDead line = false) (hlast : tabFind (line / 16) s.sch.lastFire = none) (hn : n = tr.nominal x.rank k)
    (hshort : s.shortCeil (s.zoneOf line) < s.shortUse (s.zoneOf line) n + s.pulseEnergy line) (egate : Bool) (cycle code : Nat) :
    doFirePulse line k egate cycle code s = (((s.at n).pulseAbsent tr line k n).bump F.EMT_GUARD.SUPPR 1).raiseEvt 10 0 := by
  rw [doFirePulse_nominal h egate cycle code hn hlast]
  refine pulseJudged_short ?_ ?_ tr k egate cycle code
  · rw [lineDead_at, hdead]
  · rw [zoneOf_at, shortUse_at, pulseEnergy_at, shortCeil_at]
    exact hshort

/-- A pulse of a dead line is absent, whenever its bank would have been free for it. -/
theorem doFirePulse_dead {s : State} {line : Fin 128} {k : Nat} {tr : Train} {x : TrainLine} (h : s.SolePulse line k tr x)
    (hdead : s.lineDead line = true) (egate : Bool) (cycle code : Nat) :
    ∃ t, doFirePulse line k egate cycle code s = (s.at t).pulseAbsent tr line k (tr.nominal x.rank k) :=
  ⟨_, (doFirePulse_sole h egate cycle code rfl rfl).trans (pulseJudged_dead (by rw [lineDead_at, hdead]) tr k _ _ egate cycle code)⟩

/-- Settles O21: the pulse at its instant, by what becomes of it there. -/
theorem firePulses : Obligations.FirePulses := by
  refine ⟨?_, ?_, ?_⟩
  · intro s line k egate cycle code n tr x ⟨_, hpulses⟩ hfire hdead hload htr hlines hline hdone hk hlast hn hshort hlong
    obtain ⟨edge, hdo⟩ :=
      doFirePulse_room ⟨hfire, hload, htr, hlines, hline, hdone, hk⟩ hdead hlast hn hshort hlong egate cycle code
    obtain ⟨hout, hedge, hrcd⟩ := fireNow_fires ((s.at n).pulseTaken tr.ord tr.frame line) tr line k n n egate edge
    have hquiet : (doFirePulse line k egate cycle code s).rcd.pulses = [] := by
      rw [hdo, hrcd]
      exact (congrArg RecState.pulses (State.at_rcd s n)).trans hpulses
    refine ⟨_, rfl, ?_⟩
    rw [settle_of_no_pulses hquiet, hdo]
    refine ⟨hout.trans ?_, ?_⟩
    · exact congrArg (fun p : TransportState => Out.fire (line / 16) line n :: p.out) (State.at_tp s n)
    · exact (congrArg (tabFind (line / 16)) hedge).trans (tabFind_tabSet_self _ _ _)
  · intro s line k egate cycle code n tr x _ hfire hdead hload htr hlines hline hdone hk hlast hn hshort
    obtain ⟨hresults, hemt, hlastFire, -, -⟩ := pulseAbsent_marks (s.at n) tr line k n
    refine ⟨_, (s.at n).absentPulse line k n, rfl, ?_⟩
    rw [doFirePulse_short ⟨hfire, hload, htr, hlines, hline, hdone, hk⟩ hdead hlast hn hshort egate cycle code, suppressed_count,
      State.settle_emt, State.settle_sch, State.settle_etd, State.raiseEvt_emt, State.raiseEvt_sch, State.raiseEvt_etd, State.at_getF]
    refine ⟨hemt.trans (State.at_emt s n), hlastFire.trans ?_, rfl, hresults.trans ?_, rfl, rfl⟩
    · rw [State.at_sch]
    · rw [State.at_etd]
  · intro s line k egate cycle code tr x ⟨_, hpulses⟩ hfire hdead hload htr hlines hline hdone hk
    obtain ⟨t, hdo⟩ := doFirePulse_dead ⟨hfire, hload, htr, hlines, hline, hdone, hk⟩ hdead egate cycle code
    obtain ⟨hresults, -, hlastFire, htp, hrcd⟩ := pulseAbsent_marks (s.at t) tr line k (tr.nominal x.rank k)
    refine ⟨_, (s.at t).absentPulse line k (tr.nominal x.rank k), rfl, ?_⟩
    rw [hdo, settle_of_no_pulses (by rw [hrcd, State.at_rcd]; exact hpulses)]
    refine ⟨(congrArg TransportState.out htp).trans ?_, hlastFire.trans ?_, hresults.trans ?_, rfl⟩
    · rw [State.at_tp]
    · rw [State.at_sch]
    · rw [State.at_etd]

end Sys2Proof.Machine
end

section
/-! PROOFS. Stops and the pulses they time (O22): what becomes of a stop, and of a start whose window closes (R147, R149, R150, R156, R159). -/

namespace Sys2Proof.Machine

/-! ## What the clock and channel B's receiver leave of a bank -/

theorem activeEdge_at (s : State) (t : Nat) (rising : Bool) : (s.at t).activeEdge rising = s.activeEdge rising := by
  simp only [State.activeEdge, State.flag_eq, State.at_getF]

theorem bankEst_at (s : State) (t b : Nat) : (s.at t).bankEst b = s.bankEst b := by
  obtain ⟨x, y, h⟩ := at_eq s t
  rw [h]
  rfl

theorem getAt_at (s : State) (t epoch : Nat) (f : Field) : (s.at t).getAt epoch f = s.getAt epoch f := by
  obtain ⟨x, y, h⟩ := at_eq s t
  rw [h]
  rfl

theorem dripEmon_etd (s : State) (b cycle : Nat) : (s.dripEmon b cycle).etd = s.etd := dripEmon_part (π := .timing) (by decide) s b cycle

theorem dripEmon_on (s : State) (b cycle d : Nat) : (s.dripEmon b cycle).on d = s.on d := rfl

theorem dripEmon_getF (s : State) (b cycle : Nat) (f : Field) : (s.dripEmon b cycle).getF f = s.getF f := rfl

theorem dripEmon_bankEst (s : State) (b cycle c : Nat) : (s.dripEmon b cycle).bankEst c = s.bankEst c := rfl

/-! ## A stop -/

/-- A count that one has been added to. -/
theorem countAt_addCount_self (k n : Nat) (l : List (Nat × Nat)) : countAt k (addCount k n l) = countAt k l + n := by
  simp only [countAt, addCount, tabFind_tabSet_self, Option.getD_some]

/-- The edge that EMON_POL does not select passes with the time alone (R147). -/
theorem doEmonStop_otherEdge {s : State} {rising : Bool} (h : s.activeEdge rising = false) (bank : Fin 9) (cycle code : Nat) :
    doEmonStop bank rising cycle code s = s.at cycle :=
  if_pos (by rw [activeEdge_at, h]; rfl)

/-- The bank's interpolator is in service and the edge is the one that EMON_POL selects. -/
structure State.StopSeen (s : State) (bank : Fin 8) (rising : Bool) : Prop where
  on : s.on 8 = true
  edge : s.activeEdge rising = true
  sound : s.bankEst bank = false

/-- With no start open it is counted STRAY (R149). -/
theorem doEmonStop_stray {s : State} {bank : Fin 8} {rising : Bool} (h : s.StopSeen bank rising) (hstarts : s.etd.starts = []) (cycle code : Nat) :
    ∃ dead, (doEmonStop bank.castSucc rising cycle code s).etd =
      { s.etd with counts := addCount (bank * 8 + 5) 1 s.etd.counts, stopDead := dead } := by
  have hbank : bank.val ≠ 8 := by omega
  have hnone : ∀ q, s.etd.starts.find? q = none := fun q => by rw [hstarts]; rfl
  unfold doEmonStop
  simp only [activeEdge_at, h.edge, dripEmon_on, State.at_on, h.on, dripEmon_bankEst, bankEst_at, h.sound, Fin.val_castSucc, hbank,
    dripEmon_etd, State.at_etd, hnone, Bool.not_true, Bool.false_eq_true, decide_false, Bool.or_self, if_false]
  split <;> split <;> exact ⟨_, rfl⟩

/-- A start of the bank whose window holds `time` (R149). -/
structure PulseStart.Holds (p : PulseStart) (s : State) (bank time : Nat) : Prop where
  bank : p.bank = bank
  opens : p.time + fineNs (s.getF F.ETD_WIN.MIN) ≤ time
  closes : time ≤ p.time + fineNs (s.getF F.ETD_WIN.MAX)

/-- In the window of the bank's only start, which is armed, the first stop is timed and paired with it (R149, R150). -/
theorem doEmonStop_paired {s : State} {bank : Fin 8} {rising : Bool} {cycle code time : Nat} {p : PulseStart} (h : s.StopSeen bank rising)
    (hstarts : s.etd.starts = [p]) (harmed : p.armed = true) (hfirst : tabFind bank.val s.etd.stopDead = none)
    (htime : time = edgeTime (s.tapLine (s.etdOf bank)).widths cycle code) (hwin : p.Holds s bank time) :
    (doEmonStop bank.castSucc rising cycle code s).etd = { s.etd with
      starts := [{ p with stops := p.stops ++ [(time, true)] }], stopDead := tabSet bank time s.etd.stopDead } := by
  have hbank : bank.val ≠ 8 := by omega
  unfold doEmonStop
  simp only [activeEdge_at, h.edge, dripEmon_on, State.at_on, h.on, dripEmon_bankEst, bankEst_at, h.sound, Fin.val_castSucc, hbank,
    dripEmon_etd, State.at_etd, hstarts, Bool.not_true, Bool.false_eq_true, decide_false, Bool.or_self, if_false,
    dripEmon_getF, State.at_getF, ← htime, hfirst, hwin.bank, hwin.opens, hwin.closes, harmed, List.find?_cons, List.map_cons, List.map_nil,
    decide_true, Bool.and_self, if_true]

/-! ## A start whose window closes -/

/-- At `t` the window of the only start closes, which is one of the bank (R149). -/
structure State.ClosesOnly (s : State) (bank t : Nat) (p : PulseStart) : Prop where
  only : s.etd.starts = [p]
  bank : p.bank = bank
  later : s.now ≤ t
  closed : p.time + fineNs (s.getF F.ETD_WIN.MAX) ≤ fineNs t

/-- The start is gone, and its pulse settles. -/
theorem doPulseSettle_closes {s : State} {bank : Fin 8} {t : Nat} {p : PulseStart} (h : s.ClosesOnly bank t p) :
    doPulseSettle bank t s = ({ s.at t with etd := { s.etd with starts := [] } } : State).settlePulse p := by
  unfold doPulseSettle
  simp only [State.at_etd, h.only, List.find?_cons, h.bank, decide_true, State.at_getF, State.at_now, Nat.max_eq_right h.later, h.closed,
    if_true, List.erase_cons_head]

/-- What a pulse that has settled leaves: no start, its outcome counted, and its result after those that wait. -/
structure State.PulseSettled (s u : State) (p : PulseStart) (outcome : Nat) (r : PulseResult) : Prop where
  starts : u.etd.starts = []
  counts : countAt (p.bank * 8 + outcome) u.etd.counts = countAt (p.bank * 8 + outcome) s.etd.counts + 1
  results : u.etd.results = s.etd.results ++ [((p.frame, p.ord, p.line), r)]

/-- The result of a MEASURED pulse, at its stop less the bank's ZERO (R159). -/
def PulseStart.measured (p : PulseStart) (stop ofs : Nat) : PulseResult :=
  { k := p.k, status := 0, energy := p.energy, instant := (toLsb stop : Int) - signed 16 ofs }

/-- One timed stop: the pulse is MEASURED, with the ZERO of its frame's epoch (R44). -/
theorem doPulseSettle_measured {s : State} {bank : Fin 8} {t stop : Nat} {p : PulseStart} (h : s.ClosesOnly bank t p) (harmed : p.armed = true)
    (hest : p.est = false) (hstops : p.stops = [(stop, true)]) :
    s.PulseSettled (doPulseSettle bank t s) p 0 (p.measured stop (s.getAt p.epoch (F.ETD_ZERO.ZERO.idx p.bank))) := by
  have ho : p.outcome = 0 := by simp [PulseStart.outcome, harmed, hest, hstops]
  rw [doPulseSettle_closes h, ← getAt_at s t]
  unfold State.settlePulse
  simp only [ho, hstops]
  exact ⟨rfl, countAt_addCount_self _ _ _, rfl⟩

/-- No stop: the pulse is a MISS, and its result is absent. -/
theorem doPulseSettle_missed {s : State} {bank : Fin 8} {t : Nat} {p : PulseStart} (h : s.ClosesOnly bank t p) (harmed : p.armed = true)
    (hest : p.est = false) (hstops : p.stops = []) :
    ∃ r, s.PulseSettled (doPulseSettle bank t s) p 1 r ∧ r.status = 2 := by
  have ho : p.outcome = 1 := by simp [PulseStart.outcome, harmed, hest, hstops]
  rw [doPulseSettle_closes h]
  unfold State.settlePulse
  simp only [ho, hstops]
  exact ⟨_, ⟨rfl, countAt_addCount_self _ _ _, rfl⟩, rfl⟩

/-- Settles O22: a stop by what it meets, and a start by the stops that its window has held. -/
theorem stopsArePaired : Obligations.StopsArePaired := by
  refine ⟨?_, ?_, ?_, ?_, ?_⟩
  · intro s bank rising cycle code time p hon hedge hest hstarts hbank harmed hfirst htime hlo hhi
    have hetd := doEmonStop_paired ⟨hon, hedge, hest⟩ hstarts harmed hfirst htime ⟨hbank, hlo, hhi⟩
    refine ⟨_, rfl, ?_⟩
    rw [State.settle_etd, hetd]
    exact ⟨rfl, tabFind_tabSet_self _ _ _, rfl⟩
  · intro s bank rising cycle code hon hedge hest hstarts
    obtain ⟨dead, hetd⟩ := doEmonStop_stray ⟨hon, hedge, hest⟩ hstarts cycle code
    refine ⟨_, rfl, ?_⟩
    rw [State.settle_etd, hetd]
    exact ⟨countAt_addCount_self _ _ _, hstarts⟩
  · intro s bank rising cycle code ⟨_, hpulses⟩ hedge
    refine ⟨_, rfl, ?_⟩
    rw [doEmonStop_otherEdge hedge, settle_of_no_pulses (by rw [State.at_rcd]; exact hpulses)]
    exact ⟨State.at_etd s _, State.at_saf s _, State.at_regs s _⟩
  · intro s bank t stop p hstarts hbank harmed hest hstops hnow hwin
    obtain ⟨hgone, hcounts, hresults⟩ := doPulseSettle_measured ⟨hstarts, hbank, hnow, hwin⟩ harmed hest hstops
    rw [hbank] at hcounts hresults
    refine ⟨_, p.measured stop (s.getAt p.epoch (F.ETD_ZERO.ZERO.idx bank)), rfl, ?_⟩
    rw [State.settle_etd]
    exact ⟨hgone, hcounts, hresults, rfl, rfl, rfl, rfl⟩
  · intro s bank t p hstarts hbank harmed hest hstops hnow hwin
    obtain ⟨r, ⟨hgone, hcounts, hresults⟩, hstatus⟩ := doPulseSettle_missed ⟨hstarts, hbank, hnow, hwin⟩ harmed hest hstops
    rw [hbank] at hcounts
    refine ⟨_, r, rfl, ?_⟩
    rw [State.settle_etd]
    exact ⟨hgone, hcounts, hresults, hstatus⟩

end Sys2Proof.Machine
end

section
/-! PROOFS. Upkeep of the timing interpolators (O23): tests, failures, substitutions, locks and the reference loop (R152 to R158). -/

namespace Sys2Proof.Machine

/-! ## The registers of the interpolators

Beyond its header their page is written by no event, no spare pool and no end of a command. -/

abbrev etdWord (a : Nat) : Prop := 0xC100 ≤ a ∧ a < 0xD000

/-- `BLK_SPARE` of the page stands in its header. -/
theorem setF_spare_getF_etd (s : State) (lsb width v : Nat) {f : Field} (hf : etdWord f.addr) :
    (s.setF ⟨0xC024, lsb, width⟩ v).getF f = s.getF f :=
  getF_setF_other s ⟨0xC024, lsb, width⟩ f v (by show f.addr ≠ 0xC024; omega)

theorem raiseEvt_getF_etd (s : State) (p bit : Nat) {f : Field} (hf : etdWord f.addr) : (s.raiseEvt p bit).getF f = s.getF f :=
  State.raiseEvt_getF s p bit f (by omega)

theorem settle_getF_etd (s : State) {f : Field} (hf : etdWord f.addr) : s.settle.getF f = s.getF f :=
  State.settle_getF s f (by omega)

theorem poolTrigger_getF_etd (s : State) (cause : Nat) {f : Field} (hf : etdWord f.addr) : (s.poolTrigger 12 cause).getF f = s.getF f :=
  poolTrigger_getF s 12 cause (by omega) (by omega) (by omega)

theorem spareTaken_getF_etd (s : State) (p : Nat) {f : Field} (hf : etdWord f.addr) : (s.spareTaken p).getF f = s.getF f :=
  (raiseEvt_getF_etd (s.raiseEvt p 29) 6 0 hf).trans (raiseEvt_getF_etd s p 29 hf)

/-! ## A failed interpolator (R156) -/

section
variable {f : Field} (hf : etdWord f.addr)
include hf

theorem noInterpolator_getF (s : State) : s.noInterpolator.getF f = s.getF f :=
  (poolTrigger_getF_etd _ 0x41 hf).trans (raiseEvt_getF_etd s 12 4 hf)

theorem staysWorn_getF (s : State) (kind : Nat) : (s.staysWorn kind).getF f = s.getF f :=
  getF_setF_inst s F.CAL_POOL_STAT.WORN f kind 1 (by omega)

theorem wantSpare_getF (s : State) (n : Nat) : (s.wantSpare n).getF f = s.getF f := by
  unfold State.wantSpare
  split
  · exact noInterpolator_getF hf s
  · split
    · rfl
    · split
      · exact noInterpolator_getF hf s
      · extract_lets u
        show u.getF f = s.getF f
        simp only [u]
        split
        · rfl
        · exact staysWorn_getF hf s 2

theorem loseSpare_getF (s : State) : s.loseSpare.getF f = s.getF f := by
  have hwait : ∀ (l : List (Nat × Nat)) (u : State),
      (l.foldl (fun s e => if s.bitF F.ETD_FAIL.EST e.1 then s.noInterpolator else s.staysWorn 2) u).getF f = u.getF f := by
    intro l
    induction l with
    | nil => exact fun u => rfl
    | cons e l ih =>
      intro u
      refine (ih _).trans ?_
      dsimp only
      split
      · exact noInterpolator_getF hf u
      · exact staysWorn_getF hf u 2
  unfold State.loseSpare
  exact (poolTrigger_getF_etd _ 0x40 hf).trans ((raiseEvt_getF_etd _ 12 29 hf).trans ((setF_spare_getF_etd _ 16 16 _ hf).trans
    ((setF_spare_getF_etd _ 8 8 0 hf).trans (hwait _ _))))

end

/-- What follows from a failure, beyond the mark of it, writes no register of the interpolators. -/
theorem failInterpolator_getF {s : State} {n : Nat} (h : s.bitF F.ETD_FAIL.EST n = false) {f : Field} (hf : etdWord f.addr) :
    (s.failInterpolator n).getF f = (s.setBit F.ETD_FAIL.EST n true).getF f := by
  unfold State.failInterpolator
  rw [h, if_neg Bool.false_ne_true]
  extract_lets u bank est e v
  have hv : v.getF f = (s.setBit F.ETD_FAIL.EST n true).getF f := rfl
  rw [← hv]
  split
  · split
    · exact noInterpolator_getF hf v
    · exact wantSpare_getF hf v n
  · split
    · exact loseSpare_getF hf v
    · rfl

/-- A failed interpolator is marked. -/
theorem failInterpolator_marks (s : State) {n : Nat} (hn : n < 9) : ((s.failInterpolator n).getF F.ETD_FAIL.EST).testBit n = true := by
  cases h : s.bitF F.ETD_FAIL.EST n
  · rw [failInterpolator_getF h (by decide)]
    exact testBit_getF_setBit s F.ETD_FAIL.EST n true (by decide) hn
  · unfold State.failInterpolator
    rwa [if_pos h]

/-- What a failure leaves of the other registers of the interpolators. -/
theorem failInterpolator_getF_other (s : State) (n : Nat) {f : Field} (hf : etdWord f.addr) (hne : f.addr ≠ F.ETD_FAIL.EST.addr) :
    (s.failInterpolator n).getF f = s.getF f := by
  cases h : s.bitF F.ETD_FAIL.EST n
  · rw [failInterpolator_getF h hf]
    exact getF_setF_other _ _ _ _ hne
  · unfold State.failInterpolator
    rw [if_pos h]

/-! ## A code-density test (R153, R154) -/

/-- With no frame open and no train under way every interpolator may be tested. -/
theorem testGap_idle {s : State} (hframe : s.sch.frame = none) (htrains : s.sch.trains = []) (n : Nat) : s.testGap n = true := by
  simp [State.testGap, State.inGap, State.bankBusy, State.bankBusyAt, hframe, htrains]

/-- A tap whose hits lie within 0.25 and 2 LSB is not worn. -/
theorem wornTaps_eq_nil {hits : List Nat} (h : hits.all (fun n => decide (1024 ≤ n) && decide (n ≤ 8192)) = true) : wornTaps hits = [] := by
  unfold wornTaps
  rw [List.filter_eq_nil_iff]
  intro i hi
  have hlt : i < hits.length := List.mem_range.1 hi
  have hin : nth 0 hits i = hits[i] := by simp [nth, hlt]
  have hr := List.all_eq_true.1 h hits[i] (List.getElem_mem hlt)
  simp only [Bool.and_eq_true, decide_eq_true_eq] at hr
  simp only [hin, Bool.or_eq_true, decide_eq_true_eq]
  omega

theorem tapLine_setTapLine_self (s : State) (n : Nat) (l : TapLine) : (s.setTapLine n l).tapLine n = l := by
  simp [State.setTapLine, State.tapLine]

theorem tapLine_congr {s t : State} (h : t.etd = s.etd) (n : Nat) : t.tapLine n = s.tapLine n := by
  rw [State.tapLine, State.tapLine, h]

/-- Line `n` becomes `l`, with a table staged that is not provisional. -/
def State.stageTable (s : State) (n : Nat) (l : TapLine) : State :=
  ((s.setTapLine n l).setF (F.ETD_TBL.STAGED.inst n) 1).setF (F.ETD_TBL.PROV.inst n) 0

theorem stageTable_tapLine (s : State) (n : Nat) (l : TapLine) : (s.stageTable n l).tapLine n = l := by
  rw [tapLine_congr (s := s.setTapLine n l) (by rw [State.stageTable, State.setF_etd, State.setF_etd]), tapLine_setTapLine_self]

theorem stageTable_staged (s : State) (n : Nat) (l : TapLine) : (s.stageTable n l).getF (F.ETD_TBL.STAGED.inst n) = 1 := by
  unfold State.stageTable
  rw [getF_setF_beside _ (F.ETD_TBL.PROV.inst n) (F.ETD_TBL.STAGED.inst n) 0 (by simp [Field.inst]) (by simp [Field.inst])]
  exact getF_setF_of_lt _ (F.ETD_TBL.STAGED.inst n) (by simp [Field.inst]) (by simp [Field.inst])

/-- The test has its hits and finds no worn tap: the table that they give is staged, and the one in use stays. -/
theorem doInterpolatorRefreshComplete_stages {s : State} {etd : Fin 9} {hits : List Nat} (t : Nat) (hon : s.on 8 = true)
    (hframe : s.sch.frame = none) (htrains : s.sch.trains = []) (henough : testHits ≤ countAt etd.val s.etd.hits)
    (hlen : hits.length = 128) (hsum : hits.sum = testHits)
    (hrange : hits.all (fun n => decide (1024 ≤ n) && decide (n ≤ 8192)) = true) :
    ∃ (u : State) (l : TapLine), doInterpolatorRefreshComplete etd hits t s = u.stageTable etd l ∧ l.staged = some (toWidths hits) ∧
      l.widths = (s.tapLine etd).widths := by
  have hgap : (s.at t).testGap etd = true := testGap_idle (by rw [State.at_sch, hframe]) (by rw [State.at_sch, htrains]) etd
  have henough' : ¬ countAt etd.val (s.at t).etd.hits < testHits := by rw [State.at_etd]; omega
  unfold doInterpolatorRefreshComplete
  extract_lets u n l
  rw [if_neg (by simp only [u, n, State.at_on, hon, hlen, hsum, hgap, henough', ne_eq, not_true_eq_false, decide_false, Bool.not_true,
    Bool.or_self, Bool.false_eq_true, not_false_eq_true]), wornTaps_eq_nil hrange]
  exact ⟨_, _, rfl, rfl, (congrArg TapLine.widths (tapLine_congr (State.at_etd s t) etd) :)⟩

/-! ## A substitution (R157) -/

/-- With no frame open and no train under way a change may fall due on every bank. -/
theorem substGap_idle {s : State} (hframe : s.sch.frame = none) (htrains : s.sch.trains = []) (b : Nat) : s.substGap b = true := by
  simp [State.substGap, State.bankBusy, State.bankBusyAt, hframe, htrains]

/-- `ETD8` is idle and sound. -/
structure State.SpareReady (s : State) : Prop where
  idle : s.getF F.ETD_MAP.SPARE_IN = 0
  sound : s.bitF F.ETD_FAIL.EST 8 = false

/-- What taking over a bank writes in the registers of the interpolators. -/
theorem applySpare_getF {s : State} (h : s.SpareReady) (n : Nat) {f : Field} (hf : etdWord f.addr) :
    (s.applySpare n).getF f = (((s.setF F.ETD_MAP.SPARE_IN 1).setF F.ETD_MAP.BANK n).setBit F.ETD_MAP.LOCK 8 false).getF f := by
  unfold State.applySpare
  rw [if_neg (by simp [h.idle, h.sound, -State.bitF_eq])]
  exact (poolTrigger_getF_etd _ 0x40 hf).trans ((spareTaken_getF_etd _ 12 hf).trans ((raiseEvt_getF_etd _ 12 1 hf).trans
    ((setF_spare_getF_etd _ 16 16 _ hf).trans ((setF_spare_getF_etd _ 0 8 _ hf).trans (setF_spare_getF_etd _ 8 8 0 hf)))))

/-- The bank it serves is shown, and its own lock is not. -/
theorem applySpare_map {s : State} (h : s.SpareReady) {n : Nat} (hn : n < 8) :
    (s.applySpare n).getF F.ETD_MAP.SPARE_IN = 1 ∧ (s.applySpare n).getF F.ETD_MAP.BANK = n ∧
      ((s.applySpare n).getF F.ETD_MAP.LOCK).testBit 8 = false := by
  simp only [applySpare_getF h n (f := F.ETD_MAP.SPARE_IN) (by decide), applySpare_getF h n (f := F.ETD_MAP.BANK) (by decide),
    applySpare_getF h n (f := F.ETD_MAP.LOCK) (by decide)]
  refine ⟨?_, ?_, testBit_getF_setBit _ F.ETD_MAP.LOCK 8 false (by decide) (by decide)⟩
  · rw [getF_setBit_beside _ _ _ _ _ (by decide) (by decide), getF_setF_beside _ _ _ _ (by decide) (by decide)]
    exact getF_setF_of_lt _ _ (by decide) (by decide)
  · rw [getF_setBit_beside _ _ _ _ _ (by decide) (by decide)]
    exact getF_setF_of_lt _ _ (by decide) hn

theorem applySpare_subst {s : State} (h : s.SpareReady) (n : Nat) : (s.applySpare n).etd.subst = tabDel n s.etd.subst := by
  unfold State.applySpare
  rw [if_neg (by simp [h.idle, h.sound, -State.bitF_eq])]
  refine congrArg EtdState.subst (?_ : _ = { s.etd with
    subst := tabDel n s.etd.subst, relock := (8, none) :: s.etd.relock, took := tabSet n s.now s.etd.took })
  exact (poolTrigger_part (π := .timing) (by decide) _ 12 0x40).trans ((spareTaken_part (π := .timing) (by decide) _ 12).trans
    (State.raiseEvt_etd _ 12 1))

/-- A substitution that waits is applied in a gap that suits its bank. -/
theorem applyDue_spare {s : State} {n req : Nat} {due : Nat → Nat → Bool} (hreq : tabFind n s.etd.subst = some req) (hdue : due n req = true) :
    s.applyDue due n = s.applySpare n := by
  unfold State.applyDue
  rw [hreq]
  exact if_pos hdue

/-! ## The reference loop (R158) -/

/-- The idle spare fires its own loop; what its stop brings leaves the record of outputs. -/
theorem doReferenceLoopFire_fires {s : State} (egate : Bool) (cycle code : Nat) (stop : Option (Bool × Nat × Nat)) (hon : s.on 8 = true)
    (hdev : s.dev = .standby) (hframe : s.sch.frame = none) (hidle : s.getF F.ETD_MAP.SPARE_IN = 0) (hloop : s.getF F.ETD_CTL.REFLOOP = 1) :
    (doReferenceLoopFire egate cycle code stop s).tp.out = .reference cycle :: s.tp.out ∧
      (doReferenceLoopFire egate cycle code stop s).rcd = s.rcd := by
  have hgap : (s.at cycle).inGap = true := by simp [State.inGap, hframe]
  have hstate : (s.at cycle).dev = .standby := by rw [State.at_dev, hdev]
  unfold doReferenceLoopFire
  extract_lets u ws start _ v
  rw [if_pos (by simp [u, hon, hidle, hloop, hgap, hstate])]
  have hv : v.tp.out = .reference cycle :: s.tp.out ∧ v.rcd = s.rcd := by simp only [v, u, State.at_tp, State.at_rcd, and_self]
  split
  · extract_lets time
    split
    · rwa [State.setF_tp, State.setF_tp, State.setF_rcd, State.setF_rcd]
    · exact hv
  · exact hv

/-- Settles O23: each command by the registers that it writes and what follows from it. -/
theorem interpolatorUpkeep : Obligations.InterpolatorUpkeep := by
  refine ⟨?_, ?_, ?_, ?_, ?_, ?_⟩
  · intro s etd hits t hon hframe htrains henough hlen hsum hrange
    obtain ⟨u, l, hdo, hstaged, hwidths⟩ := doInterpolatorRefreshComplete_stages t hon hframe htrains henough hlen hsum hrange
    refine ⟨_, rfl, ?_⟩
    rw [hdo, tapLine_congr (State.settle_etd _), stageTable_tapLine, State.settle_getF _ _ (by simp only [Field.inst]; omega)]
    exact ⟨hstaged, hwidths, stageTable_staged u etd l⟩
  · intro s etd t hon
    refine ⟨_, rfl, ?_⟩
    have hdo : doInterpolatorFailure etd t s = (((s.at t).setBit F.ETD_MAP.LOCK etd false).raiseEvt 12 0).failInterpolator etd :=
      if_neg (by simp [hon])
    rw [hdo, State.bitF_eq, State.bitF_eq, settle_getF_etd _ (by decide), settle_getF_etd _ (by decide)]
    refine ⟨failInterpolator_marks _ etd.isLt, ?_⟩
    rw [failInterpolator_getF_other _ _ (by decide) (by decide), raiseEvt_getF_etd _ 12 0 (by decide)]
    exact testBit_getF_setBit _ F.ETD_MAP.LOCK etd false (by decide) etd.isLt
  · intro s etd t hon
    refine ⟨_, rfl, ?_⟩
    have hdo : doConversionTimeout etd t s = (s.at t).failInterpolator etd := if_neg (by simp [hon])
    rw [hdo, State.bitF_eq, settle_getF_etd _ (by decide)]
    exact failInterpolator_marks _ etd.isLt
  · intro s etd t req hreq hframe htrains hidle hsound
    have hready : (s.at t).SpareReady := ⟨by rw [State.at_getF, hidle], by rw [State.bitF_eq, State.at_getF, ← State.bitF_eq, hsound]⟩
    have hdo : doSubstitutionApply etd.castSucc t s = (s.at t).applySpare etd :=
      applyDue_spare (due := fun b _ => (s.at t).substGap b) (by rw [State.at_etd]; exact hreq)
        (substGap_idle (by rw [State.at_sch, hframe]) (by rw [State.at_sch, htrains]) _)
    refine ⟨_, rfl, ?_⟩
    obtain ⟨hin, hbank, hlock⟩ := applySpare_map hready etd.isLt
    rw [hdo, State.bitF_eq, State.settle_etd, applySpare_subst hready, settle_getF_etd (f := F.ETD_MAP.SPARE_IN) _ (by decide),
      settle_getF_etd (f := F.ETD_MAP.BANK) _ (by decide), settle_getF_etd (f := F.ETD_MAP.LOCK) _ (by decide)]
    exact ⟨hin, hbank, hlock, tabFind_tabDel_self _ _⟩
  · intro s etd t hon
    refine ⟨_, rfl, ?_⟩
    have hdo : doDllLock etd t s = ({ s.at t with etd := { (s.at t).etd with
        relock := (s.at t).etd.relock.filter (fun x => x.1 ≠ etd.val) } } : State).setBit F.ETD_MAP.LOCK etd true := if_neg (by simp [hon])
    rw [hdo, State.bitF_eq, settle_getF_etd _ (by decide), State.settle_etd, State.setBit_etd]
    refine ⟨testBit_getF_setBit _ F.ETD_MAP.LOCK etd true (by decide) etd.isLt, ?_⟩
    rw [State.at_etd]
  · intro s egate cycle code stop ⟨_, hpulses⟩ hon hdev hframe hidle hloop
    obtain ⟨hout, hrcd⟩ := doReferenceLoopFire_fires egate cycle code stop hon hdev hframe hidle hloop
    refine ⟨_, rfl, ?_⟩
    rw [settle_of_no_pulses (by rw [hrcd]; exact hpulses)]
    exact hout

end Sys2Proof.Machine
end

section
/-! PROOFS. Return pulses (O24): an event is placed with the OFS of its train's epoch (R44), which a commit may have changed since. -/

namespace Sys2Proof.Machine

/-! ## The unit of the counterexample -/

/-- The train of channel 136's line, started in epoch 0. -/
def epochZeroTrain : Train :=
  { ord := 0, frame := 1, epoch := 0, group := 0, pass := 0, step := 0, pos := 0, cls := 1, pulses := 8, cell := 3000, start := 1000, offs := [],
    lines := [⟨17, 0, 0, 0, 0, 1000, 9000⟩], two := false, hist := false }

/-- A sampler's delay line whose taps have one width. -/
def evenLine : TapLine :=
  { active := List.range 128, widths := List.replicate 128 256, staged := none, retired := [], subst := none, drift := [] }

/-- In `RUN`, with channel 136 in service on sampler 2 of its group, every weight 1 and OFS 0. -/
def listeningUnit : State :=
  ((({ State.reset with
    regs := [(0x110, 4)], pwr := { PowerState.reset with released := [0, 8, 22] }, rst := { RstState.reset with loading := false } }
    : State).setF (chanEn 136) 1).setF (chanMap 136) 2).setF F.GRN_WEIGHT.W 0x01010101

/-- A commit has begun epoch 1 and moved the channel's OFS from 1 to 0; the registers of epoch 0 are kept for the train that runs on. -/
def recommittedUnit : State :=
  { listeningUnit.setF F.SYS_EPOCH.VALUE 1 with
    sch := { SchedState.reset with trains := [epochZeroTrain] }
    etd := { EtdState.reset with lines := [(samplerLine 2 2, evenLine)] }
    grn := { GrindState.reset with eras := [(0, (listeningUnit.setF (chanOfs 136) 1).regs)] } }

/-- The event of a pulse with its leading edge at 256,128 LSB is forwarded less the OFS of epoch 0, which is 1. -/
theorem recommittedUnit_forwards : (doReturnPulse 136 2000 0 2001 0 recommittedUnit).queueOf 2 =
    [{ ch := 136, frame := 1, train := 0, time := 256127, level := 2 }] := by
  set_option maxRecDepth 20000 in decide

/-- Refutes O24: its third clause places the event with the OFS in force. In `recommittedUnit` the train's epoch had another, whose registers are
kept, and the event is placed with that (R44). -/
theorem not_returnPulses : ¬ Obligations.ReturnPulses := by
  intro h
  obtain ⟨-, -, hforward, -⟩ := h
  obtain ⟨u, hu, hqueue⟩ := hforward recommittedUnit 136 2000 0 2001 0 2 128 (List.replicate 128 256) epochZeroTrain
    ⟨17, 0, 0, 0, 0, 1000, 9000⟩ 256128 (by decide) (by decide) (by decide) (by decide) (by decide) (by decide) (by decide) (by decide) (by decide)
    (by decide) (by decide) rfl rfl rfl (by decide) (by decide) (by decide) (by decide) (by decide)
  have hstep : u = (doReturnPulse 136 2000 0 2001 0 recommittedUnit).settle := (Host.Outcome.next.inj hu).symm
  have hsettled : u.queueOf 2 = (doReturnPulse 136 2000 0 2001 0 recommittedUnit).queueOf 2 := by
    rw [hstep, State.queueOf, State.settle_rxc, ← State.queueOf]
  rw [recommittedUnit_forwards] at hsettled
  exact absurd (hsettled.symm.trans hqueue) (by decide)

end Sys2Proof.Machine
end

section
/-! PROOFS. Upkeep of the samplers and the tile buses (O25): refreshes, tap maps, failures and spares (R169 to R174), transactions and APPLY
(R180, R181). -/

namespace Sys2Proof.Machine

/-! ## The words of samplers, tile buses and channels

The samplers' registers, those of the tile buses and the channels' window are written by no event, no spare pool and no end of a command. -/

abbrev rxcWord (a : Nat) : Prop := 0xD120 ≤ a % 0x1000000 ∧ (a % 0x1000000 < 0xE000 ∨ 0x100000 ≤ a % 0x1000000)

theorem rxcWord_inst {f : Field} (h : 0xD120 ≤ f.addr ∧ f.addr < 0xE000) (i : Nat) : rxcWord (f.inst i).addr := by
  simp only [rxcWord, Field.inst]
  omega

theorem rxcWord_chanMap (ch : Fin 1024) : rxcWord (chanMap ch).addr := by
  simp only [rxcWord, chanMap, chanF]
  omega

theorem rxcWord_bus {f : Field} (h : 0xD120 ≤ f.addr ∧ f.addr < 0xDF00) (bus : Fin 4) : rxcWord (f.bus bus).addr := by
  have hlt : f.addr + 48 * bus.val < 0x1000000 := by omega
  simp only [rxcWord, Field.bus, Field.bytes, Nat.mod_eq_of_lt hlt]
  omega

/-- Instances of two registers are different words. -/
theorem inst_addr_ne_inst {f g : Field} (hf : f.addr < 0x1000000) (hg : g.addr < 0x1000000) (h : f.addr ≠ g.addr) (i j : Nat) :
    (f.inst i).addr ≠ (g.inst j).addr := by
  simp only [Field.inst]
  omega

/-- What each step of a fold leaves the fold leaves. -/
theorem foldl_getF {β : Type} {g : State → β → State} {f : Field} (hg : ∀ u b, (g u b).getF f = u.getF f) (l : List β) (s : State) :
    (l.foldl g s).getF f = s.getF f := by
  induction l generalizing s with
  | nil => rfl
  | cons b l ih => exact (ih _).trans (hg s b)

section
variable {f : Field} (hf : rxcWord f.addr)
include hf

theorem setF_low_getF_rxc (s : State) (g : Field) (v : Nat) (hg : g.addr < 0xD120) : (s.setF g v).getF f = s.getF f :=
  getF_setF_other s g f v (by omega)

theorem raiseEvt_getF_rxc (s : State) (p bit : Nat) (hp : p < 28) : (s.raiseEvt p bit).getF f = s.getF f :=
  State.raiseEvt_getF s p bit f (by omega)

theorem settle_getF_rxc (s : State) : s.settle.getF f = s.getF f :=
  State.settle_getF s f (by omega)

theorem setF_lowInst_getF_rxc (s : State) (g : Field) (i v : Nat) (hg : g.addr < 0xD120) : (s.setF (g.inst i) v).getF f = s.getF f :=
  getF_setF_other s (g.inst i) f v (by simp only [Field.inst]; omega)

theorem poolTrigger_getF_rxc (s : State) (cause : Nat) : (s.poolTrigger 13 cause).getF f = s.getF f := by
  refine (standTrigger_getF _ 13 cause (by omega)).trans ?_
  simp only [poolKind]
  split
  · split
    · rfl
    · exact (raiseEvt_getF_rxc hf _ 6 2 (by decide)).trans (setF_low_getF_rxc hf s F.CAL_EXHAUST.KINDS _ (by decide))
  · exact setF_lowInst_getF_rxc hf s F.CAL_POOL_STAT.FAILED 1 _ (by decide)

theorem partTaken_getF_rxc (s : State) : s.partTaken.getF f = s.getF f := raiseEvt_getF_rxc hf s 6 0 (by decide)

theorem spareTaken_getF_rxc (s : State) : (s.spareTaken 13).getF f = s.getF f :=
  (partTaken_getF_rxc hf _).trans (raiseEvt_getF_rxc hf s 13 29 (by decide))

theorem setSpareByte_getF_rxc (s : State) (g i v : Nat) : (s.setSpareByte g i v).getF f = s.getF f :=
  setF_lowInst_getF_rxc hf s F.RXC_GRP_SPARE.SPARES g _ (by decide)

theorem checkPool_getF_rxc (s : State) (g : Nat) : (s.checkPool g).getF f = s.getF f := by
  unfold State.checkPool
  split
  · exact (poolTrigger_getF_rxc hf _ _).trans ((raiseEvt_getF_rxc hf _ 13 5 (by decide)).trans
      (setF_low_getF_rxc hf s (H.SPARE_MAP 13) _ (by decide)))
  · rfl

theorem noteTapPool_getF_rxc (s : State) (n : Nat) : (s.noteTapPool n).getF f = s.getF f := by
  unfold State.noteTapPool
  split
  · exact (raiseEvt_getF_rxc hf _ 6 2 (by decide)).trans (setF_low_getF_rxc hf s F.CAL_EXHAUST.KINDS _ (by decide))
  · rfl

theorem faultChannel_getF_rxc (s : State) (c : Nat) : (s.faultChannel c).getF f = s.getF f := by
  unfold State.faultChannel
  refine foldl_getF (fun u x => ?_) _ s
  exact (raiseEvt_getF_rxc hf _ 14 6 (by decide)).trans (getF_of_regs rfl f)

end

/-! ## A refresh (R169) -/

/-- A sampler's line `n` becomes `l`, with a table staged that is not provisional. -/
def State.stageSampler (s : State) (n i : Nat) (l : TapLine) : State :=
  ((s.setTapLine n l).setF (F.RXC_SMP_TBL.STAGED.inst i) 1).setF (F.RXC_SMP_TBL.PROV.inst i) 0

theorem stageSampler_tapLine (s : State) (n i : Nat) (l : TapLine) : (s.stageSampler n i l).tapLine n = l := by
  rw [tapLine_congr (s := s.setTapLine n l) (by rw [State.stageSampler, State.setF_etd, State.setF_etd]), tapLine_setTapLine_self]

theorem stageSampler_staged (s : State) (n i : Nat) (l : TapLine) : (s.stageSampler n i l).getF (F.RXC_SMP_TBL.STAGED.inst i) = 1 := by
  unfold State.stageSampler
  rw [getF_setF_beside _ (F.RXC_SMP_TBL.PROV.inst i) (F.RXC_SMP_TBL.STAGED.inst i) 0 (by simp [Field.inst]) (by simp [Field.inst])]
  exact getF_setF_of_lt _ (F.RXC_SMP_TBL.STAGED.inst i) (by simp [Field.inst]) (by simp [Field.inst])

/-- No tap without hits, where every tap has at least 1024. -/
theorem contains_zero_of_range {hits : List Nat} (h : hits.all (fun n => decide (1024 ≤ n) && decide (n ≤ 8192)) = true) :
    hits.contains 0 = false := by
  simp only [List.all_eq_true, Bool.and_eq_true, decide_eq_true_eq] at h
  simp only [List.contains_eq_mem, decide_eq_false_iff_not]
  exact fun hmem => absurd (h 0 hmem).1 (by decide)

/-- The refresh has its edges and finds no worn tap: the table that they give is staged, and the one in use stays. -/
theorem doSamplerRefreshComplete_stages {s : State} {group : Fin 16} {sampler : Fin 68} {hits : List Nat} (t : Nat) (hon : s.on 8 = true)
    (hgroup : s.on (20 + group.val) = true) (henough : testHits ≤ countAt (samplerLine group sampler) s.rxc.edges)
    (hlen : hits.length = 128) (hsum : hits.sum = testHits)
    (hrange : hits.all (fun n => decide (1024 ≤ n) && decide (n ≤ 8192)) = true) :
    ∃ (u : State) (l : TapLine),
      doSamplerRefreshComplete group sampler hits t s = u.stageSampler (samplerLine group sampler) (samplerInst group sampler) l ∧
        l.staged = some (toWidths hits) ∧ l.widths = (s.tapLine (samplerLine group sampler)).widths := by
  have henough' : ¬ countAt (samplerLine group sampler) (s.at t).rxc.edges < testHits := by rw [State.at_rxc]; omega
  unfold doSamplerRefreshComplete
  extract_lets +onlyGivenNames u n i l
  rw [if_neg (by simp only [u, n, State.at_on, hon, hgroup, hlen, hsum, henough', ne_eq, not_true_eq_false, decide_false, Bool.not_true,
    Bool.or_self, Bool.false_eq_true, not_false_eq_true]),
    if_neg (by simp only [contains_zero_of_range hrange, Bool.false_eq_true, not_false_eq_true]), wornTaps_eq_nil hrange]
  exact ⟨_, _, rfl, rfl, (congrArg TapLine.widths (tapLine_congr (State.at_etd s t) (samplerLine group sampler)) :)⟩

/-! ## A tap map (R171) -/

/-- The new map replaces the line's, and the line relocks within 3 µs. -/
theorem applySamplerMap_etd (s : State) (g k : Nat) (places : List Nat) :
    (s.applySamplerMap g k places).etd = { s.etd with
      lines := tabSet (samplerLine g k) ((s.tapLine (samplerLine g k)).substituted (samplerLine g k) places) s.etd.lines
      took := tabSet (samplerLine g k) s.now s.etd.took
      relock := (samplerLine g k, some (s.now + s.freeNat % 3001)) :: s.etd.relock.filter (fun x => x.1 ≠ samplerLine g k) } :=
  (noteTapPool_part (π := .timing) _ _).trans ((partTaken_part (π := .timing) (by decide) _).trans (State.raiseEvt_etd _ 13 2))

theorem applySamplerMap_prov (s : State) (g k : Nat) (places : List Nat) :
    (s.applySamplerMap g k places).getF (F.RXC_SMP_TBL.PROV.inst (samplerInst g k)) = 1 := by
  have hword : rxcWord (F.RXC_SMP_TBL.PROV.inst (samplerInst g k)).addr := rxcWord_inst (by decide) _
  have htaps := inst_addr_ne_inst (f := F.RXC_SMP_TBL.PROV) (g := F.RXC_SMP_TAPS.USED) (by decide) (by decide) (by decide)
    (samplerInst g k) (samplerInst g k)
  unfold State.applySamplerMap
  extract_lets +onlyGivenNames n i a lock _ _ b c d
  have hd : d.getF (F.RXC_SMP_TBL.PROV.inst i) = c.getF (F.RXC_SMP_TBL.PROV.inst i) := getF_setF_other c _ _ _ htaps
  refine (noteTapPool_getF_rxc hword _ _).trans ((partTaken_getF_rxc hword _).trans ((raiseEvt_getF_rxc hword _ 13 2 (by decide)).trans
    ((getF_setF_other d _ _ _ htaps).trans (hd.trans ?_))))
  refine (getF_setF_beside (b.setF (F.RXC_SMP_TBL.PROV.inst i) 1) (F.RXC_SMP_TBL.STAGED.inst i) _ 0 (by simp [Field.inst])
    (by simp [Field.inst])).trans ?_
  exact getF_setF_of_lt b _ (by simp [Field.inst]) (by simp [Field.inst])

/-- With no frame open and no train under way a map that waits is applied. -/
theorem doSamplerTapMapApply_idle {s : State} {group : Fin 16} {sampler : Fin 68} {places : List Nat} {req : Nat} (t : Nat)
    (hmap : (s.tapLine (samplerLine group sampler)).subst = some (places, req)) (hframe : s.sch.frame = none) (htrains : s.sch.trains = []) :
    doSamplerTapMapApply group sampler t s = (s.at t).applySamplerMap group sampler places := by
  have hgap : (s.at t).longGap = true := by simp [State.longGap, hframe]
  have harmed : ∀ c, (s.at t).armedNow c = false := fun c => by simp [State.armedNow, htrains]
  have hg : (samplerLine group sampler - 16) / 68 = group := by simp only [samplerLine]; omega
  have hk : (samplerLine group sampler - 16) % 68 = sampler := by simp only [samplerLine]; omega
  unfold doSamplerTapMapApply State.applyMapDue
  simp only [tapLine_congr (State.at_etd s t), hmap, hgap, harmed, hg, hk, Bool.not_false, Bool.and_self, Bool.or_true, if_true]

/-! ## A failed sampler (R172) -/

/-! FAILED of a sampler is cleared by nothing that a failure brings with it. -/

theorem releaseSampler_failed (s : State) (g k i : Nat) :
    (s.releaseSampler g k).getF (F.RXC_SMP_STAT.FAILED.inst i) = s.getF (F.RXC_SMP_STAT.FAILED.inst i) := by
  have hword : rxcWord (F.RXC_SMP_STAT.FAILED.inst i).addr := rxcWord_inst (by decide) i
  have hserve : (s.setF (F.RXC_SMP_STAT.IN_SERVICE.inst (samplerInst g k)) 0).getF (F.RXC_SMP_STAT.FAILED.inst i) =
      s.getF (F.RXC_SMP_STAT.FAILED.inst i) := getF_setF_beside _ _ _ _ (by simp [Field.inst]) (by simp [Field.inst])
  unfold State.releaseSampler
  extract_lets u
  split
  · exact hserve
  · exact (raiseEvt_getF_rxc hword _ 13 29 (by decide)).trans ((setF_low_getF_rxc hword _ (H.SPARE_USED 13) _ (by decide)).trans
      ((setSpareByte_getF_rxc hword u g _ _).trans hserve))

theorem switchChannel_failed (s : State) (c dest i : Nat) :
    (s.switchChannel c dest).getF (F.RXC_SMP_STAT.FAILED.inst i) = s.getF (F.RXC_SMP_STAT.FAILED.inst i) := by
  unfold State.switchChannel
  refine (getF_setF_other _ (chanMap c) _ _ (by simp only [chanMap, chanF, Field.inst]; omega)).trans ?_
  split
  · exact releaseSampler_failed _ _ _ i
  · rfl

theorem assignSpare_failed (s : State) (c i : Nat) :
    (s.assignSpare c).getF (F.RXC_SMP_STAT.FAILED.inst i) = s.getF (F.RXC_SMP_STAT.FAILED.inst i) := by
  have hword : rxcWord (F.RXC_SMP_STAT.FAILED.inst i).addr := rxcWord_inst (by decide) i
  unfold State.assignSpare
  split
  · rfl
  · exact (poolTrigger_getF_rxc hword _ _).trans ((switchChannel_failed _ c 0x7F i).trans (faultChannel_getF_rxc hword s c))

theorem claimSpare_failed (s : State) (c i : Nat) :
    (s.claimSpare c).getF (F.RXC_SMP_STAT.FAILED.inst i) = s.getF (F.RXC_SMP_STAT.FAILED.inst i) :=
  foldl_getF (fun u c => assignSpare_failed u c i) _ _

theorem dropClaim_failed (s : State) (g j i : Nat) :
    (s.dropClaim g j).getF (F.RXC_SMP_STAT.FAILED.inst i) = s.getF (F.RXC_SMP_STAT.FAILED.inst i) :=
  foldl_getF (fun u c => assignSpare_failed u c i) _ _

theorem recordDue_getF (s : State) (f : Field) : s.recordDue.getF f = s.getF f := rfl

/-- A sampler that fails shows FAILED. -/
theorem failSampler_marks (s : State) (g k : Nat) : (s.failSampler g k).samplerFailed g k = true := by
  have hword : rxcWord (F.RXC_SMP_STAT.FAILED.inst (samplerInst g k)).addr := rxcWord_inst (by decide) _
  unfold State.failSampler
  extract_lets +onlyGivenNames i
  split
  · assumption
  · extract_lets +onlyGivenNames serving c a b d
    have ha : a.getF (F.RXC_SMP_STAT.FAILED.inst i) = 1 :=
      (recordDue_getF (s.setF (F.RXC_SMP_STAT.FAILED.inst i) 1) _).trans
        (getF_setF_of_lt s (F.RXC_SMP_STAT.FAILED.inst i) (by simp [Field.inst]) (by simp [Field.inst]))
    have hb : b.getF (F.RXC_SMP_STAT.FAILED.inst i) = 1 :=
      (raiseEvt_getF_rxc hword _ 13 0 (by decide)).trans ((setF_lowInst_getF_rxc hword a F.RXC_GRP_STAT.FAILED g _ (by decide)).trans ha)
    have hd : d.getF (F.RXC_SMP_STAT.FAILED.inst i) = 1 := by
      simp only [d]
      split
      · exact (setSpareByte_getF_rxc hword b g _ _).trans hb
      · exact hb
    have hmark : ∀ u : State, u.getF (F.RXC_SMP_STAT.FAILED.inst i) = d.getF (F.RXC_SMP_STAT.FAILED.inst i) → u.samplerFailed g k = true := by
      intro u hu
      rw [State.samplerFailed, State.flag_eq, show samplerInst g k = i from rfl, hu, hd]
      rfl
    split
    · exact hmark _ ((claimSpare_failed _ c i).trans (faultChannel_getF_rxc hword d c))
    · refine hmark _ ((dropClaim_failed _ g _ i).trans ((checkPool_getF_rxc hword _ g).trans
        ((raiseEvt_getF_rxc hword _ 13 29 (by decide)).trans ?_)))
      exact setF_low_getF_rxc hword d (H.SPARE_LEFT 13) _ (by decide)

/-! ## A channel on its spare (R173) -/

theorem switchChannel_waiting (s : State) (c dest : Nat) : (s.switchChannel c dest).rxc.waiting = s.rxc.waiting := by
  unfold State.switchChannel
  rw [State.setF_rxc]
  split
  · exact (congrArg RxState.waiting (releaseSampler_part (π := .receivers) _ _ _) :).trans rfl
  · rfl

theorem switchChannel_map (s : State) (ch : Fin 1024) (dest : Nat) : (s.switchChannel ch dest).getF (chanMap ch) = dest % 128 := by
  unfold State.switchChannel
  exact getF_setF_self _ (chanMap ch) dest (by simp [chanMap, chanF])

/-- The spare serves the channel, which is shown in its registers. -/
theorem useSpare_shows (s : State) (ch : Fin 1024) (i : Nat) :
    (s.useSpare ch i).getF (chanMap ch) = (64 + i) % 128 ∧
      (s.useSpare ch i).getF (F.RXC_SMP_STAT.IN_SERVICE.inst (samplerInst (ch.val / 64) (64 + i))) = 1 ∧
      (s.useSpare ch i).getF (F.RXC_SMP_STAT.CHANNEL.inst (samplerInst (ch.val / 64) (64 + i))) = ch.val % 64 := by
  unfold State.useSpare
  extract_lets +onlyGivenNames g new a b d e
  have hlast : ∀ f : Field, rxcWord f.addr → (((e.raiseEvt 13 1).spareTaken 13).checkPool g).getF f = b.getF f := by
    intro f hf
    refine (checkPool_getF_rxc hf _ g).trans ((spareTaken_getF_rxc hf _).trans ((raiseEvt_getF_rxc hf e 13 1 (by decide)).trans ?_))
    exact (setF_low_getF_rxc hf _ (H.SPARE_LEFT 13) _ (by decide)).trans ((setF_low_getF_rxc hf d (H.SPARE_USED 13) _ (by decide)).trans
      (setSpareByte_getF_rxc hf b g i _))
  refine ⟨(hlast _ (rxcWord_chanMap ch)).trans ?_, (hlast _ (rxcWord_inst (by decide) new)).trans ?_,
    (hlast _ (rxcWord_inst (by decide) new)).trans ?_⟩
  · have hne : ∀ f : Field, f.addr = 0xD120 → (chanMap ch).addr ≠ (f.inst new).addr := by
      intro f hf
      simp only [chanMap, chanF, Field.inst, hf]
      omega
    refine (getF_setF_other _ _ _ _ (hne F.RXC_SMP_STAT.CHANNEL rfl)).trans
      ((getF_setF_other a _ _ _ (hne F.RXC_SMP_STAT.IN_SERVICE rfl)).trans ?_)
    exact switchChannel_map s ch (64 + i)
  · refine (getF_setF_beside _ (F.RXC_SMP_STAT.CHANNEL.inst new) _ _ (by simp [Field.inst]) (by simp [Field.inst])).trans ?_
    exact getF_setF_of_lt a _ (by simp [Field.inst]) (by simp [Field.inst])
  · exact getF_setF_of_lt _ (F.RXC_SMP_STAT.CHANNEL.inst new) (by simp [Field.inst]) (by simp only [Field.inst]; omega)

theorem useSpare_waiting (s : State) (c i : Nat) : (s.useSpare c i).rxc.waiting = s.rxc.waiting := by
  unfold State.useSpare
  extract_lets +onlyGivenNames g new a b d e
  have he : e.rxc = a.rxc := by simp only [e, d, b, State.bump_eq, State.setSpareByte, State.setF_rxc]
  have hlast : (((e.raiseEvt 13 1).spareTaken 13).checkPool g).rxc = e.rxc :=
    (checkPool_part (π := .receivers) (by decide) _ g).trans ((spareTaken_part (π := .receivers) (by decide) _ 13).trans
      (State.raiseEvt_rxc e 13 1))
  rw [hlast, he]
  exact switchChannel_waiting s c (64 + i)

/-- While no train runs, the channel that waits takes the spare its failure was assigned, and no channel waits any more. -/
theorem doSamplerSubstitution_switches {s : State} {ch : Fin 1024} {w : SpareClaim} (t : Nat) (hwait : s.rxc.waiting = [w])
    (hch : w.ch = ch.val) (htrains : s.sch.trains = []) :
    ∃ u : State, doSamplerSubstitution ch t s = u.useSpare ch w.spare ∧ u.rxc.waiting = [] := by
  have harmed : (s.at t).armedNow ch = false := by simp [State.armedNow, htrains]
  unfold doSamplerSubstitution
  simp only [State.at_rxc, hwait, List.find?_cons, hch, decide_true, Option.isSome_some, Bool.true_or, harmed, Bool.not_false, Bool.and_self,
    if_true, Option.map_some, Option.orElse_some]
  exact ⟨_, rfl, by simp [hch]⟩

/-! ## Tile buses (R180) -/

/-- The bytes read stand in the read registers of their bus. -/
theorem putRead_getF (s : State) (bus : Nat) (data : List Byte) {f : Field} (hf : f.addr < (F.RXC_I2C_RD.DATA.bus bus).addr) :
    (s.putRead bus data).getF f = s.getF f := by
  unfold State.putRead
  refine foldl_getF (fun u j => ?_) _ s
  split
  · exact getF_setF_other u _ _ _ (by simp only [Field.idx]; omega)
  · rfl

/-- A transaction that ends shows its result, and GO clears. -/
theorem endI2c_shows (s : State) (bus : Fin 4) {result : Nat} (hresult : result < 16) (done : Nat) (data : List Byte) :
    (s.endI2c bus result done data).getF (F.RXC_I2C_CMD.GO.bus bus) = 0 ∧
      (s.endI2c bus result done data).getF (F.RXC_I2C_STAT.RESULT.bus bus) = result := by
  unfold State.endI2c
  extract_lets a b
  have hne : (F.RXC_I2C_CMD.GO.bus bus).addr ≠ (F.RXC_I2C_STAT.RESULT.bus bus).addr := by simp [Field.bus, Field.bytes]
  constructor
  · refine (raiseEvt_getF_rxc (rxcWord_bus (by decide) bus) _ 13 _ (by decide)).trans
      ((putRead_getF _ bus data (by simp [Field.bus, Field.bytes])).trans ?_)
    refine (getF_setF_other a (F.RXC_I2C_STAT.DONE.bus bus) _ _ hne).trans ((getF_setF_other _ _ _ _ hne).trans ?_)
    exact getF_setF_of_lt s _ (by simp [Field.bus, Field.bytes]) (by simp [Field.bus, Field.bytes])
  · refine (raiseEvt_getF_rxc (rxcWord_bus (by decide) bus) _ 13 _ (by decide)).trans
      ((putRead_getF _ bus data (by simp [Field.bus, Field.bytes])).trans ?_)
    refine (getF_setF_beside a (F.RXC_I2C_STAT.DONE.bus bus) _ _ (by simp [Field.bus, Field.bytes]) (by simp [Field.bus, Field.bytes])).trans ?_
    exact getF_setF_of_lt _ _ (by simp [Field.bus, Field.bytes]) (by simpa [Field.bus, Field.bytes] using hresult)

/-! ## APPLY (R181) -/

/-- A report sends nothing, and while the recorder's domain is off the recorder sees nothing of it. -/
theorem emitEvent_quiet {s : State} (h : s.on 5 = false) (kind page code a b count : Nat) :
    (s.emitEvent kind page code a b count).tp.out = s.tp.out ∧ (s.emitEvent kind page code a b count).rcd = s.rcd := by
  have hmatch : s.recMatch kind page code = s := by simp [State.recMatch, State.recPulse, h, List.range_succ]
  have hpush : ∀ (u : State) (src : Nat) (bytes : List Byte), u.on 5 = false → u.recPush src bytes = u := by
    intro u src bytes hu
    simp [State.recPush, State.recArmed, hu]
  unfold State.emitEvent State.commitRecord State.commitSel
  rw [hmatch]
  dsimp only
  split
  · rw [hpush]
    · exact ⟨rfl, rfl⟩
    · exact h
  · exact ⟨rfl, rfl⟩

theorem raiseEvt_quiet {s : State} (h : s.on 5 = false) (p bit : Nat) :
    (s.raiseEvt p bit).tp.out = s.tp.out ∧ (s.raiseEvt p bit).rcd = s.rcd := by
  unfold State.raiseEvt
  extract_lets +onlyGivenNames _ t u
  split
  · exact ⟨rfl, rfl⟩
  · split
    · exact ⟨rfl, rfl⟩
    · split
      · exact emitEvent_quiet (s := t) h _ _ _ _ _ _
      · exact ⟨rfl, rfl⟩

/-- The same of an event raised once registers have been written. -/
theorem raiseEvt_quiet_of {s u : State} (hoff : u.on 5 = false) (htp : u.tp = s.tp) (hrcd : u.rcd = s.rcd) (p bit : Nat) :
    (u.raiseEvt p bit).tp.out = s.tp.out ∧ (u.raiseEvt p bit).rcd = s.rcd := by
  rw [← htp, ← hrcd]
  exact raiseEvt_quiet hoff p bit

theorem recErr_quiet {s : State} (h : s.on 5 = false) (p code addr : Nat) :
    (s.recErr p code addr).tp.out = s.tp.out ∧ (s.recErr p code addr).rcd = s.rcd := by
  unfold State.recErr
  split
  · exact ⟨rfl, rfl⟩
  · split
    · exact raiseEvt_quiet_of (by rw [State.bump_eq, State.setF_on, h]) (by rw [State.bump_eq, State.setF_tp])
        (by rw [State.bump_eq, State.setF_rcd]) p 31
    · exact raiseEvt_quiet_of (by rw [State.setF_on, State.setF_on, State.setF_on, h]) (by rw [State.setF_tp, State.setF_tp, State.setF_tp])
        (by rw [State.setF_rcd, State.setF_rcd, State.setF_rcd]) p 31

/-- APPLY on the buses `en`, of which those in `good` acknowledge. -/
def State.sendApply (s : State) (en good : Nat) : State :=
  let s := { s with rxc := { s.rxc with applySent := false, applyDue := false },
                    tp := { s.tp with out := (onesOf 4 en).map (fun b => Out.i2c b [0x0F, 0xA7]) ++ s.tp.out } }
  (s.setF F.RXC_I2C_APPLY.ACK good).setF F.RXC_I2C_APPLY.NACK (en - good)

theorem sendApply_shows (s : State) {en good : Nat} (hen : en < 16) (hgood : good < 16) :
    (s.sendApply en good).getF F.RXC_I2C_APPLY.ACK = good ∧ (s.sendApply en good).getF F.RXC_I2C_APPLY.NACK = en - good := by
  unfold State.sendApply
  refine ⟨?_, getF_setF_of_lt _ F.RXC_I2C_APPLY.NACK (by decide) (by show en - good < 16; omega)⟩
  rw [getF_setF_beside _ F.RXC_I2C_APPLY.NACK F.RXC_I2C_APPLY.ACK _ (by decide) (by decide)]
  exact getF_setF_of_lt _ F.RXC_I2C_APPLY.ACK (by decide) hgood

/-- An APPLY that is due goes out; a bus that fails to acknowledge is reported. -/
theorem doI2cApply_due {s : State} (acked t : Nat) (hon : s.on 8 = true) (hdue : s.rxc.applyDue = true) :
    doI2cApply acked t s =
      (let en := s.getF F.RXC_I2C_CFG.APPLY_EN
       let u := (s.at t).sendApply en (en &&& acked)
       if en - (en &&& acked) = 0 then u else (u.raiseEvt 13 8).recErr 13 0x81 0) := by
  unfold doI2cApply
  extract_lets +onlyGivenNames v
  rw [if_pos (by simp [v, State.applyPending, hon, hdue])]
  have hdue' : (s.at t).rxc.applyDue = true := by rw [State.at_rxc, hdue]
  simp only [v, hdue', State.at_getF, if_true, Bool.not_true]
  rfl

/-- It is sent on every bus that takes part, the acknowledgements are shown, and nothing else leaves unless the recorder follows a bus that has
not acknowledged. -/
theorem doI2cApply_shows {s : State} {acked t : Nat} (hon : s.on 8 = true) (hdue : s.rxc.applyDue = true)
    (hquiet : s.on 5 = false ∨ s.getF F.RXC_I2C_CFG.APPLY_EN &&& acked = s.getF F.RXC_I2C_CFG.APPLY_EN) :
    (doI2cApply acked t s).tp.out = (onesOf 4 (s.getF F.RXC_I2C_CFG.APPLY_EN)).map (fun b => Out.i2c b [0x0F, 0xA7]) ++ s.tp.out ∧
      (doI2cApply acked t s).rcd.pulses = s.rcd.pulses ∧ (doI2cApply acked t s).rxc.applyDue = false ∧
      (doI2cApply acked t s).getF F.RXC_I2C_APPLY.ACK = s.getF F.RXC_I2C_CFG.APPLY_EN &&& acked ∧
      (doI2cApply acked t s).getF F.RXC_I2C_APPLY.NACK =
        s.getF F.RXC_I2C_CFG.APPLY_EN - (s.getF F.RXC_I2C_CFG.APPLY_EN &&& acked) := by
  rw [doI2cApply_due acked t hon hdue]
  extract_lets +onlyGivenNames en u
  have hen : en < 16 := getF_lt s F.RXC_I2C_CFG.APPLY_EN
  obtain ⟨hack, hnack⟩ := sendApply_shows (s.at t) hen (Nat.lt_of_le_of_lt Nat.and_le_left hen : en &&& acked < 16)
  have hout : u.tp.out = (onesOf 4 en).map (fun b => Out.i2c b [0x0F, 0xA7]) ++ s.tp.out :=
    congrArg (_ ++ ·) (congrArg TransportState.out (State.at_tp s t))
  have hrcd : u.rcd = s.rcd := State.at_rcd s t
  split
  · exact ⟨hout, congrArg RecState.pulses hrcd, rfl, hack, hnack⟩
  · next hbad =>
    have hoff : u.on 5 = false := by
      refine (State.at_on s t 5).trans (hquiet.resolve_right fun hall => hbad ?_)
      rw [hall, Nat.sub_self]
    obtain ⟨hout₁, hrcd₁⟩ := raiseEvt_quiet hoff 13 8
    obtain ⟨hout₂, hrcd₂⟩ := recErr_quiet (s := u.raiseEvt 13 8) ((State.raiseEvt_on u 13 8 5).trans hoff) 13 0x81 0
    have hkept : ∀ f : Field, rxcWord f.addr → ((u.raiseEvt 13 8).recErr 13 0x81 0).getF f = u.getF f := fun f hf =>
      (State.recErr_getF _ 13 _ _ f (by omega)).trans (raiseEvt_getF_rxc hf u 13 8 (by decide))
    refine ⟨hout₂.trans (hout₁.trans hout), congrArg RecState.pulses (hrcd₂.trans (hrcd₁.trans hrcd)), ?_,
      (hkept _ (by decide)).trans hack, (hkept _ (by decide)).trans hnack⟩
    rw [State.recErr_rxc, State.raiseEvt_rxc]
    rfl

/-- Settles O25: each command by the registers that it writes and what follows from it. -/
theorem samplerUpkeep : Obligations.SamplerUpkeep := by
  refine ⟨?_, ?_, ?_, ?_, ?_, ?_, ?_⟩
  · intro s group sampler hits t hon hgroup henough hlen hsum hrange
    obtain ⟨u, l, hdo, hstaged, hwidths⟩ := doSamplerRefreshComplete_stages t hon hgroup henough hlen hsum hrange
    refine ⟨_, rfl, ?_⟩
    rw [hdo, tapLine_congr (State.settle_etd _), stageSampler_tapLine, settle_getF_rxc (rxcWord_inst (by decide) _)]
    exact ⟨hstaged, hwidths, stageSampler_staged u _ _ l⟩
  · intro s group sampler places req t hmap hframe htrains
    refine ⟨_, (s.at t).now + (s.at t).freeNat % 3001, rfl, ?_⟩
    rw [doSamplerTapMapApply_idle t hmap hframe htrains, tapLine_congr (State.settle_etd _), settle_getF_rxc (rxcWord_inst (by decide) _),
      State.settle_etd, applySamplerMap_prov, State.tapLine, applySamplerMap_etd, tabFind_tabSet_self, Option.getD_some,
      tapLine_congr (State.at_etd s t), State.at_now]
    refine ⟨rfl, rfl, rfl, ?_⟩
    have hfree : (s.at t).freeNat % 3001 < 3001 := Nat.mod_lt _ (by decide)
    omega
  · intro s group sampler t hon hgroup
    have hdo : doSamplerFailure group sampler t s = (s.at t).failSampler group sampler := if_pos (by simp [hon, hgroup])
    refine ⟨_, rfl, ?_⟩
    rw [hdo, State.samplerFailed, State.flag_eq, settle_getF_rxc (rxcWord_inst (by decide) _)]
    exact failSampler_marks (s.at t) group sampler
  · intro s ch w t hwait hch htrains
    obtain ⟨u, hdo, hnone⟩ := doSamplerSubstitution_switches t hwait hch htrains
    obtain ⟨hmap, hserves, hchannel⟩ := useSpare_shows u ch w.spare
    refine ⟨_, rfl, ?_⟩
    rw [hdo, settle_getF_rxc (rxcWord_chanMap ch), settle_getF_rxc (rxcWord_inst (by decide) _), settle_getF_rxc (rxcWord_inst (by decide) _),
      State.settle_rxc, useSpare_waiting]
    exact ⟨hmap, hserves, hchannel, hnone⟩
  · intro s bus result done data t hon hgo hresult
    have hdo : doI2cTransactionComplete bus result done data t s =
        (s.at t).endI2c bus result done (data.take ((s.at t).getF (F.RXC_I2C_CMD.RLEN.bus bus))) :=
      if_pos (by simpa [hon, hgo, or_assoc] using hresult)
    refine ⟨_, rfl, ?_⟩
    rw [hdo, settle_getF_rxc (rxcWord_bus (by decide) bus), settle_getF_rxc (rxcWord_bus (by decide) bus)]
    exact endI2c_shows _ bus (by omega) done _
  · intro s bus done t hon hgo
    have hdo : doI2cStretchTimeout bus done t s = (s.at t).endI2c bus 5 done [] := if_pos (by simp [hon, hgo])
    refine ⟨_, rfl, ?_⟩
    rw [hdo, settle_getF_rxc (rxcWord_bus (by decide) bus), settle_getF_rxc (rxcWord_bus (by decide) bus)]
    exact endI2c_shows _ bus (by decide) done _
  · intro s acked t ⟨_, hpulses⟩ hon hdue hquiet
    obtain ⟨hout, hkept, hgone, hack, hnack⟩ := doI2cApply_shows (t := t) hon hdue hquiet
    refine ⟨_, rfl, ?_⟩
    rw [State.settle_rxc, settle_getF_rxc (by decide), settle_getF_rxc (by decide), settle_of_no_pulses (hkept.trans hpulses)]
    exact ⟨hout, hgone, hack, hnack⟩

end Sys2Proof.Machine
end

section
/-! PROOFS. How events and pulses meet a measurement (O26): train descriptors (R189) and histogram updates (R190, R199). -/

namespace Sys2Proof.Machine

/-! ## Orders and tables -/

theorem insertBy_perm {β : Type} (lt : β → β → Bool) (x : β) (l : List β) : (insertBy lt x l).Perm (x :: l) := by
  induction l with
  | nil => exact .refl _
  | cons y t ih =>
    unfold insertBy
    split
    · exact .refl _
    · exact (ih.cons y).trans (.swap x y t)

/-- Sorting loses and adds nothing. -/
theorem sortBy_perm {β : Type} (lt : β → β → Bool) (l : List β) : (sortBy lt l).Perm l := by
  have hacc : ∀ (l acc : List β), (l.foldl (fun acc x => insertBy lt x acc) acc).Perm (l ++ acc) := by
    intro l
    induction l with
    | nil => exact fun acc => .refl _
    | cons x l ih => exact fun acc => (ih _).trans (((insertBy_perm lt x acc).append_left l).trans List.perm_middle)
  exact (hacc l []).trans (.of_eq (List.append_nil l))

theorem tabSet_singleton_self {β : Type} (k : Nat) (v w : β) : tabSet k v [(k, w)] = [(k, v)] := by simp [tabSet]

theorem setMeas_slots (s : State) (n : Nat) (m : Meas) : (s.setMeas n m).grn.slots = tabSet n m s.grn.slots := rfl

theorem tabFind_setMeas_self (s : State) (n : Nat) (m : Meas) : tabFind n (s.setMeas n m).grn.slots = some m := tabFind_tabSet_self n m _

/-! ## A train descriptor (R189, R191) -/

/-- Naming the first zoom pulse changes ZFROM and LATE alone. -/
theorem zoomFrom_eq (s : State) (m : Meas) : ∃ z late, s.zoomFrom m = { m with zfrom := z, late := late } := by
  unfold State.zoomFrom
  split
  · split
    · split
      · exact ⟨_, _, rfl⟩
      · exact ⟨_, _, rfl⟩
    · exact ⟨_, _, rfl⟩
  · exact ⟨_, _, rfl⟩

/-- What the result of one pulse changes in a measurement, and what it leaves. -/
theorem describe_one (s : State) (m : Meas) (r : PulseResult) :
    (s.describe m [r]).pulseInfo.Perm (m.pulseInfo ++ [r]) ∧
      (s.describe m [r]).used = (s.describe m [r]).contributing m.pulses ∧
      (s.describe m [r]).absent = (m.absent || decide (r.status = 2)) ∧ (s.describe m [r]).est = (m.est || decide (r.status = 1)) ∧
      (s.describe m [r]).bins = m.bins ∧ (s.describe m [r]).waiting = m.waiting := by
  unfold State.describe
  obtain ⟨z, late, h⟩ := zoomFrom_eq s { m with
    pulseInfo := sortBy (fun a b => decide (a.k < b.k)) (m.pulseInfo ++ [r])
    est := m.est || [r].any (·.status = 1), absent := m.absent || [r].any (·.status = 2) }
  rw [h]
  exact ⟨sortBy_perm _ _, rfl, congrArg (m.absent || ·) (Bool.or_false _), congrArg (m.est || ·) (Bool.or_false _), rfl, rfl⟩

/-- With no event that waits, a measurement is only put back. -/
theorem binWaiting_of_nil {s : State} {n : Nat} {m : Meas} (h : tabFind n s.grn.slots = some m) (hw : m.waiting = []) :
    s.binWaiting n = s.setMeas n m := by
  have hm : { m with waiting := [] } = m := by cases m; subst hw; rfl
  unfold State.binWaiting
  rw [h]
  dsimp only
  rw [hw, hm, List.foldl_nil]

/-- The only result of a line's pulse reaches the line's only open measurement. -/
theorem doTrainDescriptor_describes {s : State} {frame train n : Nat} {line : Fin 128} {r : PulseResult} {m : Meas}
    (hres : s.etd.results = [((frame, train, line.val), r)]) (hslots : s.grn.slots = [(n, m)]) (hline : m.chan / 8 = line.val)
    (hframe : m.frame = frame) (htrain : m.train = train) (hopen : m.state = 1) :
    doTrainDescriptor frame train line s =
      (let u : State := { s with etd := { s.etd with results := [] } }
       (u.setMeas n (u.describe m [r])).binWaiting n) := by
  simp [doTrainDescriptor, hres, hslots, hline, hframe, htrain, Meas.open_, hopen]

/-! ## A histogram update (R190, R199) -/

theorem measOf_congr {s t : State} (h : t.grn.slots = s.grn.slots) (e : Event) : t.measOf e = s.measOf e := by
  rw [State.measOf, State.measOf, h]

/-- W16 of an epoch stands in the registers, in force or kept. -/
theorem weight_congr {s t : State} (hregs : t.regs = s.regs) (heras : t.grn.eras = s.grn.eras) (epoch level : Nat) :
    t.weight epoch level = s.weight epoch level := by
  have hget : ∀ f, t.getAt epoch f = s.getAt epoch f := fun f => by
    unfold State.getAt State.epoch
    rw [heras, getF_of_regs hregs, getF_of_regs hregs]
  rw [State.weight, State.weight, hget]

/-- An engine that has counted no update has its bucket full and none in this ns. -/
theorem bucketAt_of_none {s : State} {e : Nat} (h : tabFind e s.grn.bucket = none) (t : Nat) : s.bucketAt e t = 163840 := by
  rw [State.bucketAt, h]

theorem updatesNow_of_none {s : State} {e : Nat} (h : tabFind e s.grn.recent = none) : s.updatesNow e = 0 := by
  rw [State.updatesNow, h]; rfl

theorem refillQueue_of_nil {s : State} (h : s.rxc.held = []) (g : Nat) : s.refillQueue g = s := by
  unfold State.refillQueue State.arbiterPick
  simp [h]

/-- An update that does not empty the bucket is counted in it, and raises nothing. -/
theorem takeUpdate_eq {s : State} {e : Nat} (h : 1 < s.bucketAt e s.now) :
    ∃ counts recent, s.takeUpdate e = { s with grn := { s.grn with
      bucket := tabSet e (s.bucketAt e s.now - 1, s.now) s.grn.bucket, counts := counts, recent := recent } } := by
  unfold State.takeUpdate
  extract_lets left
  have hleft : left ≠ 0 := by simp only [left]; omega
  rw [if_neg hleft]
  exact ⟨_, _, rfl⟩

/-- An event whose place is decided, in the window of a pulse that was not absent, before any zoom pulse: its coarse bin gains its weight. -/
theorem binEvent_adds {s : State} {e : Event} {slot : Nat} {m : Meas} {r : PulseResult} (hmeas : s.measOf e = some (slot, m))
    (hchan : m.chFault = false) (htile : m.tileFault = false) (hdecided : m.decided e.time = true) (hpulse : m.pulseAt e.time = some r)
    (hstatus : r.status ≠ 2) (hzoom : m.zfrom = 0x3F) :
    s.binEvent e = s.setMeas slot { m with bins := addBin ((e.time - m.opens r).toNat / 64) (s.weight m.epoch e.level) m.bins } := by
  unfold State.binEvent
  rw [hmeas]
  dsimp only
  rw [if_neg (by simp [hchan, htile]), if_pos hdecided]
  unfold State.placeEvent
  rw [hpulse]
  dsimp only
  rw [if_neg hstatus]
  exact congrArg (s.setMeas slot) (if_pos (by simp [hzoom]))

/-- The only event of a group's queue is taken while its engine may accept it: one update leaves the engine's bucket. -/
theorem doHistogramUpdate_takes {s : State} {group : Fin 16} {ev : Event} (t : Nat) (hqueue : s.queueOf group = [ev])
    (hheld : s.rxc.held = []) (hbucket : tabFind (group.val / 2) s.grn.bucket = none) (hrecent : tabFind (group.val / 2) s.grn.recent = none)
    (hon : s.on (12 + group.val / 2) = true) :
    ∃ u : State, doHistogramUpdate group 0 t s = u.binEvent ev ∧ u.queueOf group = [] ∧ u.regs = s.regs ∧
      u.grn.slots = s.grn.slots ∧ u.grn.eras = s.grn.eras ∧ tabFind (group.val / 2) u.grn.bucket = some (163839, max s.now t) := by
  let v : State := { s.at t with rxc := { (s.at t).rxc with queues := tabSet group [] (s.at t).rxc.queues } }
  have hgrn : v.grn = s.grn := State.at_grn s t
  have hnow : v.now = max s.now t := State.at_now s t
  have hfull : v.bucketAt (group.val / 2) v.now = 163840 := bucketAt_of_none (by rw [hgrn, hbucket]) _
  have hfirst : v.updatesNow (group.val / 2) = 0 := updatesNow_of_none (by rw [hgrn, hrecent])
  have hheld' : v.rxc.held = [] := (congrArg RxState.held (State.at_rxc s t)).trans hheld
  have hdo : doHistogramUpdate group 0 t s = (((v.refillQueue group).takeUpdate (group.val / 2)).countCorrected (group.val / 2) 0).binEvent ev := by
    have hqueue' : (s.at t).queueOf group = [ev] := by rw [State.queueOf, State.at_rxc]; exact hqueue
    have hmay : ¬ ((v.bucketAt (group.val / 2) v.now = 0 || 16 ≤ v.updatesNow (group.val / 2) || !(s.at t).on (12 + group.val / 2)) = true) := by
      simp [hfull, hfirst, hon]
    unfold doHistogramUpdate
    dsimp only
    rw [hqueue']
    exact if_neg hmay
  obtain ⟨counts, recent, htake⟩ := takeUpdate_eq (s := v) (e := group.val / 2) (by omega)
  rw [refillQueue_of_nil hheld', State.countCorrected, if_pos rfl, htake, hfull, hnow] at hdo
  exact ⟨_, hdo, congrArg (Option.getD · []) (tabFind_tabSet_self _ _ _), State.at_regs s t, (congrArg GrindState.slots hgrn :),
    (congrArg GrindState.eras hgrn :), tabFind_tabSet_self _ _ _⟩

/-- Settles O26: a result by what it describes, an update by the bin it adds to. -/
theorem eventsMeetMeasurements : Obligations.EventsMeetMeasurements := by
  refine ⟨?_, ?_⟩
  · intro s frame train n line r m hres hslots hline hframe htrain hopen hwait
    let v : State := { s with etd := { s.etd with results := [] } }
    obtain ⟨hperm, hused, habsent, hest, hbins, hwaiting⟩ := describe_one v m r
    refine ⟨_, v.describe m [r], rfl, ?_⟩
    rw [doTrainDescriptor_describes hres hslots hline hframe htrain hopen, State.settle_etd, State.settle_grn,
      binWaiting_of_nil (tabFind_setMeas_self _ _ _) (hwaiting.trans hwait), setMeas_slots, setMeas_slots, hslots, tabSet_singleton_self,
      tabSet_singleton_self]
    refine ⟨rfl, rfl, hperm.mem_iff.2 (by simp), ?_, hused, habsent, hest, hbins⟩
    rw [hperm.length_eq, List.length_append, List.length_singleton]
  · intro s group t slot ev m r hqueue hheld hbucket hrecent hon hmeas hdecided hchan htile hzoom hpulse hstatus
    obtain ⟨u, hdo, hempty, hregs, hslots, heras, hleft⟩ := doHistogramUpdate_takes t hqueue hheld hbucket hrecent hon
    refine ⟨_, rfl, ?_⟩
    rw [hdo, State.queueOf, State.settle_rxc, State.settle_grn,
      binEvent_adds ((measOf_congr hslots ev).trans hmeas) hchan htile hdecided hpulse hstatus hzoom, tabFind_setMeas_self,
      weight_congr hregs heras]
    exact ⟨hempty, hleft, rfl⟩

end Sys2Proof.Machine
end

section
/-! PROOFS. Search, close and clearing of a measurement (O27, R187, R194 to R196). -/

namespace Sys2Proof.Machine

/-! ## What the passage of time leaves of a measurement's settings -/

theorem passOne_at (s : State) (t : Nat) (m : Meas) : (s.at t).passOne m = s.passOne m := by rw [State.passOne, getAt_at, State.passOne]

theorem baseline_at (s : State) (t : Nat) (m : Meas) (n : Nat) : (s.at t).baseline m n = s.baseline m n := by
  rw [State.baseline, getAt_at, State.baseline]

/-- A frame's counters stand beside the slots. -/
theorem frameCount_slots (s : State) (frame kind n : Nat) : (s.frameCount frame kind n).grn.slots = s.grn.slots := rfl

/-! ## The candidate search (R195, R196) -/

theorem search_length_le (m : Meas) (b1 thr : Nat) : (m.search b1 thr).length ≤ 4 := by
  unfold Meas.search
  dsimp only
  rw [List.length_map]
  exact List.length_take_le 4 _

/-- The search of a measurement ends at the present instant with the candidates found, and leaves the histogram as it is. -/
theorem doCandidateSearch_ends {s : State} {slot : Fin 4096} {t : Nat} {m : Meas} (h : tabFind slot.val s.grn.slots = some m)
    (hstate : m.state = 1) (hsearch : m.searched = none) (hpassed : m.passed (s.passOne m) (max s.now t) = true) :
    ∃ m', tabFind slot.val (doCandidateSearch slot t s).grn.slots = some m' ∧ m'.searched = some (max s.now t) ∧ m'.cands.length ≤ 4 ∧
      m'.nocand = m'.cands.isEmpty ∧ m'.bins = m.bins := by
  unfold doCandidateSearch
  extract_lets v
  have hslot : tabFind slot.val v.grn.slots = some m := by rw [State.at_grn, h]
  rw [hslot]
  dsimp -zeta only
  extract_lets p cands zoom ended m' u
  have hnow : v.now = max s.now t := State.at_now s t
  have hpass : p = s.passOne m := passOne_at s t m
  rw [if_pos (by simp [hstate, hsearch, hpass, hnow, hpassed])]
  obtain ⟨z, late, hz⟩ := zoomFrom_eq v ended
  have hslots : (if m'.nocand then u.frameCount m'.frame 2 1 else u).grn.slots = u.grn.slots := by
    split
    · exact frameCount_slots u _ _ _
    · rfl
  refine ⟨m', ?_, ?_⟩
  · rw [hslots]
    exact tabFind_setMeas_self _ _ _
  · simp only [m', hz]
    exact ⟨congrArg some hnow, search_length_le _ _ _, rfl, rfl⟩

/-! ## The close (R187, R194) -/

/-- A measurement closes at the present instant, its baseline that of the pulses that contribute. -/
theorem doMeasurementClose_closes {s : State} {slot : Fin 4096} {t : Nat} {m : Meas} (h : tabFind slot.val s.grn.slots = some m)
    (hopen : m.state = 1 ∨ m.state = 2) (hpassed : m.passed m.pulses (max s.now t) = true) :
    tabFind slot.val (doMeasurementClose slot t s).grn.slots =
      some { m with state := 3, closedAt := max s.now t, base := s.baseline m m.used } := by
  unfold doMeasurementClose
  dsimp only
  rw [State.at_grn, h]
  dsimp only
  rw [State.at_now, baseline_at, if_pos (by simpa [Meas.open_, hpassed] using hopen)]
  have hgrn : ∀ (u : State) (f : Nat), ((u.publishFrame f).noteBacklog f).grn = u.grn := fun u f =>
    (noteBacklog_part (π := .histograms) (by decide) _ f).trans (publishFrame_part (π := .histograms) u f)
  rw [hgrn, frameCount_slots]
  exact tabFind_setMeas_self _ _ _

/-! ## A clearing slot (R187) -/

theorem doSlotCleared_frees {s : State} {slot : Fin 4096} {m : Meas} (t : Nat) (h : tabFind slot.val s.grn.slots = some m)
    (hstate : m.state = 5) : tabFind slot.val (doSlotCleared slot t s).grn.slots = none := by
  unfold doSlotCleared
  dsimp only
  rw [State.at_grn, h]
  dsimp only
  rw [if_pos hstate]
  exact tabFind_tabDel_self _ _

/-- Settles O27: each step of a measurement's life by what it leaves in the slot. -/
theorem measurementsClose : Obligations.MeasurementsClose := by
  refine ⟨?_, ?_, ?_⟩
  · intro s slot t m h hstate hsearch hpassed
    obtain ⟨m', hfound, hends⟩ := doCandidateSearch_ends h hstate hsearch hpassed
    exact ⟨_, m', rfl, by rw [State.settle_grn, hfound], hends⟩
  · intro s slot t m h hopen hpassed
    have hclosed := doMeasurementClose_closes h hopen hpassed
    rw [← State.settle_grn] at hclosed
    exact ⟨_, _, rfl, hclosed, rfl, rfl, rfl, rfl, rfl⟩
  · intro s slot t m h hstate
    exact ⟨_, rfl, by rw [State.settle_grn, doSlotCleared_frees t h hstate]⟩

end Sys2Proof.Machine
end

section
/-! PROOFS. What stands of the triggers of R66 at the end of a command: everything that stood. -/

namespace Sys2Proof.Machine

/-- The triggers that stand in `t` are those of `s`. -/
structure State.StandsAs (s t : State) : Prop where
  standing : t.sys.standing = s.sys.standing

namespace State.StandsAs

variable {s t u : State}

theorem refl (s : State) : s.StandsAs s := ⟨rfl⟩

theorem trans (h : s.StandsAs t) (k : t.StandsAs u) : s.StandsAs u := ⟨k.standing.trans h.standing⟩

theorem of_sys (h : t.sys = s.sys) : s.StandsAs t := ⟨congrArg SysState.standing h⟩

/-- A step made from a state with the same triggers. -/
theorem before (k : t.StandsAs u) (h : t.sys = s.sys) : s.StandsAs u := (of_sys h).trans k

theorem ite {c : Prop} [Decidable c] {a b : State} (ha : s.StandsAs a) (hb : s.StandsAs b) : s.StandsAs (if c then a else b) := by
  split
  · exact ha
  · exact hb

theorem foldl {β : Type} (l : List β) (g : State → β → State) (hg : ∀ (s : State) b, s.StandsAs (g s b)) (s : State) :
    s.StandsAs (l.foldl g s) := by
  induction l generalizing s with
  | nil => exact refl s
  | cons b l ih => exact (hg s b).trans (ih _)

end State.StandsAs

/-- A write to a register. (The state is taken apart once, for the kernel.) -/
theorem setF_standsAs (s : State) (f : Field) (v : Nat) : s.StandsAs (s.setF f v) := .of_sys (by cases s; rfl)

theorem emit_standsAs (s : State) (o : Out) : s.StandsAs (s.emit o) := .of_sys rfl

theorem recPulse_standsAs (s : State) (input : Nat) (instant : Int) : s.StandsAs (s.recPulse input instant) := by
  unfold State.recPulse
  exact .ite (.of_sys rfl) (.refl s)

theorem recPush_standsAs (s : State) (src : Nat) (bytes : List Byte) : s.StandsAs (s.recPush src bytes) := by
  unfold State.recPush
  exact .ite (.of_sys rfl) (.refl s)

theorem emitEvent_standsAs (s : State) (kind page code a b count : Nat) : s.StandsAs (s.emitEvent kind page code a b count) := by
  have hmatch : s.StandsAs (s.recMatch kind page code) := by
    unfold State.recMatch
    exact .foldl _ _ (fun s k => .ite (recPulse_standsAs _ _ _) (.refl s)) s
  have hcommit : ∀ (u : State) (bytes : List Byte), u.StandsAs (u.commitRecord 5 6 bytes) := by
    intro u bytes
    unfold State.commitRecord State.commitSel
    dsimp only
    split
    · exact (recPush_standsAs _ _ _).before rfl
    · exact .of_sys rfl
  exact hmatch.trans (hcommit _ _)

theorem raiseEvt_standsAs (s : State) (p bit : Nat) : s.StandsAs (s.raiseEvt p bit) := by
  unfold State.raiseEvt
  refine .ite (.refl s) (.ite ⟨rfl⟩ (.ite ?_ (.of_sys rfl)))
  exact ((setF_standsAs s (H.ISR p) _).trans (emitEvent_standsAs _ _ _ _ _ _ _)).trans ⟨rfl⟩

/-! ## The sequencer (R432) -/

theorem recTrigger_standsAs (s : State) (i : Int) : s.StandsAs (s.recTrigger i) := by
  unfold State.recTrigger
  split
  · refine .ite (.trans ?_ (emit_standsAs _ _)) ?_
    all_goals
      refine .trans (.trans (.trans (.trans (.trans ?_ (setF_standsAs _ _ _)) (setF_standsAs _ _ _)) (setF_standsAs _ _ _))
        (setF_standsAs _ _ _)) (raiseEvt_standsAs _ _ _)
      exact .of_sys rfl
  · exact setF_standsAs _ _ _
  · exact setF_standsAs _ _ _
  · exact .refl s

theorem sendFrame_standsAs (s : State) (p kind : Nat) (body : List Byte) : s.StandsAs (s.sendFrame p kind body) := by
  unfold State.sendFrame
  exact .ite (.of_sys rfl) (.refl s)

theorem sendChainTrigger_standsAs (s : State) (i : Int) : s.StandsAs (s.sendChainTrigger i) := by
  unfold State.sendChainTrigger
  refine .ite (.trans (.trans ?_ (sendFrame_standsAs _ _ _ _)) (sendFrame_standsAs _ _ _ _)) (.refl s)
  exact (setF_standsAs _ _ _).before rfl

theorem seqAction_standsAs (s : State) (act : Nat) (i : Int) : s.StandsAs (s.seqAction act i) := by
  unfold State.seqAction
  split
  case h_1 => exact recTrigger_standsAs s i
  case h_2 => exact (recTrigger_standsAs s i).trans (sendChainTrigger_standsAs _ i)
  case h_3 => exact sendChainTrigger_standsAs s i
  case h_4 | h_5 | h_6 | h_7 => exact setF_standsAs _ _ _
  case h_12 => exact .foldl _ _ (fun u k => setF_standsAs u _ 0) s
  all_goals exact .of_sys rfl

theorem seqStep_standsAs (s : State) : s.StandsAs s.seqStep := by
  unfold State.seqStep
  exact .ite ((seqAction_standsAs _ _ _).trans (setF_standsAs _ _ _))
    (.ite ((seqAction_standsAs _ _ _).trans (setF_standsAs _ _ _)) (.refl s))

theorem runPulses_standsAs (n : Nat) (s : State) : s.StandsAs (State.runPulses n s) := by
  induction n generalizing s with
  | zero => exact .of_sys rfl
  | succ n ih =>
    unfold State.runPulses
    exact .ite (.refl s) ((seqStep_standsAs s).trans ((ih _).before rfl))

/-- A trigger that stands when a command's work is done stands at its end. -/
theorem settle_standing (s : State) : s.settle.sys.standing = s.sys.standing := (runPulses_standsAs 8 s).standing

/-! ## A trigger that arises -/

/-- A trigger of a spare pool stands once it has arisen (R66). -/
theorem poolTrigger_stands (s : State) (page cause : Nat) : (s.poolTrigger page cause).sys.standing.contains (page, cause) = true := by
  have hstand : ∀ u : State, (u.stand page cause).sys.standing.contains (page, cause) = true := by
    intro u
    unfold State.stand
    extract_lets v
    split
    · assumption
    · simp
  have hnote : ∀ u : State, (u.noteArisen cause).sys.standing = u.sys.standing := by
    intro u
    unfold State.noteArisen
    extract_lets _ v
    split
    · exact (congrArg SysState.standing (noteCauses_sys v [cause]) :)
    · rfl
  obtain ⟨u, he, -⟩ := poolTrigger_eq s page cause
  rw [he, State.standTrigger, hnote]
  exact hstand u

end Sys2Proof.Machine
end

section
/-! PROOFS. Carafe tiles (O28): replacement (R202, R204, R353) and uncorrectable errors (R203). -/

namespace Sys2Proof.Machine

/-! ## The registers of the engines

The registers of each engine, as its number selects them, are written by no event, no spare pool and no end of a command. -/

abbrev engineWord (a : Nat) : Prop := 0x1000000 ≤ a ∧ 0xE100 ≤ a % 0x1000000 ∧ a % 0x1000000 < 0xF000

theorem engineWord_inst {f : Field} (h : 0xE100 ≤ f.addr ∧ f.addr < 0xF000) (e : Nat) : engineWord (f.inst e).addr := by
  simp only [engineWord, Field.inst]
  omega

theorem tileOf_congr {s t : State} {e : Nat} (h : t.getF (F.GRN_ENG_TMAP.MAP.inst e) = s.getF (F.GRN_ENG_TMAP.MAP.inst e)) (i : Nat) :
    t.tileOf e i = s.tileOf e i := by
  rw [State.tileOf, State.tileOf, h]

section
variable {f : Field} (hf : engineWord f.addr)
include hf

theorem settle_getF_engine (s : State) : s.settle.getF f = s.getF f := State.settle_getF s f (by omega)

theorem raiseEvt_getF_engine (s : State) (p bit : Nat) (_hp : p < 28) : (s.raiseEvt p bit).getF f = s.getF f :=
  State.raiseEvt_getF s p bit f (by omega)

theorem recErr_getF_engine (s : State) (code addr : Nat) : (s.recErr 14 code addr).getF f = s.getF f :=
  State.recErr_getF s 14 code addr f (by omega)

/-- A word below those of the engines. -/
theorem setF_getF_engine (s : State) (g : Field) (v : Nat) (hg : g.addr < 0x1000000) : (s.setF g v).getF f = s.getF f :=
  getF_setF_other s g f v (by omega)

/-- The selected words of the pools stand on another page. -/
theorem setF_pool_getF_engine (s : State) (lsb width k v : Nat) : (s.setF (Field.inst ⟨0x6144, lsb, width⟩ k) v).getF f = s.getF f :=
  getF_setF_other s _ f v (by simp only [Field.inst]; omega)

theorem poolTrigger_getF_engine (s : State) (cause : Nat) : (s.poolTrigger 14 cause).getF f = s.getF f := by
  refine (standTrigger_getF _ 14 cause (by omega)).trans ?_
  simp only [poolKind]
  split
  · split
    · rfl
    · exact (raiseEvt_getF_engine hf _ 6 2 (by decide)).trans (setF_getF_engine hf s F.CAL_EXHAUST.KINDS _ (by decide))
  · exact setF_pool_getF_engine hf s 8 8 3 _

theorem spareTaken_getF_engine (s : State) : (s.spareTaken 14).getF f = s.getF f :=
  (raiseEvt_getF_engine hf (s.raiseEvt 14 29) 6 0 (by decide)).trans (raiseEvt_getF_engine hf s 14 29 (by decide))

theorem staysWorn_getF_engine (s : State) (kind : Nat) : (s.staysWorn kind).getF f = s.getF f := setF_pool_getF_engine hf s 1 1 kind 1

end

/-! ## A drained tile (R202, R204, R353) -/

/-- Logical tile `i` is given physical tile `v` in place of `p`, which is marked failed and drains no more. -/
def State.replaceTile (s : State) (e i p v : Nat) : State :=
  let s := (s.setBit (F.GRN_ENG_TSTAT.DRAIN.inst e) p false).setBit (F.GRN_ENG_TSTAT.FAILED.inst e) p true
  s.setF (F.GRN_ENG_TMAP.MAP.inst e) (withField (4 * i) 4 (s.getF (F.GRN_ENG_TMAP.MAP.inst e)) v)

/-- What the registers of an engine show of it. -/
theorem replaceTile_shows (s : State) (e : Nat) {i p v : Nat} (hi : i < 8) (hp : p < 9) (hv : v < 16) :
    (s.replaceTile e i p v).tileOf e i = v ∧ (s.replaceTile e i p v).bitF (F.GRN_ENG_TSTAT.FAILED.inst e) p = true ∧
      (s.replaceTile e i p v).bitF (F.GRN_ENG_TSTAT.DRAIN.inst e) p = false := by
  have hne := inst_addr_ne_inst (f := F.GRN_ENG_TSTAT.FAILED) (g := F.GRN_ENG_TMAP.MAP) (by decide) (by decide) (by decide) e e
  unfold State.replaceTile
  extract_lets u
  have hmap : withField (4 * i) 4 (u.getF (F.GRN_ENG_TMAP.MAP.inst e)) v < 2 ^ 32 :=
    withField_lt v (getF_lt u (F.GRN_ENG_TMAP.MAP.inst e)) (by omega)
  refine ⟨?_, ?_, ?_⟩
  · rw [State.tileOf, getF_setF_of_lt u (F.GRN_ENG_TMAP.MAP.inst e) (by simp [Field.inst]) hmap, fieldOf_withField_self]
    exact Nat.mod_eq_of_lt hv
  · rw [State.bitF_eq, getF_setF_other u _ _ _ hne]
    exact testBit_getF_setBit _ (F.GRN_ENG_TSTAT.FAILED.inst e) p true (by simp [Field.inst]) hp
  · rw [State.bitF_eq, getF_setF_other u _ (F.GRN_ENG_TSTAT.DRAIN.inst e) _ hne,
      getF_setBit_beside _ _ _ _ _ (by simp [Field.inst]) (by simp [Field.inst])]
    exact testBit_getF_setBit _ (F.GRN_ENG_TSTAT.DRAIN.inst e) p false (by simp [Field.inst]) hp

/-- A command shows a replacement when it has written the registers of the engine no otherwise. -/
theorem settle_shows_replaced {s u : State} {e i p v : Nat} (hi : i < 8) (hp : p < 9) (hv : v < 16)
    (h : ∀ {f : Field}, engineWord f.addr → u.getF f = (s.replaceTile e i p v).getF f) :
    u.settle.tileOf e i = v ∧ u.settle.bitF (F.GRN_ENG_TSTAT.FAILED.inst e) p = true ∧
      u.settle.bitF (F.GRN_ENG_TSTAT.DRAIN.inst e) p = false := by
  have hend : ∀ {f : Field}, engineWord f.addr → u.settle.getF f = (s.replaceTile e i p v).getF f := fun hf =>
    (settle_getF_engine hf u).trans (h hf)
  rw [tileOf_congr (hend (engineWord_inst (by decide) e)), State.bitF_eq, State.bitF_eq, hend (engineWord_inst (by decide) e),
    hend (engineWord_inst (by decide) e)]
  exact replaceTile_shows s e hi hp hv

/-- With a spare to give, what follows the replacement writes no register of the engine. -/
theorem remapTile_spare_getF {s : State} {e : Nat} (hspare : s.spareTile e = true) (i : Nat) {f : Field} (hf : engineWord f.addr) :
    (s.remapTile e i).getF f = (s.replaceTile e i (s.tileOf e i) 8).getF f := by
  unfold State.remapTile
  extract_lets p map spare failed a b c first d x
  rw [if_neg (by simp [spare, hspare]), if_pos hspare]
  refine (poolTrigger_getF_engine hf _ 0x40).trans ((raiseEvt_getF_engine hf _ 14 5 (by decide)).trans ((spareTaken_getF_engine hf _).trans
    ((raiseEvt_getF_engine hf x 14 1 (by decide)).trans ((setF_getF_engine hf d (H.SPARE_LEFT 14) _ (by decide)).trans
      ((setF_getF_engine hf _ (H.SPARE_USED 14) _ (by decide)).trans ?_)))))
  exact setF_getF_engine hf c (H.SPARE_MAP 14) _ (by decide)

/-- Without one, a failed tile leaves its place unmapped, and the trigger of the exhausted pool stands. -/
theorem remapTile_exhausted_getF {s : State} {e i : Nat} (hspare : s.spareTile e = false)
    (hfailed : s.bitF (F.GRN_ENG_TSTAT.FAILED.inst e) (s.tileOf e i) = true) {f : Field} (hf : engineWord f.addr) :
    (s.remapTile e i).getF f = (s.replaceTile e i (s.tileOf e i) 15).getF f := by
  unfold State.remapTile
  extract_lets p map spare failed a b c first d x y
  rw [if_neg (by simp only [failed, p, hfailed, Bool.not_true, Bool.and_false, Bool.false_eq_true, not_false_eq_true]),
    if_neg (by simp only [spare, hspare, Bool.false_eq_true, not_false_eq_true])]
  refine (poolTrigger_getF_engine hf _ 0x41).trans ((recordDue_getF _ f).trans ((raiseEvt_getF_engine hf _ 14 29 (by decide)).trans ?_))
  exact setF_getF_engine hf y (H.SPARE_MAP 14) _ (by decide)

theorem remapTile_exhausted_stands {s : State} {e i : Nat} (hspare : s.spareTile e = false)
    (hfailed : s.bitF (F.GRN_ENG_TSTAT.FAILED.inst e) (s.tileOf e i) = true) :
    (s.remapTile e i).sys.standing.contains (14, 0x41) = true := by
  unfold State.remapTile
  extract_lets p map spare failed
  rw [if_neg (by simp only [failed, p, hfailed, Bool.not_true, Bool.and_false, Bool.false_eq_true, not_false_eq_true]),
    if_neg (by simp only [spare, hspare, Bool.false_eq_true, not_false_eq_true])]
  exact poolTrigger_stands _ 14 0x41

/-- A worn tile that has not failed only drains no more. -/
theorem remapTile_worn {s : State} {e i : Nat} (hspare : s.spareTile e = false)
    (hfailed : s.bitF (F.GRN_ENG_TSTAT.FAILED.inst e) (s.tileOf e i) = false) :
    s.remapTile e i = (s.setBit (F.GRN_ENG_TSTAT.DRAIN.inst e) (s.tileOf e i) false).staysWorn 3 := by
  unfold State.remapTile
  extract_lets p map spare failed
  exact if_pos (by simp only [spare, failed, p, hspare, hfailed, Bool.not_false, Bool.and_self])

/-- What is shown of a worn tile: it serves on and has not failed. -/
theorem settle_shows_worn (s : State) (e i : Nat) {p : Nat} (hp : p < 9) :
    let u := ((s.setBit (F.GRN_ENG_TSTAT.DRAIN.inst e) p false).staysWorn 3).settle
    u.tileOf e i = s.tileOf e i ∧ u.bitF (F.GRN_ENG_TSTAT.FAILED.inst e) p = s.bitF (F.GRN_ENG_TSTAT.FAILED.inst e) p ∧
      u.bitF (F.GRN_ENG_TSTAT.DRAIN.inst e) p = false := by
  intro u
  have hu : ∀ {f : Field}, engineWord f.addr → u.getF f = (s.setBit (F.GRN_ENG_TSTAT.DRAIN.inst e) p false).getF f := fun hf =>
    (settle_getF_engine hf _).trans (staysWorn_getF_engine hf _ 3)
  have hne := inst_addr_ne_inst (f := F.GRN_ENG_TMAP.MAP) (g := F.GRN_ENG_TSTAT.DRAIN) (by decide) (by decide) (by decide) e e
  refine ⟨tileOf_congr ((hu (engineWord_inst (by decide) e)).trans (getF_setF_other s _ _ _ hne)) i, ?_, ?_⟩
  · rw [State.bitF_eq, hu (engineWord_inst (by decide) e), getF_setBit_beside s (F.GRN_ENG_TSTAT.DRAIN.inst e)
      (F.GRN_ENG_TSTAT.FAILED.inst e) p false (by simp [Field.inst]) (by simp [Field.inst]), ← State.bitF_eq]
  · rw [State.bitF_eq, hu (engineWord_inst (by decide) e)]
    exact testBit_getF_setBit s (F.GRN_ENG_TSTAT.DRAIN.inst e) p false (by simp [Field.inst]) hp

/-- Physical tile `p`, of logical tile `i` of a released engine, has drained: none of its slots is in use. -/
structure State.TileDrained (s : State) (e i p : Nat) : Prop where
  on : s.on (12 + e) = true
  mapped : s.tileOf e i = p
  physical : p < 9
  draining : s.bitF (F.GRN_ENG_TSTAT.DRAIN.inst e) p = true
  empty : s.tileEmpty e i = true

theorem tileOf_at (s : State) (t e i : Nat) : (s.at t).tileOf e i = s.tileOf e i := tileOf_congr (State.at_getF s t _) i

theorem bitF_at (s : State) (t : Nat) (f : Field) (i : Nat) : (s.at t).bitF f i = s.bitF f i := by
  rw [State.bitF_eq, State.at_getF, ← State.bitF_eq]

theorem spareTile_at (s : State) (t e : Nat) : (s.at t).spareTile e = s.spareTile e := by
  simp only [State.spareTile, tileOf_at, bitF_at]

theorem tileEmpty_at (s : State) (t e i : Nat) : (s.at t).tileEmpty e i = s.tileEmpty e i := by
  obtain ⟨x, y, h⟩ := at_eq s t
  rw [h]
  rfl

theorem State.TileDrained.at {s : State} {e i p : Nat} (h : s.TileDrained e i p) (t : Nat) : (s.at t).TileDrained e i p where
  on := by rw [State.at_on, h.on]
  mapped := by rw [tileOf_at, h.mapped]
  physical := h.physical
  draining := by rw [bitF_at, h.draining]
  empty := by rw [tileEmpty_at, h.empty]

theorem doTileRemap_remaps {s : State} {engine tile : Fin 8} {p : Nat} (t : Nat) (h : s.TileDrained engine tile p) :
    doTileRemap engine tile t s = (s.at t).remapTile engine tile := by
  have h' := h.at t
  have hp : p ≠ 15 := by have := h.physical; omega
  exact if_pos (by simp only [h'.mapped, h'.on, h'.draining, h'.empty, hp, ne_eq, not_false_eq_true, decide_true, Bool.and_self])

/-! ## An uncorrectable error (R203) -/

theorem faultTile_getF_engine {f : Field} (hf : engineWord f.addr) (s : State) (e i : Nat) : (s.faultTile e i).getF f = s.getF f := by
  unfold State.faultTile
  extract_lets hit bad _ u v
  have hv : v.getF f = s.getF f := by
    refine (foldl_getF (fun w x => ?_) bad u).trans (getF_of_regs rfl f)
    exact getF_of_regs rfl f
  split
  · exact hv
  · exact (raiseEvt_getF_engine hf v 14 6 (by decide)).trans hv

/-- In a mapped tile: it is counted, and the tile is marked failed and drains. -/
theorem doCarafeUncorrectable_marks {s : State} {slot : Fin 4096} {t p : Nat} (hon : s.on (12 + slot.val / 512) = true)
    (hpage : s.on 12 = true) (hmap : s.tileOf (slot.val / 512) (slot.val % 512 / 64) = p) (hp : p < 9) :
    (doCarafeUncorrectable slot false t s).bitF (F.GRN_ENG_TSTAT.FAILED.inst (slot.val / 512)) p = true ∧
      (doCarafeUncorrectable slot false t s).bitF (F.GRN_ENG_TSTAT.DRAIN.inst (slot.val / 512)) p = true ∧
      (doCarafeUncorrectable slot false t s).getF (F.GRN_ENG_ERR.UNCORR.inst (slot.val / 512)) =
        min (s.getF (F.GRN_ENG_ERR.UNCORR.inst (slot.val / 512)) + 1) (2 ^ F.GRN_ENG_ERR.UNCORR.width - 1) := by
  have hp' : (s.at t).tileOf (slot.val / 512) (slot.val % 512 / 64) = p := by rw [tileOf_at, hmap]
  unfold doCarafeUncorrectable
  extract_lets +onlyGivenNames u e i q a
  have hq : q = p := hp'
  rw [if_neg (by simp only [u, e, State.at_on, hon, hpage, Bool.not_true, Bool.or_self, Bool.false_eq_true, not_false_eq_true]),
    if_neg Bool.false_ne_true, if_neg (by omega), hq]
  extract_lets first b c d
  have hstat : ∀ (lsb width : Nat), engineWord (Field.inst ⟨0xE12C, lsb, width⟩ e).addr := fun _ _ =>
    engineWord_inst (show 0xE100 ≤ 0xE12C ∧ 0xE12C < 0xF000 by decide) e
  have hcount : engineWord (F.GRN_ENG_ERR.UNCORR.inst e).addr := engineWord_inst (by decide) e
  have hne := inst_addr_ne_inst (f := F.GRN_ENG_ERR.UNCORR) (g := F.GRN_ENG_TSTAT.FAILED) (by decide) (by decide) (by decide) e e
  have hb : ∀ {f : Field}, engineWord f.addr → b.getF f = (a.setBit (F.GRN_ENG_TSTAT.FAILED.inst e) p true).getF f := fun hf =>
    raiseEvt_getF_engine hf _ 14 2 (by decide)
  have hc : ∀ {f : Field}, engineWord f.addr → c.getF f = b.getF f := fun hf =>
    (recErr_getF_engine hf _ _ _).trans (faultTile_getF_engine hf b e i)
  have hd : ∀ {f : Field}, engineWord f.addr → d.getF f = (c.setBit (F.GRN_ENG_TSTAT.DRAIN.inst e) p true).getF f := fun hf =>
    raiseEvt_getF_engine hf _ 14 0 (by decide)
  have hlast : ∀ {f : Field}, engineWord f.addr → (if d.spareTile e then d else d.poolTrigger 14 0x41).getF f = d.getF f := by
    intro f hf
    split
    · rfl
    · exact poolTrigger_getF_engine hf d 0x41
  refine ⟨?_, ?_, ?_⟩
  · rw [State.bitF_eq, hlast (hstat 0 9), hd (hstat 0 9), getF_setBit_beside c (F.GRN_ENG_TSTAT.DRAIN.inst e) (F.GRN_ENG_TSTAT.FAILED.inst e)
      p true (by simp [Field.inst]) (by simp [Field.inst]), hc (hstat 0 9), hb (hstat 0 9)]
    exact testBit_getF_setBit a (F.GRN_ENG_TSTAT.FAILED.inst e) p true (by simp [Field.inst]) hp
  · rw [State.bitF_eq, hlast (hstat 16 9), hd (hstat 16 9)]
    exact testBit_getF_setBit c (F.GRN_ENG_TSTAT.DRAIN.inst e) p true (by simp [Field.inst]) hp
  · rw [hlast hcount, hd hcount, getF_setBit_beside c (F.GRN_ENG_TSTAT.DRAIN.inst e) _ p true (by simp [Field.inst]) (.inl hne), hc hcount,
      hb hcount, getF_setBit_beside a (F.GRN_ENG_TSTAT.FAILED.inst e) _ p true (by simp [Field.inst]) (.inl hne), ← State.at_getF s t]
    exact getF_setF_min u (F.GRN_ENG_ERR.UNCORR.inst e) _ (by simp [Field.inst])

/-- A count in a register leaves the slots. (The state is taken apart once, for the kernel.) -/
theorem bump_keepsGrn (s : State) (f : Field) (n : Nat) : (s.bump f n).grn = s.grn := by cases s; rfl

/-- In the zoom share of a slot in use: its measurement has no zoom histogram any more. -/
theorem doCarafeUncorrectable_zoom {s : State} {slot : Fin 4096} {m : Meas} (t : Nat) (hon : s.on (12 + slot.val / 512) = true)
    (hpage : s.on 12 = true) (hslot : tabFind slot.val s.grn.slots = some m) (hstate : m.state ≠ 5) :
    tabFind slot.val (doCarafeUncorrectable slot true t s).grn.slots = some { m with zoomFault := true, zoom := [] } := by
  unfold doCarafeUncorrectable
  extract_lets u e i p a b
  have hgrn : a.grn = s.grn := (bump_keepsGrn u _ 1).trans (State.at_grn s t)
  have ha : tabFind slot.val a.grn.slots = some m := by rw [hgrn, hslot]
  have hb : b = a.setMeas slot { m with zoomFault := true, zoom := [] } := by
    simp only [b, ha]
    exact if_neg hstate
  rw [if_neg (by simp only [u, e, State.at_on, hon, hpage, Bool.not_true, Bool.or_self, Bool.false_eq_true, not_false_eq_true]),
    if_pos rfl, State.recErr_grn, State.raiseEvt_grn, hb]
  exact tabFind_setMeas_self _ _ _

/-- Settles O28: each command by what it leaves in the registers of the engine, in the standing triggers and in the slot. -/
theorem carafeTiles : Obligations.CarafeTiles := by
  refine ⟨?_, ?_, ?_, ?_, ?_⟩
  · intro s engine tile t p hon hmap hp hdrain hempty hspare
    have hmap' : (s.at t).tileOf engine tile = p := by rw [tileOf_at, hmap]
    refine ⟨_, rfl, ?_⟩
    rw [doTileRemap_remaps t ⟨hon, hmap, hp, hdrain, hempty⟩]
    exact settle_shows_replaced tile.isLt hp (by decide) fun hf => by rw [remapTile_spare_getF (by rw [spareTile_at, hspare]) tile hf, hmap']
  · intro s engine tile t p hon hmap hp hdrain hempty hspare hfailed
    have hmap' : (s.at t).tileOf engine tile = p := by rw [tileOf_at, hmap]
    have hspare' : (s.at t).spareTile engine = false := by rw [spareTile_at, hspare]
    have hfailed' : (s.at t).bitF (F.GRN_ENG_TSTAT.FAILED.inst engine) ((s.at t).tileOf engine tile) = true := by rw [hmap', bitF_at, hfailed]
    refine ⟨_, rfl, ?_⟩
    rw [doTileRemap_remaps t ⟨hon, hmap, hp, hdrain, hempty⟩, settle_standing]
    obtain ⟨htile, hfail, hdone⟩ := settle_shows_replaced tile.isLt hp (by decide : 15 < 16)
      fun hf => by rw [remapTile_exhausted_getF hspare' hfailed' hf, hmap']
    exact ⟨htile, hfail, hdone, remapTile_exhausted_stands hspare' hfailed'⟩
  · intro s engine tile t p hon hmap hp hdrain hempty hspare hfailed
    have hmap' : (s.at t).tileOf engine tile = p := by rw [tileOf_at, hmap]
    obtain ⟨htile, hfail, hdone⟩ := settle_shows_worn (s.at t) engine tile hp
    refine ⟨_, rfl, ?_⟩
    rw [doTileRemap_remaps t ⟨hon, hmap, hp, hdrain, hempty⟩, remapTile_worn (by rw [spareTile_at, hspare]) (by rw [hmap', bitF_at, hfailed]),
      hmap']
    exact ⟨htile.trans hmap', by rw [hfail, bitF_at, hfailed], hdone⟩
  · intro s slot t p hon hpage hmap hp
    refine ⟨_, rfl, ?_⟩
    rw [State.bitF_eq, State.bitF_eq, settle_getF_engine (engineWord_inst (by decide) _), settle_getF_engine (engineWord_inst (by decide) _),
      settle_getF_engine (engineWord_inst (by decide) _)]
    exact doCarafeUncorrectable_marks hon hpage hmap hp
  · intro s slot t m hon hpage hslot hstate
    exact ⟨_, rfl, by rw [State.settle_grn, doCarafeUncorrectable_zoom t hon hpage hslot hstate]⟩

end Sys2Proof.Machine
end

section
/-! PROOFS. Extraction of a train (O29, R187, R207) and mount angles that go stale (R220). -/

namespace Sys2Proof.Machine

/-! ## A slot whose measurement has been extracted (R187)

It is clearing, or in `HELD` where its measurement has a `HIST` record. No record takes a slot out of this condition. -/

def State.SlotFreed (s : State) (n : Nat) (hist : Bool) : Prop :=
  ∃ m, tabFind n s.grn.slots = some m ∧ (m.state = 5 ∨ (m.state = 4 ∧ hist = true))

theorem State.SlotFreed.congr {s t : State} {n : Nat} {hist : Bool} (h : s.SlotFreed n hist) (hslots : t.grn.slots = s.grn.slots) :
    t.SlotFreed n hist := by
  rwa [State.SlotFreed, hslots]

/-- A slot that is set to clearing, or any other slot that is set, leaves the condition. -/
theorem State.SlotFreed.setMeas {s : State} {n : Nat} {hist : Bool} (h : s.SlotFreed n hist) {k : Nat} {m : Meas} (hm : k = n → m.state = 5) :
    (s.setMeas k m).SlotFreed n hist := by
  by_cases hk : k = n
  · subst hk
    exact ⟨m, tabFind_setMeas_self s k m, .inl (hm rfl)⟩
  · obtain ⟨m', hfound, hstate⟩ := h
    exact ⟨m', (tabFind_tabSet_other m _ (Ne.symm hk)).trans hfound, hstate⟩

section
variable {s : State} {n : Nat} {hist : Bool} (h : s.SlotFreed n hist)
include h

theorem State.SlotFreed.commitHeld (r : HeldRec) : (s.commitHeld r).SlotFreed n hist := by
  unfold State.commitHeld
  extract_lets rc u
  have hu : u.SlotFreed n hist := h.congr (congrArg GrindState.slots (commitSel_part (π := .histograms) s _ _ _ _))
  split
  · split
    · split
      · exact hu.setMeas (fun _ => rfl)
      · exact hu
    · exact hu
  · exact hu

theorem State.SlotFreed.putRecord (r : HeldRec) : (s.putRecord r).SlotFreed n hist := by
  unfold State.putRecord
  split
  · exact h.commitHeld r
  · exact h.congr rfl

theorem State.SlotFreed.putReturn (m : Meas) (r : Return) (idx : Nat) : (s.putReturn m r idx).SlotFreed n hist := by
  have hevt : ∀ (u : State) (p bit : Nat), u.SlotFreed n hist → (u.raiseEvt p bit).SlotFreed n hist := fun u p bit hu =>
    hu.congr (congrArg GrindState.slots (State.raiseEvt_grn u p bit))
  unfold State.putReturn
  extract_lets u
  have hu : u.SlotFreed n hist := h.congr rfl
  split
  · exact hevt _ 15 3 (hu.congr rfl)
  · split
    extract_lets v
    have hv : v.SlotFreed n hist := by
      simp only [v]
      split
      · exact hevt _ 15 2 (hu.congr rfl)
      · exact hu
    split
    · exact (hv.putRecord _).putRecord _
    · exact hv

theorem State.SlotFreed.putReturns (m : Meas) (l : List (Return × Nat)) :
    (l.foldl (fun s r => s.putReturn m r.1 r.2) s).SlotFreed n hist := by
  induction l generalizing s with
  | nil => exact h
  | cons r l ih => exact ih (h.putReturn m r.1 r.2)

/-- The `HIST` record of another slot's measurement. -/
theorem State.SlotFreed.putHist {k : Nat} (hk : k ≠ n) (m : Meas) : (s.putHist k m).SlotFreed n hist := by
  unfold State.putHist
  split
  · extract_lets u r v
    have hv : v.SlotFreed n hist := (h.setMeas (fun hkn => absurd hkn hk)).putRecord _
    split
    · exact hv.putRecord _
    · exact hv
  · exact h.setMeas (fun hkn => absurd hkn hk)

end

/-- The slot of a measurement that is extracted is clearing, or waits for its `HIST` record. -/
theorem putHist_frees (s : State) (n : Nat) (m : Meas) : (s.putHist n m).SlotFreed n m.hist := by
  unfold State.putHist
  split
  · next hhist =>
    extract_lets u r v
    have hu : u.SlotFreed n m.hist := ⟨_, tabFind_setMeas_self s n _, .inr ⟨rfl, hhist⟩⟩
    split
    · exact (hu.putRecord _).putRecord _
    · exact hu.putRecord _
  · exact ⟨_, tabFind_setMeas_self s n _, .inl rfl⟩

/-! ## Extraction of one measurement -/

theorem extractOne_frees (s : State) (all : List (Nat × Meas × List Return)) (x : Nat × Meas × List Return) :
    (s.extractOne all x).SlotFreed x.1 x.2.1.hist := by
  obtain ⟨n, m, raw⟩ := x
  exact (putHist_frees _ n m).congr rfl

/-- Extraction of another slot's measurement. -/
theorem State.SlotFreed.extractOne {s : State} {n : Nat} {hist : Bool} (h : s.SlotFreed n hist) (all : List (Nat × Meas × List Return))
    {x : Nat × Meas × List Return} (hx : x.1 ≠ n) : (s.extractOne all x).SlotFreed n hist := by
  obtain ⟨k, m, raw⟩ := x
  unfold State.extractOne
  dsimp -zeta only
  extract_lets c others rs u v
  have hu : u.SlotFreed n hist := h.putReturns m _
  have hgrn : (((u.putDescriptor m rs).calSample m rs).noteEcho m rs).grn = u.grn :=
    (noteEcho_part (π := .histograms) (by decide) _ m rs).trans ((calSample_part (π := .histograms) (by decide) _ m rs).trans
      (putDescriptor_part (π := .histograms) (by decide) u m rs))
  have hv : v.SlotFreed n hist := (hu.congr (congrArg GrindState.slots hgrn)).putHist hx m
  exact hv.congr rfl

theorem State.SlotFreed.extractAll {s : State} {n : Nat} {hist : Bool} (h : s.SlotFreed n hist) (all : List (Nat × Meas × List Return))
    {l : List (Nat × Meas × List Return)} (hl : ∀ x ∈ l, x.1 ≠ n) :
    (l.foldl (fun s x => s.extractOne all x) s).SlotFreed n hist := by
  induction l generalizing s with
  | nil => exact h
  | cons x l ih => exact ih (h.extractOne all (hl x List.mem_cons_self)) (fun y hy => hl y (List.mem_cons_of_mem _ hy))

/-- Extraction of measurements in different slots frees them all. -/
theorem extractAll_frees (all : List (Nat × Meas × List Return)) {l : List (Nat × Meas × List Return)} (hl : (l.map (·.1)).Nodup) (s : State) :
    ∀ x ∈ l, (l.foldl (fun s x => s.extractOne all x) s).SlotFreed x.1 x.2.1.hist := by
  induction l generalizing s with
  | nil => exact fun x hx => absurd hx List.not_mem_nil
  | cons y l ih =>
    obtain ⟨hy, hl'⟩ := List.nodup_cons.1 hl
    intro x hx
    rcases List.mem_cons.1 hx with rfl | hx
    · exact (extractOne_frees s all x).extractAll all (fun z hz he => hy (List.mem_map.2 ⟨z, hz, he⟩))
    · exact ih hl' _ x hx

/-! ## The train of a line (R207) -/

/-- Eight slots hold the closed measurements of one train of a line, in the order of their channels. -/
structure TrainClosed (line : Fin 128) (n frame train : Nat) (g : Nat → Meas) (slots : List (Nat × Meas)) : Prop where
  slots : slots = (List.range 8).map (fun i => (n + i, g i))
  chan : ∀ i < 8, (g i).chan = 8 * line.val + i
  state : ∀ i < 8, (g i).state = 3
  frame : ∀ i < 8, (g i).frame = frame
  train : ∀ i < 8, (g i).train = train

section
variable {line : Fin 128} {n frame train : Nat} {g : Nat → Meas} {s : State} (h : TrainClosed line n frame train g s.grn.slots)
include h

/-- The group of the first channel's measurement is all eight. -/
theorem TrainClosed.closedGroup : s.closedGroup (g 0) = s.grn.slots := by
  have hfind : ∀ i ∈ List.range 8, s.grn.slots.find? (fun e => e.2.state = 3 && e.2.chan = (g 0).chan / 8 * 8 + i &&
      e.2.frame = (g 0).frame && e.2.train = (g 0).train) = some (n + i, g i) := by
    intro i hi
    have hlt : i < 8 := List.mem_range.1 hi
    have hline : (g 0).chan / 8 * 8 = 8 * line.val := by have := h.chan 0 (by decide); omega
    rw [h.slots, List.find?_map, Option.map_eq_some_iff]
    refine ⟨i, List.find?_range_eq_some.2 ⟨?_, hi, ?_⟩, rfl⟩
    · simp [hline, h.chan i hlt, h.state i hlt, h.frame i hlt, h.train i hlt, h.frame 0 (by decide), h.train 0 (by decide)]
    · intro j hj
      simp [hline, h.chan j (by omega), Nat.ne_of_lt hj]
  rw [State.closedGroup, List.filterMap_congr hfind, h.slots]
  exact congrFun List.filterMap_eq_map' _

/-- It is the only train that waits. -/
theorem TrainClosed.closedTrains : s.closedTrains = [(lastClose s.grn.slots, s.grn.slots)] := by
  have hfirst : s.grn.slots.filter (fun e => e.2.state = 3 && e.2.chan % 8 = 0) = [(n, g 0)] := by
    have hzero : (List.range 8).filter ((fun e : Nat × Meas => e.2.state = 3 && e.2.chan % 8 = 0) ∘ fun i => (n + i, g i)) = [0] := by
      refine (List.filter_congr (q := fun i => decide (i = 0)) fun i hi => ?_).trans (by decide)
      have hlt : i < 8 := List.mem_range.1 hi
      have hmod : (8 * line.val + i) % 8 = i := by omega
      simp [h.state i hlt, h.chan i hlt, hmod]
    rw [h.slots, List.filter_map, hzero]
    rfl
  have hlen : s.grn.slots.length = 8 := by rw [h.slots, List.length_map, List.length_range]
  rw [State.closedTrains, hfirst, List.map_singleton, h.closedGroup]
  simp [hlen]

end

/-- The only train that waits is extracted. -/
theorem doExtract_frees {line : Fin 128} {n frame train : Nat} {g : Nat → Meas} {s : State} (t : Nat) (hon : s.on 11 = true)
    (h : TrainClosed line n frame train g s.grn.slots) {i : Nat} (hi : i < 8) : (doExtract line t s).SlotFreed (n + i) (g i).hist := by
  have h' : TrainClosed line n frame train g (s.at t).grn.slots := by rwa [State.at_grn]
  have hmine : (s.at t).closedTrains.find? (fun w => w.2.any (fun e => e.2.chan / 8 = line.val) &&
      (s.at t).closedTrains.all (fun x => decide (w.1 ≤ x.1))) = some (lastClose (s.at t).grn.slots, (s.at t).grn.slots) := by
    have hline : (8 * line.val + i) / 8 = line.val := by omega
    rw [h'.closedTrains, List.find?_cons_of_pos]
    simp only [List.all_cons, List.all_nil, le_refl, decide_true, Bool.and_self, Bool.and_true, List.any_eq_true, decide_eq_true_eq]
    exact ⟨(n + i, g i), by rw [h'.slots]; exact List.mem_map_of_mem (List.mem_range.2 hi), by rw [h'.chan i hi, hline]⟩
  unfold doExtract
  extract_lets u waiting mine
  have hm : mine = some (lastClose u.grn.slots, u.grn.slots) := hmine
  rw [hm]
  dsimp -zeta only
  rw [if_pos (by rw [State.at_on, hon])]
  extract_lets all v
  have hkeys : (all.map (·.1)).Nodup := by
    simp only [all, u, h'.slots, List.map_map]
    exact (List.nodup_range).map (fun a b hab => Nat.add_left_cancel hab)
  have hmem : ((n + i, g i, u.rawReturns (g i)) : Nat × Meas × List Return) ∈ all :=
    List.mem_map.2 ⟨(n + i, g i), by rw [h'.slots]; exact List.mem_map_of_mem (List.mem_range.2 hi), rfl⟩
  exact (extractAll_frees all hkeys u _ hmem).congr rfl

/-! ## Mount angles (R220) -/

/-- The three angles are 0, and marked stale. -/
theorem doMountStale_marks {s : State} {t : Nat} (hon : s.on 11 = true) (hen : s.getF F.CRM_MOUNT.EN = 1)
    (hstale : s.getF F.CRM_MOUNT.STALE = 0) (hlate : s.crm.arrived + s.getF F.CRM_MOUNT.STALE_MS * 1000000 ≤ max s.now t) :
    (doMountStale t s).getF F.CRM_MOUNT.STALE = 1 ∧ (doMountStale t s).getF F.CRM_MNT_ROLL.ANGLE = 0 ∧
      (doMountStale t s).getF F.CRM_MNT_PITCH.ANGLE = 0 ∧ (doMountStale t s).getF F.CRM_MNT_YAW.ANGLE = 0 := by
  unfold doMountStale
  extract_lets u last a
  rw [if_pos (by simp [u, last, hon, hen, hstale, hlate])]
  have hevt : ∀ f : Field, f.addr ≠ 0xF010 → ((a.setF F.CRM_MOUNT.STALE 1).raiseEvt 15 1).getF f = (a.setF F.CRM_MOUNT.STALE 1).getF f :=
    fun f hf => State.raiseEvt_getF _ 15 1 f hf
  refine ⟨?_, ?_, ?_, ?_⟩
  · rw [hevt _ (by decide)]
    exact getF_setF_of_lt a _ (by decide) (by decide)
  · rw [hevt _ (by decide), getF_setF_other _ _ _ _ (by decide), getF_setF_other _ _ _ _ (by decide), getF_setF_other _ _ _ _ (by decide)]
    exact getF_setF_of_lt u _ (by decide) (by decide)
  · rw [hevt _ (by decide), getF_setF_other _ _ _ _ (by decide), getF_setF_other _ _ _ _ (by decide)]
    exact getF_setF_of_lt _ _ (by decide) (by decide)
  · rw [hevt _ (by decide), getF_setF_other _ _ _ _ (by decide)]
    exact getF_setF_of_lt _ _ (by decide) (by decide)

/-- Settles O29: the slots by what each extraction leaves of them, the angles by the registers that show them. -/
theorem extractionFreesSlots : Obligations.ExtractionFreesSlots := by
  refine ⟨?_, ?_⟩
  · intro s line t n frame train g hon hslots hg
    have h : TrainClosed line n frame train g s.grn.slots := by
      have heach : ∀ i < 8, (g i).chan = 8 * line.val + i ∧ (g i).state = 3 ∧ (g i).frame = frame ∧ (g i).train = train :=
        fun i hi => hg ⟨i, hi⟩
      simp only [imp_and, forall_and] at heach
      obtain ⟨hchan, hstate, hframe, htrain⟩ := heach
      exact ⟨hslots, hchan, hstate, hframe, htrain⟩
    exact ⟨_, rfl, fun i hi => (doExtract_frees t hon h hi).congr (congrArg GrindState.slots (State.settle_grn _))⟩
  · intro s t hon hen hstale hlate
    refine ⟨_, rfl, ?_⟩
    rw [State.settle_getF _ _ (by decide), State.settle_getF _ _ (by decide), State.settle_getF _ _ (by decide),
      State.settle_getF _ _ (by decide)]
    exact doMountStale_marks hon hen hstale hlate

end Sys2Proof.Machine
end

section
/-! PROOFS. Frame headers (R227, R228) and STATS records (R231). -/

namespace Sys2Proof.Machine

/-! ## A record that is committed (R57, R320) -/

/-- The journal has a record of these contents more, a queue waits for a header only if one did before, and no pulse is added. -/
structure State.Commits (s u : State) (cls kind : Nat) (bytes : List Byte) : Prop where
  record : ∃ r, u.tp.journal = r :: s.tp.journal ∧ r.cls = cls ∧ r.kind = kind ∧ r.bytes = bytes
  waits : u.tp.queues.all (fun e => !e.2.waitHdr) = s.tp.queues.all (fun e => !e.2.waitHdr)
  pulses : u.rcd.pulses = s.rcd.pulses

theorem recPush_tp (s : State) (src : Nat) (bytes : List Byte) : (s.recPush src bytes).tp = s.tp := by
  unfold State.recPush
  split <;> rfl

theorem recPush_pulses (s : State) (src : Nat) (bytes : List Byte) : (s.recPush src bytes).rcd.pulses = s.rcd.pulses := by
  unfold State.recPush
  split <;> rfl

theorem State.Commits.recPush {s u : State} {cls kind : Nat} {bytes : List Byte} (h : s.Commits u cls kind bytes) (src : Nat)
    (b : List Byte) : s.Commits (u.recPush src b) cls kind bytes :=
  ⟨by rw [recPush_tp]; exact h.record, by rw [recPush_tp]; exact h.waits, by rw [recPush_pulses]; exact h.pulses⟩

theorem commitRecord_commits (s : State) (cls kind : Nat) (bytes : List Byte) :
    s.Commits (s.commitRecord cls kind bytes) cls kind bytes := by
  unfold State.commitRecord State.commitSel
  extract_lets nums queues r _ u
  have hu : s.Commits u cls kind bytes := by
    refine ⟨⟨r, rfl, rfl, rfl, rfl⟩, ?_, rfl⟩
    simp only [u, queues, List.all_map]
    refine congrArg s.tp.queues.all (funext fun e => ?_)
    simp only [Function.comp_apply]
    split <;> rfl
  split
  · exact hu.recPush _ _
  · exact hu

/-- Where no pulse waits to be tested, settling sends and commits nothing. -/
theorem settle_tp_of_no_pulses {s : State} (h : s.rcd.pulses = []) : s.settle.tp = s.tp := by rw [settle_of_no_pulses h]

/-! ## Frames of which something has been reported -/

@[simp] theorem updFrame_tp (s : State) (num : Nat) (g : FrameInfo → FrameInfo) : (s.updFrame num g).tp = s.tp := rfl
@[simp] theorem updFrame_rcd (s : State) (num : Nat) (g : FrameInfo → FrameInfo) : (s.updFrame num g).rcd = s.rcd := rfl
@[simp] theorem updFrame_crm (s : State) (num : Nat) (g : FrameInfo → FrameInfo) : (s.updFrame num g).crm = s.crm := rfl
@[simp] theorem forgetFrames_tp (s : State) : s.forgetFrames.tp = s.tp := rfl
@[simp] theorem forgetFrames_rcd (s : State) : s.forgetFrames.rcd = s.rcd := rfl
@[simp] theorem forgetFrames_frame (s : State) : s.forgetFrames.sch.frame = s.sch.frame := rfl

theorem updFrame_frame {s : State} {f : FrameInfo} (h : s.sch.frame = some f) (g : FrameInfo → FrameInfo) :
    (s.updFrame f.num g).sch.frame = some (g f) := by
  simp [State.updFrame, h]

theorem updFrame_past {s : State} {f : FrameInfo} (h : s.sch.past = [f]) (g : FrameInfo → FrameInfo) :
    (s.updFrame f.num g).sch.past = [g f] := by
  simp [State.updFrame, h]

/-- A frame whose report has not been given is kept. -/
theorem forgetFrames_past_of_unreported {s : State} {f : FrameInfo} (h : s.sch.past = [f]) (hheader : f.headerDone = false) :
    s.forgetFrames.sch.past = [f] := by
  simp [State.forgetFrames, h, hheader]

/-! ## Headers -/

/-- A header stands once in each of the three point classes, and no queue waits for one any more (R320). -/
theorem commitHeader_commits (s : State) (bytes : List Byte) :
    (∃ a b c, (s.commitHeader bytes).tp.journal = c :: b :: a :: s.tp.journal ∧ (a.cls = 1 ∧ a.kind = 1 ∧ a.bytes = bytes) ∧
      (b.cls = 2 ∧ b.kind = 1 ∧ b.bytes = bytes) ∧ c.cls = 3 ∧ c.kind = 1 ∧ c.bytes = bytes) ∧
    (s.commitHeader bytes).tp.queues.all (fun e => !e.2.waitHdr) = true ∧ (s.commitHeader bytes).rcd.pulses = s.rcd.pulses := by
  unfold State.commitHeader
  extract_lets begin_ _ v
  have hv : v.tp.queues.all (fun e => !e.2.waitHdr) = true := by simp [v, begin_]
  obtain ⟨⟨a, hja, ha⟩, hwa, hpa⟩ := commitRecord_commits v 1 1 bytes
  obtain ⟨⟨b, hjb, hb⟩, hwb, hpb⟩ := commitRecord_commits (v.commitRecord 1 1 bytes) 2 1 bytes
  obtain ⟨⟨c, hjc, hc⟩, hwc, hpc⟩ := commitRecord_commits ((v.commitRecord 1 1 bytes).commitRecord 2 1 bytes) 3 1 bytes
  exact ⟨⟨a, b, c, by rw [hjc, hjb, hja], ha, hb, hc⟩, by rw [hwc, hwb, hwa, hv], by rw [hpc, hpb, hpa]⟩

theorem flushHeld_of_no_held {s : State} (h : s.crm.held = []) (f : Nat) : s.flushHeld f = s := by
  simp only [State.flushHeld, h, List.filter_nil, List.foldl_nil]
  rw [← h]

/-- The first frame since frames resumed has none before it whose measurements its header waits for (R228). -/
theorem doFrameHeaderCommit_first {s : State} (t : Nat) {f : FrameInfo} (hpast : s.sch.past = []) (hframe : s.sch.frame = some f)
    (hopened : f.opened = false) (hfirst : f.first = true) (hheld : s.crm.held = []) :
    doFrameHeaderCommit t s =
      (((s.at t).commitHeader ((s.at t).headerBytes (some f) none)).updFrame f.num (fun x => { x with opened := true })).forgetFrames := by
  unfold doFrameHeaderCommit
  simp only [State.at_sch, hpast, hframe, Option.toList_some, List.nil_append, List.find?_cons, hopened, Bool.false_and, Bool.not_false,
    hfirst, if_true, Option.all_none, Bool.false_eq_true, if_false]
  rw [flushHeld_of_no_held]
  rw [updFrame_crm, State.commitHeader_crm, State.at_crm, hheld]

/-! ## STATS records -/

theorem statsParts_at (s : State) (t : Nat) (f : FrameInfo) : (s.at t).statsParts f = s.statsParts f := by
  simp only [State.statsParts, State.lostOf, State.at_crm, State.at_grn]

/-- A STATS record has a part even where no entry is listed. -/
theorem one_le_length_statsParts (s : State) (f : FrameInfo) : 1 ≤ (s.statsParts f).length := by
  simp only [State.statsParts, List.length_map, List.length_range]
  exact le_max_left _ _

/-- Each of the parts is a record of the journal. -/
theorem commitParts_commits (l : List (List Byte)) (s : State) :
    (l.foldl (fun s b => s.commitRecord 4 5 b) s).tp.journal.length = s.tp.journal.length + l.length ∧
      (l.foldl (fun s b => s.commitRecord 4 5 b) s).rcd.pulses = s.rcd.pulses ∧
      (l.foldl (fun s b => s.commitRecord 4 5 b) s).sch = s.sch := by
  induction l generalizing s with
  | nil => exact ⟨rfl, rfl, rfl⟩
  | cons b l ih =>
    obtain ⟨hlength, hpulses, hsch⟩ := ih (s.commitRecord 4 5 b)
    obtain ⟨⟨r, hjournal, -⟩, -, hpulses'⟩ := commitRecord_commits s 4 5 b
    refine ⟨hlength.trans ?_, hpulses.trans hpulses', hsch.trans (State.commitRecord_sch s 4 5 b)⟩
    rw [hjournal, List.length_cons, List.length_cons, Nat.add_assoc, Nat.add_comm 1]

theorem doStatsCommit_due {s : State} (t : Nat) {f : FrameInfo} (hpast : s.sch.past = [f]) (hstats : f.statsDone = false)
    (hslots : s.grn.slots = []) :
    doStatsCommit t s =
      (((s.statsParts f).foldl (fun s b => s.commitRecord 4 5 b) (s.at t)).updFrame f.num
        (fun x => { x with statsDone := true })).forgetFrames := by
  unfold doStatsCommit
  simp only [State.at_sch, State.at_grn, hpast, hslots, List.find?_cons, hstats, Bool.not_false, List.any_nil, Bool.false_eq_true, if_false,
    statsParts_at]

/-- Settles O30: the header by what it commits and opens, the STATS record by its parts. -/
theorem headersAndStats : Obligations.HeadersAndStats := by
  refine ⟨?_, ?_⟩
  · intro s t f hs hpast hframe hopened hfirst hheld
    obtain ⟨-, hpulses⟩ := hs
    obtain ⟨⟨a, b, c, hjournal, ⟨ha, hka, hba⟩, ⟨hb, hkb, hbb⟩, hc, hkc, hbc⟩, hbegun, hquiet⟩ :=
      commitHeader_commits (s.at t) ((s.at t).headerBytes (some f) none)
    rw [State.at_rcd, hpulses] at hquiet
    refine ⟨_, a, b, c, rfl, ?_⟩
    rw [doFrameHeaderCommit_first t hpast hframe hopened hfirst hheld, settle_tp_of_no_pulses (by simp [hquiet]), State.settle_sch,
      forgetFrames_tp, updFrame_tp, forgetFrames_frame]
    refine ⟨hjournal.trans (by rw [State.at_tp]), ha, hb, hc, hka, hkb, hkc, hba.trans hbb.symm, hbb.trans hbc.symm, hbegun, ?_⟩
    exact updFrame_frame (by rw [State.commitHeader_sch, State.at_sch, hframe]) _
  · intro s t f hs hpast hstats hheader hslots
    obtain ⟨-, hpulses⟩ := hs
    obtain ⟨hlength, hquiet, hsch⟩ := commitParts_commits (s.statsParts f) (s.at t)
    rw [State.at_rcd, hpulses] at hquiet
    refine ⟨_, rfl, ?_⟩
    rw [doStatsCommit_due t hpast hstats hslots, settle_tp_of_no_pulses (by simp [hquiet]), State.settle_sch, forgetFrames_tp, updFrame_tp]
    refine ⟨hlength.trans (by rw [State.at_tp]), one_le_length_statsParts s f, ?_⟩
    exact forgetFrames_past_of_unreported (updFrame_past (by rw [hsch, State.at_sch, hpast]) _) hheader

end Sys2Proof.Machine
end

section
/-! PROOFS. The protective field (O31): rays are judged (R239, R240), and a frame's results are used up (R244, R257). -/

namespace Sys2Proof.Machine

/-! ## The results of both channels -/

/-- What waits to be judged, and both channels' results. -/
def State.rays (s : State) : List P0Desc × List RayResult × List RayResult := (s.saf.descs, s.saf.raysA, s.saf.raysB)

theorem rays_eq_iff {s u : State} :
    u.rays = s.rays ↔ u.saf.descs = s.saf.descs ∧ u.saf.raysA = s.saf.raysA ∧ u.saf.raysB = s.saf.raysB := by
  simp only [State.rays, Prod.mk.injEq]

theorem rays_of_saf {s u : State} (h : u.saf = s.saf) : u.rays = s.rays := by rw [State.rays, h, State.rays]

@[simp] theorem safetyEvt_saf (s : State) (bit : Nat) : (s.safetyEvt bit).saf = s.saf := by
  rw [State.safetyEvt, State.raiseEvt_saf, State.raiseEvt_saf]

/-- Outputs that go off leave the results. -/
theorem outputsOff_rays (s : State) (field : Bool) : (s.outputsOff field).rays = s.rays := by
  unfold State.outputsOff
  extract_lets _ u v
  have hv : v.rays = s.rays :=
    (rays_of_saf (by simp only [v, State.recPulse_saf, safetyEvt_saf, State.bump_eq, State.setF_saf] : v.saf = u.saf)).trans rfl
  clear_value v
  split
  · split
    · exact (rays_of_saf (State.setF_saf ..)).trans hv
    · exact hv
  · rfl

theorem dropPermits_rays (s : State) : s.dropPermits.rays = s.rays :=
  (outputsOff_rays _ _).trans (rays_of_saf rfl)

theorem outputsOnIf_rays (s : State) : s.outputsOnIf.rays = s.rays := by
  unfold State.outputsOnIf
  split
  · exact (rays_of_saf (safetyEvt_saf _ _)).trans rfl
  · rfl

/-- Counts that a result raises leave the results, permits that drop for them included. -/
theorem raiseCounts_rays (s : State) (i : List Byte) (r : RayResult) : (s.raiseCounts i r).rays = s.rays := by
  unfold State.raiseCounts
  split
  · rfl
  · induction r.occupied generalizing s with
    | nil => rfl
    | cons f l ih =>
      refine (ih _).trans ?_
      dsimp only
      split
      · split
        · exact (dropPermits_rays _).trans rfl
        · rfl
      · rfl

/-! ## A ray is judged -/

theorem image_eq_some {s : State} {i : List Byte} : s.image = some i ↔ s.saf.activeB.isSome = true ∧ s.saf.activeA = some i := by
  rw [State.image, Option.ite_none_right_eq_some]

/-- Channel A judges the ray of its oldest descriptor (R239). -/
theorem doP0Descriptor_judges {s : State} {i : List Byte} {d : P0Desc} {l : List P0Desc} (t : Nat) (hi : s.image = some i)
    (hd : s.saf.descs = d :: l) :
    ∃ r, doP0Descriptor t s =
        State.raiseCounts { s.at t with saf := { s.saf with descs := l, raysA := s.saf.raysA ++ [r] } } i r ∧
      r.frame = d.frame ∧ r.ray = d.ray ∧
      (d.fault = true ∨ d.closedAt + 5000000 < max s.now t → r.evaluated = false ∧ r.occupied = []) := by
  obtain ⟨hB, hA⟩ := image_eq_some.1 hi
  unfold doP0Descriptor
  simp only [State.at_saf, hd, State.image, hB, hA, if_true, State.at_now]
  refine ⟨_, rfl, rfl, rfl, fun hbad => ?_⟩
  have hev : (decide (max s.now t ≤ d.closedAt + 5000000) && !d.fault) = false := by
    rcases hbad with hfault | hlate
    · rw [hfault, Bool.not_true, Bool.and_false]
    · rw [decide_eq_false (Nat.not_le.2 hlate), Bool.false_and]
  simp only [hev, Bool.false_and, Bool.false_eq_true, if_false, true_and]
  split <;> rfl

/-- Channel B judges a ray whose train has run (R240). -/
theorem doChannelBRayResult_judges {s : State} {frame train pass step pos : Nat} {slot off : Fin 8} {j : List Byte} {x : DripPulse} (t : Nat)
    (hj : s.imageB = some j) (hon : s.on 2 = true)
    (hx : s.saf.pulses.find? (fun p => p.isOf frame train ⟨pass, step, pos, slot.val, off.val⟩) = some x) (hend : x.endAt ≤ max s.now t)
    (hnew : s.saf.raysB.any (fun r => r.frame = frame && r.ray = ⟨pass, step, pos, slot.val, off.val⟩) = false) :
    ∃ r, doChannelBRayResult frame train pass step pos slot off t s =
        State.raiseCounts { s.at t with saf := { s.saf with raysB := s.saf.raysB ++ [r] } } j r ∧
      r.frame = frame ∧ r.ray = ⟨pass, step, pos, slot.val, off.val⟩ ∧
      ((s.saf.pulses.filter (fun p => p.isOf frame train ⟨pass, step, pos, slot.val, off.val⟩ && p.emitted)).length < imgLe j 0x3B 1 →
        r.evaluated = false ∧ r.occupied = []) := by
  have himage : (s.at t).imageB = some j := by rw [State.imageB, State.at_saf]; exact hj
  unfold doChannelBRayResult
  simp only [himage, State.at_saf, hx, State.at_on, hon, State.at_now, hnew, Nat.not_lt.2 hend, Bool.not_true, decide_false,
    Bool.or_false, Bool.false_eq_true, if_false]
  refine ⟨_, rfl, rfl, rfl, fun hfew => ?_⟩
  have hline := ((s.saf.pulses.filter_sublist (p := fun p => decide (p.line = x.line))).filter
    (fun p => p.isOf frame train ⟨pass, step, pos, slot.val, off.val⟩ && p.emitted)).length_le
  have hleast := decide_eq_false (Nat.not_le.2 (hline.trans_lt hfew))
  simp only [hleast, Bool.false_and, Bool.false_eq_true, if_false, true_and]
  split <;> rfl

/-! ## The evaluation instant (R244) -/

/-- A frame is due no more, its results used up, whatever judged it. -/
def State.forgetDue (s : State) (d : FrameDue) (l : List FrameDue) : State :=
  { s with saf := { s.saf with due := l, raysA := s.saf.raysA.filter (fun r => r.frame ≠ d.frame),
                               raysB := s.saf.raysB.filter (fun r => r.frame ≠ d.frame),
                               raised := s.saf.raised.filter (fun r => r.1 ≠ d.frame),
                               pulses := s.saf.pulses.filter (fun p => p.frame ≠ d.frame),
                               events := s.saf.events.filter (fun e => decide (d.ended ≤ e.cycle)) } }

theorem forgetDue_outputsOn (s : State) (d : FrameDue) (l : List FrameDue) : (s.forgetDue d l).saf.outputsOn = s.saf.outputsOn := rfl

/-- Without an image a record stands for the frame (R257). -/
theorem doEvaluationInstant_without_image {s : State} {t : Nat} {d : FrameDue} {l : List FrameDue} (hi : s.image = none)
    (hd : s.saf.due = d :: l) (hlate : d.ended + 5000000 ≤ max s.now t) :
    doEvaluationInstant t s = ((s.at t).commitRecord 6 7 ((s.at t).safetyStatus d 0 0xFFFF 0 0)).forgetDue d l := by
  have himage : (s.at t).image = none := by rw [State.image, State.at_saf]; exact hi
  unfold doEvaluationInstant
  simp only [State.at_saf, hd, State.at_now, Nat.not_lt.2 hlate, if_false, himage, State.forgetDue]

/-- With an image in both channels the frame is judged. -/
theorem doEvaluationInstant_with_image {s : State} {t : Nat} {i j : List Byte} {d : FrameDue} {l : List FrameDue} (hi : s.image = some i)
    (hj : s.imageB = some j) (hd : s.saf.due = d :: l) (hlate : d.ended + 5000000 ≤ max s.now t) :
    doEvaluationInstant t s = ((s.at t).evaluate i j d).forgetDue d l := by
  have himage : (s.at t).image = some i := by rw [State.image, State.at_saf]; exact hi
  have himageB : (s.at t).imageB = some j := by rw [State.imageB, State.at_saf]; exact hj
  unfold doEvaluationInstant
  simp only [State.at_saf, hd, State.at_now, Nat.not_lt.2 hlate, if_false, himage, himageB, State.forgetDue]

/-- Where no run of disagreement has reached TD, none ends (R248). -/
theorem expireRuns_of_open {s : State} (h : ∀ r ∈ s.saf.runs, s.now < r.2 + s.getF F.SFA_CFG.TD * 1000000) : s.expireRuns = s := by
  unfold State.expireRuns State.runsEnd
  refine if_neg ?_
  simpa only [List.any_eq_true, decide_eq_true_eq, not_exists, not_and, not_le] using h

/-- The judgement of a frame that locks nothing out reads the results and leaves them. -/
theorem evaluate_rays {s : State} (i j : List Byte) (d : FrameDue) (h : s.expireRuns = s) : (s.evaluate i j d).rays = s.rays := by
  unfold State.evaluate
  extract_lets +onlyGivenNames now ra rb pairs res differ runs newRun prot clear notev ahead counts allClear field _ judged shown held permitted withheld
    switched told
  have hjudged : judged.rays = s.expireRuns.rays := rfl
  have hshown : shown.rays = judged.rays := by
    simp only [shown]; split
    · exact rays_of_saf (safetyEvt_saf _ _)
    · rfl
  have hpermitted : permitted.rays = shown.rays := by
    simp only [permitted]; split <;> rfl
  have hwithheld : withheld.rays = permitted.rays := by
    simp only [withheld]; split
    · rfl
    · exact dropPermits_rays _
  calc (told.commitRecord 6 7 _).rays = told.rays := rays_of_saf (State.commitRecord_saf ..)
    _ = switched.rays := rays_of_saf (by simp only [told, State.setSat_eq, State.setF_saf])
    _ = withheld.rays := outputsOnIf_rays _
    _ = permitted.rays := hwithheld
    _ = shown.rays := hpermitted
    _ = judged.rays := hshown
    _ = s.expireRuns.rays := hjudged
    _ = s.rays := congrArg State.rays h

/-- Settles O31: a ray's judgement by the result it adds, an evaluation instant by the record it commits or the results it takes. -/
theorem raysAreJudged : Obligations.RaysAreJudged := by
  refine ⟨?_, ?_, ?_, ?_⟩
  · intro s t i d l hi hd
    obtain ⟨r, hdo, hframe, hray, hbad⟩ := doP0Descriptor_judges t hi hd
    refine ⟨_, r, rfl, ?_⟩
    obtain ⟨hdescs, hraysA, -⟩ := rays_eq_iff.1
      (raiseCounts_rays { s.at t with saf := { s.saf with descs := l, raysA := s.saf.raysA ++ [r] } } i r)
    rw [hdo, State.settle_saf]
    exact ⟨hdescs, hraysA, hframe, hray, hbad⟩
  · intro s frame train pass step pos slot off t j x hj hon hx hend hnew
    obtain ⟨r, hdo, hframe, hray, hfew⟩ := doChannelBRayResult_judges t hj hon hx hend hnew
    refine ⟨_, r, rfl, ?_⟩
    obtain ⟨-, -, hraysB⟩ := rays_eq_iff.1
      (raiseCounts_rays { s.at t with saf := { s.saf with raysB := s.saf.raysB ++ [r] } } j r)
    rw [hdo, State.settle_saf]
    exact ⟨hraysB, hframe, hray, hfew⟩
  · intro s t d l hs hi hd hlate
    obtain ⟨-, hpulses⟩ := hs
    obtain ⟨⟨r, hjournal, hcls, -⟩, -, hquiet⟩ := commitRecord_commits (s.at t) 6 7 ((s.at t).safetyStatus d 0 0xFFFF 0 0)
    refine ⟨_, r, rfl, ?_⟩
    rw [doEvaluationInstant_without_image hi hd hlate, State.settle_saf,
      settle_tp_of_no_pulses (by exact hquiet.trans ((congrArg RecState.pulses (State.at_rcd s t)).trans hpulses))]
    refine ⟨rfl, hjournal.trans (by rw [State.at_tp]), hcls, ?_⟩
    rw [forgetDue_outputsOn, State.commitRecord_saf, State.at_saf]
  · intro s t i j d l hi hj hd hlate hopen
    refine ⟨_, rfl, ?_⟩
    have hopen' : (s.at t).expireRuns = s.at t := expireRuns_of_open (by simpa only [State.at_saf, State.at_now, State.at_getF] using hopen)
    obtain ⟨-, hraysA, hraysB⟩ := rays_eq_iff.1 ((evaluate_rays i j d hopen').trans (rays_of_saf (State.at_saf s t)))
    rw [doEvaluationInstant_with_image hi hj hd hlate, State.settle_saf]
    exact ⟨rfl, congrArg (List.filter _) hraysA, congrArg (List.filter _) hraysB⟩

end Sys2Proof.Machine
end

section
/-! PROOFS. Checks of the safety channels that find nothing (R242), and off-pulses of their outputs (R246): O33. -/

namespace Sys2Proof.Machine

/-! ## Checks that pass (R242) -/

/-- A window within 5 % ends the run of bad ones. -/
theorem doClockCrossCheck_within {s : State} {dev : Int} (t : Nat) (g : s.gradeS = true) (hon : s.on 2 = true) (hd : dev.natAbs ≤ 500) :
    doClockCrossCheck dev t s =
      { (s.at t).showClock dev true with saf := { s.saf with clkBad := 0, clkGood := s.saf.clkGood + 1 } } := by
  simp [doClockCrossCheck, gradeS_at, g, hon, hd, State.showClock]

theorem showClock_refOk (s : State) (dev : Int) : (s.showClock dev true).getF F.SFB_CLK.REF_OK = 1 :=
  getF_setF_of_lt _ _ (by decide) (by decide)

/-- A test that passes is shown, and that is all. -/
theorem doChannelBGapTest_passes {s : State} (t : Nat) (g : s.gradeS = true) (hon : s.on 2 = true) :
    doChannelBGapTest true true t s = (s.at t).showGapTest true true := by
  simp [doChannelBGapTest, gradeS_at, g, hon, State.showGapTest]

theorem showGapTest_pass (s : State) : (s.showGapTest true true).getF F.SFB_TEST.PASS = 1 :=
  (getF_setF_beside _ _ _ _ (by decide) (by decide)).trans (getF_setF_of_lt _ _ (by decide) (by decide))

theorem showGapTest_crcOk (s : State) : (s.showGapTest true true).getF F.SFB_TEST.CRC_OK = 1 :=
  getF_setF_of_lt _ _ (by decide) (by decide)

/-! ## Off-pulses (R246) -/

/-- When an off-pulse is due does not hang on the clock. -/
theorem pulseDue_at (s : State) (t : Nat) (channelB : Bool) : (s.at t).pulseDue channelB = s.pulseDue channelB := by
  simp only [State.pulseDue, State.imageB, State.image, State.at_saf]

/-- The instant of a channel's last off-pulse. -/
def SafetyState.notePulse (x : SafetyState) (channelB : Bool) (p : Nat) : SafetyState :=
  if channelB then { x with pulseB := some p } else { x with pulseA := some p }

theorem notePulse_outputsOn (x : SafetyState) (channelB : Bool) (p : Nat) : (x.notePulse channelB p).outputsOn = x.outputsOn := by
  cases channelB <;> rfl

/-- An off-pulse that is due is given. -/
theorem doOssdOffPulse_due {s : State} {channelB : Bool} {t p : Nat} (hp : s.pulseDue channelB = some p) (hon : s.saf.outputsOn = true)
    (hlate : p ≤ max s.now t) :
    doOssdOffPulse channelB t s =
      { s.at t with
        saf := s.saf.notePulse channelB p
        tp := { s.tp with out := .offPulse (if channelB then 1 else 0) p :: s.tp.out } } := by
  unfold doOssdOffPulse
  simp only [pulseDue_at, hp, State.at_saf, hon, State.at_now, hlate, decide_true, Bool.and_self, if_true, State.at_tp,
    SafetyState.notePulse]

/-- Settles O33: the passed checks by what they show, the off-pulse by what it sends. -/
theorem safetyChecksThatPass : Obligations.SafetyChecksThatPass := by
  refine ⟨?_, ?_, ?_⟩
  · intro s dev t g hon hd
    refine ⟨_, rfl, ?_⟩
    rw [doClockCrossCheck_within t g hon hd, State.settle_saf, State.settle_getF _ _ (by decide), State.settle_dev]
    refine ⟨rfl, rfl, (saf_getF _ _ _).trans (showClock_refOk _ dev), ?_⟩
    exact congrArg DevState.ofCode ((saf_getF _ _ _).trans ((showClock_getF _ _ _ (by decide)).trans (State.at_getF s t _)))
  · intro s t g hon
    refine ⟨_, rfl, ?_⟩
    rw [doChannelBGapTest_passes t g hon, State.settle_saf, State.settle_getF _ _ (by decide), State.settle_getF _ _ (by decide),
      State.settle_dev]
    refine ⟨showGapTest_pass _, showGapTest_crcOk _, ?_, State.at_saf s t⟩
    exact congrArg DevState.ofCode ((showGapTest_getF _ _ _ (by decide)).trans (State.at_getF s t _))
  · intro s channelB t p hs hp hon hlate
    obtain ⟨-, hpulses⟩ := hs
    refine ⟨_, rfl, ?_⟩
    rw [doOssdOffPulse_due hp hon hlate, State.settle_saf,
      settle_tp_of_no_pulses (by exact (congrArg RecState.pulses (State.at_rcd s t)).trans hpulses)]
    exact ⟨rfl, (notePulse_outputsOn _ _ _).trans hon⟩

end Sys2Proof.Machine
end

section
namespace Sys2Proof.Machine

/-- The operand of the outcome of a command: nothing but a next state is answered. -/
theorem exec_next (c : Instr) (s : State) : ∃ u, exec c s = .next u := by
  obtain ⟨v, hv⟩ := exec_answers c s
  exact ⟨v.settle, hv⟩

theorem step_of_pending_nil {s : State} (h : s.pending = []) : step s = .next s.idle := by
  unfold step
  rw [h]

theorem step_of_pending_cons {s : State} {c : Instr} {rest : List Instr} (h : s.pending = c :: rest) :
    step s = exec c { s with pending := rest } := by
  unfold step
  rw [h]

theorem idle_eq (s : State) : s.idle = if s.tp.rxq = [] then s else s.drainMessages.settle := by
  unfold State.idle
  simp only [List.isEmpty_iff]

/-- Settles O1. -/
theorem stepRunsFront : Obligations.StepRunsFront :=
  ⟨fun _ _ _ => step_of_pending_cons rfl, fun s h => by rw [step_of_pending_nil h, idle_eq]⟩

/-- Settles O2: with no command waiting the step idles, and every command answers a next state. -/
theorem everyStepAnswers : Obligations.EveryStepAnswers := by
  intro s
  cases h : s.pending with
  | nil => exact ⟨s.idle, step_of_pending_nil h⟩
  | cons c rest =>
    obtain ⟨u, hu⟩ := exec_next c { s with pending := rest }
    exact ⟨u, (step_of_pending_cons h).trans hu⟩

/-- Settles O3. -/
theorem resetState : Obligations.ResetState := by
  unfold Obligations.ResetState
  decide

/-- Settles O4. -/
theorem resetSettled : Obligations.ResetSettled := by
  unfold Obligations.ResetSettled
  decide

end Sys2Proof.Machine
end

section
/-! PROOFS. The time base: what each operation of the servo leaves of what the sources have been heard to say, and the commands of the time
sources (O36). -/

namespace Sys2Proof.Machine

/-- Where the clock stands at the instant already, no time passes. -/
theorem at_self (s : State) : s.at s.now = s := if_neg (Nat.lt_irrefl _)

/-! ## What the sources have been heard to say -/

/-- The sources as heard (R262): the master, its Syncs and path delay, the accepted sources, the last PPS edges, the frame pulse's last
multiple, and the source in use. -/
structure Heard where
  master : Bool
  syncs : Nat
  accepted : Nat
  lastPps : Option Nat
  goodPps : Option Nat
  path : Int
  source : Nat

def State.heard (s : State) : Heard :=
  ⟨s.time.master, s.time.syncs, s.time.accepted, s.time.lastPps, s.time.goodPps, s.time.path, s.timeSource⟩

theorem heard_of_time {s t : State} (ht : t.time = s.time) (hs : t.timeSource = s.timeSource) : t.heard = s.heard := by
  rw [State.heard, ht, hs, State.heard]

theorem heard_ite {c : Prop} [Decidable c] {a b s : State} (ha : a.heard = s.heard) (hb : b.heard = s.heard) :
    (if c then a else b).heard = s.heard := by
  split
  · exact ha
  · exact hb

theorem setF_heard (s : State) (f : Field) (v : Nat) (hf : f.lsb + f.width ≤ 32)
    (h : F.TSY_STAT.SOURCE.addr ≠ f.addr ∨ 7 ≤ f.lsb ∨ f.lsb + f.width ≤ 4) : (s.setF f v).heard = s.heard :=
  heard_of_time rfl (getF_setF_beside s f F.TSY_STAT.SOURCE v hf (h.imp_right Or.symm |>.imp_right Or.symm))

theorem raiseEvt_heard (s : State) (p bit : Nat) : (s.raiseEvt p bit).heard = s.heard :=
  heard_of_time (State.raiseEvt_time s p bit) (State.raiseEvt_getF s p bit _ (by show (0x5104 : Nat) ≠ _; omega))

theorem updateValid_heard (s : State) : s.updateValid.heard = s.heard := by
  have hset : ∀ (u : State) (b : Bool) (lsb : Nat), (u.setB ⟨0x9160, lsb, 1⟩ b).heard = u.heard := fun u b lsb =>
    heard_of_time rfl (getF_setF_other u ⟨0x9160, lsb, 1⟩ _ _ (by show (0x5104 : Nat) ≠ 0x9160; decide))
  unfold State.updateValid
  extract_lets u v w x y
  have hu : u.heard = s.heard := (hset _ _ _).trans (hset _ _ _)
  have hy : y.heard = s.heard := (hset u v _).trans hu
  exact heard_ite hy hy

theorem refOkFromTime_heard (s : State) : s.refOkFromTime.heard = s.heard :=
  heard_ite ((updateValid_heard _).trans (setF_heard s _ _ (by decide) (by decide))) rfl

theorem gmUpdate_heard (s : State) : s.gmUpdate.heard = s.heard := by
  have hset : ∀ v, (s.setF F.TSY_STAT.GM v).heard = s.heard := fun v => setF_heard s _ _ (by decide) (by decide)
  exact heard_ite (hset _) (hset _)

theorem traceUpdate_heard (s : State) : s.traceUpdate.heard = s.heard :=
  heard_ite rfl ((raiseEvt_heard _ _ _).trans (setF_heard s _ _ (by decide) (by decide)))

theorem setServo_heard (s : State) (st : Nat) : (s.setServo st).heard = s.heard := by
  refine heard_ite rfl ?_
  calc _ = (((s.setF F.TSY_STAT.STATE st).raiseEvt 5 0).refOkFromTime).heard := (traceUpdate_heard _).trans (gmUpdate_heard _)
    _ = (s.setF F.TSY_STAT.STATE st).heard := (refOkFromTime_heard _).trans (raiseEvt_heard _ _ _)
    _ = s.heard := setF_heard s _ _ (by decide) (by decide)

theorem setTrim_heard (s : State) (v : Int) : (s.setTrim v).heard = s.heard :=
  setF_heard s F.CLK_XO.TRIM _ (by decide) (by decide)

theorem leaveServo_heard (s : State) : s.leaveServo.heard = s.heard := by
  have hs : (if s.time.holdAt.isSome then s.setSat F.TSY_HOLD.S s.holdSeconds else s).heard = s.heard :=
    heard_ite (setF_heard s _ _ (by decide) (by decide)) rfl
  exact hs

theorem enterAcquire_heard (s : State) : s.enterAcquire.heard = s.heard := (setServo_heard _ _).trans (leaveServo_heard s)

theorem enterLocked_heard (s : State) : s.enterLocked.heard = s.heard := setServo_heard _ _

theorem pullTrim_heard (s : State) : s.pullTrim.heard = s.heard := setTrim_heard s.tick _

theorem stepCounter_heard (s : State) (d : Int) : (s.stepCounter d).heard = s.heard :=
  calc (s.stepCounter d).heard = ((s.bump F.TSY_STEPS.STEPS 1).setI F.TSY_LAST_STEP.NS (truncDiv d 65536)).heard :=
        raiseEvt_heard _ 5 1
    _ = (s.bump F.TSY_STEPS.STEPS 1).heard := setF_heard _ _ _ (by decide) (by decide)
    _ = s.heard := setF_heard s _ _ (by decide) (by decide)

theorem correctPhase_heard (s : State) (e : Int) : (s.correctPhase e).heard = s.heard := heard_ite (stepCounter_heard s _) rfl

theorem measurePhase_heard (s : State) (e : Int) : (s.measurePhase e).heard = s.heard := by
  unfold State.measurePhase
  extract_lets a n b c
  have hb : b.heard = s.heard := setF_heard s F.TSY_OFS.VALUE _ (by decide) (by decide)
  have hc : c.heard = s.heard := (correctPhase_heard _ _).trans (heard_ite hb ((pullTrim_heard b).trans hb))
  exact heard_ite ((enterLocked_heard c).trans hc) hc

theorem loadTime_heard (s : State) : s.loadTime.heard = s.heard :=
  calc s.loadTime.heard = _ := gmUpdate_heard _
    _ = _ := setF_heard _ F.TSY_STAT.TIME_SET 1 (by decide) (by decide)
    _ = _ := setF_heard _ F.TSY_SET_CTL.APPLY 0 (by decide) (by decide)
    _ = s.heard := stepCounter_heard s _

/-- A source that is taken up is in use; what has been heard stays. -/
theorem setSource_heard (s : State) {k : Nat} (hk : k < 8) : (s.setSource k).heard = { s.heard with source := k } := by
  unfold State.setSource
  split
  · next h => rw [← h]; rfl
  · rw [raiseEvt_heard]
    exact congrArg (fun n => { s.heard with source := n }) (getF_setF_of_lt s F.TSY_STAT.SOURCE (by decide) hk)

/-- What the servo has heard after an event of source `k`: nothing new but, where it is taken up, the source in use. -/
theorem takeSource_heard (s : State) {k : Nat} (hk : k < 8) :
    (s.takeSource k).1.heard = if s.wantedSource = some k then { s.heard with source := k } else s.heard := by
  unfold State.takeSource
  split
  · dsimp only
    split
    · next h =>
      simp only [Bool.and_eq_true, decide_eq_true_eq] at h
      rw [← h.1.1]; rfl
    · exact (enterAcquire_heard _).trans (setSource_heard s hk)
  · rfl

/-- After an event of source `k` what has been heard is the same, but for the source in use. -/
theorem takeSource_sources (s : State) {k : Nat} (hk : k < 8) : { (s.takeSource k).1.heard with source := 0 } = { s.heard with source := 0 } := by
  rw [takeSource_heard s hk]
  split <;> rfl

/-! ## What the passage of time leaves -/

theorem servo_at (s : State) (t : Nat) : (s.at t).servo = s.servo := State.at_getF s t _

/-! ## Acceptance (R262) -/

/-- A set of sources with one more. -/
theorem testBit_accept (n k : Nat) : (if n.testBit k then n else n + 2 ^ k).testBit k = true := testBit_withBit_self k true n

theorem testBit_lose (n k : Nat) : (if n.testBit k then n - 2 ^ k else n).testBit k = false := testBit_withBit_self k false n

theorem acceptSource_accepts (s : State) (k : Nat) : (s.acceptSource k).acceptedSrc k = true := testBit_accept _ _

/-- What a good PPS edge leads to: PPS is accepted, and the counter is loaded or the servo measures (R262, R266). -/
def State.ppsTaken (s : State) (e : Int) : State :=
  let u := ((s.acceptSource 2).setI F.TSY_PPS.ERR (truncDiv e 65536)).takeSource 2
  if u.1.flag F.TSY_SET_CTL.APPLY && u.1.flag F.TSY_SET_CTL.AT_PPS && !u.1.frames then u.1.loadTime
  else if u.2 then u.1.measurePhase e else u.1

/-- A good PPS edge stays the last one, and PPS stands accepted. -/
theorem ppsTaken_heard (s : State) (e : Int) :
    (s.ppsTaken e).time.lastPps = s.time.lastPps ∧ (s.ppsTaken e).acceptedSrc 2 = true := by
  unfold State.ppsTaken
  extract_lets u
  have hu : { u.1.heard with source := 0 } = { (s.acceptSource 2).heard with source := 0 } := takeSource_sources _ (by decide)
  have htail : (if u.1.flag F.TSY_SET_CTL.APPLY && u.1.flag F.TSY_SET_CTL.AT_PPS && !u.1.frames then u.1.loadTime
      else if u.2 then u.1.measurePhase e else u.1).heard = u.1.heard :=
    heard_ite (loadTime_heard _) (heard_ite (measurePhase_heard _ _) rfl)
  exact ⟨(congrArg Heard.lastPps htail).trans (congrArg Heard.lastPps hu),
    (congrArg (fun x => x.accepted.testBit 2) htail).trans ((congrArg (fun x => x.accepted.testBit 2) hu).trans (testBit_accept _ _))⟩

theorem doPpsEdge_good {s : State} {t p : Nat} (hnow : s.now ≤ t) (hon : s.on 3 = true) (hserv : s.servo ≠ 2)
    (hp : s.time.lastPps = some p) (h1 : 999990000 ≤ t - p) (h2 : t - p ≤ 1000010000) :
    doPpsEdge t s = ((s.at t).mapTime (fun x => { x with lastPps := some t, goodPps := some t })).ppsTaken (s.at t).ppsError := by
  obtain ⟨a, b, ht⟩ := at_time s t
  have hlast : (s.at t).time.lastPps = some p := by rw [ht]; exact hp
  have hat : (s.at t).now = t := (State.at_now s t).trans (Nat.max_eq_right hnow)
  have hgood : (decide (1000000000 ≤ t - p + 10000) && decide (t - p ≤ 1000000000 + 10000)) = true := by
    simp only [Bool.and_eq_true, decide_eq_true_eq]
    omega
  unfold doPpsEdge
  simp only [State.at_on, hon, hlast, hat, hgood, servo_at, hserv, Bool.not_true, Bool.false_eq_true, if_false, if_true, decide_false,
    Bool.false_and]
  rfl

/-! ## Loss (R263, R264) -/

theorem enterHoldover_heard (s : State) : s.enterHoldover.heard = s.heard := by
  unfold State.enterHoldover
  extract_lets a b c d
  have hd : d.heard = s.heard := setTrim_heard s _
  calc _ = ((d.bump F.TSY_STEPS.HOLDS 1).setF F.TSY_HOLD.S 0).heard := setServo_heard _ _
    _ = (d.bump F.TSY_STEPS.HOLDS 1).heard := setF_heard _ F.TSY_HOLD.S _ (by decide) (by decide)
    _ = d.heard := setF_heard d F.TSY_STEPS.HOLDS _ (by decide) (by decide)
    _ = s.heard := hd

theorem enterFree_heard (s : State) : s.enterFree.heard = s.heard := (setServo_heard _ _).trans (leaveServo_heard s)

theorem dropSource_heard (s : State) : s.dropSource.heard = { s.heard with source := 4 } := by
  unfold State.dropSource
  extract_lets u
  have hu : u.heard = s.heard := heard_ite (enterHoldover_heard s) (heard_ite (enterFree_heard s) rfl)
  rw [setSource_heard _ (by decide), hu]

/-- A source that is lost is accepted no longer; the PPS edges heard stay. -/
theorem loseSource_heard (s : State) (k : Nat) :
    (s.loseSource k).acceptedSrc k = false ∧ (s.loseSource k).time.goodPps = s.time.goodPps := by
  unfold State.loseSource
  extract_lets u
  have hu : u.acceptedSrc k = false := testBit_lose _ _
  split
  · have hdrop := dropSource_heard u
    exact ⟨(congrArg (fun x => x.accepted.testBit k) hdrop).trans hu, congrArg Heard.goodPps hdrop⟩
  · exact ⟨hu, rfl⟩

/-- A window of REF10M in its band accepts REF10M (R262). -/
theorem doRef10mWindow_good {s : State} {dev : Int} (t : Nat) (hon : s.on 3 = true) (hdev : dev.natAbs ≤ 5000000) :
    (doRef10mWindow dev false t s).acceptedSrc 3 = true := by
  unfold doRef10mWindow
  extract_lets u
  have hu : ({ ((u.acceptSource 3).takeSource 3).1.heard with source := 0 } : Heard) = { (u.acceptSource 3).heard with source := 0 } :=
    takeSource_sources _ (by decide)
  have hacc : ((u.acceptSource 3).takeSource 3).1.acceptedSrc 3 = true :=
    (congrArg (fun x => x.accepted.testBit 3) hu).trans (testBit_accept _ _)
  have hkeep : ∀ {w : State}, w.heard = ((u.acceptSource 3).takeSource 3).1.heard → w.acceptedSrc 3 = true := fun h =>
    (congrArg (fun x => x.accepted.testBit 3) h).trans hacc
  rw [if_neg (by simp [u, hon]), if_neg (by simpa using Nat.not_lt.2 hdev)]
  generalize (u.acceptSource 3).takeSource 3 = r at hkeep
  obtain ⟨w, mine⟩ := r
  dsimp only at hkeep ⊢
  split
  · split
    · exact hkeep (pullTrim_heard w)
    · exact hkeep rfl
  · split
    · exact hkeep (heard_ite ((enterLocked_heard _).trans (pullTrim_heard w)) (pullTrim_heard w))
    · exact hkeep (pullTrim_heard w)

theorem doRef10mWindow_bad {s : State} {dev : Int} {missing : Bool} (t : Nat) (hon : s.on 3 = true)
    (h : missing = true ∨ 5000000 < dev.natAbs) : doRef10mWindow dev missing t s = (s.at t).loseSource 3 := by
  unfold doRef10mWindow
  rw [if_neg (by simp [hon]), if_pos (by simpa using h)]

theorem doTimeSourceLost_pps {s : State} {t p : Nat} (hon : s.on 3 = true) (hp : s.time.goodPps = some p)
    (h : p + 3000010000 ≤ max s.now t) :
    doTimeSourceLost 1 t s = ((s.at t).mapTime (fun x => { x with goodPps := none })).loseSource 2 := by
  obtain ⟨a, b, ht⟩ := at_time s t
  have hgone : (s.at t).sourceGone 2 = true := by
    simp only [State.sourceGone, State.at_now]
    rw [ht]
    simp only [hp]
    exact decide_eq_true h
  have hopen : ¬ (!(s.at t).on 3 || !(s.at t).sourceGone 2) = true := by simp [hon, hgone]
  exact if_neg hopen

/-- Settles O36: each command by what it leaves of the sources heard, of the ageing value and of the frame pulse. -/
theorem timeSources : Obligations.TimeSources := by
  refine ⟨?_, ?_, ?_, ?_, ?_, ?_⟩
  · intro s t p hnow hon hserv hp h1 h2
    obtain ⟨hlast, hacc⟩ := ppsTaken_heard ((s.at t).mapTime (fun x => { x with lastPps := some t, goodPps := some t })) (s.at t).ppsError
    rw [← doPpsEdge_good hnow hon hserv hp h1 h2] at hlast hacc
    exact ⟨_, rfl, by rw [State.settle_time, hlast]; rfl, by rw [State.acceptedSrc, State.settle_time]; exact hacc⟩
  · intro s dev t hon hdev
    exact ⟨_, rfl, by rw [State.acceptedSrc, State.settle_time]; exact doRef10mWindow_good t hon hdev⟩
  · intro s dev missing t hon h
    refine ⟨_, rfl, ?_⟩
    rw [State.acceptedSrc, State.settle_time, doRef10mWindow_bad t hon h]
    exact (loseSource_heard _ _).1
  · intro s t p hon hp h
    have hlost := loseSource_heard ((s.at t).mapTime (fun x => { x with goodPps := none })) 2
    rw [← doTimeSourceLost_pps hon hp h] at hlost
    exact ⟨_, rfl, by rw [State.acceptedSrc, State.settle_time]; exact hlost.1, by rw [State.settle_time, hlost.2]; rfl⟩
  · intro s t hon hserv h
    obtain ⟨a, b, ht⟩ := at_time s t
    have hfrom : (s.at t).time.ageFrom = s.time.ageFrom := by rw [ht]
    have hdue : ((s.at t).on 3 && decide ((s.at t).servo = 2) && decide ((s.at t).time.ageFrom + 86400000000000 ≤ (s.at t).now)) = true := by
      simp [hon, servo_at, hserv, hfrom, h]
    refine ⟨_, rfl, ?_⟩
    rw [State.settle_time, doAgeingWrite, if_pos hdue, State.raiseEvt_time]
    exact ⟨State.at_now s t, by rw [← hfrom]; rfl⟩
  · intro s t q hnow hon href hpos hq hlast hrem
    subst hnow hq
    have hdue : (s.on 3 && decide (s.getF F.STE_CTL.REFSRC = 2) && decide (0 < s.getF F.TSY_PULSE.NS) &&
        s.time.lastMultiple.all (fun q => decide (q < s.taiNs / s.getF F.TSY_PULSE.NS * s.getF F.TSY_PULSE.NS)) &&
        decide (s.taiNs % s.getF F.TSY_PULSE.NS < 20)) = true := by
      simp only [hon, href, hpos, hlast, hrem, decide_true, Bool.and_self]
    refine ⟨_, rfl, ?_⟩
    rw [State.settle_ste, State.settle_time, doTsyFramePulse, at_self]
    dsimp only
    rw [if_pos hdue]
    exact ⟨rfl, rfl⟩

end Sys2Proof.Machine
end

section
/-! PROOFS. PTP (O35): the messages of the host-facing port, and the forwarding of event messages. -/

namespace Sys2Proof.Machine

/-! ## Ports under the clock -/

/-- What time changes of a port is what waits on it: the rest of it stays. -/
def Port.still (x : Port) : Port := { x with linkBits := 0, c1Bits := 0, fwdBits := 0, ctlBits := 0, ownBits := 0, bucket := 0, idleFrom := 0 }

theorem drain_still (x : Port) (rate ceil_ now dt : Nat) : (x.drain rate ceil_ now dt).still = x.still := by
  unfold Port.drain
  extract_lets
  split <;> rfl

theorem nth_setNth {β : Type} (d v : β) (l : List β) (i j : Nat) :
    nth d (setNth l i v) j = if j = i ∧ i < l.length then v else nth d l j := by
  simp only [nth, setNth, List.getD, List.getElem?_set]
  by_cases h : i = j
  · subst h
    by_cases hl : i < l.length <;> simp [hl]
  · simp [h, Ne.symm h]

/-- A port after one port has been changed. -/
theorem port_mapPort (s : State) (p q : Nat) (g : Port → Port) :
    (s.mapPort p g).port q = if q = p ∧ p < s.net.ports.length then g (s.port p) else s.port q := nth_setNth _ _ _ _ _

theorem drainPort_still (s : State) (p dt q : Nat) : ((s.drainPort p dt).port q).still = (s.port q).still := by
  unfold State.drainPort
  split
  · dsimp only
    rw [port_mapPort]
    split
    · next h =>
      rw [h.1]
      split
      · rfl
      · exact drain_still _ _ _ _ _
    · rfl
  · rfl

theorem runTai_net (s : State) (dt : Nat) : (s.runTai dt).net = s.net := by
  unfold State.runTai
  split <;> rfl

theorem at_still (s : State) (t q : Nat) : ((s.at t).port q).still = (s.port q).still := by
  unfold State.at
  split
  · refine (drainPort_still _ 1 _ q).trans ((drainPort_still _ 0 _ q).trans ?_)
    rw [State.port, runTai_net, State.port]
  · rfl

/-- Time moves nothing of the ports but what waits on each. -/
theorem at_net (s : State) (t : Nat) : ∃ l, (s.at t).net = { s.net with ports := l } ∧ l.length = s.net.ports.length := by
  have drain : ∀ (u : State) (p dt : Nat), ∃ l, (u.drainPort p dt).net = { u.net with ports := l } ∧ l.length = u.net.ports.length := by
    intro u p dt
    unfold State.drainPort
    split
    · exact ⟨_, rfl, List.length_set⟩
    · exact ⟨_, rfl, rfl⟩
  unfold State.at
  split
  · obtain ⟨l, hl, hn⟩ := drain (s.runTai (t - s.now)) 0 (t - s.now)
    obtain ⟨m, hm, hk⟩ := drain ((s.runTai (t - s.now)).drainPort 0 (t - s.now)) 1 (t - s.now)
    rw [runTai_net] at hl hn
    rw [hl] at hm hk
    exact ⟨m, hm, hk.trans hn⟩
  · exact ⟨_, rfl, rfl⟩

theorem portActive_at (s : State) (t p : Nat) : (s.at t).portActive p = s.portActive p := by
  simp only [State.portActive, State.at_getF, State.at_on]

theorem hostPort_at (s : State) (t : Nat) : (s.at t).hostPort = s.hostPort := by
  obtain ⟨l, h, -⟩ := at_net s t
  simp only [State.hostPort, h]

/-! ## Announce, Sync and path delay (R262, R268, R270) -/

/-- What a message that is taken does. -/
def State.takePtp (s : State) : PtpMessage → State
  | .announce gm p1 cc utc v l59 l61 li best => s.takeAnnounce gm p1 cc utc v l59 l61 li best
  | .sync o r c li => s.takeSync o (s.landRx s.hostPort r) c li
  | .pathDelay raw =>
    (s.mapTime (fun x => { x with path := s.landPath s.hostPort raw })).setI F.TSY_PATH.VALUE (truncDiv (s.landPath s.hostPort raw) 4096)

/-- A message on the host-facing port of the domain and transport in force is taken. -/
theorem doPtpMessage_taken {s : State} {portB : Bool} {domain transport : Nat} (msg : PtpMessage) (t : Nat) (hon : s.on 3 = true)
    (hport : portB = s.flag F.TSY_STAT.PORT) (hdom : domain = s.getF F.TSY_CTL.DOMAIN) (htr : transport = s.getF F.TSY_CTL.TRANSPORT) :
    doPtpMessage portB domain transport msg t s = (s.at t).takePtp msg := by
  have hmine : ¬ (!(s.at t).on 3 || portB != (s.at t).flag F.TSY_STAT.PORT || decide (domain ≠ (s.at t).getF F.TSY_CTL.DOMAIN) ||
      decide (transport ≠ (s.at t).getF F.TSY_CTL.TRANSPORT)) = true := by
    simp [hon, hport, hdom, htr]
  refine (if_neg hmine).trans ?_
  cases msg <;> rfl

theorem gmUpdate_getF (s : State) {f : Field} (h : f.addr ≠ F.TSY_STAT.GM.addr ∨ f.lsb + f.width ≤ 10 ∨ 11 ≤ f.lsb) :
    s.gmUpdate.getF f = s.getF f := by
  unfold State.gmUpdate
  extract_lets g u
  have hu : u.getF f = s.getF f := getF_setF_beside s _ f _ (by decide) h
  split
  · exact hu
  · exact hu

/-- An Announce that is the best, and better than the unit, makes its sender the master. -/
theorem takeAnnounce_master {s : State} {gm p1 cc : Nat} (utc li : Int) (v l59 l61 : Bool) (h : s.outranks p1 cc = false) :
    let u := s.takeAnnounce gm p1 cc utc v l59 l61 li true
    u.time.master = true ∧ u.getF F.TSY_GM_LO.ID = gm % 2 ^ 32 ∧ u.getF F.TSY_GM_HI.ID = gm / 2 ^ 32 % 2 ^ 32 ∧
      u.getF F.TSY_STAT.UTC_VALID = if v then 1 else 0 := by
  unfold State.takeAnnounce
  rw [if_neg (by simp [h])]
  extract_lets old new a b c d u
  have heard : u.heard = d.heard := (gmUpdate_heard _).trans (heard_ite (raiseEvt_heard d 5 3) rfl)
  have hreg : ∀ f : Field, (f.addr ≠ 0x5104 ∨ f.lsb + f.width ≤ 10 ∨ 11 ≤ f.lsb) → f.addr ≠ 0x5010 → u.getF f = d.getF f := by
    intro f hf hi
    refine (gmUpdate_getF _ hf).trans ?_
    split
    · exact State.raiseEvt_getF d 5 3 f hi
    · rfl
  have hid : ∀ f : Field, f.addr ≠ 0x5104 → f.addr ≠ F.TSY_UTC.OFFSET.addr → d.getF f = b.getF f := by
    intro f h1 h2
    exact (getF_setF_other c F.TSY_STAT.UTC_VALID f _ h1).trans ((getF_setF_other _ F.TSY_UTC.LEAP61 f _ h2).trans
      ((getF_setF_other _ F.TSY_UTC.LEAP59 f _ h2).trans (getF_setF_other b F.TSY_UTC.OFFSET f _ h2)))
  refine ⟨congrArg Heard.master heard, ?_, ?_, ?_⟩
  · rw [hreg _ (by decide) (by decide), hid _ (by decide) (by decide)]
    exact (getF_setF_other _ F.TSY_GM_HI.ID _ _ (by decide)).trans (getF_setF_self a F.TSY_GM_LO.ID gm (by decide))
  · rw [hreg _ (by decide) (by decide), hid _ (by decide) (by decide)]
    exact getF_setF_self _ F.TSY_GM_HI.ID _ (by decide)
  · rw [hreg _ (by decide) (by decide)]
    refine (getF_setF_self c F.TSY_STAT.UTC_VALID _ (by decide)).trans ?_
    cases v <;> rfl

theorem outranks_at (s : State) (t p1 cc : Nat) : (s.at t).outranks p1 cc = s.outranks p1 cc := by
  obtain ⟨a, b, h⟩ := at_time s t
  have hclass : (s.at t).clockClass = s.clockClass := by
    simp only [State.clockClass, State.servo, State.timeSource, State.flag_eq, State.at_getF, h]
    rfl
  rw [State.outranks, State.flag_eq, State.at_getF, hclass, State.outranks, State.flag_eq]

theorem outranks_false {s : State} {p1 cc : Nat} (h : s.getF F.TSY_CTL.GM_EN = 0 ∨ p1 < 250 ∨ p1 = 250 ∧ cc ≤ s.clockClass) :
    s.outranks p1 cc = false := by
  simp only [State.outranks, State.flag_eq, Bool.and_eq_false_iff, bne_eq_false_iff_eq, decide_eq_false_iff_not]
  omega

/-- The third Sync in a row, or a later one, with SRC calling for PTP is measured with PTP accepted and in use. -/
theorem takeSync_measures {s : State} {o r c li : Int} (hm : s.time.master = true) (hsync : 2 ≤ s.time.syncs) (h1 : -7 ≤ li) (h2 : li ≤ 0)
    (hsrc : s.getF F.TSY_CTL.SRC = 1) :
    ∃ w e, s.takeSync o r c li = (State.measurePhase w e).setF F.TSY_STAT.TIME_SET 1 ∧ w.heard.syncs = s.time.syncs + 1 ∧
      w.heard.accepted.testBit 1 = true ∧ w.heard.source = 1 := by
  unfold State.takeSync
  rw [if_neg (by simp [hm, h1, h2])]
  extract_lets a b
  have hb : b = a.acceptSource 1 := if_pos (show 3 ≤ s.time.syncs + 1 by omega)
  have hacc : b.acceptedSrc 1 = true := by rw [hb]; exact acceptSource_accepts a 1
  have hcalls : b.getF F.TSY_CTL.SRC = 1 := by rw [hb]; exact hsrc
  have hwant : b.wantedSource = some 1 := by
    unfold State.wantedSource
    rw [hcalls]
    exact if_pos hacc
  have hheard := takeSource_heard b (k := 1) (by decide)
  have hmine : (b.takeSource 1).2 = true := by rw [State.takeSource, if_pos hwant]
  rw [if_pos hwant] at hheard
  refine ⟨(b.takeSource 1).1, _, if_pos hmine, ?_⟩
  rw [hheard]
  exact ⟨by rw [hb]; rfl, hacc, rfl⟩

/-- Such a Sync leaves PTP accepted and in use, and the time set. -/
theorem takeSync_takes {s : State} {o r c li : Int} (hm : s.time.master = true) (hsync : 2 ≤ s.time.syncs) (h1 : -7 ≤ li) (h2 : li ≤ 0)
    (hsrc : s.getF F.TSY_CTL.SRC = 1) :
    (s.takeSync o r c li).time.syncs = s.time.syncs + 1 ∧ (s.takeSync o r c li).acceptedSrc 1 = true ∧
      (s.takeSync o r c li).timeSource = 1 ∧ (s.takeSync o r c li).getF F.TSY_STAT.TIME_SET = 1 := by
  obtain ⟨w, e, hw, hsyncs, hacc, huse⟩ := takeSync_measures (o := o) (r := r) (c := c) hm hsync h1 h2 hsrc
  have hu : ((w.measurePhase e).setF F.TSY_STAT.TIME_SET 1).heard = w.heard :=
    (setF_heard _ F.TSY_STAT.TIME_SET 1 (by decide) (by decide)).trans (measurePhase_heard w e)
  rw [hw]
  exact ⟨(congrArg Heard.syncs hu).trans hsyncs, (congrArg (fun x => x.accepted.testBit 1) hu).trans hacc, (congrArg Heard.source hu).trans huse,
    getF_setF_of_lt _ F.TSY_STAT.TIME_SET (by decide) (by decide)⟩

/-! ## Forwarding (R269, R270, R302) -/

theorem landTx_at (s : State) (t p : Nat) (x : Int) : (s.at t).landTx p x = s.landTx p x := by rw [State.landTx, State.at_getF, State.landTx]

theorem landRx_at (s : State) (t p : Nat) (x : Int) : (s.at t).landRx p x = s.landRx p x := by rw [State.landRx, State.at_getF, State.landRx]

theorem calibrated_at (s : State) (t out : Nat) : (s.at t).calibrated out = s.calibrated out := by
  have hstill := congrArg Port.residence (at_still s t out)
  have hres : ((s.at t).port out).residence = (s.port out).residence := hstill
  rw [State.calibrated, State.flag_eq, State.at_getF, hres, State.calibrated, State.flag_eq]

theorem residenceOf_at (s : State) (t out : Nat) (i e d r : Int) : (s.at t).residenceOf out i e d r = s.residenceOf out i e d r := by
  rw [State.residenceOf, landTx_at, landRx_at, calibrated_at, State.at_getF, State.residenceOf]

/-- An event message is forwarded with its residence added, and counted. -/
theorem doPtpForward_event {s : State} {fromB : Bool} {seq : Nat} {correction ingress egress linkDelay ratio : Int} (t : Nat)
    (hon : s.on 3 = true) (h0 : s.portActive 0 = true) (h1 : s.portActive 1 = true) :
    let out := if fromB then 0 else 1
    doPtpForward fromB .event seq correction ingress egress linkDelay ratio t s =
      (((s.at t).mapPort out (fun x => { x with linkBits := x.linkBits + frameBits 44 })).emit
        (.ptp out 4 seq (correction + s.residenceOf out ingress egress linkDelay ratio))).bump F.TSY_FWD.COUNT 1 := by
  intro out
  have hout : s.portActive out = true ∧ s.portActive (1 - out) = true := by
    cases fromB
    · exact ⟨h1, h0⟩
    · exact ⟨h0, h1⟩
  have hgo : ¬ (!(s.at t).on 3 || !(s.at t).portActive (1 - out) || !(s.at t).portActive out) = true := by
    simp [portActive_at, hon, hout]
  rw [← residenceOf_at s t]
  exact if_neg hgo

/-- Settles O35: each message by what it leaves of the time base, the forwarded one by what it leaves on the egress port. -/
theorem ptpMessages : Obligations.PtpMessages := by
  refine ⟨?_, ?_, ?_, ?_⟩
  · intro s portB domain transport gm p1 cc utc logInterval v l59 l61 t hon hport hdom htr hrank
    obtain ⟨hm, hlo, hhi, hutc⟩ := takeAnnounce_master (s := s.at t) (gm := gm) utc logInterval v l59 l61
      ((outranks_at s t p1 cc).trans (outranks_false hrank))
    have hdo : doPtpMessage portB domain transport (.announce gm p1 cc utc v l59 l61 logInterval true) t s =
        (s.at t).takeAnnounce gm p1 cc utc v l59 l61 logInterval true := doPtpMessage_taken _ t hon hport hdom htr
    rw [← hdo] at hm hlo hhi hutc
    exact ⟨_, rfl, by rw [State.settle_time, hm], by rw [State.settle_getF _ _ (by decide), hlo],
      by rw [State.settle_getF _ _ (by decide), hhi], by rw [State.settle_getF _ _ (by decide), hutc]⟩
  · intro s portB domain transport o r c logInterval t hon hport hdom htr hm hsync h1 h2 hsrc
    obtain ⟨a, b, ht⟩ := at_time s t
    have hm' : (s.at t).time.master = true := by rw [ht]; exact hm
    have hn : (s.at t).time.syncs = s.time.syncs := by rw [ht]
    obtain ⟨hs, hacc, huse, hset⟩ := takeSync_takes (s := s.at t) (o := o) (r := (s.at t).landRx (s.at t).hostPort r) (c := c) hm'
      (by rw [hn]; exact hsync) h1 h2 (by rw [State.at_getF]; exact hsrc)
    have hdo : doPtpMessage portB domain transport (.sync o r c logInterval) t s =
        (s.at t).takeSync o ((s.at t).landRx (s.at t).hostPort r) c logInterval := doPtpMessage_taken _ t hon hport hdom htr
    rw [← hdo] at hs hacc huse hset
    exact ⟨_, rfl, by rw [State.settle_time, hs, hn], by rw [State.acceptedSrc, State.settle_time]; exact hacc,
      (State.settle_getF _ _ (by decide)).trans huse, by rw [State.settle_getF _ _ (by decide), hset]⟩
  · intro s portB domain transport d t hon hport hdom htr
    refine ⟨_, rfl, ?_⟩
    rw [State.settle_time, doPtpMessage_taken (.pathDelay d) t hon hport hdom htr]
    refine ⟨?_, rfl⟩
    show (s.at t).landPath (s.at t).hostPort d = _
    rw [State.landPath, State.at_getF, State.at_getF, hostPort_at]
  · intro s fromB seq correction ingress egress linkDelay ratio t hs hon h0 h1 hprof
    have hdo := doPtpForward_event (fromB := fromB) (seq := seq) (correction := correction) (ingress := ingress) (egress := egress)
      (linkDelay := linkDelay) (ratio := ratio) t hon h0 h1
    have hother : ∀ b : Bool, 1 - (if b then 0 else 1) = if b then 1 else 0 := by decide
    have hres : s.residenceOf (if fromB then 0 else 1) ingress egress linkDelay ratio =
        s.landTx (if fromB then 0 else 1) egress - s.landRx (if fromB then 1 else 0) ingress - s.calibrated (if fromB then 0 else 1) := by
      rw [State.residenceOf, hprof, hother]
      rfl
    dsimp only at hdo
    rw [hres] at hdo
    have hquiet : (doPtpForward fromB .event seq correction ingress egress linkDelay ratio t s).rcd.pulses = [] := by
      rw [hdo]
      exact (congrArg RecState.pulses (State.at_rcd s t)).trans hs.2
    refine ⟨_, rfl, ?_, ?_⟩
    · rw [settle_of_no_pulses hquiet, hdo]
      exact congrArg (List.cons _) (congrArg TransportState.out (State.at_tp s t))
    · rw [State.settle_getF _ _ (by decide), hdo]
      refine (getF_setF_min _ F.TSY_FWD.COUNT _ (by decide)).trans ?_
      exact congrArg (fun n => min (n + 1) (2 ^ F.TSY_FWD.COUNT.width - 1)) (State.at_getF s t _)

end Sys2Proof.Machine
end

section
/-! PROOFS. Registers of a page beyond its header, and the spare channels of the LP-DRAM (O44). -/

namespace Sys2Proof.Machine

/-! ## Registers beyond the header of their page

Outside CAL they are written by no event, no spare pool and no end of a command. -/

abbrev blockWord (a : Nat) : Prop := a < 0x1A000 ∧ a / 0x1000 ≠ 6 ∧ 0x100 ≤ a % 0x1000

section
variable {f : Field} (hf : blockWord f.addr)
include hf

theorem raiseEvt_getF_block (s : State) (p bit : Nat) : (s.raiseEvt p bit).getF f = s.getF f :=
  State.raiseEvt_getF s p bit f (by omega)

theorem setF_header_getF_block (s : State) (p off lsb width v : Nat) (hoff : off < 0x100) :
    (s.setF ⟨p * 0x1000 + off, lsb, width⟩ v).getF f = s.getF f :=
  getF_setF_other s _ f v (by show f.addr ≠ p * 0x1000 + off; omega)

theorem setF_inst_getF_block (s : State) (g : Field) (i v : Nat) : (s.setF (g.inst i) v).getF f = s.getF f :=
  getF_setF_inst s g f i v (by omega)

theorem poolTrigger_getF_block (s : State) (page cause : Nat) : (s.poolTrigger page cause).getF f = s.getF f :=
  poolTrigger_getF s page cause (by omega) (by omega) (by omega)

theorem partTaken_getF_block (s : State) : s.partTaken.getF f = s.getF f := raiseEvt_getF_block hf s 6 0

theorem spareTaken_getF_block (s : State) (p : Nat) : (s.spareTaken p).getF f = s.getF f :=
  (partTaken_getF_block hf _).trans (raiseEvt_getF_block hf s p 29)

theorem settle_getF_block (s : State) : s.settle.getF f = s.getF f := State.settle_getF s f (by omega)

end

/-- Bit `j` of a field after one of its bits has been written. -/
theorem bitF_setBit (s : State) (f : Field) (i j : Nat) (b : Bool) (hf : f.lsb + f.width ≤ 32) (hi : i < f.width) :
    (s.setBit f i b).bitF f j = if j = i then b else s.bitF f j := by
  split
  · next h => exact h ▸ testBit_getF_setBit s f i b hf hi
  · next h =>
    simp only [State.bitF, setBit_eq_setF, getF_setF_self _ _ _ hf, Nat.testBit_mod_two_pow]
    by_cases hj : j < f.width
    · simp [hj, testBit_withBit_other b _ h]
    · have hlow : s.getF f < 2 ^ j := (Nat.mod_lt _ (Nat.two_pow_pos _)).trans_le (Nat.pow_le_pow_right (by decide) (Nat.le_of_not_lt hj))
      simp [hj, Nat.testBit_lt_two_pow hlow]

theorem bitF_congr {s t : State} {f : Field} (h : t.getF f = s.getF f) (i : Nat) : t.bitF f i = s.bitF f i := by
  rw [State.bitF, h, State.bitF]

/-! ## Channels that fail (R334, R336) -/

/-- Channel `c` as marked failed. -/
def State.markChannel (s : State) (c : Nat) : State :=
  (((s.setBit F.MEM_CHAN.FAILED c true).setBit F.MEM_CHAN.ACTIVE c false).raiseEvt 22 0).setBit (H.SPARE_MAP 22) c true

/-- What an event and the header of the page leave of the channels' bits. -/
theorem markChannel_channels (s : State) (c : Nat) {f : Field} (hf : blockWord f.addr) :
    (s.markChannel c).getF f = ((s.setBit F.MEM_CHAN.FAILED c true).setBit F.MEM_CHAN.ACTIVE c false).getF f :=
  (setF_header_getF_block hf _ 22 0x24 16 16 _ (by decide)).trans (raiseEvt_getF_block hf _ 22 0)

theorem markChannel_failed (s : State) (c n : Nat) (hc : c < 10) :
    (s.markChannel c).bitF F.MEM_CHAN.FAILED n = if n = c then true else s.bitF F.MEM_CHAN.FAILED n :=
  (bitF_congr ((markChannel_channels s c (by decide)).trans
    (getF_setBit_beside _ F.MEM_CHAN.ACTIVE F.MEM_CHAN.FAILED _ _ (by decide) (by decide))) n).trans
    (bitF_setBit s F.MEM_CHAN.FAILED c n true (by decide) hc)

theorem markChannel_active (s : State) (c n : Nat) (hc : c < 10) :
    (s.markChannel c).bitF F.MEM_CHAN.ACTIVE n = if n = c then false else s.bitF F.MEM_CHAN.ACTIVE n :=
  (bitF_congr (markChannel_channels s c (by decide)) n).trans <|
    (bitF_setBit _ F.MEM_CHAN.ACTIVE c n false (by decide) hc).trans <|
      congrArg (fun b => if n = c then false else b)
        (bitF_congr (getF_setBit_beside s F.MEM_CHAN.FAILED F.MEM_CHAN.ACTIVE c true (by decide) (by decide)) n)

theorem markChannel_mem (s : State) (c : Nat) : (s.markChannel c).mem = s.mem := by
  rw [State.markChannel, State.setBit_mem, State.raiseEvt_mem, State.setBit_mem, State.setBit_mem]

theorem dropIdleChannel_getF (s : State) {f : Field} (hf : blockWord f.addr) : s.dropIdleChannel.getF f = s.getF f := by
  have hset : (s.setF (H.SPARE_LEFT 22) (s.getF (H.SPARE_LEFT 22) - 1)).getF f = s.getF f :=
    setF_header_getF_block hf s 22 0x24 8 8 _ (by decide)
  unfold State.dropIdleChannel
  dsimp only
  split
  · exact (poolTrigger_getF_block hf _ 22 0x40).trans hset
  · exact hset

/-- A failed spare that no copy fills is one idle channel less. -/
theorem spareChannelFails_idle {s : State} {c : Nat} (h : s.rebuilds.all (fun r => !r.planned || r.into != c) = true) :
    s.spareChannelFails c = (s.raiseEvt 22 29).dropIdleChannel := by
  have hnone : (s.raiseEvt 22 29).rebuilds.find? (fun r => r.planned && r.into = c) = none := by
    rw [State.rebuilds, State.raiseEvt_mem, ← State.rebuilds, List.find?_eq_none]
    intro r hr
    have := List.all_eq_true.mp h r hr
    cases hp : r.planned <;> simp_all
  unfold State.spareChannelFails
  dsimp only
  rw [hnone]

/-- The clock has advanced and the errors of the loss are counted. -/
def State.noteErrors (s : State) (t c errors : Nat) : State := (s.at t).bump (F.MEM_ERR.UNCORR.inst c) errors

theorem noteErrors_getF (s : State) (t c errors : Nat) {f : Field} (hf : blockWord f.addr) :
    (s.noteErrors t c errors).getF f = s.getF f :=
  (setF_inst_getF_block hf (s.at t) F.MEM_ERR.UNCORR c _).trans (State.at_getF s t f)

theorem noteErrors_mem (s : State) (t c errors : Nat) : (s.noteErrors t c errors).mem = s.mem := by
  rw [State.noteErrors, State.bump_eq, State.setF_mem, State.at_mem]

theorem noteErrors_on (s : State) (t c errors d : Nat) : (s.noteErrors t c errors).on d = s.on d := by
  rw [State.noteErrors, State.bump_eq, State.setF_on, State.at_on]

/-- A sound spare fails. -/
theorem doDramChannelFailure_spare {s : State} {chan : Fin 10} (errors t : Nat) (hon : s.on 5 = true)
    (hfailed : s.bitF F.MEM_CHAN.FAILED chan = false) (hactive : s.bitF F.MEM_CHAN.ACTIVE chan = false) :
    doDramChannelFailure chan errors t s = ((s.noteErrors t chan errors).markChannel chan).spareChannelFails chan := by
  have hon' : (s.at t).on 5 = true := (State.at_on s t 5).trans hon
  have hf : (s.noteErrors t chan errors).bitF F.MEM_CHAN.FAILED chan = false :=
    (bitF_congr (noteErrors_getF s t chan errors (by decide)) _).trans hfailed
  have ha : (s.noteErrors t chan errors).bitF F.MEM_CHAN.ACTIVE chan = false :=
    (bitF_congr (noteErrors_getF s t chan errors (by decide)) _).trans hactive
  have hon2 : (s.noteErrors t chan errors).on 5 = true := (noteErrors_on ..).trans hon
  unfold doDramChannelFailure
  extract_lets +onlyGivenNames z c y was
  have hy : y = s.noteErrors t chan errors := if_pos hon'
  have hwas : was = false := by rw [show was = y.bitF F.MEM_CHAN.ACTIVE c from rfl, hy]; exact ha
  rw [hwas, hy]
  exact (if_neg (by rw [hon2, hf]; decide)).trans rfl

/-- A sound spare that no copy fills fails: it is one idle channel less. -/
theorem doDramChannelFailure_idle {s : State} {chan : Fin 10} (errors t : Nat) (hon : s.on 5 = true)
    (hfailed : s.bitF F.MEM_CHAN.FAILED chan = false) (hactive : s.bitF F.MEM_CHAN.ACTIVE chan = false)
    (hfill : s.rebuilds.all (fun r => !r.planned || r.into != chan.val) = true) :
    doDramChannelFailure chan errors t s = (((s.noteErrors t chan errors).markChannel chan).raiseEvt 22 29).dropIdleChannel := by
  rw [doDramChannelFailure_spare errors t hon hfailed hactive]
  refine spareChannelFails_idle ?_
  rw [State.rebuilds, markChannel_mem, noteErrors_mem]
  exact hfill

/-! ## The spare that takes over (R334) -/

theorem showRebuild_getF (s : State) {f : Field} (hf : f.addr ≠ 0x16104) : s.showRebuild.getF f = s.getF f := by
  unfold State.showRebuild
  split
  · exact (getF_setF_other _ F.MEM_REBUILD.INTO f _ hf).trans
      ((getF_setF_other _ F.MEM_REBUILD.FROM f _ hf).trans (getF_setF_other _ F.MEM_REBUILD.STATE f _ hf))
  · exact getF_setF_other _ F.MEM_REBUILD.STATE f _ hf

/-- A rebuild begins, and the registers show it. -/
def State.beginRebuild (s : State) (r : Rebuild) : State :=
  let s := (s.setRebuilds (s.rebuilds ++ [r])).showRebuild
  if s.getF (H.SPARE_LEFT 22) = 0 then s.poolTrigger 22 0x40 else s

theorem beginRebuild_getF (s : State) (r : Rebuild) {f : Field} (hf : blockWord f.addr) (hm : f.addr ≠ 0x16104) :
    (s.beginRebuild r).getF f = s.getF f := by
  unfold State.beginRebuild
  dsimp only
  split
  · exact (poolTrigger_getF_block hf _ 22 0x40).trans (showRebuild_getF _ hm)
  · exact showRebuild_getF _ hm

theorem beginRebuild_mem (s : State) (r : Rebuild) : (s.beginRebuild r).mem = (s.setRebuilds (s.rebuilds ++ [r])).mem := by
  unfold State.beginRebuild
  dsimp only
  split
  · exact (poolTrigger_part (π := .memory) (by decide) _ 22 0x40).trans (showRebuild_part (π := .memory) _)
  · exact showRebuild_part (π := .memory) _

/-- Spare `sp` is active in place of channel `c`, and `BLK_SPARE` says so. -/
def State.useChannel (s : State) (c sp : Nat) : State :=
  let s := (s.setBit F.MEM_CHAN.ACTIVE sp true).bump (H.SPARE_USED 22) 1
  (s.setF (H.SPARE_LEFT 22) (s.getF (H.SPARE_LEFT 22) - 1)).setBit (H.SPARE_MAP 22) c true

theorem useChannel_getF (s : State) (c sp : Nat) {f : Field} (hf : blockWord f.addr) :
    (s.useChannel c sp).getF f = (s.setBit F.MEM_CHAN.ACTIVE sp true).getF f :=
  (setF_header_getF_block hf _ 22 0x24 16 16 _ (by decide)).trans
    ((setF_header_getF_block hf _ 22 0x24 8 8 _ (by decide)).trans (setF_header_getF_block hf _ 22 0x24 0 8 _ (by decide)))

theorem useChannel_beside (s : State) (c sp : Nat) : (s.useChannel c sp).mem = s.mem ∧ (s.useChannel c sp).now = s.now := by
  unfold State.useChannel
  extract_lets u
  refine ⟨?_, ?_⟩
  · rw [State.setBit_mem, State.setF_mem]
    exact (State.setF_mem _ _ _).trans (State.setBit_mem _ _ _ _)
  · rw [State.setBit_now, State.setF_now]
    exact (State.setF_now _ _ _).trans (State.setBit_now _ _ _ _)

theorem spareTaken_now (s : State) (p : Nat) : (s.spareTaken p).now = s.now :=
  (State.raiseEvt_now (s.raiseEvt p 29) 6 0).trans (State.raiseEvt_now s p 29)

theorem takeSpareChannel_unplanned (s : State) (c sp : Nat) :
    s.takeSpareChannel c sp false =
      (((((s.useChannel c sp).setBit F.MEM_CHAN.FAILED c true).spareTaken 22).raiseEvt 22 1).beginRebuild
        ⟨c, sp, false, ((((s.useChannel c sp).setBit F.MEM_CHAN.FAILED c true).spareTaken 22).raiseEvt 22 1).now⟩) := rfl

theorem takeSpareChannel_channels (s : State) (c sp : Nat) {f : Field} (hf : blockWord f.addr) (hm : f.addr ≠ 0x16104) :
    (s.takeSpareChannel c sp false).getF f = ((s.useChannel c sp).setBit F.MEM_CHAN.FAILED c true).getF f := by
  rw [takeSpareChannel_unplanned]
  exact (beginRebuild_getF _ _ hf hm).trans ((raiseEvt_getF_block hf _ 22 1).trans (spareTaken_getF_block hf _ 22))

theorem takeSpareChannel_failed (s : State) {c : Nat} (sp n : Nat) (hc : c < 10) :
    (s.takeSpareChannel c sp false).bitF F.MEM_CHAN.FAILED n = if n = c then true else s.bitF F.MEM_CHAN.FAILED n :=
  (bitF_congr (takeSpareChannel_channels s c sp (by decide) (by decide)) n).trans <|
    (bitF_setBit _ F.MEM_CHAN.FAILED c n true (by decide) hc).trans <| congrArg (fun b => if n = c then true else b) <|
      bitF_congr ((useChannel_getF s c sp (by decide)).trans
        (getF_setBit_beside s F.MEM_CHAN.ACTIVE F.MEM_CHAN.FAILED sp true (by decide) (by decide))) n

theorem takeSpareChannel_active (s : State) (c n : Nat) {sp : Nat} (hsp : sp < 10) :
    (s.takeSpareChannel c sp false).bitF F.MEM_CHAN.ACTIVE n = if n = sp then true else s.bitF F.MEM_CHAN.ACTIVE n :=
  (bitF_congr ((takeSpareChannel_channels s c sp (by decide) (by decide)).trans
    ((getF_setBit_beside _ F.MEM_CHAN.FAILED F.MEM_CHAN.ACTIVE c true (by decide) (by decide)).trans (useChannel_getF s c sp (by decide)))) n).trans
    (bitF_setBit s F.MEM_CHAN.ACTIVE sp n true (by decide) hsp)

/-- With no rebuild in progress the new one is the only one. -/
theorem takeSpareChannel_rebuild {s : State} (c sp : Nat) (h : s.rebuilds = []) :
    (s.takeSpareChannel c sp false).mem.rebuild = some ⟨c, sp, false, s.now⟩ := by
  obtain ⟨husedMem, husedNow⟩ := useChannel_beside s c sp
  have htaken (u : State) : (u.spareTaken 22).mem = u.mem := spareTaken_part (π := .memory) (by decide) u 22
  have hmem : ((((s.useChannel c sp).setBit F.MEM_CHAN.FAILED c true).spareTaken 22).raiseEvt 22 1).mem = s.mem := by
    rw [State.raiseEvt_mem, htaken, State.setBit_mem, husedMem]
  have hnow : ((((s.useChannel c sp).setBit F.MEM_CHAN.FAILED c true).spareTaken 22).raiseEvt 22 1).now = s.now := by
    rw [State.raiseEvt_now, spareTaken_now, State.setBit_now, husedNow]
  have hreb : ((((s.useChannel c sp).setBit F.MEM_CHAN.FAILED c true).spareTaken 22).raiseEvt 22 1).rebuilds = [] := by
    rw [State.rebuilds, hmem]; exact h
  rw [takeSpareChannel_unplanned, beginRebuild_mem, hreb, hnow]
  rfl

/-- A channel in service fails and the lowest idle spare takes its place. -/
theorem doDramChannelFailure_active {s : State} {chan : Fin 10} {sp : Nat} (errors t : Nat) (hon : s.on 5 = true)
    (hactive : s.bitF F.MEM_CHAN.ACTIVE chan = true) (hreb : s.rebuilds = []) (hpar : s.mem.noParity = false)
    (hidle : ((s.noteErrors t chan errors).markChannel chan).idleChannel = some sp) :
    doDramChannelFailure chan errors t s = ((s.noteErrors t chan errors).markChannel chan).takeSpareChannel chan sp false := by
  have hon' : (s.at t).on 5 = true := (State.at_on s t 5).trans hon
  have ha : (s.noteErrors t chan errors).bitF F.MEM_CHAN.ACTIVE chan = true :=
    (bitF_congr (noteErrors_getF s t chan errors (by decide)) _).trans hactive
  have hon2 : (s.noteErrors t chan errors).on 5 = true := (noteErrors_on ..).trans hon
  have hmem : ((s.noteErrors t chan errors).markChannel chan).mem = s.mem := (markChannel_mem _ _).trans (noteErrors_mem s t chan errors)
  have hreb' : ((s.noteErrors t chan errors).markChannel chan).rebuilds = [] := by rw [State.rebuilds, hmem]; exact hreb
  have hpar' : ((s.noteErrors t chan errors).markChannel chan).mem.noParity = false := by rw [hmem]; exact hpar
  unfold doDramChannelFailure
  extract_lets +onlyGivenNames z c y was
  have hy : y = s.noteErrors t chan errors := if_pos hon'
  have hwas : was = true := by rw [show was = y.bitF F.MEM_CHAN.ACTIVE c from rfl, hy]; exact ha
  rw [hwas, hy, if_neg (by rw [hon2]; simp)]
  extract_lets +onlyGivenNames v w copy copied lose
  have hw : w = (s.noteErrors t chan errors).markChannel chan := rfl
  have hcopy : copy = none := by
    show w.rebuilds.find? _ = none
    rw [hw, hreb']; rfl
  have hlose : lose = w := by
    show (if w.mem.noParity then _ else match w.rebuilding with | some r => _ | none => w) = w
    rw [hw, hpar', State.rebuilding, hreb']; rfl
  rw [hcopy, hlose]
  show (match w.idleChannel with | none => _ | some sp => w.takeSpareChannel c sp false) = _
  rw [hw, hidle]

/-- The failed channel was none of the idle ones. -/
theorem markChannel_idleChannel {s : State} {c : Nat} (hc : c < 10) (ha : s.bitF F.MEM_CHAN.ACTIVE c = true) :
    (s.markChannel c).idleChannel = s.idleChannel := by
  have hreb : (s.markChannel c).rebuilds = s.rebuilds := by rw [State.rebuilds, markChannel_mem, State.rebuilds]
  unfold State.idleChannel
  dsimp only
  congr 1
  funext n
  rw [hreb, markChannel_active s c n hc, markChannel_failed s c n hc]
  by_cases hn : n = c
  · rw [if_pos hn, if_pos hn, hn, ha]; rfl
  · rw [if_neg hn, if_neg hn]

theorem noteErrors_idleChannel (s : State) (t c errors : Nat) : (s.noteErrors t c errors).idleChannel = s.idleChannel := by
  simp only [State.idleChannel, State.rebuilds, noteErrors_mem, State.bitF, noteErrors_getF s t c errors (f := F.MEM_CHAN.ACTIVE) (by decide),
    noteErrors_getF s t c errors (f := F.MEM_CHAN.FAILED) (by decide)]

theorem idleChannel_spec {s : State} {sp : Nat} (h : s.idleChannel = some sp) : sp < 10 ∧ s.bitF F.MEM_CHAN.ACTIVE sp = false := by
  have hmem := List.mem_of_find?_eq_some h
  have hp := List.find?_some h
  simp only [Bool.and_eq_true, Bool.not_eq_true'] at hp
  exact ⟨List.mem_range.mp hmem, hp.1.1⟩

/-! ## Rebuilds that complete -/

theorem doDramRebuildComplete_rebuilt {s : State} {r : Rebuild} (t : Nat) (hon : s.on 5 = true) (hr : s.mem.rebuild = some r)
    (hp : r.planned = false) :
    doDramRebuildComplete t s = ((s.at t).setRebuild none none).showRebuild.raiseEvt 22 2 := by
  unfold doDramRebuildComplete
  dsimp only
  rw [State.at_mem, hr]
  dsimp only
  rw [if_neg (by simp [hon]), hp, if_neg (by decide), if_neg (by decide)]

theorem doDramRebuildComplete_copied {s : State} {r : Rebuild} (t : Nat) (hon : s.on 5 = true) (hr : s.mem.rebuild = some r)
    (hp : r.planned = true) :
    doDramRebuildComplete t s =
      ((((s.at t).setBit F.MEM_CHAN.ACTIVE r.into true).setBit F.MEM_CHAN.ACTIVE r.source false).recordDue.setRebuild s.mem.second none
        ).showRebuild.raiseEvt 22 2 := by
  unfold doDramRebuildComplete
  dsimp only
  rw [State.at_mem, hr]
  dsimp only
  rw [if_neg (by simp [hon]), hp, if_pos rfl, if_pos rfl, ← State.at_mem s t]
  rfl

theorem endRebuild_getF (s : State) {f : Field} (hf : blockWord f.addr) (hm : f.addr ≠ 0x16104) :
    (s.showRebuild.raiseEvt 22 2).settle.getF f = s.getF f :=
  (settle_getF_block hf _).trans ((raiseEvt_getF_block hf _ 22 2).trans (showRebuild_getF s hm))

/-- What the rebuilds in progress are moves no register. -/
theorem setRebuild_getF (s : State) (a b : Option Rebuild) (f : Field) : (s.setRebuild a b).getF f = s.getF f := rfl

theorem setRebuild_mem (s : State) (a b : Option Rebuild) : (s.setRebuild a b).mem.rebuild = a ∧ (s.setRebuild a b).mem.second = b := ⟨rfl, rfl⟩

/-- A copy that completes: the registers of the channels. -/
theorem doDramRebuildComplete_channels {s : State} {r : Rebuild} (t : Nat) (hon : s.on 5 = true) (hr : s.mem.rebuild = some r)
    (hp : r.planned = true) {f : Field} (hf : blockWord f.addr) (hm : f.addr ≠ 0x16104) :
    (doDramRebuildComplete t s).settle.getF f =
      (((s.at t).setBit F.MEM_CHAN.ACTIVE r.into true).setBit F.MEM_CHAN.ACTIVE r.source false).getF f := by
  rw [doDramRebuildComplete_copied t hon hr hp, endRebuild_getF _ hf hm, setRebuild_getF, recordDue_getF]

theorem endRebuild_mem (s : State) : (s.showRebuild.raiseEvt 22 2).settle.mem = s.mem :=
  (State.settle_mem _).trans ((State.raiseEvt_mem _ 22 2).trans (showRebuild_part (π := .memory) s))

/-! ## LP-DRAM -/

/-- Settles O44. -/
theorem dramChannels : Obligations.DramChannels := by
  refine ⟨?_, ?_, ?_, ?_⟩
  · intro s chan errors t hon hfailed hactive hfill
    have hkeep : ∀ f : Field, blockWord f.addr → (doDramChannelFailure chan errors t s).settle.getF f =
        ((s.noteErrors t chan errors).markChannel chan).getF f := by
      intro f hf
      rw [settle_getF_block hf, doDramChannelFailure_idle errors t hon hfailed hactive hfill]
      exact (dropIdleChannel_getF _ hf).trans (raiseEvt_getF_block hf _ 22 29)
    refine ⟨_, rfl, ?_, ?_, ?_⟩
    · rw [bitF_congr (hkeep _ (by decide)), markChannel_failed _ _ _ chan.isLt, if_pos rfl]
    · rw [bitF_congr (hkeep _ (by decide)), markChannel_active _ _ _ chan.isLt, if_pos rfl]
    · calc (doDramChannelFailure chan errors t s).settle.mem
          = (doDramChannelFailure chan errors t s).mem := State.settle_mem _
        _ = (((s.noteErrors t chan errors).markChannel chan).raiseEvt 22 29).mem := by
            rw [doDramChannelFailure_idle errors t hon hfailed hactive hfill]
            exact dropIdleChannel_part (π := .memory) (by decide) _
        _ = s.mem := (State.raiseEvt_mem _ 22 29).trans ((markChannel_mem _ _).trans (noteErrors_mem s t chan errors))
  · intro s chan errors t sp hon hfailed hactive hreb hsecond hpar hidle
    obtain ⟨hsp, hspare⟩ := idleChannel_spec hidle
    have hne : chan.val ≠ sp := fun h => by rw [← h, hactive] at hspare; exact absurd hspare (by decide)
    have hreb : s.rebuilds = [] := by rw [State.rebuilds, hreb, hsecond]; rfl
    have hact : (s.noteErrors t chan errors).bitF F.MEM_CHAN.ACTIVE chan = true :=
      (bitF_congr (noteErrors_getF s t chan errors (by decide)) _).trans hactive
    have hdo := doDramChannelFailure_active errors t hon hactive hreb hpar
      (((markChannel_idleChannel chan.isLt hact).trans (noteErrors_idleChannel s t chan errors)).trans hidle)
    have hreb' : ((s.noteErrors t chan errors).markChannel chan).rebuilds = [] := by
      rw [State.rebuilds, markChannel_mem, noteErrors_mem]; exact hreb
    refine ⟨_, rfl, ?_, ?_, ?_, ?_⟩
    · rw [bitF_congr (settle_getF_block (by decide) _), hdo, takeSpareChannel_failed _ _ _ chan.isLt, if_pos rfl]
    · rw [bitF_congr (settle_getF_block (by decide) _), hdo, takeSpareChannel_active _ _ _ hsp, if_neg hne,
        markChannel_active _ _ _ chan.isLt, if_pos rfl]
    · rw [bitF_congr (settle_getF_block (by decide) _), hdo, takeSpareChannel_active _ _ _ hsp, if_pos rfl]
    · rw [State.settle_mem, hdo, takeSpareChannel_rebuild _ _ hreb']
      rw [State.markChannel, State.setBit_now, State.raiseEvt_now, State.setBit_now, State.setBit_now, State.noteErrors, State.bump_eq,
        State.setF_now, State.at_now]
  · intro s t r hon hr hp
    refine ⟨_, rfl, ?_, ?_, ?_⟩ <;> rw [doDramRebuildComplete_rebuilt t hon hr hp]
    · rw [endRebuild_mem, (setRebuild_mem _ _ _).1]
    · rw [endRebuild_mem, (setRebuild_mem _ _ _).2]
    · rw [endRebuild_getF _ (by decide) (by decide), setRebuild_getF, State.at_getF]
  · intro s t r hon hr hp hsource hinto hne
    have hkeep := fun {f : Field} => doDramRebuildComplete_channels (f := f) t hon hr hp
    refine ⟨_, rfl, ?_, ?_, ?_, ?_⟩
    · rw [doDramRebuildComplete_copied t hon hr hp, endRebuild_mem, (setRebuild_mem _ _ _).1]
    · rw [bitF_congr (hkeep (by decide) (by decide)), bitF_setBit _ F.MEM_CHAN.ACTIVE _ _ _ (by decide) hsource, if_neg (Ne.symm hne),
        bitF_setBit _ F.MEM_CHAN.ACTIVE _ _ _ (by decide) hinto, if_pos rfl]
    · rw [bitF_congr (hkeep (by decide) (by decide)), bitF_setBit _ F.MEM_CHAN.ACTIVE _ _ _ (by decide) hsource, if_pos rfl]
    · rw [hkeep (by decide) (by decide), getF_setBit_beside _ F.MEM_CHAN.ACTIVE F.MEM_CHAN.FAILED _ _ (by decide) (by decide),
        getF_setBit_beside _ F.MEM_CHAN.ACTIVE F.MEM_CHAN.FAILED _ _ (by decide) (by decide), State.at_getF]

end Sys2Proof.Machine
end

section
/-! PROOFS. Streams: datagrams sent, sent again and acknowledged (O41, O42). -/

namespace Sys2Proof.Machine

/-! ## Queues under reports -/

/-- An open queue is open after reports, and only the number of its next record may differ. -/
theorem State.Tells.queue_some {s t : State} (h : s.Tells t) {n : Nat} {x : Queue} (hx : s.queue n = some x) :
    ∃ m, t.queue n = some { x with next := m } := by
  have hq := h.queue n
  rw [hx, Option.map_some, Option.map_eq_some_iff] at hq
  obtain ⟨z, hz, hzx⟩ := hq
  refine ⟨z.next, hz.trans (congrArg some ?_)⟩
  have := congrArg (fun y : Queue => { y with next := z.next }) hzx
  exact this

theorem State.Tells.queue_none {s t : State} (h : s.Tells t) {n : Nat} (hx : s.queue n = none) : t.queue n = none := by
  have hq := h.queue n
  rwa [hx, Option.map_none, Option.map_eq_none_iff] at hq

theorem at_queue (s : State) (t n : Nat) : (s.at t).queue n = s.queue n := by rw [State.queue, State.at_tp, State.queue]

theorem setQueue_queue (s : State) (q : Nat) (x : Queue) : (s.setQueue q x).queue q = some x := tabFind_tabSet_self _ _ _

theorem mapQueue_of_some {s : State} {q : Nat} {x : Queue} (h : s.queue q = some x) (g : Queue → Queue) :
    s.mapQueue q g = s.setQueue q (g x) := by
  rw [State.mapQueue, h]

theorem mapPort_tells (s : State) (p : Nat) (g : Port → Port) : s.Tells (s.mapPort p g) := .of_tp rfl

/-! ## A datagram leaves (R322, R324) -/

theorem length_datagramHeader (queue len qgen first count cls flags : Nat) :
    (datagramHeader queue len qgen first count cls flags).length = 32 := by
  simp [datagramHeader]

theorem countGaps_tells (s : State) (l : List Item) : s.Tells (s.countGaps l) := by
  unfold State.countGaps
  exact .ite (.refl s) ((setF_tells s F.QUE_GAPS.COUNT _).trans (raiseEvt_tells _ 20 4))

/-- What a datagram's departure changes before gaps are counted: the port's buffer, the bytes moved and the outputs. -/
def State.sendDatagram (s : State) (q : Nat) (x : Queue) (first flags : Nat) (l : List Item) : State :=
  let n := 32 + (itemsBytes l).length
  let head := datagramHeader q n x.gen first (s.countField (l.foldl (fun m i => max m (itemLast i)) first + 1 - first)) x.cls flags
  let s := s.mapPort (queuePort x) (fun p => { p with ownBits := p.ownBits + n * 8 })
  (s.mapTp (fun t => { t with moved := s.noteMoved 1 (itemsBytes l).length })).emit
    (.datagram (s.getF F.QUE_PORTS.STREAM) (s.queueDest x) (head ++ itemsBytes l))

theorem putDatagram_eq (s : State) (q : Nat) (x : Queue) (first flags : Nat) (l : List Item) :
    s.putDatagram q x first flags l = (s.sendDatagram q x first flags l).tick.countGaps l := rfl

theorem putDatagram_tells (s : State) (q : Nat) (x : Queue) (first flags : Nat) (l : List Item) :
    s.Tells (s.putDatagram q x first flags l) := by
  have hsend : s.Tells (s.sendDatagram q x first flags l) := ⟨List.suffix_cons _ _, rfl⟩
  have htick : (s.sendDatagram q x first flags l).Tells (s.sendDatagram q x first flags l).tick := .of_tp rfl
  rw [putDatagram_eq]
  exact (hsend.trans htick).trans (countGaps_tells _ l)

/-- The datagram is among the outputs: the header and the runs of the items. -/
theorem putDatagram_out (s : State) (q : Nat) (x : Queue) (first flags : Nat) (l : List Item) :
    ∃ head, head.length = 32 ∧
      Out.datagram (s.getF F.QUE_PORTS.STREAM) (s.queueDest x) (head ++ itemsBytes l) ∈ (s.putDatagram q x first flags l).tp.out :=
  ⟨_, length_datagramHeader _ _ _ _ _ _ _, (countGaps_tells (s.sendDatagram q x first flags l).tick l).mem_out List.mem_cons_self⟩

theorem putDatagram_retx (s : State) (q : Nat) (x : Queue) (first flags : Nat) (l : List Item) :
    (s.putDatagram q x first flags l).getF F.QUE_RETX.COUNT = s.getF F.QUE_RETX.COUNT := by
  rw [putDatagram_eq, State.countGaps]
  split
  · rfl
  · exact (raiseEvt_getF_block (by decide) _ 20 4).trans (getF_setF_other _ F.QUE_GAPS.COUNT F.QUE_RETX.COUNT _ (by decide))

/-- What the window holds is all of it, where it holds that many bytes. -/
theorem windowPrefix_all {room : Nat} {l : List Item} (h : windowBytes l ≤ room) : windowPrefix room l = l := by
  have hsum : ∀ (l : List Item) (n : Nat), l.foldl (fun n i => n + (itemBody i).length) n = n + windowBytes l := by
    intro l
    induction l with
    | nil => exact fun n => rfl
    | cons i l ih =>
      intro n
      rw [windowBytes, List.foldl_cons, List.foldl_cons, ih, ih]
      omega
  induction l generalizing room with
  | nil => rfl
  | cons i l ih =>
    have hbytes : windowBytes (i :: l) = (itemBody i).length + windowBytes l := by
      rw [windowBytes, List.foldl_cons, hsum]
      omega
    rw [windowPrefix, if_pos (by omega), ih (by omega)]

/-- What a sent datagram notes of itself. -/
def State.sentNote (s : State) (x : Queue) (l : List Item) : Sent :=
  { first := x.sent + 1, count := l.foldl (fun m i => max m (itemLast i)) x.sent + 1 - (x.sent + 1), bytes := windowBytes l,
    gapped := l.foldl (fun n i => n + itemGapped i) 0, time := s.now, rto := s.getF F.QUE_RTO.INIT }

/-- The queue after a datagram of the items `l`. -/
def State.sentQueue (s : State) (x : Queue) (l : List Item) (y : Queue) : Queue :=
  { y with sent := l.foldl (fun m i => max m (itemLast i)) x.sent, unacked := y.unacked ++ [s.sentNote x l],
           gapped := y.gapped + l.foldl (fun n i => n + itemGapped i) 0 }

/-- A queue that is due sends what fits, where window and port buffer hold it. -/
theorem doDatagramSend_sends {s : State} {queue : Fin 16384} {x : Queue} {l : List Item} {full : Bool} (hon : s.on 5 = true)
    (hx : s.queue queue.val = some x) (hresend : s.resendDue x = none)
    (hpack : packItems (x.maxdg - 32) [] [] (s.items queue.val (x.sent + 1) (x.next - 1)) = (l, full)) (hl : l ≠ [])
    (hdue : full = true ∨ ((s.retained queue.val (x.sent + 1) (x.next - 1)).map (fun e => e.2.time)).headD 0 + x.flush * 1000 ≤ s.now)
    (hwin : unackedBytes x + windowBytes l ≤ x.window * 1024) (hport : s.portTakes (queuePort x) (32 + (itemsBytes l).length) = true) :
    doDatagramSend queue s.now s = (s.putDatagram queue.val x (x.sent + 1) 0 l).mapQueue queue.val (s.sentQueue x l) := by
  have hprefix : windowPrefix (x.window * 1024 - unackedBytes x) l = l := windowPrefix_all (by omega)
  unfold doDatagramSend
  dsimp only
  rw [at_self, hx]
  dsimp only
  rw [hresend, hon, if_neg (by decide), hpack]
  dsimp only
  rw [hprefix]
  refine (if_neg ?_).trans rfl
  rw [hport]
  rcases hdue with hfull | hold
  · simp [hl, hfull]
  · rw [decide_eq_true hold]
    simp [hl]

/-! ## A datagram is sent again (R328) -/

/-- The datagram `d` of the items `l` as it is sent again. -/
def State.resentNote (s : State) (d : Sent) (l : List Item) : Sent :=
  { d with bytes := windowBytes l, gapped := l.foldl (fun n i => n + itemGapped i) 0, time := s.now, rto := min 256000 (2 * d.rto) }

theorem resend_takes {s : State} {q : Nat} {x : Queue} {d : Sent} (hx : s.queue q = some x)
    (hport : s.portTakes (queuePort x) (32 + (itemsBytes (s.items q d.first (d.first + d.count - 1))).length) = true) :
    ∃ (again : Queue → Queue) (l : List Item),
      s.resend q d = ((s.putDatagram q x d.first 1 l).mapQueue q again).bump F.QUE_RETX.COUNT 1 ∧
      ∀ y, (again y).unacked = y.unacked.map (fun z => if z = d then s.resentNote d l else z) := by
  unfold State.resend
  rw [hx]
  dsimp only
  rw [if_neg (by rw [hport]; decide)]
  exact ⟨_, _, rfl, fun y => rfl⟩

/-! ## Streams -/

/-- Settles O41. -/
theorem datagramsAreSent : Obligations.DatagramsAreSent := by
  refine ⟨?_, ?_, ?_⟩
  · rintro s queue t x l full rfl hon hx hresend hpack hl hdue hwin hport
    obtain ⟨n, hn⟩ := (putDatagram_tells s queue.val x (x.sent + 1) 0 l).queue_some hx
    have hdo := (doDatagramSend_sends hon hx hresend hpack hl hdue hwin hport).trans (mapQueue_of_some hn _)
    obtain ⟨head, hhead, hout⟩ := putDatagram_out s queue.val x (x.sent + 1) 0 l
    have hset := settle_tells (doDatagramSend queue s.now s)
    obtain ⟨m, hm⟩ := hset.queue_some (by rw [hdo]; exact setQueue_queue _ _ _)
    refine ⟨_, _, s.sentNote x l, head ++ itemsBytes l, rfl, hm, rfl, rfl, ?_, rfl, rfl, rfl, hset.mem_out ?_, ?_, ?_⟩
    · exact Nat.add_sub_add_right _ 1 _
    · rw [hdo]
      exact hout
    · rw [List.length_append, hhead]
    · exact List.drop_left' hhead
  · rintro s queue t x d rfl hon hx hdue hport
    obtain ⟨again, l, hresend, hagain⟩ := resend_takes hx hport
    obtain ⟨n, hn⟩ := (putDatagram_tells s queue.val x d.first 1 l).queue_some hx
    rw [mapQueue_of_some hn] at hresend
    have hdo : doRetransmissionTimeout queue s.now s = s.resend queue.val d := by
      have hd : s.resendDue x = some d := hdue
      unfold doRetransmissionTimeout
      dsimp only
      rw [at_self, hx]
      dsimp only
      rw [hd]
      exact if_pos hon
    obtain ⟨m, hm⟩ := (settle_tells (doRetransmissionTimeout queue s.now s)).queue_some (n := queue.val)
      (by rw [hdo, hresend]; exact setQueue_queue _ _ _)
    refine ⟨_, _, s.resentNote d l, rfl, hm, ?_, rfl, rfl, rfl, rfl, ?_, ?_⟩
    · show _ ∈ (again _).unacked
      rw [hagain]
      exact List.mem_map.2 ⟨d, List.mem_of_find?_eq_some hdue, if_pos rfl⟩
    · show (again _).unacked.length = _
      rw [hagain, List.length_map]
    · rw [settle_getF_block (by decide), hdo, hresend]
      exact (getF_setF_min _ F.QUE_RETX.COUNT _ (by decide)).trans (congrArg (fun n => min (n + 1) _) (putDatagram_retx s _ x _ 1 l))
  · intro s queue t x hon hx hlease
    have hdo : doQueueLeaseExpiry queue t s = ((s.at t).dropQueue queue.val).raiseEvt 20 2 := by
      unfold doQueueLeaseExpiry
      dsimp only
      rw [at_queue, hx]
      exact if_pos (by simp [hon, hlease])
    refine ⟨_, rfl, ?_⟩
    rw [hdo]
    exact ((raiseEvt_tells _ 20 2).trans (settle_tells _)).queue_none (tabFind_tabDel_self _ _)

end Sys2Proof.Machine
end

section
/-! PROOFS. Acknowledgement (O42). -/

namespace Sys2Proof.Machine

/-! ## The fields of an ACK (R325) -/

abbrev ackQueue (m : List Byte) : Nat := ofLe ((m.drop 4).take 2)
abbrev ackGen (m : List Byte) : Nat := ofLe ((m.drop 8).take 4)
abbrev ackSession (m : List Byte) : Nat := ofLe ((m.drop 12).take 2)
abbrev ackFlags (m : List Byte) : Nat := ofLe ((m.drop 14).take 1)
abbrev ackCum (m : List Byte) : Nat := ofLe ((m.drop 16).take 8)

theorem at_atControlPort (s : State) (t : Nat) (src : Endpoint) (d : Datagram) : (s.at t).atControlPort src d = s.atControlPort src d := by
  simp only [State.atControlPort, State.at_on, State.at_getF]

/-! ## Sessions -/

theorem at_session (s : State) (t i : Nat) : (s.at t).session i = s.session i := by rw [State.session, State.at_tp, State.session]

theorem session_eq (s : State) (i : Nat) : s.session i = tabFind i s.tp.sessions := rfl

theorem confirmSession_of_some {s : State} {i : Nat} {x : Session} (h : s.session i = some x) :
    (s.confirmSession i).session i = some { x with confirmed := true } := by
  rw [State.confirmSession, show tabFind i s.tp.sessions = some x from h]
  exact tabFind_tabSet_self _ _ _

theorem renewSession_of_some {s : State} {i : Nat} {x : Session} (h : s.session i = some x) :
    (s.renewSession i).session i = some { x with leaseEnd := s.now + x.leaseMs * 1000000 } := by
  rw [State.renewSession, show tabFind i s.tp.sessions = some x from h]
  exact tabFind_tabSet_self _ _ _

theorem confirmSession_beside (s : State) (i : Nat) :
    (s.confirmSession i).now = s.now ∧ (s.confirmSession i).tp.queues = s.tp.queues ∧ (s.confirmSession i).regs = s.regs := by
  unfold State.confirmSession
  split <;> exact ⟨rfl, rfl, rfl⟩

theorem renewSession_queue (s : State) (i n : Nat) : (s.renewSession i).queue n = s.queue n := by
  unfold State.renewSession
  split <;> rfl

theorem confirmSession_queue (s : State) (i n : Nat) : (s.confirmSession i).queue n = s.queue n :=
  congrArg (tabFind n) (confirmSession_beside s i).2.1

/-- A renewed queue, and the session it belongs to. -/
theorem renewQueue_of_some {s : State} {q : Nat} {x : Queue} {y : Session} (hx : s.queue q = some x) (hy : s.session x.session = some y) :
    (s.renewQueue q).queue q = some { x with leaseEnd := s.now + x.leaseMs * 1000000 } ∧
      (s.renewQueue q).session x.session = some { y with leaseEnd := s.now + y.leaseMs * 1000000 } := by
  have hs : s.renewQueue q = (s.setQueue q { x with leaseEnd := s.now + x.leaseMs * 1000000 }).renewSession x.session := by
    rw [State.renewQueue, hx]
  rw [hs, renewSession_queue]
  exact ⟨setQueue_queue _ _ _, renewSession_of_some (s := s.setQueue q _) hy⟩

/-! ## What an ACK does -/

/-- A good ACK of a queue that is open (R326): numbers are released, never taken back, and the leases renewed. -/
def State.acceptAck (s : State) (q cum : Nat) (x : Queue) : State :=
  (if cum ≤ x.acked then s else s.setQueue q (s.releaseTo q cum x)).renewQueue q

theorem acceptAck_renews {s : State} {q cum : Nat} {x : Queue} {y : Session} (hx : s.queue q = some x) (hy : s.session x.session = some y) :
    (∃ z, (s.acceptAck q cum x).queue q = some z ∧ z.acked = max x.acked cum ∧ z.sent = x.sent ∧
        z.leaseEnd = s.now + x.leaseMs * 1000000) ∧
      (s.acceptAck q cum x).session x.session = some { y with leaseEnd := s.now + y.leaseMs * 1000000 } := by
  unfold State.acceptAck
  split
  · next h =>
    obtain ⟨hq, hs⟩ := renewQueue_of_some hx hy
    exact ⟨⟨_, hq, (Nat.max_eq_left h).symm, rfl, rfl⟩, hs⟩
  · next h =>
    obtain ⟨hq, hs⟩ := renewQueue_of_some (s := s.setQueue q (s.releaseTo q cum x)) (y := y) (setQueue_queue s q _) hy
    exact ⟨⟨_, hq, (Nat.max_eq_right (Nat.le_of_not_le h)).symm, rfl, rfl⟩, hs⟩

/-- An ACK of an open queue of a session without a key (R325, R327). -/
theorem doAck_current {s : State} {arrival : AckArrival} (t : Nat) {ss : Session} {x : Queue}
    (hport : s.atControlPort arrival.src arrival.message = true) (hformed : ackFormed arrival.message.bytes = true)
    (hsession : s.session (ackSession arrival.message.bytes) = some ss) (hslot : ss.slot = none)
    (hflags : ackFlags arrival.message.bytes = 0) (hqueue : s.queue (ackQueue arrival.message.bytes) = some x)
    (hown : x.session = ackSession arrival.message.bytes) (hgen : x.gen = ackGen arrival.message.bytes) :
    doAck arrival t s =
      if x.next ≤ ackCum arrival.message.bytes then ((s.at t).confirmSession x.session).ackError arrival.src (ackQueue arrival.message.bytes)
        (ackGen arrival.message.bytes) 2 (ackCum arrival.message.bytes) (some x)
      else if x.sent < ackCum arrival.message.bytes then ((s.at t).confirmSession x.session).ackError arrival.src
        (ackQueue arrival.message.bytes) (ackGen arrival.message.bytes) 1 (ackCum arrival.message.bytes) (some x)
      else ((s.at t).confirmSession x.session).acceptAck (ackQueue arrival.message.bytes) (ackCum arrival.message.bytes) x := by
  rw [← at_session s t] at hsession
  rw [← at_queue s t] at hqueue
  unfold doAck
  extract_lets +onlyGivenNames v src m
  rw [if_neg (by rw [at_atControlPort, hport]; decide), if_neg (by rw [hformed]; decide)]
  extract_lets +onlyGivenNames fl q qgen sess cum current
  have hcurrent : current = some x := by
    show (match v.queue q with | some x => if x.session = sess && x.gen = qgen then some x else none | none => none) = some x
    rw [show v.queue q = some x from hqueue]
    exact if_pos (by simp [hown, hgen, sess, qgen, m])
  have hfl : fl = 0 := hflags
  rw [show tabFind sess v.tp.sessions = some ss from hsession]
  dsimp only
  rw [hcurrent, hslot, hfl, if_neg (by simp), hown]
  rfl

/-- A bad ACK is counted by its reason. -/
def State.countAckError (s : State) (reason : Nat) : State :=
  if reason = 1 then s.bump F.QUE_ACKERR.PREMATURE 1 else if reason = 2 then s.bump F.QUE_ACKERR.EXCESS 1 else s

theorem countAckError_tp (s : State) (reason : Nat) : (s.countAckError reason).tp = s.tp := by
  unfold State.countAckError
  split
  · exact State.setF_tp _ _ _
  · split
    · exact State.setF_tp _ _ _
    · rfl

theorem ackError_some (s : State) (dest : Endpoint) (q qgen reason cum : Nat) (x : Queue) :
    s.ackError dest q qgen reason cum (some x) =
      (((s.sendControl (.ackError dest q qgen reason cum x.sent (x.next - 1))).setQueue q { x with ackErr := x.ackErr + 1 }).countAckError
        reason).raiseEvt 20 3 := rfl

/-- A bad ACK of a queue is counted in it, and its leases stay (R327). -/
theorem ackError_queue (s : State) (dest : Endpoint) (q qgen reason cum : Nat) (x : Queue) :
    (∃ n, (s.ackError dest q qgen reason cum (some x)).queue q = some { x with ackErr := x.ackErr + 1, next := n }) ∧
      (s.ackError dest q qgen reason cum (some x)).tp.sessions = s.tp.sessions := by
  rw [ackError_some]
  have htells (u : State) := (State.Tells.of_tp (countAckError_tp u reason)).trans (raiseEvt_tells _ 20 3)
  refine ⟨(htells _).queue_some (setQueue_queue _ q _), ?_⟩
  rw [State.raiseEvt_tp_sessions, countAckError_tp]
  rfl

theorem ackError_premature (s : State) (dest : Endpoint) (q qgen cum : Nat) (x : Queue) :
    (s.ackError dest q qgen 1 cum (some x)).getF F.QUE_ACKERR.PREMATURE =
      min (s.getF F.QUE_ACKERR.PREMATURE + 1) (2 ^ F.QUE_ACKERR.PREMATURE.width - 1) :=
  (raiseEvt_getF_block (by decide) _ 20 3).trans (getF_setF_min _ F.QUE_ACKERR.PREMATURE _ (by decide))

theorem ackError_excess (s : State) (dest : Endpoint) (q qgen cum : Nat) (x : Queue) :
    (s.ackError dest q qgen 2 cum (some x)).getF F.QUE_ACKERR.EXCESS =
      min (s.getF F.QUE_ACKERR.EXCESS + 1) (2 ^ F.QUE_ACKERR.EXCESS.width - 1) :=
  (raiseEvt_getF_block (by decide) _ 20 3).trans (getF_setF_min _ F.QUE_ACKERR.EXCESS _ (by decide))

/-- The session of the ACK, confirmed, keeps its lease; registers, clock and queues stay. -/
theorem confirmed_getF (s : State) (t i : Nat) (f : Field) : ((s.at t).confirmSession i).getF f = s.getF f :=
  (getF_of_regs (confirmSession_beside (s.at t) i).2.2 f).trans (State.at_getF s t f)

/-- Settles O42. -/
theorem acknowledgementsArrive : Obligations.AcknowledgementsArrive := by
  refine ⟨?_, ?_, ?_⟩
  · intro s arrival t hs hport hformed
    have hdo : doAck arrival t s = (s.at t).bump F.QUE_DROP.ACK 1 := by
      unfold doAck
      dsimp only
      rw [at_atControlPort, hport, hformed]
      rfl
    have hq : (doAck arrival t s).rcd.pulses = [] := by
      rw [hdo]
      exact (congrArg RecState.pulses (State.at_rcd s t)).trans hs.2
    have hset := settle_of_no_pulses hq
    refine ⟨_, rfl, ?_, ?_, ?_, ?_⟩
    · rw [settle_getF_block (by decide), hdo]
      exact (getF_setF_min _ F.QUE_DROP.ACK _ (by decide)).trans (by rw [State.at_getF])
    · rw [hset, hdo]
      simp only [State.bump, State.setSat, State.setF, State.poke, State.peek, State.at_getF, State.at_regs]
    · rw [hset, hdo]
      exact State.at_tp s t
    · rw [hset, hdo]
      exact State.at_sys s t
  · intro s arrival t ss x hport hformed hsession hslot hflags hqueue hown hgen hle hlt
    have hconf : ((s.at t).confirmSession x.session).session x.session = some { ss with confirmed := true } :=
      confirmSession_of_some ((at_session s t _).trans (by rw [hown]; exact hsession))
    have hq : ((s.at t).confirmSession x.session).queue (ackQueue arrival.message.bytes) = some x :=
      (confirmSession_queue _ _ _).trans ((at_queue s t _).trans hqueue)
    have hnow : ((s.at t).confirmSession x.session).now = max s.now t := (confirmSession_beside _ _).1.trans (State.at_now s t)
    obtain ⟨⟨y, hy, hacked, hsent, hlease⟩, hz⟩ := acceptAck_renews (cum := ackCum arrival.message.bytes) hq hconf
    have hdo := doAck_current t hport hformed hsession hslot hflags hqueue hown hgen
    have hle : ackCum arrival.message.bytes ≤ x.sent := hle
    rw [if_neg (Nat.not_le.2 (Nat.lt_of_le_of_lt hle hlt)), if_neg (Nat.not_lt.2 hle)] at hdo
    obtain ⟨n, hn⟩ := (settle_tells (doAck arrival t s)).queue_some (by rw [hdo]; exact hy)
    refine ⟨_, _, { ss with confirmed := true, leaseEnd := max s.now t + ss.leaseMs * 1000000 }, rfl, hn, hacked, hsent,
      hlease.trans (by rw [hnow]), ?_, rfl⟩
    rw [State.settle_tp_sessions, hdo, ← hown, ← session_eq, hz, hnow]
  · intro s arrival t ss x hport hformed hsession hslot hflags hqueue hown hgen hlt
    have hlt : x.sent < ackCum arrival.message.bytes := hlt
    have hconf : ((s.at t).confirmSession x.session).session x.session = some { ss with confirmed := true } :=
      confirmSession_of_some ((at_session s t _).trans (by rw [hown]; exact hsession))
    have hdo := doAck_current t hport hformed hsession hslot hflags hqueue hown hgen
    have herr : ∃ reason, doAck arrival t s = ((s.at t).confirmSession x.session).ackError arrival.src (ackQueue arrival.message.bytes)
        (ackGen arrival.message.bytes) reason (ackCum arrival.message.bytes) (some x) := by
      by_cases hnext : x.next ≤ ackCum arrival.message.bytes
      · exact ⟨2, hdo.trans (if_pos hnext)⟩
      · exact ⟨1, hdo.trans ((if_neg hnext).trans (if_pos hlt))⟩
    obtain ⟨reason, hr⟩ := herr
    obtain ⟨⟨n, hn⟩, hsess⟩ := ackError_queue ((s.at t).confirmSession x.session) arrival.src (ackQueue arrival.message.bytes)
      (ackGen arrival.message.bytes) reason (ackCum arrival.message.bytes) x
    obtain ⟨m, hm⟩ := (settle_tells (doAck arrival t s)).queue_some (by rw [hr]; exact hn)
    refine ⟨_, _, rfl, hm, rfl, rfl, rfl, ?_, ?_⟩
    · rw [State.settle_tp_sessions, hr, hsess, ← hown, ← session_eq, hconf]
      rfl
    · split
      · next hnext =>
        rw [if_neg (Nat.not_le.2 hnext), if_pos hlt] at hdo
        rw [settle_getF_block (by decide), hdo, ackError_premature, confirmed_getF]
      · next hnext =>
        rw [if_pos (Nat.le_of_not_lt hnext)] at hdo
        rw [settle_getF_block (by decide), hdo, ackError_excess, confirmed_getF]

end Sys2Proof.Machine
end

section
/-! PROOFS. Sessions and what arrives (O57). -/

namespace Sys2Proof.Machine

/-! ## The control buffer under the clock -/

theorem drain_ctlBits (x : Port) (rate ceil_ now dt : Nat) : (x.drain rate ceil_ now dt).ctlBits ≤ x.ctlBits := by
  unfold Port.drain
  extract_lets c a0 link a1 b1 c1 fwd a2 b2 own ctl y up
  have hy : y.ctlBits ≤ x.ctlBits := Nat.sub_le _ _
  split
  · exact hy
  · exact hy

theorem drainPort_ctlBits (s : State) (p dt q : Nat) : ((s.drainPort p dt).port q).ctlBits ≤ (s.port q).ctlBits := by
  unfold State.drainPort
  split
  · dsimp only
    rw [port_mapPort]
    split
    · next h =>
      rw [h.1]
      split
      · exact Nat.le_refl _
      · exact drain_ctlBits _ _ _ _ _
    · exact Nat.le_refl _
  · exact Nat.le_refl _

theorem at_ctlBits (s : State) (t q : Nat) : ((s.at t).port q).ctlBits ≤ (s.port q).ctlBits := by
  unfold State.at
  split
  · refine (drainPort_ctlBits _ 1 _ q).trans ((drainPort_ctlBits _ 0 _ q).trans (Nat.le_of_eq ?_))
    rw [State.port, runTai_net, State.port]
  · exact Nat.le_refl _

/-- Time only empties the control buffer. -/
theorem ctlRoom_at {s : State} (t : Nat) (h : s.ctlRoom = true) : (s.at t).ctlRoom = true := by
  simp only [State.ctlRoom, decide_eq_true_eq] at h ⊢
  rw [hostPort_at]
  exact (at_ctlBits s t _).trans_lt h

theorem unserved_at (s : State) (t : Nat) : (s.at t).unserved = s.unserved := by
  simp only [State.unserved, State.recovery, State.at_rst, hostPort_at]

theorem noAcks_at (s : State) (t : Nat) : (s.at t).noAcks = s.noAcks := by
  simp only [State.noAcks, State.banksLost, State.flag, State.at_tp, State.at_getF]

/-- With no message waiting there is nothing to take up. -/
theorem drainMessages_eq_self {s : State} (h : s.tp.rxq = []) : s.drainMessages = s := by
  have hs : s.mapTp (fun t => { t with rxq := [] }) = s := by
    show ({ s with tp := { s.tp with rxq := [] } } : State) = s
    rw [← h]
  unfold State.drainMessages
  split
  · rfl
  · rw [h, hs]
    rfl

theorem drainMessages_of_held {s : State} (h : s.coresHeld = true) : s.drainMessages = s := if_pos h

/-! ## The end of a session (R310) -/

/-- The session is gone, and no queue of it is left. -/
theorem endSession_gone {s u : State} {i : Nat} (hu : (s.endSession i).Tells u) (hs : u.tp.sessions = (s.endSession i).tp.sessions) :
    u.session i = none ∧ ∀ q ∈ u.tp.queues, q.2.session ≠ i := by
  refine ⟨?_, fun q hq => ?_⟩
  · have hsess : (s.endSession i).tp.sessions = tabDel i s.tp.sessions := congrArg Prod.fst (endSession_ledger s i)
    rw [session_eq, hs, hsess, tabFind_tabDel_self]
  · obtain ⟨r, hr, hrq⟩ := ((endSession_tells s i).trans hu).session_of_mem hq
    have hkept : r ∈ s.tp.queues.filter (fun e => e.2.session ≠ i) := hr
    rw [← hrq]
    simpa using (List.mem_filter.1 hkept).2

theorem doAuthConfirmTimeout_ends {s : State} {sess : Nat} {x : Session} (t : Nat) (hon : s.on 5 = true) (hx : s.session sess = some x)
    (hconf : x.confirmed = false) (hby : x.confirmBy ≤ max s.now t) : doAuthConfirmTimeout sess t s = (s.at t).endSession sess := by
  unfold doAuthConfirmTimeout
  dsimp only
  rw [at_session, hx]
  exact if_pos (by simp [hon, hconf, hby])

theorem doSessionLeaseExpiry_ends {s : State} {sess : Nat} {x : Session} (t : Nat) (hon : s.on 5 = true) (hx : s.session sess = some x)
    (hend : x.leaseEnd ≤ max s.now t) : doSessionLeaseExpiry sess t s = ((s.at t).endSession sess).raiseEvt 20 1 := by
  unfold doSessionLeaseExpiry
  dsimp only
  rw [at_session, hx]
  exact if_pos (by simp [hon, hend])

/-! ## OPEN (R308) -/

/-- Answering an OPEN moves no session. -/
theorem openAnswer_session (s : State) (src : Endpoint) (nonce : List Byte) (reply : Out) (i : Nat) :
    (s.openAnswer src nonce reply).session i = s.session i := rfl

/-- A session without a key opens for the lease it asks for. -/
theorem openAs_session (s : State) (src : Endpoint) (nonce : List Byte) (lease op i : Nat) :
    ∃ y, (s.openAs src nonce lease 0xFF op i).session i = some y ∧ y.peer = src ∧ y.leaseMs = lease ∧
      y.leaseEnd = s.now + lease * 1000000 ∧ y.nextSeq = 1 ∧ y.slot = none := by
  unfold State.openAs
  extract_lets k own v n gen key x payload fl w z
  refine ⟨x, ?_, rfl, rfl, rfl, rfl, rfl⟩
  rw [openAnswer_session, session_eq, State.raiseEvt_tp_sessions]
  exact tabFind_tabSet_self _ _ _

theorem openFrom_opens {s : State} {src : Endpoint} {nonce : List Byte} {lease i : Nat} (op : Nat)
    (hnew : s.tp.opens.find? (fun o => o.src = src && o.nonce = nonce && decide (s.now < o.time + 1000000000)) = none) (hlo : 100 ≤ lease)
    (hhi : lease ≤ 60000) (hroom : s.tp.sessions.length < 4096) (hfree : tabFree 4096 s.tp.sessions = some i) :
    s.openFrom src nonce lease 0xFF op = s.openAs src nonce lease 0xFF op i := by
  have hgood : s.openRefused lease 0xFF = none := by
    simp [State.openRefused, between, Nat.not_le.2 hroom, hlo, hhi]
  unfold State.openFrom
  rw [hnew]
  dsimp only
  rw [if_neg (by omega), hgood]
  dsimp only
  rw [hfree]

theorem doOpenSession_opens {s : State} (src : Endpoint) (nonce : List Byte) (lease slot : Nat) (hon : s.on 5 = true)
    (hserved : s.unserved = false) (hcores : s.coresHeld = false) (hroom : s.ctlRoom = true) (hrx : s.tp.rxq = []) :
    doOpenSession src nonce lease slot s = s.openFrom src (padTo 16 nonce) lease slot 0 := by
  unfold doOpenSession
  rw [if_neg (by simp [hon, hserved]), drainMessages_eq_self hrx]
  exact if_neg (by simp [hcores, hroom, hrx])

/-! ## The header of a message (R305) -/

theorem msgLe_skip (n v : Nat) (b : List Byte) (off k : Nat) : msgLe (leBytes n v ++ b) (n + off) k = msgLe b off k := by
  simpa using msgLe_append_right (leBytes n v) b off k

theorem length_headerBytes (type sess len gen seq op status flags epoch : Nat) :
    (headerBytes type sess len gen seq op status flags epoch).length = 24 := by
  simp [headerBytes]

/-- The fields of a header read as they were written. -/
theorem headerBytes_fields (type sess len gen seq op status flags epoch : Nat) :
    let m := headerBytes type sess len gen seq op status flags epoch
    msgLe m 0 2 = 0x4B49 ∧ msgLe m 2 1 = 1 ∧ msgLe m 3 1 = type % 256 ^ 1 ∧ msgLe m 4 2 = sess % 256 ^ 2 ∧ msgLe m 6 2 = len % 256 ^ 2 ∧
      msgLe m 8 4 = gen % 256 ^ 4 ∧ msgLe m 12 4 = seq % 256 ^ 4 ∧ msgLe m 16 2 = op % 256 ^ 2 ∧ msgLe m 18 1 = status % 256 ^ 1 ∧
      msgLe m 19 1 = flags % 256 ^ 1 ∧ msgLe m 20 4 = epoch % 256 ^ 4 := by
  intro m
  let t20 := leBytes 4 epoch ++ []
  let t16 := leBytes 2 op ++ (leBytes 1 status ++ (leBytes 1 flags ++ t20))
  let t8 := leBytes 4 gen ++ (leBytes 4 seq ++ t16)
  let t4 := leBytes 2 sess ++ (leBytes 2 len ++ t8)
  have hm : m = leBytes 2 0x4B49 ++ (leBytes 1 1 ++ (leBytes 1 type ++ t4)) := by simp [m, headerBytes, t4, t8, t16, t20]
  have h4 (off k : Nat) : msgLe m (4 + off) k = msgLe t4 off k := by
    rw [hm, show 4 + off = 2 + (1 + (1 + off)) by omega, msgLe_skip, msgLe_skip, msgLe_skip]
  have h8 (off k : Nat) : msgLe m (8 + off) k = msgLe t8 off k := by
    rw [show 8 + off = 4 + (2 + (2 + off)) by omega, h4, msgLe_skip, msgLe_skip]
  have h16 (off k : Nat) : msgLe m (16 + off) k = msgLe t16 off k := by
    rw [show 16 + off = 8 + (4 + (4 + off)) by omega, h8, msgLe_skip, msgLe_skip]
  have h20 (off k : Nat) : msgLe m (20 + off) k = msgLe t20 off k := by
    rw [show 20 + off = 16 + (2 + (1 + (1 + off))) by omega, h16, msgLe_skip, msgLe_skip, msgLe_skip]
  refine ⟨?_, ?_, ?_, (h4 0 2).trans (msgLe_leBytes 2 _ _), (h4 2 2).trans ((msgLe_skip 2 _ _ 0 2).trans (msgLe_leBytes 2 _ _)),
    (h8 0 4).trans (msgLe_leBytes 4 _ _), (h8 4 4).trans ((msgLe_skip 4 _ _ 0 4).trans (msgLe_leBytes 4 _ _)),
    (h16 0 2).trans (msgLe_leBytes 2 _ _), (h16 2 1).trans ((msgLe_skip 2 _ _ 0 1).trans (msgLe_leBytes 1 _ _)),
    (h16 3 1).trans ((msgLe_skip 2 _ _ 1 1).trans ((msgLe_skip 1 _ _ 0 1).trans (msgLe_leBytes 1 _ _))),
    (h20 0 4).trans (msgLe_leBytes 4 _ _)⟩
  · rw [hm, msgLe_leBytes]
    rfl
  · rw [hm, msgLe_skip 2 _ _ 0 1, msgLe_leBytes]
    rfl
  · rw [hm, msgLe_skip 2 _ _ 1 1, msgLe_skip 1 _ _ 0 1, msgLe_leBytes]

/-! ## A command of a session without a key (R307, R311) -/

/-- The header of a NOP. -/
abbrev nopBytes (i gen seq : Nat) : List Byte := headerBytes 0x12 i 24 gen seq 0x21 0 0 0

theorem nopBytes_wellFormed {i gen seq : Nat} (hi : i < 4096) (hgen : gen < 2 ^ 32) (hseq : seq < 2 ^ 32) :
    headerBad (nopBytes i gen seq) = false ∧ headerMalformed (nopBytes i gen seq) = false ∧ payloadOf (nopBytes i gen seq) = [] ∧
      msgLe (nopBytes i gen seq) 3 1 = 0x12 ∧ msgLe (nopBytes i gen seq) 4 2 = i ∧ msgLe (nopBytes i gen seq) 8 4 = gen ∧
      msgLe (nopBytes i gen seq) 12 4 = seq ∧ msgLe (nopBytes i gen seq) 16 2 = 0x21 ∧ msgLe (nopBytes i gen seq) 19 1 = 0 := by
  obtain ⟨hmagic, hver, htype, hsess, hlen, hg, hs, hop, hstatus, hflags, hepoch⟩ := headerBytes_fields 0x12 i 24 gen seq 0x21 0 0 0
  rw [Nat.mod_eq_of_lt (by omega)] at hsess hg hs
  have hl := length_headerBytes 0x12 i 24 gen seq 0x21 0 0 0
  refine ⟨?_, ?_, ?_, htype, hsess, hg, hs, hop, hflags⟩
  · simp [headerBad, nopBytes, hl, hmagic, hver, htype]
  · simp [headerMalformed, nopBytes, hl, hlen, hsess, hstatus, hflags, hepoch, hi]
  · rw [payloadOf, hl]
    simp [nopBytes]

theorem codeGood_unkeyed {x : Session} {m : List Byte} (hslot : x.slot = none) (hflags : msgLe m 19 1 = 0) : codeGood x m = true := by
  simp [codeGood, Session.codeKey, hslot, hflags]

theorem mapSession_of_some {s : State} {i : Nat} {x : Session} (h : s.session i = some x) (f : Session → Session) :
    (s.mapSession i f).session i = some (f x) := by
  rw [State.mapSession, h]
  exact tabFind_tabSet_self _ _ _

theorem renewSession_beside (s : State) (i : Nat) : (s.renewSession i).tp.accepted = s.tp.accepted ∧
    (s.renewSession i).tp.ackHeld = s.tp.ackHeld ∧ (s.renewSession i).regs = s.regs := by
  unfold State.renewSession
  split <;> exact ⟨rfl, rfl, rfl⟩

theorem confirmSession_accepted (s : State) (i : Nat) : (s.confirmSession i).tp.accepted = s.tp.accepted ∧
    (s.confirmSession i).tp.ackHeld = s.tp.ackHeld ∧ (s.confirmSession i).regs = s.regs := by
  unfold State.confirmSession
  split <;> exact ⟨rfl, rfl, rfl⟩

theorem mapSession_accepted (s : State) (i : Nat) (f : Session → Session) : (s.mapSession i f).tp.accepted = s.tp.accepted := by
  unfold State.mapSession
  split <;> rfl

theorem noAcks_congr {s t : State} (hheld : t.tp.ackHeld = s.tp.ackHeld) (hregs : t.regs = s.regs) : t.noAcks = s.noAcks := by
  simp only [State.noAcks, State.banksLost, State.flag, hheld, getF_of_regs hregs]

/-- A NOP of an open session without a key that carries its next number is accepted, and its number used up. -/
theorem receiveCommand_nop {s : State} {i gen seq : Nat} {x : Session} (src : Endpoint) (hi : i < 4096) (hgen : gen < 2 ^ 32)
    (hseq : seq < 2 ^ 32) (hx : s.session i = some x) (hxgen : x.gen = gen) (hxseq : x.nextSeq = seq) (hslot : x.slot = none)
    (hacks : s.noAcks = false) :
    (s.receiveCommand src (nopBytes i gen seq)).tp.accepted = s.tp.accepted ++ [⟨i, seq, 0x21, src, []⟩] ∧
      ((s.receiveCommand src (nopBytes i gen seq)).session i).map (fun y => y.nextSeq) = some (seq + 1) := by
  obtain ⟨-, hform, hpay, -, hmi, hmg, hms, hop, hflags⟩ := nopBytes_wellFormed hi hgen hseq
  have hgood : codeGood x (nopBytes i gen seq) = true := codeGood_unkeyed hslot hflags
  have hv : (s.confirmSession i).session i = some { x with confirmed := true } := confirmSession_of_some hx
  have hw : ((s.confirmSession i).renewSession i).session i =
      some { x with confirmed := true, leaseEnd := (s.confirmSession i).now + x.leaseMs * 1000000 } := renewSession_of_some hv
  obtain ⟨hca, hch, hcr⟩ := confirmSession_accepted s i
  obtain ⟨hra, hrh, hrr⟩ := renewSession_beside (s.confirmSession i) i
  have hrun : s.receiveCommand src (nopBytes i gen seq) = (((s.confirmSession i).renewSession i).acceptCommand src i seq 0x21 []).mapSession i
      (fun x => { x with nextSeq := x.nextSeq + 1 }) := by
    unfold State.receiveCommand
    dsimp only
    rw [hmi, hmg, hms, hop, hpay, hform, Nat.mod_eq_of_lt hi, hx]
    have hknown : (some x).filter (fun x => x.gen = gen) = some x := by simp [hxgen]
    rw [hknown, if_pos (c := (some x).any (codeGood · (nopBytes i gen seq)) = true) hgood, if_neg (by decide)]
    dsimp only
    rw [if_neg (by rw [hgood]; decide), if_neg (by omega), if_neg (by omega),
      if_neg (by rw [noAcks_congr (hrh.trans hch) (hrr.trans hcr), hacks]; decide)]
  rw [hrun]
  refine ⟨?_, ?_⟩
  · rw [mapSession_accepted]
    exact congrArg (· ++ [⟨i, seq, 0x21, src, []⟩]) (hra.trans hca)
  · rw [mapSession_of_some (s := State.acceptCommand _ src i seq 0x21 []) hw, Option.map_some, hxseq]

/-! ## Datagrams at the control port -/

/-- A message that the block can take up at once is handled. -/
theorem takeMessage_receives {s : State} (src : Endpoint) (m : List Byte) (hcores : s.coresHeld = false) (hroom : s.ctlRoom = true)
    (hrx : s.tp.rxq = []) : s.takeMessage src m = s.receive src m :=
  if_neg (by simp [hcores, hroom, hrx])

/-- Settles O57. -/
theorem sessionsAndMessages : Obligations.SessionsAndMessages := by
  refine ⟨?_, ?_, ?_, ?_, ?_, ?_⟩
  · intro s src nonce lease i hon hserved hcores hroom hrx hnew hlo hhi hlen hi hfree htaken
    obtain ⟨y, hy, hrest⟩ := openAs_session s src (padTo 16 nonce) lease 0 i
    refine ⟨_, y, rfl, ?_, hrest⟩
    rw [doOpenSession_opens src nonce lease 0xFF hon hserved hcores hroom hrx,
      openFrom_opens 0 hnew hlo hhi hlen (tabFree_of_first hi hfree htaken), session_eq, State.settle_tp_sessions]
    exact hy
  · intro s sess t x hon hx hconf hby
    refine ⟨_, rfl, ?_⟩
    rw [doAuthConfirmTimeout_ends t hon hx hconf hby]
    exact endSession_gone (settle_tells _) (State.settle_tp_sessions _)
  · intro s sess t x hon hx hend
    refine ⟨_, rfl, ?_⟩
    rw [doSessionLeaseExpiry_ends t hon hx hend]
    exact endSession_gone ((raiseEvt_tells _ 20 1).trans (settle_tells _))
      ((State.settle_tp_sessions _).trans (State.raiseEvt_tp_sessions _ 20 1))
  · intro s src datagram t hport hserved hbad
    have hdo : doControlMessageReceive t src datagram s = (s.at t).bump F.QUE_DROP.HDR 1 := by
      unfold doControlMessageReceive
      dsimp only
      rw [at_atControlPort, hport, unserved_at, hserved, if_neg (by decide)]
      exact if_pos hbad
    refine ⟨_, rfl, ?_, ?_, ?_⟩
    · rw [settle_getF_block (by decide), hdo]
      exact (getF_setF_min _ F.QUE_DROP.HDR _ (by decide)).trans (by rw [State.at_getF])
    · rw [State.settle_tp_sessions, hdo, State.bump_eq, State.setF_tp, State.at_tp]
    · rw [State.settle_tp_accepted, hdo, State.bump_eq, State.setF_tp, State.at_tp]
  · intro s src datagram t hport hserved hgood hack hheld hroom
    have hdo : doControlMessageReceive t src datagram s =
        (s.at t).mapTp (fun x => { x with rxq := x.rxq ++ [(src, datagram.bytes)] }) := by
      unfold doControlMessageReceive
      dsimp only
      rw [at_atControlPort, hport, unserved_at, hserved, if_neg (by decide), if_neg (by rw [hgood]; decide), if_neg hack,
        drainMessages_of_held hheld]
      refine (if_pos (by rw [hheld]; rfl)).trans (if_neg ?_)
      rw [State.at_tp]
      exact Nat.not_lt.2 hroom
    refine ⟨_, rfl, ?_, ?_⟩
    · rw [State.settle_tp_rxq, hdo]
      exact congrArg (fun x : TransportState => x.rxq ++ [(src, datagram.bytes)]) (State.at_tp s t)
    · rw [State.settle_tp_accepted, hdo]
      show (s.at t).tp.accepted = _
      rw [State.at_tp]
  · intro s src i gen seq t p x hport hserved hcores hroom hrx hacks hi hgen hseq hx hxgen hxseq hslot
    obtain ⟨hgood, -, -, htype, -⟩ := nopBytes_wellFormed hi hgen hseq
    have hrx' : (s.at t).tp.rxq = [] := (congrArg TransportState.rxq (State.at_tp s t)).trans hrx
    have hdo : doControlMessageReceive t src ⟨p, nopBytes i gen seq⟩ s = (s.at t).receiveCommand src (nopBytes i gen seq) := by
      unfold doControlMessageReceive
      dsimp only
      rw [at_atControlPort, hport, unserved_at, hserved, if_neg (by decide), if_neg (by rw [hgood]; decide),
        if_neg (by rw [htype]; decide), drainMessages_eq_self hrx', takeMessage_receives src _ hcores (ctlRoom_at t hroom) hrx']
      exact if_neg (by rw [htype]; decide)
    obtain ⟨hacc, hseqs⟩ := receiveCommand_nop src hi hgen hseq ((at_session s t i).trans hx) hxgen hxseq hslot ((noAcks_at s t).trans hacks)
    refine ⟨_, rfl, ?_, ?_⟩
    · rw [State.settle_tp_accepted, hdo, hacc, State.at_tp]
    · rw [session_eq, State.settle_tp_sessions, hdo]
      exact hseqs

end Sys2Proof.Machine
end

section
/-! PROOFS. The registers and the state of the ports (chapter 13): what events, outputs and the end of a command leave of them. -/

namespace Sys2Proof.Machine

/-! ## Registers of a port

A field of port A's page from its first own register on; `nt p` of it is that of port `p`. -/

theorem portNo_lt (portB : Bool) : portNo portB < 2 := by cases portB <;> decide

abbrev portWord (a : Nat) : Prop := 0x12100 ≤ a ∧ a < 0x13000

theorem nt_block {p : Nat} {f : Field} (hp : p < 2) (hf : portWord f.addr) : blockWord (nt p f).addr := by
  have haddr : (nt p f).addr = f.addr + 0x1000 * p := rfl
  unfold blockWord portWord at *
  omega

theorem nt_getF_self (s : State) (p : Nat) (f : Field) (v : Nat) (hf : f.lsb + f.width ≤ 32) :
    (s.setF (nt p f) v).getF (nt p f) = v % 2 ^ f.width := getF_setF_self s (nt p f) v hf

theorem nt_getF_lt (s : State) (p : Nat) (f : Field) {v : Nat} (hf : f.lsb + f.width ≤ 32) (hv : v < 2 ^ f.width) :
    (s.setF (nt p f) v).getF (nt p f) = v := getF_setF_of_lt s (nt p f) hf hv

/-- A field of another register of the page, or beside the field in its register. -/
theorem nt_getF_beside (s : State) (p : Nat) (f g : Field) (v : Nat) (hf : f.lsb + f.width ≤ 32)
    (h : g.addr ≠ f.addr ∨ g.lsb + g.width ≤ f.lsb ∨ f.lsb + f.width ≤ g.lsb) : (s.setF (nt p f) v).getF (nt p g) = s.getF (nt p g) := by
  refine getF_setF_beside s (nt p f) (nt p g) v hf (h.imp_left fun hne heq => hne ?_)
  have heq : g.addr + 0x1000 * p = f.addr + 0x1000 * p := heq
  omega

theorem nt_getF_bump (s : State) (p : Nat) (f : Field) (n : Nat) (hf : f.lsb + f.width ≤ 32) :
    (s.bump (nt p f) n).getF (nt p f) = min (s.getF (nt p f) + n) (2 ^ f.width - 1) := getF_setF_min s (nt p f) _ hf

theorem flag_iff (s : State) (f : Field) : s.flag f = true ↔ s.getF f ≠ 0 := bne_iff_ne

/-! ## A port apart from the frames it has been given to send -/

def Port.unsent (x : Port) : Port := { x with c1Bits := 0 }

/-- The ports of `t` are those of `s` but for the frames given to them to send. -/
structure State.PortsAs (s t : State) : Prop where
  port : ∀ q, (t.port q).unsent = (s.port q).unsent

namespace State.PortsAs

variable {s t u : State}

theorem refl (s : State) : s.PortsAs s := ⟨fun _ => rfl⟩

theorem trans (h : s.PortsAs t) (k : t.PortsAs u) : s.PortsAs u := ⟨fun q => (k.port q).trans (h.port q)⟩

theorem of_net (h : t.net = s.net) : s.PortsAs t := ⟨fun q => by rw [State.port, h, State.port]⟩

theorem ite {c : Prop} [Decidable c] {a b : State} (ha : s.PortsAs a) (hb : s.PortsAs b) : s.PortsAs (if c then a else b) := by
  split
  · exact ha
  · exact hb

end State.PortsAs

theorem emit_port (s : State) (o : Out) (q : Nat) : (s.emit o).port q = s.port q := rfl

theorem sendFrame_portsAs (s : State) (p kind : Nat) (body : List Byte) : s.PortsAs (s.sendFrame p kind body) := by
  unfold State.sendFrame
  refine .ite ⟨fun q => ?_⟩ (.refl s)
  rw [emit_port, port_mapPort]
  split
  · next h => rw [h.1]; rfl
  · rfl

theorem setF_portsAs (s : State) (f : Field) (v : Nat) : s.PortsAs (s.setF f v) := .of_net (State.setF_net s f v)

theorem sendChainTrigger_portsAs (s : State) (i : Int) : s.PortsAs (s.sendChainTrigger i) := by
  unfold State.sendChainTrigger
  refine .ite (.trans (.trans ?_ (sendFrame_portsAs _ _ _ _)) (sendFrame_portsAs _ _ _ _)) (.refl s)
  refine State.PortsAs.trans ?_ (setF_portsAs _ _ _)
  exact .of_net rfl

theorem seqAction_portsAs (s : State) (act : Nat) (i : Int) : s.PortsAs (s.seqAction act i) := by
  unfold State.seqAction
  split
  case h_1 => exact .of_net (recTrigger_reports s i).net
  case h_2 => exact (State.PortsAs.of_net (recTrigger_reports s i).net).trans (sendChainTrigger_portsAs _ i)
  case h_3 => exact sendChainTrigger_portsAs s i
  case h_4 => exact setF_portsAs _ _ _
  case h_5 => exact setF_portsAs _ _ _
  case h_6 => exact setF_portsAs _ _ _
  case h_7 => exact setF_portsAs _ _ _
  case h_12 =>
    rw [show List.range 4 = [0, 1, 2, 3] from rfl, List.foldl_cons, List.foldl_cons, List.foldl_cons, List.foldl_cons, List.foldl_nil]
    exact (((setF_portsAs _ _ _).trans (setF_portsAs _ _ _)).trans (setF_portsAs _ _ _)).trans (setF_portsAs _ _ _)
  all_goals exact .of_net rfl

theorem seqStep_portsAs (s : State) : s.PortsAs s.seqStep := by
  have hset (u : State) (v : Nat) : u.PortsAs (u.setF F.REC_STAT.SEQ v) := .of_net rfl
  unfold State.seqStep
  exact .ite ((seqAction_portsAs _ _ _).trans (hset _ _)) (.ite ((seqAction_portsAs _ _ _).trans (hset _ _)) (.refl s))

theorem runPulses_portsAs (n : Nat) (s : State) : s.PortsAs (State.runPulses n s) := by
  induction n generalizing s with
  | zero => exact .of_net rfl
  | succ n ih =>
    unfold State.runPulses
    refine .ite (.refl s) ((seqStep_portsAs s).trans (.trans ?_ (ih _)))
    exact .of_net rfl

/-- The end of a command moves nothing of a port but the frames it has to send. -/
theorem settle_portsAs (s : State) : s.PortsAs s.settle := (runPulses_portsAs 8 s).trans (.of_net rfl)

/-! ## Ports and clock, ports and power -/

theorem portActive_congr {s u : State} {p : Nat} (hstage : u.stage p = s.stage p) (hpwr : u.pwr = s.pwr) : u.portActive p = s.portActive p := by
  have hon : u.on (6 + p) = s.on (6 + p) := by rw [State.on, hpwr, State.on]
  have hst : u.getF (F.NTA_STAT.STAGE.pageUp p) = s.getF (F.NTA_STAT.STAGE.pageUp p) := hstage
  rw [State.portActive, hst, hon, State.portActive]

theorem portActive_of_stage {s : State} {p : Nat} (hstage : s.stage p = 6) (hon : s.portOn p = true) : s.portActive p = true := by
  have hst : s.getF (F.NTA_STAT.STAGE.pageUp p) = 6 := hstage
  have hon : s.on (6 + p) = true := hon
  rw [State.portActive, hst, hon]
  rfl

theorem portActive_of_other {s : State} {p : Nat} (hstage : s.stage p ≠ 6) : s.portActive p = false := by
  have hst : s.getF (F.NTA_STAT.STAGE.pageUp p) ≠ 6 := hstage
  simp [State.portActive, hst]

theorem portOn_congr {s u : State} {p : Nat} (hpwr : u.pwr = s.pwr) : u.portOn p = s.portOn p := by
  rw [State.portOn, State.on, hpwr, State.portOn, State.on]

theorem at_portOn (s : State) (t p : Nat) : (s.at t).portOn p = s.portOn p := State.at_on s t _

theorem at_stage (s : State) (t p : Nat) : (s.at t).stage p = s.stage p := State.at_getF s t _

theorem at_chainMode (s : State) (t p : Nat) : (s.at t).chainMode p = s.chainMode p := by simp only [State.chainMode, State.flag, State.at_getF]

/-- Time moves nothing of a port but what waits on it. -/
theorem at_port {β : Type} (s : State) (t p : Nat) {g : Port → β} (hg : ∀ x : Port, g x.still = g x) : g ((s.at t).port p) = g (s.port p) := by
  rw [← hg, at_still, hg]

theorem at_ports_length (s : State) (t : Nat) : (s.at t).net.ports.length = s.net.ports.length := by
  obtain ⟨l, hl, hlen⟩ := at_net s t
  rw [hl]
  exact hlen

/-- Nor does the end of a command, but for frames to send. -/
theorem settle_port {β : Type} (s : State) (p : Nat) {g : Port → β} (hg : ∀ x : Port, g x.unsent = g x) : g (s.settle.port p) = g (s.port p) := by
  rw [← hg, (settle_portsAs s).port p, hg]

/-- A port that has been changed. -/
theorem port_mapPort_self {s : State} {p : Nat} (g : Port → Port) (hp : p < s.net.ports.length) : (s.mapPort p g).port p = g (s.port p) := by
  rw [port_mapPort, if_pos ⟨rfl, hp⟩]

theorem mapPort_length (s : State) (p : Nat) (g : Port → Port) : (s.mapPort p g).net.ports.length = s.net.ports.length := List.length_set

theorem mapPort_getF (s : State) (p : Nat) (g : Port → Port) (f : Field) : (s.mapPort p g).getF f = s.getF f := rfl

/-! ## Ports under writes of registers -/

theorem setF_port (s : State) (f : Field) (v q : Nat) : (s.setF f v).port q = s.port q := by
  rw [State.port, State.setF_net, State.port]

theorem raiseEvt_port (s : State) (p bit q : Nat) : (s.raiseEvt p bit).port q = s.port q := by
  rw [State.port, (raiseEvt_reports s p bit).net, State.port]

end Sys2Proof.Machine
end

section
/-! PROOFS. The life of a link (O38). -/

namespace Sys2Proof.Machine

/-! ## A link that is lost (R284) -/

section
variable (s : State) (p : Nat)

/-- The stage a port without a link goes to. -/
def State.downStage (s : State) (p : Nat) : Nat := if s.getF (nt p F.NTA_CTL.MODE) = 1 || !(s.port p).ready then 0 else 1

theorem downStage_cases : s.downStage p = 0 ∨ s.downStage p = 1 := by
  unfold State.downStage
  split
  · exact .inl rfl
  · exact .inr rfl

/-- The registers of a lost link, before the loss is counted. -/
def State.clearLink (s : State) (p : Nat) : State :=
  let s := ((s.setF (nt p F.NTA_STAT.STAGE) (s.downStage p)).setF (nt p F.NTA_STAT.CHAIN) 0).setF (nt p F.NTA_STAT.PEER) 0
  ((s.setF (nt p F.NTA_STAT.TX_ASLEEP) 0).setF (nt p F.NTA_STAT.RX_ASLEEP) 0).setF (nt p F.NTA_LANES.LOCK) 0

theorem clearLink_stage : (s.clearLink p).getF (nt p F.NTA_STAT.STAGE) = s.downStage p := by
  have hlt : s.downStage p < 2 ^ F.NTA_STAT.STAGE.width := by rcases downStage_cases s p with h | h <;> rw [h] <;> decide
  simp (disch := decide) only [State.clearLink, nt_getF_self, nt_getF_beside]
  exact Nat.mod_eq_of_lt hlt

theorem clearLink_downs : (s.clearLink p).getF (nt p F.NTA_LINK.DOWNS) = s.getF (nt p F.NTA_LINK.DOWNS) := by
  simp (disch := decide) only [State.clearLink, nt_getF_beside]

theorem clearLink_net : (s.clearLink p).net = s.net := by
  simp only [State.clearLink, State.setF_net]

theorem clearLink_port (q : Nat) : (s.clearLink p).port q = s.port q := by rw [State.port, clearLink_net, State.port]

theorem linkLost_eq (from_ : Nat) : s.linkLost p from_ =
    ((s.clearLink p).mapPort p (fun x => { x with stageAt := from_, peer := none, wakePending := false })).bump (nt p F.NTA_LINK.DOWNS) 1 := by
  unfold State.linkLost State.clearLink State.downStage
  rfl

theorem linkLost_stage (from_ : Nat) : (s.linkLost p from_).stage p = s.downStage p := by
  rw [linkLost_eq, State.stage, State.bump_eq, nt_getF_beside _ _ F.NTA_LINK.DOWNS F.NTA_STAT.STAGE _ (by decide) (by decide), mapPort_getF,
    clearLink_stage]

theorem linkLost_downs (from_ : Nat) : (s.linkLost p from_).getF (nt p F.NTA_LINK.DOWNS) =
    min (s.getF (nt p F.NTA_LINK.DOWNS) + 1) (2 ^ F.NTA_LINK.DOWNS.width - 1) := by
  rw [linkLost_eq, nt_getF_bump _ _ _ _ (by decide), mapPort_getF, clearLink_downs]

theorem linkLost_port {p : Nat} (from_ : Nat) (hp : p < s.net.ports.length) :
    (s.linkLost p from_).port p = { s.port p with stageAt := from_, peer := none, wakePending := false } := by
  rw [linkLost_eq, State.bump_eq, setF_port, port_mapPort_self _ (by rw [clearLink_net]; exact hp), clearLink_port]

theorem linkLost_length (from_ : Nat) : (s.linkLost p from_).net.ports.length = s.net.ports.length := by
  rw [linkLost_eq, State.bump_eq, State.setF_net, mapPort_length, clearLink_net]

end

/-- A broken link: the port is down, its change is to be reported, and the loss is counted. -/
theorem notice_getF (s : State) (p : Nat) (f : Field) : (s.notice p).getF f = s.getF f := rfl

theorem linkBroken_getF (s : State) (p : Nat) {f : Field} (hf : blockWord f.addr) : (s.linkBroken p).getF f = (s.linkLost p s.now).getF f := by
  rw [State.linkBroken, notice_getF, raiseEvt_getF_block hf, mapPort_getF]

theorem linkBroken_stage (s : State) {p : Nat} (hp : p < 2) : (s.linkBroken p).stage p = s.downStage p := by
  rw [State.stage, linkBroken_getF s p (nt_block hp (by decide)), ← State.stage, linkLost_stage]

theorem linkBroken_downs (s : State) {p : Nat} (hp : p < 2) : (s.linkBroken p).getF (nt p F.NTA_LINK.DOWNS) =
    min (s.getF (nt p F.NTA_LINK.DOWNS) + 1) (2 ^ F.NTA_LINK.DOWNS.width - 1) := by
  rw [linkBroken_getF s p (nt_block hp (by decide)), linkLost_downs]

theorem linkBroken_notices (s : State) (p : Nat) : p ∈ (s.linkBroken p).net.notices := by
  rw [State.linkBroken]
  exact List.mem_append_right _ (List.mem_singleton_self p)

/-- The two commands that break an active link (R282, R284). -/
theorem linkBroken_reported {s : State} {p : Nat} (t : Nat) (hp : p < 2) :
    ((s.at t).linkBroken p).settle.portActive p = false ∧ p ∈ ((s.at t).linkBroken p).settle.net.notices ∧
      ((s.at t).linkBroken p).settle.getF (nt p F.NTA_LINK.DOWNS) =
        min (s.getF (nt p F.NTA_LINK.DOWNS) + 1) (2 ^ F.NTA_LINK.DOWNS.width - 1) := by
  refine ⟨portActive_of_other ?_, ?_, ?_⟩
  · have hstage : ((s.at t).linkBroken p).settle.stage p = (s.at t).downStage p :=
      (settle_getF_block (nt_block hp (by decide)) _).trans (linkBroken_stage _ hp)
    rcases downStage_cases (s.at t) p with h | h <;> rw [hstage, h] <;> decide
  · rw [State.settle_net_notices]
    exact linkBroken_notices _ _
  · rw [settle_getF_block (nt_block hp (by decide)), linkBroken_downs _ hp, State.at_getF]

/-! ## A census held for a port (R294)

What it writes when the port comes up: `END`, `NTA_CENSUS`, and frames. -/

/-- `END` is cleared on both ports. -/
def State.clearEnd (s : State) : State := (s.setF (nt 0 F.NTA_STAT.END) 0).setF (nt 1 F.NTA_STAT.END) 0

def State.withHeld (s : State) (h : Option (CensusFrame × Nat × Nat)) : State := { s with net := { s.net with held := h } }

theorem passCensus_eq (s : State) (g : CensusFrame) (out : Nat) : s.passCensus g out =
    if s.portActive out then
      if s.chainMode out then (s.clearEnd.withHeld none).sendFrame out 1 (censusBytes g 1 false) else s.chainEnd g
    else s.clearEnd.withHeld (some (g, out, s.now + s.getF F.NTA_CENSUS_CFG.HOLD * 1000000)) := by
  unfold State.passCensus
  rfl

theorem withHeld_getF (s : State) (h : Option (CensusFrame × Nat × Nat)) (f : Field) : (s.withHeld h).getF f = s.getF f := rfl

theorem withHeld_portsAs (s : State) (h : Option (CensusFrame × Nat × Nat)) : s.PortsAs (s.withHeld h) := ⟨fun _ => rfl⟩

theorem clearEnd_net (s : State) : s.clearEnd.net = s.net := by simp only [State.clearEnd, State.setF_net]

theorem clearEnd_tp (s : State) : s.clearEnd.tp = s.tp := by simp only [State.clearEnd, State.setF_tp]

/-- A field of `NTA_STAT` beside `END`. -/
abbrev statField (f : Field) : Prop := f.addr = 0x12104 ∧ (f.lsb + f.width ≤ 12 ∨ 13 ≤ f.lsb)

theorem sendFrame_getF (s : State) (p kind : Nat) (body : List Byte) (f : Field) : (s.sendFrame p kind body).getF f = s.getF f := by
  unfold State.sendFrame
  split <;> rfl

section
variable {p : Nat} {f : Field} (hf : statField f)
include hf

theorem end_getF_stat (s : State) (q v : Nat) : (s.setF (nt q F.NTA_STAT.END) v).getF (nt p f) = s.getF (nt p f) := by
  obtain ⟨-, h⟩ := hf
  exact getF_setF_beside s (nt q F.NTA_STAT.END) (nt p f) v (show (12 + 1 : Nat) ≤ 32 by decide)
    (.inr (h.imp (fun h => show f.lsb + f.width ≤ 12 from h) (fun h => show 12 + 1 ≤ f.lsb from h)))

theorem copyDone_getF_stat (s : State) (g : CensusFrame) : (s.copyDone g).getF (nt p f) = s.getF (nt p f) := by
  have hne : (nt p f).addr ≠ 0x1214C := by
    obtain ⟨ha, -⟩ := hf
    have haddr : (nt p f).addr = f.addr + 0x1000 * p := rfl
    omega
  have hset (u : State) (lsb width v : Nat) : (u.setF ⟨0x1214C, lsb, width⟩ v).getF (nt p f) = u.getF (nt p f) := getF_setF_other u _ _ v hne
  simp only [State.copyDone, State.setB_eq, hset]

theorem chainEnd_getF_stat (s : State) (g : CensusFrame) : (s.chainEnd g).getF (nt p f) = s.getF (nt p f) := by
  rw [State.chainEnd, sendFrame_getF, copyDone_getF_stat hf, end_getF_stat hf, end_getF_stat hf]

theorem passCensus_getF_stat (s : State) (g : CensusFrame) (out : Nat) : (s.passCensus g out).getF (nt p f) = s.getF (nt p f) := by
  have hclear : s.clearEnd.getF (nt p f) = s.getF (nt p f) := by rw [State.clearEnd, end_getF_stat hf, end_getF_stat hf]
  rw [passCensus_eq]
  split
  · split
    · rw [sendFrame_getF, withHeld_getF, hclear]
    · exact chainEnd_getF_stat hf s g
  · rw [withHeld_getF, hclear]

theorem releaseCensus_getF_stat (s : State) (q : Nat) : (s.releaseCensus q).getF (nt p f) = s.getF (nt p f) := by
  unfold State.releaseCensus
  split
  · split
    · exact passCensus_getF_stat hf _ _ _
    · rfl
  · rfl

end

/-- The end of the chain answers with a frame. -/
theorem copyDone_beside (s : State) (f : CensusFrame) : (s.copyDone f).net = s.net ∧ (s.copyDone f).tp = s.tp := by
  unfold State.copyDone
  rw [State.setB_eq, State.setB_eq]
  refine ⟨?_, ?_⟩
  · rw [State.setF_net, State.setF_net, State.setF_net, State.setF_net]
  · rw [State.setF_tp, State.setF_tp, State.setF_tp, State.setF_tp]

theorem chainEnd_portsAs (s : State) (g : CensusFrame) : s.PortsAs (s.chainEnd g) := by
  unfold State.chainEnd
  refine .trans (.of_net ?_) (sendFrame_portsAs _ _ _ _)
  rw [(copyDone_beside _ _).1, State.setF_net, State.setF_net]

theorem chainEnd_tells (s : State) (g : CensusFrame) : s.Tells (s.chainEnd g) := by
  unfold State.chainEnd
  refine (sendFrame_tells _ _ _ _).before ?_
  rw [(copyDone_beside _ _).2, State.setF_tp, State.setF_tp]

theorem passCensus_portsAs (s : State) (g : CensusFrame) (out : Nat) : s.PortsAs (s.passCensus g out) := by
  rw [passCensus_eq]
  refine .ite (.ite ?_ (chainEnd_portsAs s g)) ((State.PortsAs.of_net (clearEnd_net s)).trans (withHeld_portsAs _ _))
  exact ((State.PortsAs.of_net (clearEnd_net s)).trans (withHeld_portsAs _ _)).trans (sendFrame_portsAs _ _ _ _)

theorem passCensus_tells (s : State) (g : CensusFrame) (out : Nat) : s.Tells (s.passCensus g out) := by
  rw [passCensus_eq]
  refine .ite (.ite ((sendFrame_tells _ _ _ _).before ?_) (chainEnd_tells s g)) (.of_tp ?_)
  · exact clearEnd_tp s
  · exact clearEnd_tp s

theorem releaseCensus_portsAs (s : State) (p : Nat) : s.PortsAs (s.releaseCensus p) := by
  unfold State.releaseCensus
  split
  · exact .ite ((withHeld_portsAs s none).trans (passCensus_portsAs _ _ _)) (.refl s)
  · exact .refl s

theorem releaseCensus_tells (s : State) (p : Nat) : s.Tells (s.releaseCensus p) := by
  unfold State.releaseCensus
  split
  · exact .ite ((passCensus_tells _ _ _).before rfl) (.refl s)
  · exact .refl s

/-! ## A link that comes up -/

theorem askDhcp_getF (s : State) (f : Field) : s.askDhcp.getF f = s.getF f := by
  unfold State.askDhcp
  split <;> rfl

/-- A port apart from what it has been given to send and to answer. -/
def Port.silent (x : Port) : Port := { x with c1Bits := 0, ctlBits := 0 }

theorem Port.silent_of_unsent {x y : Port} (h : x.unsent = y.unsent) : x.silent = y.silent :=
  have hs (z : Port) : z.silent = z.unsent.silent := rfl
  by rw [hs x, h, ← hs y]

theorem askDhcp_silent (s : State) (q : Nat) : (s.askDhcp.port q).silent = (s.port q).silent := by
  unfold State.askDhcp
  split
  · rw [emit_port, port_mapPort]
    split
    · next h => rw [h.1]; rfl
    · rfl
  · rfl

theorem askDhcp_tells (s : State) : s.Tells s.askDhcp := by
  unfold State.askDhcp
  exact .ite ((emit_tells _ _).before rfl) (.refl s)

section
variable (s : State) (p rate : Nat) (chain : Bool) (lanes txPre rxPre : Nat)

/-- What `NTA_STAT` shows of a link that comes up. -/
def State.linkShown : State :=
  (((s.setF (nt p F.NTA_STAT.STAGE) 6).setB (nt p F.NTA_STAT.CHAIN) chain).setB (nt p F.NTA_STAT.PEER) chain).setF (nt p F.NTA_STAT.RATE) rate

/-- What the latencies and the lanes show of it. -/
def State.lanesShown : State :=
  (((s.setLatency p rate).setF (nt p F.NTA_LANES.LOCK) lanes).setF (nt p F.NTA_LANES.TX_PRE) txPre).setF (nt p F.NTA_LANES.RX_PRE) rxPre

/-- The registers of a link that comes up. -/
abbrev State.linkRegs : State := (s.linkShown p rate chain).lanesShown p rate lanes txPre rxPre

theorem linkShown_stat : (s.linkShown p rate chain).getF (nt p F.NTA_STAT.STAGE) = 6 ∧
    (s.linkShown p rate chain).getF (nt p F.NTA_STAT.CHAIN) = (if chain then 1 else 0) ∧
    (s.linkShown p rate chain).getF (nt p F.NTA_STAT.RATE) = rate % 2 ^ F.NTA_STAT.RATE.width := by
  refine ⟨?_, ?_, ?_⟩ <;> simp (disch := decide) only [State.linkShown, State.setB_eq, nt_getF_self, nt_getF_beside]
  · rfl
  · cases chain <;> rfl

/-- Latencies and lanes stand in other registers. -/
theorem lanesShown_getF {f : Field} (hf : f.addr = 0x12104) : (s.lanesShown p rate lanes txPre rxPre).getF (nt p f) = s.getF (nt p f) := by
  have hset (u : State) (g : Field) (v : Nat) (hg : g.addr ≠ 0x12104) : (u.setF (nt p g) v).getF (nt p f) = u.getF (nt p f) := by
    refine getF_setF_other u (nt p g) (nt p f) v fun h => hg ?_
    have h : f.addr + 0x1000 * p = g.addr + 0x1000 * p := h
    omega
  rw [State.lanesShown, hset _ F.NTA_LANES.RX_PRE _ (by decide), hset _ F.NTA_LANES.TX_PRE _ (by decide),
    hset _ F.NTA_LANES.LOCK _ (by decide)]
  exact (hset _ F.NTA_LAT.RX _ (by decide)).trans (hset _ F.NTA_LAT.TX _ (by decide))

theorem setLatency_beside : (s.setLatency p rate).net = s.net ∧ (s.setLatency p rate).tp = s.tp :=
  ⟨(State.setF_net _ _ _).trans (State.setF_net _ _ _), (State.setF_tp _ _ _).trans (State.setF_tp _ _ _)⟩

theorem linkRegs_beside : (s.linkRegs p rate chain lanes txPre rxPre).net = s.net ∧ (s.linkRegs p rate chain lanes txPre rxPre).tp = s.tp := by
  have hset (u : State) (g : Field) (v : Nat) : (u.setF g v).net = u.net ∧ (u.setF g v).tp = u.tp := ⟨rfl, rfl⟩
  have hlat := setLatency_beside (s.linkShown p rate chain) p rate
  have hshown : (s.linkShown p rate chain).net = s.net ∧ (s.linkShown p rate chain).tp = s.tp := by
    rw [State.linkShown, (hset _ _ _).1, (hset _ _ _).2]
    exact ⟨(hset _ _ _).1.trans ((hset _ _ _).1.trans (hset _ _ _).1), (hset _ _ _).2.trans ((hset _ _ _).2.trans (hset _ _ _).2)⟩
  have hlanes : (s.linkRegs p rate chain lanes txPre rxPre).net = ((s.linkShown p rate chain).setLatency p rate).net ∧
      (s.linkRegs p rate chain lanes txPre rxPre).tp = ((s.linkShown p rate chain).setLatency p rate).tp :=
    ⟨(hset _ _ _).1.trans ((hset _ _ _).1.trans (hset _ _ _).1), (hset _ _ _).2.trans ((hset _ _ _).2.trans (hset _ _ _).2)⟩
  exact ⟨hlanes.1.trans (hlat.1.trans hshown.1), hlanes.2.trans (hlat.2.trans hshown.2)⟩

/-- The port of a link that comes up, and its reports. -/
def State.linkReports : State :=
  let u := s.linkRegs p rate chain lanes txPre rxPre
  let u := u.mapPort p (fun x => { x with idleFrom := u.now, wakePending := false, bucket := bucketBits })
  let u := (u.raiseEvt (portPage p) 0).notice p
  if chain then u.raiseEvt (portPage p) 3 else u

theorem linkUp_eq : s.linkUp p rate chain lanes txPre rxPre =
    if (State.releaseCensus (s.linkReports p rate chain lanes txPre rxPre) p).hostPort = p
      then (State.releaseCensus (s.linkReports p rate chain lanes txPre rxPre) p).askDhcp
      else State.releaseCensus (s.linkReports p rate chain lanes txPre rxPre) p := by
  unfold State.linkUp State.linkReports State.linkRegs State.lanesShown State.linkShown
  rfl

theorem notice_tells : s.Tells (s.notice p) := .of_tp rfl

theorem linkReports_getF {f : Field} (hf : blockWord f.addr) :
    (s.linkReports p rate chain lanes txPre rxPre).getF f = (s.linkRegs p rate chain lanes txPre rxPre).getF f := by
  unfold State.linkReports
  extract_lets u v w
  have hw : w.getF f = u.getF f := by rw [show w = (v.raiseEvt (portPage p) 0).notice p from rfl, notice_getF, raiseEvt_getF_block hf, mapPort_getF]
  split
  · rw [raiseEvt_getF_block hf, hw]
  · exact hw

/-- What of the port a link that comes up leaves: all but the start of its idle time, its bucket and a wake that waited. -/
theorem linkReports_port : ∃ x, ((s.linkReports p rate chain lanes txPre rxPre).port p).unsent = Port.unsent x ∧ x.peer = (s.port p).peer ∧
    x.residence = (s.port p).residence := by
  unfold State.linkReports
  extract_lets u v w
  have hv : (v.port p).peer = (s.port p).peer ∧ (v.port p).residence = (s.port p).residence := by
    rw [show v = u.mapPort p _ from rfl, port_mapPort]
    have hu : u.port p = s.port p := by rw [State.port, (linkRegs_beside _ _ _ _ _ _ _).1, State.port]
    split <;> rw [hu] <;> exact ⟨rfl, rfl⟩
  have hw : w.port p = v.port p := raiseEvt_port v (portPage p) 0 p
  refine ⟨v.port p, ?_, hv⟩
  split
  · rw [raiseEvt_port, hw]
  · rw [hw]

theorem linkReports_tells : s.Tells (s.linkReports p rate chain lanes txPre rxPre) := by
  unfold State.linkReports
  extract_lets u v w
  have hv : s.Tells v := (State.Tells.of_tp (linkRegs_beside s p rate chain lanes txPre rxPre).2).trans (mapPort_tells _ _ _)
  have hw : s.Tells w := (hv.trans (raiseEvt_tells v (portPage p) 0)).trans (notice_tells _ p)
  exact .ite (hw.trans (raiseEvt_tells _ _ _)) hw

theorem linkUp_tells : s.Tells (s.linkUp p rate chain lanes txPre rxPre) := by
  rw [linkUp_eq]
  have h := (linkReports_tells s p rate chain lanes txPre rxPre).trans (releaseCensus_tells _ p)
  exact .ite (h.trans (askDhcp_tells _)) h

theorem linkUp_stat {p : Nat} (hp : p < 2) : (s.linkUp p rate chain lanes txPre rxPre).stage p = 6 ∧
    (s.linkUp p rate chain lanes txPre rxPre).getF (nt p F.NTA_STAT.CHAIN) = (if chain then 1 else 0) ∧
    (s.linkUp p rate chain lanes txPre rxPre).getF (nt p F.NTA_STAT.RATE) = rate % 2 ^ F.NTA_STAT.RATE.width := by
  have hkeep : ∀ f : Field, statField f →
      (s.linkUp p rate chain lanes txPre rxPre).getF (nt p f) = (s.linkShown p rate chain).getF (nt p f) := by
    intro f hf
    have hblock : blockWord (nt p f).addr := nt_block hp (by rw [hf.1]; decide)
    rw [linkUp_eq, apply_ite (fun u : State => u.getF (nt p f)), askDhcp_getF, ite_self, releaseCensus_getF_stat hf,
      linkReports_getF _ _ _ _ _ _ _ hblock, lanesShown_getF _ _ _ _ _ _ hf.1]
  obtain ⟨hstage, hchain, hrate⟩ := linkShown_stat s p rate chain
  exact ⟨(hkeep _ (by decide)).trans hstage, (hkeep _ (by decide)).trans hchain, (hkeep _ (by decide)).trans hrate⟩

theorem linkUp_port : ((s.linkUp p rate chain lanes txPre rxPre).port p).peer = (s.port p).peer ∧
    ((s.linkUp p rate chain lanes txPre rxPre).port p).residence = (s.port p).residence := by
  obtain ⟨x, hx, hpeer, hres⟩ := linkReports_port s p rate chain lanes txPre rxPre
  have hrel : (((State.releaseCensus (s.linkReports p rate chain lanes txPre rxPre) p).port p)).silent = x.silent :=
    Port.silent_of_unsent (((releaseCensus_portsAs _ p).port p).trans hx)
  have hup : ((s.linkUp p rate chain lanes txPre rxPre).port p).silent = x.silent := by
    rw [linkUp_eq, apply_ite (fun u : State => (u.port p).silent), askDhcp_silent, ite_self, hrel]
  exact ⟨(congrArg Port.peer hup :).trans hpeer, (congrArg Port.residence hup :).trans hres⟩

theorem linkUp_pwr : (s.linkUp p rate chain lanes txPre rxPre).pwr = s.pwr := linkUp_part (π := .power) s p rate chain lanes txPre rxPre

end

end Sys2Proof.Machine
end

section
/-! PROOFS. The commands of the life of a link (O38). -/

namespace Sys2Proof.Machine

theorem modeLanes_at (s : State) (t p : Nat) : (s.at t).modeLanes p = s.modeLanes p := by
  simp only [State.modeLanes, State.at_getF]

theorem settle_stage (s : State) {p : Nat} (hp : p < 2) : s.settle.stage p = s.stage p := settle_getF_block (nt_block hp (by decide)) s

theorem settle_portActive (s : State) {p : Nat} (hp : p < 2) : s.settle.portActive p = s.portActive p :=
  portActive_congr (settle_stage s hp) (State.settle_pwr s)

/-- A module becomes ready, and its port begins. -/
theorem doModuleReady_detects {s : State} {report : ModuleReport} (t : Nat) (hlen : portNo report.portB < s.net.ports.length)
    (hon : s.portOn (portNo report.portB) = true) (hpresent : report.present = true)
    (hlanes : report.lanes &&& s.modeLanes (portNo report.portB) = s.modeLanes (portNo report.portB))
    (hwas : (s.port (portNo report.portB)).ready = false) (hmode : s.getF (nt (portNo report.portB) F.NTA_CTL.MODE) ≠ 1) :
    ∃ v : State, doModuleReady report t s = v.setF (nt (portNo report.portB) F.NTA_STAT.STAGE) 1 ∧
      (v.port (portNo report.portB)).ready = true ∧ (v.port (portNo report.portB)).stageAt = max s.now t := by
  unfold doModuleReady
  extract_lets +onlyGivenNames u p ready was v
  have hready : ready = true := by simp only [ready, u, p, modeLanes_at, hpresent, hlanes]; rfl
  have hnot : was = false := (at_port s t p (g := Port.ready) (fun _ => rfl)).trans hwas
  have hv : v.portOn p = true := (at_portOn s t p).trans hon
  have hvlen : p < v.net.ports.length := by
    rw [show v = u.mapPort p _ from rfl, mapPort_length, at_ports_length]
    exact hlen
  rw [if_neg (by rw [hv]; decide), hready, hnot]
  refine ⟨_, (if_pos rfl).trans (if_neg ?_), ?_, ?_⟩
  · rw [mapPort_getF, show v.getF (nt p F.NTA_CTL.MODE) = u.getF (nt p F.NTA_CTL.MODE) from rfl, State.at_getF]
    exact hmode
  · rw [port_mapPort_self _ hvlen]
  · rw [port_mapPort_self _ hvlen]
    exact State.at_now s t

/-- A stage that runs and has lasted its least time. -/
theorem stage_elapsed {s : State} {p st : Nat} (t : Nat) (hon : s.portOn p = true) (h1 : 1 ≤ st) (h6 : st < 6)
    (hmin : (s.port p).stageAt + stageMin st ≤ max s.now t) :
    ¬ ((!(s.at t).portOn p || st = 0 || 6 ≤ st || decide ((s.at t).now < ((s.at t).port p).stageAt + stageMin st)) = true) := by
  rw [at_portOn, hon, at_port s t p (g := Port.stageAt) (fun _ => rfl), State.at_now]
  simp only [Bool.not_true, Bool.false_or, Bool.or_eq_true, decide_eq_true_eq]
  omega

/-- A training stage that has lasted its least time leads to the next. -/
theorem doLinkStageComplete_advances {s : State} {portB : Bool} (lane4 : Bool) (caps : CapsExchange) (t : Nat)
    (hlen : portNo portB < s.net.ports.length) (hon : s.portOn (portNo portB) = true) (h1 : 1 ≤ s.stage (portNo portB))
    (h5 : s.stage (portNo portB) < 5)
    (hmin : (s.port (portNo portB)).stageAt + stageMin (s.stage (portNo portB)) ≤ max s.now t) :
    (doLinkStageComplete portB lane4 caps t s).stage (portNo portB) = s.stage (portNo portB) + 1 ∧
      ((doLinkStageComplete portB lane4 caps t s).port (portNo portB)).stageAt = max s.now t := by
  unfold doLinkStageComplete
  extract_lets +onlyGivenNames u p st
  have hst : st = s.stage p := at_stage s t p
  have hlow : 1 ≤ st := hst ▸ h1
  have hhigh : st < 5 := hst ▸ h5
  rw [if_neg (stage_elapsed t hon hlow (by omega) (hst ▸ hmin)), if_neg (by omega)]
  extract_lets v
  have hv : v.net.ports.length = s.net.ports.length ∧ v.now = max s.now t := by
    have hu : u.net.ports.length = s.net.ports.length ∧ u.now = max s.now t := ⟨at_ports_length s t, State.at_now s t⟩
    rw [show v = if st = 2 then _ else u from rfl]
    split
    · exact ⟨(mapPort_length _ _ _).trans hu.1, hu.2⟩
    · exact hu
  refine ⟨?_, ?_⟩
  · rw [State.stage, mapPort_getF, nt_getF_lt _ _ _ (by decide) (by show st + 1 < 8; omega), hst]
  · rw [port_mapPort_self _ (by rw [State.setF_net, hv.1]; exact hlen)]
    exact hv.2

/-! ## Spare lanes of a link that trains (R287) -/

theorem trainLanes_getF (s : State) {p : Nat} (hp : p < 2) (four : Bool) {f : Field} (hf : f.addr = 0x12104) :
    (s.trainLanes p four).getF (nt p f) = s.getF (nt p f) := by
  have hblock : blockWord (nt p f).addr := nt_block hp (by rw [hf]; decide)
  unfold State.trainLanes
  extract_lets pg used left moved u v
  have hu : u.getF (nt p f) = s.getF (nt p f) :=
    (setF_header_getF_block hblock _ pg 0x24 0 8 _ (by decide)).trans (setF_header_getF_block hblock s pg 0x24 8 8 _ (by decide))
  have hv : v.getF (nt p f) = u.getF (nt p f) := by
    rw [show v = if four then u else _ from rfl]
    split
    · rfl
    · rw [nt_getF_beside _ _ F.NTA_LANES.SPARE_RX f _ (by decide) (.inl (by rw [hf]; decide)),
        nt_getF_beside _ _ F.NTA_LANES.SPARE_TX f _ (by decide) (.inl (by rw [hf]; decide))]
      exact setF_header_getF_block hblock u pg 0x24 16 16 0 (by decide)
  split
  · rw [raiseEvt_getF_block hblock, hv, hu]
  · rw [hv, hu]

/-- The lanes of a link that trains move neither ports nor outputs. -/
theorem trainLanes_beside (s : State) (p : Nat) (four : Bool) : (s.trainLanes p four).net = s.net ∧ s.Tells (s.trainLanes p four) := by
  unfold State.trainLanes
  extract_lets pg used left moved u v
  have hset (w : State) (g : Field) (n : Nat) : (w.setF g n).net = w.net ∧ (w.setF g n).tp = w.tp := ⟨rfl, rfl⟩
  have hu : u.net = s.net ∧ u.tp = s.tp := ⟨(hset _ _ _).1.trans (hset _ _ _).1, (hset _ _ _).2.trans (hset _ _ _).2⟩
  have hv : v.net = s.net ∧ v.tp = s.tp := by
    rw [show v = if four then u else _ from rfl]
    split
    · exact hu
    · exact ⟨(hset _ _ _).1.trans ((hset _ _ _).1.trans ((hset _ _ _).1.trans hu.1)),
        (hset _ _ _).2.trans ((hset _ _ _).2.trans ((hset _ _ _).2.trans hu.2))⟩
  split
  · exact ⟨(State.raiseEvt_net _ _ _).trans hv.1, (State.Tells.of_tp hv.2).trans (raiseEvt_tells _ _ _)⟩
  · exact ⟨hv.1, .of_tp hv.2⟩

theorem poolTrigger_net (s : State) (page cause : Nat) : (s.poolTrigger page cause).net = s.net := by
  have hnote (u : State) : (u.noteArisen cause).net = u.net := by
    unfold State.noteArisen
    extract_lets
    split
    · exact (noteCauses_reports _ _).net
    · rfl
  have hstand (u : State) : (u.standTrigger page cause).net = u.net := by
    rw [State.standTrigger, hnote, State.recordDue, State.stand]
    dsimp only
    split <;> rfl
  unfold State.poolTrigger
  rw [hstand]
  split
  · split
    · split
      · rfl
      · exact State.raiseEvt_net _ 6 2
    · rfl
  · rfl

/-- A link that falls back to two lanes: its stage stays, and the trigger of the exhausted pool stands. -/
theorem fallBack_stage (s : State) {p : Nat} (hp : p < 2) : (s.fallBack p).stage p = s.stage p := by
  rw [State.stage, State.fallBack, poolTrigger_getF_block (nt_block hp (by decide)), trainLanes_getF _ hp _ rfl, mapPort_getF, State.stage]

theorem fallBack_twoLanes {s : State} {p : Nat} (hlen : p < s.net.ports.length) : ((s.fallBack p).port p).twoLanes = true := by
  have hnet : (s.fallBack p).port p = (s.mapPort p (fun x => { x with twoLanes := true, lane4 := false })).port p := by
    rw [State.fallBack, State.port, poolTrigger_net, (trainLanes_beside _ _ _).1, State.port]
  rw [hnet, port_mapPort_self _ hlen]

/-! ## `CAPS` (R283, R287) -/

theorem ownCaps_at (s : State) (t p residence : Nat) : (s.at t).ownCaps p residence = s.ownCaps p residence := by
  simp only [State.ownCaps, State.serialNo, State.unitMac, State.flag, State.at_getF, at_port s t p (g := Port.lane4) (fun _ => rfl)]

/-- The two ends have what the mode asks for: the link comes up in chain mode with the partner's capabilities. -/
theorem doLinkStageComplete_joins {s : State} {portB : Bool} (lane4 : Bool) (caps : CapsExchange) (t : Nat)
    (hlen : portNo portB < s.net.ports.length) (hon : s.portOn (portNo portB) = true) (h5 : s.stage (portNo portB) = 5)
    (hmin : (s.port (portNo portB)).stageAt ≤ max s.now t)
    (hcaps : ((s.port (portNo portB)).lane4 = true ∧ caps.peer.lane4 = true) ∨ (s.port (portNo portB)).twoLanes = true ∨
      s.getF (nt (portNo portB) F.NTA_CTL.SPARE) = 0) :
    ∃ (v : State) (lanes : Nat), doLinkStageComplete portB lane4 caps t s =
        v.linkUp (portNo portB) (if (s.port (portNo portB)).twoLanes then 1 else 0) true lanes 31 31 ∧
      (v.port (portNo portB)).peer = some caps.peer ∧ (v.port (portNo portB)).residence = caps.residence ∧
      Out.capability (portNo portB) (s.ownCaps (portNo portB) caps.residence) ∈ v.tp.out := by
  unfold doLinkStageComplete
  extract_lets +onlyGivenNames u p st
  have hst : st = 5 := (at_stage s t p).trans h5
  rw [if_neg (stage_elapsed t hon (by omega) (by omega) (by rw [hst]; exact hmin)), if_pos hst]
  extract_lets +onlyGivenNames two four v
  have htwo : two = (s.port p).twoLanes := at_port s t p (g := Port.twoLanes) (fun _ => rfl)
  have hfour : four = ((s.port p).lane4 && caps.peer.lane4 && !two) := by
    rw [show four = ((u.port p).lane4 && caps.peer.lane4 && !two) from rfl,
      show (u.port p).lane4 = (s.port p).lane4 from at_port s t p (g := Port.lane4) (fun _ => rfl)]
  have hup : ¬ ((!four && !two && v.flag (nt p F.NTA_CTL.SPARE)) = true) := by
    have hspare : v.getF (nt p F.NTA_CTL.SPARE) = s.getF (nt p F.NTA_CTL.SPARE) := State.at_getF s t _
    rw [hfour, htwo, State.flag, hspare]
    rcases hcaps with ⟨hl, hpeer⟩ | hcaps
    · rw [show (s.port p).lane4 = true from hl, hpeer]
      cases (s.port p).twoLanes <;> simp
    · rcases hcaps with htl | hzero
      · rw [show (s.port p).twoLanes = true from htl]
        simp
      · rw [show s.getF (nt p F.NTA_CTL.SPARE) = 0 from hzero]
        simp
  rw [if_neg hup, htwo]
  extract_lets w x
  have hport : x.port p = { v.port p with peer := some caps.peer, lane4 := four, residence := caps.residence, margins := caps.margins } := by
    rw [State.port, (trainLanes_beside w p four).1, ← State.port, show w = v.mapPort p _ from rfl,
      port_mapPort_self _ (by rw [show v.net = u.net from rfl, at_ports_length]; exact hlen)]
  refine ⟨x, _, rfl, ?_, ?_, ?_⟩
  · rw [hport]
  · rw [hport]
  · refine (trainLanes_beside w p four).2.mem_out ?_
    rw [← ownCaps_at s t]
    exact List.mem_cons_self

/-- Lane 4 was to be the spare and did not train: the link is lost and falls back to two lanes. -/
theorem doLinkStageComplete_fallsBack {s : State} {portB : Bool} (lane4 : Bool) (caps : CapsExchange) (t : Nat)
    (hon : s.portOn (portNo portB) = true) (h5 : s.stage (portNo portB) = 5)
    (hmin : (s.port (portNo portB)).stageAt ≤ max s.now t)
    (hlane : (s.port (portNo portB)).lane4 = false ∨ caps.peer.lane4 = false) (htwo : (s.port (portNo portB)).twoLanes = false)
    (hspare : s.getF (nt (portNo portB) F.NTA_CTL.SPARE) = 1) :
    ∃ v : State, doLinkStageComplete portB lane4 caps t s = (v.linkLost (portNo portB) v.now).fallBack (portNo portB) ∧
      v.net.ports.length = s.net.ports.length := by
  unfold doLinkStageComplete
  extract_lets +onlyGivenNames u p st
  have hst : st = 5 := (at_stage s t p).trans h5
  rw [if_neg (stage_elapsed t hon (by omega) (by omega) (by rw [hst]; exact hmin)), if_pos hst]
  extract_lets +onlyGivenNames two four v
  have htwo : two = false := (at_port s t p (g := Port.twoLanes) (fun _ => rfl)).trans htwo
  have hfour : four = false := by
    rw [show four = ((u.port p).lane4 && caps.peer.lane4 && !two) from rfl,
      show (u.port p).lane4 = (s.port p).lane4 from at_port s t p (g := Port.lane4) (fun _ => rfl)]
    rcases hlane with hl | hl
    · rw [show (s.port p).lane4 = false from hl]; rfl
    · rw [hl, Bool.and_false]; rfl
  have hflag : v.flag (nt p F.NTA_CTL.SPARE) = true := (flag_iff _ _).2 (by
    rw [show v.getF (nt p F.NTA_CTL.SPARE) = s.getF (nt p F.NTA_CTL.SPARE) from State.at_getF s t _,
      show s.getF (nt p F.NTA_CTL.SPARE) = 1 from hspare]
    decide)
  exact ⟨v, if_pos (by rw [htwo, hfour, hflag]; rfl), at_ports_length s t⟩

/-! ## Attempts that fail, and standard streams (R282, R284) -/

theorem downStage_at (s : State) (t p : Nat) :
    (s.at t).downStage p = if s.getF (nt p F.NTA_CTL.MODE) = 1 ∨ (s.port p).ready = false then 0 else 1 := by
  rw [State.downStage, State.at_getF, at_port s t p (g := Port.ready) (fun _ => rfl)]
  cases (s.port p).ready <;> simp

theorem doLinkStageTimeout_fails {s : State} {portB : Bool} {d : Nat} (t : Nat) (hon : s.portOn (portNo portB) = true)
    (hmax : stageMax (s.stage (portNo portB)) = some d) (hlate : (s.port (portNo portB)).stageAt + d ≤ max s.now t) :
    doLinkStageTimeout portB t s = (s.at t).linkLost (portNo portB) (max s.now t + 10000000) := by
  unfold doLinkStageTimeout
  dsimp only
  rw [at_stage, hmax]
  dsimp only
  rw [State.at_now]
  refine if_pos ?_
  rw [at_portOn, hon, at_port s t _ (g := Port.stageAt) (fun _ => rfl), decide_eq_true hlate]
  rfl

theorem doStandardLock_joins {s : State} {portB : Bool} (txPre rxPre t : Nat) (hon : s.portOn (portNo portB) = true)
    (hdown : s.portActive (portNo portB) = false) (hready : (s.port (portNo portB)).ready = true)
    (hat : (s.port (portNo portB)).stageAt ≤ max s.now t)
    (hmode : s.getF (nt (portNo portB) F.NTA_CTL.MODE) = 1 ∨ s.getF (nt (portNo portB) F.NTA_CTL.MODE) = 0 ∧ s.stage (portNo portB) = 1) :
    ∃ lanes, doStandardLock portB txPre rxPre t s =
      (s.at t).linkUp (portNo portB) (s.getF (nt (portNo portB) F.NTA_CTL.RATE)) false lanes (txPre % 32) (rxPre % 32) := by
  unfold doStandardLock
  dsimp only
  rw [at_portOn, hon, portActive_at, hdown, at_port s t _ (g := Port.ready) (fun _ => rfl), hready,
    at_port s t _ (g := Port.stageAt) (fun _ => rfl), at_stage, State.at_now, State.at_getF, State.at_getF, decide_eq_true hat]
  refine ⟨_, if_pos ?_⟩
  rcases hmode with hm | ⟨hm, hs⟩
  · rw [hm]; rfl
  · rw [hm, hs]; rfl

theorem doLinkDown_breaks {s : State} {portB : Bool} (t : Nat) (hon : s.portOn (portNo portB) = true)
    (hactive : s.portActive (portNo portB) = true) : doLinkDown portB t s = (s.at t).linkBroken (portNo portB) := by
  unfold doLinkDown
  dsimp only
  rw [at_portOn, hon, portActive_at, hactive]
  rfl

theorem doCapabilityFrame_breaks {s : State} {portB : Bool} (t : Nat) (hon : s.portOn (portNo portB) = true)
    (hactive : s.portActive (portNo portB) = true) (hchain : s.chainMode (portNo portB) = false)
    (hmode : s.getF (nt (portNo portB) F.NTA_CTL.MODE) = 0) : doCapabilityFrame portB t s = (s.at t).linkBroken (portNo portB) := by
  unfold doCapabilityFrame
  dsimp only
  rw [at_portOn, hon, portActive_at, hactive, at_chainMode, hchain, State.at_getF, hmode]
  rfl

/-- A link that has come up, at the end of the command. -/
theorem linkUp_settled (v : State) {p : Nat} (rate : Nat) (chain : Bool) (lanes txPre rxPre : Nat) (hp : p < 2) (hon : v.portOn p = true) :
    (v.linkUp p rate chain lanes txPre rxPre).settle.portActive p = true ∧
      (v.linkUp p rate chain lanes txPre rxPre).settle.chainMode p = chain ∧
      (v.linkUp p rate chain lanes txPre rxPre).settle.getF (nt p F.NTA_STAT.RATE) = rate % 2 ^ F.NTA_STAT.RATE.width := by
  obtain ⟨hstage, hchain, hrate⟩ := linkUp_stat v rate chain lanes txPre rxPre hp
  refine ⟨?_, ?_, ?_⟩
  · rw [settle_portActive _ hp]
    exact portActive_of_stage hstage ((portOn_congr (linkUp_pwr v p rate chain lanes txPre rxPre)).trans hon)
  · rw [State.chainMode, State.flag, settle_getF_block (nt_block hp (by decide)), hchain]
    cases chain <;> rfl
  · rw [settle_getF_block (nt_block hp (by decide)), hrate]

/-- Settles O38. -/
theorem linkLife : Obligations.LinkLife := by
  refine ⟨?_, ?_, ?_, ?_, ?_, ?_, ?_, ?_⟩
  · rintro s portB report t hlen hon rfl hpresent hlanes hready hmode
    have hp := portNo_lt report.portB
    obtain ⟨v, hv, hr, hat⟩ := doModuleReady_detects t (hlen ▸ hp) hon hpresent hlanes hready hmode
    refine ⟨_, rfl, ?_, ?_, ?_⟩ <;> rw [hv]
    · rw [settle_stage _ hp]
      exact nt_getF_lt _ _ F.NTA_STAT.STAGE (by decide) (by decide)
    · rw [settle_port _ _ (g := Port.ready) (fun _ => rfl), setF_port, hr]
    · rw [settle_port _ _ (g := Port.stageAt) (fun _ => rfl), setF_port, hat]
  · intro s portB lane4 caps t hlen hon h1 h5 hmin
    have hp := portNo_lt portB
    obtain ⟨hstage, hat⟩ := doLinkStageComplete_advances lane4 caps t (hlen ▸ hp) hon h1 h5 hmin
    exact ⟨_, rfl, (settle_stage _ hp).trans hstage, (settle_port _ _ (g := Port.stageAt) (fun _ => rfl)).trans hat⟩
  · intro s portB lane4 caps t hlen hon h5 hmin hcaps
    have hp := portNo_lt portB
    obtain ⟨v, lanes, hdo, hpeer, hres, hout⟩ := doLinkStageComplete_joins lane4 caps t (hlen ▸ hp) hon h5 hmin hcaps
    have hpwr : (doLinkStageComplete portB lane4 caps t s).pwr = s.pwr :=
      doLinkStageComplete_part (π := .power) (by decide) portB lane4 caps t s
    have hon' : v.portOn (portNo portB) = true :=
      (portOn_congr ((linkUp_pwr v _ _ true lanes 31 31).symm.trans (hdo ▸ hpwr))).trans hon
    obtain ⟨hactive, hchain, hrate⟩ := linkUp_settled v (if (s.port (portNo portB)).twoLanes then 1 else 0) true lanes 31 31 hp hon'
    obtain ⟨hupeer, hures⟩ := linkUp_port v (portNo portB) (if (s.port (portNo portB)).twoLanes then 1 else 0) true lanes 31 31
    refine ⟨_, rfl, ?_, ?_, ?_, ?_, ?_, ?_⟩ <;> rw [hdo]
    · exact hactive
    · exact hchain
    · rw [settle_port _ _ (g := Port.peer) (fun _ => rfl), hupeer, hpeer]
    · rw [settle_port _ _ (g := Port.residence) (fun _ => rfl), hures, hres]
    · rw [hrate]
      split <;> rfl
    · exact ((linkUp_tells v _ _ true lanes 31 31).trans (settle_tells _)).mem_out hout
  · intro s portB lane4 caps t hlen hon h5 hmin hlane htwo hspare
    have hp := portNo_lt portB
    obtain ⟨v, hdo, hvlen⟩ := doLinkStageComplete_fallsBack lane4 caps t hon h5 hmin hlane htwo hspare
    have hstage : ((v.linkLost (portNo portB) v.now).fallBack (portNo portB)).settle.stage (portNo portB) = v.downStage (portNo portB) := by
      rw [settle_stage _ hp, fallBack_stage _ hp, linkLost_stage]
    refine ⟨_, rfl, ?_, ?_, ?_⟩ <;> rw [hdo]
    · refine portActive_of_other ?_
      rcases downStage_cases v (portNo portB) with h | h <;> rw [hstage, h] <;> decide
    · rw [settle_port _ _ (g := Port.twoLanes) (fun _ => rfl)]
      exact fallBack_twoLanes (by rw [linkLost_length, hvlen, hlen]; exact hp)
    · rw [settle_standing]
      exact poolTrigger_stands _ _ _
  · intro s portB t d hlen hon hmax hlate
    have hp := portNo_lt portB
    have hdo := doLinkStageTimeout_fails t hon hmax hlate
    refine ⟨_, rfl, ?_, ?_, ?_⟩ <;> rw [hdo]
    · rw [settle_stage _ hp, linkLost_stage, downStage_at]
    · rw [settle_port _ _ (g := Port.stageAt) (fun _ => rfl), linkLost_port _ _ (by rw [at_ports_length, hlen]; exact hp)]
    · rw [settle_getF_block (nt_block hp (by decide)), linkLost_downs, State.at_getF]
  · intro s portB txPre rxPre t hlen hon hdown hready hat hmode
    have hp := portNo_lt portB
    obtain ⟨lanes, hdo⟩ := doStandardLock_joins txPre rxPre t hon hdown hready hat hmode
    obtain ⟨hactive, hchain, hrate⟩ := linkUp_settled (s.at t) (s.getF (nt (portNo portB) F.NTA_CTL.RATE)) false lanes (txPre % 32)
      (rxPre % 32) hp ((at_portOn s t _).trans hon)
    refine ⟨_, rfl, ?_, ?_, ?_⟩ <;> rw [hdo]
    · exact hactive
    · exact hchain
    · rw [hrate]
      exact Nat.mod_eq_of_lt (getF_lt s (nt (portNo portB) F.NTA_CTL.RATE))
  · intro s portB t hon hactive
    have h := linkBroken_reported (s := s) t (portNo_lt portB)
    rw [← doLinkDown_breaks t hon hactive] at h
    exact ⟨_, rfl, h⟩
  · intro s portB t hon hactive hchain hmode
    have h := linkBroken_reported (s := s) t (portNo_lt portB)
    rw [← doCapabilityFrame_breaks t hon hactive hchain hmode] at h
    exact ⟨_, rfl, h⟩

end Sys2Proof.Machine
end

section
/-! PROOFS. Spare lanes, sleep and forwarding (O39). -/

namespace Sys2Proof.Machine

/-! ## Spare lanes (R285 to R287) -/

abbrev spareField (tx : Bool) : Field := if tx then F.NTA_LANES.SPARE_TX else F.NTA_LANES.SPARE_RX
abbrev asleepField (tx : Bool) : Field := if tx then F.NTA_STAT.TX_ASLEEP else F.NTA_STAT.RX_ASLEEP

/-- The lane taken over, and the swap counted. -/
def State.swapLane (s : State) (p : Nat) (tx : Bool) (lane : Nat) : State := (s.setF (nt p (spareField tx)) lane).bump (nt p F.NTA_LINK.SWAPS) 1

theorem takeLane_getF (s : State) {p : Nat} (hp : p < 2) (tx : Bool) (lane : Nat) {f : Field} (hf : portWord f.addr)
    (hbeside : f.addr ≠ 0x12108 ∨ 5 ≤ f.lsb) : (s.takeLane p tx lane).getF (nt p f) = (s.swapLane p tx lane).getF (nt p f) := by
  have hblock : blockWord (nt p f).addr := nt_block hp hf
  unfold State.takeLane
  extract_lets pg u v w x
  have hw : w.getF (nt p f) = v.getF (nt p f) :=
    (setF_header_getF_block hblock _ pg 0x24 16 16 _ (by decide)).trans (setF_header_getF_block hblock v pg 0x24 8 8 _ (by decide))
  have hv : v.getF (nt p f) = (s.swapLane p tx lane).getF (nt p f) := setF_header_getF_block hblock _ pg 0x24 0 8 _ (by decide)
  have hx : x.getF (nt p f) = w.getF (nt p f) := by
    rw [show x = if tx then w else _ from rfl]
    split
    · rfl
    · exact nt_getF_beside w p F.NTA_LANES.LOCK f _ (by decide) (hbeside.imp_right .inr)
  rw [poolTrigger_getF_block hblock, spareTaken_getF_block hblock, raiseEvt_getF_block hblock, hx, hw, hv]

theorem wakeDir_getF (s : State) (p : Nat) (tx : Bool) (f : Field) : (s.wakeDir p tx).getF f = (s.setF (nt p (asleepField tx)) 0).getF f := by
  cases tx <;> simp only [State.wakeDir, asleepField, if_true, Bool.false_eq_true, if_false, mapPort_getF]

/-- A lane that has been replaced, at the end of the command: the direction is awake and the link is up. -/
theorem laneReplaced {s : State} {p : Nat} (tx : Bool) (lane : Fin 4) (t : Nat) (hp : p < 2) (hactive : s.portActive p = true) :
    (((s.at t).wakeDir p tx).takeLane p tx lane.val).settle.getF (nt p (spareField tx)) = lane.val ∧
      (((s.at t).wakeDir p tx).takeLane p tx lane.val).settle.getF (nt p F.NTA_LINK.SWAPS) =
        min (s.getF (nt p F.NTA_LINK.SWAPS) + 1) (2 ^ F.NTA_LINK.SWAPS.width - 1) ∧
      (((s.at t).wakeDir p tx).takeLane p tx lane.val).settle.portActive p = true ∧
      (((s.at t).wakeDir p tx).takeLane p tx lane.val).settle.getF (nt p (asleepField tx)) = 0 := by
  have hkeep : ∀ f : Field, portWord f.addr → (f.addr ≠ 0x12108 ∨ 5 ≤ f.lsb) →
      (((s.at t).wakeDir p tx).takeLane p tx lane.val).settle.getF (nt p f) = (((s.at t).wakeDir p tx).swapLane p tx lane.val).getF (nt p f) :=
    fun f hf hb => (settle_getF_block (nt_block hp hf) _).trans (takeLane_getF _ hp tx lane.val hf hb)
  have hlane : lane.val < 2 ^ 3 := by omega
  refine ⟨?_, ?_, ?_, ?_⟩
  · rw [hkeep _ (by cases tx <;> decide) (by cases tx <;> decide), State.swapLane, State.bump_eq]
    cases tx
    · exact (nt_getF_beside _ p F.NTA_LINK.SWAPS F.NTA_LANES.SPARE_RX _ (by decide) (by decide)).trans
        (nt_getF_lt _ p F.NTA_LANES.SPARE_RX (by decide) hlane)
    · exact (nt_getF_beside _ p F.NTA_LINK.SWAPS F.NTA_LANES.SPARE_TX _ (by decide) (by decide)).trans
        (nt_getF_lt _ p F.NTA_LANES.SPARE_TX (by decide) hlane)
  · have hbefore : (((s.at t).wakeDir p tx).setF (nt p (spareField tx)) lane.val).getF (nt p F.NTA_LINK.SWAPS) =
        s.getF (nt p F.NTA_LINK.SWAPS) := by
      rw [nt_getF_beside _ p (spareField tx) F.NTA_LINK.SWAPS _ (by cases tx <;> decide) (.inl (by cases tx <;> decide)), wakeDir_getF,
        nt_getF_beside _ p (asleepField tx) F.NTA_LINK.SWAPS _ (by cases tx <;> decide) (.inl (by cases tx <;> decide)), State.at_getF]
    rw [hkeep _ (by decide) (by decide), State.swapLane, nt_getF_bump _ _ _ _ (by decide), hbefore]
  · have hstage : (((s.at t).wakeDir p tx).takeLane p tx lane.val).settle.stage p = s.stage p := by
      rw [State.stage, hkeep _ (by decide) (by decide), State.swapLane, State.bump_eq,
        nt_getF_beside _ p F.NTA_LINK.SWAPS F.NTA_STAT.STAGE _ (by decide) (by decide),
        nt_getF_beside _ p (spareField tx) F.NTA_STAT.STAGE _ (by cases tx <;> decide) (.inl (by cases tx <;> decide)), wakeDir_getF,
        nt_getF_beside _ p (asleepField tx) F.NTA_STAT.STAGE _ (by cases tx <;> decide) (by cases tx <;> decide), State.at_getF, State.stage]
    have hwake : ((s.at t).wakeDir p tx).pwr = s.pwr := (wakeDir_part (π := .power) _ p tx).trans (State.at_pwr s t)
    have hpwr : (((s.at t).wakeDir p tx).takeLane p tx lane.val).settle.pwr = s.pwr :=
      (State.settle_pwr _).trans ((takeLane_part (π := .power) (by decide) _ p tx lane.val).trans hwake)
    rw [portActive_congr hstage hpwr, hactive]
  · rw [hkeep _ (by cases tx <;> decide) (by cases tx <;> decide), State.swapLane, State.bump_eq,
      nt_getF_beside _ p F.NTA_LINK.SWAPS (asleepField tx) _ (by decide) (.inl (by cases tx <;> decide)),
      nt_getF_beside _ p (spareField tx) (asleepField tx) _ (by cases tx <;> decide) (.inl (by cases tx <;> decide)), wakeDir_getF]
    exact nt_getF_lt _ p (asleepField tx) (by cases tx <;> decide) (by cases tx <;> decide)

theorem laneSpareFree_at (s : State) (t p : Nat) (tx : Bool) : (s.at t).laneSpareFree p tx = s.laneSpareFree p tx := by
  simp only [State.laneSpareFree, at_port s t p (g := Port.lane4) (fun _ => rfl), State.at_getF]

theorem doLaneSwap_takes {s : State} {portB tx : Bool} (lane : Fin 4) (t : Nat) (hon : s.portOn (portNo portB) = true)
    (hactive : s.portActive (portNo portB) = true) (hchain : s.chainMode (portNo portB) = true)
    (hfree : s.laneSpareFree (portNo portB) tx = true) :
    doLaneSwap portB tx lane t s = ((s.at t).wakeDir (portNo portB) tx).takeLane (portNo portB) tx lane.val := by
  unfold doLaneSwap
  dsimp only
  rw [at_portOn, hon, portActive_at, hactive, at_chainMode, hchain, laneSpareFree_at, hfree]
  rfl

theorem doLaneFailure_chain {s : State} {portB : Bool} (tx : Bool) (lane : Fin 4) (t : Nat) (hon : s.portOn (portNo portB) = true)
    (hactive : s.portActive (portNo portB) = true) (hchain : s.chainMode (portNo portB) = true) :
    doLaneFailure portB tx lane t s = if s.laneSpareFree (portNo portB) tx = true
      then ((s.at t).wakeDir (portNo portB) tx).takeLane (portNo portB) tx lane.val
      else ((s.at t).linkBroken (portNo portB)).fallBack (portNo portB) := by
  unfold doLaneFailure
  dsimp only
  rw [at_portOn, hon, portActive_at, hactive, at_chainMode, hchain, laneSpareFree_at]
  rfl

theorem linkBroken_length (s : State) (p : Nat) : (s.linkBroken p).net.ports.length = s.net.ports.length := by
  rw [State.linkBroken, State.notice]
  dsimp only
  rw [State.raiseEvt_net, mapPort_length, linkLost_length]

/-! ## Sleep and wake (R288, R289) -/

theorem bothSleep_at (s : State) (t p : Nat) (deep : Bool) : (s.at t).bothSleep p deep = s.bothSleep p deep := by
  simp only [State.bothSleep, State.flag, at_port s t p (g := Port.peer) (fun _ => rfl), State.at_getF]

theorem doSleep_receive {s : State} {portB : Bool} (t : Nat) (hon : s.portOn (portNo portB) = true)
    (hactive : s.portActive (portNo portB) = true) (hchain : s.chainMode (portNo portB) = true)
    (hsleep : s.bothSleep (portNo portB) false = true) :
    doSleep portB false t s = (s.at t).setF (nt (portNo portB) F.NTA_STAT.RX_ASLEEP) 1 := by
  unfold doSleep
  dsimp only
  refine (if_neg ?_).trans (if_pos rfl)
  rw [at_portOn, hon, portActive_at, hactive, at_chainMode, hchain, bothSleep_at, hsleep]
  decide

theorem doSleep_transmit {s : State} {portB : Bool} (hon : s.portOn (portNo portB) = true)
    (hactive : s.portActive (portNo portB) = true) (hchain : s.chainMode (portNo portB) = true)
    (hsleep : s.bothSleep (portNo portB) false = true) (hempty : s.txEmpty (portNo portB) = true)
    (hidle : (s.port (portNo portB)).idleFrom + s.getF (nt (portNo portB) F.NTA_CTL.IDLE) * 10000 ≤ s.now) :
    doSleep portB true s.now s = (s.setF (nt (portNo portB) F.NTA_STAT.TX_ASLEEP) 1).mapPort (portNo portB)
      (fun x => { x with burstAt := s.now, wakePending := false }) := by
  unfold doSleep
  dsimp only
  rw [at_self, hon, hactive, hchain, hsleep]
  refine (if_neg (by decide)).trans ((if_neg (by decide)).trans ((if_pos ?_).trans rfl))
  rw [hempty, decide_eq_true hidle]
  rfl

theorem doWake_receive {s : State} {portB : Bool} (t : Nat) (hon : s.portOn (portNo portB) = true)
    (hactive : s.portActive (portNo portB) = true) : doWake portB false t s = (s.at t).wakeDir (portNo portB) false := by
  unfold doWake
  dsimp only
  refine (if_neg ?_).trans (if_pos rfl)
  rw [at_portOn, hon, portActive_at, hactive]
  decide

/-- A frame waits on a sleeping transmitter: it wakes, under deep sleep of both directions in the next burst. -/
theorem doWake_transmit {s : State} {portB : Bool} (hon : s.portOn (portNo portB) = true) (hactive : s.portActive (portNo portB) = true)
    (hasleep : s.getF (nt (portNo portB) F.NTA_STAT.TX_ASLEEP) = 1) (hwaits : s.txEmpty (portNo portB) = false) :
    doWake portB true s.now s =
      if (s.flag (nt (portNo portB) F.NTA_STAT.RX_ASLEEP) && s.bothSleep (portNo portB) true) = true
        then s.mapPort (portNo portB) (fun x => { x with wakePending := true })
      else s.wakeDir (portNo portB) true := by
  unfold doWake
  dsimp only
  rw [at_self, hon, hactive, State.flag, hasleep, hwaits]
  rfl

theorem wakeDir_port {s : State} {p : Nat} (hlen : p < s.net.ports.length) :
    (s.wakeDir p true).port p = { s.port p with wakePending := false, idleFrom := s.now } := by
  rw [State.wakeDir, if_pos rfl]
  dsimp only
  rw [if_pos rfl, port_mapPort_self _ (by rw [State.setF_net]; exact hlen), setF_port, State.setF_now]

/-- The next burst carries the wake request that waits. -/
theorem doRefreshBurst_bursts {s : State} {portB : Bool} (t : Nat) (hlen : portNo portB < s.net.ports.length)
    (hon : s.portOn (portNo portB) = true) (hasleep : s.getF (nt (portNo portB) F.NTA_STAT.TX_ASLEEP) = 1)
    (hlate : (s.port (portNo portB)).burstAt + 1000000 ≤ max s.now t) :
    ∃ v : State, doRefreshBurst portB t s = (if (s.port (portNo portB)).wakePending then v.wakeDir (portNo portB) true else v) ∧
      portNo portB < v.net.ports.length ∧ (v.port (portNo portB)).burstAt = max s.now t ∧
      v.getF (nt (portNo portB) F.NTA_STAT.TX_ASLEEP) = 1 := by
  unfold doRefreshBurst
  extract_lets +onlyGivenNames u p
  have hulen : p < u.net.ports.length := by rw [at_ports_length]; exact hlen
  have hflag : u.flag (nt p F.NTA_STAT.TX_ASLEEP) = true := (flag_iff _ _).2 (by rw [State.at_getF]; exact hasleep ▸ Nat.one_ne_zero)
  have hgo : (u.portOn p && u.flag (nt p F.NTA_STAT.TX_ASLEEP) && decide ((u.port p).burstAt + 1000000 ≤ u.now)) = true := by
    rw [show u.portOn p = true from (at_portOn s t p).trans hon, hflag,
      at_port s t p (g := Port.burstAt) (fun _ => rfl), show u.now = max s.now t from State.at_now s t, decide_eq_true hlate]
    rfl
  rw [if_pos hgo]
  extract_lets v
  have hport : v.port p = { u.port p with burstAt := u.now } := port_mapPort_self _ hulen
  refine ⟨v, ?_, ?_, ?_, ?_⟩
  · rw [hport, ← at_port s t p (g := Port.wakePending) (fun _ => rfl)]
  · rw [show v = u.mapPort p _ from rfl, mapPort_length]
    exact hulen
  · rw [show v.port (portNo portB) = { u.port p with burstAt := u.now } from hport]
    exact State.at_now s t
  · rw [show v = u.mapPort p _ from rfl, mapPort_getF, State.at_getF]
    exact hasleep

/-! ## Frames (R279, R290) -/

theorem noteFec_getF (s : State) (p c n : Nat) (f : Field) : (s.noteFec p c n).getF f = s.getF f := mapPort_getF _ _ _ _

theorem noteFec_fwdBits (s : State) (p c n q : Nat) : ((s.noteFec p c n).port q).fwdBits = (s.port q).fwdBits := by
  unfold State.noteFec
  dsimp only
  rw [port_mapPort]
  split
  · next h => rw [h.1]
  · rfl

theorem noteFec_length (s : State) (p c n : Nat) : (s.noteFec p c n).net.ports.length = s.net.ports.length := mapPort_length _ _ _

theorem noteFec_beside (s : State) (p c n : Nat) :
    (s.noteFec p c n).tp = s.tp ∧ (s.noteFec p c n).rcd = s.rcd ∧ (s.noteFec p c n).net.dhcp = s.net.dhcp ∧ (s.noteFec p c n).pwr = s.pwr :=
  ⟨rfl, rfl, rfl, rfl⟩

theorem doFrameReceive_bad {s : State} {portB : Bool} {frame : EthFrame} (t : Nat) (hon : s.portOn (portNo portB) = true)
    (hactive : s.portActive (portNo portB) = true) (hbad : frame.fcsOk = false ∨ 9216 < frame.bytes ∨ frame.pause = true) :
    doFrameReceive portB frame t s =
      ((s.at t).noteFec (portNo portB) frame.corrected frame.uncorrectable).bump (nt (portNo portB) F.NTA_DROP.RXDROP) 1 := by
  unfold doFrameReceive
  extract_lets +onlyGivenNames u p
  rw [if_neg (by rw [show u.portOn p = true from (at_portOn s t p).trans hon, show u.portActive p = true from
    (portActive_at s t p).trans hactive]; decide)]
  refine if_pos ?_
  rcases hbad with h | h | h <;> simp [h]

theorem doFrameReceive_forwards {s : State} {portB : Bool} {frame : EthFrame} (hon : s.portOn (portNo portB) = true)
    (hactive : s.portActive (portNo portB) = true) (hfcs : frame.fcsOk = true) (hbytes : frame.bytes ≤ 9216) (hpause : frame.pause = false)
    (hdest : frame.dest = .other) (hres : frameReserved frame = false) (hcmd : frameHasCommand frame = false) :
    doFrameReceive portB frame s.now s =
      (s.noteFec (portNo portB) frame.corrected frame.uncorrectable).forwardFrame (1 - portNo portB) frame.bytes := by
  unfold doFrameReceive
  dsimp only
  rw [at_self, if_neg (by rw [hon, hactive]; decide), if_neg (by simp [hfcs, Nat.not_lt.2 hbytes, hpause, hdest]), if_neg (by simp [hres, hcmd]),
    if_neg (by rw [hdest]; decide)]
  split
  · exact if_pos (by simp [hdest])
  · rfl

theorem forwardFrame_fits {s : State} {out bytes : Nat} (hactive : s.portActive out = true)
    (hroom : (s.port out).fwdBits + bytes * 8 ≤ 1048576 * 8) :
    s.forwardFrame out bytes = s.mapPort out (fun x => { x with fwdBits := x.fwdBits + bytes * 8 }) := by
  unfold State.forwardFrame
  rw [hactive, if_neg (by decide), if_neg (Nat.not_lt.2 hroom)]

/-- Settles O39. -/
theorem lanesAreReplaced : Obligations.LanesAreReplaced := by
  refine ⟨?_, ?_, ?_, ?_, ?_, ?_, ?_, ?_, ?_, ?_, ?_⟩
  · intro s portB tx lane t hon hactive hchain hfree
    have h := laneReplaced tx lane t (portNo_lt portB) hactive
    rw [← doLaneSwap_takes lane t hon hactive hchain hfree] at h
    exact ⟨_, rfl, h⟩
  · intro s portB tx lane t hon hactive hchain hfree
    have h := laneReplaced tx lane t (portNo_lt portB) hactive
    rw [← (doLaneFailure_chain tx lane t hon hactive hchain).trans (if_pos hfree)] at h
    exact ⟨_, rfl, h⟩
  · intro s portB tx lane t hlen hon hactive hchain hfree
    have hp := portNo_lt portB
    have hdo := (doLaneFailure_chain tx lane t hon hactive hchain).trans (if_neg (by rw [hfree]; decide))
    have hstage : (((s.at t).linkBroken (portNo portB)).fallBack (portNo portB)).settle.stage (portNo portB) =
        (s.at t).downStage (portNo portB) := by
      rw [settle_stage _ hp, fallBack_stage _ hp, linkBroken_stage _ hp]
    refine ⟨_, rfl, ?_, ?_, ?_⟩ <;> rw [hdo]
    · refine portActive_of_other ?_
      rcases downStage_cases (s.at t) (portNo portB) with h | h <;> rw [hstage, h] <;> decide
    · rw [settle_port _ _ (g := Port.twoLanes) (fun _ => rfl)]
      exact fallBack_twoLanes (by rw [linkBroken_length, at_ports_length, hlen]; exact hp)
    · rw [settle_standing]
      exact poolTrigger_stands _ _ _
  · intro s portB t hon hactive hchain hsleep
    refine ⟨_, rfl, ?_⟩
    rw [doSleep_receive t hon hactive hchain hsleep, settle_getF_block (nt_block (portNo_lt portB) (by decide))]
    exact nt_getF_lt _ _ F.NTA_STAT.RX_ASLEEP (by decide) (by decide)
  · rintro s portB t rfl hlen hon hactive hchain hsleep hempty hidle
    refine ⟨_, rfl, ?_, ?_⟩ <;> rw [doSleep_transmit hon hactive hchain hsleep hempty hidle]
    · rw [settle_getF_block (nt_block (portNo_lt portB) (by decide)), mapPort_getF]
      exact nt_getF_lt _ _ F.NTA_STAT.TX_ASLEEP (by decide) (by decide)
    · rw [settle_port _ _ (g := Port.burstAt) (fun _ => rfl), port_mapPort_self _ (by rw [State.setF_net, hlen]; exact portNo_lt portB)]
  · intro s portB t hon hactive
    refine ⟨_, rfl, ?_⟩
    rw [doWake_receive t hon hactive, settle_getF_block (nt_block (portNo_lt portB) (by decide)), wakeDir_getF]
    exact nt_getF_lt _ _ F.NTA_STAT.RX_ASLEEP (by decide) (by decide)
  · rintro s portB t rfl hlen hon hactive hasleep hwaits hrx
    have hdo := (doWake_transmit hon hactive hasleep hwaits).trans (if_neg (by rw [State.flag, hrx]; simp))
    refine ⟨_, rfl, ?_, ?_⟩ <;> rw [hdo]
    · rw [settle_getF_block (nt_block (portNo_lt portB) (by decide)), wakeDir_getF]
      exact nt_getF_lt _ _ F.NTA_STAT.TX_ASLEEP (by decide) (by decide)
    · rw [settle_port _ _ (g := Port.idleFrom) (fun _ => rfl), wakeDir_port (by rw [hlen]; exact portNo_lt portB)]
  · rintro s portB t rfl hlen hon hactive hasleep hwaits hrx hdeep
    have hdo := (doWake_transmit hon hactive hasleep hwaits).trans (if_pos (by rw [State.flag, hrx, hdeep]; rfl))
    refine ⟨_, rfl, ?_, ?_⟩ <;> rw [hdo]
    · rw [settle_getF_block (nt_block (portNo_lt portB) (by decide)), mapPort_getF, hasleep]
    · rw [settle_port _ _ (g := Port.wakePending) (fun _ => rfl), port_mapPort_self _ (by rw [hlen]; exact portNo_lt portB)]
  · intro s portB t hlen hon hasleep hlate
    have hp := portNo_lt portB
    obtain ⟨v, hdo, hvlen, hburst, hv⟩ := doRefreshBurst_bursts t (by rw [hlen]; exact hp) hon hasleep hlate
    refine ⟨_, rfl, ?_, ?_⟩ <;> rw [hdo]
    · rw [settle_port _ _ (g := Port.burstAt) (fun _ => rfl)]
      split
      · rw [wakeDir_port hvlen]
        exact hburst
      · exact hburst
    · rw [settle_getF_block (nt_block hp (by decide))]
      split
      · rw [wakeDir_getF]
        exact nt_getF_lt _ _ F.NTA_STAT.TX_ASLEEP (by decide) (by decide)
      · exact hv
  · intro s portB frame q t hs hlen hon hactive hbad
    have hp := portNo_lt portB
    have hdo := doFrameReceive_bad t hon hactive hbad
    obtain ⟨htp, hrcd, hdhcp, -⟩ := noteFec_beside (s.at t) (portNo portB) frame.corrected frame.uncorrectable
    have hquiet : (doFrameReceive portB frame t s).rcd.pulses = [] := by
      rw [hdo]
      exact (congrArg RecState.pulses (hrcd.trans (State.at_rcd s t))).trans hs.2
    have hipv4 (v : State) : (v.bump (nt (portNo portB) F.NTA_DROP.RXDROP) 1).getF F.NTA_IPV4.ADDR = v.getF F.NTA_IPV4.ADDR :=
      getF_setF_other _ _ _ _ (by show (0x12138 : Nat) ≠ 0x1211C + 0x1000 * portNo portB; omega)
    refine ⟨_, rfl, ?_, ?_, ?_, ?_, ?_⟩
    · rw [settle_getF_block (nt_block hp (by decide)), hdo, nt_getF_bump _ _ _ _ (by decide), noteFec_getF, State.at_getF]
    · rw [settle_port _ _ (g := Port.fwdBits) (fun _ => rfl), hdo, State.bump_eq, setF_port, noteFec_fwdBits]
    · rw [settle_tp_of_no_pulses hquiet, hdo]
      exact htp.trans (State.at_tp s t)
    · obtain ⟨l, hl, -⟩ := at_net s t
      rw [State.settle_net_dhcp, hdo, State.bump_eq, State.setF_net, hdhcp, hl]
    · rw [settle_getF_block (by decide), hdo, hipv4, noteFec_getF, State.at_getF]
  · rintro s portB frame t rfl hlen hon hactive hfcs hbytes hpause hdest hres hcmd hout hroom
    have hdo := doFrameReceive_forwards hon hactive hfcs hbytes hpause hdest hres hcmd
    have hout' : (s.noteFec (portNo portB) frame.corrected frame.uncorrectable).portActive (1 - portNo portB) = true :=
      (portActive_congr (noteFec_getF _ _ _ _ _) (noteFec_beside _ _ _ _).2.2.2).trans hout
    refine ⟨_, rfl, ?_⟩
    rw [settle_port _ _ (g := Port.fwdBits) (fun _ => rfl), hdo, forwardFrame_fits hout' (by rw [noteFec_fwdBits]; exact hroom),
      port_mapPort_self _ (by rw [noteFec_length, hlen]; omega)]
    exact congrArg (· + frame.bytes * 8) (noteFec_fwdBits _ _ _ _ _)

end Sys2Proof.Machine
end

section
/-! PROOFS. The chain census, rings and notices (O40). -/

namespace Sys2Proof.Machine

/-! ## What reacquiring phase leaves (R269) -/

/-- A field that no step of the servo writes: beyond the headers, on neither STE nor CAL, and beside what the servo shows on TSY. -/
abbrev servoFree (f : Field) : Prop :=
  blockWord f.addr ∧ f.addr / 0x1000 ≠ 9 ∧ f.addr ≠ 0x5144 ∧ (f.addr ≠ 0x5104 ∨ 11 ≤ f.lsb)

/-- `t` is `s` after steps of the servo: other registers, the host-facing port and the outputs before stay, and the queues but for numbers. -/
structure State.ServoMoves (s t : State) : Prop where
  reg : ∀ f, servoFree f → t.getF f = s.getF f
  hostB : t.net.hostB = s.net.hostB
  tells : s.Tells t

namespace State.ServoMoves

variable {s t u : State}

theorem refl (s : State) : s.ServoMoves s := ⟨fun _ _ => rfl, rfl, .refl s⟩

theorem trans (h : s.ServoMoves t) (k : t.ServoMoves u) : s.ServoMoves u :=
  ⟨fun f hf => (k.reg f hf).trans (h.reg f hf), k.hostB.trans h.hostB, h.tells.trans k.tells⟩

theorem ite {c : Prop} [Decidable c] {a b : State} (ha : s.ServoMoves a) (hb : s.ServoMoves b) : s.ServoMoves (if c then a else b) := by
  split
  · exact ha
  · exact hb

/-- Registers, ports and transport are the same. -/
theorem of_same (hregs : t.regs = s.regs) (hnet : t.net = s.net) (htp : t.tp = s.tp) : s.ServoMoves t :=
  ⟨fun f _ => getF_of_regs hregs f, by rw [hnet], .of_tp htp⟩

theorem setF (s : State) (g : Field) (v : Nat) (h : ∀ f, servoFree f → (s.setF g v).getF f = s.getF f) : s.ServoMoves (s.setF g v) :=
  ⟨h, rfl, .of_tp rfl⟩

theorem raiseEvt (s : State) (p bit : Nat) : s.ServoMoves (s.raiseEvt p bit) :=
  ⟨fun _ hf => raiseEvt_getF_block hf.1 s p bit, congrArg NetState.hostB (State.raiseEvt_net s p bit), raiseEvt_tells s p bit⟩

end State.ServoMoves

theorem updateValid_servoMoves (s : State) : s.ServoMoves s.updateValid := by
  have hset (u : State) (b : Bool) (lsb : Nat) : u.ServoMoves (u.setB ⟨0x9160, lsb, 1⟩ b) :=
    .setF u ⟨0x9160, lsb, 1⟩ (if b then 1 else 0) fun f hf => getF_setF_other u ⟨0x9160, lsb, 1⟩ f _ (by
      obtain ⟨-, hste, -⟩ := hf
      show f.addr ≠ 0x9160
      omega)
  unfold State.updateValid
  extract_lets u v w _ x
  have hu : s.ServoMoves u := (hset s _ _).trans (hset _ _ _)
  have hw : s.ServoMoves w := hu.trans (hset u v 4)
  have hx : s.ServoMoves x := hw.trans (.of_same rfl rfl rfl)
  exact .ite hx (hx.trans (.of_same rfl rfl rfl))

theorem refOkFromTime_servoMoves (s : State) : s.ServoMoves s.refOkFromTime := by
  unfold State.refOkFromTime
  refine .ite (.trans (.setF s F.STE_STAT.REF_OK _ fun f hf => getF_setF_other s F.STE_STAT.REF_OK f _ ?_) (updateValid_servoMoves _)) (.refl s)
  obtain ⟨-, hste, -⟩ := hf
  show f.addr ≠ 0x9160
  omega

theorem gmUpdate_servoMoves (s : State) : s.ServoMoves s.gmUpdate := by
  refine ⟨fun f hf => gmUpdate_getF s (hf.2.2.2.imp_right Or.inr), ?_, ?_⟩
  · unfold State.gmUpdate
    dsimp only
    split <;> rfl
  · unfold State.gmUpdate State.sendAnnounce
    exact .ite ((emit_tells _ _).before rfl) (.of_tp rfl)

theorem traceUpdate_servoMoves (s : State) : s.ServoMoves s.traceUpdate := by
  unfold State.traceUpdate
  refine .ite (.refl s) (.trans (.setF s F.CAL_TRACE.LEVEL _ fun f hf => getF_setF_other s F.CAL_TRACE.LEVEL f _ ?_) (.raiseEvt _ 6 5))
  obtain ⟨⟨-, hcal, -⟩, -⟩ := hf
  show f.addr ≠ 0x6118
  omega

theorem setServo_servoMoves (s : State) (st : Nat) : s.ServoMoves (s.setServo st) := by
  unfold State.setServo
  refine .ite (.refl s) ((((State.ServoMoves.trans ?_ (.raiseEvt _ 5 0)).trans (refOkFromTime_servoMoves _)).trans
    (gmUpdate_servoMoves _)).trans (traceUpdate_servoMoves _))
  exact .setF s F.TSY_STAT.STATE st fun f hf =>
    getF_setF_beside s F.TSY_STAT.STATE f st (by decide) (hf.2.2.2.imp_right fun h => .inr (Nat.le_trans (by decide) h))

theorem leaveServo_servoMoves (s : State) : s.ServoMoves s.leaveServo := by
  have hhold : s.ServoMoves (s.setSat F.TSY_HOLD.S s.holdSeconds) :=
    .setF s F.TSY_HOLD.S _ fun f hf => getF_setF_other s F.TSY_HOLD.S f _ hf.2.2.1
  have hmap (u : State) (g : TimeState → TimeState) : u.ServoMoves (u.mapTime g) := .of_same rfl rfl rfl
  unfold State.leaveServo
  exact (State.ServoMoves.ite hhold (.refl s)).trans (hmap _ _)

theorem reacquire_servoMoves (s : State) : s.ServoMoves s.reacquire := by
  have hmap : s.ServoMoves (s.mapTime (fun x => { x with syncs := 0 })) := .of_same rfl rfl rfl
  unfold State.reacquire State.enterAcquire
  exact .ite ((hmap.trans (leaveServo_servoMoves _)).trans (setServo_servoMoves _ 1)) hmap

theorem reacquire_spine (s : State) : s.reacquire.spine = s.spine := by
  simp [State.reacquire, State.enterAcquire]

/-! ## The host-facing port (R294, R299) -/

/-- A field beside what shows the host-facing port. -/
abbrev sideFree (f : Field) : Prop :=
  blockWord f.addr ∧ (f.addr ≠ 0x12104 ∧ f.addr ≠ 0x13104 ∨ f.lsb + f.width ≤ 11) ∧ f.addr ≠ 0x5104

/-- The port is host-facing and the queues move to it, before the registers show it. -/
def State.turnTo (s : State) (p : Nat) : State :=
  let s := if s.hostPort = p then s else s.raiseEvt (portPage p) 6
  { s with net := { s.net with hostB := decide (p = 1) }
           tp := { s.tp with queues := s.tp.queues.map (fun e => (e.1, { e.2 with portB := decide (p = 1) })) } }

theorem setHostSide_eq (s : State) (p : Nat) : s.setHostSide p = (s.turnTo p).showHostSide := rfl

theorem turnTo_getF (s : State) (p : Nat) {f : Field} (hf : blockWord f.addr) : (s.turnTo p).getF f = s.getF f := by
  have h : (if s.hostPort = p then s else s.raiseEvt (portPage p) 6).getF f = s.getF f := by
    split
    · rfl
    · exact raiseEvt_getF_block hf s _ 6
  exact h

theorem hostPort_of_hostB {s : State} {p : Nat} (hp : p < 2) (h : s.net.hostB = decide (p = 1)) : s.hostPort = p := by
  rw [State.hostPort, h]
  have hcase : p = 0 ∨ p = 1 := by omega
  rcases hcase with rfl | rfl <;> rfl

theorem turnTo_hostPort (s : State) {p : Nat} (hp : p < 2) : (s.turnTo p).hostPort = p := hostPort_of_hostB hp rfl

theorem turnTo_queues (s : State) (p : Nat) : ∀ e ∈ (s.turnTo p).tp.queues, e.2.portB = decide (p = 1) := by
  intro e he
  obtain ⟨x, -, rfl⟩ := List.mem_map.1 he
  rfl

theorem turnTo_spine (s : State) (p : Nat) : (s.turnTo p).spine = s.spine := by
  have h : (if s.hostPort = p then s else s.raiseEvt (portPage p) 6).spine = s.spine := by simp
  exact h

theorem showHostSide_getF (s : State) {f : Field} (hf : sideFree f) : s.showHostSide.getF f = s.getF f := by
  obtain ⟨-, hside, htsy⟩ := hf
  have hset (u : State) (a v : Nat) (ha : a = 0x12104 ∨ a = 0x13104) : (u.setF ⟨a, 11, 1⟩ v).getF f = u.getF f := by
    refine getF_setF_beside u ⟨a, 11, 1⟩ f v (by decide : 11 + 1 ≤ 32) ?_
    rcases hside with ⟨hA, hB⟩ | hlow
    · exact .inl (by rcases ha with rfl | rfl <;> assumption)
    · exact .inr (.inl hlow)
  exact (getF_setF_other _ F.TSY_STAT.PORT f _ htsy).trans ((hset _ 0x13104 _ (.inr rfl)).trans (hset s 0x12104 _ (.inl rfl)))

theorem showHostSide_port (s : State) : s.showHostSide.getF F.TSY_STAT.PORT = s.hostPort := by
  have hhost (u : State) : u.hostPort < 2 ^ 1 := by
    rw [State.hostPort]
    split <;> decide
  unfold State.showHostSide
  exact getF_setF_of_lt _ F.TSY_STAT.PORT (by decide) (hhost _)

theorem showHostSide_beside (s : State) : s.showHostSide.net = s.net ∧ s.showHostSide.tp = s.tp ∧ s.showHostSide.spine = s.spine := by
  refine ⟨?_, ?_, ?_⟩
  · simp only [State.showHostSide, State.setB_eq, State.setF_net]
  · simp only [State.showHostSide, State.setB_eq, State.setF_tp]
  · unfold State.showHostSide
    dsimp only [State.setB_eq]
    rw [setF_spine _ _ _ (by decide), setF_nt_spine _ _ _ _ (by decide) (by decide), setF_nt_spine _ _ _ _ (by decide) (by decide)]

theorem setHostSide_getF (s : State) (p : Nat) {f : Field} (hf : sideFree f) : (s.setHostSide p).getF f = s.getF f := by
  rw [setHostSide_eq, showHostSide_getF _ hf, turnTo_getF s p hf.1]

theorem setHostSide_hostB (s : State) (p : Nat) : (s.setHostSide p).net.hostB = decide (p = 1) := by
  rw [setHostSide_eq, (showHostSide_beside _).1]
  rfl

theorem setHostSide_spine (s : State) (p : Nat) : (s.setHostSide p).spine = s.spine := by
  rw [setHostSide_eq, (showHostSide_beside _).2.2, turnTo_spine]

theorem setHostSide_port (s : State) {p : Nat} (hp : p < 2) : (s.setHostSide p).getF F.TSY_STAT.PORT = p := by
  rw [setHostSide_eq, showHostSide_port, turnTo_hostPort s hp]

theorem setHostSide_queues (s : State) (p : Nat) : ∀ e ∈ (s.setHostSide p).tp.queues, e.2.portB = decide (p = 1) := by
  rw [setHostSide_eq, (showHostSide_beside _).2.1]
  exact turnTo_queues s p

/-- What every queue says of itself, but for its number, is said after reports too. -/
theorem State.Tells.all_queues {s t : State} (h : s.Tells t) {β : Type} {g : Queue → β} (hg : ∀ x : Queue, g x.unnumbered = g x) {b : β}
    (hs : ∀ e ∈ s.tp.queues, g e.2 = b) : ∀ e ∈ t.tp.queues, g e.2 = b := by
  intro e he
  have hm : (e.1, e.2.unnumbered) ∈ s.openQueues := h.queues ▸ List.mem_map_of_mem he
  obtain ⟨r, hr, hre⟩ := List.mem_map.1 hm
  obtain ⟨-, hu⟩ := Prod.mk.inj hre
  rw [← hg, ← hu, hg]
  exact hs r hr

/-! ## Addresses (R294, R295) -/

theorem updateIp_getF (s : State) {f : Field} (hf : f.addr ≠ 0x12138) : s.updateIp.getF f = s.getF f :=
  getF_setF_other s F.NTA_IPV4.ADDR f _ hf

/-- The unit takes an address. -/
def State.withAddress (s : State) (id addr : Nat) : State := (({ s with net := { s.net with addrId := id } }).setF F.SYS_CHAIN.ADDR addr).updateIp

theorem takeAddress_first {s : State} {f : CensusFrame} (haddr : s.getF F.SYS_CHAIN.ADDR = 0) (hnext : f.next ≤ 63) (hframes : s.frames = false) :
    ∃ g, s.takeAddress f = (s.withAddress f.id f.next, g) ∧ g.id = f.id ∧ g.next = f.next + 1 ∧ g.entries.length = f.entries.length + 1 := by
  unfold State.takeAddress
  dsimp only
  rw [if_neg (by rw [haddr]; simp), if_neg (Nat.not_lt.2 hnext), if_neg (by rw [hframes]; simp)]
  exact ⟨_, rfl, rfl, rfl, by simp⟩

/-! ## A census (R294) -/

/-- The unit as a census finds it, host-facing on the port the census came by. -/
def State.meetCensus (s : State) (p : Nat) : State :=
  let moved := s.hostPort ≠ p
  let s := s.setHostSide p
  let s := { s with net := { s.net with censusAt := some s.now } }
  (if moved then s.reacquire else s).raiseEvt (portPage p) 4

theorem meetCensus_facts (s : State) {p : Nat} (hp : p < 2) : (s.meetCensus p).spine = s.spine ∧ (s.meetCensus p).hostPort = p ∧
    ∀ f, sideFree f → servoFree f → (s.meetCensus p).getF f = s.getF f := by
  unfold State.meetCensus
  extract_lets moved u _ v
  have hv : v.spine = s.spine ∧ v.net.hostB = decide (p = 1) ∧ ∀ f, sideFree f → v.getF f = s.getF f :=
    ⟨setHostSide_spine s p, setHostSide_hostB s p, fun f hf => setHostSide_getF s p hf⟩
  have hw : v.ServoMoves (if moved then v.reacquire else v) := .ite (reacquire_servoMoves v) (.refl v)
  have hws : (if moved then v.reacquire else v).spine = s.spine := by
    split
    · exact (reacquire_spine v).trans hv.1
    · exact hv.1
  refine ⟨?_, hostPort_of_hostB hp ?_, fun f hs hf => ?_⟩
  · rw [raiseEvt_spine]
    exact hws
  · rw [State.raiseEvt_net]
    exact hw.hostB.trans hv.2.1
  · rw [raiseEvt_getF_block hf.1]
    exact (hw.reg f hf).trans (hv.2.2 f hs)

theorem doCensus_passes {s : State} {portB : Bool} (f : CensusFrame) (t : Nat) (hon : s.portOn (portNo portB) = true)
    (hactive : s.portActive (portNo portB) = true) :
    doCensus portB f t s = (((s.at t).meetCensus (portNo portB)).takeAddress f).1.passCensus
      (((s.at t).meetCensus (portNo portB)).takeAddress f).2 (1 - portNo portB) := by
  unfold doCensus
  extract_lets +onlyGivenNames u p
  exact if_neg (by rw [show u.portOn p = true from (at_portOn s t p).trans hon, show u.portActive p = true from
    (portActive_at s t p).trans hactive]; simp)

/-! ## Census done, holds, notices -/

theorem copyDone_done (s : State) (f : CensusFrame) :
    (s.copyDone f).getF F.NTA_CENSUS.ID = f.id % 2 ^ F.NTA_CENSUS.ID.width ∧
      (s.copyDone f).getF F.NTA_CENSUS.COUNT = f.entries.length % 2 ^ F.NTA_CENSUS.COUNT.width ∧
      (s.copyDone f).getF F.NTA_CENSUS.OVERFLOW = if f.overflow then 1 else 0 := by
  unfold State.copyDone
  simp only [State.setB_eq]
  refine ⟨?_, ?_, ?_⟩
  · rw [getF_setF_beside _ F.NTA_CENSUS.CONFLICT F.NTA_CENSUS.ID _ (by decide) (by decide),
      getF_setF_beside _ F.NTA_CENSUS.OVERFLOW F.NTA_CENSUS.ID _ (by decide) (by decide),
      getF_setF_beside _ F.NTA_CENSUS.COUNT F.NTA_CENSUS.ID _ (by decide) (by decide), getF_setF_self _ F.NTA_CENSUS.ID _ (by decide)]
  · rw [getF_setF_beside _ F.NTA_CENSUS.CONFLICT F.NTA_CENSUS.COUNT _ (by decide) (by decide),
      getF_setF_beside _ F.NTA_CENSUS.OVERFLOW F.NTA_CENSUS.COUNT _ (by decide) (by decide), getF_setF_self _ F.NTA_CENSUS.COUNT _ (by decide)]
  · rw [getF_setF_beside _ F.NTA_CENSUS.CONFLICT F.NTA_CENSUS.OVERFLOW _ (by decide) (by decide)]
    exact getF_setF_of_lt _ F.NTA_CENSUS.OVERFLOW (by decide) (by split <;> decide)

theorem copyDone_getF_other (s : State) (f : CensusFrame) {g : Field} (hg : g.addr ≠ 0x1214C) : (s.copyDone f).getF g = s.getF g := by
  have hset (u : State) (lsb width v : Nat) : (u.setF ⟨0x1214C, lsb, width⟩ v).getF g = u.getF g := getF_setF_other u _ _ v hg
  simp only [State.copyDone, State.setB_eq, hset]

/-- The chain end shows itself on both ports and gives the census done to `NTA_CENSUS`. -/
theorem chainEnd_shows (s : State) (f : CensusFrame) :
    (s.chainEnd f).getF (nt 0 F.NTA_STAT.END) = 1 ∧ (s.chainEnd f).getF (nt 1 F.NTA_STAT.END) = 1 ∧
      (s.chainEnd f).getF F.NTA_CENSUS.ID = f.id % 2 ^ F.NTA_CENSUS.ID.width ∧
      (s.chainEnd f).getF F.NTA_CENSUS.COUNT = f.entries.length % 2 ^ F.NTA_CENSUS.COUNT.width := by
  unfold State.chainEnd
  extract_lets last g u
  have hdone := copyDone_done u g
  have hlen : g.entries.length = f.entries.length := List.length_mapIdx
  refine ⟨?_, ?_, ?_, ?_⟩ <;> rw [sendFrame_getF]
  · rw [copyDone_getF_other _ _ (by decide), show u = (s.setF (nt 0 F.NTA_STAT.END) 1).setF (nt 1 F.NTA_STAT.END) 1 from rfl,
      getF_setF_other _ (nt 1 F.NTA_STAT.END) _ _ (by decide)]
    exact nt_getF_lt _ 0 F.NTA_STAT.END (by decide) (by decide)
  · rw [copyDone_getF_other _ _ (by decide)]
    exact nt_getF_lt _ 1 F.NTA_STAT.END (by decide) (by decide)
  · exact hdone.1
  · exact hlen ▸ hdone.2.1

/-- A frame sent moves nothing of the census held or of the notices. -/
theorem sendFrame_net (s : State) (p kind : Nat) (body : List Byte) : ∃ l, (s.sendFrame p kind body).net = { s.net with ports := l } := by
  unfold State.sendFrame
  split
  · exact ⟨_, rfl⟩
  · exact ⟨_, rfl⟩

theorem chainEnd_held (s : State) (f : CensusFrame) : (s.chainEnd f).net.held = s.net.held := by
  unfold State.chainEnd
  extract_lets last g u
  obtain ⟨l, hl⟩ := sendFrame_net (u.copyDone g) u.hostPort 2 (censusBytes g 2 false)
  have hu : u.net = s.net := (State.setF_net _ _ _).trans (State.setF_net _ _ _)
  rw [hl, (copyDone_beside u g).1, hu]

theorem at_net_held (s : State) (t : Nat) : (s.at t).net.held = s.net.held := by
  obtain ⟨l, hl, -⟩ := at_net s t
  rw [hl]

theorem doCensusHoldExpiry_ends {s : State} {f : CensusFrame} {out due : Nat} (t : Nat) (hheld : s.net.held = some (f, out, due))
    (hdue : due ≤ max s.now t) : doCensusHoldExpiry t s = ((s.at t).withHeld none).chainEnd f := by
  unfold doCensusHoldExpiry
  dsimp only
  rw [at_net_held, hheld]
  exact if_pos (by rw [State.at_now]; exact hdue)

/-- A census done that comes by an active port is copied, whatever is sent on. -/
theorem doCensusDone_copies {s : State} {portB : Bool} (f : CensusFrame) (t : Nat) (hon : s.portOn (portNo portB) = true)
    (hactive : s.portActive (portNo portB) = true) (g : Field) : (doCensusDone portB f t s).getF g = ((s.at t).copyDone f).getF g := by
  unfold doCensusDone
  extract_lets +onlyGivenNames u p
  rw [if_neg (by rw [show u.portOn p = true from (at_portOn s t p).trans hon, show u.portActive p = true from
    (portActive_at s t p).trans hactive]; simp)]
  extract_lets v out
  split
  · exact sendFrame_getF _ _ _ _ _
  · rfl

theorem doReverseCensus_shows {s : State} {portB : Bool} (f : CensusFrame) (t : Nat) (hon : s.portOn (portNo portB) = true)
    (hactive : s.portActive (portNo portB) = true) : (doReverseCensus portB f t s).getF (nt (portNo portB) F.NTA_STAT.RING) = 1 := by
  unfold doReverseCensus
  extract_lets +onlyGivenNames u p
  rw [if_neg (by rw [show u.portOn p = true from (at_portOn s t p).trans hon, show u.portActive p = true from
    (portActive_at s t p).trans hactive]; simp)]
  extract_lets v out
  have hv : v.getF (nt p F.NTA_STAT.RING) = 1 := nt_getF_lt _ p F.NTA_STAT.RING (by decide) (by decide)
  split
  · exact (sendFrame_getF _ _ _ _ _).trans hv
  · exact hv

theorem noticeBytes_at (s : State) (t p : Nat) : (s.at t).noticeBytes p = s.noticeBytes p := by
  simp only [State.noticeBytes, State.ownEntry, State.serialNo, State.unitMac, State.at_getF]

theorem etherFrame_at (s : State) (t kind : Nat) (body : List Byte) : (s.at t).etherFrame kind body = s.etherFrame kind body := by
  simp only [State.etherFrame, State.unitMac, State.at_getF]

/-- The notice of a port has been sent. -/
def State.noticed (s : State) (p : Nat) : State := { s with net := { s.net with notices := s.net.notices.filter (· ≠ p) } }

theorem doLinkNotice_sends {s : State} {portB : Bool} (t : Nat) (hnotice : s.net.notices.contains (portNo portB) = true)
    (hactive : s.portActive s.hostPort = true) :
    doLinkNotice portB t s = ((s.at t).noticed (portNo portB)).sendFrame s.hostPort 3 (s.noticeBytes (portNo portB)) := by
  obtain ⟨l, hl, -⟩ := at_net s t
  have hat : (s.at t).net.notices = s.net.notices := by rw [hl]
  unfold doLinkNotice
  extract_lets +onlyGivenNames u p
  have hgo : (u.net.notices.contains p && u.portActive u.hostPort) = true := by
    rw [show u.net.notices = s.net.notices from hat, show u.hostPort = s.hostPort from hostPort_at s t,
      show u.portActive s.hostPort = true from (portActive_at s t _).trans hactive,
      show s.net.notices.contains p = true from hnotice]
    rfl
  rw [if_pos hgo]
  show (u.noticed p).sendFrame u.hostPort 3 (u.noticeBytes p) = _
  rw [show u.hostPort = s.hostPort from hostPort_at s t, show u.noticeBytes p = s.noticeBytes p from noticeBytes_at s t p]

/-- In a ring, a unit without its host-facing port turns to the other. -/
theorem doRingFailover_turns {s : State} (t : Nat) (hring : s.getF (nt 0 F.NTA_STAT.RING) = 1 ∨ s.getF (nt 1 F.NTA_STAT.RING) = 1)
    (hdown : s.portActive s.hostPort = false)
    (hchosen : s.net.censusAt.any (fun c => (s.port s.hostPort).downAt.any (sameTick c)) = false) :
    ∃ v : State, ((s.at t).setHostSide (1 - s.hostPort)).reacquire.ServoMoves v ∧ doRingFailover t s = v := by
  obtain ⟨l, hl, -⟩ := at_net s t
  have hat : (s.at t).net.censusAt = s.net.censusAt := by rw [hl]
  refine ⟨_, ?_, rfl⟩
  unfold doRingFailover
  extract_lets +onlyGivenNames u lost chosen
  have hlost : lost = s.hostPort := hostPort_at s t
  have hno : chosen = false := by
    rw [show chosen = u.net.censusAt.any (fun c => (u.port lost).downAt.any (sameTick c)) from rfl, show u.net.censusAt = s.net.censusAt from hat,
      hlost, at_port s t s.hostPort (g := Port.downAt) (fun _ => rfl)]
    exact hchosen
  have hgo : ((u.flag (nt 0 F.NTA_STAT.RING) || u.flag (nt 1 F.NTA_STAT.RING)) && !u.portActive lost && !chosen) = true := by
    rw [hno, hlost, show u.portActive s.hostPort = false from (portActive_at s t _).trans hdown, State.flag, State.flag, State.at_getF,
      State.at_getF]
    rcases hring with h | h <;> rw [h] <;> simp
  rw [if_pos hgo, hlost]
  extract_lets p v
  have hsend : v.ServoMoves (v.sendFrame p 3 (v.noticeBytes s.hostPort)) := by
    obtain ⟨l, hl⟩ := sendFrame_net v p 3 (v.noticeBytes s.hostPort)
    exact ⟨fun f _ => sendFrame_getF _ _ _ _ f, by rw [hl], sendFrame_tells _ _ _ _⟩
  exact .ite hsend ⟨fun _ _ => rfl, rfl, .of_tp rfl⟩

theorem withHeld_net (s : State) (h : Option (CensusFrame × Nat × Nat)) : (s.withHeld h).net = { s.net with held := h } := rfl

theorem noticed_etherFrame (s : State) (p kind : Nat) (body : List Byte) : (s.noticed p).etherFrame kind body = s.etherFrame kind body := rfl

/-- A frame sent out of an active port is the newest output. -/
theorem sendFrame_active {s : State} {p : Nat} (kind : Nat) (body : List Byte) (h : s.portActive p = true) :
    (s.sendFrame p kind body).tp.out = .frame p kind (s.etherFrame kind body) :: s.tp.out ∧ (s.sendFrame p kind body).rcd = s.rcd ∧
      (s.sendFrame p kind body).net.notices = s.net.notices := by
  unfold State.sendFrame
  rw [if_pos h]
  exact ⟨rfl, rfl, rfl⟩

theorem pwr_at_congr {s u : State} {t : Nat} (h : u.spine = (s.at t).spine) : u.pwr = s.pwr := (congrArg Spine.pwr h).trans (State.at_pwr s t)

theorem withAddress_getF (s : State) (id addr : Nat) {f : Field} (hip : f.addr ≠ 0x12138) (hchain : f.addr ≠ 0x140) :
    (s.withAddress id addr).getF f = s.getF f := by
  rw [State.withAddress, updateIp_getF _ hip]
  exact getF_setF_other _ F.SYS_CHAIN.ADDR f _ hchain

theorem withAddress_addr (s : State) (id : Nat) {addr : Nat} (h : addr ≤ 63) : (s.withAddress id addr).getF F.SYS_CHAIN.ADDR = addr := by
  rw [State.withAddress, updateIp_getF _ (by decide)]
  exact getF_setF_of_lt _ F.SYS_CHAIN.ADDR (by decide) (Nat.lt_succ_of_le h)

theorem withAddress_beside (s : State) (id addr : Nat) : (s.withAddress id addr).net = { s.net with addrId := id } ∧
    (s.withAddress id addr).now = s.now ∧ (s.withAddress id addr).pwr = s.pwr := ⟨rfl, rfl, rfl⟩

/-- A unit without an address takes the next one and holds the census for the other port (R294). -/
theorem doCensus_holds {s : State} {portB : Bool} {f : CensusFrame} (t : Nat) (hon : s.portOn (portNo portB) = true)
    (hactive : s.portActive (portNo portB) = true) (hother : s.portActive (1 - portNo portB) = false)
    (haddr : s.getF F.SYS_CHAIN.ADDR = 0) (hnext : f.next ≤ 63) (hframes : s.frames = false) :
    ∃ (v : State) (g : CensusFrame), doCensus portB f t s = (v.withAddress f.id f.next).clearEnd.withHeld
        (some (g, 1 - portNo portB, max s.now t + s.getF F.NTA_CENSUS_CFG.HOLD * 1000000)) ∧
      v.hostPort = portNo portB ∧ g.id = f.id ∧ g.next = f.next + 1 ∧ g.entries.length = f.entries.length + 1 := by
  obtain ⟨hspine, hhost, hreg⟩ := meetCensus_facts (s.at t) (portNo_lt portB)
  let v := (s.at t).meetCensus (portNo portB)
  have hvaddr : v.getF F.SYS_CHAIN.ADDR = 0 := (getF_of_spine hspine (by decide)).trans ((State.at_getF s t _).trans haddr)
  have hvframes : v.frames = false := by
    rw [← hframes, ← frames_at s t, State.frames, State.frames, show v.dev = (s.at t).dev from dev_of_spine hspine]
  obtain ⟨g, hg, hid, hnum, hlen⟩ := takeAddress_first (f := f) hvaddr hnext hvframes
  have hstage : v.stage (1 - portNo portB) = s.stage (1 - portNo portB) :=
    (hreg _ (by cases portB <;> decide) (by cases portB <;> decide)).trans (State.at_getF s t _)
  have hdown : (v.withAddress f.id f.next).portActive (1 - portNo portB) = false := by
    rw [← hother]
    refine portActive_congr ?_ ((withAddress_beside v _ _).2.2.trans (pwr_at_congr hspine))
    rw [State.stage, withAddress_getF _ _ _ (by cases portB <;> decide) (by cases portB <;> decide)]
    exact hstage
  have hhold : (v.withAddress f.id f.next).getF F.NTA_CENSUS_CFG.HOLD = s.getF F.NTA_CENSUS_CFG.HOLD := by
    rw [withAddress_getF _ _ _ (by decide) (by decide), hreg _ (by decide) (by decide), State.at_getF]
  have hnow : (v.withAddress f.id f.next).now = max s.now t := (congrArg Spine.now hspine).trans (State.at_now s t)
  refine ⟨v, g, ?_, hhost, hid, hnum, hlen⟩
  rw [doCensus_passes f t hon hactive, hg, passCensus_eq, if_neg (by rw [hdown]; decide), hhold, hnow]

/-- Settles O40. -/
theorem theChainCensus : Obligations.TheChainCensus := by
  refine ⟨?_, ?_, ?_, ?_, ?_, ?_⟩
  · intro s portB f t hon hactive hother haddr hnext hframes
    obtain ⟨v, g, hdo, hhost, hg⟩ := doCensus_holds t hon hactive hother haddr hnext hframes
    refine ⟨_, g, rfl, ?_, ?_, ?_, ?_, hg⟩ <;> rw [hdo]
    · rw [settle_getF_block (by decide), withHeld_getF, State.clearEnd, getF_setF_other _ (nt 1 F.NTA_STAT.END) _ _ (by decide),
        getF_setF_other _ (nt 0 F.NTA_STAT.END) _ _ (by decide), withAddress_addr v f.id hnext]
    · rw [State.settle_net_addrId, withHeld_net, clearEnd_net, (withAddress_beside _ _ _).1]
    · rw [State.hostPort, State.settle_net_hostB, withHeld_net, clearEnd_net, (withAddress_beside _ _ _).1]
      exact hhost
    · rw [State.settle_net_held, withHeld_net]
  · intro s t f out due hheld hdue
    obtain ⟨hend0, hend1, hid, hcount⟩ := chainEnd_shows ((s.at t).withHeld none) f
    refine ⟨_, rfl, ?_, ?_, ?_, ?_, ?_⟩ <;> rw [doCensusHoldExpiry_ends t hheld hdue]
    · rw [State.settle_net_held, chainEnd_held]
      rfl
    · rw [settle_getF_block (by decide), hend0]
    · rw [settle_getF_block (by decide), hend1]
    · rw [settle_getF_block (by decide), hid]
    · rw [settle_getF_block (by decide), hcount]
  · intro s portB f t hon hactive
    obtain ⟨hid, hcount, hover⟩ := copyDone_done (s.at t) f
    refine ⟨_, rfl, ?_, ?_, ?_⟩ <;> rw [settle_getF_block (by decide), doCensusDone_copies f t hon hactive]
    · exact hid
    · exact hcount
    · exact hover
  · intro s portB f t hon hactive
    exact ⟨_, rfl, (settle_getF_block (nt_block (portNo_lt portB) (by decide)) _).trans (doReverseCensus_shows f t hon hactive)⟩
  · intro s portB t hs hnotice hactive
    have hdo := doLinkNotice_sends t hnotice hactive
    have hup : ((s.at t).noticed (portNo portB)).portActive s.hostPort = true := (portActive_at s t _).trans hactive
    obtain ⟨hout, hrcd, hnotices⟩ := sendFrame_active 3 (s.noticeBytes (portNo portB)) hup
    have hquiet : (doLinkNotice portB t s).rcd.pulses = [] := by
      rw [hdo, hrcd]
      exact (congrArg RecState.pulses (State.at_rcd s t)).trans hs.2
    refine ⟨_, rfl, ?_, ?_⟩
    · rw [settle_tp_of_no_pulses hquiet, hdo, hout, noticed_etherFrame, etherFrame_at]
      exact congrArg (fun x : TransportState => _ :: x.out) (State.at_tp s t)
    · rw [State.settle_net_notices, hdo, hnotices]
      intro hmem
      exact absurd rfl (of_decide_eq_true (List.mem_filter.1 hmem).2)
  · intro s t hring hdown hchosen
    have hp : 1 - s.hostPort < 2 := by omega
    obtain ⟨v, hv, hdo⟩ := doRingFailover_turns t hring hdown hchosen
    have hmoves := (reacquire_servoMoves ((s.at t).setHostSide (1 - s.hostPort))).trans hv
    have hside : decide (1 - s.hostPort = 1) = decide (s.hostPort = 0) := by
      refine decide_eq_decide.2 ?_
      omega
    refine ⟨_, rfl, ?_, ?_, ?_⟩ <;> rw [hdo]
    · refine hostPort_of_hostB hp ?_
      rw [State.settle_net_hostB, hmoves.hostB, setHostSide_hostB]
    · rw [settle_getF_block (by decide), hmoves.reg _ (by decide), setHostSide_port _ hp]
    · have hall := (hmoves.tells.trans (settle_tells v)).all_queues (g := Queue.portB) (fun _ => rfl) (setHostSide_queues _ _)
      rw [List.all_eq_true]
      intro e he
      rw [hall e he, hside]
      exact beq_self_eq_true _

end Sys2Proof.Machine
end

section
/-! PROOFS. Reset sources (O48). -/

namespace Sys2Proof.Machine

/-! ## The level in force of a source (R376) -/

theorem sourceLevel_congr {s u : State} (h : u.rst.rows = s.rst.rows) (src : Nat) : u.sourceLevel src = s.sourceLevel src := by
  have hbytes (row off n : Nat) : u.fuseBytes row off n = s.fuseBytes row off n := by rw [State.fuseBytes, h, State.fuseBytes]
  unfold State.sourceLevel
  rw [hbytes]

theorem sourceLevel_lt (s : State) (src : Nat) : s.sourceLevel src < 4 := by
  have hdefault : (sourceLevels src).1 < 4 := by
    unfold sourceLevels
    split <;> decide
  unfold State.sourceLevel
  dsimp only
  split
  · decide
  · split
    · omega
    · exact hdefault

/-! ## A source that finds no reset and no load -/

/-- The reset that a source raises. -/
abbrev resetOf (src level : Nat) : ResetNow := { level := level, entered := false, pin := src = 2, powerOn := src = 0, awaits := none }

/-- `RST_CAUSE` names the source, and the source is counted. -/
def State.nameSource (s : State) (src level : Nat) : State :=
  ((s.bump (F.RST_SRC_CNT.COUNT.inst src) 1).setF F.RST_CAUSE.SOURCES (2 ^ src)).setF F.RST_CAUSE.LEVEL level

theorem raiseReset_first {s : State} {src level : Nat} (ha : s.rst.active = none) (hl : s.rst.loading = false ∨ src = 0)
    (hoff : s.dev ≠ .off ∨ src = 0) (hlevel : level ≤ 1 ∨ s.dev ≠ .provision ∧ s.dev ≠ .boot) :
    s.raiseReset src level = (s.nameSource src level).mapRst (fun x => { x with active := some (resetOf src level), relAt := s.now }) := by
  have hmin : (if s.dev = .provision || s.dev = .boot then min 1 level else level) = level := by
    rcases hlevel with h | ⟨hp, hb⟩
    · split
      · exact Nat.min_eq_right h
      · rfl
    · rw [if_neg (by simp [hp, hb])]
  have hcount : (s.bump (F.RST_SRC_CNT.COUNT.inst src) 1).rst = s.rst := State.setF_rst _ _ _
  unfold State.raiseReset
  rw [if_neg (by rcases hoff with h | h <;> simp [h]), hmin]
  dsimp only
  rw [hcount, ha]
  dsimp only
  rw [if_neg (by rcases hl with h | h <;> simp [h])]
  rfl

theorem mapRst_getF (s : State) (g : RstState → RstState) (f : Field) : (s.mapRst g).getF f = s.getF f := rfl

theorem mapRst_dev (s : State) (g : RstState → RstState) : (s.mapRst g).dev = s.dev := rfl

theorem nameSource_shows (s : State) {src level : Nat} (hsrc : src < 8) (hlevel : level < 4) :
    (s.nameSource src level).getF F.RST_CAUSE.SOURCES = 2 ^ src ∧ (s.nameSource src level).getF F.RST_CAUSE.LEVEL = level ∧
      (s.nameSource src level).getF (F.RST_SRC_CNT.COUNT.inst src) =
        min (s.getF (F.RST_SRC_CNT.COUNT.inst src) + 1) (2 ^ (F.RST_SRC_CNT.COUNT.inst src).width - 1) := by
  refine ⟨?_, ?_, ?_⟩
  · rw [State.nameSource, getF_setF_beside _ F.RST_CAUSE.LEVEL F.RST_CAUSE.SOURCES _ (by decide) (by decide)]
    exact getF_setF_of_lt _ F.RST_CAUSE.SOURCES (by decide) (Nat.pow_lt_pow_right (by decide) hsrc)
  · exact getF_setF_of_lt _ F.RST_CAUSE.LEVEL (by decide) hlevel
  · rw [State.nameSource, getF_inst_setF _ _ _ _ _ (by decide), getF_inst_setF _ _ _ _ _ (by decide)]
    exact getF_setF_min s (F.RST_SRC_CNT.COUNT.inst src) _ (by decide : 0 + 16 ≤ 32)

theorem nameSource_beside (s : State) (src level : Nat) : (s.nameSource src level).rst = s.rst ∧ (s.nameSource src level).dev = s.dev := by
  refine ⟨?_, ?_⟩
  · unfold State.nameSource
    rw [State.setF_rst, State.setF_rst, State.bump_eq, State.setF_rst]
  · refine congrArg DevState.ofCode ?_
    rw [State.nameSource, getF_setF_other _ F.RST_CAUSE.LEVEL _ _ (by decide), getF_setF_other _ F.RST_CAUSE.SOURCES _ _ (by decide),
      State.bump_eq, getF_setF_inst _ _ _ _ _ (by decide)]

/-- A source raised in a state that a reset can start from, at the end of its command. -/
theorem raiseReset_settled (s : State) {src level : Nat} (hsrc : src < 8) (hlevel : level < 4) (ha : s.rst.active = none)
    (hl : s.rst.loading = false ∨ src = 0) (hoff : s.dev ≠ .off ∨ src = 0) (hdeep : level ≤ 1 ∨ s.dev ≠ .provision ∧ s.dev ≠ .boot) :
    (s.raiseReset src level).settle.rst = { s.rst with active := some (resetOf src level), relAt := s.now } ∧
      (s.raiseReset src level).settle.getF F.RST_CAUSE.SOURCES = 2 ^ src ∧ (s.raiseReset src level).settle.getF F.RST_CAUSE.LEVEL = level ∧
      (s.raiseReset src level).settle.getF (F.RST_SRC_CNT.COUNT.inst src) =
        min (s.getF (F.RST_SRC_CNT.COUNT.inst src) + 1) (2 ^ (F.RST_SRC_CNT.COUNT.inst src).width - 1) ∧
      (s.raiseReset src level).settle.dev = s.dev := by
  obtain ⟨hsources, hlev, hcount⟩ := nameSource_shows s hsrc hlevel
  obtain ⟨hrst, hdev⟩ := nameSource_beside s src level
  have hinst : (F.RST_SRC_CNT.COUNT.inst src).addr / 0x1000 ≠ 26 := by
    simp only [Field.inst]
    omega
  rw [raiseReset_first ha hl hoff hdeep]
  refine ⟨?_, ?_, ?_, ?_, ?_⟩
  · rw [State.settle_rst, State.mapRst, hrst]
  · rw [State.settle_getF _ _ (by decide), mapRst_getF, hsources]
  · rw [State.settle_getF _ _ (by decide), mapRst_getF, hlev]
  · rw [State.settle_getF _ _ hinst, mapRst_getF, hcount]
  · rw [State.settle_dev, mapRst_dev, hdev]

/-- The source's level in force, from a state that runs. -/
theorem raiseReset_running (s : State) {src : Nat} (hsrc : src < 8) (ha : s.rst.active = none) (hl : s.rst.loading = false)
    (hoff : s.dev ≠ .off) (hboot : s.dev ≠ .boot) (hprov : s.dev ≠ .provision) :
    (s.raiseReset src (s.sourceLevel src)).settle.rst = { s.rst with active := some (resetOf src (s.sourceLevel src)), relAt := s.now } ∧
      (s.raiseReset src (s.sourceLevel src)).settle.getF F.RST_CAUSE.SOURCES = 2 ^ src ∧
      (s.raiseReset src (s.sourceLevel src)).settle.getF F.RST_CAUSE.LEVEL = s.sourceLevel src ∧
      (s.raiseReset src (s.sourceLevel src)).settle.getF (F.RST_SRC_CNT.COUNT.inst src) =
        min (s.getF (F.RST_SRC_CNT.COUNT.inst src) + 1) (2 ^ (F.RST_SRC_CNT.COUNT.inst src).width - 1) ∧
      (s.raiseReset src (s.sourceLevel src)).settle.dev = s.dev :=
  raiseReset_settled s hsrc (sourceLevel_lt s src) ha (.inl hl) (.inl hoff) (.inr ⟨hprov, hboot⟩)

/-! ## A core that fails (R352) writes on CPU and CAL only -/

/-- A field of a page, or of an instance of one, other than CAL and CPU. -/
abbrev offCore (f : Field) : Prop := f.addr % 0x1000000 / 0x1000 ≠ 6 ∧ f.addr % 0x1000000 / 0x1000 ≠ 7

section
variable {f : Field} (hf : offCore f)
include hf

theorem setF_getF_offCore (s : State) (g : Field) (v : Nat) (hg : g.addr % 0x1000000 / 0x1000 = 6 ∨ g.addr % 0x1000000 / 0x1000 = 7) :
    (s.setF g v).getF f = s.getF f := by
  refine getF_setF_other s g f v fun h => ?_
  obtain ⟨h6, h7⟩ := hf
  rw [h] at h6 h7
  exact hg.elim h6 h7

theorem raiseEvt_getF_offCore (s : State) {p : Nat} (bit : Nat) (hp : p = 6 ∨ p = 7) : (s.raiseEvt p bit).getF f = s.getF f := by
  refine State.raiseEvt_getF s p bit f fun h => ?_
  obtain ⟨h6, h7⟩ := hf
  omega

theorem poolTrigger_getF_offCore (s : State) (cause : Nat) : (s.poolTrigger 7 cause).getF f = s.getF f := by
  refine (standTrigger_getF _ 7 cause fun h => ?_).trans ?_
  · obtain ⟨-, h7⟩ := hf
    omega
  · simp only [poolKind]
    split
    · split
      · rfl
      · rw [raiseEvt_getF_offCore hf _ 2 (.inl rfl)]
        exact setF_getF_offCore hf s F.CAL_EXHAUST.KINDS _ (.inl (by decide))
    · exact setF_getF_offCore hf s (F.CAL_POOL_STAT.FAILED.inst 6) _ (.inl (by decide))

theorem spareTaken_getF_offCore (s : State) : (s.spareTaken 7).getF f = s.getF f :=
  (raiseEvt_getF_offCore hf _ 0 (.inl rfl)).trans (raiseEvt_getF_offCore hf s 29 (.inr rfl))

end

/-- The core is halted. -/
def State.haltCore (s : State) (c : Nat) : State := (s.setBit F.CPU_CORES.FAILED c true).setBit F.CPU_CORES.ACTIVE c false

/-- The spare core `n` takes up a role at an open instant. -/
def State.takeRole (s : State) (n : Nat) : State :=
  (((({ s.tick with rst := { s.rst with roleAt := s.now + s.freeNat % 50000001 } } : State).setBit F.CPU_CORES.ACTIVE n true).raiseEvt 7 1
    ).spareTaken 7).poolTrigger 7 0x40

def State.spareCore (s : State) : Option Nat :=
  (List.range 5).find? (fun n => !s.bitF F.CPU_CORES.ACTIVE n && !s.bitF F.CPU_CORES.FAILED n)

theorem failCore_eq (s : State) (c : Nat) : s.failCore c =
    if !s.on 4 || s.bitF F.CPU_CORES.FAILED c then s
    else match s.bitF F.CPU_CORES.ACTIVE c, (s.haltCore c).spareCore with
      | true, some n => (s.haltCore c).takeRole n
      | true, none => (s.haltCore c).recordDue.poolTrigger 7 0x41
      | false, _ => (s.haltCore c).recordDue.poolTrigger 7 0x40 := by
  unfold State.failCore
  rfl

theorem haltCore_beside (s : State) (c : Nat) : (s.haltCore c).rst = s.rst ∧ ∀ f, offCore f → (s.haltCore c).getF f = s.getF f :=
  ⟨(setBit_part (π := .resets) _ _ _ _).trans (setBit_part (π := .resets) _ _ _ _), fun f hf =>
    (setF_getF_offCore hf _ F.CPU_CORES.ACTIVE _ (.inr (by decide))).trans (setF_getF_offCore hf s F.CPU_CORES.FAILED _ (.inr (by decide)))⟩

theorem takeRole_beside (s : State) (n : Nat) : (∃ r, (s.takeRole n).rst = { s.rst with roleAt := r }) ∧
    ∀ f, offCore f → (s.takeRole n).getF f = s.getF f := by
  refine ⟨⟨s.now + s.freeNat % 50000001, ?_⟩, fun f hf => ?_⟩
  · exact (poolTrigger_part (π := .resets) (by decide) _ 7 0x40).trans ((spareTaken_part (π := .resets) (by decide) _ 7).trans
      ((State.raiseEvt_rst _ 7 1).trans (setBit_part (π := .resets) _ _ _ _)))
  · rw [State.takeRole, poolTrigger_getF_offCore hf, spareTaken_getF_offCore hf, raiseEvt_getF_offCore hf _ 1 (.inr rfl)]
    exact setF_getF_offCore hf _ F.CPU_CORES.ACTIVE _ (.inr (by decide))

/-- A core that fails moves nothing of the resets but the instant at which its role is taken up. -/
theorem failCore_beside (s : State) (c : Nat) : (∃ r, (s.failCore c).rst = { s.rst with roleAt := r }) ∧
    ∀ f, offCore f → (s.failCore c).getF f = s.getF f := by
  obtain ⟨hrst, hreg⟩ := haltCore_beside s c
  have htrigger (cause : Nat) : ((s.haltCore c).recordDue.poolTrigger 7 cause).rst = s.rst :=
    (poolTrigger_part (π := .resets) (by decide) _ 7 cause).trans hrst
  have htrigger' (cause : Nat) (f : Field) (hf : offCore f) : ((s.haltCore c).recordDue.poolTrigger 7 cause).getF f = s.getF f :=
    (poolTrigger_getF_offCore hf _ cause).trans (hreg f hf)
  rw [failCore_eq]
  split
  · exact ⟨⟨s.rst.roleAt, rfl⟩, fun _ _ => rfl⟩
  · split
    · next n _ _ =>
      obtain ⟨⟨r, hr⟩, hrole⟩ := takeRole_beside (s.haltCore c) n
      exact ⟨⟨r, by rw [hr, hrst]⟩, fun f hf => (hrole f hf).trans (hreg f hf)⟩
    · exact ⟨⟨s.rst.roleAt, htrigger _⟩, htrigger' _⟩
    · exact ⟨⟨s.rst.roleAt, htrigger _⟩, htrigger' _⟩

theorem failCore_dev (s : State) (c : Nat) : (s.failCore c).dev = s.dev :=
  congrArg DevState.ofCode ((failCore_beside s c).2 _ (by decide))

/-! ## `NRST` (R383) -/

theorem showHeld_some {s : State} {a : Nat} (h : s.rst.nrstLow = some a) :
    s.showHeld = s.setSat F.RST_NRST.HELD (max (s.getF F.RST_NRST.HELD) ((s.now - a) / 1000000000)) := by
  rw [State.showHeld, h]

theorem doNrstStuck_stuck {s : State} {a : Nat} (t : Nat) (hoff : s.dev ≠ .off) (hlow : s.rst.nrstLow = some a)
    (hlong : a + 10000000000 ≤ max s.now t) :
    (doNrstStuck t s).getF F.RST_NRST.STUCK = 1 ∧ (doNrstStuck t s).rst.nrstLow = some a := by
  have hat : (s.at t).rst.nrstLow = some a := by rw [State.at_rst, hlow]
  have hheld : (s.at t).heldFor (s.at t).rst.nrstLow 10000000000 = true := by
    rw [hat]
    unfold State.heldFor
    rw [State.at_now]
    exact decide_eq_true hlong
  unfold doNrstStuck
  extract_lets +onlyGivenNames u v
  have hv : v.getF F.RST_NRST.STUCK = 1 ∧ v.rst.nrstLow = some a := by
    refine ⟨getF_setF_of_lt _ F.RST_NRST.STUCK (by decide) (by decide), ?_⟩
    rw [show v = u.showHeld.setF F.RST_NRST.STUCK 1 from rfl, State.setF_rst, showHeld_some hat, State.setSat_eq, State.setF_rst]
    exact hat
  rw [if_pos (by rw [hheld, show u.dev = s.dev from State.at_dev s t]; simp [hoff])]
  split
  · split
    · exact ⟨(State.raiseEvt_getF v 1 1 _ (by decide)).trans hv.1, (congrArg RstState.nrstLow (State.raiseEvt_rst v 1 1)).trans hv.2⟩
    · exact hv
  · exact hv

theorem doNrstRelease_held {s : State} {a : Nat} (t : Nat) (hlow : s.rst.nrstLow = some a) :
    (doNrstRelease t s).rst.nrstLow = none ∧ (doNrstRelease t s).getF F.RST_NRST.HELD =
      min (max (s.getF F.RST_NRST.HELD) ((max s.now t - a) / 1000000000)) (2 ^ F.RST_NRST.HELD.width - 1) := by
  have hat : (s.at t).rst.nrstLow = some a := by rw [State.at_rst, hlow]
  have hdo : doNrstRelease t s = (s.at t).showHeld.mapRst (fun x => { x with nrstLow := none }) := by
    unfold doNrstRelease
    exact if_neg (by rw [hat]; exact Bool.noConfusion)
  rw [hdo]
  refine ⟨rfl, ?_⟩
  rw [mapRst_getF, showHeld_some hat, State.setSat_eq, getF_setF_min _ F.RST_NRST.HELD _ (by decide), State.at_getF, State.at_now]

/-! ## A source in a state that runs -/

/-- No reset in progress, no fuse load, and a state other than `OFF`, `BOOT` and `PROVISION`. -/
structure State.Runs (s : State) : Prop where
  noReset : s.rst.active = none
  noLoad : s.rst.loading = false
  notOff : s.dev ≠ .off
  notBoot : s.dev ≠ .boot
  notProvision : s.dev ≠ .provision

/-- What a source changes before it raises its reset leaves the registers that name sources, the state and the fuse shadow as they are. -/
structure State.ReadyAs (u s : State) : Prop where
  noReset : u.rst.active = s.rst.active
  noLoad : u.rst.loading = s.rst.loading
  rows : u.rst.rows = s.rst.rows
  regs : ∀ f, offCore f → f.addr ≠ 7 * 0x1000 + 0x10 → u.getF f = s.getF f

theorem State.ReadyAs.dev {u s : State} (h : u.ReadyAs s) : u.dev = s.dev := congrArg DevState.ofCode (h.regs _ (by decide) (by decide))

theorem at_readyAs (s : State) (t : Nat) : (s.at t).ReadyAs s :=
  ⟨by rw [State.at_rst], by rw [State.at_rst], by rw [State.at_rst], fun f _ _ => State.at_getF s t f⟩

/-- The reset waits at the source's level in force, the source is named and counted, and the state is as it was. -/
theorem raiseReset_of_readyAs {u s : State} (h : u.ReadyAs s) (hs : s.Runs) {src : Nat} (hsrc : src < 8) :
    (u.raiseReset src (u.sourceLevel src)).settle.rst = { u.rst with active := some (resetOf src (s.sourceLevel src)), relAt := u.now } ∧
      (u.raiseReset src (u.sourceLevel src)).settle.getF F.RST_CAUSE.SOURCES = 2 ^ src ∧
      (u.raiseReset src (u.sourceLevel src)).settle.getF F.RST_CAUSE.LEVEL = s.sourceLevel src ∧
      (u.raiseReset src (u.sourceLevel src)).settle.getF (F.RST_SRC_CNT.COUNT.inst src) =
        min (s.getF (F.RST_SRC_CNT.COUNT.inst src) + 1) (2 ^ (F.RST_SRC_CNT.COUNT.inst src).width - 1) ∧
      (u.raiseReset src (u.sourceLevel src)).settle.dev = s.dev := by
  have hoff : offCore (F.RST_SRC_CNT.COUNT.inst src) := by
    refine ⟨?_, ?_⟩ <;>
    · simp only [Field.inst]
      omega
  have hisr : (F.RST_SRC_CNT.COUNT.inst src).addr ≠ 7 * 0x1000 + 0x10 := by
    simp only [Field.inst]
    omega
  have key := raiseReset_running u hsrc (h.noReset.trans hs.noReset) (h.noLoad.trans hs.noLoad) (h.dev ▸ hs.notOff) (h.dev ▸ hs.notBoot)
    (h.dev ▸ hs.notProvision)
  rw [sourceLevel_congr h.rows, h.dev, h.regs _ hoff hisr] at key
  rw [sourceLevel_congr h.rows]
  exact key

theorem mapRst_readyAs {u s : State} (h : u.ReadyAs s) {g : RstState → RstState} (hg : (g u.rst).active = u.rst.active)
    (hl : (g u.rst).loading = u.rst.loading) (hr : (g u.rst).rows = u.rst.rows) : (u.mapRst g).ReadyAs s :=
  ⟨hg.trans h.noReset, hl.trans h.noLoad, hr.trans h.rows, h.regs⟩

theorem failCore_readyAs {u s : State} (h : u.ReadyAs s) (c : Nat) : (u.failCore c).ReadyAs s := by
  obtain ⟨⟨r, hr⟩, hreg⟩ := failCore_beside u c
  exact ⟨by rw [hr]; exact h.noReset, by rw [hr]; exact h.noLoad, by rw [hr]; exact h.rows,
    fun f hf hne => (hreg f hf).trans (h.regs f hf hne)⟩

theorem recErr_readyAs {u s : State} (h : u.ReadyAs s) (code addr : Nat) : (u.recErr 7 code addr).ReadyAs s := by
  have hrst : (u.recErr 7 code addr).rst = u.rst := State.recErr_rst _ _ _ _
  refine ⟨by rw [hrst]; exact h.noReset, by rw [hrst]; exact h.noLoad, by rw [hrst]; exact h.rows, fun f hf hne => ?_⟩
  refine (State.recErr_getF u 7 code addr f ⟨hne, fun h => ?_, fun h => ?_⟩).trans (h.regs f hf hne) <;>
  · obtain ⟨-, h7⟩ := hf
    omega

/-! ## Settled -/

theorem doPowerOn_raises (s : State) (t : Nat) (ha : s.rst.active = none) :
    (doPowerOn t s).settle.rst.active = some ⟨0, false, false, true, none⟩ ∧ (doPowerOn t s).settle.getF F.RST_CAUSE.SOURCES = 1 ∧
      (doPowerOn t s).settle.getF F.RST_CAUSE.LEVEL = 0 := by
  obtain ⟨hrst, hsources, hlevel, -, -⟩ := raiseReset_settled (s.at t) (src := 0) (level := 0) (by decide) (by decide)
    (by rw [State.at_rst, ha]) (.inr rfl) (.inr rfl) (.inl (by decide))
  exact ⟨congrArg RstState.active hrst, hsources, hlevel⟩

/-- The expiry of the watchdog is noted for the core. -/
def State.noteExpiry (s : State) (c : Nat) : State := s.mapRst (fun x => { x with expiries := tabSet c s.now x.expiries })

/-- The core's last expiry is at most an hour ago. -/
def State.expiredLately (s : State) (c : Nat) : Bool := (tabFind c s.rst.expiries).any (fun x => decide (s.now ≤ x + 3600000000000))

/-- A core that expires twice within an hour has failed (R352). -/
def State.expireCore (s : State) (c : Nat) : State := if s.expiredLately c then (s.noteExpiry c).failCore c else s.noteExpiry c

theorem expireCore_notes (s : State) (t c : Nat) : ((s.at t).expireCore c).ReadyAs s ∧
    tabFind c ((s.at t).expireCore c).rst.expiries = some (max s.now t) := by
  have hready : ((s.at t).noteExpiry c).ReadyAs s := mapRst_readyAs (at_readyAs s t) rfl rfl rfl
  have hfind : tabFind c ((s.at t).noteExpiry c).rst.expiries = some (max s.now t) :=
    (tabFind_tabSet_self _ _ _).trans (congrArg some (State.at_now s t))
  unfold State.expireCore
  split
  · obtain ⟨⟨r, hr⟩, -⟩ := failCore_beside ((s.at t).noteExpiry c) c
    exact ⟨failCore_readyAs hready _, by rw [hr]; exact hfind⟩
  · exact ⟨hready, hfind⟩

theorem doWatchdogExpiry_eq {s : State} (wdt : WatchdogEnd) (hon : s.on 4 = true) : doWatchdogExpiry wdt s =
    ((s.at wdt.t).expireCore wdt.core.val).raiseReset 3 (((s.at wdt.t).expireCore wdt.core.val).sourceLevel 3) := by
  have hat : (s.at wdt.t).on 4 = true := by rw [State.at_on, hon]
  have hlevel : ((s.at wdt.t).expireCore wdt.core.val).sourceLevel 3 = ((s.at wdt.t).noteExpiry wdt.core.val).sourceLevel 3 :=
    sourceLevel_congr ((expireCore_notes s wdt.t wdt.core.val).1.rows.trans (congrArg RstState.rows (State.at_rst s wdt.t)).symm) 3
  rw [hlevel]
  unfold doWatchdogExpiry
  exact if_neg (by rw [hat]; decide)

theorem doProvisioningReset_waits {s : State} {from_ : Nat} (t : Nat) (ha : s.rst.active = none) (hoff : s.dev ≠ .off)
    (hprov : s.rst.provAt = some from_) (hdue : from_ + 10000000 ≤ max s.now t) :
    doProvisioningReset t s = (((s.at t).setF F.RST_CAUSE.SOURCES 0).setF F.RST_CAUSE.LEVEL 1).mapRst (fun x => { x with
      provAt := none, relAt := (s.at t).now, active := some ⟨1, false, false, false, none⟩ }) := by
  unfold doProvisioningReset
  dsimp only
  rw [show (s.at t).rst.provAt = some from_ by rw [State.at_rst, hprov]]
  refine if_pos ?_
  rw [State.at_now, State.at_rst, ha, State.at_dev, decide_eq_true hdue]
  simp [hoff]

/-- Settles O48: each source but the two without one raises its reset on a state that shows the registers and the fuse rows of the
command's own (`ReadyAs`). -/
theorem resetSources : Obligations.ResetSources := by
  unfold Obligations.ResetSources
  refine ⟨?_, ?_, ?_, ?_, ?_, ?_, ?_, ?_, ?_⟩
  · intro s t ha
    exact ⟨_, rfl, doPowerOn_raises s t ha⟩
  · intro s t ha hl hoff hboot hprov
    obtain ⟨hrst, hrest⟩ := raiseReset_of_readyAs (at_readyAs s t) ⟨ha, hl, hoff, hboot, hprov⟩ (src := 1) (by decide)
    exact ⟨_, rfl, congrArg RstState.active hrst, hrest⟩
  · intro s t ha hl hoff hboot hprov hhigh
    have hready : ((s.at t).mapRst (fun x => { x with nrstLow := some (s.at t).now })).ReadyAs s := mapRst_readyAs (at_readyAs s t) rfl rfl rfl
    have hdo : doNrstAssert t s = ((s.at t).mapRst (fun x => { x with nrstLow := some (s.at t).now })).raiseReset 2 ((s.at t).sourceLevel 2) := by
      unfold doNrstAssert
      exact if_neg (by rw [State.at_rst, hhigh]; decide)
    obtain ⟨hrst, hsources, hlevel, hcount, hdev⟩ := raiseReset_of_readyAs hready ⟨ha, hl, hoff, hboot, hprov⟩ (src := 2) (by decide)
    refine ⟨(doNrstAssert t s).settle, rfl, ?_⟩
    rw [hdo]
    exact ⟨congrArg RstState.active hrst, hsources, hlevel, hcount, hdev,
      (congrArg RstState.nrstLow hrst).trans (congrArg some (State.at_now s t))⟩
  · intro s wdt ha hl hoff hboot hprov hon
    obtain ⟨hready, hnoted⟩ := expireCore_notes s wdt.t wdt.core.val
    obtain ⟨hrst, hsources, hlevel, hcount, hdev⟩ := raiseReset_of_readyAs hready ⟨ha, hl, hoff, hboot, hprov⟩ (src := 3) (by decide)
    refine ⟨(doWatchdogExpiry wdt s).settle, rfl, ?_⟩
    rw [doWatchdogExpiry_eq wdt hon]
    exact ⟨congrArg RstState.active hrst, hsources, hlevel, hcount, (congrArg (tabFind _ ·.expiries) hrst).trans hnoted, fun _ => hdev⟩
  · intro s scan t ha hl hoff hboot hprov
    have hready : ((s.at t).mapRst (fun x => { x with scan := x.scan || scan })).ReadyAs s := mapRst_readyAs (at_readyAs s t) rfl rfl rfl
    have hdo : doDebugReset scan t s = ((s.at t).mapRst (fun x => { x with scan := x.scan || scan })).raiseReset 5 ((s.at t).sourceLevel 5) := by
      unfold doDebugReset
      exact if_neg (by rw [State.at_dev]; exact hoff)
    obtain ⟨hrst, hsources, hlevel, hcount, hdev⟩ := raiseReset_of_readyAs hready ⟨ha, hl, hoff, hboot, hprov⟩ (src := 5) (by decide)
    refine ⟨(doDebugReset scan t s).settle, rfl, ?_⟩
    rw [hdo]
    exact ⟨congrArg RstState.active hrst, hsources, hlevel, hcount, hdev,
      (congrArg RstState.scan hrst).trans (by rw [State.mapRst, State.at_rst])⟩
  · intro s bus t ha hl hoff hboot hprov hon
    have hready : (if bus then (s.at t).recErr 7 0x05 0 else s.at t).ReadyAs s := by
      split
      · exact recErr_readyAs (at_readyAs s t) _ _
      · exact at_readyAs s t
    have hdo : doLockupReset bus t s = (if bus then (s.at t).recErr 7 0x05 0 else s.at t).raiseReset 7
        ((if bus then (s.at t).recErr 7 0x05 0 else s.at t).sourceLevel 7) := by
      unfold doLockupReset
      refine (if_pos (by rw [State.at_on, hon])).trans ?_
      rw [sourceLevel_congr (hready.rows.trans (at_readyAs s t).rows.symm)]
    obtain ⟨hrst, hrest⟩ := raiseReset_of_readyAs hready ⟨ha, hl, hoff, hboot, hprov⟩ (src := 7) (by decide)
    refine ⟨(doLockupReset bus t s).settle, rfl, ?_⟩
    rw [hdo]
    exact ⟨congrArg RstState.active hrst, hrest⟩
  · intro s t f ha hoff hprov hdue
    refine ⟨(doProvisioningReset t s).settle, rfl, ?_⟩
    rw [doProvisioningReset_waits t ha hoff hprov hdue]
    refine ⟨by rw [State.settle_rst, State.mapRst], by rw [State.settle_rst, State.mapRst], ?_, ?_⟩
    · rw [State.settle_getF _ _ (by decide), mapRst_getF, getF_setF_beside _ F.RST_CAUSE.LEVEL _ _ (by decide) (by decide)]
      exact getF_setF_of_lt _ F.RST_CAUSE.SOURCES (by decide) (by decide)
    · rw [State.settle_getF _ _ (by decide), mapRst_getF]
      exact getF_setF_of_lt _ F.RST_CAUSE.LEVEL (by decide) (by decide)
  · intro s t a hlow
    obtain ⟨hnone, hheld⟩ := doNrstRelease_held t hlow
    exact ⟨(doNrstRelease t s).settle, rfl, by rw [State.settle_rst, hnone], by rw [State.settle_getF _ _ (by decide), hheld]⟩
  · intro s t a hoff hlow hlong
    obtain ⟨hstuck, hstill⟩ := doNrstStuck_stuck t hoff hlow hlong
    exact ⟨(doNrstStuck t s).settle, rfl, by rw [State.settle_getF _ _ (by decide), hstuck], by rw [State.settle_rst, hstill]⟩

end Sys2Proof.Machine
end

section
/-! PROOFS. The start from `OFF` and the fuse load (O51). -/

namespace Sys2Proof.Machine

/-! ## A start from `OFF` (R357, R389) -/

theorem wipeToBoot_starts (s : State) (power : Bool) (c : Nat) (o : List Nat) (hoff : s.dev = .off) :
    (s.wipeToBoot power c o).getF F.SYS_STATE.CAUSE = c % 2 ^ 8 ∧ (s.wipeToBoot power c o).tp.bootCount = s.tp.bootCount ∧
      (s.wipeToBoot power c o).rst.loading = false ∧ (s.wipeToBoot power c o).rst.nrstLow = s.rst.nrstLow := by
  have hdev : ((s.wipe power).poke 0x110 (s.peek 0x110)).dev = .off := by
    refine (congrArg DevState.ofCode (?_ : _ = s.getF F.SYS_STATE.STATE)).trans hoff
    unfold State.getF
    rw [peek_poke_self]
  have henter : s.wipeToBoot power c o = ((s.wipe power).poke 0x110 (s.peek 0x110)).enterState .boot c o := by
    unfold State.wipeToBoot State.enterBoot
    exact if_neg (by rw [hdev]; decide)
  rw [henter]
  refine ⟨enterState_cause _ _ _ _, (State.enterState_tp_bootCount _ _ _ _).trans rfl, ?_, ?_⟩
  · rw [State.enterState_rst]
    rfl
  · rw [State.enterState_rst]
    rfl

/-- The state of a start before its fuse load. -/
def State.started (s : State) (cause : Nat) : State :=
  (((s.wipeToBoot true cause []).mapRst (fun x => { x with active := none })).setF F.RST_CAUSE.SOURCES 1).setF F.RST_CAUSE.LEVEL 0

theorem started_shows (s : State) (cause : Nat) (hoff : s.dev = .off) :
    (s.started cause).dev = .boot ∧ (s.started cause).getF F.SYS_STATE.CAUSE = cause % 2 ^ 8 ∧
      (s.started cause).getF F.RST_CAUSE.SOURCES = 1 ∧ (s.started cause).tp.bootCount = s.tp.bootCount ∧
      (s.started cause).rst.loading = false ∧ (s.started cause).rst.active = none ∧ (s.started cause).rst.nrstLow = s.rst.nrstLow := by
  obtain ⟨hcause, hcount, hload, hlow⟩ := wipeToBoot_starts s true cause [] hoff
  have hregs (f : Field) (hf : f.addr ≠ F.RST_CAUSE.SOURCES.addr) : (s.started cause).getF f = (s.wipeToBoot true cause []).getF f :=
    (getF_setF_other _ F.RST_CAUSE.LEVEL _ _ hf).trans (getF_setF_other _ F.RST_CAUSE.SOURCES _ _ hf)
  have hrst : (s.started cause).rst = { (s.wipeToBoot true cause []).rst with active := none } := by
    rw [State.started, State.setF_rst, State.setF_rst, State.mapRst]
  refine ⟨?_, (hregs _ (by decide)).trans hcause, ?_, ?_, by rw [hrst, hload], by rw [hrst], by rw [hrst, hlow]⟩
  · exact (congrArg DevState.ofCode (hregs _ (by decide))).trans (wipeToBoot_leaves s true cause []).1
  · rw [State.started, getF_setF_beside _ F.RST_CAUSE.LEVEL _ _ (by decide) (by decide)]
    exact getF_setF_of_lt _ F.RST_CAUSE.SOURCES (by decide) (by decide)
  · rw [State.started, State.setF_tp, State.setF_tp]
    exact hcount

theorem beginLoad_counts (s : State) (hl : s.rst.loading = false) :
    s.beginLoad.tp.bootCount = s.tp.bootCount + 1 ∧ s.beginLoad.rst.nrstLow = s.rst.nrstLow := by
  unfold State.beginLoad
  rw [hl, if_neg (by decide)]
  refine ⟨?_, ?_⟩
  · rw [State.mapRst, State.mapPwr, State.setF_tp, State.setF_tp, State.bump_eq, State.setF_tp]
  · rw [State.mapRst, State.mapPwr, State.setF_rst, State.setF_rst, State.bump_eq, State.setF_rst]

theorem beginLoad_getF (s : State) {f : Field} (h : f.addr ∉ [F.RST_FUSE_LOADS.COUNT.addr, F.RST_FUSE.STATE.addr, F.RST_BOOT.STEP.addr]) :
    s.beginLoad.getF f = s.getF f := by
  simp only [List.mem_cons, not_or] at h
  obtain ⟨hloads, hfuse, hboot, -⟩ := h
  unfold State.beginLoad
  rw [mapRst_getF, State.mapPwr_getF, getF_setF_other _ F.RST_BOOT.STEP _ _ hboot, getF_setF_other _ F.RST_FUSE.STATE _ _ hfuse, State.bump_eq,
    getF_setF_other _ F.RST_FUSE_LOADS.COUNT _ _ hloads]
  split <;> rfl

/-- The reset of a source raised during a fuse load (R385): the load's own, held on. -/
def State.holdLoad (s : State) (src : Nat) : State :=
  ((s.bump (F.RST_SRC_CNT.COUNT.inst src) 1).mapRst (fun x => { x with
    active := some { level := 0, entered := true, pin := src = 2, powerOn := false, awaits := none } })).setBit F.RST_CAUSE.SOURCES src true

theorem raiseReset_loading {s : State} {src level : Nat} (hoff : s.dev ≠ .off) (hl : s.rst.loading = true) (ha : s.rst.active = none)
    (hsrc : src ≠ 0) : s.raiseReset src level = s.holdLoad src := by
  have hcount : (s.bump (F.RST_SRC_CNT.COUNT.inst src) 1).rst = s.rst := State.setF_rst _ _ _
  unfold State.raiseReset
  rw [if_neg (by simp [hoff])]
  dsimp only
  rw [hcount, ha]
  dsimp only
  rw [if_pos (by simp [hl, hsrc])]
  rw [State.holdLoad, State.mapRst, hcount]

theorem holdLoad_shows (s : State) :
    (s.holdLoad 2).rst.active.isSome = true ∧ (s.holdLoad 2).rst.loading = s.rst.loading ∧ (s.holdLoad 2).tp = s.tp ∧
      (s.holdLoad 2).pwr = s.pwr ∧ (∀ f, f.addr < 0x1000000 → f.addr ≠ F.RST_CAUSE.SOURCES.addr → (s.holdLoad 2).getF f = s.getF f) ∧
      (s.holdLoad 2).bitF F.RST_CAUSE.SOURCES 0 = s.bitF F.RST_CAUSE.SOURCES 0 ∧ (s.holdLoad 2).bitF F.RST_CAUSE.SOURCES 2 = true := by
  have hcount : (s.bump (F.RST_SRC_CNT.COUNT.inst 2) 1).rst = s.rst := State.setF_rst _ _ _
  have hrst : (s.holdLoad 2).rst = { s.rst with
      active := some { level := 0, entered := true, pin := decide (2 = 2), powerOn := false, awaits := none } } := by
    rw [State.holdLoad, setBit_eq_setF, State.setF_rst, State.mapRst, hcount]
  have hregs (f : Field) (hf : f.addr < 0x1000000) :
      ((s.bump (F.RST_SRC_CNT.COUNT.inst 2) 1).mapRst (fun x => { x with
        active := some { level := 0, entered := true, pin := decide (2 = 2), powerOn := false, awaits := none } })).getF f = s.getF f := by
    rw [mapRst_getF, State.bump_eq]
    exact getF_setF_inst _ _ _ _ _ hf
  refine ⟨by rw [hrst]; rfl, by rw [hrst], ?_, ?_, fun f hf hne => ?_, ?_, ?_⟩
  · rw [State.holdLoad, setBit_eq_setF, State.setF_tp, State.mapRst, State.bump_eq, State.setF_tp]
  · rw [State.holdLoad, setBit_eq_setF, State.setF_pwr, State.mapRst, State.bump_eq, State.setF_pwr]
  · exact (getF_setF_other _ F.RST_CAUSE.SOURCES f _ hne).trans (hregs f hf)
  · rw [State.holdLoad, bitF_setBit _ F.RST_CAUSE.SOURCES 2 0 true (by decide) (by decide), if_neg (by decide)]
    exact bitF_congr (hregs _ (by decide)) 0
  · rw [State.holdLoad, bitF_setBit _ F.RST_CAUSE.SOURCES 2 2 true (by decide) (by decide), if_pos rfl]

/-- What a start leaves at the end of its command. -/
structure State.Begun (s u : State) : Prop where
  dev : u.dev = .boot
  cause : u.getF F.SYS_STATE.CAUSE = s.startCause
  loading : u.rst.loading = true
  held : u.rst.active.isSome = s.rst.nrstLow.isSome
  count : u.tp.bootCount = s.tp.bootCount + 1
  released : u.pwr.released = [0]
  powerOn : u.bitF F.RST_CAUSE.SOURCES 0 = true
  pin : u.bitF F.RST_CAUSE.SOURCES 2 = s.rst.nrstLow.isSome

/-- The start with its load begun. -/
def State.startBoot (s : State) : State := (s.started s.startCause).beginLoad

theorem startBoot_shows (s : State) (hoff : s.dev = .off) :
    s.startBoot.dev = .boot ∧ s.startBoot.getF F.SYS_STATE.CAUSE = s.startCause ∧ s.startBoot.rst.loading = true ∧
      s.startBoot.rst.active = none ∧ s.startBoot.rst.nrstLow = s.rst.nrstLow ∧ s.startBoot.tp.bootCount = s.tp.bootCount + 1 ∧
      s.startBoot.pwr.released = [0] ∧ s.startBoot.getF F.RST_CAUSE.SOURCES = 1 := by
  obtain ⟨hdev, hcause, hsources, hcount, hload, hactive, hlow⟩ := started_shows s s.startCause hoff
  obtain ⟨hactive', hloading, -, hreleased⟩ := beginLoad_loads (s.started s.startCause)
  obtain ⟨hcount', hlow'⟩ := beginLoad_counts (s.started s.startCause) hload
  have hfits : s.startCause % 2 ^ 8 = s.startCause := by
    unfold State.startCause
    split <;> rfl
  exact ⟨(congrArg DevState.ofCode (beginLoad_getF _ (by decide))).trans hdev, (beginLoad_getF _ (by decide)).trans (hcause.trans hfits),
    hloading, hactive'.trans hactive, hlow'.trans hlow, hcount'.trans (by rw [hcount]), hreleased, (beginLoad_getF _ (by decide)).trans hsources⟩

/-- With `NRST` high the load runs by itself; with `NRST` low it is held. -/
theorem startBoot_begun (s : State) (hoff : s.dev = .off) :
    s.Begun (if s.startBoot.rst.nrstLow.isSome then s.startBoot.holdLoad 2 else s.startBoot) := by
  obtain ⟨hdev, hcause, hload, hactive, hlow, hcount, hreleased, hsources⟩ := startBoot_shows s hoff
  have hbit (i : Nat) : s.startBoot.bitF F.RST_CAUSE.SOURCES i = (1 : Nat).testBit i := by rw [State.bitF, hsources]
  rw [hlow]
  split
  · next hheld =>
    obtain ⟨hsome, hload', htp, hpwr, hregs, hzero, htwo⟩ := holdLoad_shows s.startBoot
    exact ⟨(congrArg DevState.ofCode (hregs _ (by decide) (by decide))).trans hdev, (hregs _ (by decide) (by decide)).trans hcause,
      hload'.trans hload, hsome.trans hheld.symm, (congrArg _ htp).trans hcount, (congrArg _ hpwr).trans hreleased,
      hzero.trans (hbit 0), htwo.trans hheld.symm⟩
  · next hheld =>
    have hheld : s.rst.nrstLow.isSome = false := Bool.eq_false_iff.2 hheld
    exact ⟨hdev, hcause, hload, by rw [hactive, hheld]; rfl, hcount, hreleased, hbit 0, (hbit 2).trans hheld.symm⟩

theorem doInputStartThreshold_starts {s : State} {a : Nat} (t : Nat) (hoff : s.dev = .off) (habove : s.pwr.above50 = some a)
    (hlong : a + 10000000 ≤ max s.now t) : (s.at t).Begun (doInputStartThreshold t s) := by
  have hdev : (s.at t).dev = .off := by rw [State.at_dev, hoff]
  have hheld : (s.at t).heldFor (s.at t).pwr.above50 10000000 = true := by
    rw [State.at_pwr, habove]
    unfold State.heldFor
    rw [State.at_now]
    exact decide_eq_true hlong
  obtain ⟨hboot, -, hload, hactive, -⟩ := startBoot_shows (s.at t) hdev
  have hdo : doInputStartThreshold t s = if (s.at t).startBoot.rst.nrstLow.isSome then (s.at t).startBoot.holdLoad 2 else (s.at t).startBoot := by
    unfold doInputStartThreshold
    refine (if_pos (by rw [hdev, hheld]; rfl)).trans ?_
    rw [← raiseReset_loading (level := (s.at t).startBoot.sourceLevel 2) (by rw [hboot]; decide) hload hactive (by decide)]
    rfl
  rw [hdo]
  exact startBoot_begun (s.at t) hdev

theorem settle_begun {s u : State} (h : s.Begun u) : s.Begun u.settle where
  dev := by rw [State.settle_dev, h.dev]
  cause := by rw [State.settle_getF _ _ (by decide), h.cause]
  loading := by rw [State.settle_rst, h.loading]
  held := by rw [State.settle_rst, h.held]
  count := by rw [State.settle_tp_bootCount, h.count]
  released := by rw [State.settle_pwr, h.released]
  powerOn := (bitF_congr (State.settle_getF _ _ (by decide)) 0).trans h.powerOn
  pin := (bitF_congr (State.settle_getF _ _ (by decide)) 2).trans h.pin

/-! ## The fuse load completes (R385) -/

/-- The rows that neither copy holds well. -/
def State.badFuses (s : State) : List Nat := rowsWith (fun n => (loadRow s.rst.fuseA s.rst.fuseB n).2.1)

/-- The rows taken from the second copy. -/
def State.backedFuses (s : State) : List Nat := rowsWith (fun n => (loadRow s.rst.fuseA s.rst.fuseB n).2.2.1)

/-- The rows that one copy holds well. -/
def State.singleFuses (s : State) : List Nat := rowsWith (fun n => (loadRow s.rst.fuseA s.rst.fuseB n).2.2.2)

/-- The rows of the shadow that are not empty. -/
def State.loadedRows (s : State) : List (Nat × List Byte) :=
  ((List.range 64).map (fun n => (n, shadowRow s.rst.fuseA s.rst.fuseB n))).filter (fun e => e.2.any (· ≠ 0))

/-- The shadow is in use. -/
def State.takeShadow (s : State) : State :=
  s.mapRst (fun x => { x with loading := false, mapped := true, rows := s.loadedRows, badRows := s.badFuses })

/-- `RST_FUSE` shows a load with these rows. -/
def State.showLoad (s : State) (bad fb one : List Nat) : State :=
  (((s.setF F.RST_FUSE.BOTHBAD bad.length).setF F.RST_FUSE.ONECOPY one.length).setF F.RST_FUSE.FALLBACK fb.length).setF F.RST_FUSE.STATE
    (if !bad.isEmpty then 4 else if !fb.isEmpty then 3 else 2)

/-- `RST_FUSE_ROW` names the first of each. -/
def State.nameRows (s : State) (bad fb : List Nat) : State :=
  (((s.setB F.RST_FUSE_ROW.BAD_V (!bad.isEmpty)).setF F.RST_FUSE_ROW.BAD (bad.headD 0)).setB F.RST_FUSE_ROW.FB_V (!fb.isEmpty)).setF
    F.RST_FUSE_ROW.FB (fb.headD 0)

/-- The events of the rows taken from the second copy. -/
def State.backedEvents (s : State) (fb : List Nat) : State := fb.foldl (fun s _ => s.raiseEvt 1 0) s

theorem showLoad_shows (s : State) (bad fb one : List Nat) :
    (s.showLoad bad fb one).rst = s.rst ∧ ((s.showLoad bad fb one).getF F.RST_FUSE.STATE = 4 ↔ bad ≠ []) ∧
      ∀ f, f.addr ≠ F.RST_FUSE.STATE.addr → (s.showLoad bad fb one).getF f = s.getF f := by
  refine ⟨?_, ?_, fun f hf => ?_⟩
  · rw [State.showLoad, State.setF_rst, State.setF_rst, State.setF_rst, State.setF_rst]
  · rw [State.showLoad, getF_setF_self _ F.RST_FUSE.STATE _ (by decide)]
    rcases bad with - | ⟨n, bad⟩
    · cases fb <;> simp
    · simp
  · rw [State.showLoad, getF_setF_other _ F.RST_FUSE.STATE _ _ hf, getF_setF_other _ F.RST_FUSE.FALLBACK _ _ hf,
      getF_setF_other _ F.RST_FUSE.ONECOPY _ _ hf, getF_setF_other _ F.RST_FUSE.BOTHBAD _ _ hf]

theorem nameRows_shows (s : State) (bad fb : List Nat) :
    (s.nameRows bad fb).rst = s.rst ∧ ∀ f, f.addr ≠ F.RST_FUSE_ROW.FB.addr → (s.nameRows bad fb).getF f = s.getF f := by
  refine ⟨?_, fun f hf => ?_⟩
  · rw [State.nameRows, State.setF_rst, State.setB_eq, State.setF_rst, State.setF_rst, State.setB_eq, State.setF_rst]
  · rw [State.nameRows, getF_setF_other _ F.RST_FUSE_ROW.FB _ _ hf, State.setB_eq, getF_setF_other _ F.RST_FUSE_ROW.FB_V _ _ hf,
      getF_setF_other _ F.RST_FUSE_ROW.BAD _ _ hf, State.setB_eq, getF_setF_other _ F.RST_FUSE_ROW.BAD_V _ _ hf]

theorem backedEvents_shows (s : State) (fb : List Nat) :
    (s.backedEvents fb).rst = s.rst ∧ ∀ f : Field, f.addr ≠ 1 * 0x1000 + 0x10 → (s.backedEvents fb).getF f = s.getF f := by
  unfold State.backedEvents
  induction fb generalizing s with
  | nil => exact ⟨rfl, fun _ _ => rfl⟩
  | cons n fb ih =>
    obtain ⟨hrst, hregs⟩ := ih (s.raiseEvt 1 0)
    exact ⟨hrst.trans (State.raiseEvt_rst _ _ _), fun f hf => (hregs f hf).trans (State.raiseEvt_getF s 1 0 f hf)⟩

/-- The state at the end of a load, before the domains follow. -/
def State.loaded (s : State) : State :=
  ((((s.takeShadow.showLoad s.badFuses s.backedFuses s.singleFuses).nameRows s.badFuses s.backedFuses).backedEvents s.backedFuses).applyFuses 0
    ).setF F.RST_BOOT.STEP 2

theorem loaded_shows (s : State) : s.loaded.rst = s.takeShadow.rst ∧ (s.loaded.getF F.RST_FUSE.STATE = 4 ↔ s.badFuses ≠ []) ∧
    s.loaded.getF F.RST_BOOT.STEP = 2 ∧ s.loaded.dev = s.dev := by
  obtain ⟨hrst, hstate, hregs⟩ := showLoad_shows s.takeShadow s.badFuses s.backedFuses s.singleFuses
  obtain ⟨hrst', hregs'⟩ := nameRows_shows (s.takeShadow.showLoad s.badFuses s.backedFuses s.singleFuses) s.badFuses s.backedFuses
  obtain ⟨hrst'', hregs''⟩ := backedEvents_shows ((s.takeShadow.showLoad s.badFuses s.backedFuses s.singleFuses).nameRows s.badFuses
    s.backedFuses) s.backedFuses
  have hbefore (f : Field) (hboot : f.addr ≠ F.RST_BOOT.STEP.addr) (hfuses : f.addr ∉ [F.SYS_PART.GRADE.addr, F.SYS_SERIAL_LO.SERIAL.addr,
      F.SYS_SERIAL_HI.SERIAL.addr, F.RST_MAP.LEVELS.addr, F.RST_PINMAP.FIELDS.addr]) (hevt : f.addr ≠ 1 * 0x1000 + 0x10)
      (hrow : f.addr ≠ F.RST_FUSE_ROW.FB.addr) :
      s.loaded.getF f = (s.takeShadow.showLoad s.badFuses s.backedFuses s.singleFuses).getF f := by
    rw [State.loaded, getF_setF_other _ F.RST_BOOT.STEP _ _ hboot, applyFuses_zero_getF _ hfuses, hregs'' f hevt, hregs' f hrow]
  refine ⟨?_, ?_, getF_setF_of_lt _ F.RST_BOOT.STEP (by decide) (by decide), ?_⟩
  · rw [State.loaded, State.setF_rst]
    exact (applyFuses_part (π := .resets) _ 0).trans (hrst''.trans (hrst'.trans hrst))
  · rw [hbefore _ (by decide) (by decide) (by decide) (by decide)]
    exact hstate
  · exact congrArg DevState.ofCode ((hbefore _ (by decide) (by decide) (by decide) (by decide)).trans (hregs _ (by decide)))

theorem doFuseLoadComplete_loads {s : State} (t : Nat) (hl : s.rst.loading = true) (ha : s.rst.active = none) :
    doFuseLoadComplete t s = (s.at t).loaded.updateDomains := by
  unfold doFuseLoadComplete
  refine (if_neg ?_).trans ?_
  · rw [State.at_rst, hl, ha]
    decide
  · rfl

/-- Settles O51: the start is the wipe, then the load (`startBoot`), held where `NRST` is low; a load that completes shows its rows
(`showLoad`) and nothing after it touches them. -/
theorem startAndFuseLoad : Obligations.StartAndFuseLoad := by
  unfold Obligations.StartAndFuseLoad
  refine ⟨fun s t a hoff habove hlong => ?_, fun s t hl ha => ?_⟩
  · obtain ⟨hdev, hcause, hload, hheld, hcount, hreleased, hzero, htwo⟩ := settle_begun (doInputStartThreshold_starts t hoff habove hlong)
    have hstart : (s.at t).startCause = s.startCause := by rw [State.startCause, State.at_tp, State.startCause]
    rw [State.at_rst] at hheld htwo
    rw [State.at_tp] at hcount
    exact ⟨_, rfl, hdev, hcause.trans hstart, hload, hheld, hcount, hreleased, hzero, htwo⟩
  · have hp := updateDomains_powers (s.at t).loaded
    obtain ⟨hrst, hstate, hstep, hdev⟩ := loaded_shows (s.at t)
    have hbad : (s.at t).badFuses = s.badFuses := by rw [State.badFuses, State.at_rst, State.badFuses]
    have hend : (doFuseLoadComplete t s).settle.rst = (s.at t).takeShadow.rst := by
      rw [State.settle_rst, doFuseLoadComplete_loads t hl ha, hp.rst, hrst]
    have hreg (f : Field) (hf : f.addr / 0x1000 ≠ 26) (hmain : mainWord f.addr) (hnot : ¬ powerWord f.addr) :
        (doFuseLoadComplete t s).settle.getF f = (s.at t).loaded.getF f := by
      rw [State.settle_getF _ _ hf, doFuseLoadComplete_loads t hl ha, hp.getF hmain hnot]
    refine ⟨_, rfl, by rw [hend]; rfl, by rw [hend]; exact hbad, ?_, ?_, ?_⟩
    · rw [hend, hreg _ (by decide) (by decide) (by decide)]
      exact hstate
    · rw [hreg _ (by decide) (by decide) (by decide), hstep]
    · rw [State.settle_dev, doFuseLoadComplete_loads t hl ha, hp.dev, hdev, State.at_dev]

end Sys2Proof.Machine
end

section
/-! PROOFS. Words that the end of frames and the entry to `SAFE` do not write: those of THM to CPU, and of selected sensors. -/

namespace Sys2Proof.Machine

/-- A word of the pages THM to CPU beyond their headers; of the selected ones the first of a group of sixteen words. -/
abbrev innerWord (a : Nat) : Prop :=
  (3 ≤ a % 0x1000000 / 0x1000 ∧ a % 0x1000000 / 0x1000 ≤ 7) ∧ 0x100 ≤ a % 0x1000 ∧ (a < 0x100000 ∨ a % 64 = 4)

/-- A page that holds none of them. -/
abbrev outerWord (a : Nat) : Prop := a < 0x1000000 ∧ (a / 0x1000 < 3 ∨ 7 < a / 0x1000)

section
variable {f : Field} (hf : innerWord f.addr)
include hf

theorem setF_outer (s : State) (g : Field) (v : Nat) (hg : outerWord g.addr) : (s.setF g v).getF f = s.getF f :=
  getF_setF_other s g f v (by simp only [innerWord, outerWord] at hf hg; omega)

theorem setF_inst_outer (s : State) (g : Field) (i v : Nat) (hg : outerWord g.addr) : (s.setF (g.inst i) v).getF f = s.getF f :=
  getF_setF_other s _ f v (by simp only [innerWord, outerWord, Field.inst] at hf hg ⊢; omega)

theorem setF_idx_outer (s : State) (g : Field) (k v : Nat) (hg : 0x8000 ≤ g.addr ∧ g.addr < 0x80000) (hk : k < 0x1000) :
    (s.setF (g.idx k) v).getF f = s.getF f :=
  getF_setF_other s _ f v (by simp only [innerWord, Field.idx] at hf hg ⊢; omega)

theorem setF_chan_outer (s : State) (c off lsb width v : Nat) (hoff : 8 ≤ off ∧ off < 64) :
    (s.setF (chanF c off lsb width) v).getF f = s.getF f :=
  getF_setF_other s _ f v (by simp only [innerWord, chanF] at hf ⊢; omega)

theorem raiseEvt_inner (s : State) (p bit : Nat) : (s.raiseEvt p bit).getF f = s.getF f :=
  State.raiseEvt_getF s p bit f (by simp only [innerWord] at hf; omega)

theorem recErr_inner (s : State) (p code addr : Nat) : (s.recErr p code addr).getF f = s.getF f :=
  State.recErr_getF s p code addr f (by simp only [innerWord] at hf; omega)

theorem safetyEvt_inner (s : State) (bit : Nat) : (s.safetyEvt bit).getF f = s.getF f :=
  (raiseEvt_inner hf _ 17 bit).trans (raiseEvt_inner hf s 16 bit)

/-! ## The counters of a frame -/

theorem publishBank_inner (s : State) (b : Nat) : (s.publishBank b).getF f = s.getF f := by
  simp (disch := decide) only [State.publishBank, State.setSat_eq, setF_inst_outer hf]

theorem publishGroup_inner (s : State) (g : Nat) : (s.publishGroup g).getF f = s.getF f := by
  simp (disch := decide) only [State.publishGroup, State.setSat_eq, setF_inst_outer hf]

theorem publishEngine_inner (s : State) (e : Nat) : (s.publishEngine e).getF f = s.getF f := by
  simp (disch := decide) only [State.publishEngine, State.setSat_eq, setF_inst_outer hf]

theorem publishChan_inner (s : State) (c : Nat) : (s.publishChan c).getF f = s.getF f := by
  simp (disch := decide) only [State.publishChan, State.setSat_eq, setF_chan_outer hf]

theorem publishCounts_inner (s : State) : s.publishCounts.getF f = s.getF f := by
  have hdrop (u : State) : u.dropCounts.getF f = u.getF f := rfl
  unfold State.publishCounts
  dsimp only
  rw [hdrop, foldl_getF (publishEngine_inner hf), foldl_getF (publishGroup_inner hf), foldl_getF (publishChan_inner hf),
    foldl_getF (publishBank_inner hf)]

theorem publishFrame_inner (s : State) (n : Nat) : (s.publishFrame n).getF f = s.getF f := by
  unfold State.publishFrame
  split
  · rfl
  · simp (disch := decide) only [State.setSat_eq, setF_outer hf]

omit hf in
/-- A loop over the first `n` numbers. -/
theorem foldl_range_getF (n : Nat) {g : State → Nat → State} (hg : ∀ u k, k < n → (g u k).getF f = u.getF f) (s : State) :
    ((List.range n).foldl g s).getF f = s.getF f := by
  have key : ∀ (l : List Nat) (s : State), (∀ k ∈ l, k < n) → (l.foldl g s).getF f = s.getF f := by
    intro l
    induction l with
    | nil => exact fun s _ => rfl
    | cons k l ih =>
      exact fun s h => (ih _ fun j hj => h j (List.mem_cons_of_mem _ hj)).trans (hg s k (h k List.mem_cons_self))
  exact key _ s fun k => List.mem_range.1

theorem publishPlan_inner (s : State) (x : FrameInfo) : (s.publishPlan x).getF f = s.getF f := by
  have hidx (n : Nat) (hn : n ≤ 8) (g h : Field) (a b : Nat → Nat) (hg : 0x8000 ≤ g.addr ∧ g.addr < 0x80000)
      (hh : 0x8000 ≤ h.addr ∧ h.addr < 0x80000)
      (u : State) : ((List.range n).foldl (fun s c => (s.setSat (g.idx c) (a c)).setSat (h.idx c) (b c)) u).getF f = u.getF f :=
    foldl_range_getF n (fun u k hk => (setF_idx_outer hf _ h k _ hh (by omega)).trans (setF_idx_outer hf u g k _ hg (by omega))) u
  have hbanks (a b : Nat → Nat) (u : State) : ((List.range 8).foldl (fun s c => (s.setSat (F.SHT_BANK_STAT.DELAYED.inst c) (a c)).setSat
      (F.SHT_BANK_STAT.SUPPR.inst c) (b c)) u).getF f = u.getF f :=
    foldl_getF (fun u k => (setF_inst_outer hf _ F.SHT_BANK_STAT.SUPPR k _ (by decide)).trans
      (setF_inst_outer hf u F.SHT_BANK_STAT.DELAYED k _ (by decide))) _ u
  unfold State.publishPlan
  extract_lets u v w x' y z
  have hz : z.getF f = s.getF f :=
    calc z.getF f = y.getF f := hbanks _ _ y
      _ = v.getF f := by simp (disch := decide) only [y, x', w, State.setSat_eq, State.setB_eq, setF_outer hf]
      _ = u.getF f := hidx 4 (by decide) F.SCH_REASON.EVEN F.SCH_REASON.ODD _ _ (by decide) (by decide) u
      _ = s.getF f := hidx 5 (by decide) F.SCH_PLAN_P.COUNT F.SCH_START_P.COUNT _ _ (by decide) (by decide) s
  clear_value z
  split
  · exact hz
  · exact (recErr_inner hf _ _ _ _).trans hz

omit hf in
theorem sch_getF (s : State) (x : SchedState) : ({ s with sch := x } : State).getF f = s.getF f := rfl

theorem closeFrame_inner (s : State) (cut : Bool) : (s.closeFrame cut).getF f = s.getF f := by
  have hskip (l : List Ready) (u : State) : (l.foldl (fun s r => s.except r 8 0 true) u).getF f = u.getF f :=
    foldl_getF (fun u r => getF_of_regs (t := u.except r 8 0 true) rfl f) l u
  have hcut : (if cut then (s.sch.ready.foldl (fun s r => s.except r 8 0 true) s).discardOpen else s).getF f = s.getF f := by
    split
    · exact hskip _ _
    · rfl
  unfold State.closeFrame
  extract_lets u
  split
  · rw [publishFrame_inner hf, publishPlan_inner hf]
    have hdark (v : Nat) : (u.publishCounts.setSat F.RXC_DARK.NS v).getF f = u.getF f :=
      (setF_outer hf _ F.RXC_DARK.NS _ (by decide)).trans (publishCounts_inner hf u)
    rw [sch_getF, hdark]
    exact hcut
  · exact hcut

/-! ## The end of emission and the entry to `SAFE` -/

theorem outputsOff_inner (s : State) (field : Bool) : (s.outputsOff field).getF f = s.getF f := by
  unfold State.outputsOff
  split
  · extract_lets _ u v
    have hv : v.getF f = s.getF f := by
      rw [show v = ((u.bump F.SFA_CNT.OFFS 1).safetyEvt 0).recPulse 10 u.taiNs from rfl, State.recPulse_getF, safetyEvt_inner hf, State.bump_eq,
        setF_outer hf _ F.SFA_CNT.OFFS _ (by decide)]
      rfl
    clear_value v
    split
    · exact (setF_outer hf _ F.SFA_OSSD.IL_WAIT _ (by decide)).trans hv
    · exact hv
  · rfl

theorem stopSteering_inner (s : State) : s.stopSteering.getF f = s.getF f := by
  have hclose : s.closeSteering.getF f = s.getF f := by
    unfold State.closeSteering
    split
    · rfl
    · exact State.commitRecord_getF _ _ _ _ _
  unfold State.stopSteering
  simp (disch := decide) only [setF_outer hf]
  exact hclose

omit hf in
theorem zeroLoads_getF (s : State) : s.zeroLoads.getF f = s.getF f := by
  refine foldl_getF (fun u c => ?_) _ s
  split <;> rfl

theorem abortFrames_inner (s : State) : s.abortFrames.getF f = s.getF f := by
  have hmark : (s.closeFrame true).markDark.getF f = s.getF f := closeFrame_inner hf s true
  unfold State.abortFrames
  rw [stopSteering_inner hf, outputsOff_inner hf, zeroLoads_getF]
  exact hmark

omit hf in
theorem noteCauses_getF (s : State) (cs : List Nat) : (s.noteCauses cs).getF f = s.getF f :=
  getF_congr ((noteCauses_reports s cs).kept _ trivial)

theorem enterSafe_inner (s : State) (c : Nat) (o : List Nat) : (s.enterSafe c o).getF f = s.getF f := by
  have hstate : f.addr ≠ 0x110 := by
    simp only [innerWord] at hf
    omega
  unfold State.enterSafe
  split
  · rfl
  · rfl
  · exact noteCauses_getF s _
  · rw [sys_getF]
    exact noteCauses_getF s _
  · split
    · exact noteCauses_getF s _
    · rw [State.recPulse_getF, State.enterState_getF _ _ _ _ _ hstate]
      rw [sys_getF]
      exact abortFrames_inner hf s

end

end Sys2Proof.Machine
end

section
/-! PROOFS. Power domains start and stop (O46). -/

namespace Sys2Proof.Machine

/-! ## The state of a domain (R365) -/

theorem domState_congr {s u : State} {d : Nat} (hreg : u.getF (F.PWM_DOM_STAT.STATE.inst d) = s.getF (F.PWM_DOM_STAT.STATE.inst d))
    (hturn : u.pwr.startAt = s.pwr.startAt) (hnow : u.now = s.now) : u.domState d = s.domState d := by
  unfold State.domState State.awaitsTurn
  rw [hreg, hturn, hnow]

theorem domReg_settle (s : State) (d : Nat) :
    s.settle.getF (F.PWM_DOM_STAT.STATE.inst d) = s.getF (F.PWM_DOM_STAT.STATE.inst d) :=
  State.settle_getF _ _ (by simp only [Field.inst]; omega)

theorem domState_settle (s : State) (d : Nat) : s.settle.domState d = s.domState d :=
  domState_congr (domReg_settle s d) (by rw [State.settle_pwr]) (State.settle_now s)

/-- A domain that is not `STARTING` shows its state whatever the instant. -/
theorem domState_of_ne {s : State} {d n : Nat} (h : s.getF (F.PWM_DOM_STAT.STATE.inst d) = n) (hn : n ≠ 1) : s.domState d = n := by
  unfold State.domState State.awaitsTurn
  rw [h]
  simp [hn]

/-- A domain that shows a state other than `OFF` shows it on the register. -/
theorem domReg_of_domState {s : State} {d n : Nat} (h : s.domState d = n) (hn : n ≠ 0) : s.getF (F.PWM_DOM_STAT.STATE.inst d) = n := by
  unfold State.domState at h
  split at h
  · exact absurd h.symm hn
  · exact h

/-- Time takes no domain out of `STARTING`. -/
theorem domState_at_starting {s : State} {d : Nat} (t : Nat) (h : s.domState d = 1) : (s.at t).domState d = 1 := by
  have hreg := domReg_of_domState h (by decide)
  have hturn : s.awaitsTurn d = false := by
    unfold State.domState at h
    split at h
    · exact absurd h (by decide)
    · next hn => exact Bool.eq_false_iff.2 hn
  have hat : (s.at t).awaitsTurn d = false := by
    unfold State.awaitsTurn at hturn ⊢
    rw [State.at_getF, State.at_pwr, State.at_now, hreg]
    rw [hreg] at hturn
    simp only [decide_true, Bool.true_and, decide_eq_false_iff_not, Nat.not_lt] at hturn ⊢
    exact Nat.le_trans hturn (Nat.le_max_left _ _)
  unfold State.domState
  rw [hat, State.at_getF, hreg]
  rfl

theorem domState_at_ne {s : State} {d n : Nat} (t : Nat) (h : s.domState d = n) (h0 : n ≠ 0) (h1 : n ≠ 1) : (s.at t).domState d = n :=
  domState_of_ne ((State.at_getF s t _).trans (domReg_of_domState h h0)) h1

/-! ## One domain's start leaves the others -/

theorem setDom_self (s : State) (d : Nat) {n : Nat} (hn : n < 8) : (s.setDom d n).getF (F.PWM_DOM_STAT.STATE.inst d) = n :=
  getF_setF_of_lt s (F.PWM_DOM_STAT.STATE.inst d) (by decide : 0 + 3 ≤ 32) hn

theorem startDomain_shows (s : State) (d : Nat) :
    (s.startDomain d).getF (F.PWM_DOM_STAT.STATE.inst d) = 1 ∧
      (s.startDomain d).getF (F.PWM_DOM_STAT.CYCLES.inst d) =
        min (s.getF (F.PWM_DOM_STAT.CYCLES.inst d) + 1) (2 ^ (F.PWM_DOM_STAT.CYCLES.inst d).width - 1) ∧
      (s.startDomain d).pwr = { s.pwr with startAt := tabSet d (s.turnAt d) s.pwr.startAt } := by
  unfold State.startDomain
  refine ⟨?_, ?_, ?_⟩
  · rw [State.bump_eq, getF_setF_beside _ (F.PWM_DOM_STAT.CYCLES.inst d) (F.PWM_DOM_STAT.STATE.inst d) _ (by decide : 16 + 16 ≤ 32)
      (.inr (.inl (by decide : 0 + 3 ≤ 16)))]
    exact setDom_self _ d (by decide)
  · have hbefore : ((s.mapPwr fun x => { x with startAt := tabSet d (s.turnAt d) x.startAt }).setDom d 1).getF (F.PWM_DOM_STAT.CYCLES.inst d) =
        s.getF (F.PWM_DOM_STAT.CYCLES.inst d) :=
      getF_setF_beside _ (F.PWM_DOM_STAT.STATE.inst d) (F.PWM_DOM_STAT.CYCLES.inst d) _ (by decide : 0 + 3 ≤ 32)
        (.inr (.inr (by decide : 0 + 3 ≤ 16)))
    rw [State.bump_eq, getF_setF_min _ (F.PWM_DOM_STAT.CYCLES.inst d) _ (by decide : 16 + 16 ≤ 32), hbefore]
  · rw [State.bump_eq, State.setF_pwr, State.setDom, State.setF_pwr, State.mapPwr]

/-- The registers of another domain. -/
theorem startDomain_other (s : State) {d e : Nat} (h : d ≠ e) :
    (s.startDomain e).getF (F.PWM_DOM_STAT.STATE.inst d) = s.getF (F.PWM_DOM_STAT.STATE.inst d) := by
  have hne (g : Field) (hg : g.addr = 0x2128) : (F.PWM_DOM_STAT.STATE.inst d).addr ≠ (g.inst e).addr := by
    simp only [Field.inst, hg]
    omega
  rw [State.startDomain, State.bump_eq, getF_setF_other _ (F.PWM_DOM_STAT.CYCLES.inst e) _ _ (hne F.PWM_DOM_STAT.CYCLES rfl), State.setDom,
    getF_setF_other _ (F.PWM_DOM_STAT.STATE.inst e) _ _ (hne F.PWM_DOM_STAT.STATE rfl)]
  rfl

/-- A domain that is `ON` is not started again, and no start moves the instants at which domains went `ON`. -/
theorem sequence_on (s : State) (d : Nat) (h : s.getF (F.PWM_DOM_STAT.STATE.inst d) = 2) :
    s.sequence.getF (F.PWM_DOM_STAT.STATE.inst d) = 2 ∧ s.sequence.pwr.onAt = s.pwr.onAt := by
  unfold State.sequence
  split
  · exact ⟨h, rfl⟩
  · refine List.foldlRecOn (motive := fun u : State => u.getF (F.PWM_DOM_STAT.STATE.inst d) = 2 ∧ u.pwr.onAt = s.pwr.onAt) (List.range 36) _
      ⟨h, rfl⟩ fun u hu e _ => ?_
    obtain ⟨hon, hat⟩ := hu
    split
    · next hstart =>
      have hne : d ≠ e := by
        rintro rfl
        have hrest : u.atRest d = false := by
          unfold State.atRest
          rw [(domState_eq_two u d).2 hon]
          rfl
        simp [hrest] at hstart
      exact ⟨(startDomain_other u hne).trans hon, (congrArg PowerState.onAt (startDomain_shows u e).2.2).trans hat⟩
    · exact ⟨hon, hat⟩

/-! ## What time leaves of a start that is due -/

theorem atRest_iff (s : State) (d : Nat) : s.atRest d = true ↔ s.getF (F.PWM_DOM_STAT.STATE.inst d) = 0 := by
  refine ⟨fun h => ?_, fun h => ?_⟩
  · obtain ⟨hoff, hturn⟩ := Bool.and_eq_true_iff.1 h
    have hturn : s.awaitsTurn d = false := by simpa using hturn
    have hoff : s.domState d = 0 := of_decide_eq_true hoff
    unfold State.domState at hoff
    rwa [hturn, if_neg (by decide)] at hoff
  · have hturn : s.awaitsTurn d = false := by
      unfold State.awaitsTurn
      rw [h]
      rfl
    rw [State.atRest, domState_of_ne h (by decide), hturn]
    rfl

theorem atRest_at {s : State} {d : Nat} (t : Nat) (h : s.atRest d = true) : (s.at t).atRest d = true :=
  (atRest_iff _ d).2 ((State.at_getF s t _).trans ((atRest_iff s d).1 h))

theorem turnOf_at {s : State} {d : Nat} (t : Nat) (h : s.turnOf d = true) : (s.at t).turnOf d = true := by
  unfold State.turnOf at h ⊢
  rw [State.at_dev]
  refine Bool.or_eq_true_iff.2 ((Bool.or_eq_true_iff.1 h).imp id fun hall => List.all_eq_true.2 fun e he => ?_)
  have hold := List.all_eq_true.1 hall e he
  rw [wanted_at]
  refine Bool.or_eq_true_iff.2 ((Bool.or_eq_true_iff.1 hold).imp id fun hon => decide_eq_true ?_)
  exact domState_at_ne t (of_decide_eq_true hon) (by decide) (by decide)

/-! ## The commands -/

theorem doDomainStarted_on {s : State} (dom : Fin 36) (t : Nat) (h : s.domState dom.val = 1) :
    (doDomainStarted dom t s).getF (F.PWM_DOM_STAT.STATE.inst dom.val) = 2 ∧
      tabFind dom.val (doDomainStarted dom t s).pwr.onAt = some (max s.now t) := by
  have hdo : doDomainStarted dom t s = (((s.at t).setDom dom.val 2).mapPwr (fun x => { x with
      onAt := tabSet dom.val ((s.at t).setDom dom.val 2).now x.onAt, startAt := tabDel dom.val x.startAt })).sequence := by
    unfold doDomainStarted
    exact if_pos (domState_at_starting t h)
  obtain ⟨hreg, hat⟩ := sequence_on (((s.at t).setDom dom.val 2).mapPwr (fun x => { x with
      onAt := tabSet dom.val ((s.at t).setDom dom.val 2).now x.onAt, startAt := tabDel dom.val x.startAt })) dom.val
    (setDom_self (s.at t) dom.val (by decide))
  rw [hdo]
  exact ⟨hreg, (congrArg (tabFind dom.val) hat).trans ((tabFind_tabSet_self _ _ _).trans (congrArg some (State.at_now s t)))⟩

theorem doDomainStopped_off {s : State} (dom : Fin 36) (t : Nat) (h : s.domState dom.val = 3 ∨ s.domState dom.val = 4) :
    (doDomainStopped dom t s).getF (F.PWM_DOM_STAT.STATE.inst dom.val) = 0 ∧
      tabFind dom.val (doDomainStopped dom t s).pwr.offAt = some (max s.now t) ∧ (doDomainStopped dom t s).pwr.released = s.pwr.released := by
  have hat : (decide ((s.at t).domState dom.val = 3) || decide ((s.at t).domState dom.val = 4)) = true := by
    rcases h with h | h
    · rw [domState_at_ne t h (by decide) (by decide)]
      rfl
    · rw [domState_at_ne t h (by decide) (by decide)]
      rfl
  have hdo : doDomainStopped dom t s = ((s.at t).setDom dom.val 0).mapPwr (fun x => { x with
      offAt := tabSet dom.val ((s.at t).setDom dom.val 0).now x.offAt, onAt := tabDel dom.val x.onAt }) := by
    unfold doDomainStopped
    exact if_pos hat
  rw [hdo]
  exact ⟨setDom_self (s.at t) dom.val (by decide), (tabFind_tabSet_self _ _ _).trans (congrArg some (State.at_now s t)),
    (congrArg PowerState.released (State.at_pwr s t) : (s.at t).pwr.released = s.pwr.released)⟩

theorem doDomainOffTimeExpiry_starts {s : State} {dom : Fin 36} {t o : Nat} (hload : s.rst.loading = false) (hrest : s.atRest dom.val = true)
    (hwanted : s.wanted dom.val = true) (hturn : s.turnOf dom.val = true) (hoff : tabFind dom.val s.pwr.offAt = some o)
    (hlong : o + offTime dom.val ≤ max s.now t) : doDomainOffTimeExpiry dom t s = (s.at t).startDomain dom.val := by
  have henough : (s.at t).offLongEnough dom.val = true := by
    unfold State.offLongEnough
    rw [State.at_pwr, hoff, State.at_now]
    exact decide_eq_true hlong
  unfold doDomainOffTimeExpiry
  refine if_pos ?_
  rw [State.at_rst, hload, atRest_at t hrest, wanted_at, hwanted, State.at_pwr, hoff, henough, turnOf_at t hturn]
  rfl

end Sys2Proof.Machine
end

section
/-! PROOFS. Barista's cap and the phases (O46). -/

namespace Sys2Proof.Machine

/-! ## The cap (R364) -/

theorem powerCeil_congr {s u : State} (h : ∀ f, u.getF f = s.getF f) : u.powerCeil = s.powerCeil := by
  unfold State.powerCeil State.inputMode State.phasesOut
  simp only [h]

/-- The power that an update takes for fixed. -/
def State.fixedSample (s : State) (pin : Nat) : Int :=
  ((pin * 1000 : Nat) : Int) - ((s.getF F.PWM_MODEL.EMEAS * s.startsLately * 10 : Nat) : Int)

/-- The samples of the last 10 ms with the update's own. -/
def State.fixedNow (s : State) (pin : Nat) : List Int := (s.fixedSample pin :: s.pwr.fixed).take 100

/-- The power that a cap may give to measurements. -/
def State.powerRoom (s : State) (pin : Nat) : Rat := max 0 (s.pwr.ft * ((s.powerCeil : Rat) - meanFixed (s.fixedNow pin)))

/-- The cap of an update; open where EMEAS is 0. -/
def State.capOf (s : State) (pin : Nat) : Nat :=
  if s.getF F.PWM_MODEL.EMEAS = 0 then s.freeNat % 3201
  else (clampInt 0 3200 (s.powerRoom pin / ((10 * s.getF F.PWM_MODEL.EMEAS : Nat) : Rat)).floor).toNat

theorem capOf_le (s : State) (pin : Nat) : s.capOf pin ≤ 3200 := by
  unfold State.capOf
  split
  · exact Nat.le_of_lt_succ (Nat.mod_lt _ (by decide))
  · unfold clampInt
    split
    · decide
    · split <;> omega

theorem doPowerCapUpdate_sets {s : State} (pin t : Nat) (hoff : s.dev ≠ .off) (hon : s.on 8 = true) :
    (doPowerCapUpdate pin t s).getF F.SCH_PWR_CAP.CAP = (s.at t).capOf pin ∧
      (doPowerCapUpdate pin t s).pwr.fixed = (s.at t).fixedNow pin ∧
      (doPowerCapUpdate pin t s).free = if s.getF F.PWM_MODEL.EMEAS = 0 then s.free + 1 else s.free := by
  unfold doPowerCapUpdate
  extract_lets +onlyGivenNames u em sample v f room cap tenths w
  have hv : v.powerCeil = u.powerCeil := powerCeil_congr fun _ => rfl
  have hcap : cap = u.capOf pin := by
    have hroom : room = u.powerRoom pin := by rw [State.powerRoom, ← hv]; rfl
    have heq : cap = if u.getF F.PWM_MODEL.EMEAS = 0 then u.freeNat % 3201
      else (clampInt 0 3200 (room / ((10 * u.getF F.PWM_MODEL.EMEAS : Nat) : Rat)).floor).toNat := rfl
    rw [heq, hroom, State.capOf]
  have htick : (if em = 0 then v.tick else v).pwr = v.pwr ∧
      (if em = 0 then v.tick else v).free = if s.getF F.PWM_MODEL.EMEAS = 0 then s.free + 1 else s.free := by
    have hem : em = s.getF F.PWM_MODEL.EMEAS := State.at_getF s t _
    rw [hem]
    split
    · exact ⟨rfl, congrArg (· + 1) (State.at_free s t)⟩
    · exact ⟨rfl, State.at_free s t⟩
  have hw : w.pwr = v.pwr ∧ w.free = if s.getF F.PWM_MODEL.EMEAS = 0 then s.free + 1 else s.free := by
    have hset : w = (((if em = 0 then v.tick else v).setF F.PWM_POWER.PIN (min (pin / 100) (2 ^ F.PWM_POWER.PIN.width - 1))).setF
        F.PWM_BUDGET.PLIM (min (tenths (f + room)) (2 ^ F.PWM_BUDGET.PLIM.width - 1))).setF
        F.PWM_BUDGET.FIX (min (tenths f) (2 ^ F.PWM_BUDGET.FIX.width - 1)) := rfl
    rw [hset, State.setF_pwr, State.setF_pwr, State.setF_pwr, State.setF_free, State.setF_free, State.setF_free]
    exact htick
  have hon' : w.on 8 = true := by
    unfold State.on
    rw [hw.1]
    exact (State.at_on s t 8).trans hon
  clear_value w
  rw [if_neg (by rw [show u.dev = s.dev from State.at_dev s t]; exact hoff), if_pos hon']
  refine ⟨?_, (congrArg PowerState.fixed hw.1 : w.pwr.fixed = v.pwr.fixed), hw.2⟩
  rw [hcap]
  exact getF_setF_of_lt w F.SCH_PWR_CAP.CAP (by decide) (Nat.lt_of_le_of_lt (capOf_le u pin) (by decide))

/-! ## Phases (R368, R369) -/

/-- The word of a rail (selected by instance). -/
abbrev railWord (f : Field) : Prop := f.addr % 0x1000000 = 0x2130 ∧ 0x1000000 ≤ f.addr

section
variable {f : Field} (hf : railWord f)
include hf

theorem setF_getF_rail (s : State) (g : Field) (v : Nat) (hg : g.addr % 0x1000000 ≠ 0x2130) : (s.setF g v).getF f = s.getF f :=
  getF_setF_other s g f v fun h => hg (h ▸ hf.1)

theorem raiseEvt_getF_rail (s : State) (p bit : Nat) : (s.raiseEvt p bit).getF f = s.getF f :=
  State.raiseEvt_getF s p bit f (by obtain ⟨hword, -⟩ := hf; omega)

theorem poolTrigger_getF_rail (s : State) (cause : Nat) : (s.poolTrigger 2 cause).getF f = s.getF f := by
  refine (standTrigger_getF _ 2 cause (by obtain ⟨hword, -⟩ := hf; omega)).trans ?_
  simp only [poolKind]
  split
  · split
    · rfl
    · exact (raiseEvt_getF_rail hf _ 6 2).trans (setF_getF_rail hf s F.CAL_EXHAUST.KINDS _ (by decide))
  · exact setF_getF_rail hf s (F.CAL_POOL_STAT.FAILED.inst 7) _ (by decide)

theorem spareTaken_getF_rail (s : State) : (s.spareTaken 2).getF f = s.getF f :=
  (raiseEvt_getF_rail hf _ 6 0).trans (raiseEvt_getF_rail hf s 2 29)

end

theorem rail_active (r : Nat) : railWord (F.PWM_RAIL.ACTIVE.inst r) := by
  simp only [railWord, Field.inst]
  omega

theorem rail_spareIn (r : Nat) : railWord (F.PWM_RAIL.SPARE_IN.inst r) := by
  simp only [railWord, Field.inst]
  omega

theorem inst_lsb (g : Field) (i : Nat) : (g.inst i).lsb = g.lsb := by rw [Field.inst]

theorem inst_width (g : Field) (i : Nat) : (g.inst i).width = g.width := by rw [Field.inst]

/-- Two fields of one selected word. -/
theorem getF_setF_inst_beside (s : State) (g h : Field) (i v : Nat) (hg : g.lsb + g.width ≤ 32)
    (hd : h.lsb + h.width ≤ g.lsb ∨ g.lsb + g.width ≤ h.lsb) : (s.setF (g.inst i) v).getF (h.inst i) = s.getF (h.inst i) := by
  refine getF_setF_beside s (g.inst i) (h.inst i) v ?_ (.inr ?_)
  · rwa [inst_lsb, inst_width]
  · rwa [inst_lsb, inst_width, inst_lsb, inst_width]

/-- A phase of the rail is gone. -/
def State.losePhase (s : State) (r : Nat) : State :=
  (((s.setF (F.PWM_RAIL.ACTIVE.inst r) (s.getF (F.PWM_RAIL.ACTIVE.inst r) - 1)).bump (F.PWM_RAIL.FAILED.inst r) 1)).recordDue

theorem losePhase_shows (s : State) (r : Nat) :
    (s.losePhase r).getF (F.PWM_RAIL.ACTIVE.inst r) = s.getF (F.PWM_RAIL.ACTIVE.inst r) - 1 ∧
      (s.losePhase r).getF (F.PWM_RAIL.FAILED.inst r) =
        min (s.getF (F.PWM_RAIL.FAILED.inst r) + 1) (2 ^ (F.PWM_RAIL.FAILED.inst r).width - 1) ∧
      (s.losePhase r).getF (F.PWM_RAIL.SPARE_IN.inst r) = s.getF (F.PWM_RAIL.SPARE_IN.inst r) ∧ (s.losePhase r).pwr = s.pwr ∧
      (s.losePhase r).dev = s.dev := by
  unfold State.losePhase
  refine ⟨?_, ?_, ?_, ?_, ?_⟩
  · rw [recordDue_getF, State.bump_eq, getF_setF_inst_beside _ F.PWM_RAIL.FAILED F.PWM_RAIL.ACTIVE _ _ (by decide) (by decide)]
    exact getF_setF_of_lt s (F.PWM_RAIL.ACTIVE.inst r) (by decide : 0 + 4 ≤ 32)
      (Nat.lt_of_le_of_lt (Nat.sub_le _ _) (getF_lt s (F.PWM_RAIL.ACTIVE.inst r)))
  · rw [recordDue_getF, State.bump_eq, getF_setF_min _ (F.PWM_RAIL.FAILED.inst r) _ (by decide : 4 + 4 ≤ 32),
      getF_setF_inst_beside _ F.PWM_RAIL.ACTIVE F.PWM_RAIL.FAILED _ _ (by decide) (by decide)]
  · rw [recordDue_getF, State.bump_eq, getF_setF_inst_beside _ F.PWM_RAIL.FAILED F.PWM_RAIL.SPARE_IN _ _ (by decide) (by decide),
      getF_setF_inst_beside _ F.PWM_RAIL.ACTIVE F.PWM_RAIL.SPARE_IN _ _ (by decide) (by decide)]
  · exact (recordDue_part (π := .power) (by decide) _).trans ((bump_part ..).trans (setF_part ..))
  · refine congrArg DevState.ofCode ?_
    rw [recordDue_getF, State.bump_eq, getF_setF_inst _ _ _ _ _ (by decide), getF_setF_inst _ _ _ _ _ (by decide)]

theorem doPhaseFailure_asks {s : State} {rail : Fin 8} (t : Nat) (hoff : s.dev ≠ .off) (hrail : rail.val < 5)
    (hactive : s.getF (F.PWM_RAIL.ACTIVE.inst rail.val) ≠ 0) (hspare : s.getF (F.PWM_RAIL.SPARE_IN.inst rail.val) = 0)
    (hreq : s.pwr.spareReq.any (fun x => x.1 = rail.val) = false) :
    doPhaseFailure rail t s = ((s.at t).losePhase rail.val).mapPwr (fun x => { x with
      spareReq := x.spareReq.filter (fun y => y.1 ≠ rail.val) ++ [(rail.val, false)] }) := by
  obtain ⟨-, -, hin, hpwr, -⟩ := losePhase_shows (s.at t) rail.val
  have hwait : ((s.at t).losePhase rail.val).pwr.spareReq.find? (fun x => x.1 = rail.val) = none := by
    rw [hpwr, State.at_pwr]
    exact List.find?_eq_none.2 fun x hx => by simpa using List.any_eq_false.1 hreq x hx
  have hflag : ((s.at t).losePhase rail.val).flag (F.PWM_RAIL.SPARE_IN.inst rail.val) = false := by
    rw [State.flag, hin, State.at_getF, hspare]
    rfl
  have hgo : ¬ (decide ((s.at t).dev = .off) || decide ((s.at t).getF (F.PWM_RAIL.ACTIVE.inst rail.val) = 0)) = true := by
    rw [State.at_dev, State.at_getF]
    simp [hoff, hactive]
  unfold doPhaseFailure
  rw [if_neg hgo]
  extract_lets u waits
  have hask : (!u.flag (F.PWM_RAIL.SPARE_IN.inst rail.val) && decide (waits ≠ some (rail.val, false))) = true := by
    rw [show waits = none from hwait, show u.flag (F.PWM_RAIL.SPARE_IN.inst rail.val) = false from hflag]
    rfl
  rw [if_neg (by omega), if_neg (by omega), if_neg (by omega), if_pos hask]
  rfl

theorem doPhaseFailure_aon {s : State} (t : Nat) (hoff : s.dev ≠ .off) (hactive : s.getF (F.PWM_RAIL.ACTIVE.inst 6) ≠ 0) :
    doPhaseFailure 6 t s =
      ((((s.at t).losePhase 6).abortFrames).enterState .off 0x05 ((s.at t).losePhase 6).boundaryCauses).unpowered := by
  unfold doPhaseFailure
  refine (if_neg ?_).trans ((if_neg (by decide)).trans (if_pos rfl))
  rw [State.at_dev]
  have hat : (s.at t).getF (F.PWM_RAIL.ACTIVE.inst 6) = s.getF (F.PWM_RAIL.ACTIVE.inst 6) := State.at_getF s t _
  exact fun h => (Bool.or_eq_true_iff.1 h).elim (fun h => hoff (of_decide_eq_true h)) fun h => hactive (hat.symm.trans (of_decide_eq_true h))

/-- The spare phase of a rail carries load in place of a failed one. -/
def State.carrySpare (s : State) (r : Nat) : State :=
  ((s.mapPwr (fun x => { x with spareReq := x.spareReq.filter (fun y => y.1 ≠ r) })).bump (F.PWM_RAIL.ACTIVE.inst r) 1).setF
    (F.PWM_RAIL.SPARE_IN.inst r) 1

/-- `BLK_SPARE` of PWM shows the spare phase. -/
def State.showSparePhase (s : State) (r : Nat) : State :=
  let s := (s.setBit (H.SPARE_MAP 2) r true).bump (H.SPARE_USED 2) 1
  ((s.setF (H.SPARE_LEFT 2) (s.getF (H.SPARE_LEFT 2) - 1)).spareTaken 2).raiseEvt 2 6 |>.poolTrigger 2 0x40

theorem carrySpare_shows (s : State) (r : Nat) :
    (s.carrySpare r).getF (F.PWM_RAIL.SPARE_IN.inst r) = 1 ∧ (s.carrySpare r).getF (F.PWM_RAIL.ACTIVE.inst r) =
        min (s.getF (F.PWM_RAIL.ACTIVE.inst r) + 1) (2 ^ (F.PWM_RAIL.ACTIVE.inst r).width - 1) ∧
      (s.carrySpare r).pwr.spareReq = s.pwr.spareReq.filter (fun x => x.1 ≠ r) := by
  unfold State.carrySpare
  refine ⟨getF_setF_of_lt _ (F.PWM_RAIL.SPARE_IN.inst r) (by decide : 8 + 1 ≤ 32) (by decide : 1 < 2 ^ 1), ?_, ?_⟩
  · rw [getF_setF_beside _ (F.PWM_RAIL.SPARE_IN.inst r) (F.PWM_RAIL.ACTIVE.inst r) _ (by decide : 8 + 1 ≤ 32)
      (.inr (.inl (by decide : 0 + 4 ≤ 8))), State.bump_eq, getF_setF_min _ (F.PWM_RAIL.ACTIVE.inst r) _ (by decide : 0 + 4 ≤ 32)]
    rfl
  · rw [State.setF_pwr, State.bump_eq, State.setF_pwr, State.mapPwr]

theorem showSparePhase_getF (s : State) (r : Nat) {f : Field} (hf : railWord f) : (s.showSparePhase r).getF f = s.getF f := by
  unfold State.showSparePhase
  dsimp only
  rw [poolTrigger_getF_rail hf, raiseEvt_getF_rail hf, spareTaken_getF_rail hf, setF_getF_rail hf _ (H.SPARE_LEFT 2) _ (by decide),
    State.bump_eq, setF_getF_rail hf _ (H.SPARE_USED 2) _ (by decide), setBit_eq_setF, setF_getF_rail hf _ (H.SPARE_MAP 2) _ (by decide)]

theorem showSparePhase_pwr (s : State) (r : Nat) : (s.showSparePhase r).pwr = s.pwr := by
  unfold State.showSparePhase
  dsimp only
  exact (poolTrigger_part (π := .power) (by decide) _ 2 0x40).trans ((raiseEvt_part ..).trans ((spareTaken_part (π := .power) (by decide) _ 2).trans
    ((setF_part ..).trans ((bump_part ..).trans (setBit_part ..)))))

theorem doSparePhaseInService_carries {s : State} {rail : Fin 5} (t : Nat)
    (hreq : s.pwr.spareReq.find? (fun x => x.1 = rail.val) = some (rail.val, false)) :
    doSparePhaseInService rail t s = ((s.at t).carrySpare rail.val).showSparePhase rail.val := by
  unfold doSparePhaseInService
  dsimp only
  rw [State.at_pwr, hreq]
  rfl

end Sys2Proof.Machine
end

section
/-! PROOFS. A sample of the thermal sensors, and O46. -/

namespace Sys2Proof.Machine

/-! ## Signed fields -/

/-- A number within the range of a signed field of `k + 1` bits. -/
theorem signed_unsigned {k : Nat} {x : Int} (hlo : -((2 ^ k : Nat) : Int) ≤ x) (hhi : x < ((2 ^ k : Nat) : Int)) :
    signed (k + 1) (unsigned (k + 1) x) = x ∧ unsigned (k + 1) x < 2 ^ (k + 1) := by
  have hpow : 2 ^ (k + 1) = 2 * 2 ^ k := by rw [Nat.pow_succ, Nat.mul_comm]
  unfold signed unsigned
  dsimp only
  rw [hpow]
  generalize 2 ^ k = p at *
  rcases Int.lt_or_le x 0 with hneg | hpos
  · have hmod : x % ((2 * p : Nat) : Int) = x + ((2 * p : Nat) : Int) := by
      rw [← Int.add_emod_right]
      exact Int.emod_eq_of_lt (by omega) (by omega)
    rw [hmod, Nat.mod_eq_of_lt (by omega), if_neg (by omega)]
    omega
  · have hmod : x % ((2 * p : Nat) : Int) = x := Int.emod_eq_of_lt hpos (by omega)
    rw [hmod, Nat.mod_eq_of_lt (by omega), if_pos (by omega)]
    omega

theorem clampInt_range {lo hi : Int} (h : lo ≤ hi) (v : Int) : lo ≤ clampInt lo hi v ∧ clampInt lo hi v ≤ hi := by
  unfold clampInt
  split
  · omega
  · split <;> omega

/-- A signed field reads the value held at the ends of its range. -/
theorem getI_setI (s : State) (f : Field) (v : Int) {k : Nat} (hw : f.width = k + 1) (hf : f.lsb + f.width ≤ 32) :
    (s.setI f v).getI f = clampInt (-(2 ^ (f.width - 1) : Nat)) ((2 ^ (f.width - 1) : Nat) - 1) v := by
  rw [hw, Nat.add_sub_cancel]
  obtain ⟨hlo, hhi⟩ := clampInt_range (lo := -((2 ^ k : Nat) : Int)) (hi := ((2 ^ k : Nat) : Int) - 1)
    (by have := Nat.two_pow_pos k; omega) v
  obtain ⟨hsigned, hfits⟩ := signed_unsigned (k := k) hlo (by omega)
  have hset : s.setI f v = s.setF f (unsigned (k + 1) (clampInt (-((2 ^ k : Nat) : Int)) (((2 ^ k : Nat) : Int) - 1) v)) := by
    rw [State.setI, hw, Nat.add_sub_cancel]
  rw [State.getI, hset, getF_setF_of_lt s f hf (by rw [hw]; exact hfits), hw]
  exact hsigned

theorem getI_congr {s u : State} {f : Field} (h : u.getF f = s.getF f) : u.getI f = s.getI f := by rw [State.getI, h, State.getI]

/-! ## The words of the sensors -/

/-- The word that shows a sensor (selected by instance). -/
abbrev sensWord (f : Field) : Prop := f.addr % 0x1000000 = 0x3104 ∧ 0x1000000 ≤ f.addr

theorem sensWord_read (i : Nat) : sensWord (F.THM_SENS.READ.inst i) := by
  simp only [sensWord, Field.inst]
  omega

theorem innerWord_of_sens {f : Field} (h : sensWord f) : innerWord f.addr := by
  obtain ⟨hword, -⟩ := h
  simp only [innerWord]
  omega

section
variable {f : Field} (hf : sensWord f)
include hf

theorem setF_getF_sens (s : State) (g : Field) (v : Nat) (hg : g.addr < 0x1000000) : (s.setF g v).getF f = s.getF f :=
  getF_setF_other s g f v fun h => by
    obtain ⟨-, hinst⟩ := hf
    omega

theorem raiseEvt_getF_sens (s : State) (p bit : Nat) : (s.raiseEvt p bit).getF f = s.getF f := raiseEvt_inner (innerWord_of_sens hf) s p bit

theorem judgeSensor_getF_sens (s : State) (bad valid : Nat → Bool) (i : Nat) : (s.judgeSensor bad valid i).getF f = s.getF f := by
  unfold State.judgeSensor
  extract_lets +onlyGivenNames near good run agree _ u v
  have hv : v.getF f = s.getF f := setF_getF_sens hf u F.THM_VALID.DISAGREE _ (by decide)
  clear_value v
  split
  · rw [raiseEvt_getF_sens hf, State.bump_eq, setF_getF_sens hf _ F.THM_FT.EXCL _ (by decide), setBit_eq_setF,
      setF_getF_sens hf _ F.THM_VALID.VALID _ (by decide), hv]
  · split
    · rw [raiseEvt_getF_sens hf, setBit_eq_setF, setF_getF_sens hf _ F.THM_VALID.VALID _ (by decide)]
      exact hv
    · exact hv

theorem heat_getF_sens (s : State) (hot : Rat) (few : Bool) : (s.heat hot few).getF f = s.getF f := by
  have hmap (u : State) (g : PowerState → PowerState) : (u.mapPwr g).getF f = u.getF f := rfl
  have hclear (u : State) (c : Nat) : (u.clearCause c).getF f = u.getF f := rfl
  unfold State.heat
  extract_lets +onlyGivenNames lim span x y u was v w z
  have hu : u.getF f = s.getF f := by
    simp only [u]
    split
    · exact raiseEvt_getF_sens hf s 3 2
    · rfl
  have hw : w.getF f = s.getF f := by
    simp only [w, v, State.setI, State.setSat_eq]
    rw [setF_getF_sens hf _ F.THM_TEMP.HOT _ (by decide), setF_getF_sens hf _ F.THM_FT.FT _ (by decide), hmap, hu]
  have hz : z.getF f = s.getF f := by
    simp only [z]
    split
    · rw [enterSafe_inner (innerWord_of_sens hf)]
      split
      · exact (raiseEvt_getF_sens hf w 3 3).trans hw
      · exact hw
    · exact hw
  split
  · rw [hclear, hz]
  · exact hz

end

/-! ## A sample (R371) -/

theorem judgeSensor_pf (s : State) (bad valid : Nat → Bool) (i : Nat) : (s.judgeSensor bad valid i).thm.pf = s.thm.pf := by
  unfold State.judgeSensor
  extract_lets +onlyGivenNames near good run agree _ u v
  have hv : v.thm.pf = s.thm.pf := by
    rw [show v = u.setBit F.THM_VALID.DISAGREE i (bad i) from rfl, setBit_eq_setF, State.setF_thm]
  clear_value v
  split
  · rw [State.raiseEvt_thm, State.bump_eq, State.setF_thm, setBit_eq_setF, State.setF_thm, hv]
  · split
    · rw [State.raiseEvt_thm, setBit_eq_setF, State.setF_thm]
      exact hv
    · exact hv

/-- The filtered power of each site after a sample. -/
def State.filtered (s : State) : List Rat :=
  (List.range 12).map (fun i => nth 0 s.thm.pf i + ((s.getF F.PWM_POWER.PIN : Rat) / 10 - nth 0 s.thm.pf i) / (thmTau i : Rat))

/-- What a sample shows of one sensor. -/
def State.showSensor (s : State) (i : Nat) (read pred : Int) : State :=
  (s.setI (F.THM_SENS.READ.inst i) read).setI (F.THM_SENS.PRED.inst i) pred

theorem showSensor_self (s : State) (i : Nat) (read pred : Int) :
    (s.showSensor i read pred).getI (F.THM_SENS.READ.inst i) =
      clampInt (-(2 ^ (F.THM_SENS.READ.width - 1) : Nat)) ((2 ^ (F.THM_SENS.READ.width - 1) : Nat) - 1) read :=
  (getI_congr (getF_setF_inst_beside _ F.THM_SENS.PRED F.THM_SENS.READ i _ (by decide) (by decide))).trans
    (getI_setI s (F.THM_SENS.READ.inst i) read (k := 15) (inst_width _ _) (by rw [inst_lsb, inst_width]; decide))

theorem showSensor_other (s : State) {i j : Nat} (h : i ≠ j) (read pred : Int) :
    (s.showSensor j read pred).getF (F.THM_SENS.READ.inst i) = s.getF (F.THM_SENS.READ.inst i) := by
  have hne (g : Field) (hg : g.addr = 0x3104) : (F.THM_SENS.READ.inst i).addr ≠ (g.inst j).addr := by
    simp only [Field.inst, hg]
    omega
  exact (getF_setF_other _ (F.THM_SENS.PRED.inst j) _ _ (hne F.THM_SENS.PRED rfl)).trans
    (getF_setF_other s (F.THM_SENS.READ.inst j) _ _ (hne F.THM_SENS.READ rfl))

/-- A loop over numbers above `i`: what the turn for `i` finds (`B`), what it establishes (`D`), and what the other turns leave. -/
theorem foldl_range_turn {g : State → Nat → State} {B D : State → Prop} {i n : Nat} (hi : i < n) {s : State} (hs : B s)
    (hbefore : ∀ u j, j < n → i ≠ j → B u → B (g u j)) (hturn : ∀ u, B u → D (g u i))
    (hafter : ∀ u j, j < n → i ≠ j → D u → D (g u j)) :
    D ((List.range n).foldl g s) := by
  have key : ∀ m ≤ n, (m ≤ i → B ((List.range m).foldl g s)) ∧ (i < m → D ((List.range m).foldl g s)) := by
    intro m
    induction m with
    | zero => exact fun _ => ⟨fun _ => hs, fun h => absurd h (Nat.not_lt_zero i)⟩
    | succ m ih =>
      intro hm
      obtain ⟨ihB, ihD⟩ := ih (by omega)
      rw [List.range_succ, List.foldl_append, List.foldl_cons, List.foldl_nil]
      refine ⟨fun h => hbefore _ m hm (by omega) (ihB (by omega)), fun h => ?_⟩
      by_cases him : i = m
      · subst him
        exact hturn _ (ihB (Nat.le_refl i))
      · exact hafter _ m hm him (ihD (by omega))
  exact (key n (Nat.le_refl n)).2 hi

/-- What the turn for `i` establishes and no other turn undoes holds after a loop over numbers above `i`. -/
theorem foldl_range_establishes {g : State → Nat → State} {D : State → Prop} {i n : Nat} (hi : i < n) (hturn : ∀ u, D (g u i))
    (hafter : ∀ u j, i ≠ j → D u → D (g u j)) (s : State) : D ((List.range n).foldl g s) :=
  foldl_range_turn (B := fun _ => True) hi trivial (fun _ _ _ _ _ => trivial) (fun u _ => hturn u) (fun u j _ => hafter u j)

/-- After the loop over the sensors each of them shows its own reading. -/
theorem foldl_showSensor (read pred : Nat → Int) (s : State) {i : Nat} (hi : i < 12) :
    ((List.range 12).foldl (fun s i => s.showSensor i (read i) (pred i)) s).getI (F.THM_SENS.READ.inst i) =
      clampInt (-(2 ^ (F.THM_SENS.READ.width - 1) : Nat)) ((2 ^ (F.THM_SENS.READ.width - 1) : Nat) - 1) (read i) :=
  foldl_range_establishes (g := fun s i => s.showSensor i (read i) (pred i))
    (D := fun u => u.getI (F.THM_SENS.READ.inst i) =
      clampInt (-(2 ^ (F.THM_SENS.READ.width - 1) : Nat)) ((2 ^ (F.THM_SENS.READ.width - 1) : Nat) - 1) (read i))
    hi (fun u => showSensor_self u i (read i) (pred i)) (fun u j hij hu => (getI_congr (showSensor_other u hij (read j) (pred j))).trans hu) s

theorem foldl_showSensor_thm (read pred : Nat → Int) (l : List Nat) (s : State) :
    (l.foldl (fun s i => s.showSensor i (read i) (pred i)) s).thm = s.thm := by
  induction l generalizing s with
  | nil => rfl
  | cons i l ih => exact (ih _).trans ((State.setI_thm _ _ _).trans (State.setI_thm _ _ _))

theorem foldl_judgeSensor_pf (bad valid : Nat → Bool) (l : List Nat) (s : State) :
    (l.foldl (State.judgeSensor · bad valid ·) s).thm.pf = s.thm.pf := by
  induction l generalizing s with
  | nil => rfl
  | cons i l ih => exact (ih _).trans (judgeSensor_pf s bad valid i)

theorem doThermalSample_shows {s : State} {reads : List Int} (t : Nat) (hoff : s.dev ≠ .off) (hlen : reads.length = 12) :
    (doThermalSample reads t s).thm.pf = s.filtered ∧ ∀ i < 12, (doThermalSample reads t s).getI (F.THM_SENS.READ.inst i) =
      clampInt (-(2 ^ (F.THM_SENS.READ.width - 1) : Nat)) ((2 ^ (F.THM_SENS.READ.width - 1) : Nat) - 1) (nth 0 reads i) := by
  unfold doThermalSample
  extract_lets +onlyGivenNames u
  have hgo : ¬ (decide (u.dev = .off) || decide (reads.length ≠ 12)) = true := by
    rw [show u.dev = s.dev from State.at_dev s t, hlen]
    simp [hoff]
  rw [if_neg hgo]
  extract_lets +onlyGivenNames pin pf rise valid read case_ pred tol bad _ v w x y few z z' temp
  have hpf : pf = s.filtered := by
    have : pf = u.filtered := rfl
    rw [this]
    unfold State.filtered
    rw [State.at_thm, State.at_getF]
  have hw : w.thm.pf = s.filtered := (congrArg ThermalState.pf (foldl_showSensor_thm (fun i => nth 0 reads i) (fun i => (pred i).floor) _ v)).trans hpf
  have hread (i : Nat) (hi : i < 12) : w.getI (F.THM_SENS.READ.inst i) =
      clampInt (-(2 ^ (F.THM_SENS.READ.width - 1) : Nat)) ((2 ^ (F.THM_SENS.READ.width - 1) : Nat) - 1) (nth 0 reads i) :=
    foldl_showSensor (fun i => nth 0 reads i) (fun i => (pred i).floor) v hi
  clear_value w
  have hx : x.thm.pf = w.thm.pf := foldl_judgeSensor_pf bad valid _ w
  have hxreg (i : Nat) : x.getF (F.THM_SENS.READ.inst i) = w.getF (F.THM_SENS.READ.inst i) :=
    foldl_getF (fun u k => judgeSensor_getF_sens (sensWord_read i) u bad valid k) _ w
  clear_value x
  have hz : z.thm = x.thm ∧ ∀ i, z.getF (F.THM_SENS.READ.inst i) = x.getF (F.THM_SENS.READ.inst i) := by
    have hy : y.thm = x.thm ∧ ∀ i, y.getF (F.THM_SENS.READ.inst i) = x.getF (F.THM_SENS.READ.inst i) :=
      ⟨State.setI_thm _ _ _, fun i => setF_getF_sens (sensWord_read i) x F.THM_TEMP.CASE _ (by decide)⟩
    obtain ⟨hthm, hreg⟩ := hy
    clear_value y
    simp only [z]
    split
    · exact ⟨(State.raiseEvt_thm y 3 4).trans hthm, fun i => (raiseEvt_getF_sens (sensWord_read i) y 3 4).trans (hreg i)⟩
    · exact ⟨hthm, hreg⟩
  obtain ⟨hzthm, hzreg⟩ := hz
  clear_value z
  have hz' : z'.thm = z.thm ∧ ∀ i, z'.getF (F.THM_SENS.READ.inst i) = z.getF (F.THM_SENS.READ.inst i) := by
    have hset : z' = z.setF (H.DEGRADED 3) (if few then 1 else 0) := State.setB_eq _ _ _
    rw [hset]
    exact ⟨State.setF_thm _ _ _, fun i => setF_getF_sens (sensWord_read i) z (H.DEGRADED 3) _ (by decide)⟩
  obtain ⟨hthm', hreg'⟩ := hz'
  clear_value z'
  have hheat (hot : Rat) : (z'.heat hot few).thm = z'.thm := heat_part (π := .thermal) (by decide) z' hot few
  refine ⟨?_, fun i hi => (getI_congr ?_).trans (hread i hi)⟩
  · rw [hheat, hthm', hzthm, hx, hw]
  · rw [heat_getF_sens (sensWord_read i), hreg', hzreg, hxreg]

/-! ## Settled -/

theorem unpowered_off {s : State} (h : s.dev = .off) : s.unpowered.settle.dev = .off ∧ s.unpowered.settle.pwr.released = [] ∧
    s.unpowered.settle.dark = true := by
  obtain ⟨hdev, hreleased⟩ := unpowered_leaves s
  have hoff : s.unpowered.dev = .off := hdev.trans h
  exact ⟨by rw [State.settle_dev, hoff], by rw [State.settle_pwr, hreleased],
    settle_dark (by rw [hoff]; decide) (by rw [hoff]; decide)⟩

theorem settle_getF_inst (s : State) (f : Field) (i : Nat) : s.settle.getF (f.inst i) = s.getF (f.inst i) :=
  State.settle_getF s _ (by simp only [Field.inst]; omega)

theorem filter_of_any_ne {l : List (Nat × Bool)} {r : Nat} (h : l.any (fun x => x.1 = r) = false) : l.filter (fun x => x.1 ≠ r) = l :=
  List.filter_eq_self.2 fun x hx => by simpa using List.any_eq_false.1 h x hx

/-- Settles O46: domains by the register and the instants that each command sets, the cap by `capOf`, phases by the rail's word, the sample
by the loop over the sensors. -/
theorem domainsStartAndStop : Obligations.DomainsStartAndStop := by
  unfold Obligations.DomainsStartAndStop
  refine ⟨?_, ?_, ?_, ?_, ?_, ?_, ?_, ?_, ?_⟩
  · intro s dom t h
    obtain ⟨hreg, hat⟩ := doDomainStarted_on dom t h
    exact ⟨(doDomainStarted dom t s).settle, rfl, (domState_settle _ _).trans (domState_of_ne hreg (by decide)), by rw [State.settle_pwr, hat]⟩
  · intro s dom t h
    obtain ⟨hreg, hat, hreleased⟩ := doDomainStopped_off dom t h
    exact ⟨(doDomainStopped dom t s).settle, rfl, (domState_settle _ _).trans (domState_of_ne hreg (by decide)), by rw [State.settle_pwr, hat],
      by rw [State.settle_pwr, hreleased]⟩
  · intro s dom t o hload hrest hwanted hturn hoff hlong
    obtain ⟨hreg, hcount, hpwr⟩ := startDomain_shows (s.at t) dom.val
    have hat : tabFind dom.val ((s.at t).startDomain dom.val).pwr.startAt = some ((s.at t).turnAt dom.val) := by
      rw [hpwr]
      exact tabFind_tabSet_self _ _ _
    refine ⟨(doDomainOffTimeExpiry dom t s).settle, rfl, ?_⟩
    rw [doDomainOffTimeExpiry_starts hload hrest hwanted hturn hoff hlong]
    refine ⟨by rw [settle_getF_inst, hreg], by rw [State.settle_pwr, hat], fun hboot => ?_, ?_⟩
    · have hnow : (s.at t).turnAt dom.val = (s.at t).now := by
        unfold State.turnAt
        exact if_pos (by rw [State.at_dev]; exact hboot)
      have hstart : ((s.at t).startDomain dom.val).now = (s.at t).now := rfl
      rw [domState_settle]
      unfold State.domState State.awaitsTurn
      rw [hreg, hat, hnow, hstart]
      simp
    · rw [settle_getF_inst, hcount, State.at_getF]
  · intro s pin t hoff hon hem
    obtain ⟨hcap, hfixed, -⟩ := doPowerCapUpdate_sets pin t hoff hon
    have hceil : (s.at t).powerCeil = s.powerCeil := powerCeil_congr (State.at_getF s t)
    refine ⟨(doPowerCapUpdate pin t s).settle, rfl, ?_, ?_⟩
    · rw [State.settle_pwr, hfixed, State.fixedNow, State.fixedSample, State.at_getF, State.at_pwr]
    · rw [State.settle_getF _ _ (by decide), State.settle_pwr, hcap, hfixed, State.capOf, State.at_getF, if_neg hem, State.powerRoom, State.at_pwr,
        hceil]
  · intro s pin t hoff hon hem
    obtain ⟨hcap, -, hfree⟩ := doPowerCapUpdate_sets pin t hoff hon
    refine ⟨(doPowerCapUpdate pin t s).settle, rfl, ?_, ?_⟩
    · rw [State.settle_getF _ _ (by decide), hcap]
      exact capOf_le _ _
    · rw [State.settle_free, hfree, if_pos hem]
  · intro s rail t hoff hrail hactive hspare hreq
    obtain ⟨hact, hfailed, -, hpwr, hdev⟩ := losePhase_shows (s.at t) rail.val
    refine ⟨(doPhaseFailure rail t s).settle, rfl, ?_⟩
    rw [doPhaseFailure_asks t hoff hrail hactive hspare hreq]
    refine ⟨?_, ?_, ?_, ?_⟩
    · rw [settle_getF_inst, State.mapPwr_getF, hact, State.at_getF]
    · rw [settle_getF_inst, State.mapPwr_getF, hfailed, State.at_getF]
    · rw [State.settle_pwr, State.mapPwr, hpwr, State.at_pwr, filter_of_any_ne hreq]
    · rw [State.settle_dev]
      exact hdev.trans (State.at_dev s t)
  · intro s t hoff hactive
    refine ⟨(doPhaseFailure 6 t s).settle, rfl, ?_⟩
    rw [doPhaseFailure_aon t hoff hactive]
    exact unpowered_off (enterState_dev _ _ _ _)
  · intro s rail t hreq
    obtain ⟨hin, hact, hleft⟩ := carrySpare_shows (s.at t) rail.val
    refine ⟨(doSparePhaseInService rail t s).settle, rfl, ?_⟩
    rw [doSparePhaseInService_carries t hreq]
    refine ⟨?_, ?_, ?_⟩
    · rw [settle_getF_inst, showSparePhase_getF _ _ (rail_spareIn _), hin]
    · rw [settle_getF_inst, showSparePhase_getF _ _ (rail_active _), hact, State.at_getF]
    · rw [State.settle_pwr, showSparePhase_pwr, hleft, State.at_pwr]
  · intro s reads t hoff hlen
    obtain ⟨hpf, hread⟩ := doThermalSample_shows t hoff hlen
    refine ⟨(doThermalSample reads t s).settle, rfl, by rw [State.settle_thm, hpf, State.filtered], fun i => ?_⟩
    exact (getI_congr (settle_getF_inst _ _ _)).trans (hread i.val i.isLt)

end Sys2Proof.Machine
end

section
/-! PROOFS. The housekeeping converter (O53). -/

namespace Sys2Proof.Machine

/-! ## Triggers (R400, R401) -/

/-- No sequence samples and no calibration runs, with ANA released. -/
def State.hkaIdle (s : State) : Bool := s.on 10 && !s.hka.runs.any (fun r => r.samples s.now) && s.hka.calFrom.isNone

/-- The sequence that a trigger begins. -/
def State.hkaRun (s : State) (delay : Nat) : HkaRun where
  ents := (List.range (s.getF F.HKA_CTL.LEN)).map (fun k => (s.peek (F.HKA_ENT.POS.idx k).addr).toNat)
  wins := (List.range (s.getF F.HKA_CTL.LEN)).map (fun k => (s.peek (F.HKA_WIN.LO.idx k).addr).toNat)
  dest := s.flag F.HKA_CTL.DEST
  stream := s.flag F.HKA_CTL.STREAM
  next := 0
  ins := []
  start := s.now + delay
  tai := s.taiNs + delay

theorem hkaRun_length (s : State) (delay : Nat) : (s.hkaRun delay).ents.length = s.getF F.HKA_CTL.LEN := by
  rw [State.hkaRun, List.length_map, List.length_range]

theorem hkaStart_begins {s : State} (delay : Nat) (h : s.hkaIdle = true) : (s.hkaStart delay).hka.runs = s.hka.runs ++ [s.hkaRun delay] ∧
    (s.hkaStart delay).hka.timerFrom = s.hka.timerFrom := by
  simp only [State.hkaIdle, Bool.and_eq_true, Bool.not_eq_true'] at h
  obtain ⟨⟨hon, hruns⟩, hcal⟩ := h
  have hcal : s.hka.calFrom.isSome = false := by rw [← Option.not_isNone, hcal]; rfl
  have hdo : s.hkaStart delay = s.mapHka (fun h => { h with runs := h.runs ++ [s.hkaRun delay] }) := by
    unfold State.hkaStart
    rw [if_neg (by rw [hon]; decide), if_neg (by rw [hruns, hcal]; decide)]
    rfl
  rw [hdo, State.mapHka]
  exact ⟨rfl, rfl⟩

theorem hkaStart_missed {s : State} {from_ : Nat} (delay : Nat) (hon : s.on 10 = true) (hcal : s.hka.calFrom = some from_) :
    s.hkaStart delay = (s.bump F.HKA_STAT.MISSED 1).raiseEvt 23 3 := by
  unfold State.hkaStart
  rw [if_neg (by rw [hon]; decide), if_pos (by rw [hcal]; simp)]

/-- A trigger that comes idle begins a sequence of LEN entries between `lo` and `hi` ns after it. -/
theorem hkaStartIn_begins {s : State} {lo hi : Nat} (h : s.hkaIdle = true) (hle : lo ≤ hi) :
    ∃ r : HkaRun, (s.hkaStartIn lo hi).hka.runs = s.hka.runs ++ [r] ∧ r.next = 0 ∧ r.ents.length = s.getF F.HKA_CTL.LEN ∧
      s.now + lo ≤ r.start ∧ r.start ≤ s.now + hi := by
  have hmod : s.freeNat % (hi - lo + 1) < hi - lo + 1 := Nat.mod_lt _ (Nat.succ_pos _)
  have hstart : (s.tick.hkaRun (lo + s.freeNat % (hi - lo + 1))).start = s.now + (lo + s.freeNat % (hi - lo + 1)) := rfl
  exact ⟨_, (hkaStart_begins (s := s.tick) _ h).1, rfl, hkaRun_length s.tick _, by omega, by omega⟩

theorem hkaIdle_at {s : State} {t : Nat} (hon : s.on 10 = true) (hruns : s.hka.runs.any (fun r => r.samples (max s.now t)) = false)
    (hcal : s.hka.calFrom = none) : (s.at t).hkaIdle = true := by
  rw [State.hkaIdle, State.at_on, hon, State.at_hka, State.at_now, hruns, hcal]
  rfl

theorem hkaIdle_setB (s : State) (f : Field) (b : Bool) : (s.setB f b).hkaIdle = s.hkaIdle := by
  rw [State.hkaIdle, State.setB_eq, State.setF_on, State.setF_hka, State.setF_now, State.hkaIdle]

/-! ## Results (R398, R403, R404, R405) -/

/-- What the converter has of sequences and results. -/
def State.hkaResults (s : State) : List HkaRun × List HkaGalvo × List (Nat × Int) := (s.hka.runs, s.hka.galvo, s.hka.codes)

theorem hkaResults_of_part {s u : State} (h : u.part .converter = s.part .converter) : u.hkaResults = s.hkaResults := by
  have hhka : u.hka = s.hka := h
  rw [State.hkaResults, hhka, State.hkaResults]

theorem judgeWindow_results (s : State) (n e w : Nat) (code : Int) : (s.judgeWindow n e w code).hkaResults = s.hkaResults := by
  have hinside (g : List (Nat × Nat) → List (Nat × Nat)) : (s.mapHka (fun h => { h with inside := g h.inside })).hkaResults = s.hkaResults := rfl
  unfold State.judgeWindow
  extract_lets +onlyGivenNames out
  split
  · split
    · rfl
    · extract_lets k
      split
      · exact hinside (tabSet n k)
      · exact (hkaResults_of_part ((setBit_part ..).trans (setF_part ..))).trans (hinside (tabDel n))
  · extract_lets +onlyGivenNames u
    have hu : u.hkaResults = s.hkaResults := hinside (tabDel n)
    clear_value u
    split
    · exact hu
    · exact (hkaResults_of_part ((recPulse_part ..).trans ((raiseEvt_part ..).trans ((setBit_part ..).trans (setF_part ..))))).trans hu

theorem hkaClose_results (s : State) : s.hkaClose.hkaResults = s.hkaResults := by
  unfold State.hkaClose
  split
  · rfl
  · dsimp only
    exact (hkaResults_of_part (commitRecord_part _ 8 9 _)).trans rfl

theorem hkaRecord_results (s : State) (n v flags : Nat) (at2 : Int) (seqStart tai : Nat) :
    (s.hkaRecord n v flags at2 seqStart tai).hkaResults = s.hkaResults := by
  unfold State.hkaRecord
  extract_lets +onlyGivenNames r toff b u
  have hu : u.hkaResults = s.hkaResults := rfl
  clear_value u
  split
  · exact (hkaClose_results u).trans hu
  · exact hu

/-- A result's code is kept for its entry; sequences and galvo conversions stay. -/
theorem hkaFinish_results (s : State) (n e w raw : Nat) (dest stream galvo first : Bool) (at2 : Int) (seqStart tai : Nat) :
    (s.hkaFinish n e w raw dest stream galvo first at2 seqStart tai).hkaResults =
      (s.hka.runs, s.hka.galvo, tabSet n (s.hkaCode e raw) s.hka.codes) := by
  unfold State.hkaFinish
  extract_lets +onlyGivenNames code u v val w' flags
  have hu : u.hkaResults = (s.hka.runs, s.hka.galvo, tabSet n (s.hkaCode e raw) s.hka.codes) := rfl
  clear_value u
  have hv : v.hkaResults = u.hkaResults := by
    simp only [v]
    split
    · exact judgeWindow_results u n e w code
    · rfl
  clear_value v
  have hw : w'.hkaResults = v.hkaResults := hkaResults_of_part (deliver_part v n e dest val)
  clear_value w'
  split
  · rw [hkaRecord_results, hw, hv, hu]
  · rw [hw, hv, hu]

/-- A conversion of an entry short of the last takes its sequence one entry on. -/
theorem hkaNext_results {s : State} (raw : Nat) {r : HkaRun} {l : List HkaRun} (hruns : s.hka.runs = r :: l)
    (hmore : r.next + 1 < r.ents.length) (hdue : r.sampledAt r.next + 275 ≤ 2 * s.now + 1) :
    (s.hkaNext raw).hkaResults = ({ r with next := r.next + 1 } :: l, s.hka.galvo,
      tabSet r.next (s.hkaCode (nth 0 r.ents r.next) raw) s.hka.codes) := by
  have hlast : decide (r.ents.length ≤ r.next + 1) = false := decide_eq_false (Nat.not_le.2 hmore)
  unfold State.hkaNext
  rw [hruns]
  dsimp only
  rw [if_neg (Nat.not_lt.2 hdue), hlast]
  exact hkaFinish_results _ _ _ _ _ _ _ _ _ _ _ _

theorem hkaGalvo_results {s : State} (raw : Nat) {g : HkaGalvo} {l : List HkaGalvo} (hgalvo : s.hka.galvo = g :: l)
    (hdue : g.at2 + 25 * (entCycles g.ent + 11) ≤ 2 * s.now + 1) :
    (s.hkaGalvo raw).hkaResults = (s.hka.runs, l, tabSet g.entry (s.hkaCode g.ent raw) s.hka.codes) := by
  unfold State.hkaGalvo
  rw [hgalvo]
  dsimp only
  rw [if_neg (Nat.not_lt.2 hdue), hkaResults_of_part (judgeIlk_part (by decide) _)]
  exact hkaFinish_results _ _ _ _ _ _ _ _ _ _ _ _

/-! ## The stream (R405) -/

theorem commitRecord_journal (s : State) (cls kind : Nat) (bytes : List Byte) : (s.commitRecord cls kind bytes).rcd.pulses = s.rcd.pulses ∧
    ∃ r, (s.commitRecord cls kind bytes).tp.journal = r :: s.tp.journal ∧ r.cls = cls := by
  have hpush (u : State) (src : Nat) : (u.recPush src bytes).rcd.pulses = u.rcd.pulses ∧ (u.recPush src bytes).tp = u.tp := by
    unfold State.recPush
    split
    · exact ⟨rfl, rfl⟩
    · exact ⟨rfl, rfl⟩
  unfold State.commitRecord State.commitSel
  extract_lets nums queues r _ u
  split
  · next src _ => exact ⟨(hpush u src).1, r, congrArg TransportState.journal (hpush u src).2, rfl⟩
  · exact ⟨rfl, r, rfl, rfl⟩

theorem hkaClose_commits {s : State} {r : HkaRecord} (h : s.hka.open_ = some r) : s.hkaClose.rcd.pulses = s.rcd.pulses ∧
    s.hkaClose.hka.open_ = none ∧ ∃ j, s.hkaClose.tp.journal = j :: s.tp.journal ∧ j.cls = 8 := by
  unfold State.hkaClose
  rw [h]
  dsimp only
  generalize hkHeader 1 r.results.length r.frame r.epoch r.tai ++ r.results.flatten = bytes
  have hclosed : (s.mapHka (fun h => { h with open_ := none })).hka.open_ = none := rfl
  have hkept : (s.mapHka (fun h => { h with open_ := none })).rcd = s.rcd ∧ (s.mapHka (fun h => { h with open_ := none })).tp = s.tp := ⟨rfl, rfl⟩
  obtain ⟨hrcd, htp⟩ := hkept
  generalize s.mapHka (fun h => { h with open_ := none }) = u at *
  obtain ⟨hpulses, j, hjournal, hcls⟩ := commitRecord_journal u 8 9 bytes
  exact ⟨by rw [hpulses, hrcd], by rw [State.commitRecord_hka, hclosed], j, by rw [hjournal, htp], hcls⟩

/-! ## Calibration (R407) -/

/-- A factor pair is shown. -/
def State.showFactors (s : State) (g : Nat) (e : Int × Nat) : State :=
  (s.setI (F.HKA_CALF.OFS.idx g) e.1).setF (F.HKA_CALF.GAINF.idx g) e.2

theorem showFactors_other (s : State) (g : Nat) (e : Int × Nat) (f : Field) (h : f.addr ≠ 0x171DC + 4 * g) :
    (s.showFactors g e).getF f = s.getF f :=
  (getF_setF_other _ (F.HKA_CALF.GAINF.idx g) _ _ h).trans (getF_setF_other s (F.HKA_CALF.OFS.idx g) _ _ h)

theorem showFactors_self (s : State) (g : Nat) {e : Int × Nat} (hofs : e.1.natAbs ≤ 256) (hgain : e.2 ≤ 18022) :
    (s.showFactors g e).getI (F.HKA_CALF.OFS.idx g) = e.1 ∧ (s.showFactors g e).getF (F.HKA_CALF.GAINF.idx g) = e.2 := by
  have hclamp : clampInt (-(2 ^ 15 : Nat)) ((2 ^ 15 : Nat) - 1) e.1 = e.1 := by
    unfold clampInt
    rw [if_neg (by omega), if_neg (by omega)]
  refine ⟨?_, getF_setF_of_lt _ (F.HKA_CALF.GAINF.idx g) (by decide : 16 + 16 ≤ 32) (by omega : e.2 < 2 ^ 16)⟩
  refine (getI_congr (getF_setF_beside _ (F.HKA_CALF.GAINF.idx g) (F.HKA_CALF.OFS.idx g) _ (by decide : 16 + 16 ≤ 32)
    (.inr (.inl (by decide : 0 + 16 ≤ 16))))).trans ?_
  exact (getI_setI s (F.HKA_CALF.OFS.idx g) e.1 (k := 15) rfl (by decide : 0 + 16 ≤ 32)).trans hclamp

/-- All four factor pairs. -/
def State.takeFactors (s : State) (factors : List (Int × Nat)) : State :=
  (List.range 4).foldl (fun s g => s.showFactors g (nth (0, 0) factors g)) s

theorem takeFactors_shows (s : State) {factors : List (Int × Nat)} (hlen : factors.length = 4) (hgood : calGood factors = true)
    {g : Nat} (hg : g < 4) :
    (s.takeFactors factors).getI (F.HKA_CALF.OFS.idx g) = (nth (0, 0) factors g).1 ∧
      (s.takeFactors factors).getF (F.HKA_CALF.GAINF.idx g) = (nth (0, 0) factors g).2 := by
  have hmem : nth (0, 0) factors g ∈ factors := by
    rw [nth, List.getD_eq_getElem _ _ (by omega)]
    exact List.getElem_mem _
  have hlimits := List.all_eq_true.1 hgood _ hmem
  simp only [Bool.and_eq_true, decide_eq_true_eq] at hlimits
  obtain ⟨⟨hofs, -⟩, hgain⟩ := hlimits
  have hne (u : State) (j : Nat) (hgj : g ≠ j) (f : Field) (hf : f.addr = 0x171DC + 4 * g) :
      (u.showFactors j (nth (0, 0) factors j)).getF f = u.getF f := showFactors_other u j _ f (by omega)
  exact foldl_range_establishes (g := fun s g => s.showFactors g (nth (0, 0) factors g))
    (D := fun u => u.getI (F.HKA_CALF.OFS.idx g) = (nth (0, 0) factors g).1 ∧
      u.getF (F.HKA_CALF.GAINF.idx g) = (nth (0, 0) factors g).2) hg (fun u => showFactors_self u g hofs hgain)
    (fun u j hgj hu => ⟨(getI_congr (hne u j hgj _ rfl)).trans hu.1, (hne u j hgj _ rfl).trans hu.2⟩) s

theorem showFactors_part (s : State) (g : Nat) (e : Int × Nat) : (s.showFactors g e).part .converter = s.part .converter := by
  rw [State.showFactors, setF_part, setI_part]

theorem takeFactors_hka (s : State) (factors : List (Int × Nat)) : (s.takeFactors factors).hka = s.hka := by
  have h : (s.takeFactors factors).part .converter = s.part .converter := by
    unfold State.takeFactors
    exact part_foldl (fun u g => showFactors_part u g (nth (0, 0) factors g)) (List.range 4) s
  generalize s.takeFactors factors = u at *
  exact h

/-- A calibration that ends well. -/
def State.passCal (s : State) (factors : List (Int × Nat)) : State :=
  (((s.takeFactors factors).setF F.HKA_CAL.DONE 1).setF F.HKA_CAL.FAIL 0).raiseEvt 23 4

/-- A calibration that fails. -/
def State.badCal (s : State) : State := ((s.setF F.HKA_CAL.FAIL 1).raiseEvt 23 5).recErr 23 0x81 0

/-- The calibration has ended. -/
def State.stopCal (s : State) : State := (s.mapHka (fun h => { h with calFrom := none })).setF F.HKA_CAL.GO 0

theorem doHkaCalibrationComplete_ends {s : State} {factors : List (Int × Nat)} {t from_ : Nat} (hon : s.on 10 = true)
    (hcal : s.hka.calFrom = some from_) (hdue : from_ + 1200000 ≤ max s.now t) (hlen : factors.length = 4) :
    doHkaCalibrationComplete factors t s =
      if calGood factors then (s.at t).stopCal.passCal factors else (s.at t).stopCal.badCal := by
  unfold doHkaCalibrationComplete
  dsimp only
  rw [State.at_hka, hcal]
  refine (if_neg ?_).trans rfl
  rw [State.at_on, hon, State.at_now, hlen, decide_eq_false (Nat.not_lt.2 hdue)]
  decide

/-- A word of HKA beyond its header and the calibration's control. -/
abbrev hkaWord (f : Field) : Prop := f.addr / 0x1000 = 23 ∧ 0x100 ≤ f.addr % 0x1000

theorem raiseEvt_hka (s : State) (bit : Nat) {f : Field} (hf : hkaWord f) : (s.raiseEvt 23 bit).getF f = s.getF f :=
  State.raiseEvt_getF s 23 bit f (by obtain ⟨-, hoff⟩ := hf; omega)

theorem recErr_hka (s : State) (code addr : Nat) {f : Field} (hf : hkaWord f) : (s.recErr 23 code addr).getF f = s.getF f :=
  State.recErr_getF s 23 code addr f (by obtain ⟨-, hoff⟩ := hf; omega)

theorem factorWord_hka {g : Nat} (hg : g < 4) {f : Field} (hf : f.addr = 0x171DC + 4 * g) : hkaWord f := by
  simp only [hkaWord]
  omega

theorem passCal_getF (s : State) (factors : List (Int × Nat)) {f : Field} (hf : hkaWord f) (hne : f.addr ≠ F.HKA_CAL.DONE.addr) :
    (s.passCal factors).getF f = (s.takeFactors factors).getF f := by
  rw [State.passCal, raiseEvt_hka _ _ hf, getF_setF_other _ F.HKA_CAL.FAIL _ _ hne, getF_setF_other _ F.HKA_CAL.DONE _ _ hne]

theorem badCal_getF (s : State) {f : Field} (hf : hkaWord f) (hne : f.addr ≠ F.HKA_CAL.FAIL.addr) : s.badCal.getF f = s.getF f := by
  rw [State.badCal, recErr_hka _ _ _ hf, raiseEvt_hka _ _ hf, getF_setF_other _ F.HKA_CAL.FAIL _ _ hne]

theorem stopCal_getF (s : State) {f : Field} (hne : f.addr ≠ F.HKA_CAL.GO.addr) : s.stopCal.getF f = s.getF f :=
  getF_setF_other _ F.HKA_CAL.GO _ _ hne

theorem stopCal_go (s : State) : s.stopCal.getF F.HKA_CAL.GO = 0 := getF_setF_of_lt _ F.HKA_CAL.GO (by decide) (by decide)

theorem stopCal_calFrom (s : State) : s.stopCal.hka.calFrom = none := by rw [State.stopCal, State.setF_hka, State.mapHka]

theorem passCal_shows (s : State) (factors : List (Int × Nat)) : (s.passCal factors).getF F.HKA_CAL.DONE = 1 ∧
    (s.passCal factors).getF F.HKA_CAL.GO = s.getF F.HKA_CAL.GO ∧ (s.passCal factors).hka = s.hka := by
  refine ⟨?_, ?_, ?_⟩
  · rw [State.passCal, raiseEvt_hka _ _ (by decide), getF_setF_beside _ F.HKA_CAL.FAIL F.HKA_CAL.DONE _ (by decide) (by decide)]
    exact getF_setF_of_lt _ F.HKA_CAL.DONE (by decide) (by decide)
  · rw [State.passCal, raiseEvt_hka _ _ (by decide), getF_setF_beside _ F.HKA_CAL.FAIL F.HKA_CAL.GO _ (by decide) (by decide),
      getF_setF_beside _ F.HKA_CAL.DONE F.HKA_CAL.GO _ (by decide) (by decide)]
    refine foldl_range_getF 4 (fun u g hg => showFactors_other u g _ F.HKA_CAL.GO ?_) s
    rw [show F.HKA_CAL.GO.addr = 0x171D8 from rfl]
    omega
  · rw [State.passCal, State.raiseEvt_hka, State.setF_hka, State.setF_hka, takeFactors_hka]

theorem badCal_shows (s : State) : s.badCal.getF F.HKA_CAL.FAIL = 1 ∧ s.badCal.getF F.HKA_CAL.GO = s.getF F.HKA_CAL.GO ∧
    s.badCal.hka = s.hka := by
  refine ⟨?_, ?_, ?_⟩
  · rw [State.badCal, recErr_hka _ _ _ (by decide), raiseEvt_hka _ _ (by decide)]
    exact getF_setF_of_lt _ F.HKA_CAL.FAIL (by decide) (by decide)
  · rw [State.badCal, recErr_hka _ _ _ (by decide), raiseEvt_hka _ _ (by decide)]
    exact getF_setF_beside _ F.HKA_CAL.FAIL F.HKA_CAL.GO _ (by decide) (by decide)
  · rw [State.badCal, State.recErr_hka, State.raiseEvt_hka, State.setF_hka]

/-! ## Settled -/

/-- The run that a trigger begins stands last at the end of its command. -/
theorem begun_settles {s u : State} {t : Nat} {r : HkaRun} (h : u.hka.runs = (s.at t).hka.runs ++ [r]) :
    u.settle.hka.runs = s.hka.runs ++ [r] := by
  rw [State.settle_hka, h, State.at_hka]

theorem hkaCode_at (s : State) (t e raw : Nat) : (s.at t).hkaCode e raw = s.hkaCode e raw := by
  unfold State.hkaCode State.getI
  rw [State.at_getF, State.at_getF]

/-- Settles O53: triggers by `hkaStart`, results by what `hkaFinish` leaves of sequences and codes, the calibration by its two ends. -/
theorem housekeepingConverter : Obligations.HousekeepingConverter := by
  unfold Obligations.HousekeepingConverter
  refine ⟨?_, ?_, ?_, ?_, ?_, ?_, ?_, ?_, ?_, ?_⟩
  · intro s t hon hruns hcal
    refine ⟨_, (s.at t).hkaRun 0, rfl, begun_settles (hkaStart_begins 0 (hkaIdle_at hon hruns hcal)).1, rfl, ?_, State.at_now s t⟩
    rw [hkaRun_length, State.at_getF]
  · intro s t hon hruns hcal htrig hframes
    obtain ⟨r, hbegun, hnext, hlen, hlo, hhi⟩ := hkaStartIn_begins (lo := 0) (hi := 37) (hkaIdle_at hon hruns hcal) (by decide)
    have hdo : doHkaTrigger false t s = (s.at t).hkaStartIn 0 37 := by
      unfold doHkaTrigger
      exact (if_neg (by decide)).trans (if_pos (by rw [State.at_getF, htrig, frames_at, hframes]; rfl))
    rw [State.at_now] at hlo hhi
    refine ⟨(doHkaTrigger false t s).settle, r, rfl, ?_, hnext, by rw [hlen, State.at_getF], hlo, hhi⟩
    rw [hdo]
    exact begun_settles hbegun
  · intro s t f hon hcal
    have hdo : doHkaTrigger true t s = ((s.at t).bump F.HKA_STAT.MISSED 1).raiseEvt 23 3 :=
      hkaStart_missed 0 (by rw [State.at_on, hon]) (by rw [State.at_hka, hcal])
    refine ⟨(doHkaTrigger true t s).settle, rfl, ?_, ?_⟩
    · rw [hdo, State.settle_hka, State.raiseEvt_hka, State.bump_eq, State.setF_hka, State.at_hka]
    · rw [hdo, State.settle_getF _ _ (by decide), raiseEvt_hka _ _ (by decide), State.bump_eq, getF_setF_min _ F.HKA_STAT.MISSED _ (by decide),
        State.at_getF]
  · intro s t hon hruns hcal htrig hdue
    have hidle : ((s.at t).mapHka (fun h => { h with timerFrom := (s.at t).now })).hkaIdle = true := hkaIdle_at hon hruns hcal
    have hdo : doHkaTimerExpiry t s = ((s.at t).mapHka (fun h => { h with timerFrom := (s.at t).now })).hkaStart 0 := by
      unfold doHkaTimerExpiry
      refine if_pos ?_
      rw [State.at_on, hon, State.at_getF, htrig, State.at_hka, State.at_getF, State.at_now, decide_eq_true hdue]
      rfl
    obtain ⟨hbegun, htimer⟩ := hkaStart_begins 0 hidle
    have hruns' : ((s.at t).mapHka (fun h => { h with timerFrom := (s.at t).now })).hka.runs = s.hka.runs :=
      (congrArg HkaState.runs (State.at_hka s t) : (s.at t).hka.runs = s.hka.runs)
    have hnow : ((s.at t).mapHka (fun h => { h with timerFrom := (s.at t).now })).now = max s.now t := State.at_now s t
    refine ⟨(doHkaTimerExpiry t s).settle, ((s.at t).mapHka (fun h => { h with timerFrom := (s.at t).now })).hkaRun 0, rfl, ?_, rfl, ?_,
      hnow, ?_⟩
    · rw [State.settle_hka, hdo, hbegun, hruns']
    · rw [hkaRun_length]
      exact State.at_getF s t _
    · rw [State.settle_hka, hdo, htimer]
      exact State.at_now s t
  · intro s t hon hruns hcal htrig
    have hidle : ((s.at t).setB F.GIO_IN.HKA_TRG true).hkaIdle = true :=
      (hkaIdle_setB _ _ _).trans (hkaIdle_at hon hruns hcal)
    obtain ⟨r, hbegun, hnext, hlen, hlo, hhi⟩ := hkaStartIn_begins (lo := 25) (hi := 37) hidle (by decide)
    have hdo : doHkaTrgEdge true t s = ((s.at t).setB F.GIO_IN.HKA_TRG true).hkaStartIn 25 37 := by
      unfold doHkaTrgEdge
      refine if_pos ?_
      rw [State.at_getF, htrig, State.setB_eq, State.setF_on, State.at_on, hon]
      rfl
    have hnow : ((s.at t).setB F.GIO_IN.HKA_TRG true).now = max s.now t := by
      rw [State.setB_eq, State.setF_now, State.at_now]
    rw [hnow] at hlo hhi
    refine ⟨(doHkaTrgEdge true t s).settle, r, rfl, ?_, hnext, ?_, hlo, hhi⟩
    · rw [State.settle_hka, hdo, hbegun, State.setB_eq, State.setF_hka, State.at_hka]
    · rw [hlen, State.setB_eq, getF_setF_other _ F.GIO_IN.HKA_TRG _ _ (by decide), State.at_getF]
  · intro s raw t r l hon hraw hruns hmore hdue
    have hdo : doHkaConversion false raw t s = (s.at t).hkaNext raw := by
      unfold doHkaConversion
      refine (if_neg ?_).trans (if_neg (by decide))
      rw [State.at_on, hon, decide_eq_false (Nat.not_lt.2 hraw)]
      decide
    have hres := hkaNext_results (s := s.at t) raw (by rw [State.at_hka, hruns]) hmore (by rw [State.at_now]; exact hdue)
    rw [← hdo, State.hkaResults] at hres
    obtain ⟨hleft, hrest⟩ := Prod.mk.inj hres
    obtain ⟨-, hcodes⟩ := Prod.mk.inj hrest
    refine ⟨(doHkaConversion false raw t s).settle, rfl, by rw [State.settle_hka, hleft], ?_⟩
    rw [State.settle_hka, hcodes, tabFind_tabSet_self, hkaCode_at]
  · intro s raw t g l hon hraw hgalvo hdue
    have hdo : doHkaConversion true raw t s = (s.at t).hkaGalvo raw := by
      unfold doHkaConversion
      refine (if_neg ?_).trans (if_pos rfl)
      rw [State.at_on, hon, decide_eq_false (Nat.not_lt.2 hraw)]
      decide
    have hres := hkaGalvo_results (s := s.at t) raw (by rw [State.at_hka, hgalvo]) (by rw [State.at_now]; exact hdue)
    rw [← hdo, State.hkaResults] at hres
    obtain ⟨-, hrest⟩ := Prod.mk.inj hres
    obtain ⟨hleft, hcodes⟩ := Prod.mk.inj hrest
    refine ⟨(doHkaConversion true raw t s).settle, rfl, by rw [State.settle_hka, hleft], ?_⟩
    rw [State.settle_hka, hcodes, tabFind_tabSet_self, hkaCode_at]
  · intro s t r hs hopen hdue
    have hdo : doHkaRecordClose t s = (s.at t).hkaClose := by
      unfold doHkaRecordClose
      dsimp only
      rw [State.at_hka, hopen]
      exact if_pos (by rw [State.at_now]; exact hdue)
    obtain ⟨hpulses, hclosed, j, hjournal, hcls⟩ := hkaClose_commits (s := s.at t) (by rw [State.at_hka, hopen])
    have hquiet : (doHkaRecordClose t s).rcd.pulses = [] := by
      rw [hdo, hpulses]
      exact (congrArg RecState.pulses (State.at_rcd s t)).trans hs.2
    refine ⟨(doHkaRecordClose t s).settle, j, rfl, by rw [State.settle_hka, hdo, hclosed], ?_, hcls⟩
    rw [settle_of_no_pulses hquiet, hdo]
    exact hjournal.trans (by rw [State.at_tp])
  · intro s factors t f hon hcal hdue hlen hgood
    have hdo : doHkaCalibrationComplete factors t s = (s.at t).stopCal.passCal factors :=
      (doHkaCalibrationComplete_ends hon hcal hdue hlen).trans (if_pos hgood)
    obtain ⟨hdone, hgo, hhka⟩ := passCal_shows (s.at t).stopCal factors
    refine ⟨(doHkaCalibrationComplete factors t s).settle, rfl, ?_⟩
    rw [hdo]
    refine ⟨by rw [State.settle_hka, hhka, stopCal_calFrom], by rw [State.settle_getF _ _ (by decide), hgo, stopCal_go],
      by rw [State.settle_getF _ _ (by decide), hdone], fun g => ?_⟩
    obtain ⟨hofs, hgain⟩ := takeFactors_shows (s.at t).stopCal hlen hgood g.isLt
    have hshown (f : Field) (hf : f.addr = 0x171DC + 4 * g.val) :
        ((s.at t).stopCal.passCal factors).settle.getF f = ((s.at t).stopCal.takeFactors factors).getF f := by
      have hword := factorWord_hka g.isLt hf
      have hne : f.addr ≠ 0x171D8 := by omega
      rw [State.settle_getF _ _ (by rw [hword.1]; decide), passCal_getF _ _ hword hne]
    exact ⟨(getI_congr (hshown _ rfl)).trans hofs, (hshown _ rfl).trans hgain⟩
  · intro s factors t f hon hcal hdue hlen hbad
    have hdo : doHkaCalibrationComplete factors t s = (s.at t).stopCal.badCal :=
      (doHkaCalibrationComplete_ends hon hcal hdue hlen).trans (if_neg (by rw [hbad]; decide))
    obtain ⟨hfail, hgo, hhka⟩ := badCal_shows (s.at t).stopCal
    refine ⟨(doHkaCalibrationComplete factors t s).settle, rfl, ?_⟩
    rw [hdo]
    refine ⟨by rw [State.settle_hka, hhka, stopCal_calFrom], by rw [State.settle_getF _ _ (by decide), hgo, stopCal_go],
      by rw [State.settle_getF _ _ (by decide), hfail], fun g => ?_⟩
    have hkept (f : Field) (hf : f.addr = 0x171DC + 4 * g.val) : (s.at t).stopCal.badCal.settle.getF f = s.getF f := by
      have hword := factorWord_hka g.isLt hf
      have hne : f.addr ≠ 0x171D8 := by omega
      rw [State.settle_getF _ _ (by rw [hword.1]; decide), badCal_getF _ hword hne, stopCal_getF _ hne, State.at_getF]
    exact ⟨getI_congr (hkept _ rfl), hkept _ rfl⟩

end Sys2Proof.Machine
end

section
/-! PROOFS. Mount sensing: what updates of a channel's status leave alone (R416 to R418). -/

namespace Sys2Proof.Machine

/-! ## Results that status leaves alone -/

/-- The words of the channels' settings, the count of sets, the magnitudes of checks and the raw values. -/
abbrev mountWord (a : Nat) : Prop :=
  (0x18100 ≤ a ∧ a < 0x18130) ∨ a = 0x19120 ∨ (0x1000000 ≤ a ∧ (a % 0x1000000 = 0x18164 ∨ a % 0x1000000 = 0x19118))

/-- Only the status of channels has changed: not the set in use, the decimators, or a word of `mountWord`. -/
structure State.MountKept (s u : State) : Prop where
  used : u.exc.used = s.exc.used
  filters : u.exc.filters = s.exc.filters
  regs : ∀ f, mountWord f.addr → u.getF f = s.getF f

theorem State.MountKept.refl (s : State) : s.MountKept s := ⟨rfl, rfl, fun _ _ => rfl⟩

theorem State.MountKept.trans {s u v : State} (h : s.MountKept u) (k : u.MountKept v) : s.MountKept v :=
  ⟨k.used.trans h.used, k.filters.trans h.filters, fun f hf => (k.regs f hf).trans (h.regs f hf)⟩

theorem State.MountKept.filterOf {s u : State} (h : s.MountKept u) (c : Nat) : u.filterOf c = s.filterOf c := by
  rw [State.filterOf, h.filters, State.filterOf]

theorem mountKept_of_exc {s u : State} (hexc : u.exc = s.exc) (hregs : ∀ f, mountWord f.addr → u.getF f = s.getF f) : s.MountKept u :=
  ⟨by rw [hexc], by rw [hexc], hregs⟩

theorem setF_kept (s : State) (f : Field) (v : Nat) (h : ¬ mountWord f.addr) : s.MountKept (s.setF f v) :=
  mountKept_of_exc (State.setF_exc s f v) fun g hg => getF_setF_other s f g v fun e => h (e ▸ hg)

theorem bump_kept (s : State) (f : Field) (n : Nat) (h : ¬ mountWord f.addr) : s.MountKept (s.bump f n) := setF_kept s f _ h

theorem raiseEvt_kept (s : State) (p bit : Nat) : s.MountKept (s.raiseEvt p bit) :=
  mountKept_of_exc (State.raiseEvt_exc s p bit) fun g hg => State.raiseEvt_getF s p bit g (by simp only [mountWord] at hg; omega)

/-- A change of the mount state beside the set in use and the decimators. -/
theorem mapExc_kept (s : State) (g : ExcState → ExcState) (hused : (g s.exc).used = s.exc.used) (hfilters : (g s.exc).filters = s.exc.filters) :
    s.MountKept (s.mapExc g) := ⟨hused, hfilters, fun _ _ => rfl⟩

section
variable {c : Nat} (hc : c < 12)
include hc

/-- The status word of a channel is none of them. -/
theorem statWord_not_mount {f : Field} (hf : f.addr = 0x18130 + 4 * c) : ¬ mountWord f.addr := by
  simp only [mountWord]
  omega

theorem setChFlag_kept (s : State) (k : Nat) (b : Bool) : s.MountKept (s.setChFlag c k b) := setF_kept s (chFlags c) _ (statWord_not_mount hc rfl)

theorem unsettle_kept (s : State) (from_ : Nat) : s.MountKept (s.unsettle c from_) :=
  ((setF_kept s (F.EXC_STAT.SETTLE.idx c) _ (statWord_not_mount hc rfl)).trans (setChFlag_kept hc _ 0 true)).trans (mapExc_kept _ _ rfl rfl)

theorem clearOvr_kept (s : State) : s.MountKept (s.clearOvr c) := by
  unfold State.clearOvr
  split
  · exact (setChFlag_kept hc s 1 false).trans (raiseEvt_kept _ 24 4)
  · exact .refl s

/-- The comparator of the channel has tripped at the present instant. -/
def State.noteTrip (s : State) (c : Nat) : State :=
  s.mapExc (fun x => { x with calm := tabDel c x.calm, tripped := c :: x.tripped.filter (· ≠ c), tripAt := tabSet c s.now x.tripAt })

/-- OVR is set. -/
def State.raiseOvr (s : State) (c : Nat) : State :=
  ((s.setChFlag c 1 true).mapExc (fun x => { x with ovrAt := tabSet c s.now x.ovrAt, ovrNew := c :: x.ovrNew.filter (· ≠ c) })).raiseEvt 24 0

omit hc in
theorem tripOvr_eq (s : State) (c : Nat) : s.tripOvr c = if (s.noteTrip c).chFlag c 1 then s.noteTrip c else (s.noteTrip c).raiseOvr c := rfl

theorem raiseOvr_kept (s : State) : s.MountKept (s.raiseOvr c) :=
  ((setChFlag_kept hc s 1 true).trans (mapExc_kept _ _ rfl rfl)).trans (raiseEvt_kept _ 24 0)

omit hc in
theorem noteTrip_kept (s : State) (c : Nat) : s.MountKept (s.noteTrip c) := mapExc_kept _ _ rfl rfl

theorem tripOvr_kept (s : State) : s.MountKept (s.tripOvr c) := by
  rw [tripOvr_eq]
  split
  · exact noteTrip_kept s c
  · exact (noteTrip_kept s c).trans (raiseOvr_kept hc _)

theorem clearFaults_kept (s : State) : s.MountKept (s.clearFaults c) := by
  unfold State.clearFaults
  split
  · exact (((((setChFlag_kept hc s 2 false).trans (setChFlag_kept hc _ 3 false)).trans (setChFlag_kept hc _ 4 false)).trans
      (raiseEvt_kept _ 24 4)).trans (unsettle_kept hc _ _)).trans (clearOvr_kept hc _)
  · exact .refl s

/-! ## Checks (R417) -/

/-- A fault flag that a check sets. -/
def State.raiseFault (s : State) (c k bit : Nat) : State := ((s.setChFlag c k true).bump F.EXC_CNT.HIGH 1).raiseEvt 24 bit

theorem raiseFault_kept (s : State) (k bit : Nat) : s.MountKept (s.raiseFault c k bit) :=
  ((setChFlag_kept hc s k true).trans (bump_kept _ F.EXC_CNT.HIGH 1 (by decide))).trans (raiseEvt_kept _ 24 bit)

/-- A good check that takes an over range for transient. -/
def State.noteTransient (s : State) (transient : Bool) : State := if transient then (s.bump F.EXC_CNT.LOW 1).raiseEvt 24 5 else s

omit hc in
theorem noteTransient_kept (s : State) (transient : Bool) : s.MountKept (s.noteTransient transient) := by
  unfold State.noteTransient
  split
  · exact (bump_kept s F.EXC_CNT.LOW 1 (by decide)).trans (raiseEvt_kept _ 24 5)
  · exact .refl s

theorem judgeCheck_kept (s : State) (mag : Nat) : s.MountKept (s.judgeCheck c mag) := by
  unfold State.judgeCheck
  extract_lets +onlyGivenNames lo hi
  split
  · exact .refl s
  · split
    · extract_lets +onlyGivenNames u
      have hu : s.MountKept u := mapExc_kept _ _ rfl rfl
      clear_value u
      split
      · exact hu
      · exact hu.trans (raiseFault_kept hc u 3 2)
    · split
      · extract_lets +onlyGivenNames n u
        have hu : s.MountKept u := mapExc_kept _ _ rfl rfl
        clear_value u
        split
        · exact hu
        · exact hu.trans (raiseFault_kept hc u 4 3)
      · extract_lets +onlyGivenNames n transient u v
        have hu : s.MountKept u := mapExc_kept _ _ rfl rfl
        have hv : u.MountKept v := noteTransient_kept u transient
        clear_value u v
        split
        · exact (hu.trans hv).trans (clearFaults_kept hc v)
        · exact hu.trans hv

omit hc in
theorem setChFlag_self (s : State) {k : Nat} (hk : k < 7) (b : Bool) : (s.setChFlag c k b).chFlag c k = b :=
  testBit_getF_setBit s (chFlags c) k b (by decide : 1 + 7 ≤ 32) hk

theorem raiseEvt_chFlag (s : State) (p bit k : Nat) : (s.raiseEvt p bit).chFlag c k = s.chFlag c k := by
  refine bitF_congr (State.raiseEvt_getF s p bit (chFlags c) ?_) k
  have haddr : (chFlags c).addr = 0x18130 + 4 * c := rfl
  rw [haddr]
  omega

/-- A check above the window leaves OPEN set. -/
theorem judgeCheck_open (s : State) {mag : Nat} (hwin : s.getF (linF c 52 16 16) ≠ 0) (hmag : s.getF (linF c 52 16 16) < mag) :
    (s.judgeCheck c mag).chFlag c 3 = true := by
  unfold State.judgeCheck
  extract_lets +onlyGivenNames lo hi
  rw [if_neg hwin, if_pos hmag]
  extract_lets +onlyGivenNames u
  clear_value u
  split
  · next h => exact h
  · rw [raiseEvt_chFlag hc]
    refine (bitF_congr (getF_setF_other _ F.EXC_CNT.HIGH (chFlags c) _ ?_) 3).trans (setChFlag_self u (by decide) true)
    have haddr : (chFlags c).addr = 0x18130 + 4 * c := rfl
    rw [haddr, show F.EXC_CNT.HIGH.addr = 0x18180 from rfl]
    omega

end

end Sys2Proof.Machine
end

section
/-! PROOFS. An output set of the digital filter (O54). -/

namespace Sys2Proof.Machine

/-- The words of the channels' settings and the count of sets. -/
abbrev settingWord (a : Nat) : Prop := (0x18100 ≤ a ∧ a < 0x18130) ∨ a = 0x19120

/-! ## What the lands and the filter depend on (R409 to R411) -/

/-- A sample with an excitation reads the same in states of one setting of the channels. -/
theorem landRaw_congr {s u : State} {c : Nat} {x : LandSample} (hc : c < 12)
    (hregs : ∀ f, 0x18100 ≤ f.addr → f.addr < 0x18130 → u.getF f = s.getF f)
    (hland : u.free = s.free ∨ 8 ≤ c ∨ x.lands ≠ 0) : u.landRaw c x = s.landRaw c x := by
  have hword (f : Field) (hf : f.addr = 0x18100 + 4 * c) : u.getF f = s.getF f := hregs f (by omega) (by omega)
  have hgain : u.getF (F.EXC_CH.GAIN.idx c) = s.getF (F.EXC_CH.GAIN.idx c) := hword _ rfl
  have hwires : u.flag (F.EXC_CH.WIRES.idx c) = s.flag (F.EXC_CH.WIRES.idx c) := by
    rw [State.flag, hword (F.EXC_CH.WIRES.idx c) rfl, State.flag]
  unfold State.landRaw
  rw [hgain, hwires]
  dsimp only
  split
  · split
    · next hbridge hnone =>
      have hfree : u.free = s.free := hland.resolve_right fun h => h.elim (by omega) fun h => h hnone
      rw [State.freeNat, hfree, State.freeNat]
    · rfl
  · rfl

theorem firOut_congr {s u : State} (hused : u.exc.used = s.exc.used) (hram : u.ram = s.ram) (f : Decimator) : u.firOut f = s.firOut f := by
  have hat (a : Nat) : u.ramAt a = s.ramAt a := by rw [State.ramAt, hram, State.ramAt]
  have htap (src bank preset k : Nat) : u.setTap src bank preset k = s.setTap src bank preset k := by
    unfold State.setTap
    rw [hat]
  have htaps (src bank : Nat) : u.setTaps src bank = s.setTaps src bank := by
    unfold State.setTaps
    rw [hat]
  unfold State.firOut
  rw [hused]
  simp only [htap, htaps]

/-- A fraction goes to one of its two neighbours. -/
theorem openRound_bounds (s : State) (q : Rat) : q.floor ≤ s.openRound q ∧ s.openRound q ≤ q.floor + 1 := by
  unfold State.openRound
  split
  · next h =>
    have hfloor : q.floor = q.num := by rw [Rat.floor_def, h, Nat.cast_one, Int.ediv_one]
    omega
  · omega

/-! ## The set in force (R415) -/

/-- A set comes into use: its length, delay and settling are shown. -/
def State.useSet (s : State) (cfg : Nat × Nat × Nat) : State :=
  (((s.mapExc (fun x => { x with used := cfg })).setF F.DFL_BANK_STAT.NTAPS (s.setTaps cfg.1 cfg.2.1)).setF F.DFL_DELAY.NS
    ((groupDelay (presetD1 cfg.2.2) (s.setTaps cfg.1 cfg.2.1) + 16) / 32)).setF F.DFL_SETTLE.COUNT (settleCount (s.setTaps cfg.1 cfg.2.1))

/-- The event of a change of coefficients. -/
def State.noteSet (s : State) (same : Bool) : State := if same then s else s.raiseEvt 25 0

/-- Every CIC decimator starts again, and every enabled channel settles. -/
def State.restartFilters (s : State) : State :=
  let u := s.mapExc (fun x => { x with filters := x.filters.map (fun e => (e.1, { Decimator.reset with fir := e.2.fir })) })
  (List.range 12).foldl (fun s c => if s.flag (chEn c) then s.unsettle c s.now else s) (u.raiseEvt 25 1)

theorem dflUpdate_eq (s : State) : s.dflUpdate =
    if s.dflConfig = s.exc.used then s
    else
      let u := (s.useSet s.dflConfig).noteSet (decide ((s.dflConfig.1, s.dflConfig.2.1) = (s.exc.used.1, s.exc.used.2.1)))
      if s.dflConfig.2.2 = s.exc.used.2.2 then u else u.restartFilters := by
  unfold State.dflUpdate
  rcases hnew : s.dflConfig with ⟨src, bank, preset⟩
  rcases hold : s.exc.used with ⟨src0, bank0, preset0⟩
  simp only [State.noteSet, decide_eq_true_eq]
  rfl

theorem useSet_shows (s : State) (cfg : Nat × Nat × Nat) :
    (s.useSet cfg).exc.used = cfg ∧ ∀ f, mountWord f.addr → (s.useSet cfg).getF f = s.getF f := by
  have hset (u : State) (g : Field) (v : Nat) (hg : ¬ mountWord g.addr) (f : Field) (hf : mountWord f.addr) : (u.setF g v).getF f = u.getF f :=
    getF_setF_other u g f v fun h => hg (h ▸ hf)
  unfold State.useSet
  refine ⟨by rw [State.setF_exc, State.setF_exc, State.setF_exc, State.mapExc], fun f hf => ?_⟩
  rw [hset _ F.DFL_SETTLE.COUNT _ (by decide) f hf, hset _ F.DFL_DELAY.NS _ (by decide) f hf, hset _ F.DFL_BANK_STAT.NTAPS _ (by decide) f hf]
  rfl

theorem noteSet_kept (s : State) (same : Bool) : s.MountKept (s.noteSet same) := by
  unfold State.noteSet
  split
  · exact .refl s
  · exact raiseEvt_kept s 25 0

/-- A loop over the channels whose turns leave all but status leaves all but status. -/
theorem foldl_kept (g : State → Nat → State) (hg : ∀ (u : State) c, c < 12 → u.MountKept (g u c)) (s : State) :
    s.MountKept ((List.range 12).foldl g s) := by
  have key : ∀ (l : List Nat) (s : State), (∀ c ∈ l, c < 12) → s.MountKept (l.foldl g s) := by
    intro l
    induction l with
    | nil => exact fun s _ => .refl s
    | cons c l ih => exact fun s h => (hg s c (h c List.mem_cons_self)).trans (ih _ fun d hd => h d (List.mem_cons_of_mem _ hd))
  exact key _ s fun c => List.mem_range.1

theorem restartFilters_shows (s : State) :
    s.restartFilters.exc.used = s.exc.used ∧ ∀ f, mountWord f.addr → s.restartFilters.getF f = s.getF f := by
  unfold State.restartFilters
  extract_lets _ u
  have hu : u.exc.used = s.exc.used ∧ ∀ f, u.getF f = s.getF f := ⟨rfl, fun _ => rfl⟩
  obtain ⟨hused, hregs⟩ := hu
  clear_value u
  have hkept := (raiseEvt_kept u 25 1).trans (foldl_kept (fun s c => if s.flag (chEn c) then s.unsettle c s.now else s) (fun v c hc => by
    split
    · exact unsettle_kept hc v v.now
    · exact .refl v) (u.raiseEvt 25 1))
  exact ⟨hkept.used.trans hused, fun f hf => (hkept.regs f hf).trans (hregs f)⟩

theorem dflUpdate_shows (s : State) : s.dflUpdate.exc.used = s.dflConfig ∧ ∀ f, mountWord f.addr → s.dflUpdate.getF f = s.getF f := by
  rw [dflUpdate_eq]
  split
  · next h => exact ⟨h.symm, fun _ _ => rfl⟩
  · obtain ⟨hused, hregs⟩ := useSet_shows s s.dflConfig
    have hnote := noteSet_kept (s.useSet s.dflConfig) (decide ((s.dflConfig.1, s.dflConfig.2.1) = (s.exc.used.1, s.exc.used.2.1)))
    dsimp only
    generalize (s.useSet s.dflConfig).noteSet (decide ((s.dflConfig.1, s.dflConfig.2.1) = (s.exc.used.1, s.exc.used.2.1))) = u at *
    split
    · exact ⟨hnote.used.trans hused, fun f hf => (hnote.regs f hf).trans (hregs f hf)⟩
    · obtain ⟨hused', hregs'⟩ := restartFilters_shows u
      exact ⟨hused'.trans (hnote.used.trans hused), fun f hf => (hregs' f hf).trans ((hnote.regs f hf).trans (hregs f hf))⟩

/-! ## The result of a channel -/

/-- The raw value and VALUE of channel `c` are shown. -/
def State.putRaw (s : State) (c : Nat) (raw v : Int) : State := (s.setI (F.DFL_OUT_RAW.VALUE.inst c) raw).setI (F.DFL_OUT_LIN.VALUE.inst c) v

/-- Channel `c` shows a raw value; beside it only status has changed. -/
structure State.Shows (s : State) (c : Nat) (raw : Int) (u : State) : Prop where
  used : u.exc.used = s.exc.used
  filters : u.exc.filters = s.exc.filters
  regs : ∀ f, mountWord f.addr → f.addr ≠ (F.DFL_OUT_RAW.VALUE.inst c).addr → u.getF f = s.getF f
  raw : u.getI (F.DFL_OUT_RAW.VALUE.inst c) =
    clampInt (-(2 ^ (F.DFL_OUT_RAW.VALUE.width - 1) : Nat)) ((2 ^ (F.DFL_OUT_RAW.VALUE.width - 1) : Nat) - 1) raw

theorem rawWord (c : Nat) : mountWord (F.DFL_OUT_RAW.VALUE.inst c).addr := by
  simp only [mountWord, Field.inst]
  omega

theorem State.Shows.kept_left {s u v : State} {c : Nat} {raw : Int} (h : s.MountKept u) (k : u.Shows c raw v) : s.Shows c raw v :=
  ⟨k.used.trans h.used, k.filters.trans h.filters, fun f hf hne => (k.regs f hf hne).trans (h.regs f hf), k.raw⟩

theorem State.Shows.kept_right {s u v : State} {c : Nat} {raw : Int} (h : s.Shows c raw u) (k : u.MountKept v) : s.Shows c raw v :=
  ⟨k.used.trans h.used, k.filters.trans h.filters, fun f hf hne => (k.regs f hf).trans (h.regs f hf hne),
    (getI_congr (k.regs _ (rawWord c))).trans h.raw⟩

theorem putRaw_shows (s : State) (c : Nat) (raw v : Int) : s.Shows c raw (s.putRaw c raw v) := by
  have hlin (f : Field) (hf : mountWord f.addr) : (s.putRaw c raw v).getF f = (s.setI (F.DFL_OUT_RAW.VALUE.inst c) raw).getF f :=
    getF_setF_other _ (F.DFL_OUT_LIN.VALUE.inst c) f _ (by simp only [mountWord, Field.inst] at hf ⊢; omega)
  refine ⟨?_, ?_, fun f hf hne => (hlin f hf).trans (getF_setF_other _ (F.DFL_OUT_RAW.VALUE.inst c) f _ hne), ?_⟩
  · exact congrArg ExcState.used ((State.setI_exc _ _ _).trans (State.setI_exc _ _ _))
  · exact congrArg ExcState.filters ((State.setI_exc _ _ _).trans (State.setI_exc _ _ _))
  · exact (getI_congr (hlin _ (rawWord c))).trans
      (getI_setI s (F.DFL_OUT_RAW.VALUE.inst c) raw (k := 31) (inst_width _ _) (by rw [inst_lsb, inst_width]; decide))

theorem tick_kept (s : State) : s.MountKept s.tick := mountKept_of_exc rfl fun _ _ => rfl

theorem result_shows (s : State) {c : Nat} (hc : c < 12) (raw : Int) (trip : Bool) : s.Shows c raw (s.result c raw trip) := by
  unfold State.result
  extract_lets +onlyGivenNames u v n counts w y
  have hy : s.MountKept y := by
    have hu : s.MountKept u := mapExc_kept _ _ rfl rfl
    have hv : u.MountKept v := clearOvr_kept hc u
    have hw : v.MountKept w := setChFlag_kept hc v 0 _
    refine ((hu.trans hv).trans hw).trans ?_
    simp only [y]
    split
    · exact setF_kept w (F.EXC_STAT.SETTLE.idx c) _ (statWord_not_mount hc rfl)
    · exact .refl w
  clear_value y
  generalize y.linearise c raw = l
  obtain ⟨value, sat, told⟩ := l
  dsimp -zeta only
  extract_lets a b good d e
  have ha : y.MountKept a :=
    ((setChFlag_kept hc y 5 _).trans (setChFlag_kept hc _ 6 told)).trans (tick_kept _)
  have hb : a.MountKept b := by
    simp only [b]
    split
    · exact bump_kept a F.EXC_CNT.LOW 1 (by decide)
    · exact .refl a
  have hd : b.MountKept d := setF_kept b (F.EXC_STAT.GOOD.idx c) _ (statWord_not_mount hc rfl)
  have he : d.Shows c raw e := putRaw_shows d c raw value
  have hall : s.Shows c raw e := State.Shows.kept_left (((hy.trans ha).trans hb).trans hd) he
  clear_value e
  split
  · exact hall.kept_right (mapExc_kept _ _ rfl rfl)
  · exact hall

theorem calStep_kept (s : State) (c : Nat) (raw : Int) : s.MountKept (s.calStep c raw) := by
  unfold State.calStep
  split
  · exact .refl s
  · split
    · exact .refl s
    · extract_lets good
      split
      · split
        · exact .refl s
        · exact mapExc_kept _ _ rfl rfl
      · exact (setF_kept s F.EXC_SCAL.STATE 2 (by decide)).trans (mapExc_kept _ _ rfl rfl)

/-! ## One channel of a set (R411, R412) -/

/-- The decimators of a channel after its samples. -/
def State.fed (s : State) (c : Nat) (xs : List LandSample) : Decimator :=
  (xs.map (s.landRaw c)).foldl (Decimator.feed (presetD1 s.exc.used.2.2)) (s.filterOf c)

theorem feedChannel_shows (s : State) (c : Nat) (xs : List LandSample) :
    (s.feedChannel c xs).exc.used = s.exc.used ∧ (s.feedChannel c xs).filterOf c = s.fed c xs ∧
      (∀ i, i ≠ c → (s.feedChannel c xs).filterOf i = s.filterOf i) ∧ (s.feedChannel c xs).ram = s.ram ∧
      ∀ f, (s.feedChannel c xs).getF f = s.getF f := by
  have hexc : (s.feedChannel c xs).exc = { s.exc with filters := tabSet c (s.fed c xs) s.exc.filters } := rfl
  refine ⟨by rw [hexc], ?_, fun i hi => ?_, rfl, fun _ => rfl⟩
  · rw [State.filterOf, hexc, tabFind_tabSet_self]
    rfl
  · rw [State.filterOf, hexc, tabFind_tabSet_other _ _ hi, State.filterOf]

/-- The state of an enabled channel with its trip noted. -/
def State.noteTrips (s : State) (trips : List Nat) (c : Nat) : State := if trips.contains c then s.tripOvr c else s

theorem noteTrips_kept (s : State) (trips : List Nat) {c : Nat} (hc : c < 12) : s.MountKept (s.noteTrips trips c) := by
  unfold State.noteTrips
  split
  · exact tripOvr_kept hc s
  · exact .refl s

theorem noteTrips_ram (s : State) (trips : List Nat) (c : Nat) : (s.noteTrips trips c).ram = s.ram := by
  unfold State.noteTrips
  split
  · exact tripOvr_part (π := .banks) (by decide) s c
  · rfl

/-- The raw value that a channel gets in a set. -/
def State.rawOf (s : State) (c : Nat) : Int := s.openRound (s.firOut (s.filterOf c))

theorem channelSet_enabled {s : State} (raws : List (List LandSample)) (trips : List Nat) {c : Nat} (hen : s.flag (chEn c) = true) :
    s.channelSet raws trips c =
      (((s.noteTrips trips c).feedChannel c (nth [] raws c)).tick.result c (((s.noteTrips trips c).feedChannel c (nth [] raws c)).rawOf c)
        (trips.contains c)).calStep c (((s.noteTrips trips c).feedChannel c (nth [] raws c)).rawOf c) := by
  unfold State.channelSet
  rw [hen, if_neg (by decide)]
  rfl

/-- The samples of a channel have an excitation where they need one (log entry 83). -/
abbrev hasLands (c : Nat) (xs : List LandSample) : Prop := 8 ≤ c ∨ xs.all (fun x => x.lands ≠ 0) = true

theorem fed_congr {s u : State} {c : Nat} {xs : List LandSample} (hc : c < 12) (hused : u.exc.used = s.exc.used)
    (hfilter : u.filterOf c = s.filterOf c) (hregs : ∀ f, 0x18100 ≤ f.addr → f.addr < 0x18130 → u.getF f = s.getF f)
    (hlands : hasLands c xs) :
    u.fed c xs = s.fed c xs := by
  have hraw : xs.map (u.landRaw c) = xs.map (s.landRaw c) := List.map_congr_left fun x hx =>
    landRaw_congr hc hregs (.inr (hlands.imp id fun h => by simpa using List.all_eq_true.1 h x hx))
  rw [State.fed, hraw, hused, hfilter, State.fed]

/-- The set in use, the coefficients and the settings are as they were. -/
structure State.SetAs (s u : State) : Prop where
  used : u.exc.used = s.exc.used
  ram : u.ram = s.ram
  regs : ∀ f, settingWord f.addr → u.getF f = s.getF f

theorem State.SetAs.trans {s u v : State} (h : s.SetAs u) (k : u.SetAs v) : s.SetAs v :=
  ⟨k.used.trans h.used, k.ram.trans h.ram, fun f hf => (k.regs f hf).trans (h.regs f hf)⟩

theorem settingWord_mount {a : Nat} (h : settingWord a) : mountWord a := h.imp id .inl

/-- A turn of the loop over the channels: its own channel's result, and nothing of another's. -/
theorem channelSet_shows {s : State} (raws : List (List LandSample)) (trips : List Nat) {c : Nat} (hc : c < 12) (hen : s.flag (chEn c) = true) :
    s.SetAs (s.channelSet raws trips c) ∧
      (∀ i, i ≠ c → (s.channelSet raws trips c).filterOf i = s.filterOf i ∧
        (s.channelSet raws trips c).getF (F.DFL_OUT_RAW.VALUE.inst i) = s.getF (F.DFL_OUT_RAW.VALUE.inst i)) ∧
      (hasLands c (nth [] raws c) → (s.channelSet raws trips c).filterOf c = s.fed c (nth [] raws c)) ∧
      ∃ v : Int, (s.channelSet raws trips c).getI (F.DFL_OUT_RAW.VALUE.inst c) =
          clampInt (-(2 ^ (F.DFL_OUT_RAW.VALUE.width - 1) : Nat)) ((2 ^ (F.DFL_OUT_RAW.VALUE.width - 1) : Nat) - 1) v ∧
        (s.firOut ((s.channelSet raws trips c).filterOf c)).floor ≤ v ∧ v ≤ (s.firOut ((s.channelSet raws trips c).filterOf c)).floor + 1 := by
  have hram : (s.channelSet raws trips c).ram = s.ram := channelSet_part (π := .banks) (by decide) s raws trips c
  rw [channelSet_enabled raws trips hen] at hram ⊢
  have hnote := noteTrips_kept s trips hc
  have hnoteram := noteTrips_ram s trips c
  generalize s.noteTrips trips c = n at *
  obtain ⟨hused, hown, hothers, hfram, hfregs⟩ := feedChannel_shows n c (nth [] raws c)
  generalize n.feedChannel c (nth [] raws c) = u at *
  have hshows : u.Shows c (u.rawOf c) ((u.tick.result c (u.rawOf c) (trips.contains c)).calStep c (u.rawOf c)) :=
    State.Shows.kept_left (tick_kept u) ((result_shows u.tick hc _ _).kept_right (calStep_kept _ c _))
  generalize (u.tick.result c (u.rawOf c) (trips.contains c)).calStep c (u.rawOf c) = w at *
  have hfilter (i : Nat) : w.filterOf i = u.filterOf i := by rw [State.filterOf, hshows.filters, State.filterOf]
  have hallregs (f : Field) (hf : mountWord f.addr) (hne : f.addr ≠ (F.DFL_OUT_RAW.VALUE.inst c).addr) : w.getF f = s.getF f :=
    (hshows.regs f hf hne).trans ((hfregs f).trans (hnote.regs f hf))
  have husedall : w.exc.used = s.exc.used := hshows.used.trans (hused.trans hnote.used)
  refine ⟨⟨husedall, hram, fun f hf => hallregs f (settingWord_mount hf) ?_⟩, fun i hi => ⟨?_, hallregs _ (rawWord i) ?_⟩,
    fun hlands => ?_, u.rawOf c, hshows.raw, ?_⟩
  · simp only [settingWord, Field.inst] at hf ⊢
    omega
  · rw [hfilter, hothers i hi, hnote.filterOf]
  · simp only [Field.inst]
    omega
  · rw [hfilter, hown]
    exact fed_congr hc hnote.used (hnote.filterOf c) (fun f hlo hhi => hnote.regs f (.inl ⟨hlo, hhi⟩)) hlands
  · rw [hfilter, ← firOut_congr (s := s) (u := u) (hused.trans hnote.used) (hfram.trans hnoteram)]
    exact openRound_bounds u _

theorem channelSet_disabled {s : State} (raws : List (List LandSample)) (trips : List Nat) {c : Nat} (hen : s.flag (chEn c) = false) :
    s.channelSet raws trips c = s := by
  unfold State.channelSet
  rw [hen]
  rfl

/-! ## All channels of a set -/

/-- Every channel of a set has its turn. -/
def State.allChannels (s : State) (raws : List (List LandSample)) (trips : List Nat) : State :=
  (List.range 12).foldl (fun s c => s.channelSet raws trips c) s

theorem channelSet_setAs (s : State) (raws : List (List LandSample)) (trips : List Nat) {c : Nat} (hc : c < 12) :
    s.SetAs (s.channelSet raws trips c) ∧ ∀ i, i ≠ c → (s.channelSet raws trips c).filterOf i = s.filterOf i ∧
      (s.channelSet raws trips c).getF (F.DFL_OUT_RAW.VALUE.inst i) = s.getF (F.DFL_OUT_RAW.VALUE.inst i) := by
  by_cases hen : s.flag (chEn c) = true
  · obtain ⟨has, hothers, -⟩ := channelSet_shows raws trips hc hen
    exact ⟨has, hothers⟩
  · rw [channelSet_disabled raws trips (Bool.eq_false_iff.2 hen)]
    exact ⟨⟨rfl, rfl, fun _ _ => rfl⟩, fun _ _ => ⟨rfl, rfl⟩⟩

theorem allChannels_setAs (s : State) (raws : List (List LandSample)) (trips : List Nat) : s.SetAs (s.allChannels raws trips) := by
  have key : ∀ (l : List Nat) (s : State), (∀ c ∈ l, c < 12) → s.SetAs (l.foldl (fun s c => s.channelSet raws trips c) s) := by
    intro l
    induction l with
    | nil => exact fun s _ => ⟨rfl, rfl, fun _ _ => rfl⟩
    | cons c l ih =>
      exact fun s h => (channelSet_setAs s raws trips (h c List.mem_cons_self)).1.trans (ih _ fun d hd => h d (List.mem_cons_of_mem _ hd))
  exact key _ s fun c => List.mem_range.1

/-- What the turns before a channel's own leave for it. -/
structure State.Awaits (s : State) (c : Nat) (u : State) : Prop where
  set : s.SetAs u
  filter : u.filterOf c = s.filterOf c

/-- What a channel's own turn leaves, and the turns after it keep. -/
structure State.Done (s : State) (raws : List (List LandSample)) (c : Nat) (u : State) : Prop where
  set : s.SetAs u
  filter : hasLands c (nth [] raws c) → u.filterOf c = s.fed c (nth [] raws c)
  raw : ∃ v : Int, u.getI (F.DFL_OUT_RAW.VALUE.inst c) =
      clampInt (-(2 ^ (F.DFL_OUT_RAW.VALUE.width - 1) : Nat)) ((2 ^ (F.DFL_OUT_RAW.VALUE.width - 1) : Nat) - 1) v ∧
    (s.firOut (u.filterOf c)).floor ≤ v ∧ v ≤ (s.firOut (u.filterOf c)).floor + 1

theorem State.Awaits.turn {s u : State} {c : Nat} (h : s.Awaits c u) (raws : List (List LandSample)) (trips : List Nat) (hc : c < 12)
    (hen : s.flag (chEn c) = true) : s.Done raws c (u.channelSet raws trips c) := by
  have hen' : u.flag (chEn c) = true := by
    have hset : settingWord (chEn c).addr := .inl (by
      have haddr : (chEn c).addr = 0x18100 + 4 * c := rfl
      omega)
    rw [State.flag, h.set.regs _ hset]
    exact hen
  obtain ⟨hset, -, hfilter, v, hraw, hlo, hhi⟩ := channelSet_shows raws trips hc hen'
  rw [firOut_congr h.set.used h.set.ram] at hlo hhi
  refine ⟨h.set.trans hset, fun hlands => ?_, v, hraw, hlo, hhi⟩
  rw [hfilter hlands]
  exact fed_congr hc h.set.used h.filter (fun f hlo hhi => h.set.regs f (.inl ⟨hlo, hhi⟩)) hlands

theorem State.Done.later {s u : State} {raws : List (List LandSample)} {c : Nat} (h : s.Done raws c u) (trips : List Nat) {j : Nat} (hj : j < 12)
    (hne : c ≠ j) : s.Done raws c (u.channelSet raws trips j) := by
  obtain ⟨hset, hothers⟩ := channelSet_setAs u raws trips hj
  obtain ⟨hfilter, hreg⟩ := hothers c hne
  obtain ⟨v, hraw, hbounds⟩ := h.raw
  exact ⟨h.set.trans hset, fun hlands => hfilter.trans (h.filter hlands), v, (getI_congr hreg).trans hraw, by rwa [hfilter]⟩

/-- The loop over the channels gives each enabled one its result. -/
theorem allChannels_done (s : State) (raws : List (List LandSample)) (trips : List Nat) {c : Nat} (hc : c < 12) (hen : s.flag (chEn c) = true) :
    s.Done raws c (s.allChannels raws trips) := by
  refine foldl_range_turn (B := s.Awaits c) (D := s.Done raws c) hc ⟨⟨rfl, rfl, fun _ _ => rfl⟩, rfl⟩ (fun u j hj hne h => ?_)
    (fun u h => h.turn raws trips hc hen) (fun u j hj hne h => h.later trips hj hne)
  obtain ⟨hset, hothers⟩ := channelSet_setAs u raws trips hj
  exact ⟨h.set.trans hset, (hothers c hne).1.trans h.filter⟩

/-! ## After the channels (R423, R424) -/

/-- A step of the triple: only status, and no comparator's trip. -/
abbrev State.TripleKept (s u : State) : Prop := s.MountKept u ∧ u.exc.tripped = s.exc.tripped

theorem State.TripleKept.trans {s u v : State} (h : s.TripleKept u) (k : u.TripleKept v) : s.TripleKept v :=
  ⟨h.1.trans k.1, k.2.trans h.2⟩

theorem setF_triple (s : State) (f : Field) (v : Nat) (h : ¬ mountWord f.addr) : s.TripleKept (s.setF f v) :=
  ⟨setF_kept s f v h, congrArg ExcState.tripped (State.setF_exc s f v)⟩

theorem crm_triple (s : State) (x : CremaState) : s.TripleKept { s with crm := x } := ⟨mountKept_of_exc rfl fun _ _ => rfl, rfl⟩

theorem mountTriple_kept (s : State) (time : Nat) : s.TripleKept (s.mountTriple time) := by
  unfold State.mountTriple
  split
  · exact setF_triple s F.EXC_MNT_CTL.DELIVERED 0 (by decide)
  · extract_lets +onlyGivenNames used ok
    split
    · exact (setF_triple s F.EXC_MNT_CNT.HIGH _ (by decide)).trans (setF_triple _ F.EXC_MNT_CTL.DELIVERED 0 (by decide))
    · extract_lets +onlyGivenNames n u v
      have hu : s.TripleKept u := by
        simp only [u]
        split
        · exact setF_triple s F.EXC_MNT_CNT.LOW _ (by decide)
        · exact ⟨.refl s, rfl⟩
      have hv : s.TripleKept v := by
        refine hu.trans (State.TripleKept.trans ?_ (setF_triple _ F.EXC_MNT_CTL.DELIVERED 1 (by decide)))
        exact ⟨mapExc_kept _ _ rfl rfl, rfl⟩
      clear_value v
      split
      · exact hv
      · extract_lets +onlyGivenNames a need before _ w
        have hw : v.TripleKept w := crm_triple v _
        clear_value w
        split
        · exact (hv.trans hw).trans ((((setF_triple w F.CRM_MNT_ROLL.ANGLE _ (by decide)).trans
            (setF_triple _ F.CRM_MNT_PITCH.ANGLE _ (by decide))).trans (setF_triple _ F.CRM_MNT_YAW.ANGLE _ (by decide))).trans
            (setF_triple _ F.CRM_MOUNT.STALE 0 (by decide)))
        · exact hv.trans hw

theorem dflRecord_exc (s : State) (tai : Nat) : (s.dflRecord tai).exc = s.exc ∧ ∀ f, (s.dflRecord tai).getF f = s.getF f := by
  unfold State.dflRecord
  split
  · exact ⟨rfl, fun _ => rfl⟩
  · exact ⟨State.commitRecord_exc _ _ _ _, fun f => State.commitRecord_getF _ _ _ _ f⟩

/-! ## The command -/

/-- A set begins: the set in force is taken into use and the set is counted. -/
def State.beginSet (s : State) : State := s.dflUpdate.setF F.DFL_SETS.COUNT (s.dflUpdate.getF F.DFL_SETS.COUNT + 1)

theorem beginSet_shows (s : State) : s.beginSet.exc.used = s.dflConfig ∧ s.beginSet.exc = s.dflUpdate.exc ∧
    s.beginSet.getF F.DFL_SETS.COUNT = (s.getF F.DFL_SETS.COUNT + 1) % 2 ^ F.DFL_SETS.COUNT.width ∧
    ∀ f, 0x18100 ≤ f.addr → f.addr < 0x18130 → s.beginSet.getF f = s.getF f := by
  obtain ⟨hused, hregs⟩ := dflUpdate_shows s
  have hexc : s.beginSet.exc = s.dflUpdate.exc := State.setF_exc _ _ _
  refine ⟨by rw [hexc, hused], hexc, ?_, fun f hlo hhi => ?_⟩
  · rw [State.beginSet, getF_setF_self _ F.DFL_SETS.COUNT _ (by decide), hregs _ (by decide)]
  · have hne : f.addr ≠ 0x19120 := by omega
    exact (getF_setF_other _ F.DFL_SETS.COUNT f _ hne).trans (hregs f (.inl ⟨hlo, hhi⟩))

theorem beginSet_trips (s : State) (raws : List (List LandSample)) (tripped : Nat) :
    s.beginSet.trips raws tripped = s.dflUpdate.trips raws tripped := by
  have hfree : s.beginSet.free = s.dflUpdate.free := rfl
  have hregs (f : Field) (hf : f.addr < 0x18130) : s.beginSet.getF f = s.dflUpdate.getF f := by
    have hne : f.addr ≠ 0x19120 := by omega
    exact getF_setF_other _ F.DFL_SETS.COUNT f _ hne
  have hland (c : Nat) (hc : c < 12) (x : LandSample) : s.beginSet.landRaw c x = s.dflUpdate.landRaw c x :=
    landRaw_congr hc (fun f _ hhi => hregs f hhi) (.inl hfree)
  unfold State.trips
  refine List.filter_congr fun c hc => ?_
  simp only [hland c (List.mem_range.1 hc)]

/-- The comparators' trips of the set stand. -/
def State.standTrips (s : State) (trips : List Nat) : State := s.mapExc (fun x => { x with tripped := trips })

theorem doDflOutputSet_eq {s : State} {raws : List (List LandSample)} (tripped t : Nat) (hon : s.on 10 = true) (hlen : raws.length = 12) :
    ∃ time tai, doDflOutputSet raws tripped t s = ((((s.at t).beginSet.allChannels raws ((s.at t).beginSet.trips raws tripped)).standTrips
      ((s.at t).beginSet.trips raws tripped)).mountTriple time).dflRecord tai := by
  have hgo : ¬ (!(s.at t).on 10 || decide (raws.length ≠ 12)) = true := by
    rw [State.at_on, hon, hlen]
    decide
  unfold doDflOutputSet
  extract_lets +onlyGivenNames u
  rw [if_neg hgo]
  exact ⟨_, _, rfl⟩

end Sys2Proof.Machine
end

section
/-! PROOFS. Faults, checks and calibration steps of mount sensing, and O54. -/

namespace Sys2Proof.Machine

/-! ## The output set at the end of its command (R412) -/

/-- The state that an output set ends in. -/
structure State.SetDone (s : State) (raws : List (List LandSample)) (tripped : Nat) (u : State) : Prop where
  count : u.getF F.DFL_SETS.COUNT = (s.getF F.DFL_SETS.COUNT + 1) % 2 ^ F.DFL_SETS.COUNT.width
  used : u.exc.used = s.dflConfig
  trips : u.exc.tripped = s.dflUpdate.trips raws tripped
  ram : u.ram = s.beginSet.ram
  channels : ∀ c < 12, s.flag (chEn c) = true → s.beginSet.Done raws c u

theorem chEn_word (c : Nat) (hc : c < 12) : 0x18100 ≤ (chEn c).addr ∧ (chEn c).addr < 0x18130 := by
  have haddr : (chEn c).addr = 0x18100 + 4 * c := rfl
  omega

theorem flag_chEn_congr {s u : State} {c : Nat} (h : u.getF (chEn c) = s.getF (chEn c)) : u.flag (chEn c) = s.flag (chEn c) := by
  rw [State.flag, h, State.flag]

/-- What leaves all but status leaves a finished channel finished. -/
theorem State.Done.kept {s u v : State} {raws : List (List LandSample)} {c : Nat} (h : s.Done raws c u) (k : u.MountKept v) (hram : v.ram = u.ram) :
    s.Done raws c v := by
  obtain ⟨x, hraw, hbounds⟩ := h.raw
  exact ⟨h.set.trans ⟨k.used, hram, fun f hf => k.regs f (settingWord_mount hf)⟩, fun hlands => (k.filterOf c).trans (h.filter hlands),
    x, (getI_congr (k.regs _ (rawWord c))).trans hraw, by rwa [k.filterOf]⟩

theorem endSet_done (s : State) (raws : List (List LandSample)) (tripped time tai : Nat) :
    s.SetDone raws tripped ((((s.beginSet.allChannels raws (s.beginSet.trips raws tripped)).standTrips
      (s.beginSet.trips raws tripped)).mountTriple time).dflRecord tai) := by
  obtain ⟨hused, -, hcount, hregs⟩ := beginSet_shows s
  rw [beginSet_trips]
  generalize htr : s.dflUpdate.trips raws tripped = trips
  have hset := allChannels_setAs s.beginSet raws trips
  have hdone (c : Nat) (hc : c < 12) (hen : s.flag (chEn c) = true) : s.beginSet.Done raws c (s.beginSet.allChannels raws trips) :=
    allChannels_done s.beginSet raws trips hc
      ((flag_chEn_congr (hregs _ (chEn_word c hc).1 (chEn_word c hc).2)).trans hen)
  generalize s.beginSet.allChannels raws trips = u at *
  have hstand : u.MountKept (u.standTrips trips) := mapExc_kept _ _ rfl rfl
  have hstood : (u.standTrips trips).exc.tripped = trips ∧ (u.standTrips trips).ram = u.ram := ⟨rfl, rfl⟩
  obtain ⟨htrips, hram⟩ := hstood
  generalize u.standTrips trips = v at *
  obtain ⟨htriple, htrips'⟩ := mountTriple_kept v time
  have hram' : (v.mountTriple time).ram = v.ram := mountTriple_part (π := .banks) (by decide) v time
  generalize v.mountTriple time = w at *
  obtain ⟨hexc, hrec⟩ := dflRecord_exc w tai
  have hram'' : (w.dflRecord tai).ram = w.ram := dflRecord_part (π := .banks) w tai
  generalize w.dflRecord tai = z at *
  have hkept : u.MountKept z := (hstand.trans htriple).trans (mountKept_of_exc hexc fun f _ => hrec f)
  have hramall : z.ram = u.ram := hram''.trans (hram'.trans hram)
  refine ⟨?_, ?_, ?_, hramall.trans hset.ram, fun c hc hen => (hdone c hc hen).kept hkept hramall⟩
  · rw [hkept.regs _ (by decide), hset.regs _ (by decide), hcount]
  · rw [hkept.used, hset.used, hused]
  · rw [hexc, htrips', htrips, htr]

theorem settle_mountKept (s : State) : s.MountKept s.settle := by
  refine mountKept_of_exc (State.settle_exc s) fun f hf => State.settle_getF s f ?_
  simp only [mountWord] at hf
  omega

theorem settle_setDone {s u : State} {raws : List (List LandSample)} {tripped : Nat} (h : s.SetDone raws tripped u) :
    s.SetDone raws tripped u.settle where
  count := ((settle_mountKept u).regs _ (by decide)).trans h.count
  used := (settle_mountKept u).used.trans h.used
  trips := by rw [State.settle_exc, h.trips]
  ram := (State.settle_ram u).trans h.ram
  channels := fun c hc hen => (h.channels c hc hen).kept (settle_mountKept u) (State.settle_ram u)

/-! ## Faults (R417, R418) -/

theorem mapExc_chFlag (s : State) (g : ExcState → ExcState) (c k : Nat) : (s.mapExc g).chFlag c k = s.chFlag c k := rfl

theorem noteTrip_exc (s : State) (c : Nat) : (s.noteTrip c).exc.tripped.contains c = true ∧ countAt c (s.noteTrip c).exc.calm = 0 ∧
    tabFind c (s.noteTrip c).exc.tripAt = some s.now := by
  have hexc : (s.noteTrip c).exc = { s.exc with
      calm := tabDel c s.exc.calm, tripped := c :: s.exc.tripped.filter (· ≠ c), tripAt := tabSet c s.now s.exc.tripAt } := rfl
  rw [hexc]
  refine ⟨List.contains_iff_mem.2 List.mem_cons_self, ?_, tabFind_tabSet_self _ _ _⟩
  unfold countAt
  rw [tabFind_tabDel_self]
  rfl

theorem raiseOvr_exc (s : State) (c : Nat) : (s.raiseOvr c).exc.tripped = s.exc.tripped ∧ (s.raiseOvr c).exc.calm = s.exc.calm ∧
    (s.raiseOvr c).exc.tripAt = s.exc.tripAt := by
  have hflag : (s.setChFlag c 1 true).exc = s.exc := State.setBit_exc _ _ _ _
  unfold State.raiseOvr
  rw [State.raiseEvt_exc, State.mapExc, hflag]
  exact ⟨rfl, rfl, rfl⟩

theorem doOverRange_trips {s : State} (ch : Fin 12) (t : Nat) (hon : s.on 10 = true) (hen : s.getF (chEn ch.val) = 1) :
    (doOverRange ch t s).chFlag ch.val 1 = true ∧ (doOverRange ch t s).exc.tripped.contains ch.val = true ∧
      countAt ch.val (doOverRange ch t s).exc.calm = 0 ∧ tabFind ch.val (doOverRange ch t s).exc.tripAt = some (max s.now t) := by
  have hdo : doOverRange ch t s = (s.at t).tripOvr ch.val := by
    unfold doOverRange
    exact if_neg (by rw [State.at_on, hon, State.flag, State.at_getF, hen]; decide)
  have hnow : (s.at t).now = max s.now t := State.at_now s t
  obtain ⟨htripped, hcalm, hat⟩ := noteTrip_exc (s.at t) ch.val
  rw [hnow] at hat
  rw [hdo, tripOvr_eq]
  split
  · next h => exact ⟨h, htripped, hcalm, hat⟩
  · obtain ⟨htripped', hcalm', hat'⟩ := raiseOvr_exc ((s.at t).noteTrip ch.val) ch.val
    refine ⟨?_, by rw [htripped', htripped], by rw [hcalm', hcalm], by rw [hat', hat]⟩
    rw [State.raiseOvr, raiseEvt_chFlag ch.isLt, mapExc_chFlag, setChFlag_self _ (by decide) true]

theorem doExcitationOpen_opens {s : State} (ch : Fin 12) (t : Nat) (hon : s.on 10 = true) (hen : s.getF (chEn ch.val) = 1) :
    (doExcitationOpen ch t s).chFlag ch.val 2 = true ∧ countAt ch.val (doExcitationOpen ch t s).exc.okChecks = 0 := by
  unfold doExcitationOpen
  extract_lets +onlyGivenNames u c
  rw [if_neg (by rw [show u = s.at t from rfl, State.at_on, hon, State.flag, State.at_getF, hen]; decide)]
  extract_lets +onlyGivenNames v
  have hv : countAt c v.exc.okChecks = 0 := by
    show (tabFind c (tabDel c u.exc.okChecks)).getD 0 = 0
    rw [tabFind_tabDel_self]
    rfl
  clear_value v
  split
  · next h => exact ⟨h, hv⟩
  · refine ⟨?_, ?_⟩
    · rw [raiseEvt_chFlag ch.isLt]
      exact setChFlag_self v (by decide) true
    · rw [State.raiseEvt_exc]
      exact hv

/-! ## Checks (R417) -/

/-- The result of a check is shown. -/
def State.showCheck (s : State) (c mag : Nat) (phase : Int) : State := (s.setF (F.EXC_IMP.MAG.inst c) mag).setI (F.EXC_IMP.PHASE.inst c) phase

theorem showCheck_shows (s : State) (c : Nat) {mag : Nat} (phase : Int) (hmag : mag ≤ 0xFFFF) :
    (s.showCheck c mag phase).getF (F.EXC_IMP.MAG.inst c) = mag ∧ (s.showCheck c mag phase).getF (linF c 52 16 16) = s.getF (linF c 52 16 16) := by
  have hlin (g : Field) (hg : g.addr = 0x18164) : (linF c 52 16 16).addr ≠ (g.inst c).addr := by
    simp only [linF, Field.inst, hg]
    omega
  refine ⟨?_, ?_⟩
  · refine (getF_setF_inst_beside _ F.EXC_IMP.PHASE F.EXC_IMP.MAG c _ (by decide) (by decide)).trans ?_
    exact getF_setF_of_lt s (F.EXC_IMP.MAG.inst c) (by decide : 0 + 16 ≤ 32) (by omega : mag < 2 ^ 16)
  · exact (getF_setF_other _ (F.EXC_IMP.PHASE.inst c) _ _ (hlin F.EXC_IMP.PHASE rfl)).trans
      (getF_setF_other s (F.EXC_IMP.MAG.inst c) _ _ (hlin F.EXC_IMP.MAG rfl))

/-- The magnitude of a check. -/
def State.checkMag (s : State) (c mag : Nat) : Nat := if s.duringCheck c s.exc.tripAt || s.exc.tripped.contains c then 0xFFFF else min 0xFFFF mag

theorem checkMag_le (s : State) (c mag : Nat) : s.checkMag c mag ≤ 0xFFFF := by
  unfold State.checkMag
  split
  · exact Nat.le_refl _
  · exact Nat.min_le_left _ _

theorem duringCheck_congr {s u : State} (hrel : u.exc.relAt = s.exc.relAt) (hnow : u.now = s.now) (c : Nat) (l : List (Nat × Nat)) :
    u.duringCheck c l = s.duringCheck c l := by
  have hburst : u.burstStart = s.burstStart := by rw [State.burstStart, hrel, hnow, State.burstStart]
  unfold State.duringCheck
  rw [hburst]

theorem emit_same (s : State) (o : Out) : (s.emit o).exc = s.exc ∧ (s.emit o).now = s.now ∧ ∀ f, (s.emit o).getF f = s.getF f := by
  cases s
  exact ⟨rfl, rfl, fun _ => rfl⟩

/-- The burst of a check has been sent. -/
def State.toned (s : State) (c : Nat) : State := s.emit (.tone c s.burstStart)

theorem doImpedanceCheck_judges {s : State} (ch : Fin 12) (mag : Nat) (phase : Int) (t : Nat) (hon : s.on 10 = true)
    (hen : s.getF (chEn ch.val) = 1) (hchk : s.getF (F.EXC_CH.CHK.idx ch.val) = 1) (hovr : (s.at t).duringCheck ch.val s.exc.ovrAt = false)
    (hdue : (s.at t).checkDue = true) :
    doImpedanceCheck ch mag phase t s =
      (((s.at t).toned ch.val).showCheck ch.val ((s.at t).checkMag ch.val mag) phase).judgeCheck ch.val ((s.at t).checkMag ch.val mag) := by
  obtain ⟨hexc, hnow, -⟩ := emit_same (s.at t) (.tone ch.val (s.at t).burstStart)
  have hduring (l : List (Nat × Nat)) : ((s.at t).toned ch.val).duringCheck ch.val l = (s.at t).duringCheck ch.val l :=
    duringCheck_congr (congrArg ExcState.relAt hexc) hnow ch.val l
  have hmag : ((s.at t).toned ch.val).checkMag ch.val mag = (s.at t).checkMag ch.val mag := by
    rw [State.checkMag, hduring, show ((s.at t).toned ch.val).exc = (s.at t).exc from hexc, State.checkMag]
  have hnot : ((s.at t).toned ch.val).duringCheck ch.val ((s.at t).toned ch.val).exc.ovrAt = false := by
    rw [hduring, show ((s.at t).toned ch.val).exc = (s.at t).exc from hexc, State.at_exc, hovr]
  have hgo : ¬ (!(s.at t).on 10 || !(s.at t).flag (chEn ch.val) || !(s.at t).flag (F.EXC_CH.CHK.idx ch.val) || !(s.at t).checkDue) = true := by
    rw [State.at_on, hon, State.flag, State.at_getF, hen, State.flag, State.at_getF, hchk, hdue]
    decide
  rw [← hmag]
  unfold doImpedanceCheck
  refine (if_neg hgo).trans ?_
  exact if_neg (by rw [Bool.not_eq_true]; exact hnot)

/-- A check in whose time OVR was set leaves the magnitude and the over ranges as they were. -/
theorem doImpedanceCheck_discards {s : State} (ch : Fin 12) (mag : Nat) (phase : Int) (t : Nat)
    (hovr : (s.at t).duringCheck ch.val s.exc.ovrAt = true) :
    (∀ f, (doImpedanceCheck ch mag phase t s).getF f = s.getF f) ∧ (doImpedanceCheck ch mag phase t s).exc = s.exc := by
  obtain ⟨hexc, hnow, hregs⟩ := emit_same (s.at t) (.tone ch.val (s.at t).burstStart)
  have hduring : ((s.at t).toned ch.val).duringCheck ch.val ((s.at t).toned ch.val).exc.ovrAt = true := by
    rw [show ((s.at t).toned ch.val).exc = (s.at t).exc from hexc, State.at_exc]
    exact (duringCheck_congr (congrArg ExcState.relAt hexc) hnow ch.val _).trans hovr
  by_cases hgo : (!(s.at t).on 10 || !(s.at t).flag (chEn ch.val) || !(s.at t).flag (F.EXC_CH.CHK.idx ch.val) || !(s.at t).checkDue) = true
  · have hdo : doImpedanceCheck ch mag phase t s = s.at t := by
      unfold doImpedanceCheck
      exact if_pos hgo
    rw [hdo]
    exact ⟨State.at_getF s t, State.at_exc s t⟩
  · have hdo : doImpedanceCheck ch mag phase t s = (s.at t).toned ch.val := by
      unfold doImpedanceCheck
      exact (if_neg hgo).trans (if_pos hduring)
    rw [hdo]
    exact ⟨fun f => (hregs f).trans (State.at_getF s t f), hexc.trans (State.at_exc s t)⟩

/-! ## System calibration (R422) -/

theorem calEnd_shows (s : State) (ok : Bool) : (s.calEnd ok).exc = { s.exc with step := none } ∧ (s.calEnd ok).getF F.EXC_SCAL.GO = 0 ∧
    (s.calEnd ok).getF F.EXC_SCAL.STATE = if ok then 3 else 4 := by
  unfold State.calEnd
  extract_lets +onlyGivenNames u v
  have hu : u.exc = { s.exc with step := none } := rfl
  clear_value u
  have hv : v.exc = u.exc ∧ v.getF F.EXC_SCAL.GO = 0 ∧ v.getF F.EXC_SCAL.STATE = if ok then 3 else 4 := by
    have hset : v = ((u.setF F.EXC_SCAL.GO 0).setF F.EXC_SCAL.STATE (if ok then 3 else 4)).raiseEvt 24 6 := rfl
    rw [hset]
    refine ⟨?_, ?_, ?_⟩
    · rw [State.raiseEvt_exc, State.setF_exc, State.setF_exc]
    · rw [State.raiseEvt_getF _ 24 6 _ (by decide), getF_setF_beside _ F.EXC_SCAL.STATE F.EXC_SCAL.GO _ (by decide) (by decide)]
      exact getF_setF_of_lt u F.EXC_SCAL.GO (by decide) (by decide)
    · rw [State.raiseEvt_getF _ 24 6 _ (by decide)]
      exact getF_setF_of_lt _ F.EXC_SCAL.STATE (by decide) (by split <;> decide)
  obtain ⟨hexc, hgo, hstate⟩ := hv
  clear_value v
  split
  · next h => exact ⟨hexc.trans hu, hgo, hstate.trans (if_pos h)⟩
  · next h =>
    rw [State.recErr_getF _ 24 0x81 0 _ (by decide), State.recErr_getF _ 24 0x81 0 _ (by decide)]
    exact ⟨(State.recErr_exc _ _ _ _).trans (hexc.trans hu), hgo, hstate.trans (if_neg h)⟩

/-- A mean that is a whole number is taken as it is. -/
theorem openRound_of_dvd (s : State) {n : Nat} {sum : Int} (hn : 0 < n) (hdvd : (n : Int) ∣ sum) :
    s.openRound ((sum : Rat) / (n : Rat)) = sum / (n : Int) := by
  obtain ⟨q, rfl⟩ := hdvd
  have hne : (n : Int) ≠ 0 := by omega
  have hrat : ((((n : Int) * q : Int) : Rat) / (n : Rat)) = (q : Rat) := by
    have hne' : (n : Rat) ≠ 0 := by exact_mod_cast hne
    push_cast
    exact mul_div_cancel_left₀ (q : Rat) hne'
  rw [hrat, Int.mul_ediv_cancel_left q hne]
  unfold State.openRound
  exact if_pos rfl

/-- The zero of a channel is taken over. -/
def State.takeZero (s : State) (c : Nat) (v : Int) : State :=
  (s.setI F.EXC_SCAL_OFS.VALUE v).mapExc (fun x => { x with zeros := tabSet c v x.zeros })

theorem doSystemCalibrationEnd_zero {s : State} {k : ScalStep} (t : Nat) (hon : s.on 10 = true) (hstep : s.exc.step = some k)
    (hbad : k.bad = false) (hfull : k.full = false) (hn : 0 < k.n) (hwant : k.want ≤ k.n) (hdvd : (k.n : Int) ∣ k.sum) :
    doSystemCalibrationEnd t s = ((s.at t).takeZero k.ch (k.sum / (k.n : Int))).calEnd true := by
  rw [← openRound_of_dvd (s.at t) hn hdvd]
  unfold doSystemCalibrationEnd
  dsimp only
  rw [State.at_exc, hstep]
  dsimp only
  refine (if_neg (by rw [State.at_on, hon]; decide)).trans ((if_neg (by rw [hbad]; decide)).trans ((if_neg (Nat.pos_iff_ne_zero.1 hn)).trans
    ((if_neg (Nat.not_lt.2 hwant)).trans (if_pos (by rw [hfull]; rfl)))))

theorem doSystemCalibrationEnd_bad {s : State} {k : ScalStep} (t : Nat) (hon : s.on 10 = true) (hstep : s.exc.step = some k)
    (hbad : k.bad = true) : doSystemCalibrationEnd t s = (s.at t).calEnd false := by
  unfold doSystemCalibrationEnd
  dsimp only
  rw [State.at_exc, hstep]
  dsimp only
  rw [if_neg (by rw [State.at_on, hon]; decide), if_pos hbad]

/-! ## Settled -/

theorem settle_chFlag (s : State) {c : Nat} (hc : c < 12) (k : Nat) : s.settle.chFlag c k = s.chFlag c k := by
  refine bitF_congr (State.settle_getF s (chFlags c) ?_) k
  have haddr : (chFlags c).addr = 0x18130 + 4 * c := rfl
  omega

/-- Settles O54: an output set by the loop over its channels (`allChannels_done`), the rest by what each command leaves of its channel. -/
theorem mountSensing : Obligations.MountSensing := by
  unfold Obligations.MountSensing
  refine ⟨?_, ?_, ?_, ?_, ?_, ?_, ?_⟩
  · intro s raws tripped t hon hlen
    obtain ⟨time, tai, hdo⟩ := doDflOutputSet_eq tripped t hon hlen
    have hdone : (s.at t).SetDone raws tripped (doDflOutputSet raws tripped t s).settle := by
      rw [hdo]
      exact settle_setDone (endSet_done (s.at t) raws tripped time tai)
    have hconfig : (s.at t).dflConfig = s.dflConfig := by
      unfold State.dflConfig
      rw [State.at_getF, State.at_getF, State.at_getF]
    obtain ⟨hused, hexc, -, hregs⟩ := beginSet_shows (s.at t)
    have hen (c : Nat) (h : s.getF (chEn c) = 1) : (s.at t).flag (chEn c) = true := by
      rw [State.flag, State.at_getF, h]
      rfl
    refine ⟨_, rfl, hdone.count.trans (by rw [State.at_getF]), hdone.used.trans hconfig, hdone.trips, fun c h hlands => ?_, fun c h => ?_⟩
    · have hchannel := (hdone.channels c.val c.isLt (hen _ h)).filter hlands
      have hraw : (nth [] raws c.val).map ((s.at t).beginSet.landRaw c.val) = (nth [] raws c.val).map (s.landRaw c.val) :=
        List.map_congr_left fun x hx => landRaw_congr c.isLt (fun f hlo hhi => (hregs f hlo hhi).trans (State.at_getF s t f))
          (.inr (hlands.imp id fun h => by simpa using List.all_eq_true.1 h x hx))
      rw [hchannel, State.fed, hraw, hused, hdone.used, State.filterOf, hexc, State.filterOf]
    · obtain ⟨v, hraw, hlo, hhi⟩ := (hdone.channels c.val c.isLt (hen _ h)).raw
      rw [← firOut_congr (s := (s.at t).beginSet) (hdone.used.trans hused.symm) hdone.ram] at hlo hhi
      exact ⟨v, hraw, hlo, hhi⟩
  · intro s ch t hon hen
    obtain ⟨hflag, htripped, hcalm, hat⟩ := doOverRange_trips ch t hon hen
    refine ⟨(doOverRange ch t s).settle, rfl, (settle_chFlag _ ch.isLt 1).trans hflag, ?_⟩
    rw [State.settle_exc]
    exact ⟨htripped, hcalm, hat⟩
  · intro s ch t hon hen
    obtain ⟨hflag, hchecks⟩ := doExcitationOpen_opens ch t hon hen
    refine ⟨(doExcitationOpen ch t s).settle, rfl, (settle_chFlag _ ch.isLt 2).trans hflag, ?_⟩
    rw [State.settle_exc]
    exact hchecks
  · intro s ch mag t m phase hon hen hchk hovr hdue hm
    have hdo := doImpedanceCheck_judges ch mag phase t hon hen hchk hovr hdue
    have hmag : (s.at t).checkMag ch.val mag = m := by
      rw [State.checkMag, State.at_exc, hm]
    rw [hmag] at hdo
    obtain ⟨hshown, hwin⟩ := showCheck_shows ((s.at t).toned ch.val) ch.val phase (hmag ▸ checkMag_le (s.at t) ch.val mag)
    have hwin : (((s.at t).toned ch.val).showCheck ch.val m phase).getF (linF ch.val 52 16 16) = s.getF (linF ch.val 52 16 16) :=
      hwin.trans (((emit_same (s.at t) _).2.2 _).trans (State.at_getF s t _))
    have hword : mountWord (F.EXC_IMP.MAG.inst ch.val).addr := by
      simp only [mountWord, Field.inst]
      omega
    refine ⟨(doImpedanceCheck ch mag phase t s).settle, rfl, ?_, fun hne hlt => ?_⟩
    · rw [settle_getF_inst, hdo, (judgeCheck_kept ch.isLt _ m).regs _ hword, hshown]
    · rw [settle_chFlag _ ch.isLt, hdo]
      exact judgeCheck_open ch.isLt _ (by rw [hwin]; exact hne) (by rw [hwin]; exact hlt)
  · intro s ch mag t phase hovr
    obtain ⟨hregs, hexc⟩ := doImpedanceCheck_discards ch mag phase t hovr
    exact ⟨(doImpedanceCheck ch mag phase t s).settle, rfl, (settle_getF_inst _ _ _).trans (hregs _), by rw [State.settle_exc, hexc]⟩
  · intro s t k hon hstep hbad hfull hn hwant hdvd
    obtain ⟨hexc, hgo, hstate⟩ := calEnd_shows ((s.at t).takeZero k.ch (k.sum / (k.n : Int))) true
    refine ⟨(doSystemCalibrationEnd t s).settle, rfl, ?_⟩
    rw [doSystemCalibrationEnd_zero t hon hstep hbad hfull hn hwant hdvd, State.settle_exc, State.settle_getF _ _ (by decide),
      State.settle_getF _ _ (by decide), hexc, hgo, hstate]
    exact ⟨rfl, tabFind_tabSet_self _ _ _, rfl, rfl⟩
  · intro s t k hon hstep hbad
    obtain ⟨hexc, hgo, hstate⟩ := calEnd_shows (s.at t) false
    refine ⟨(doSystemCalibrationEnd t s).settle, rfl, ?_⟩
    rw [doSystemCalibrationEnd_bad t hon hstep hbad, State.settle_exc, State.settle_getF _ _ (by decide), State.settle_getF _ _ (by decide), hexc,
      hgo, hstate, State.at_exc]
    exact ⟨rfl, rfl, rfl, rfl⟩

end Sys2Proof.Machine
end

section
/-! PROOFS. The event recorder: what a record of an event adds to it, and what the end of a command leaves of it. -/

namespace Sys2Proof.Machine

/-! ## Records that wait to be written (R427) -/

theorem recArmed_congr {s u : State} (hon : u.on 5 = s.on 5) (h : u.recState = s.recState) : u.recArmed = s.recArmed := by
  have h' : u.getF F.REC_STAT.STATE = s.getF F.REC_STAT.STATE := h
  rw [State.recArmed, hon, h', State.recArmed]

/-- A recorder that neither records nor waits for its post-trigger time takes no record. -/
theorem recArmed_of_state {s : State} {n : Nat} (h : s.recState = n) (hn : n ≠ 1 ∧ n ≠ 2) : s.recArmed = false := by
  have h' : s.getF F.REC_STAT.STATE = n := h
  simp [State.recArmed, h', hn]

/-- Of the recorder, records that wait and pulses of the cycle may have been added; records only where it writes. -/
structure State.Logs (s u : State) : Prop where
  rcd : ∃ m p, u.rcd = { s.rcd with due := s.rcd.due ++ m, pulses := s.rcd.pulses ++ p } ∧ (s.recArmed = false → m = [])
  on : u.on 5 = s.on 5
  state : u.recState = s.recState

namespace State.Logs

variable {s u v : State}

theorem of_rcd (hr : u.rcd = s.rcd) (hon : u.on 5 = s.on 5) (hst : u.recState = s.recState) : s.Logs u :=
  ⟨⟨[], [], by rw [hr, List.append_nil, List.append_nil], fun _ => rfl⟩, hon, hst⟩

theorem refl (s : State) : s.Logs s := .of_rcd rfl rfl rfl

theorem armed (h : s.Logs u) : u.recArmed = s.recArmed := recArmed_congr h.on h.state

theorem trans (h : s.Logs u) (k : u.Logs v) : s.Logs v := by
  obtain ⟨m, p, hu, hm⟩ := h.rcd
  obtain ⟨n, q, hv, hn⟩ := k.rcd
  refine ⟨⟨m ++ n, p ++ q, ?_, fun ha => ?_⟩, k.on.trans h.on, k.state.trans h.state⟩
  · rw [hv, hu, List.append_assoc, List.append_assoc]
  · rw [hm ha, hn (h.armed.trans ha), List.append_nil]

theorem ite {c : Prop} [Decidable c] {a b : State} (ha : s.Logs a) (hb : s.Logs b) : s.Logs (if c then a else b) := by
  split
  · exact ha
  · exact hb

theorem due (h : s.Logs u) : ∃ m, u.rcd.due = s.rcd.due ++ m := by
  obtain ⟨m, p, hu, -⟩ := h.rcd
  exact ⟨m, by rw [hu]⟩

theorem pulses (h : s.Logs u) : ∃ p, u.rcd.pulses = s.rcd.pulses ++ p := by
  obtain ⟨m, p, hu, -⟩ := h.rcd
  exact ⟨p, by rw [hu]⟩

theorem frozen (h : s.Logs u) (ha : s.recArmed = false) : u.rcd.due = s.rcd.due := by
  obtain ⟨m, p, hu, hm⟩ := h.rcd
  rw [hu, hm ha, List.append_nil]

end State.Logs

theorem adds_due (r : RecState) (m : List RecEntry) : { r with due := r.due ++ m } = { r with due := r.due ++ m, pulses := r.pulses ++ [] } := by
  rw [List.append_nil]

theorem adds_pulses (r : RecState) (p : List (Nat × Int)) :
    { r with pulses := r.pulses ++ p } = { r with due := r.due ++ [], pulses := r.pulses ++ p } := by
  rw [List.append_nil]

theorem recPush_logs (s : State) (src : Nat) (bytes : List Byte) : s.Logs (s.recPush src bytes) := by
  unfold State.recPush
  split
  · next h =>
    refine ⟨⟨_, [], adds_due s.rcd _, fun ha => ?_⟩, rfl, rfl⟩
    rw [ha, Bool.false_and] at h
    cases h
  · exact .refl s

theorem commitRecord_logs (s : State) (cls kind : Nat) (bytes : List Byte) : s.Logs (s.commitRecord cls kind bytes) := by
  unfold State.commitRecord State.commitSel
  extract_lets nums queues r _ u
  have hu : s.Logs u := .of_rcd rfl rfl rfl
  split
  · exact hu.trans (recPush_logs _ _ _)
  · exact hu

theorem recPulse_logs (s : State) (input : Nat) (instant : Int) : s.Logs (s.recPulse input instant) := by
  unfold State.recPulse
  exact .ite ⟨⟨[], [(input, instant)], adds_pulses s.rcd _, fun _ => rfl⟩, rfl, rfl⟩ (.refl s)

theorem recMatch_logs (s : State) (kind page code : Nat) : s.Logs (s.recMatch kind page code) := by
  unfold State.recMatch
  rw [show List.range 2 = [0, 1] from rfl, List.foldl_cons, List.foldl_cons, List.foldl_nil]
  exact State.Logs.trans (.ite (recPulse_logs _ _ _) (.refl s)) (.ite (recPulse_logs _ _ _) (.refl _))

theorem emitEvent_logs (s : State) (kind page code a b count : Nat) : s.Logs (s.emitEvent kind page code a b count) :=
  (recMatch_logs _ _ _ _).trans (commitRecord_logs _ _ _ _)

/-- An event of the recorder adds at most its own record and the pulses that match it. -/
theorem raiseEvt_logs (s : State) (bit : Nat) : s.Logs (s.raiseEvt 26 bit) := by
  have hbit : s.Logs (s.setBit (H.ISR 26) bit true) := .of_rcd rfl rfl (getF_setBit_beside s (H.ISR 26) _ bit true (by decide) (by decide))
  unfold State.raiseEvt
  refine .ite (.refl s) (.ite (.of_rcd rfl rfl rfl) (.ite ?_ hbit))
  exact (hbit.trans (emitEvent_logs _ _ _ _ _ _ _)).trans (.of_rcd rfl rfl rfl)

/-! ## The end of a command: what the sequencer leaves (R432) -/

/-- What the sequencer leaves of the recorder, whatever its actions: records may be added while it writes, and a frozen capture stays as it
is. -/
structure State.RecorderKept (s u : State) : Prop where
  on : u.on 5 = s.on 5
  lossNext : u.rcd.lossNext = s.rcd.lossNext
  readout : u.rcd.readout = s.rcd.readout
  part : u.rcd.part = s.rcd.part
  seen : u.rcd.seen = s.rcd.seen
  due : ∃ m, u.rcd.due = s.rcd.due ++ m
  done : s.recState = 3 → u.recState = 3 ∧ u.rcd.due = s.rcd.due
  loss : u.getF F.REC_STAT.LOSS = s.getF F.REC_STAT.LOSS
  drop : u.getF F.REC_DROP.COUNT = s.getF F.REC_DROP.COUNT
  chain : fieldOf 0 16 (u.getF F.REC_CHAIN.COUNT) = fieldOf 0 16 (s.getF F.REC_CHAIN.COUNT)

/-- A field of the recorder's page that is none of those `RecorderKept` speaks of. -/
abbrev offRecorder (f : Field) : Prop := f.addr ≠ 0x1A104 ∧ f.addr ≠ 0x1A170 ∧ f.addr ≠ 0x1A174

namespace State.RecorderKept

variable {s u v : State}

/-- A state with the same registers of the recorder, and with the same recorder but for the buffer, the pulses and the timers. -/
theorem of_getF (hon : u.on 5 = s.on 5) (hreg : ∀ f : Field, ¬ offRecorder f → u.getF f = s.getF f)
    (hrcd : u.rcd.lossNext = s.rcd.lossNext ∧ u.rcd.readout = s.rcd.readout ∧ u.rcd.part = s.rcd.part ∧ u.rcd.seen = s.rcd.seen ∧
      u.rcd.due = s.rcd.due) : s.RecorderKept u where
  on := hon
  lossNext := hrcd.1
  readout := hrcd.2.1
  part := hrcd.2.2.1
  seen := hrcd.2.2.2.1
  due := ⟨[], by rw [hrcd.2.2.2.2, List.append_nil]⟩
  done h := ⟨(hreg F.REC_STAT.STATE (by decide)).trans h, hrcd.2.2.2.2⟩
  loss := hreg F.REC_STAT.LOSS (by decide)
  drop := hreg F.REC_DROP.COUNT (by decide)
  chain := congrArg _ (hreg F.REC_CHAIN.COUNT (by decide))

theorem refl (s : State) : s.RecorderKept s := .of_getF rfl (fun _ _ => rfl) ⟨rfl, rfl, rfl, rfl, rfl⟩

theorem trans (h : s.RecorderKept u) (k : u.RecorderKept v) : s.RecorderKept v where
  on := k.on.trans h.on
  lossNext := k.lossNext.trans h.lossNext
  readout := k.readout.trans h.readout
  part := k.part.trans h.part
  seen := k.seen.trans h.seen
  due := by
    obtain ⟨m, hm⟩ := h.due
    obtain ⟨n, hn⟩ := k.due
    exact ⟨m ++ n, by rw [hn, hm, List.append_assoc]⟩
  done hs := by
    obtain ⟨hu, hd⟩ := h.done hs
    exact ⟨(k.done hu).1, (k.done hu).2.trans hd⟩
  loss := k.loss.trans h.loss
  drop := k.drop.trans h.drop
  chain := k.chain.trans h.chain

theorem ite {c : Prop} [Decidable c] {a b : State} (ha : s.RecorderKept a) (hb : s.RecorderKept b) : s.RecorderKept (if c then a else b) := by
  split
  · exact ha
  · exact hb

end State.RecorderKept

/-- A register beside those of the recorder leaves it. -/
theorem setF_recorderKept (s : State) (f : Field) (v : Nat) (h : offRecorder f) : s.RecorderKept (s.setF f v) := by
  refine .of_getF rfl (fun g hg => ?_) ⟨rfl, rfl, rfl, rfl, rfl⟩
  refine getF_setF_other s f g v (fun he => ?_)
  exact hg (by rw [offRecorder, he]; exact h)

/-- So does a field of `REC_STAT` that is neither STATE nor LOSS. -/
theorem setStat_recorderKept (s : State) (f : Field) (v : Nat) (hf : f.addr = 0x1A104 ∧ f.lsb + f.width ≤ 32)
    (h : 4 ≤ f.lsb ∧ (10 ≤ f.lsb ∨ f.lsb + f.width ≤ 9)) : s.RecorderKept (s.setF f v) := by
  obtain ⟨haddr, hfits⟩ := hf
  have hstate : (s.setF f v).recState = s.recState := getF_setF_beside s f F.REC_STAT.STATE v hfits (.inr (.inl (by
    show 3 ≤ f.lsb
    omega)))
  refine ⟨rfl, rfl, rfl, rfl, rfl, ⟨[], by rw [List.append_nil]; rfl⟩, fun hs => ⟨hstate.trans hs, rfl⟩, ?_, ?_, ?_⟩
  · refine getF_setF_beside s f F.REC_STAT.LOSS v hfits (.inr ?_)
    show 10 ≤ f.lsb ∨ f.lsb + f.width ≤ 9
    exact h.2
  · exact getF_setF_other s f _ v (by rw [haddr]; decide)
  · exact congrArg _ (getF_setF_other s f _ v (by rw [haddr]; decide))

theorem State.Logs.recorderKept {s u : State} (h : s.Logs u) (hreg : ∀ f : Field, ¬ offRecorder f → u.getF f = s.getF f) : s.RecorderKept u := by
  obtain ⟨m, p, hu, -⟩ := h.rcd
  refine ⟨h.on, ?_, ?_, ?_, ?_, h.due, fun hs => ⟨h.state.trans hs, h.frozen (recArmed_of_state hs (by decide))⟩,
    hreg F.REC_STAT.LOSS (by decide), hreg F.REC_DROP.COUNT (by decide), congrArg _ (hreg F.REC_CHAIN.COUNT (by decide))⟩ <;> rw [hu]

theorem raiseEvt_getF_recorder (s : State) (bit : Nat) {f : Field} (h : ¬ offRecorder f) : (s.raiseEvt 26 bit).getF f = s.getF f := by
  refine State.raiseEvt_getF s 26 bit f (fun he => h ?_)
  rw [offRecorder, he]
  decide

theorem raiseEvt_recorderKept (s : State) (bit : Nat) : s.RecorderKept (s.raiseEvt 26 bit) :=
  (raiseEvt_logs s bit).recorderKept (fun _ hf => raiseEvt_getF_recorder s bit hf)

/-- The trigger itself, in state 1: recording goes on after it. -/
theorem trigger_recorderKept {s : State} (h : s.recState = 1) : s.RecorderKept (s.setF F.REC_STAT.STATE 2) := by
  have hstat (g : Field) (hg : g.addr ≠ 0x1A104 ∨ g.lsb + g.width ≤ 0 ∨ 3 ≤ g.lsb) : (s.setF F.REC_STAT.STATE 2).getF g = s.getF g :=
    getF_setF_beside s F.REC_STAT.STATE g 2 (by decide) hg
  refine ⟨rfl, rfl, rfl, rfl, rfl, ⟨[], by rw [List.append_nil]; rfl⟩, fun hs => ?_, hstat _ (by decide), hstat _ (by decide),
    congrArg _ (hstat _ (by decide))⟩
  rw [h] at hs
  cases hs

theorem recTrigger_recorderKept (s : State) (i : Int) : s.RecorderKept (s.recTrigger i) := by
  unfold State.recTrigger
  split
  · next h =>
    extract_lets order early marked buf _ u v w
    have hu : s.RecorderKept u := .of_getF rfl (fun _ _ => rfl) ⟨rfl, rfl, rfl, rfl, rfl⟩
    have hst : u.recState = 1 := h
    have hv : s.RecorderKept v := by
      refine ((hu.trans (trigger_recorderKept hst)).trans ?_).trans (setF_recorderKept _ F.REC_TRIG_LO.NS _ (by decide))
      rw [State.setB_eq]
      exact setStat_recorderKept _ F.REC_STAT.EARLY _ (by decide) (by decide)
    have hw : s.RecorderKept w := (hv.trans (setF_recorderKept _ F.REC_TRIG_HI.NS _ (by decide))).trans (raiseEvt_recorderKept _ _)
    exact .ite (hw.trans (.of_getF rfl (fun _ _ => rfl) ⟨rfl, rfl, rfl, rfl, rfl⟩)) hw
  · exact setStat_recorderKept _ F.REC_STAT.EXTRA _ (by decide) (by decide)
  · exact setStat_recorderKept _ F.REC_STAT.EXTRA _ (by decide) (by decide)
  · exact .refl s

theorem sendFrame_rcd (s : State) (p kind : Nat) (body : List Byte) : (s.sendFrame p kind body).rcd = s.rcd := by
  unfold State.sendFrame
  split <;> rfl

theorem sendFrame_recorderKept (s : State) (p kind : Nat) (body : List Byte) : s.RecorderKept (s.sendFrame p kind body) := by
  unfold State.sendFrame
  exact .ite (.of_getF rfl (fun _ _ => rfl) ⟨rfl, rfl, rfl, rfl, rfl⟩) (.refl s)

/-- Chain triggers sent are counted above those received. -/
theorem setSent_recorderKept (s : State) (n : Nat) :
    s.RecorderKept (s.setF F.REC_CHAIN.COUNT (withField 16 16 (s.getF F.REC_CHAIN.COUNT) n)) := by
  have hlt : withField 16 16 (s.getF F.REC_CHAIN.COUNT) n < 2 ^ F.REC_CHAIN.COUNT.width := withField_lt n (getF_lt s F.REC_CHAIN.COUNT) (by decide)
  have hother (g : Field) (h : g.addr ≠ 0x1A174) : (s.setF F.REC_CHAIN.COUNT (withField 16 16 (s.getF F.REC_CHAIN.COUNT) n)).getF g = s.getF g :=
    getF_setF_other s _ g _ h
  refine ⟨rfl, rfl, rfl, rfl, rfl, ⟨[], by rw [List.append_nil]; rfl⟩, fun hs => ⟨(hother _ (by decide)).trans hs, rfl⟩, hother _ (by decide),
    hother _ (by decide), ?_⟩
  rw [getF_setF_of_lt s _ (by decide) hlt]
  exact fieldOf_withField_below _ _ (by decide)

theorem sendChainTrigger_recorderKept (s : State) (i : Int) : s.RecorderKept (s.sendChainTrigger i) := by
  unfold State.sendChainTrigger
  refine .ite ?_ (.refl s)
  extract_lets body f hi _ u
  have hu : s.RecorderKept u := .of_getF rfl (fun _ _ => rfl) ⟨rfl, rfl, rfl, rfl, rfl⟩
  exact ((hu.trans (setSent_recorderKept u hi)).trans (sendFrame_recorderKept _ _ _ _)).trans (sendFrame_recorderKept _ _ _ _)

theorem offRecorder_counter {k : Nat} (h : k < 4) : offRecorder (F.REC_CNT.VALUE.idx k) := by
  have haddr : (F.REC_CNT.VALUE.idx k).addr = 0x1A140 + 4 * k := rfl
  unfold offRecorder
  omega

theorem seqAction_recorderKept (s : State) (act : Nat) (i : Int) : s.RecorderKept (s.seqAction act i) := by
  have hrcd {u : State} (h : u = { s with rcd := u.rcd }) (hr : u.rcd.lossNext = s.rcd.lossNext ∧ u.rcd.readout = s.rcd.readout ∧
      u.rcd.part = s.rcd.part ∧ u.rcd.seen = s.rcd.seen ∧ u.rcd.due = s.rcd.due) : s.RecorderKept u := by
    refine .of_getF (by rw [h]; rfl) (fun _ _ => by rw [h]; rfl) hr
  unfold State.seqAction
  split
  case h_1 => exact recTrigger_recorderKept s i
  case h_2 => exact (recTrigger_recorderKept s i).trans (sendChainTrigger_recorderKept _ i)
  case h_3 => exact sendChainTrigger_recorderKept s i
  case h_4 => exact setF_recorderKept s _ _ (by decide)
  case h_5 => exact setF_recorderKept s _ _ (offRecorder_counter (by decide))
  case h_6 => exact setF_recorderKept s _ _ (offRecorder_counter (by decide))
  case h_7 => exact setF_recorderKept s _ _ (offRecorder_counter (by decide))
  case h_12 =>
    rw [show List.range 4 = [0, 1, 2, 3] from rfl, List.foldl_cons, List.foldl_cons, List.foldl_cons, List.foldl_cons, List.foldl_nil]
    exact (((setF_recorderKept _ _ _ (offRecorder_counter (by decide))).trans (setF_recorderKept _ _ _ (offRecorder_counter (by decide)))).trans
      (setF_recorderKept _ _ _ (offRecorder_counter (by decide)))).trans (setF_recorderKept _ _ _ (offRecorder_counter (by decide)))
  case h_14 => exact .refl s
  all_goals exact hrcd rfl ⟨rfl, rfl, rfl, rfl, rfl⟩

theorem seqStep_recorderKept (s : State) : s.RecorderKept s.seqStep := by
  have hset (u : State) (v : Nat) : u.RecorderKept (u.setF F.REC_STAT.SEQ v) := setStat_recorderKept u F.REC_STAT.SEQ v (by decide) (by decide)
  unfold State.seqStep
  exact .ite ((seqAction_recorderKept _ _ _).trans (hset _ _)) (.ite ((seqAction_recorderKept _ _ _).trans (hset _ _)) (.refl s))

theorem runPulses_recorderKept (n : Nat) (s : State) : s.RecorderKept (State.runPulses n s) := by
  have hdrop (u : State) (l : List (Nat × Int)) : u.RecorderKept { u with rcd := { u.rcd with pulses := l } } :=
    .of_getF rfl (fun _ _ => rfl) ⟨rfl, rfl, rfl, rfl, rfl⟩
  induction n generalizing s with
  | zero => exact hdrop s []
  | succ n ih =>
    unfold State.runPulses
    exact .ite (.refl s) ((seqStep_recorderKept s).trans ((hdrop _ _).trans (ih _)))

theorem settle_recorderKept (s : State) : s.RecorderKept s.settle :=
  (runPulses_recorderKept 8 s).trans (.of_getF rfl (fun _ _ => rfl) ⟨rfl, rfl, rfl, rfl, rfl⟩)

end Sys2Proof.Machine
end

section
/-! PROOFS. The event recorder and its sequencer: capture, readout, inputs, chain triggers, and O55. -/

namespace Sys2Proof.Machine

/-! ## The sequencer takes a transition (R432) -/

theorem seqStep_takes {s : State} (h : s.seqHolds (s.getF (F.REC_ST.IN_A.idx (s.getF F.REC_STAT.SEQ))) = true)
    (hact : s.getF (F.REC_ST.ACT_A.idx (s.getF F.REC_STAT.SEQ)) = 0) :
    s.seqStep = s.setF F.REC_STAT.SEQ (s.getF (F.REC_ST.NEXT_A.idx (s.getF F.REC_STAT.SEQ))) := by
  unfold State.seqStep
  refine (if_pos h).trans ?_
  dsimp only
  rw [hact]
  rfl

/-- What a transition sets. -/
theorem setSeq_shows (s : State) (g : Field) (hg : g.width = 3) : (s.setF F.REC_STAT.SEQ (s.getF g)).getF F.REC_STAT.SEQ = s.getF g ∧
    (s.setF F.REC_STAT.SEQ (s.getF g)).recState = s.recState := by
  refine ⟨getF_setF_of_lt s _ (by decide) ?_, getF_setF_beside s _ _ _ (by decide) (by decide)⟩
  have hlt := getF_lt s g
  rw [hg] at hlt
  exact hlt

theorem nextA_width (n : Nat) : (F.REC_ST.NEXT_A.idx n).width = 3 := rfl

theorem runPulses_nil {s : State} (n : Nat) (h : s.rcd.pulses = []) : ∃ p, State.runPulses n s = { s with rcd := { s.rcd with pulses := p } } := by
  cases n with
  | zero => exact ⟨[], rfl⟩
  | succ n =>
    refine ⟨s.rcd.pulses, ?_⟩
    unfold State.runPulses
    rw [if_pos (by rw [h]; rfl)]

/-- After a cycle, whose pulses are over. -/
def State.cycled (s : State) : State :=
  { s.seqStep with rcd := { s.seqStep.rcd with pulses := s.seqStep.rcd.pulses.drop s.rcd.pulses.length } }

theorem cycled_getF (s : State) (f : Field) : s.cycled.getF f = s.seqStep.getF f := rfl

/-- The pulses of a command are tested once: where one of them takes a transition without an action, that is all it does. -/
theorem settle_takes {s : State} {n : Nat} (hseq : s.getF F.REC_STAT.SEQ = n) (hpulse : s.rcd.pulses.isEmpty = false)
    (h : s.seqHolds (s.getF (F.REC_ST.IN_A.idx n)) = true) (hact : s.getF (F.REC_ST.ACT_A.idx n) = 0) :
    s.settle.getF F.REC_STAT.SEQ = s.getF (F.REC_ST.NEXT_A.idx n) ∧ s.settle.recState = s.recState := by
  subst hseq
  have hrun : State.runPulses 8 s = State.runPulses 7 s.cycled := by
    rw [State.runPulses, if_neg (by rw [hpulse]; decide), State.cycled]
  have hstep := seqStep_takes h hact
  have hdrop : s.cycled.rcd.pulses = [] := by
    show s.seqStep.rcd.pulses.drop s.rcd.pulses.length = []
    rw [hstep, State.setF_rcd, List.drop_length]
  obtain ⟨p, hp⟩ := runPulses_nil 7 hdrop
  have hreg (f : Field) : s.settle.getF f = s.seqStep.getF f := by
    show (State.runPulses 8 s).getF f = _
    rw [hrun, hp]
    exact cycled_getF s f
  obtain ⟨hnext, hstate⟩ := setSeq_shows s (F.REC_ST.NEXT_A.idx (s.getF F.REC_STAT.SEQ)) (nextA_width _)
  refine ⟨?_, ?_⟩
  · rw [hreg, hstep, hnext]
  · show s.settle.getF F.REC_STAT.STATE = _
    rw [hreg, hstep]
    exact hstate

/-- A pulse of an input is one that the input holds by. -/
theorem seqHolds_of_pulse {s : State} {input : Nat} (h : input < 12 ∧ input ≠ 1) (hp : s.rcd.pulses.any (fun p => p.1 = input) = true) :
    s.seqHolds input = true := by
  obtain ⟨hlt, hne⟩ := h
  unfold State.seqHolds
  rw [if_neg hne, if_neg (by omega), if_neg (by omega)]
  exact hp

/-- A pulse of the current state's input A that has just arrived takes the transition (R432). -/
theorem recPulse_takes {s : State} {n input : Nat} (i : Int) (hon : s.on 5 = true) (hseq : s.getF F.REC_STAT.SEQ = n)
    (hin : s.getF (F.REC_ST.IN_A.idx n) = input) (hinput : input < 12 ∧ input ≠ 1) (hact : s.getF (F.REC_ST.ACT_A.idx n) = 0) :
    (s.recPulse input i).settle.getF F.REC_STAT.SEQ = s.getF (F.REC_ST.NEXT_A.idx n) ∧ (s.recPulse input i).settle.recState = s.recState := by
  have hpulses : (s.recPulse input i).rcd.pulses = s.rcd.pulses ++ [(input, i)] := by
    rw [State.recPulse, if_pos hon]
  have hheld : (s.recPulse input i).seqHolds ((s.recPulse input i).getF (F.REC_ST.IN_A.idx n)) = true := by
    rw [State.recPulse_getF, hin]
    refine seqHolds_of_pulse hinput ?_
    rw [hpulses, List.any_append]
    simp
  obtain ⟨hnext, hstate⟩ := settle_takes ((State.recPulse_getF s input i _).trans hseq) (by rw [hpulses]; simp) hheld
    ((State.recPulse_getF s input i _).trans hact)
  exact ⟨hnext.trans (State.recPulse_getF ..), hstate.trans (State.recPulse_getF ..)⟩

theorem at_recState (s : State) (t : Nat) : (s.at t).recState = s.recState := State.at_getF s t _

theorem at_recArmed (s : State) (t : Nat) : (s.at t).recArmed = s.recArmed := recArmed_congr (State.at_on s t 5) (at_recState s t)

/-! ## Capture (R427 to R429) -/

/-- The oldest record is taken off those that wait. -/
def State.withDue (s : State) (l : List RecEntry) : State := s.mapRec (fun r => { r with due := l })

theorem withDue_getF (s : State) (l : List RecEntry) (f : Field) : (s.withDue l).getF f = s.getF f := rfl

theorem withDue_rcd (s : State) (l : List RecEntry) : (s.withDue l).rcd = { s.rcd with due := l } := rfl

/-- The record written next says that one before it was lost. -/
def State.markLoss (s : State) : State := s.mapRec (fun r => { r with lossNext := true })

theorem doRecorderEntry_takes {s : State} {e : RecEntry} {l : List RecEntry} (excess : Bool) (t : Nat) (hdue : s.rcd.due = e :: l)
    (harmed : s.recArmed = true) : doRecorderEntry excess t s =
      if excess then ((((s.at t).withDue l).markLoss.bump F.REC_DROP.COUNT 1).setF F.REC_STAT.LOSS 1).raiseEvt 26 4
      else ((s.at t).withDue l).writeEntry e := by
  unfold doRecorderEntry
  have hd : (s.at t).rcd.due = e :: l := by rw [State.at_rcd, hdue]
  have ha : ((s.at t).withDue l).recArmed = true := (recArmed_congr (s := s.at t) rfl rfl).trans ((at_recArmed s t).trans harmed)
  dsimp only
  rw [hd]
  refine if_neg ?_
  rw [show ((s.at t).mapRec (fun r => { r with due := l })).recArmed = true from ha]
  decide

/-- Beyond the recorder's rate the record is lost (R428). -/
theorem doRecorderEntry_drops {s : State} {e : RecEntry} {l : List RecEntry} (t : Nat) (hdue : s.rcd.due = e :: l) (harmed : s.recArmed = true) :
    ∃ m, (doRecorderEntry true t s).settle.rcd.due = l ++ m ∧ (doRecorderEntry true t s).settle.rcd.lossNext = true ∧
      (doRecorderEntry true t s).settle.getF F.REC_STAT.LOSS = 1 ∧
      (doRecorderEntry true t s).settle.getF F.REC_DROP.COUNT = min (s.getF F.REC_DROP.COUNT + 1) (2 ^ F.REC_DROP.COUNT.width - 1) := by
  rw [doRecorderEntry_takes true t hdue harmed, if_pos rfl]
  have hloss : ((s.at t).withDue l).markLoss.getF F.REC_DROP.COUNT = s.getF F.REC_DROP.COUNT := State.at_getF s t _
  have hrcd : ((s.at t).withDue l).markLoss.rcd.due = l ∧ ((s.at t).withDue l).markLoss.rcd.lossNext = true := ⟨rfl, rfl⟩
  generalize ((s.at t).withDue l).markLoss = v at *
  obtain ⟨hdueV, hlossV⟩ := hrcd
  have hk := (raiseEvt_recorderKept ((v.bump F.REC_DROP.COUNT 1).setF F.REC_STAT.LOSS 1) 4).trans (settle_recorderKept _)
  obtain ⟨m, hm⟩ := hk.due
  refine ⟨m, ?_, ?_, ?_, ?_⟩
  · rw [hm, State.setF_rcd, State.bump_eq, State.setF_rcd, hdueV]
  · rw [hk.lossNext, State.setF_rcd, State.bump_eq, State.setF_rcd, hlossV]
  · exact hk.loss.trans (getF_setF_self _ _ _ (by decide))
  · rw [hk.drop, getF_setF_other _ _ _ _ (by decide), State.bump_eq, getF_setF_min _ _ _ (by decide), hloss]

/-- While nothing has triggered, the record is the buffer's newest entry, marked with the loss before it (R427, R428). -/
theorem writeEntry_writes {s : State} {e : RecEntry} (h : s.recState = 1) (hfits : e.size ≤ s.getF F.REC_SIZE.SIZE * 1048576) :
    (s.writeEntry e).rcd.due = s.rcd.due ∧ (s.writeEntry e).rcd.pulses = s.rcd.pulses ∧
    (s.writeEntry e).rcd.buffer.head? = some { e with flags := if s.rcd.lossNext then 4 else 0 } ∧ (s.writeEntry e).rcd.lossNext = false ∧
    (s.writeEntry e).rcd.written = s.rcd.written + e.size := by
  refine ⟨rfl, rfl, ?_, rfl, rfl⟩
  unfold State.writeEntry
  extract_lets post point counts flags u
  have hpost : ¬ post := by
    show ¬ s.recState = 2
    omega
  have hpoint : point = false := by
    refine (congrArg (fun b => b && s.rcd.pointDue && _) (decide_eq_false hpost)).trans ?_
    rfl
  have hflags : flags = if s.rcd.lossNext then 4 else 0 := by
    show (if point then 1 else 0) + (if post then 2 else 0) + (if s.rcd.lossNext then 4 else 0) = _
    rw [hpoint, if_neg hpost]
    exact Nat.zero_add _
  have hbuffer : u.rcd.buffer = fitEntries (s.getF F.REC_SIZE.SIZE * 1048576) ({ e with flags := flags } :: s.rcd.buffer) := rfl
  rw [State.setSat_eq, State.setF_rcd, hbuffer, hflags, fitEntries]
  exact congrArg List.head? (if_pos hfits)

theorem doRecorderEntry_writes {s : State} {e : RecEntry} {l : List RecEntry} (t : Nat) (hs : s.rcd.pulses = []) (hdue : s.rcd.due = e :: l)
    (harmed : s.recArmed = true) (hst : s.recState = 1) (hfits : e.size ≤ s.getF F.REC_SIZE.SIZE * 1048576) :
    (doRecorderEntry false t s).settle.rcd.due = l ∧
    (doRecorderEntry false t s).settle.rcd.buffer.head? = some { e with flags := if s.rcd.lossNext then 4 else 0 } ∧
    (doRecorderEntry false t s).settle.rcd.lossNext = false ∧ (doRecorderEntry false t s).settle.rcd.written = s.rcd.written + e.size := by
  rw [doRecorderEntry_takes false t hdue harmed, if_neg Bool.false_ne_true]
  obtain ⟨hd, hp, hb, hl, hw⟩ := writeEntry_writes (s := (s.at t).withDue l) (e := e) ((at_recState s t).trans hst)
    (by rw [withDue_getF, State.at_getF]; exact hfits)
  rw [withDue_rcd, State.at_rcd] at hd hp hb hw
  rw [settle_of_no_pulses (hp.trans hs)]
  exact ⟨hd, hb, hl, hw⟩

/-- A frozen capture has no record waiting (R429). -/
theorem recDone_done (s : State) : (s.recDone.settle).recState = 3 ∧ s.recDone.settle.rcd.due = [] := by
  have hdue : (s.withDue []).rcd.due = [] := rfl
  have hdo : s.recDone = ((s.withDue []).setF F.REC_STAT.STATE 3).raiseEvt 26 1 := rfl
  rw [hdo]
  generalize s.withDue [] = v at *
  have hst : (v.setF F.REC_STAT.STATE 3).recState = 3 := getF_setF_self _ F.REC_STAT.STATE 3 (by decide)
  obtain ⟨hstate, hkept⟩ := ((raiseEvt_recorderKept (v.setF F.REC_STAT.STATE 3) 1).trans (settle_recorderKept _)).done hst
  exact ⟨hstate, hkept.trans hdue⟩

theorem doPostComplete_done {s : State} (t : Nat) (hon : s.on 5 = true) (hst : s.recState = 2) (hpoint : s.rcd.pointDue = false)
    (hpost : s.getF F.REC_POST.KIB * 1024 ≤ s.rcd.post) : doPostComplete t s = (s.at t).recDone := by
  unfold doPostComplete
  refine if_pos ?_
  rw [State.at_on, at_recState, State.at_getF, State.at_rcd, hon, hst, hpoint]
  simpa using hpost

/-! ## Readout (R435) -/

/-- What one record of a readout commits: the entries leave, and the parts are counted. -/
def State.readPart (s : State) (l : List RecEntry) : State :=
  (s.commitRecord 7 8 (s.recorderRecord l)).mapRec (fun r => { r with part := r.part + 1, readout := r.readout.drop l.length })

theorem readPart_reads (s : State) (l : List RecEntry) : (s.readPart l).rcd.readout = s.rcd.readout.drop l.length ∧
    (s.readPart l).rcd.part = s.rcd.part + 1 := by
  obtain ⟨m, p, h, -⟩ := (commitRecord_logs s 7 8 (s.recorderRecord l)).rcd
  have hrcd : (s.readPart l).rcd = { (s.commitRecord 7 8 (s.recorderRecord l)).rcd with
    part := (s.commitRecord 7 8 (s.recorderRecord l)).rcd.part + 1
    readout := (s.commitRecord 7 8 (s.recorderRecord l)).rcd.readout.drop l.length } := rfl
  rw [hrcd, h]
  exact ⟨rfl, rfl⟩

theorem readOut_nil {s : State} (fuel : Nat) (h : s.rcd.readout = []) : State.readOut fuel s = s := by
  cases fuel with
  | zero => rfl
  | succ n =>
    unfold State.readOut
    rw [h]
    exact if_pos rfl

/-- A readout that fits one record goes out in one. -/
theorem readOut_one {s : State} (hne : s.rcd.readout ≠ []) (hfits : firstEntries s.rcd.readout = s.rcd.readout)
    (hroom : s.recorderUnacked ≤ s.getF (F.LDG_REGION.SIZE.inst 7) * 524288) :
    (State.readOut s.rcd.readout.length s).rcd.readout = [] ∧ (State.readOut s.rcd.readout.length s).rcd.part = s.rcd.part + 1 := by
  obtain ⟨n, hn⟩ := Nat.exists_eq_succ_of_ne_zero (mt List.length_eq_zero_iff.1 hne)
  have hstep : State.readOut (n + 1) s = State.readOut n (s.readPart s.rcd.readout) := by
    rw [State.readOut, hfits]
    refine if_neg ?_
    rw [List.isEmpty_eq_false_iff.2 hne, Bool.false_or, decide_eq_false (Nat.not_lt.2 hroom)]
    decide
  obtain ⟨hread, hpart⟩ := readPart_reads s s.rcd.readout
  have hnil : (s.readPart s.rcd.readout).rcd.readout = [] := hread.trans (List.drop_length)
  rw [hn, hstep, readOut_nil n hnil]
  exact ⟨hnil, hpart⟩

theorem recorderUnacked_at (s : State) (t : Nat) : (s.at t).recorderUnacked = s.recorderUnacked := by
  unfold State.recorderUnacked
  rw [State.at_tp]

theorem doReadoutComplete_done {s : State} (t : Nat) (hon : s.on 5 = true) (hst : s.recState = 4) (hne : s.rcd.readout ≠ [])
    (hfits : firstEntries s.rcd.readout = s.rcd.readout) (hroom : s.recorderUnacked ≤ s.getF (F.LDG_REGION.SIZE.inst 7) * 524288) :
    (doReadoutComplete t s).settle.recState = 3 ∧ (doReadoutComplete t s).settle.rcd.readout = [] ∧
      (doReadoutComplete t s).settle.rcd.part = s.rcd.part + 1 := by
  have hread := readOut_one (s := s.at t) (by rw [State.at_rcd]; exact hne) (by rw [State.at_rcd]; exact hfits)
    (by rw [recorderUnacked_at, State.at_getF]; exact hroom)
  obtain ⟨hnil, hpart⟩ := hread
  have hdo : doReadoutComplete t s = ((State.readOut (s.at t).rcd.readout.length (s.at t)).setF F.REC_STAT.STATE 3).raiseEvt 26 2 := by
    unfold doReadoutComplete
    refine (if_neg ?_).trans (if_pos ?_)
    · rw [State.at_on, at_recState, hon, hst]
      decide
    · rw [hnil]
      rfl
  rw [hdo]
  generalize State.readOut (s.at t).rcd.readout.length (s.at t) = v at *
  have hk := (raiseEvt_recorderKept (v.setF F.REC_STAT.STATE 3) 2).trans (settle_recorderKept _)
  have hstate : (v.setF F.REC_STAT.STATE 3).recState = 3 := getF_setF_self _ F.REC_STAT.STATE 3 (by decide)
  exact ⟨(hk.done hstate).1, hk.readout.trans hnil, (hk.part.trans hpart).trans (by rw [State.at_rcd])⟩

/-! ## Sequencer inputs (R430, R432) -/

theorem at_seqHolds (s : State) (t input : Nat) : (s.at t).seqHolds input = s.seqHolds input := by
  unfold State.seqHolds
  simp only [State.at_getF, State.at_rcd]

theorem doSequencerTransition_takes {s : State} (t : Nat) (hon : s.on 5 = true)
    (h : s.seqHolds (s.getF (F.REC_ST.IN_A.idx (s.getF F.REC_STAT.SEQ))) = true)
    (hact : s.getF (F.REC_ST.ACT_A.idx (s.getF F.REC_STAT.SEQ)) = 0) :
    doSequencerTransition t s = (s.at t).setF F.REC_STAT.SEQ ((s.at t).getF (F.REC_ST.NEXT_A.idx (s.getF F.REC_STAT.SEQ))) := by
  unfold doSequencerTransition
  refine (if_pos ((State.at_on s t 5).trans hon)).trans ?_
  rw [seqStep_takes (by rw [at_seqHolds, State.at_getF, State.at_getF]; exact h) (by rw [State.at_getF, State.at_getF]; exact hact),
    State.at_getF s t F.REC_STAT.SEQ]

theorem doSequencerTimerExpiry_expires {s : State} (timer : Fin 4) (t : Nat) {f : Nat} (hon : s.on 5 = true)
    (hf : tabFind timer.val s.rcd.timers = some f) (hdue : f ≤ max s.now t) :
    doSequencerTimerExpiry timer t s = (s.at t).mapRec (fun r => { r with
      timers := tabDel timer.val r.timers, expired := r.expired ++ [timer.val] }) := by
  unfold doSequencerTimerExpiry
  have hf' : tabFind timer.val (s.at t).rcd.timers = some f := by rw [State.at_rcd, hf]
  dsimp only
  rw [hf']
  refine if_pos ?_
  rw [State.at_on, State.at_now, hon, decide_eq_true hdue]
  rfl

/-- An edge of `TRIG_IO` as an input is a pulse of its input (R430, R432). -/
theorem doTrigIoEdge_pulses {s : State} (rising : Bool) (t : Nat) (hon : s.on 5 = true) (hdir : s.getF F.REC_IO.DIR = 0) :
    ∃ i, doTrigIoEdge rising t s = ((s.at t).setF F.GIO_IN.TRIG_IO (if rising then 1 else 0)).recPulse (if rising then 2 else 3) i := by
  unfold doTrigIoEdge
  have hdir' : ((s.at t).setB F.GIO_IN.TRIG_IO rising).flag F.REC_IO.DIR = false := by
    rw [State.flag, State.setB_eq, getF_setF_other _ _ _ _ (by decide), State.at_getF, hdir]
    rfl
  refine ⟨_, (if_pos ?_).trans rfl⟩
  rw [hdir', State.setB_eq, State.setF_on, State.at_on, hon]
  rfl

/-! ## Chain triggers (R433, R434) -/

/-- A chain trigger of another unit not seen before: the list of those seen, and the count. -/
def State.noteChainTrigger (s : State) (x : ChainTrigger) : State :=
  let recent := s.rcd.seen.filter (fun e => decide (s.now ≤ e.2 + 1000000000))
  let v := s.mapRec (fun r => { r with seen := ((x.origin, x.seq), s.now) :: recent })
  v.setF F.REC_CHAIN.COUNT (withField 0 16 (v.getF F.REC_CHAIN.COUNT) (min 0xFFFF (fieldOf 0 16 (v.getF F.REC_CHAIN.COUNT) + 1)))

theorem noteChainTrigger_getF (s : State) (x : ChainTrigger) {f : Field} (h : f.addr ≠ 0x1A174) : (s.noteChainTrigger x).getF f = s.getF f :=
  getF_setF_other _ _ _ _ h

theorem noteChainTrigger_notes (s : State) (x : ChainTrigger) : (s.noteChainTrigger x).rcd.seen.head? = some ((x.origin, x.seq), s.now) ∧
    (s.noteChainTrigger x).on 5 = s.on 5 ∧
    fieldOf 0 16 ((s.noteChainTrigger x).getF F.REC_CHAIN.COUNT) = min 0xFFFF (fieldOf 0 16 (s.getF F.REC_CHAIN.COUNT) + 1) := by
  refine ⟨rfl, rfl, ?_⟩
  unfold State.noteChainTrigger
  extract_lets recent v
  have hv : v.getF F.REC_CHAIN.COUNT = s.getF F.REC_CHAIN.COUNT := rfl
  have hlt : withField 0 16 (v.getF F.REC_CHAIN.COUNT) (min 0xFFFF (fieldOf 0 16 (v.getF F.REC_CHAIN.COUNT) + 1)) < 2 ^ F.REC_CHAIN.COUNT.width :=
    withField_lt _ (getF_lt v F.REC_CHAIN.COUNT) (by decide)
  rw [getF_setF_of_lt v _ (by decide) hlt, fieldOf_withField_self, hv]
  exact Nat.mod_eq_of_lt (by omega)

theorem unitMac_at (s : State) (t : Nat) : (s.at t).unitMac = s.unitMac := by
  unfold State.unitMac
  rw [State.at_getF, State.at_getF]

/-- What the recorder does with a chain trigger that it receives and has not seen (R434). -/
def State.acceptTrigger (s : State) (x : ChainTrigger) (i : Int) : State := ((s.noteChainTrigger x).raiseEvt 26 3).recPulse 5 i

theorem acceptTrigger_tells (s : State) (x : ChainTrigger) (i : Int) : s.Tells (s.acceptTrigger x i) := by
  have hnote : s.Tells (s.noteChainTrigger x) := .of_tp rfl
  exact (hnote.trans (raiseEvt_tells _ 26 3)).trans (recPulse_tells _ 5 i)

/-- A state with the recorder's and the sequencer's words of another. -/
def State.RecordsAs (s u : State) : Prop := u.on 5 = s.on 5 ∧ ∀ f : Field, 0x1A100 ≤ f.addr ∧ f.addr < 0x1A140 → u.getF f = s.getF f

theorem seqField_word (g : Field) {n : Nat} (hg : g.addr = 0x1A120) (hn : n < 8) : 0x1A100 ≤ (g.idx n).addr ∧ (g.idx n).addr < 0x1A140 := by
  have haddr : (g.idx n).addr = g.addr + 4 * n := rfl
  omega

/-- `recPulse_takes` of a state beside the one asked about. -/
theorem State.RecordsAs.takes {s u : State} (h : s.RecordsAs u) {n input : Nat} (i : Int) (hon : s.on 5 = true) (hseq : s.getF F.REC_STAT.SEQ = n)
    (hin : s.getF (F.REC_ST.IN_A.idx n) = input) (hinput : input < 12 ∧ input ≠ 1) (hact : s.getF (F.REC_ST.ACT_A.idx n) = 0) :
    (u.recPulse input i).settle.getF F.REC_STAT.SEQ = s.getF (F.REC_ST.NEXT_A.idx n) ∧ (u.recPulse input i).settle.recState = s.recState := by
  obtain ⟨honU, hreg⟩ := h
  have hn : n < 8 := hseq ▸ getF_lt s F.REC_STAT.SEQ
  have hA := seqField_word F.REC_ST.IN_A rfl hn
  have hC := seqField_word F.REC_ST.ACT_A rfl hn
  have hN := seqField_word F.REC_ST.NEXT_A rfl hn
  obtain ⟨hnext, hst⟩ := recPulse_takes i (honU.trans hon) ((hreg _ (by decide)).trans hseq) ((hreg _ hA).trans hin) hinput ((hreg _ hC).trans hact)
  exact ⟨hnext.trans (hreg _ hN), hst.trans (hreg F.REC_STAT.STATE (by decide))⟩

theorem State.RecordsAs.trans {s u v : State} (h : s.RecordsAs u) (k : u.RecordsAs v) : s.RecordsAs v :=
  ⟨k.1.trans h.1, fun f hf => (k.2 f hf).trans (h.2 f hf)⟩

theorem trigIo_recordsAs (s : State) (rising : Bool) (t : Nat) :
    s.RecordsAs ((s.at t).setF F.GIO_IN.TRIG_IO (if rising then 1 else 0)) := by
  refine ⟨State.at_on s t 5, fun f hf => ?_⟩
  have haddr : F.GIO_IN.TRIG_IO.addr = 0x1B100 := rfl
  rw [getF_setF_other _ _ _ _ (by omega), State.at_getF]

theorem raised_recordsAs (s : State) (x : ChainTrigger) : s.RecordsAs ((s.noteChainTrigger x).raiseEvt 26 3) := by
  obtain ⟨-, hnote, -⟩ := noteChainTrigger_notes s x
  refine ⟨(raiseEvt_logs _ 3).on.trans hnote, fun f hf => ?_⟩
  rw [State.raiseEvt_getF _ _ _ _ (by omega), noteChainTrigger_getF _ _ (by omega)]

/-- The state in which a chain trigger has been forwarded (R433). -/
def State.forwarded (s : State) (portB : Bool) (x : ChainTrigger) (linkDelay residence t : Nat) : State :=
  (s.at t).forwardTrigger (1 - portNo portB) x (linkDelay + residence)

theorem forwarded_getF (s : State) (portB : Bool) (x : ChainTrigger) (linkDelay residence t : Nat) (f : Field) :
    (s.forwarded portB x linkDelay residence t).getF f = s.getF f := (sendFrame_getF _ _ _ _ f).trans (State.at_getF s t f)

theorem sendFrame_beside (s : State) (p kind : Nat) (body : List Byte) : (s.sendFrame p kind body).now = s.now ∧
    (s.sendFrame p kind body).pwr = s.pwr := by
  unfold State.sendFrame
  split
  · exact ⟨rfl, rfl⟩
  · exact ⟨rfl, rfl⟩

theorem forwarded_beside (s : State) (portB : Bool) (x : ChainTrigger) (linkDelay residence t : Nat) :
    (s.forwarded portB x linkDelay residence t).rcd = s.rcd ∧ (s.forwarded portB x linkDelay residence t).now = max s.now t ∧
      (s.forwarded portB x linkDelay residence t).on 5 = s.on 5 := by
  obtain ⟨hnow, hpwr⟩ := sendFrame_beside (s.at t) (1 - portNo portB) 4
    (chainTriggerBytes x.timed x.origin x.seq x.tai (x.corr + (linkDelay + residence)))
  refine ⟨(sendFrame_rcd _ _ _ _).trans (State.at_rcd s t), hnow.trans (State.at_now s t), ?_⟩
  refine Eq.trans ?_ (State.at_on s t 5)
  show ((s.at t).sendFrame _ _ _).on 5 = _
  rw [State.on, hpwr, State.on]

section
variable {s : State} {portB : Bool} {x : ChainTrigger} (linkDelay residence t : Nat) (hactive : s.portActive (portNo portB) = true)
  (htype : x.type = 1) (horigin : x.origin ≠ s.unitMac)
include hactive htype horigin

/-- A chain trigger of another unit is forwarded; the recorder may take it as well. -/
theorem doChainTriggerAccept_eq : doChainTriggerAccept portB x linkDelay residence t s =
    (if !(s.forwarded portB x linkDelay residence t).on 5 || !(s.forwarded portB x linkDelay residence t).flag F.REC_CTL.RECV_EN ||
        (s.forwarded portB x linkDelay residence t).rcd.seen.any (fun e => e.1 = (x.origin, x.seq) &&
          decide ((s.forwarded portB x linkDelay residence t).now ≤ e.2 + 1000000000)) then
      s.forwarded portB x linkDelay residence t
    else (s.forwarded portB x linkDelay residence t).acceptTrigger x ((s.forwarded portB x linkDelay residence t).chainInstant x linkDelay)) := by
  unfold doChainTriggerAccept
  refine if_neg ?_
  rw [portActive_at, unitMac_at, hactive, htype]
  simpa using horigin

theorem doChainTriggerAccept_tells :
    (s.forwarded portB x linkDelay residence t).Tells (doChainTriggerAccept portB x linkDelay residence t s).settle := by
  rw [doChainTriggerAccept_eq linkDelay residence t hactive htype horigin]
  refine State.Tells.trans (.ite (.refl _) ?_) (settle_tells _)
  exact acceptTrigger_tells _ _ _

theorem doChainTriggerAccept_accepts (hon : s.on 5 = true) (hrecv : s.getF F.REC_CTL.RECV_EN = 1)
    (hseen : s.rcd.seen.any (fun e => e.1 = (x.origin, x.seq)) = false) : ∃ i,
    doChainTriggerAccept portB x linkDelay residence t s = (s.forwarded portB x linkDelay residence t).acceptTrigger x i := by
  refine ⟨_, (doChainTriggerAccept_eq linkDelay residence t hactive htype horigin).trans (if_neg ?_)⟩
  obtain ⟨hrcd, -, hon5⟩ := forwarded_beside s portB x linkDelay residence t
  have hflag : (s.forwarded portB x linkDelay residence t).flag F.REC_CTL.RECV_EN = true := by
    rw [State.flag, forwarded_getF, hrecv]
    rfl
  have hany : s.rcd.seen.any (fun e => e.1 = (x.origin, x.seq) &&
      decide ((s.forwarded portB x linkDelay residence t).now ≤ e.2 + 1000000000)) = false := by
    rw [List.any_eq_false] at hseen ⊢
    intro e he hc
    exact hseen e he (Bool.and_eq_true_iff.1 hc).1
  rw [hon5, hon, hflag, hrcd, hany]
  decide

/-- A chain trigger not seen before is noted and counted (R434). -/
theorem doChainTriggerAccept_counts (hon : s.on 5 = true) (hrecv : s.getF F.REC_CTL.RECV_EN = 1)
    (hseen : s.rcd.seen.any (fun e => e.1 = (x.origin, x.seq)) = false) :
    (doChainTriggerAccept portB x linkDelay residence t s).settle.rcd.seen.head? = some ((x.origin, x.seq), max s.now t) ∧
    fieldOf 0 16 ((doChainTriggerAccept portB x linkDelay residence t s).settle.getF F.REC_CHAIN.COUNT) =
      min 0xFFFF (fieldOf 0 16 (s.getF F.REC_CHAIN.COUNT) + 1) := by
  obtain ⟨i, hi⟩ := doChainTriggerAccept_accepts linkDelay residence t hactive htype horigin hon hrecv hseen
  obtain ⟨-, hnow, -⟩ := forwarded_beside s portB x linkDelay residence t
  have hcount := forwarded_getF s portB x linkDelay residence t F.REC_CHAIN.COUNT
  rw [hi]
  generalize s.forwarded portB x linkDelay residence t = v at *
  obtain ⟨hhead, -, hchain⟩ := noteChainTrigger_notes v x
  have hpulse (u : State) : u.RecorderKept (u.recPulse 5 i) := (recPulse_logs u 5 i).recorderKept (fun f _ => State.recPulse_getF u 5 i f)
  have hk := ((raiseEvt_recorderKept (v.noteChainTrigger x) 3).trans (hpulse _)).trans (settle_recorderKept _)
  refine ⟨?_, ?_⟩
  · rw [State.acceptTrigger, hk.seen, hhead, hnow]
  · rw [State.acceptTrigger, hk.chain, hchain, hcount]

/-- One that the sequencer's state waits for takes its transition (R432). -/
theorem doChainTriggerAccept_takes {n : Nat} (hon : s.on 5 = true) (hrecv : s.getF F.REC_CTL.RECV_EN = 1)
    (hseen : s.rcd.seen.any (fun e => e.1 = (x.origin, x.seq)) = false) (hseq : s.getF F.REC_STAT.SEQ = n)
    (hin : s.getF (F.REC_ST.IN_A.idx n) = 5) (hact : s.getF (F.REC_ST.ACT_A.idx n) = 0) :
    (doChainTriggerAccept portB x linkDelay residence t s).settle.getF F.REC_STAT.SEQ = s.getF (F.REC_ST.NEXT_A.idx n) ∧
    (doChainTriggerAccept portB x linkDelay residence t s).settle.recState = s.recState := by
  obtain ⟨i, hi⟩ := doChainTriggerAccept_accepts linkDelay residence t hactive htype horigin hon hrecv hseen
  obtain ⟨-, -, hon5⟩ := forwarded_beside s portB x linkDelay residence t
  have hfwd : s.RecordsAs (s.forwarded portB x linkDelay residence t) := ⟨hon5, fun f _ => forwarded_getF s portB x linkDelay residence t f⟩
  rw [hi]
  exact (hfwd.trans (raised_recordsAs _ x)).takes i hon hseq hin (by decide) hact

/-- It is forwarded with what this hop adds to CORR (R433). -/
theorem doChainTriggerAccept_sends (hother : s.portActive (1 - portNo portB) = true) :
    Out.frame (1 - portNo portB) 4 (s.etherFrame 4 (chainTriggerBytes x.timed x.origin x.seq x.tai (x.corr + (linkDelay + residence)))) ∈
      (doChainTriggerAccept portB x linkDelay residence t s).settle.tp.out := by
  refine (doChainTriggerAccept_tells linkDelay residence t hactive htype horigin).mem_out ?_
  unfold State.forwarded State.forwardTrigger
  generalize chainTriggerBytes x.timed x.origin x.seq x.tai (x.corr + (linkDelay + residence)) = body
  obtain ⟨hout, -, -⟩ := sendFrame_active 4 body ((portActive_at s t _).trans hother)
  rw [hout, etherFrame_at]
  exact List.mem_cons_self

end

/-! ## O55 -/

/-- Settles O55: each operation of the recorder by its own lemma, and what the end of the command leaves of it by `settle_recorderKept`; the
sequencer's transition by `settle_takes`, a pulse being tested once. -/
theorem eventRecorder : Obligations.EventRecorder := by
  unfold Obligations.EventRecorder
  refine ⟨?_, ?_, ?_, ?_, ?_, ?_, ?_, ?_, ?_, ?_⟩
  · intro s t e l hdue harmed
    obtain ⟨m, h⟩ := doRecorderEntry_drops t hdue harmed
    exact ⟨_, m, rfl, h⟩
  · intro s t e l hs hdue harmed hst hfits
    exact ⟨_, rfl, doRecorderEntry_writes t hs.2 hdue harmed hst hfits⟩
  · intro s t hon hst hpoint hpost
    refine ⟨_, rfl, ?_⟩
    rw [doPostComplete_done t hon hst hpoint hpost]
    exact recDone_done _
  · intro s t hon hst hne hfits hroom
    exact ⟨_, rfl, doReadoutComplete_done t hon hst hne hfits hroom⟩
  · intro s t hs hon h hact
    refine ⟨_, rfl, ?_⟩
    have hquiet : (doSequencerTransition t s).rcd.pulses = [] := by
      rw [doSequencerTransition_takes t hon h hact, State.setF_rcd, State.at_rcd]
      exact hs.2
    obtain ⟨hnext, hstate⟩ := setSeq_shows (s.at t) (F.REC_ST.NEXT_A.idx (s.getF F.REC_STAT.SEQ)) (nextA_width _)
    rw [settle_of_no_pulses hquiet, doSequencerTransition_takes t hon h hact]
    exact ⟨hnext.trans (State.at_getF ..), hstate.trans (at_recState s t)⟩
  · intro s timer t f hs hon hf hdue
    refine ⟨_, rfl, ?_⟩
    have hdo := doSequencerTimerExpiry_expires timer t hon hf hdue
    have hquiet : (doSequencerTimerExpiry timer t s).rcd.pulses = [] := by
      rw [hdo, State.mapRec_rcd, State.at_rcd]
      exact hs.2
    rw [settle_of_no_pulses hquiet, hdo, State.mapRec_rcd, State.at_rcd]
    exact ⟨by simp, tabFind_tabDel_self _ _⟩
  · intro s rising t n hs hon hdir hseq hin hact
    obtain ⟨i, hdo⟩ := doTrigIoEdge_pulses rising t hon hdir
    have hinput : (if rising then 2 else 3) < 12 ∧ (if rising then 2 else 3) ≠ 1 := by cases rising <;> decide
    obtain ⟨hnext, hst⟩ := (trigIo_recordsAs s rising t).takes i hon hseq hin hinput hact
    refine ⟨_, rfl, ?_, ?_, settle_pulses _⟩ <;> rw [hdo]
    · exact hnext
    · exact hst
  · intro s portB x linkDelay residence t hactive htype horigin hon hrecv hseen
    exact ⟨_, rfl, doChainTriggerAccept_counts linkDelay residence t hactive htype horigin hon hrecv hseen⟩
  · intro s portB x linkDelay residence t hactive hother htype horigin
    exact ⟨_, rfl, doChainTriggerAccept_sends linkDelay residence t hactive htype horigin hother⟩
  · intro s portB x linkDelay residence t n hs hactive htype horigin hon hrecv hseen hseq hin hact
    obtain ⟨hnext, hst⟩ := doChainTriggerAccept_takes linkDelay residence t hactive htype horigin hon hrecv hseen hseq hin hact
    exact ⟨_, rfl, hnext, hst, settle_pulses _⟩

end Sys2Proof.Machine
end

section
/-! PROOFS. Planned substitutions (R349, R353): what a worn part's report leaves, and taps, samplers, interpolators and tiles. -/

namespace Sys2Proof.Machine

/-! ## What a worn part's report leaves -/

/-- The report of a worn part: its indicator shows, and its event is raised. -/
def State.wearSeen (s : State) (part : WornPart) (t : Nat) : State := ((s.at t).noteWear part).raiseEvt 6 1

/-- What the plan of a part consults and the report leaves as it was. -/
structure State.SeenAs (s u : State) : Prop where
  pwr : u.pwr = s.pwr
  etd : u.etd = s.etd
  rxc : u.rxc = s.rxc
  emt : u.emt = s.emt
  rebuilds : u.mem.rebuild = s.mem.rebuild ∧ u.mem.second = s.mem.second
  reg : ∀ f : Field, f.addr ≠ 0x6010 → u.getF f = s.getF f

theorem State.SeenAs.trans {s u v : State} (h : s.SeenAs u) (k : u.SeenAs v) : s.SeenAs v where
  pwr := k.pwr.trans h.pwr
  etd := k.etd.trans h.etd
  rxc := k.rxc.trans h.rxc
  emt := k.emt.trans h.emt
  rebuilds := ⟨k.rebuilds.1.trans h.rebuilds.1, k.rebuilds.2.trans h.rebuilds.2⟩
  reg f hf := (k.reg f hf).trans (h.reg f hf)

theorem at_seenAs (s : State) (t : Nat) : s.SeenAs (s.at t) where
  pwr := State.at_pwr s t
  etd := at_part (π := .timing) s t
  rxc := at_part (π := .receivers) s t
  emt := at_part (π := .emitters) s t
  rebuilds := by rw [State.at_mem]; exact ⟨rfl, rfl⟩
  reg f _ := State.at_getF s t f

theorem noteWear_getF (s : State) (part : WornPart) (f : Field) : (s.noteWear part).getF f = s.getF f := by
  unfold State.noteWear
  split <;> rfl

theorem noteWear_now (s : State) (part : WornPart) : (s.noteWear part).now = s.now := by
  unfold State.noteWear
  split <;> rfl

theorem noteWear_seenAs (s : State) (part : WornPart) : s.SeenAs (s.noteWear part) := by
  have hreg := noteWear_getF s part
  unfold State.noteWear at *
  split
  case h_1 => exact ⟨rfl, rfl, rfl, rfl, ⟨rfl, rfl⟩, fun f _ => hreg f⟩
  case h_2 => exact ⟨rfl, rfl, rfl, rfl, ⟨rfl, rfl⟩, fun f _ => hreg f⟩
  case h_3 => exact ⟨rfl, rfl, rfl, rfl, ⟨rfl, rfl⟩, fun f _ => rfl⟩

theorem raiseEvt_seenAs (s : State) : s.SeenAs (s.raiseEvt 6 1) where
  pwr := State.raiseEvt_pwr s 6 1
  etd := State.raiseEvt_etd s 6 1
  rxc := State.raiseEvt_rxc s 6 1
  emt := State.raiseEvt_emt s 6 1
  rebuilds := by rw [State.raiseEvt_mem]; exact ⟨rfl, rfl⟩
  reg f hf := State.raiseEvt_getF s 6 1 f hf

theorem wearSeen_seenAs (s : State) (part : WornPart) (t : Nat) : s.SeenAs (s.wearSeen part t) :=
  ((at_seenAs s t).trans (noteWear_seenAs _ part)).trans (raiseEvt_seenAs _)

theorem wearSeen_now (s : State) (part : WornPart) (t : Nat) : (s.wearSeen part t).now = max s.now t := by
  rw [State.wearSeen, State.raiseEvt_now, noteWear_now, State.at_now]

/-- The event's word is not a selected one. -/
theorem inst_ne_event (f : Field) (i : Nat) (hf : f.addr % 0x1000000 ≠ 0x6010) : (f.inst i).addr ≠ 0x6010 := by
  have haddr : (f.inst i).addr = f.addr + (i + 1) * 0x1000000 := rfl
  exact fun he => hf (by omega)

namespace State.SeenAs

variable {s u : State} (h : s.SeenAs u)
include h

theorem on (d : Nat) : u.on d = s.on d := by rw [State.on, h.pwr, State.on]

theorem flag {f : Field} (hf : f.addr ≠ 0x6010) : u.flag f = s.flag f := by rw [State.flag, h.reg f hf, State.flag]

theorem bitF {f : Field} (hf : f.addr ≠ 0x6010) (i : Nat) : u.bitF f i = s.bitF f i := bitF_congr (h.reg f hf) i

theorem frameNo : u.frameNo = s.frameNo := h.reg F.SYS_FRAME.VALUE (by decide)

theorem tapLine (n : Nat) : u.tapLine n = s.tapLine n := tapLine_congr h.etd n

end State.SeenAs

/-! ## The plan of a part (R349) -/

/-- What is done about a worn part. -/
def State.substitute (s : State) : WornPart → State
  | .tap n pos => s.planTap n pos
  | .sampler g k => s.planSampler g k
  | .interpolator n => s.planInterpolator n
  | .tile e i _ _ => s.planTile e i
  | .dram c _ _ => s.planDram c
  | .lane p tx l _ _ =>
    if s.portActive (portNo p) && s.chainMode (portNo p) && s.laneSpareFree (portNo p) tx then (s.wakeDir (portNo p) tx).takeLane (portNo p) tx l
    else s.staysWorn 5
  | .phase r => s.planPhase r
  | .diode e => s.planDiode e

theorem trimF_addr (e off lsb width : Nat) : 0x600000 ≤ (trimF e off lsb width).addr := by
  have haddr : (trimF e off lsb width).addr = 0x600000 + e * 64 + off := rfl
  omega

theorem getI_seenAs {s u : State} (h : s.SeenAs u) {f : Field} (hf : f.addr ≠ 0x6010) : u.getI f = s.getI f := by
  rw [State.getI, h.reg f hf, State.getI]

/-- A part's indicator is read from state that the report leaves. -/
theorem wornNow_seenAs {s u : State} (h : s.SeenAs u) (part : WornPart) : u.wornNow part = s.wornNow part := by
  have htap : (F.RXC_SMP_TAPS.LEFT.addr % 0x1000000 ≠ 0x6010) ∧ F.ETD_TAPS.LEFT.addr % 0x1000000 ≠ 0x6010 := by decide
  cases part with
  | tap n pos => simp only [State.wornNow, h.tapLine, h.on]
  | sampler g k =>
    simp only [State.wornNow, h.on, h.reg _ (inst_ne_event F.RXC_SMP_TAPS.LEFT (samplerInst g k) htap.1), h.reg F.CAL_WEAR_TAP.LOW (by decide)]
  | interpolator n =>
    simp only [State.wornNow, h.on, h.reg _ (inst_ne_event F.ETD_TAPS.LEFT n htap.2), h.reg F.CAL_WEAR_TAP.LOW (by decide)]
  | tile e i hourly twice => simp only [State.wornNow, h.on, h.reg F.CAL_WEAR_MEM.SRAM (by decide)]
  | dram c least last => simp only [State.wornNow, h.on, h.reg F.CAL_WEAR_MEM.DRAM (by decide)]
  | lane p tx l margin ns =>
    simp only [State.wornNow, h.on, h.reg F.CAL_WEAR_LANE.EYE_MIN (by decide), h.reg F.CAL_WEAR_LANE.EYE_TIME (by decide)]
  | phase r => rfl
  | diode e =>
    have hcreep := trimF_addr e 24 0 16
    have hi : u.getI (trimCreep e) = s.getI (trimCreep e) := getI_seenAs h (by unfold trimCreep; omega)
    simp only [State.wornNow, h.on, h.reg F.CAL_CREEP.LIMIT (by decide), hi]

/-- A part that is worn, with WEAR_EN, takes its plan. -/
theorem doPlannedSubstitution_eq {s : State} {part : WornPart} (t : Nat) (hon : s.on 4 = true) (hen : s.getF F.CAL_CTL.WEAR_EN = 1)
    (hworn : s.wornNow part = true) : doPlannedSubstitution part t s = (s.wearSeen part t).substitute part := by
  have h := (at_seenAs s t).trans (noteWear_seenAs (s.at t) part)
  have hgate : (!((s.at t).noteWear part).on 4 || !((s.at t).noteWear part).flag F.CAL_CTL.WEAR_EN ||
      !((s.at t).noteWear part).wornNow part) = false := by
    rw [h.on, h.flag (by decide), wornNow_seenAs h, hon, hworn, State.flag, hen]
    rfl
  unfold doPlannedSubstitution
  refine (if_neg (by rw [hgate]; decide)).trans ?_
  cases part <;> rfl

/-! ## Without a spare the part stays in service (R353) -/

theorem staysWorn_part_of (s : State) (kind : Nat) : (s.staysWorn kind).etd = s.etd ∧ (s.staysWorn kind).rxc = s.rxc ∧
    (s.staysWorn kind).emt = s.emt ∧ (s.staysWorn kind).pwr = s.pwr ∧ (s.staysWorn kind).mem = s.mem := ⟨rfl, rfl, rfl, rfl, rfl⟩

theorem staysWorn_shows (s : State) (kind : Nat) : (s.staysWorn kind).settle.getF (F.CAL_POOL_STAT.WORN.inst kind) = 1 := by
  rw [settle_getF_inst, State.staysWorn]
  refine getF_setF_of_lt s _ ?_ ?_
  · rw [inst_lsb, inst_width]
    decide
  · rw [inst_width]
    decide

/-! ## Taps -/

section
variable {s : State} {n pos : Nat} (t : Nat)

/-- The plan of a tap, by what its line shows. -/
theorem planTap_eq {u : State} {l : TapLine} (hl : u.tapLine n = l) (hpos : pos < 128) (hsub : l.subst = none) :
    u.planTap n pos = if l.freeTaps.isEmpty then u.staysWorn 0 else u.setTapLine n { l with subst := some ([pos], u.frameNo) } := by
  unfold State.planTap
  rw [hl]
  refine if_neg ?_
  rw [hsub, decide_eq_false (Nat.not_le.2 hpos)]
  decide

theorem planTap_asks {u : State} {l : TapLine} (h : s.SeenAs u) (hl : s.tapLine n = l) (hpos : pos < 128) (hsub : l.subst = none)
    (hfree : l.freeTaps ≠ []) : ((u.planTap n pos).settle.tapLine n).subst = some ([pos], s.frameNo) := by
  rw [planTap_eq ((h.tapLine n).trans hl) hpos hsub, if_neg (by rw [List.isEmpty_iff]; exact hfree), tapLine_congr (State.settle_etd _),
    tapLine_setTapLine_self, h.frameNo]

theorem planTap_stays {u : State} {l : TapLine} (h : s.SeenAs u) (hl : s.tapLine n = l) (hpos : pos < 128) (hsub : l.subst = none)
    (hfree : l.freeTaps = []) : (u.planTap n pos).settle.etd = s.etd ∧ (u.planTap n pos).settle.getF (F.CAL_POOL_STAT.WORN.inst 0) = 1 := by
  rw [planTap_eq ((h.tapLine n).trans hl) hpos hsub, if_pos (by rw [hfree]; rfl), State.settle_etd]
  exact ⟨(staysWorn_part_of u 0).1.trans h.etd, staysWorn_shows u 0⟩

end

/-! ## Samplers -/

theorem idleSpare_seenAs {s u : State} (h : s.SeenAs u) (g : Nat) : u.idleSpare g = s.idleSpare g := by
  have hst (i : Nat) : u.spareRests g i = s.spareRests g i := by
    simp only [State.spareRests, State.spareByte, h.reg _ (inst_ne_event F.RXC_GRP_SPARE.SPARES g (by decide))]
  unfold State.idleSpare
  simp only [hst, h.rxc]

section
variable {s u : State} {g k c : Nat} (h : s.SeenAs u) (hfailed : s.samplerFailed g k = false)
  (hin : s.getF (F.RXC_SMP_STAT.IN_SERVICE.inst (samplerInst g k)) = 1)
  (hc : c = g * 64 + s.getF (F.RXC_SMP_STAT.CHANNEL.inst (samplerInst g k))) (hret : s.rxc.retiring.contains c = false)
  (hwait : s.rxc.waiting.any (fun w => w.ch = c) = false)
include h hfailed hin hc hret hwait

theorem planSampler_eq : u.planSampler g k = if (s.idleSpare g).isNone then u.staysWorn 1
    else { u with rxc := { u.rxc with retiring := u.rxc.retiring ++ [c] } } := by
  have hchan := h.reg _ (inst_ne_event F.RXC_SMP_STAT.CHANNEL (samplerInst g k) (by decide))
  have hserv : u.flag (F.RXC_SMP_STAT.IN_SERVICE.inst (samplerInst g k)) = true := by
    rw [h.flag (inst_ne_event _ _ (by decide)), State.flag, hin]
    rfl
  have hok : u.samplerFailed g k = false := by
    rw [State.samplerFailed, h.flag (inst_ne_event _ _ (by decide))]
    exact hfailed
  unfold State.planSampler
  dsimp only
  rw [hchan, ← hc, hok, h.rxc, hret, hwait, hserv, idleSpare_seenAs h]
  rfl

theorem planSampler_waits (hidle : (s.idleSpare g).isSome = true) : (u.planSampler g k).settle.rxc.retiring = s.rxc.retiring ++ [c] := by
  rw [planSampler_eq h hfailed hin hc hret hwait, if_neg (by rw [Option.isNone_eq_false_iff.2 hidle]; decide), State.settle_rxc]
  exact congrArg (fun r : RxState => r.retiring ++ [c]) h.rxc

theorem planSampler_stays (hidle : (s.idleSpare g).isSome = false) : (u.planSampler g k).settle.rxc = s.rxc ∧
    (u.planSampler g k).settle.getF (F.CAL_POOL_STAT.WORN.inst 1) = 1 := by
  rw [planSampler_eq h hfailed hin hc hret hwait, if_pos (by rw [Option.isNone_iff_eq_none, ← Option.not_isSome_iff_eq_none, hidle]; decide),
    State.settle_rxc]
  exact ⟨(staysWorn_part_of u 1).2.1.trans h.rxc, staysWorn_shows u 1⟩

end

/-! ## Interpolators -/

section
variable {s u : State} {n : Nat} (h : s.SeenAs u) (hn : n < 8) (hok : s.bitF F.ETD_FAIL.EST n = false)
  (hfree : tabFind n s.etd.subst = none) (hin : s.getF F.ETD_MAP.SPARE_IN = 0)
include h hn hok hfree hin

theorem planInterpolator_eq : u.planInterpolator n = if s.bitF F.ETD_FAIL.EST 8 || !s.etd.subst.isEmpty then u.staysWorn 2
    else { u with etd := { u.etd with subst := tabSet n u.frameNo u.etd.subst } } := by
  have hmap : u.flag F.ETD_MAP.SPARE_IN = false := by
    rw [h.flag (by decide), State.flag, hin]
    rfl
  have hserves : u.serves n = true := by
    rw [State.serves, if_neg (by omega), hmap]
    rfl
  unfold State.planInterpolator
  rw [h.bitF (by decide), hok, h.bitF (by decide), hserves, hmap, h.etd, hfree]
  refine (if_neg (by simp)).trans ((if_neg (by omega)).trans ?_)
  rw [Bool.false_or, ← h.etd]

theorem planInterpolator_asks (hspare : s.bitF F.ETD_FAIL.EST 8 = false) (hnone : s.etd.subst = []) :
    (u.planInterpolator n).settle.etd.subst = [(n, s.frameNo)] := by
  rw [planInterpolator_eq h hn hok hfree hin, if_neg (by rw [hspare, hnone]; decide), State.settle_etd]
  show tabSet n u.frameNo u.etd.subst = _
  rw [h.frameNo, h.etd, hnone]
  rfl

theorem planInterpolator_stays (hspare : s.bitF F.ETD_FAIL.EST 8 = true) : (u.planInterpolator n).settle.etd = s.etd ∧
    (u.planInterpolator n).settle.getF (F.CAL_POOL_STAT.WORN.inst 2) = 1 := by
  rw [planInterpolator_eq h hn hok hfree hin, if_pos (by rw [hspare]; rfl), State.settle_etd]
  exact ⟨(staysWorn_part_of u 2).1.trans h.etd, staysWorn_shows u 2⟩

end

/-! ## Tiles -/

theorem engine_addr {f : Field} (hf : engineWord f.addr) : f.addr ≠ 0x6010 := by omega

section
variable {s u : State} {e i p : Nat} (h : s.SeenAs u) (htile : s.tileOf e i = p) (hp : p < 9)
  (hdrain : s.bitF (F.GRN_ENG_TSTAT.DRAIN.inst e) p = false)
include h htile hp hdrain

theorem planTile_eq : u.planTile e i = if s.spareTile e then u.beginDrain e p else u.staysWorn 3 := by
  have hreg {f : Field} (hf : 0xE100 ≤ f.addr ∧ f.addr < 0xF000) := h.reg _ (engine_addr (engineWord_inst hf e))
  have htileU (j : Nat) : u.tileOf e j = s.tileOf e j := tileOf_congr (hreg (by decide)) j
  have hspare : u.spareTile e = s.spareTile e := by
    unfold State.spareTile
    simp only [htileU, bitF_congr (hreg (f := F.GRN_ENG_TSTAT.FAILED) (by decide))]
  unfold State.planTile
  dsimp only
  rw [htileU, htile, bitF_congr (hreg (f := F.GRN_ENG_TSTAT.DRAIN) (by decide)), hdrain, hspare]
  refine (if_neg ?_).trans ?_
  · rw [decide_eq_false (by omega)]
    decide
  · cases s.spareTile e <;> rfl

theorem planTile_drains (hspare : s.spareTile e = true) : (u.planTile e i).settle.bitF (F.GRN_ENG_TSTAT.DRAIN.inst e) p = true ∧
    (u.planTile e i).settle.tileOf e i = p := by
  rw [planTile_eq h htile hp hdrain, if_pos hspare]
  have hne := inst_addr_ne_inst (f := F.GRN_ENG_TMAP.MAP) (g := F.GRN_ENG_TSTAT.DRAIN) (by decide) (by decide) (by decide) e e
  have hend {f : Field} (hf : engineWord f.addr) : (u.beginDrain e p).settle.getF f = (u.setBit (F.GRN_ENG_TSTAT.DRAIN.inst e) p true).getF f :=
    (settle_getF_engine hf _).trans (raiseEvt_getF_engine hf _ 14 0 (by decide))
  have hmap := h.reg _ (engine_addr (engineWord_inst (f := F.GRN_ENG_TMAP.MAP) (by decide) e))
  refine ⟨?_, ?_⟩
  · rw [State.bitF_eq, hend (engineWord_inst (by decide) e)]
    exact testBit_getF_setBit u _ _ _ (by simp [Field.inst]) hp
  · rw [tileOf_congr (((hend (engineWord_inst (by decide) e)).trans (getF_setF_other u _ _ _ hne)).trans hmap), htile]

theorem planTile_stays (hspare : s.spareTile e = false) : (u.planTile e i).settle.bitF (F.GRN_ENG_TSTAT.DRAIN.inst e) p = false ∧
    (u.planTile e i).settle.getF (F.CAL_POOL_STAT.WORN.inst 3) = 1 := by
  rw [planTile_eq h htile hp hdrain, if_neg (by rw [hspare]; decide)]
  have hf := engineWord_inst (f := F.GRN_ENG_TSTAT.DRAIN) (by decide) e
  refine ⟨?_, staysWorn_shows u 3⟩
  rw [bitF_congr (((settle_getF_engine hf _).trans (staysWorn_getF_engine hf u 3)).trans (h.reg _ (engine_addr hf)))]
  exact hdrain

end

end Sys2Proof.Machine
end

section
/-! PROOFS. Planned substitutions (R349, R353): LP-DRAM channels, lanes, diodes and phases. -/

namespace Sys2Proof.Machine

/-! ## LP-DRAM channels -/

/-- A spare channel is spent, and `BLK_SPARE` says so. -/
def State.spendChannel (s : State) (c : Nat) : State :=
  let s := s.bump (H.SPARE_USED 22) 1
  (s.setF (H.SPARE_LEFT 22) (s.getF (H.SPARE_LEFT 22) - 1)).setBit (H.SPARE_MAP 22) c true

/-- What a planned copy marks before it begins. -/
def State.planChannel (s : State) (c : Nat) : State :=
  (((s.spendChannel c).setBit F.MEM_CHAN.FAILED c true).spareTaken 22).raiseEvt 22 1

theorem takeSpareChannel_planned (s : State) (c sp : Nat) :
    s.takeSpareChannel c sp true = (s.planChannel c).beginRebuild ⟨c, sp, true, (s.planChannel c).now⟩ := rfl

theorem spendChannel_getF (s : State) (c : Nat) {f : Field} (hf : blockWord f.addr) : (s.spendChannel c).getF f = s.getF f :=
  (setF_header_getF_block hf _ 22 0x24 16 16 _ (by decide)).trans
    ((setF_header_getF_block hf _ 22 0x24 8 8 _ (by decide)).trans (setF_header_getF_block hf _ 22 0x24 0 8 _ (by decide)))

theorem planChannel_active (s : State) (c : Nat) : (s.planChannel c).getF F.MEM_CHAN.ACTIVE = s.getF F.MEM_CHAN.ACTIVE := by
  rw [State.planChannel, raiseEvt_getF_block (by decide), spareTaken_getF_block (by decide),
    getF_setBit_beside _ F.MEM_CHAN.FAILED F.MEM_CHAN.ACTIVE c true (by decide) (by decide), spendChannel_getF _ _ (by decide)]

theorem planChannel_beside (s : State) (c : Nat) : (s.planChannel c).mem = s.mem ∧ (s.planChannel c).now = s.now := by
  have hspend : (s.spendChannel c).mem = s.mem := by
    unfold State.spendChannel
    extract_lets u
    rw [State.setBit_mem, State.setF_mem]
    exact State.setF_mem _ _ _
  have htaken (u : State) : (u.spareTaken 22).mem = u.mem := spareTaken_part (π := .memory) (by decide) u 22
  refine ⟨?_, ?_⟩
  · rw [State.planChannel, State.raiseEvt_mem, htaken, State.setBit_mem, hspend]
  · rw [State.planChannel, State.raiseEvt_now, spareTaken_now, State.setBit_now]
    unfold State.spendChannel
    extract_lets u
    rw [State.setBit_now, State.setF_now]
    exact State.setF_now _ _ _

theorem idleChannel_seenAs {s u : State} (h : s.SeenAs u) : u.idleChannel = s.idleChannel := by
  obtain ⟨hfirst, hsecond⟩ := h.rebuilds
  simp only [State.idleChannel, State.rebuilds, hfirst, hsecond, h.bitF (f := F.MEM_CHAN.ACTIVE) (by decide),
    h.bitF (f := F.MEM_CHAN.FAILED) (by decide)]

section
variable {s u : State} {c : Nat} (h : s.SeenAs u) (hactive : s.bitF F.MEM_CHAN.ACTIVE c = true) (hok : s.bitF F.MEM_CHAN.FAILED c = false)
  (hsecond : s.mem.second = none)
include h hactive hok hsecond

theorem planDram_eq : u.planDram c = match s.idleChannel with
    | some sp => u.takeSpareChannel c sp true
    | none => u.staysWorn 4 := by
  unfold State.planDram
  rw [idleChannel_seenAs h]
  refine if_neg ?_
  rw [h.bitF (by decide), h.bitF (by decide), hactive, hok, h.rebuilds.2, hsecond]
  decide

theorem planDram_copies {sp : Nat} (hnone : s.mem.rebuild = none) (hidle : s.idleChannel = some sp) :
    (u.planDram c).settle.mem.rebuild = some ⟨c, sp, true, u.now⟩ ∧ (u.planDram c).settle.bitF F.MEM_CHAN.ACTIVE c = true := by
  obtain ⟨hmem, hnow⟩ := planChannel_beside u c
  have hreb : (u.planChannel c).rebuilds = [] := by
    rw [State.rebuilds, hmem, h.rebuilds.1, h.rebuilds.2, hnone, hsecond]
    rfl
  rw [planDram_eq h hactive hok hsecond, hidle]
  show (u.takeSpareChannel c sp true).settle.mem.rebuild = _ ∧ (u.takeSpareChannel c sp true).settle.bitF F.MEM_CHAN.ACTIVE c = true
  rw [takeSpareChannel_planned, hnow, State.settle_mem, beginRebuild_mem, hreb]
  refine ⟨rfl, ?_⟩
  rw [bitF_congr ((settle_getF_block (by decide) _).trans ((beginRebuild_getF _ _ (by decide) (by decide)).trans (planChannel_active u c))),
    h.bitF (by decide), hactive]

theorem planDram_stays (hidle : s.idleChannel = none) : (u.planDram c).settle.mem.rebuild = s.mem.rebuild ∧
    (u.planDram c).settle.bitF F.MEM_CHAN.ACTIVE c = true ∧ (u.planDram c).settle.getF (F.CAL_POOL_STAT.WORN.inst 4) = 1 := by
  rw [planDram_eq h hactive hok hsecond, hidle]
  show (u.staysWorn 4).settle.mem.rebuild = _ ∧ (u.staysWorn 4).settle.bitF F.MEM_CHAN.ACTIVE c = true ∧
    (u.staysWorn 4).settle.getF (F.CAL_POOL_STAT.WORN.inst 4) = 1
  refine ⟨?_, ?_, staysWorn_shows u 4⟩
  · rw [State.settle_mem]
    exact h.rebuilds.1
  · have hreg : (u.staysWorn 4).settle.getF F.MEM_CHAN.ACTIVE = u.getF F.MEM_CHAN.ACTIVE :=
      (settle_getF_block (by decide) _).trans (setF_inst_getF_block (by decide) u F.CAL_POOL_STAT.WORN 4 1)
    rw [bitF_congr hreg, h.bitF (by decide), hactive]

end

/-! ## Lanes -/

theorem at_zero (s : State) : s.at 0 = s := if_neg (Nat.not_lt_zero _)

/-- The eye margin of a lane is not what says whether lane 4 is there. -/
theorem wearSeen_lane4 (s : State) (part : WornPart) (t p : Nat) : ((s.wearSeen part t).port p).lane4 = (s.port p).lane4 := by
  have hnote (u : State) : ((u.noteWear part).port p).lane4 = (u.port p).lane4 := by
    unfold State.noteWear
    split
    · rfl
    · rw [port_mapPort]
      split
      · next hq => rw [hq.1]
      · rfl
    · rfl
  rw [State.wearSeen, raiseEvt_port, hnote]
  exact at_port s t p (g := Port.lane4) (fun _ => rfl)

theorem nt_ne_event {p : Nat} {f : Field} (hp : p < 2) (hf : portWord f.addr) : (nt p f).addr ≠ 0x6010 := by
  have hblock : blockWord (nt p f).addr := nt_block hp hf
  omega

section
variable {s : State} {p t : Nat} {part : WornPart} (hp : p < 2)
include hp

theorem wearSeen_laneSpareFree (tx : Bool) : (s.wearSeen part t).laneSpareFree p tx = s.laneSpareFree p tx := by
  unfold State.laneSpareFree
  rw [wearSeen_lane4, (wearSeen_seenAs s part t).reg _ (nt_ne_event hp (by cases tx <;> decide))]

theorem wearSeen_portActive : (s.wearSeen part t).portActive p = s.portActive p := by
  have h := wearSeen_seenAs s part t
  exact portActive_congr (h.reg _ (nt_ne_event hp (f := F.NTA_STAT.STAGE) (by decide))) h.pwr

theorem wearSeen_chainMode : (s.wearSeen part t).chainMode p = s.chainMode p :=
  (wearSeen_seenAs s part t).flag (nt_ne_event hp (f := F.NTA_STAT.CHAIN) (by decide))

end

section
variable {s : State} {portB tx : Bool} {lane margin ns : Nat} (t : Nat)

theorem substitute_lane (hfree : s.laneSpareFree (portNo portB) tx = false) :
    (s.wearSeen (.lane portB tx lane margin ns) t).substitute (.lane portB tx lane margin ns) =
      (s.wearSeen (.lane portB tx lane margin ns) t).staysWorn 5 := by
  refine if_neg ?_
  rw [wearSeen_laneSpareFree (portNo_lt portB), hfree, Bool.and_false]
  decide

/-- A worn lane gives way to lane 4, as a lane that has failed does. -/
theorem substitute_lane_spare (hactive : s.portActive (portNo portB) = true) (hchain : s.chainMode (portNo portB) = true)
    (hfree : s.laneSpareFree (portNo portB) tx = true) (hlane : lane < 4) :
    ((s.wearSeen (.lane portB tx lane margin ns) t).substitute (.lane portB tx lane margin ns)).settle.getF
      (nt (portNo portB) (spareField tx)) = lane ∧
    ((s.wearSeen (.lane portB tx lane margin ns) t).substitute (.lane portB tx lane margin ns)).settle.portActive (portNo portB) = true := by
  have hp := portNo_lt portB
  have hactive' := (wearSeen_portActive (s := s) (t := t) (part := .lane portB tx lane margin ns) hp).trans hactive
  have hdo : (s.wearSeen (.lane portB tx lane margin ns) t).substitute (.lane portB tx lane margin ns) =
      ((s.wearSeen (.lane portB tx lane margin ns) t).wakeDir (portNo portB) tx).takeLane (portNo portB) tx lane := by
    refine if_pos ?_
    rw [hactive', wearSeen_chainMode hp, hchain, wearSeen_laneSpareFree hp, hfree]
    rfl
  obtain ⟨hspare, -, hup, -⟩ := laneReplaced tx ⟨lane, hlane⟩ 0 hp hactive'
  rw [at_zero] at hspare hup
  rw [hdo]
  exact ⟨hspare, hup⟩

end

theorem staysWorn_port_getF (s : State) (kind : Nat) {p : Nat} {f : Field} (hp : p < 2) (hf : portWord f.addr) :
    (s.staysWorn kind).settle.getF (nt p f) = s.getF (nt p f) :=
  (settle_getF_block (nt_block hp hf) _).trans (setF_inst_getF_block (nt_block hp hf) s F.CAL_POOL_STAT.WORN kind 1)

/-! ## Diodes -/

/-- Words that are neither selected nor the event's. -/
def State.PlainAs (s u : State) : Prop := ∀ f : Field, f.addr < 0x1000000 → f.addr ≠ 0x6010 → u.getF f = s.getF f

theorem State.SeenAs.plainAs {s u : State} (h : s.SeenAs u) : s.PlainAs u := fun f _ hf => h.reg f hf

theorem trim_plainAs {s u : State} (h : s.PlainAs u) {e : Nat} (off lsb width : Nat) (he : e < 256) (hoff : off < 64) :
    u.getF (trimF e off lsb width) = s.getF (trimF e off lsb width) := by
  have haddr : (trimF e off lsb width).addr = 0x600000 + e * 64 + off := rfl
  exact h _ (by omega) (by omega)

section
variable {s u : State} (h : s.PlainAs u) {l : Nat} (hl : l < 128)
include h hl

theorem compat_plainAs : u.compat (l / 32) = s.compat (l / 32) := by
  have haddr : (F.EMT_CHAIN_CTL.COMPAT.idx (l / 32)).addr = F.EMT_CHAIN_CTL.COMPAT.addr + 4 * (l / 32) := rfl
  have hbase : F.EMT_CHAIN_CTL.COMPAT.addr = 0xA100 := rfl
  rw [State.compat, State.flag, h _ (by omega) (by omega), State.compat, State.flag]

theorem reserveIn_plainAs : u.reserveIn l = s.reserveIn l := by
  have haddr : (F.EMT_RSV.SEL.idx (l / 32)).addr = F.EMT_RSV.SEL.addr + 4 * (l / 32) := rfl
  have hbase : F.EMT_RSV.SEL.addr = 0xA18C := rfl
  rw [State.reserveIn, bitF_congr (h _ (by omega) (by omega)), compat_plainAs h hl, State.reserveIn]

theorem reserveUsable_plainAs : u.reserveUsable l = s.reserveUsable l := by
  have htrim (off lsb width : Nat) (hoff : off < 64) := trim_plainAs h (e := 128 + l) off lsb width (by omega) hoff
  have hpresent : u.getF (trimPresent (128 + l)) = s.getF (trimPresent (128 + l)) := htrim 20 8 1 (by decide)
  have hretired : u.getF (trimRetired (128 + l)) = s.getF (trimRetired (128 + l)) := htrim 20 9 1 (by decide)
  simp only [State.reserveUsable, State.flag, State.ineligible, hpresent, hretired, htrim 20 0 4 (by decide), compat_plainAs h hl,
    h F.EMT_WL.ACCEPT (by decide) (by decide)]

end

theorem noteWorn_beside (s : State) (e : Nat) : (s.noteWorn e).emt = s.emt ∧ s.PlainAs (s.noteWorn e) := by
  unfold State.noteWorn
  split
  · refine ⟨State.raiseEvt_emt _ 6 1, fun f hf hne => ?_⟩
    exact (recordDue_getF _ f).trans ((State.raiseEvt_getF _ 6 1 f hne).trans (getF_setF_inst s F.CAL_LINE.WORN f e 1 hf))
  · exact ⟨rfl, fun _ _ _ => rfl⟩

/-- A diode whose CREEP is beyond LIMIT shows worn. -/
theorem noteWorn_shows {s : State} {e : Nat} (h : ((s.getF F.CAL_CREEP.LIMIT : Nat) : Int) < s.getI (trimCreep e)) :
    (s.noteWorn e).getF (F.CAL_LINE.WORN.inst e) = 1 := by
  unfold State.noteWorn
  have hw : (F.CAL_LINE.WORN.inst e).width = 1 := inst_width _ _
  split
  · rw [recordDue_getF, State.raiseEvt_getF _ _ _ _ (inst_ne_event _ _ (by decide))]
    refine getF_setF_of_lt s _ ?_ ?_
    · rw [inst_lsb, inst_width]
      decide
    · rw [hw]
      decide
  · next hn =>
    have hlt := getF_lt s (F.CAL_LINE.WORN.inst e)
    have hflag : s.flag (F.CAL_LINE.WORN.inst e) = true := by
      by_contra hf
      exact hn (by rw [decide_eq_true h, Bool.eq_false_iff.2 hf]; rfl)
    have hne := (flag_iff _ _).1 hflag
    rw [hw] at hlt
    omega

section
variable {s u : State} {e : Nat} (h : s.SeenAs u) (he : e < 128)
include h he

theorem planDiode_switches (hin : s.reserveIn e = false) (husable : s.reserveUsable e = true) (hnot : s.emt.switches.contains e = false)
    (hworn : s.wornNow (.diode e) = true) : (u.planDiode e).settle.emt.switches = e :: s.emt.switches ∧
      (u.planDiode e).settle.getF (F.CAL_LINE.WORN.inst e) = 1 := by
  obtain ⟨hemt, hplain⟩ := noteWorn_beside u e
  have hall : s.PlainAs (u.noteWorn e) := fun f hf hne => (hplain f hf hne).trans (h.plainAs f hf hne)
  have hcreep : ((u.getF F.CAL_CREEP.LIMIT : Nat) : Int) < u.getI (trimCreep e) := by
    have hu := (wornNow_seenAs h (.diode e)).trans hworn
    exact of_decide_eq_true (Bool.and_eq_true_iff.1 hu).2
  have hin' := (reserveIn_plainAs hall he).trans hin
  have husable' := (reserveUsable_plainAs hall he).trans husable
  have hswitches : (u.noteWorn e).emt.switches = s.emt.switches := by rw [hemt, h.emt]
  have hdo : u.planDiode e = { u.noteWorn e with emt := { (u.noteWorn e).emt with switches := e :: (u.noteWorn e).emt.switches } } := by
    unfold State.planDiode
    refine (if_pos ?_).trans (if_pos ?_)
    · rw [decide_eq_true he, hin', husable']
      rfl
    · rw [hin', husable', hswitches, hnot]
      rfl
  rw [settle_getF_inst, State.settle_emt, hdo]
  exact ⟨congrArg (e :: ·) hswitches, noteWorn_shows hcreep⟩

theorem planDiode_stays (hno : s.reserveIn e = true ∨ s.reserveUsable e = false) : (u.planDiode e).settle.emt = s.emt ∧
    (u.planDiode e).settle.getF (F.CAL_POOL_STAT.WORN.inst 8) = 1 := by
  obtain ⟨hemt, hplain⟩ := noteWorn_beside u e
  have hall : s.PlainAs (u.noteWorn e) := fun f hf hne => (hplain f hf hne).trans (h.plainAs f hf hne)
  have hdo : u.planDiode e = (u.noteWorn e).staysWorn 8 := by
    unfold State.planDiode
    refine if_neg ?_
    rw [reserveIn_plainAs hall he, reserveUsable_plainAs hall he]
    rcases hno with hno | hno <;> simp [hno]
  rw [hdo]
  exact ⟨(State.settle_emt _).trans (hemt.trans h.emt), staysWorn_shows _ 8⟩

end

/-! ## Phases -/

section
variable {s u : State} {r : Nat} (h : s.SeenAs u) (hr : r < 5) (hreq : s.pwr.spareReq.any (fun x => x.1 = r) = false)
include h hr hreq

theorem planPhase_eq : u.planPhase r = if s.flag (F.PWM_RAIL.SPARE_IN.inst r) then u.staysWorn 7
    else { u with pwr := { u.pwr with spareReq := u.pwr.spareReq ++ [(r, true)] } } := by
  unfold State.planPhase
  rw [h.pwr, hreq, h.flag (inst_ne_event _ _ (by decide)), ← h.pwr]
  refine if_neg ?_
  rw [decide_eq_false (by omega)]
  decide

theorem planPhase_asks (hin : s.getF (F.PWM_RAIL.SPARE_IN.inst r) = 0) : (u.planPhase r).settle.pwr.spareReq = s.pwr.spareReq ++ [(r, true)] := by
  rw [planPhase_eq h hr hreq, if_neg (by rw [State.flag, hin]; decide), State.settle_pwr]
  exact congrArg (fun p : PowerState => p.spareReq ++ [(r, true)]) h.pwr

theorem planPhase_stays (hin : s.getF (F.PWM_RAIL.SPARE_IN.inst r) = 1) : (u.planPhase r).settle.pwr = s.pwr ∧
    (u.planPhase r).settle.getF (F.CAL_POOL_STAT.WORN.inst 7) = 1 := by
  rw [planPhase_eq h hr hreq, if_pos (by rw [State.flag, hin]; decide), State.settle_pwr]
  exact ⟨h.pwr, staysWorn_shows u 7⟩

end

end Sys2Proof.Machine
end

section
/-! PROOFS. Range calibration, failed diodes and cores, the retirement record, fences and the watchdog, and O45. -/

namespace Sys2Proof.Machine

/-! ## Range calibration (R345, R346) -/

/-- The results of a run that ends: those of the channels, their number and the mean temperature. -/
def State.calResults (s : State) : State :=
  let s := (s.calSpan.foldl State.calChannel s).countValid
  let mean := if s.cal.tempN = 0 then signed 16 s.freeNat else roundDiv s.cal.tempSum s.cal.tempN
  (s.setI F.CAL_RCAL_TEMP.T mean).tick

theorem calDone_eq (s : State) : s.calDone = (s.calResults.calStop 2).bump F.CAL_TRACE.RUNS 1 := rfl

theorem calChannel_getF (s : State) (c : Nat) {f : Field} (hf : f.addr < 0x1000000) : (s.calChannel c).getF f = s.getF f := by
  unfold State.calChannel
  generalize (tabFind c s.cal.samples).getD (0, 0, 0) = x
  obtain ⟨n, sum, sq⟩ := x
  dsimp only
  rw [State.tick_getF, State.setB_eq, getF_setF_inst _ _ _ _ _ hf, getF_setF_inst _ _ _ _ _ hf, getF_setF_inst _ _ _ _ _ hf, State.setI,
    getF_setF_inst _ _ _ _ _ hf]

/-- The results stand in selected words, in STAT and in TEMP. -/
theorem calResults_getF (s : State) {f : Field} (hf : f.addr < 0x1000000) (hne : f.addr ≠ 0x6128 ∧ f.addr ≠ 0x6138) :
    s.calResults.getF f = s.getF f := by
  have hchannels : (s.calSpan.foldl State.calChannel s).getF f = s.getF f := foldl_getF (fun u c => calChannel_getF u c hf) _ s
  unfold State.calResults
  extract_lets u mean
  rw [State.tick_getF, State.setI, getF_setF_other _ _ _ _ hne.2]
  exact (getF_setF_other _ F.CAL_RCAL_STAT.VALID f _ hne.1).trans hchannels

/-- The registers of a run that is over. -/
theorem calStop_shows (s : State) {st : Nat} (hst : st < 8) : (s.calStop st).cal.began = none ∧ (s.calStop st).getF F.CAL_RCAL_STAT.STATE = st ∧
    (s.calStop st).getF F.CAL_RCAL_CTL.GO = 0 ∧ (s.calStop st).getF F.CAL_TRACE.RUNS = s.getF F.CAL_TRACE.RUNS := by
  unfold State.calStop
  extract_lets u
  have hu : u.cal.began = none ∧ u.getF F.CAL_TRACE.RUNS = s.getF F.CAL_TRACE.RUNS := ⟨rfl, rfl⟩
  obtain ⟨hbegan, hruns⟩ := hu
  clear_value u
  refine ⟨?_, ?_, ?_, ?_⟩
  · rw [State.raiseEvt_cal, State.setF_cal, State.setF_cal, hbegan]
  · rw [State.raiseEvt_getF _ _ _ _ (by decide)]
    exact getF_setF_of_lt _ F.CAL_RCAL_STAT.STATE (by decide) hst
  · rw [State.raiseEvt_getF _ _ _ _ (by decide), getF_setF_other _ _ _ _ (by decide)]
    exact getF_setF_self _ F.CAL_RCAL_CTL.GO 0 (by decide)
  · rw [State.raiseEvt_getF _ _ _ _ (by decide), getF_setF_other _ _ _ _ (by decide), getF_setF_other _ _ _ _ (by decide), hruns]

theorem calFull_at (s : State) (t : Nat) : (s.at t).calFull = s.calFull := by
  simp only [State.calFull, State.calSpan, State.at_getF, State.at_cal]

theorem doRangeCalibrationEnd_done {s : State} {b : Nat} (t : Nat) (hon : s.on 4 = true) (hb : s.cal.began = some b)
    (hend : s.calFull = true ∨ b + 60000000000 ≤ max s.now t) : doRangeCalibrationEnd t s = (s.at t).calDone := by
  have hgate : ((s.at t).on 4 && ((s.at t).calFull || decide (b + 60000000000 ≤ (s.at t).now))) = true := by
    rw [State.at_on, hon, calFull_at, State.at_now]
    rcases hend with h | h
    · rw [h]
      rfl
    · rw [decide_eq_true h, Bool.or_true]
      rfl
  unfold doRangeCalibrationEnd
  dsimp only
  rw [State.at_cal, hb]
  exact if_pos hgate

theorem calDone_shows (s : State) (t : Nat) : (s.at t).calDone.settle.cal.began = none ∧ (s.at t).calDone.settle.getF F.CAL_RCAL_STAT.STATE = 2 ∧
    (s.at t).calDone.settle.getF F.CAL_RCAL_CTL.GO = 0 ∧
    (s.at t).calDone.settle.getF F.CAL_TRACE.RUNS = min (s.getF F.CAL_TRACE.RUNS + 1) (2 ^ F.CAL_TRACE.RUNS.width - 1) := by
  obtain ⟨hbegan, hst, hgo, hruns⟩ := calStop_shows (s.at t).calResults (st := 2) (by decide)
  rw [calResults_getF _ (by decide) (by decide), State.at_getF] at hruns
  rw [calDone_eq, State.settle_cal, State.bump_eq]
  generalize (s.at t).calResults.calStop 2 = v at *
  refine ⟨?_, ?_, ?_, ?_⟩
  · rw [State.setF_cal, hbegan]
  · rw [State.settle_getF _ _ (by decide), getF_setF_other _ _ _ _ (by decide), hst]
  · rw [State.settle_getF _ _ (by decide), getF_setF_other _ _ _ _ (by decide), hgo]
  · rw [State.settle_getF _ _ (by decide), getF_setF_min _ _ _ (by decide), hruns]

/-! ## Diodes (R351) -/

/-- Emitter `e` shows failed and retired. -/
def State.markDiode (s : State) (e : Nat) : State := (s.setF (F.CAL_LINE.FAILED.inst e) 1).setF (trimRetired e) 1

/-- Of line `l` neither misses nor a life are counted any more. -/
def State.dropLine (s : State) (l : Nat) : State :=
  { s with etd := { s.etd with misses := tabDel l s.etd.misses, alive := s.etd.alive.filter (· ≠ l) } }

theorem dropLine_shows (s : State) (l : Nat) : (s.dropLine l).etd.misses = tabDel l s.etd.misses ∧ (s.dropLine l).cal = s.cal ∧
    ∀ f, (s.dropLine l).getF f = s.getF f := ⟨rfl, rfl, fun _ => rfl⟩

/-- The diode of line `l`, of emitter `e`, is retired. -/
def State.retireDiode (s : State) (l e : Nat) : State := (s.markDiode e).recordDue.dropLine l

theorem failed_addr_ne_retired {e : Nat} (he : e < 256) : (F.CAL_LINE.FAILED.inst e).addr ≠ (trimRetired e).addr := by
  have haddr : (trimRetired e).addr = 0x600000 + e * 64 + 20 := rfl
  refine inst_addr_ne F.CAL_LINE.FAILED (trimRetired e) e ?_
  omega

/-- A flag set reads as 1. -/
theorem getF_setF_flag (s : State) {f : Field} (hlsb : f.lsb < 32) (hwidth : f.width = 1) : (s.setF f 1).getF f = 1 := by
  rw [getF_setF_self s f 1 (by omega), hwidth]
  rfl

theorem markDiode_shows (s : State) {e : Nat} (he : e < 256) : (s.markDiode e).getF (F.CAL_LINE.FAILED.inst e) = 1 ∧
    (s.markDiode e).getF (trimRetired e) = 1 := by
  have hlsb : (F.CAL_LINE.FAILED.inst e).lsb = 1 := inst_lsb _ _
  have hlsb' : (trimRetired e).lsb = 9 := rfl
  refine ⟨(getF_setF_other _ _ _ 1 (failed_addr_ne_retired he)).trans (getF_setF_flag s ?_ (inst_width _ _)), getF_setF_flag _ ?_ rfl⟩
  · rw [hlsb]
    decide
  · rw [hlsb']
    decide

theorem retireDiode_shows (s : State) (l e : Nat) (he : e < 256) : (s.retireDiode l e).getF (F.CAL_LINE.FAILED.inst e) = 1 ∧
    (s.retireDiode l e).getF (trimRetired e) = 1 ∧ (s.retireDiode l e).cal.recDue = true ∧ tabFind l (s.retireDiode l e).etd.misses = none := by
  obtain ⟨hfailed, hretired⟩ := markDiode_shows s he
  obtain ⟨hmisses, hcal, hreg⟩ := dropLine_shows (s.markDiode e).recordDue l
  unfold State.retireDiode
  refine ⟨?_, ?_, ?_, ?_⟩
  · rw [hreg, recordDue_getF, hfailed]
  · rw [hreg, recordDue_getF, hretired]
  · rw [hcal]
    rfl
  · rw [hmisses]
    exact tabFind_tabDel_self _ _

theorem switchDiode_beside (s : State) (l : Nat) : (s.switchDiode l).cal = s.cal ∧ (s.switchDiode l).etd = s.etd ∧
    ∀ f, (s.switchDiode l).getF f = s.getF f := by
  unfold State.switchDiode
  split
  · exact ⟨rfl, rfl, fun _ => rfl⟩
  · exact ⟨rfl, rfl, fun _ => rfl⟩

theorem countReserves_beside (s : State) : s.countReserves.cal = s.cal ∧ s.countReserves.etd = s.etd ∧
    ∀ f : Field, f.addr ≠ 0xA024 → s.countReserves.getF f = s.getF f := by
  refine ⟨countReserves_part (π := .calibration) s, countReserves_part (π := .timing) s, fun f hf => ?_⟩
  unfold State.countReserves
  extract_lets accept used left
  exact (getF_setF_other _ (H.SPARE_LEFT 10) f left hf).trans (getF_setF_other s (H.SPARE_USED 10) f used hf)

theorem at_etd (s : State) (t : Nat) : (s.at t).etd = s.etd := at_part (π := .timing) s t

theorem doDiodeFailure_retires {s : State} {line : Fin 128} (t : Nat) (hon : s.on 8 = true) (hmiss : 64 ≤ countAt line.val s.etd.misses)
    (hest : s.bankEst (line.val / 16) = false) (halive : s.etd.alive.contains line.val = true)
    (hok : s.getF (F.CAL_LINE.FAILED.inst (s.emitterOf line.val)) = 0) :
    doDiodeFailure line t s = (((s.at t).retireDiode line.val (s.emitterOf line.val)).switchDiode line.val).countReserves := by
  have hgate : ((s.at t).on 8 && decide (64 ≤ countAt line.val (s.at t).etd.misses) && !(s.at t).bankEst (line.val / 16) &&
      (s.at t).etd.alive.contains line.val && !(s.at t).flag (F.CAL_LINE.FAILED.inst ((s.at t).emitterOf line.val))) = true := by
    rw [State.at_on, hon, at_etd, decide_eq_true hmiss, bankEst_at, hest, halive, emitterOf_at, State.flag, State.at_getF, hok]
    rfl
  unfold doDiodeFailure
  refine (if_pos hgate).trans ?_
  rw [emitterOf_at]
  rfl

theorem doDiodeFailure_shows {s : State} {line : Fin 128} (t : Nat) (hdo : doDiodeFailure line t s =
      (((s.at t).retireDiode line.val (s.emitterOf line.val)).switchDiode line.val).countReserves) :
    (doDiodeFailure line t s).settle.getF (F.CAL_LINE.FAILED.inst (s.emitterOf line.val)) = 1 ∧
    (doDiodeFailure line t s).settle.getF (trimRetired (s.emitterOf line.val)) = 1 ∧ (doDiodeFailure line t s).settle.cal.recDue = true ∧
    tabFind line.val (doDiodeFailure line t s).settle.etd.misses = none := by
  have he : s.emitterOf line.val < 256 := by
    have hl := line.isLt
    unfold State.emitterOf
    split <;> omega
  rw [hdo]
  generalize s.emitterOf line.val = e at *
  obtain ⟨hfailed, hretired, hdue, hmisses⟩ := retireDiode_shows (s.at t) line.val e he
  generalize (s.at t).retireDiode line.val e = v at *
  obtain ⟨hcal, hetd, hreg⟩ := switchDiode_beside v line.val
  obtain ⟨hcal', hetd', hreg'⟩ := countReserves_beside (v.switchDiode line.val)
  have haddr : (trimRetired e).addr = 0x600000 + e * 64 + 20 := rfl
  refine ⟨?_, ?_, ?_, ?_⟩
  · rw [settle_getF_inst, hreg' _ (inst_addr_ne F.CAL_LINE.FAILED (H.SPARE_LEFT 10) e (by decide)), hreg, hfailed]
  · rw [State.settle_getF _ _ (by omega), hreg' _ (by omega), hreg, hretired]
  · rw [State.settle_cal, hcal', hcal, hdue]
  · rw [State.settle_etd, hetd', hetd, hmisses]

/-! ## Cores (R352) -/

theorem haltCore_bits (s : State) {c : Nat} (n : Nat) (hc : c < 5) :
    (s.haltCore c).bitF F.CPU_CORES.FAILED n = (if n = c then true else s.bitF F.CPU_CORES.FAILED n) ∧
      (s.haltCore c).bitF F.CPU_CORES.ACTIVE n = (if n = c then false else s.bitF F.CPU_CORES.ACTIVE n) := by
  refine ⟨?_, ?_⟩
  · exact (bitF_congr (getF_setBit_beside _ F.CPU_CORES.ACTIVE F.CPU_CORES.FAILED c false (by decide) (by decide)) n).trans
      (bitF_setBit s F.CPU_CORES.FAILED c n true (by decide) hc)
  · refine (bitF_setBit _ F.CPU_CORES.ACTIVE c n false (by decide) hc).trans ?_
    rw [bitF_congr (getF_setBit_beside s F.CPU_CORES.FAILED F.CPU_CORES.ACTIVE c true (by decide) (by decide)) n]

/-- A core in service was none of the spare ones. -/
theorem haltCore_spareCore (s : State) {c : Nat} (hc : c < 5) (hactive : s.bitF F.CPU_CORES.ACTIVE c = true) :
    (s.haltCore c).spareCore = s.spareCore := by
  unfold State.spareCore
  congr 1
  funext n
  obtain ⟨hfailed, hact⟩ := haltCore_bits s n hc
  rw [hfailed, hact]
  by_cases hn : n = c
  · rw [if_pos hn, if_pos hn, hn, hactive]
    rfl
  · rw [if_neg hn, if_neg hn]

theorem poolTrigger_recDue (s : State) (page cause : Nat) : (s.poolTrigger page cause).cal.recDue = true := by
  have hstand (u : State) : (u.standTrigger page cause).cal.recDue = true :=
    congrArg CalState.recDue (noteArisen_part (π := .calibration) (u.stand page cause).recordDue cause)
  exact hstand _

theorem takeRole_cores (s : State) {n : Nat} (hn : n < 5) (k : Nat) :
    (s.takeRole n).bitF F.CPU_CORES.FAILED k = s.bitF F.CPU_CORES.FAILED k ∧
      (s.takeRole n).bitF F.CPU_CORES.ACTIVE k = (if k = n then true else s.bitF F.CPU_CORES.ACTIVE k) := by
  unfold State.takeRole
  have hreg (f : Field) : ({ s.tick with rst := { s.rst with roleAt := s.now + s.freeNat % 50000001 } } : State).getF f = s.getF f := rfl
  generalize ({ s.tick with rst := { s.rst with roleAt := s.now + s.freeNat % 50000001 } } : State) = u at *
  have hend (f : Field) (hf : blockWord f.addr) : ((((u.setBit F.CPU_CORES.ACTIVE n true).raiseEvt 7 1).spareTaken 7).poolTrigger 7 0x40).getF f =
      (u.setBit F.CPU_CORES.ACTIVE n true).getF f := by
    rw [poolTrigger_getF_block hf, spareTaken_getF_block hf, raiseEvt_getF_block hf]
  refine ⟨?_, ?_⟩
  · exact bitF_congr ((hend _ (by decide)).trans ((getF_setBit_beside u F.CPU_CORES.ACTIVE F.CPU_CORES.FAILED n true (by decide) (by decide)).trans
      (hreg _))) k
  · refine (bitF_congr (hend _ (by decide)) k).trans ((bitF_setBit u F.CPU_CORES.ACTIVE n k true (by decide) hn).trans ?_)
    rw [bitF_congr (hreg _)]

theorem failCore_replaced {s : State} {c n : Nat} (hc : c < 5) (hon : s.on 4 = true) (hok : s.bitF F.CPU_CORES.FAILED c = false)
    (hactive : s.bitF F.CPU_CORES.ACTIVE c = true) (hspare : s.spareCore = some n) : s.failCore c = (s.haltCore c).takeRole n := by
  rw [failCore_eq, if_neg (by rw [hon, hok]; decide), hactive, haltCore_spareCore s hc hactive, hspare]

theorem spareCore_at (s : State) (t : Nat) : (s.at t).spareCore = s.spareCore := by
  simp only [State.spareCore, bitF_at]

theorem doCoreFailure_replaces {s : State} (core : Fin 5) (t : Nat) {n : Nat} (hon : s.on 4 = true) (hok : s.bitF F.CPU_CORES.FAILED core = false)
    (hactive : s.bitF F.CPU_CORES.ACTIVE core = true) (hspare : s.spareCore = some n) :
    (doCoreFailure core t s).settle.bitF F.CPU_CORES.FAILED core = true ∧ (doCoreFailure core t s).settle.bitF F.CPU_CORES.ACTIVE core = false ∧
    (doCoreFailure core t s).settle.bitF F.CPU_CORES.ACTIVE n = true ∧ (doCoreFailure core t s).settle.cal.recDue = true ∧
    (doCoreFailure core t s).settle.dev = s.dev := by
  have hdo : doCoreFailure core t s = ((s.at t).haltCore core.val).takeRole n :=
    failCore_replaced core.isLt ((State.at_on s t 4).trans hon) ((bitF_at ..).trans hok) ((bitF_at ..).trans hactive) ((spareCore_at s t).trans hspare)
  have hdev : (doCoreFailure core t s).dev = s.dev := (failCore_dev _ _).trans (State.at_dev s t)
  have hn : n < 5 := List.mem_range.1 (List.mem_of_find?_eq_some hspare)
  have hne : ¬ core.val = n := by
    intro he
    have hp := List.find?_some hspare
    rw [← he, hactive] at hp
    exact absurd hp (by simp)
  obtain ⟨hfailed, hact⟩ := haltCore_bits (s.at t) core.val core.isLt
  have hreg (k : Nat) : (doCoreFailure core t s).settle.bitF F.CPU_CORES.FAILED k = (doCoreFailure core t s).bitF F.CPU_CORES.FAILED k ∧
      (doCoreFailure core t s).settle.bitF F.CPU_CORES.ACTIVE k = (doCoreFailure core t s).bitF F.CPU_CORES.ACTIVE k :=
    ⟨bitF_congr (settle_getF_block (by decide) _) k, bitF_congr (settle_getF_block (by decide) _) k⟩
  refine ⟨?_, ?_, ?_, ?_, ?_⟩
  · rw [(hreg _).1, hdo, (takeRole_cores _ hn _).1, hfailed, if_pos rfl]
  · rw [(hreg _).2, hdo, (takeRole_cores _ hn _).2, if_neg hne, hact, if_pos rfl]
  · rw [(hreg _).2, hdo, (takeRole_cores _ hn _).2, if_pos rfl]
  · rw [State.settle_cal, hdo]
    exact poolTrigger_recDue _ 7 0x40
  · rw [State.settle_dev, hdev]

/-! ## The retirement record (R354) -/

theorem recordNow_at (s : State) (t : Nat) : (s.at t).recordNow = s.recordNow := by
  obtain ⟨x, y, h⟩ := at_eq s t
  rw [h]
  rfl

theorem doRetirementRecordWrite_writes {s : State} (t : Nat) (hon : s.on 4 = true) (hdue : s.cal.recDue = true) :
    (doRetirementRecordWrite t s).settle.cal.recDue = false ∧ (doRetirementRecordWrite t s).settle.cal.record = s.recordNow ∧
    (doRetirementRecordWrite t s).settle.getF F.CAL_REC.COPY_A = 1 ∧ (doRetirementRecordWrite t s).settle.getF F.CAL_REC.COPY_B = 1 ∧
    (doRetirementRecordWrite t s).settle.getF F.CAL_REC.WRITES = min (s.getF F.CAL_REC.WRITES + 1) (2 ^ F.CAL_REC.WRITES.width - 1) := by
  have hdo : doRetirementRecordWrite t s =
      ((((s.at t).mapCal (fun x => { x with record := (s.at t).recordNow, recDue := false })).bump F.CAL_REC.WRITES 1).setF F.CAL_REC.COPY_A 1).setF
        F.CAL_REC.COPY_B 1 := by
    unfold doRetirementRecordWrite
    refine if_pos ?_
    rw [State.at_on, hon, State.at_cal, hdue]
    rfl
  have hcal : ((s.at t).mapCal (fun x => { x with record := (s.at t).recordNow, recDue := false })).cal.recDue = false ∧
      ((s.at t).mapCal (fun x => { x with record := (s.at t).recordNow, recDue := false })).cal.record = s.recordNow :=
    ⟨rfl, recordNow_at s t⟩
  have hwrites : ((s.at t).mapCal (fun x => { x with record := (s.at t).recordNow, recDue := false })).getF F.CAL_REC.WRITES =
      s.getF F.CAL_REC.WRITES := State.at_getF s t _
  rw [hdo, State.settle_cal, State.setF_cal, State.setF_cal, State.bump_eq, State.setF_cal]
  generalize (s.at t).mapCal (fun x => { x with record := (s.at t).recordNow, recDue := false }) = v at *
  refine ⟨hcal.1, hcal.2, ?_, ?_, ?_⟩
  · rw [State.settle_getF _ _ (by decide), getF_setF_beside _ _ _ _ (by decide) (by decide), getF_setF_self _ _ _ (by decide)]
    decide
  · rw [State.settle_getF _ _ (by decide), getF_setF_self _ _ _ (by decide)]
    decide
  · rw [State.settle_getF _ _ (by decide), getF_setF_beside _ _ _ _ (by decide) (by decide), getF_setF_beside _ _ _ _ (by decide) (by decide),
      getF_setF_min _ _ _ (by decide), hwrites]

/-! ## Fences and the watchdog (R72, R79) -/

/-- The address and the core of the first write that a fence blocked. -/
def State.firstBlocked (s : State) (core addr : Nat) : State :=
  if s.getF F.CPU_FENCE.VIOL = 0 then (s.setF F.CPU_FENCE_ADDR.ADDR addr).setF F.CPU_FENCE_ADDR.CORE core else s

/-- A blocked write shows its fence and is counted. -/
def State.noteFence (s : State) (fence core addr : Nat) : State :=
  ((s.firstBlocked core addr).setBit F.CPU_FENCE.VIOL fence true).bump F.CPU_FENCE_CNT.COUNT 1

theorem doFenceViolation_eq {s : State} (fence : Fin 7) (core : Fin 5) (addr t : Nat) (hon : s.on 4 = true) : doFenceViolation fence core addr t s =
    ((((s.at t).noteFence fence core addr).recErr 7 0x80 addr).raiseEvt 7 0).enterSafe 0x29 [] := by
  unfold doFenceViolation
  exact if_neg (by rw [State.at_on, hon]; decide)

theorem firstBlocked_beside (s : State) (core addr : Nat) : (s.firstBlocked core addr).sameCycle = s.sameCycle ∧
    ∀ f : Field, f.addr ≠ 0x710C → (s.firstBlocked core addr).getF f = s.getF f := by
  unfold State.firstBlocked
  split
  · exact ⟨(setF_sameCycle _ _ _).trans (setF_sameCycle _ _ _), fun f hf =>
      (getF_setF_other _ F.CPU_FENCE_ADDR.CORE f _ hf).trans (getF_setF_other s F.CPU_FENCE_ADDR.ADDR f _ hf)⟩
  · exact ⟨rfl, fun _ _ => rfl⟩

theorem firstBlocked_shows (s : State) {core : Nat} (addr : Nat) (hcore : core < 5) :
    (s.firstBlocked core addr).getF F.CPU_FENCE_ADDR.CORE = (if s.getF F.CPU_FENCE.VIOL = 0 then core else s.getF F.CPU_FENCE_ADDR.CORE) ∧
    (s.firstBlocked core addr).getF F.CPU_FENCE_ADDR.ADDR =
      (if s.getF F.CPU_FENCE.VIOL = 0 then addr % 2 ^ F.CPU_FENCE_ADDR.ADDR.width else s.getF F.CPU_FENCE_ADDR.ADDR) := by
  unfold State.firstBlocked
  split
  · refine ⟨getF_setF_of_lt _ F.CPU_FENCE_ADDR.CORE (by decide) (show core < 8 by omega), ?_⟩
    rw [getF_setF_beside _ _ _ _ (by decide) (by decide), getF_setF_self _ _ _ (by decide)]
  · exact ⟨rfl, rfl⟩

theorem noteFence_beside (s : State) (fence core addr : Nat) : (s.noteFence fence core addr).sameCycle = s.sameCycle ∧
    (∀ f : Field, f.addr ≠ 0x7108 → f.addr ≠ 0x7110 → (s.noteFence fence core addr).getF f = (s.firstBlocked core addr).getF f) := by
  obtain ⟨hcycle, -⟩ := firstBlocked_beside s core addr
  unfold State.noteFence
  rw [State.bump_eq, setF_sameCycle, setBit_sameCycle]
  exact ⟨hcycle, fun f h1 h2 => (getF_setF_other _ F.CPU_FENCE_CNT.COUNT f _ h2).trans (getF_setF_other _ F.CPU_FENCE.VIOL f _ h1)⟩

theorem noteFence_shows (s : State) {fence : Nat} (core addr : Nat) (hfence : fence < 7) :
    (s.noteFence fence core addr).bitF F.CPU_FENCE.VIOL fence = true ∧ (s.noteFence fence core addr).getF F.CPU_FENCE_CNT.COUNT =
      min (s.getF F.CPU_FENCE_CNT.COUNT + 1) (2 ^ F.CPU_FENCE_CNT.COUNT.width - 1) := by
  obtain ⟨-, hreg⟩ := firstBlocked_beside s core addr
  unfold State.noteFence
  rw [State.bump_eq]
  refine ⟨?_, ?_⟩
  · rw [bitF_congr (getF_setF_other _ F.CPU_FENCE_CNT.COUNT F.CPU_FENCE.VIOL _ (by decide)), State.bitF_eq]
    exact testBit_getF_setBit _ F.CPU_FENCE.VIOL fence true (by decide) hfence
  · rw [getF_setF_min _ _ _ (by decide), getF_setBit_beside _ F.CPU_FENCE.VIOL F.CPU_FENCE_CNT.COUNT fence true (by decide) (by decide),
      hreg _ (by decide)]

theorem recErr_sameCycle (s : State) (p code addr : Nat) : (s.recErr p code addr).sameCycle = s.sameCycle := by
  unfold State.recErr
  split
  · rfl
  · split
    · rw [raiseEvt_sameCycle, State.bump_eq, setF_sameCycle]
    · rw [raiseEvt_sameCycle, setF_sameCycle, setF_sameCycle, setF_sameCycle]

/-- The state in which a blocked write leads to `SAFE`. -/
theorem fenceRaised_beside (s : State) (fence core addr t : Nat) :
    ((((s.at t).noteFence fence core addr).recErr 7 0x80 addr).raiseEvt 7 0).dev = s.dev ∧
      ((((s.at t).noteFence fence core addr).recErr 7 0x80 addr).raiseEvt 7 0).sameCycle = (s.at t).sameCycle := by
  obtain ⟨hcycle, hreg⟩ := noteFence_beside (s.at t) fence core addr
  obtain ⟨-, hfirst⟩ := firstBlocked_beside (s.at t) core addr
  refine ⟨congrArg DevState.ofCode ?_, ?_⟩
  · rw [State.raiseEvt_getF _ _ _ _ (by decide), State.recErr_getF _ _ _ _ _ (by decide), hreg _ (by decide) (by decide), hfirst _ (by decide),
      State.at_getF]
  · rw [raiseEvt_sameCycle, recErr_sameCycle, hcycle]

theorem doFenceViolation_inner {s : State} (fence : Fin 7) (core : Fin 5) (addr t : Nat) (hon : s.on 4 = true) {f : Field} (hf : innerWord f.addr) :
    (doFenceViolation fence core addr t s).settle.getF f = ((s.at t).noteFence fence core addr).getF f := by
  rw [State.settle_getF _ _ (by simp only [innerWord] at hf; omega), doFenceViolation_eq fence core addr t hon, enterSafe_inner hf, raiseEvt_inner hf,
    recErr_inner hf]

theorem doFenceViolation_blocks {s : State} (fence : Fin 7) (core : Fin 5) (addr t : Nat)
    (hdev : s.dev = .boot ∨ s.dev = .standby ∨ s.dev = .spinup ∨ s.dev = .run ∨ s.dev = .degraded)
    (hcycle : s.dev = .boot → (s.at t).sameCycle = false) (hon : s.on 4 = true) :
    let u := (doFenceViolation fence core addr t s).settle
    u.bitF F.CPU_FENCE.VIOL fence = true ∧
      u.getF F.CPU_FENCE_CNT.COUNT = min (s.getF F.CPU_FENCE_CNT.COUNT + 1) (2 ^ F.CPU_FENCE_CNT.COUNT.width - 1) ∧
      u.getF F.CPU_FENCE_ADDR.CORE = (if s.getF F.CPU_FENCE.VIOL = 0 then core.val else s.getF F.CPU_FENCE_ADDR.CORE) ∧
      u.getF F.CPU_FENCE_ADDR.ADDR = (if s.getF F.CPU_FENCE.VIOL = 0 then addr % 2 ^ F.CPU_FENCE_ADDR.ADDR.width else
        s.getF F.CPU_FENCE_ADDR.ADDR) ∧ u.dev = .safe ∧ u.getF F.SYS_STATE.CAUSE = 0x29 ∧ u.dark = true := by
  intro u
  have hinner {f : Field} (hf : innerWord f.addr) : u.getF f = ((s.at t).noteFence fence core addr).getF f :=
    doFenceViolation_inner fence core addr t hon hf
  obtain ⟨hviol, hcount⟩ := noteFence_shows (s.at t) core.val addr fence.isLt
  obtain ⟨-, hreg⟩ := noteFence_beside (s.at t) fence.val core.val addr
  obtain ⟨hcore, haddr⟩ := firstBlocked_shows (s.at t) addr core.isLt
  rw [State.at_getF, State.at_getF] at hcore haddr
  rw [State.at_getF] at hcount
  obtain ⟨hdevR, hcycleR⟩ := fenceRaised_beside s fence core addr t
  refine ⟨(bitF_congr (hinner (by decide)) _).trans hviol, (hinner (by decide)).trans hcount, ?_, ?_, ?_⟩
  · rw [hinner (by decide), hreg _ (by decide) (by decide), hcore]
  · rw [hinner (by decide), hreg _ (by decide) (by decide), haddr]
  · show (doFenceViolation fence core addr t s).settle.dev = .safe ∧ (doFenceViolation fence core addr t s).settle.getF F.SYS_STATE.CAUSE = 0x29 ∧
      (doFenceViolation fence core addr t s).settle.dark = true
    rw [doFenceViolation_eq fence core addr t hon]
    exact enterSafe_settled _ [] (by decide) (by rw [hdevR]; exact hdev) (by rw [hdevR, hcycleR]; exact hcycle)

theorem raiseEvt_dev (s : State) (p bit : Nat) : (s.raiseEvt p bit).dev = s.dev :=
  congrArg DevState.ofCode (State.raiseEvt_getF s p bit F.SYS_STATE.STATE (by
    show 0x110 ≠ p * 0x1000 + 0x10
    omega))

theorem doWatchdogWarning_warns {s : State} (t : Nat) (hon : s.on 4 = true) : (doWatchdogWarning t s).settle.bitF (H.ISR 7) 2 = true ∧
    (doWatchdogWarning t s).settle.dev = s.dev := by
  have hon' : (s.at t).on 4 = true := (State.at_on s t 4).trans hon
  have hdo : doWatchdogWarning t s = (s.at t).raiseEvt 7 2 := if_pos hon'
  rw [hdo, State.settle_dev, raiseEvt_dev, State.at_dev, State.bitF_eq, State.settle_getF _ _ (by decide)]
  exact ⟨raiseEvt_bit _ 7 2 hon' (by decide), rfl⟩

/-! ## O45 -/

/-- Settles O45: each part's plan by its own lemma, over what the report of its wear leaves (`wearSeen_seenAs`). -/
theorem spareCapacity : Obligations.SpareCapacity := by
  unfold Obligations.SpareCapacity
  have hplan {s : State} {part : WornPart} (t : Nat) (hon : s.on 4 = true) (hen : s.getF F.CAL_CTL.WEAR_EN = 1) (hworn : s.wornNow part = true) :
      exec (.plannedSubstitution part t) s = .next ((s.wearSeen part t).substitute part).settle := by
    rw [← doPlannedSubstitution_eq t hon hen hworn]
    rfl
  refine ⟨?_, ?_, ?_, ?_, ?_, ?_, ?_, ?_, ?_, ?_, ?_, ?_, ?_, ?_, ?_, ?_, ?_, ?_, ?_, ?_, ?_, ?_⟩
  · intro s t f hon hb hend
    refine ⟨_, rfl, ?_⟩
    rw [doRangeCalibrationEnd_done t hon hb hend]
    exact calDone_shows s t
  · intro s line t hon hmiss hest halive hok
    exact ⟨_, rfl, doDiodeFailure_shows t (doDiodeFailure_retires t hon hmiss hest halive hok)⟩
  · intro s core t n hon hok hactive hspare
    exact ⟨_, rfl, doCoreFailure_replaces core t hon hok hactive hspare⟩
  · intro s n pos t l hon hen hworn hl hpos hsub hfree
    exact ⟨_, hplan t hon hen hworn, planTap_asks (wearSeen_seenAs s _ t) hl hpos hsub hfree⟩
  · intro s n pos t l hon hen hworn hl hpos hsub hfree
    exact ⟨_, hplan t hon hen hworn, planTap_stays (wearSeen_seenAs s _ t) hl hpos hsub hfree⟩
  · intro s g k c t hon hen hworn hfailed hin hc hret hwait hidle
    exact ⟨_, hplan t hon hen hworn, planSampler_waits (wearSeen_seenAs s _ t) hfailed hin hc hret hwait hidle⟩
  · intro s g k c t hon hen hworn hfailed hin hc hret hwait hidle
    exact ⟨_, hplan t hon hen hworn, planSampler_stays (wearSeen_seenAs s _ t) hfailed hin hc hret hwait hidle⟩
  · intro s n t hon hen hworn hn hok hspare hin hnone
    exact ⟨_, hplan t hon hen hworn, planInterpolator_asks (wearSeen_seenAs s _ t) hn hok (by rw [hnone]; rfl) hin hspare hnone⟩
  · intro s n t hon hen hworn hn hok hfree hspare hin
    exact ⟨_, hplan t hon hen hworn, planInterpolator_stays (wearSeen_seenAs s _ t) hn hok hfree hin hspare⟩
  · intro s e i hourly p t twice hon hen hworn htile hp hdrain hspare
    exact ⟨_, hplan t hon hen hworn, planTile_drains (wearSeen_seenAs s _ t) htile hp hdrain hspare⟩
  · intro s e i hourly p t twice hon hen hworn htile hp hdrain hspare
    exact ⟨_, hplan t hon hen hworn, planTile_stays (wearSeen_seenAs s _ t) htile hp hdrain hspare⟩
  · intro s c least last sp t hon hen hworn hactive hok hnone hsecond hidle
    have hnow := wearSeen_now s (.dram c least last) t
    have h := planDram_copies (wearSeen_seenAs s (.dram c least last) t) hactive hok hsecond hnone hidle
    rw [hnow] at h
    exact ⟨_, hplan t hon hen hworn, h⟩
  · intro s c least last t hon hen hworn hactive hok hsecond hidle
    exact ⟨_, hplan t hon hen hworn, planDram_stays (wearSeen_seenAs s _ t) hactive hok hsecond hidle⟩
  · intro s portB tx lane margin ns t hon hen hlen hworn hactive hchain hfree
    have hlane : lane < 4 := by
      simp only [State.wornNow, Bool.and_eq_true, decide_eq_true_eq] at hworn
      exact hworn.1.1.1
    exact ⟨_, hplan t hon hen hworn, substitute_lane_spare t hactive hchain hfree hlane⟩
  · intro s portB tx lane margin ns t hon hen hlen hworn hfree
    refine ⟨_, hplan t hon hen hworn, ?_⟩
    have hp := portNo_lt portB
    have hword : portWord (spareField tx).addr := by cases tx <;> decide
    rw [substitute_lane t hfree]
    exact ⟨(staysWorn_port_getF _ 5 hp hword).trans ((wearSeen_seenAs s _ t).reg _ (nt_ne_event hp hword)), staysWorn_shows _ 5⟩
  · intro s e t hon hen hworn he hin husable hnot
    exact ⟨_, hplan t hon hen hworn, planDiode_switches (wearSeen_seenAs s _ t) he hin husable hnot hworn⟩
  · intro s e t hon hen hworn he hno
    exact ⟨_, hplan t hon hen hworn, planDiode_stays (wearSeen_seenAs s _ t) he hno⟩
  · intro s r t hon hen hr hreq hin
    exact ⟨_, hplan t hon hen (decide_eq_true hr), planPhase_asks (wearSeen_seenAs s _ t) hr hreq hin⟩
  · intro s r t hon hen hr hreq hin
    exact ⟨_, hplan t hon hen (decide_eq_true hr), planPhase_stays (wearSeen_seenAs s _ t) hr hreq hin⟩
  · intro s t hon hdue
    exact ⟨_, rfl, doRetirementRecordWrite_writes t hon hdue⟩
  · intro s fence core addr t hdev hcycle hon
    exact ⟨_, rfl, doFenceViolation_blocks fence core addr t hdev hcycle hon⟩
  · intro s t hon
    exact ⟨_, rfl, doWatchdogWarning_warns t hon⟩

end Sys2Proof.Machine
end
